-- ==== Sys2Proof/Word.lean ====
section
/-! DEFINITION. The word of a register (R492: every register is 64 bits wide) and the byte of memory. -/
namespace Sys2Proof

/-- A register's contents, or eight bytes of memory taken little-endian. -/
abbrev Word := BitVec 64

/-- One byte of memory. -/
abbrev Byte := BitVec 8

end Sys2Proof
end

