-- ==== Sys2Proof/Syntax.lean ====
section
/-! DEFINITION. The commands the block takes: one constructor per row of spec/opcode_table.json, with the operands
the spec gives that operation or event. -/
namespace Sys2Proof

/-- A cabinet number, 0-255 (chapter 01). -/
abbrev CabId := Fin 256
/-- A host function, 0-255; function 0 is the platform's (R12). -/
abbrev Func := Fin 256
/-- A context number local to its cabinet (R54). -/
abbrev CtxId := Fin 16384
/-- A drawer's local index (R60). -/
abbrev DrawerId := Fin 8192
/-- A latch number (R100). -/
abbrev LatchId := Fin 16384
/-- A tile port (R9). -/
abbrev TileId := Fin 256
/-- A sequence number of a drawer (R62). -/
abbrev Seq := Fin 281474976710656
/-- A 20-bit PASID (R54). -/
abbrev Pasid := Fin 1048576
/-- A status code of R369. -/
abbrev StatusCode := Fin 16
/-- A stack gate (R9). -/
abbrev GateId := Fin 12
/-- A fabric port gate (R9). -/
abbrev PortId := Fin 48
/-- A movement engine: 0-63 read, 64-127 write (R9). -/
abbrev EngineId := Fin 128
/-- A movement channel (R216). -/
abbrev ChanId := Fin 1024
/-- The masters of a stack gate (R294): the cabinets; PLATFORM, split by what R323 lets its requests reach; OBSERVE. -/
inductive Master where
  | cab (n : Nat)
  | platform     -- the platform function, through BAR4 or DBG_MEM
  | ring         -- fault-ring records and notify writes (R372)
  | working      -- the block's other requests charged to PLATFORM
  | observe
deriving DecidableEq, Repr

/-- What a memory controller's response, or the gate's check of the line, finds (R323, R335, R481). -/
inductive MemErr where
  | none
  | dataUe               -- the data line has an uncorrectable error
  | metaUe               -- its metadata line has one
  | tagBad               -- the computed tag differs from the stored one
  | nodeUe (level : Nat) -- a counter node of this level reports an error
  | nodeTag (level : Nat) -- a counter node of this level fails its tag
deriving DecidableEq, Repr

/-- A unit ID (R9). -/
abbrev UnitId := Fin 4096

/-- A packet of the Moatis fabric (R344): its header fields and its payload, unmixed (log 21). -/
structure Packet where
  ty      : Nat              -- TYPE (R345)
  v2      : Bool := false    -- carried with a Moatis 2 header
  g       : Bool := false    -- G: guaranteed class
  keysel  : Bool := false
  phase   : Nat := 1
  hops    : Nat := 0
  dst     : Nat := 0
  src     : Nat := 0
  inter   : Nat := 0xFFFF
  job     : Nat := 0
  srcCab  : Nat := 0
  status  : Nat := 0
  arg0    : Nat := 0
  pctr    : Nat := 0
  epoch   : Nat := 0
  arg1    : Nat := 0
  payload : List Byte := []
deriving DecidableEq, Repr

/-- The fuse words the spec names (R402, R433). They are one-time programmable and outlive every reset. -/
structure Fuses where
  lc       : Nat := 0                                -- the ten LC bits
  pid      : Nat := 0
  integId  : Nat := 0
  imageKey : List Byte := List.replicate 48 0        -- digest of the image key
  minSvn   : Nat := 0
  bordom   : List Byte := List.replicate 48 0        -- BORDOM_DIGEST
  userBase : Nat := 0
  userSize : Nat := 0
  tapMfr   : Nat := 0
deriving DecidableEq, Repr

/-- Who answers a quiesce request (R415): a block unit, or participant `i` of the quiesce port. -/
inductive Answerer where
  | unit (u : UnitId)
  | port (i : Fin 64)
deriving DecidableEq, Repr

/-- One constructor per row of the table of operations and events. -/
inductive Instr where
  | cabNop (func : Func) (cab : CabId)  -- CAB_NOP, R24
  | cabBuild (func : Func) (cab : CabId)  -- CAB_BUILD, R29
  | cabActivate (func : Func) (cab : CabId)  -- CAB_ACTIVATE, R29
  | cabApply (func : Func) (cab : CabId)  -- CAB_APPLY, R29
  | cabDestroy (func : Func) (cab : CabId)  -- CAB_DESTROY, R41
  | activateComplete (cab : CabId)  -- ACTIVATE_COMPLETE, R31
  | applyComplete (cab : CabId)  -- APPLY_COMPLETE, R29
  | cabinetTeardownComplete (cab : CabId)  -- CABINET_TEARDOWN_COMPLETE, R29
  | reportWindowClose  -- REPORT_WINDOW_CLOSE, R44
  | floorIntervalEnd (refused : List Nat)  -- FLOOR_INTERVAL_END, R296
  | ctxNop (func : Func) (cab : CabId)  -- CTX_NOP, R54
  | ctxAlloc (func : Func) (cab : CabId)  -- CTX_ALLOC, R55
  | ctxFree (func : Func) (cab : CabId) (ctx : CtxId)  -- CTX_FREE, R55
  | contextTeardownComplete (cab : CabId) (ctx : CtxId)  -- CONTEXT_TEARDOWN_COMPLETE, R378
  | mobjNop (func : Func) (cab : CabId)  -- MOBJ_NOP, R56
  | mobjCreate (func : Func) (cab : CabId)  -- MOBJ_CREATE, R57
  | mobjAlias (func : Func) (cab : CabId)  -- MOBJ_ALIAS, R57
  | mobjRelease (func : Func) (cab : CabId)  -- MOBJ_RELEASE, R57
  | drwNop (func : Func) (cab : CabId)  -- DRW_NOP, R60
  | drwCreate (func : Func) (cab : CabId)  -- DRW_CREATE, R61
  | drwStop (func : Func) (cab : CabId) (drawer : DrawerId)  -- DRW_STOP, R63
  | drwStart (func : Func) (cab : CabId) (drawer : DrawerId)  -- DRW_START, R63
  | drwDestroy (func : Func) (cab : CabId) (drawer : DrawerId)  -- DRW_DESTROY, R63
  | qryContext (func : Func) (cab : CabId) (ctx : CtxId)  -- QRY_CONTEXT, R86
  | qryCabinet (func : Func) (cab : CabId)  -- QRY_CABINET, R86
  | doorbellWrite (func : Func) (off : Fin 16777216) (len : Nat) (pasid : Option Pasid) (value : Word)  -- DOORBELL_WRITE, R69
  | descriptorFetch (cab : CabId) (drawer : DrawerId)  -- DESCRIPTOR_FETCH, R64
  | descriptorIssue (cab : CabId) (drawer : DrawerId) (seq : Seq)  -- DESCRIPTOR_ISSUE, R65
  | descriptorComplete (cab : CabId) (drawer : DrawerId) (seq : Seq)  -- DESCRIPTOR_COMPLETE, R81
  | kernelDesc (cab : CabId) (drawer : DrawerId) (seq : Seq)  -- KERNEL, R182
  | layerStep (cab : CabId) (drawer : DrawerId) (seq : Seq)  -- LAYER_STEP, R182
  | requestDesc (cab : CabId) (drawer : DrawerId) (seq : Seq)  -- REQUEST, R161
  | moveDesc (cab : CabId) (drawer : DrawerId) (seq : Seq)  -- MOVE, R223
  | prefetchDesc (cab : CabId) (drawer : DrawerId) (seq : Seq)  -- PREFETCH, R149
  | adviseWillneed (cab : CabId) (drawer : DrawerId) (seq : Seq)  -- ADVISE_WILLNEED, R151
  | adviseDontneed (cab : CabId) (drawer : DrawerId) (seq : Seq)  -- ADVISE_DONTNEED, R151
  | adviseSettle (cab : CabId) (drawer : DrawerId) (seq : Seq)  -- ADVISE_SETTLE, R151
  | adviseInvalidate (cab : CabId) (drawer : DrawerId) (seq : Seq)  -- ADVISE_INVALIDATE, R151
  | dispatchRoute (cab : CabId) (drawer : DrawerId) (seq : Seq)  -- DISPATCH_ROUTE, R249
  | dispatchReturn (cab : CabId) (drawer : DrawerId) (seq : Seq)  -- DISPATCH_RETURN, R258
  | dispatchLand (cab : CabId) (drawer : DrawerId) (seq : Seq)  -- DISPATCH_LAND, R244
  | dispatchUnland (cab : CabId) (drawer : DrawerId) (seq : Seq)  -- DISPATCH_UNLAND, R246
  | combineDesc (cab : CabId) (drawer : DrawerId) (seq : Seq)  -- COMBINE, R259
  | tableLoadLoad (cab : CabId) (drawer : DrawerId) (seq : Seq)  -- TABLE_LOAD_LOAD, R278
  | tableLoadReplace (cab : CabId) (drawer : DrawerId) (seq : Seq)  -- TABLE_LOAD_REPLACE, R278
  | tableLoadFree (cab : CabId) (drawer : DrawerId) (seq : Seq)  -- TABLE_LOAD_FREE, R280
  | signalLocal (cab : CabId) (drawer : DrawerId) (seq : Seq)  -- SIGNAL_LOCAL, R97
  | signalRemote (cab : CabId) (drawer : DrawerId) (seq : Seq)  -- SIGNAL_REMOTE, R97
  | waitDesc (cab : CabId) (drawer : DrawerId) (seq : Seq)  -- WAIT, R99
  | queryContext (cab : CabId) (drawer : DrawerId) (seq : Seq)  -- QUERY_CONTEXT, R84
  | queryCabinet (cab : CabId) (drawer : DrawerId) (seq : Seq)  -- QUERY_CABINET, R84
  | swapIn (cab : CabId) (drawer : DrawerId) (seq : Seq)  -- SWAP_IN, R201
  | swapOut (cab : CabId) (drawer : DrawerId) (seq : Seq)  -- SWAP_OUT, R202
  | channelCreate (cab : CabId) (drawer : DrawerId) (seq : Seq)  -- CHANNEL_CREATE, R218
  | channelDestroy (cab : CabId) (drawer : DrawerId) (seq : Seq)  -- CHANNEL_DESTROY, R219
  | latNop (func : Func) (cab : CabId)  -- LAT_NOP, R110
  | latArm (func : Func) (cab : CabId)  -- LAT_ARM, R110
  | latRearm (func : Func) (cab : CabId) (latch : LatchId)  -- LAT_REARM, R110
  | latDisarm (func : Func) (cab : CabId) (latch : LatchId)  -- LAT_DISARM, R104
  | latEval (func : Func) (cab : CabId) (latch : LatchId)  -- LAT_EVAL, R110
  | latchEvaluate (latch : LatchId)  -- LATCH_EVALUATE, R101
  | hostFencePoll (latch : LatchId)  -- HOST_FENCE_POLL, R103
  | starvedWaitPoll (cab : CabId)  -- STARVED_WAIT_POLL, R108
  | waitTimeout (cab : CabId) (drawer : DrawerId) (seq : Seq)  -- WAIT_TIMEOUT, R99
  | remoteSignalTimeout (cab : CabId) (drawer : DrawerId) (seq : Seq)  -- REMOTE_SIGNAL_TIMEOUT, R97
  | walkStart (req : Nat)  -- WALK_START, R123
  | walkComplete (cab : CabId) (ctx : CtxId) (page : Nat)  -- WALK_COMPLETE, R124
  | faultRecordWrite (cab : CabId)  -- FAULT_RECORD_WRITE, R130
  | faultRetry (cab : CabId) (record : Nat)  -- FAULT_RETRY, R131
  | faultFail (cab : CabId) (record : Nat)  -- FAULT_FAIL, R131
  | faultTimeout (req : Nat)  -- FAULT_TIMEOUT, R132
  | tuFqEnable (func : Func) (cab : CabId) (value : Word)  -- TU_FQ_ENABLE, R154
  | tuFqDisable (func : Func) (cab : CabId) (value : Word)  -- TU_FQ_DISABLE, R132
  | atsCompletion (req : Nat) (present r w : Bool) (addr size : Nat)  -- ATS_COMPLETION, R125
  | prgResponse (group : Nat) (code : Fin 16)  -- PRG_RESPONSE, R127
  | atsInvalidate (func : Func) (itag : Fin 32) (pasid : Option Pasid) (addr len : Nat)  -- ATS_INVALIDATE, R126
  | withdrawalComplete (id : Nat)  -- WITHDRAWAL_COMPLETE, R147
  | commitByRemap (cab : CabId) (cmd : Nat)  -- COMMIT_BY_REMAP, R139
  | shadowStallResume (req : Nat)  -- SHADOW_STALL_RESUME, R142
  | shadowWaitExpiry (cab : CabId)  -- SHADOW_WAIT_EXPIRY, R142
  | settleGranule (cab : CabId) (home : Nat)  -- SETTLE_GRANULE, R143
  | sbEnable (func : Func) (cab : CabId) (value : Word)  -- SB_ENABLE, R179
  | sbDisable (func : Func) (cab : CabId) (value : Word)  -- SB_DISABLE, R165
  | admissionPass (cab : CabId) (drawer : DrawerId) (seq : Seq)  -- ADMISSION_PASS, R162
  | stepBoundary (cab : CabId)  -- STEP_BOUNDARY, R166
  | batchTablesWritten (cab : CabId)  -- BATCH_TABLES_WRITTEN, R165
  | layerCommit (cab : CabId) (cmd : Nat)  -- LAYER_COMMIT, R172
  | placement (cab : CabId)  -- PLACEMENT, R190
  | bypassLimitExpiry (cab : CabId)  -- BYPASS_LIMIT_EXPIRY, R188
  | killAck (tile : TileId)  -- KILL_ACK, R193
  | killAckLate (tile : TileId)  -- KILL_ACK_LATE, R193
  | autoSwapIn (cab : CabId) (ctx : CtxId)  -- AUTO_SWAP_IN, R205
  | swapLoadComplete (cab : CabId) (ctx : CtxId)  -- SWAP_LOAD_COMPLETE, R204
  | swapSaveComplete (cab : CabId) (ctx : CtxId) (data : List Byte)  -- SWAP_SAVE_COMPLETE, R204
  | stallEviction (cab : CabId)  -- STALL_EVICTION, R206
  | tileDone (tile : TileId) (status : Fin 256)  -- TILE_DONE, R479
  | tileProgress (tile : TileId)  -- TILE_PROGRESS, R479
  | tileFatal (tile : TileId)  -- TILE_FATAL, R370
  | tileClearAck (tile : TileId)  -- TILE_CLEAR_ACK, R478
  | tileReadRequest (tile : TileId) (va len : Nat) (tag : Fin 1024) (remote : Option (Fin 65536))  -- TILE_READ_REQUEST, R478
  | tileWriteRequest (tile : TileId) (va : Nat) (mask : List Bool) (data : List Byte) (tag : Fin 1024) (remote : Option (Fin 65536))  -- TILE_WRITE_REQUEST, R135
  | moveStart (cab : CabId) (drawer : DrawerId) (seq : Seq)  -- MOVE_START, R221
  | segmentRead (engine : EngineId) (chan : ChanId)  -- SEGMENT_READ, R212
  | segmentWrite (engine : EngineId) (chan : ChanId) (seg : Nat)  -- SEGMENT_WRITE, R212
  | moveComplete (chan : ChanId)  -- MOVE_COMPLETE, R224
  | prefetchComplete (chan : ChanId)  -- PREFETCH_COMPLETE, R149
  | chPause (func : Func) (chan : ChanId) (value : Word)  -- CH_PAUSE, R228
  | chUnpause (func : Func) (chan : ChanId) (value : Word)  -- CH_UNPAUSE, R220
  | channelDrained (chan : ChanId)  -- CHANNEL_DRAINED, R228
  | chStart (func : Func) (chan : ChanId) (value : Word)  -- CH_START, R229
  | directTransferEnd (chan : ChanId)  -- DIRECT_TRANSFER_END, R229
  | channelFree (chan : ChanId)  -- CHANNEL_FREE, R220
  | setPacket (port : Option PortId) (pkt : Packet)  -- SET, R253
  | sealPacket (port : Option PortId) (pkt : Packet)  -- SEAL, R254
  | commitPacket (port : Option PortId) (pkt : Packet)  -- COMMIT, R253
  | landingCommit (cab : CabId) (id : Nat)  -- LANDING_COMMIT, R245
  | discardPacket (port : Option PortId) (pkt : Packet)  -- DISCARD, R256
  | setrspStaged (port : Option PortId) (pkt : Packet)  -- SETRSP_STAGED, R253
  | setrspCommitted (port : Option PortId) (pkt : Packet)  -- SETRSP_COMMITTED, R253
  | setrspRefused (port : Option PortId) (pkt : Packet)  -- SETRSP_REFUSED, R254
  | setrspDiscarded (port : Option PortId) (pkt : Packet)  -- SETRSP_DISCARDED, R265
  | combineCompute (cab : CabId) (drawer : DrawerId) (seq : Seq)  -- COMBINE_COMPUTE, R260
  | dcePeerTimeout (cab : CabId) (drawer : DrawerId) (seq : Seq)  -- DCE_PEER_TIMEOUT, R263
  | tableLoaderCheck (cab : CabId) (drawer : DrawerId) (seq : Seq)  -- TABLE_LOADER_CHECK, R279
  | tableReplaceComplete (cab : CabId) (drawer : DrawerId) (seq : Seq)  -- TABLE_REPLACE_COMPLETE, R280
  | tableFreeComplete (cab : CabId) (drawer : DrawerId) (seq : Seq)  -- TABLE_FREE_COMPLETE, R280
  | stackGateRequest (gate : GateId) (m : Master) (unit : UnitId) (ctx : Option CtxId) (addr len : Nat) (data : Option (List Byte))  -- STACK_GATE_REQUEST, R323
  | gateGrant (gate : GateId) (cycle : Nat)  -- GATE_GRANT, R296
  | stackGateResponse (gate : GateId) (tag : Fin 4096) (err : MemErr)  -- STACK_GATE_RESPONSE, R481
  | groupRemixComplete (group : Nat)  -- GROUP_REMIX_COMPLETE, R330
  | rekeyChunkConverted (cab : CabId)  -- REKEY_CHUNK_CONVERTED, R331
  | keyDraw (healthy : Bool)  -- KEY_DRAW, R319
  | urgencyWireChange (wire : Fin 32) (level : Bool)  -- URGENCY_WIRE_CHANGE, R303
  | urgencyStuck (wire : Fin 32)  -- URGENCY_STUCK, R304
  | sgNcfloorWrite (func : Func) (gate : GateId) (value : Word)  -- SG_NCFLOOR_WRITE, R300
  | frNcfloorWrite (func : Func) (value : Word)  -- FR_NCFLOOR_WRITE, R300
  | mixRiNop (func : Func)  -- MIX_RI_NOP, R342
  | mixReinit (func : Func)  -- MIX_REINIT, R337
  | mixReinitComplete  -- MIX_REINIT_COMPLETE, R337
  | fabricEnable (func : Func) (value : Word)  -- FABRIC_ENABLE, R366
  | portEnable (func : Func) (port : PortId) (value : Word)  -- PORT_ENABLE, R349
  | portDisable (func : Func) (port : PortId) (value : Word)  -- PORT_DISABLE, R349
  | linkUp (port : PortId) (lanes : Fin 16)  -- LINK_UP, R349
  | phyLossOfLink (port : PortId)  -- PHY_LOSS_OF_LINK, R350
  | controlWordTimeout (port : PortId)  -- CONTROL_WORD_TIMEOUT, R350
  | flitCrcError (port : PortId) (retried : Option Nat)  -- FLIT_CRC_ERROR, R348
  | flitRetryLimit (port : PortId)  -- FLIT_RETRY_LIMIT, R350
  | discPacket (port : Option PortId) (pkt : Packet)  -- DISC, R349
  | discTimer (port : PortId)  -- DISC_TIMER, R349
  | fabricTransit (port : Option PortId) (pkt : Packet)  -- FABRIC_TRANSIT, R353
  | unreachPacket (port : Option PortId) (pkt : Packet)  -- UNREACH, R355
  | writePacket (port : Option PortId) (pkt : Packet)  -- WRITE, R356
  | wackPacket (port : Option PortId) (pkt : Packet)  -- WACK, R345
  | readPacket (port : Option PortId) (pkt : Packet)  -- READ, R356
  | rdataPacket (port : Option PortId) (pkt : Packet)  -- RDATA, R345
  | signalPacket (port : Option PortId) (pkt : Packet)  -- SIGNAL, R106
  | sackPacket (port : Option PortId) (pkt : Packet)  -- SACK, R97
  | abortPacket (port : Option PortId) (pkt : Packet)  -- ABORT, R362
  | abortCacheExpiry  -- ABORT_CACHE_EXPIRY, R362
  | markerPacket (port : Option PortId) (pkt : Packet)  -- MARKER, R364
  | ledgerPacket (port : Option PortId) (pkt : Packet)  -- LEDGER, R364
  | jobTagSet (func : Func) (cab : CabId) (value : Word)  -- JOB_TAG_SET, R358
  | jobTagClear (func : Func) (cab : CabId) (value : Word)  -- JOB_TAG_CLEAR, R358
  | jobTxkeyFlip (func : Func) (cab : CabId) (value : Word)  -- JOB_TXKEY_FLIP, R359
  | frJobkeyWrite (func : Func) (cab : CabId) (k : Fin 4) (value : Word)  -- FR_JOBKEY_WRITE, R359
  | frAbortWrite (func : Func) (value : Word)  -- FR_ABORT_WRITE, R361
  | hangDetected (unit : UnitId) (chan : Option ChanId)  -- HANG_DETECTED, R371
  | sramError (unit : UnitId) (lost : List Nat)  -- SRAM_ERROR, R370
  | engineResetHoldDone (unit : UnitId)  -- ENGINE_RESET_HOLD_DONE, R380
  | engineResetLogicDone (unit : UnitId)  -- ENGINE_RESET_LOGIC_DONE, R380
  | engineResetResyncDone (unit : UnitId)  -- ENGINE_RESET_RESYNC_DONE, R380
  | searchReplayComplete (unit : UnitId)  -- SEARCH_REPLAY_COMPLETE, R386
  | searchClearTimer (unit : UnitId)  -- SEARCH_CLEAR_TIMER, R386
  | engineResetLimitMiss (unit : UnitId)  -- ENGINE_RESET_LIMIT_MISS, R382
  | rstNop (func : Func)  -- RST_NOP, R398
  | rstContext (func : Func)  -- RST_CONTEXT, R377
  | rstEngine (func : Func)  -- RST_ENGINE, R380
  | rstCabinet (func : Func)  -- RST_CABINET, R391
  | rstChip (func : Func)  -- RST_CHIP, R403
  | rstTray (func : Func)  -- RST_TRAY, R385
  | rstDump (func : Func)  -- RST_DUMP, R394
  | rstUnretire (func : Func)  -- RST_UNRETIRE, R383
  | contextResetComplete (cab : CabId) (ctx : CtxId)  -- CONTEXT_RESET_COMPLETE, R377
  | contextResetLimitMiss (cab : CabId) (ctx : CtxId)  -- CONTEXT_RESET_LIMIT_MISS, R382
  | cabinetResetDirectLimit (cab : CabId)  -- CABINET_RESET_DIRECT_LIMIT, R391
  | cabinetResetComplete (cab : CabId)  -- CABINET_RESET_COMPLETE, R391
  | cabinetResetLimitMiss (cab : CabId)  -- CABINET_RESET_LIMIT_MISS, R382
  | fltEnable (func : Func) (value : Word)  -- FLT_ENABLE, R372
  | dumpReadTimeout (unit : UnitId) (off : Fin 16777216)  -- DUMP_READ_TIMEOUT, R396
  | dumpComplete  -- DUMP_COMPLETE, R395
  | dumpLimitExpiry  -- DUMP_LIMIT_EXPIRY, R394
  | plinthWatchdogExpiry  -- PLINTH_WATCHDOG_EXPIRY, R384
  | porRise  -- POR_RISE, R402
  | wakeN  -- WAKE_N, R470
  | fuseLoadComplete (words : Option Fuses)  -- FUSE_LOAD_COMPLETE, R402
  | lifecyclePhaseComplete  -- LIFECYCLE_PHASE_COMPLETE, R432
  | lifecycleLimitMiss  -- LIFECYCLE_LIMIT_MISS, R439
  | rungReady (rung : Fin 4) (level : Bool)  -- RUNG_READY, R420
  | rungReadyLost (rung : Fin 4)  -- RUNG_READY_LOST, R420
  | rungTimeout (rung : Fin 4)  -- RUNG_TIMEOUT, R402
  | imageHeader (header : List Byte)  -- IMAGE_HEADER, R408
  | imageRegRecord (record : List Byte)  -- IMAGE_REG_RECORD, R408
  | imageTableRecord (record : List Byte)  -- IMAGE_TABLE_RECORD, R283
  | imageCabinetRecord (record : List Byte)  -- IMAGE_CABINET_RECORD, R407
  | imageTrimRecord (record : List Byte)  -- IMAGE_TRIM_RECORD, R407
  | imageEndRecord (record : List Byte)  -- IMAGE_END_RECORD, R408
  | imageFlashTimeout (read : Bool)  -- IMAGE_FLASH_TIMEOUT, R405
  | startPhaseTimeout  -- START_PHASE_TIMEOUT, R402
  | memInitDone (gate : GateId)  -- MEM_INIT_DONE, R404
  | memInitFail (gate : GateId)  -- MEM_INIT_FAIL, R404
  | blkLockSet (func : Func) (value : Word)  -- BLK_LOCK_SET, R412
  | clockMeasure (mhz : Fin 4096)  -- CLOCK_MEASURE, R401
  | plnTsLoadWrite (func : Func) (value : Word)  -- PLN_TS_LOAD_WRITE, R425
  | pwrNop (func : Func) (value : Word)  -- PWR_NOP, R430
  | pwrEnter (func : Func) (value : Word)  -- PWR_ENTER, R415
  | pwrExit (func : Func) (value : Word)  -- PWR_EXIT, R430
  | cabinetIdleTimer (cab : CabId)  -- CABINET_IDLE_TIMER, R414
  | cabinetSleepTimer (cab : CabId)  -- CABINET_SLEEP_TIMER, R414
  | blockAutoIdle  -- BLOCK_AUTO_IDLE, R414
  | blockAutoSleep  -- BLOCK_AUTO_SLEEP, R414
  | qsAck (who : Answerer) (cab : Option CabId) (level deny : Bool)  -- QS_ACK, R418
  | qsDeny (who : Answerer) (cab : Option CabId) (reason : Fin 256)  -- QS_DENY, R418
  | qsTimeout (cab : Option CabId)  -- QS_TIMEOUT, R418
  | hgWake  -- HG_WAKE, R421
  | pwrWakeAtExpiry  -- PWR_WAKE_AT_EXPIRY, R421
  | i3cEntdaa (addr : Fin 128)  -- I3C_ENTDAA, R426
  | getInfo (body : List Byte)  -- GET_INFO, R427
  | getTime (body : List Byte)  -- GET_TIME, R427
  | getPower (body : List Byte)  -- GET_POWER, R427
  | setPower (body : List Byte)  -- SET_POWER, R428
  | getSensors (body : List Byte)  -- GET_SENSORS, R456
  | mctpUnsupportedCommand (code : Byte)  -- MCTP_UNSUPPORTED_COMMAND, R427
  | tcAcknowledge (code : Byte)  -- TC_ACKNOWLEDGE, R428
  | mctpRepeatTimer  -- MCTP_REPEAT_TIMER, R428
  | lcNop (func : Func) (value : Word)  -- LC_NOP, R447
  | lcChallenge (func : Func) (value : Word)  -- LC_CHALLENGE, R441
  | lcSubmit (func : Func) (value : Word)  -- LC_SUBMIT, R443
  | lcTransition (func : Func) (value : Word)  -- LC_TRANSITION, R437
  | fuseBurnAck (ok : Bool)  -- FUSE_BURN_ACK, R437
  | flashSectorErased (ok : Bool)  -- FLASH_SECTOR_ERASED, R436
  | tapBypass  -- TAP_BYPASS, R445
  | tapIdcode  -- TAP_IDCODE, R445
  | tapLcStatus  -- TAP_LC_STATUS, R445
  | tapLcChallenge  -- TAP_LC_CHALLENGE, R445
  | tapLcToken (token : List Byte)  -- TAP_LC_TOKEN, R445
  | tapLcTransition (target : Byte)  -- TAP_LC_TRANSITION, R445
  | tapDbgReg (data : Word) (off : Fin 16777216) (write : Bool)  -- TAP_DBG_REG, R446
  | tapDbgMem (data : Word) (addr : Fin 17592186044416) (write : Bool)  -- TAP_DBG_MEM, R446
  | tapPrivate (code : Fin 16)  -- TAP_PRIVATE, R446
  | mctpLcGet (body : List Byte)  -- MCTP_LC_GET, R448
  | mctpLcChallenge (body : List Byte)  -- MCTP_LC_CHALLENGE, R448
  | mctpLcToken (body : List Byte)  -- MCTP_LC_TOKEN, R448
  | mctpLcTransition (body : List Byte)  -- MCTP_LC_TRANSITION, R448
  | sampleInstant  -- SAMPLE_INSTANT, R454
  | sensorReading (index : Fin 16) (kind : Byte) (value : BitVec 32)  -- SENSOR_READING, R456
  | ouSmpEnable (func : Func) (value : Word)  -- OU_SMP_ENABLE, R451
  | ouTrcEnable (func : Func) (value : Word)  -- OU_TRC_ENABLE, R451
  | ouCselWrite (func : Func) (k : Fin 64) (value : Word)  -- OU_CSEL_WRITE, R453
  | ouTrcMarkWrite (func : Func) (value : Word)  -- OU_TRC_MARK_WRITE, R457
  | ouStopNop (func : Func) (value : Word)  -- OU_STOP_NOP, R467
  | ouStopSchedule (func : Func) (value : Word)  -- OU_STOP_SCHEDULE, R460
  | ouStopCancel (func : Func) (value : Word)  -- OU_STOP_CANCEL, R461
  | ouStopResume (func : Func) (value : Word)  -- OU_STOP_RESUME, R465
  | stopTimeReached  -- STOP_TIME_REACHED, R461
  | unitsStop  -- UNITS_STOP, R462
  | stopCaptureComplete  -- STOP_CAPTURE_COMPLETE, R464
  | stopPortRecordTimer  -- STOP_PORT_RECORD_TIMER, R464
  | stopAutoResume  -- STOP_AUTO_RESUME, R461
  | badRegisterAccess (func : Func) (off : Fin 16777216) (len : Fin 4097) (write : Bool)  -- BAD_REGISTER_ACCESS, R492
  | registerWrite (func : Func) (off : Fin 16777216) (value : Word)  -- REGISTER_WRITE, R13
  | hostMemoryAccess (func : Func) (addr : Fin 17592186044416) (len : Fin 4097) (data : Option (List Byte))  -- HOST_MEMORY_ACCESS, R475
  | hostReadCompletion (addr : Fin 18446744073709551616) (data : Option (List Byte))  -- HOST_READ_COMPLETION, R474
  | functionConfig (func : Func) (data : Word)  -- FUNCTION_CONFIG, R476
  | flr (func : Func)  -- FLR, R477
  | dbDropsRead (func : Func) (cab : CabId)  -- DB_DROPS_READ, R71
  | dbGdropsRead (func : Func)  -- DB_GDROPS_READ, R51
  | latStatRead (func : Func) (cab : CabId)  -- LAT_STAT_READ, R112
  | latGstatRead (func : Func)  -- LAT_GSTAT_READ, R112
  | tuGstatRead (func : Func)  -- TU_GSTAT_READ, R153
  | tuCstatRead (func : Func) (cab : CabId)  -- TU_CSTAT_READ, R153
  | sbGstatRead (func : Func)  -- SB_GSTAT_READ, R178
  | sbCntRead (func : Func) (cab : CabId)  -- SB_CNT_READ, R178
  | tsGstatRead (func : Func)  -- TS_GSTAT_READ, R209
  | tsCntRead (func : Func) (cab : CabId)  -- TS_CNT_READ, R209
  | tsCnt2Read (func : Func) (cab : CabId)  -- TS_CNT2_READ, R209
  | meGstatRead (func : Func)  -- ME_GSTAT_READ, R236
  | meCstatRead (func : Func) (cab : CabId)  -- ME_CSTAT_READ, R236
  | dceGstatRead (func : Func)  -- DCE_GSTAT_READ, R268
  | dceCstatRead (func : Func) (cab : CabId)  -- DCE_CSTAT_READ, R268
  | ftCstatRead (func : Func) (cab : CabId)  -- FT_CSTAT_READ, R292
  | sgStatRead (func : Func) (gate : GateId)  -- SG_STAT_READ, R313
  | sgLatRead (func : Func) (gate : GateId) (m : Fin 258)  -- SG_LAT_READ, R309
  | sgMixstatRead (func : Func) (gate : GateId)  -- SG_MIXSTAT_READ, R341
  | sgMdcRead (func : Func) (gate : GateId)  -- SG_MDC_READ, R341
  | sgRemixRead (func : Func) (gate : GateId)  -- SG_REMIX_READ, R341
  | mixGstatRead (func : Func)  -- MIX_GSTAT_READ, R342
  | frCntRead (func : Func)  -- FR_CNT_READ, R366
  | frCnt2Read (func : Func)  -- FR_CNT2_READ, R366
  | pgCntRead (func : Func) (port : PortId)  -- PG_CNT_READ, R366
  | rcvStatRead (func : Func)  -- RCV_STAT_READ, R398
  | chestStatRead (func : Func)  -- CHEST_STAT_READ, R398
  | pwrRefuseCountRead (func : Func)  -- PWR_REFUSE_COUNT_READ, R430
  | plnTsStatRead (func : Func)  -- PLN_TS_STAT_READ, R430
  | ouGstatRead (func : Func)  -- OU_GSTAT_READ, R467
  | porAssert  -- POR_ASSERT, R470
deriving DecidableEq, Repr

end Sys2Proof
end

