-- ==== Sys2Proof/Config.lean ====
section
/-! DEFINITION. What the spec leaves open: free values (no body, so nothing can be proved of their numbers) and
the licensee's or Kimoxon's functions whose values the spec does not publish. -/
namespace Sys2Proof.Config

/-- A byte the spec gives no value: what a line reads as once its shelf key is lost (R320, R41). Applied to State's
counter of free values. -/
opaque freeByte : Nat → BitVec 8

/-- A 64-bit value the spec gives no value: random draws (R319, R441) and results it leaves open. Applied to State's
counter of free values. -/
opaque freeWord : Nat → BitVec 64

/-- SHA-384 of a byte string, as a number of 384 bits (R408, R435, R442): named by the spec, not defined by it. -/
opaque sha384 : List (BitVec 8) → Nat

/-- Whether an ECDSA P-384 signature verifies: key, message and signature bytes (R408, R443). -/
opaque ecdsaVerify : List (BitVec 8) → List (BitVec 8) → List (BitVec 8) → Bool

/-- The internal section of a unit's dump record, whose layout is Kimoxon's own (R395): by unit ID and State's counter of
free values. -/
opaque dumpInternal : Nat → Nat → List (BitVec 8)

end Sys2Proof.Config
end

