-- ==== Sys2Proof/Machine/Store.lean ====
section
/-! DEFINITION. Sparse maps as lists in one canonical form (keys strictly rising, no entry equal to the default), and
memory as such a map from address to byte. -/
namespace Sys2Proof.Machine

/-- A sparse map from numbers; an unlisted key holds a default. -/
abbrev FMap (α : Type) := List (Nat × α)

/-- The listed value of a key. -/
def mapFind {α : Type} (k : Nat) : FMap α → Option α
  | [] => none
  | (j, v) :: r => if j = k then some v else mapFind k r

/-- The value of a key, `d` where unlisted. -/
def mapGet {α : Type} (d : α) (k : Nat) (m : FMap α) : α := (mapFind k m).getD d

/-- Insert or replace, keeping keys rising. -/
def mapPut {α : Type} (k : Nat) (v : α) : FMap α → FMap α
  | [] => [(k, v)]
  | (j, w) :: r =>
    if k < j then (k, v) :: (j, w) :: r
    else if k = j then (k, v) :: r
    else (j, w) :: mapPut k v r

/-- Drop a key. -/
def mapDel {α : Type} (k : Nat) (m : FMap α) : FMap α := m.filter (fun e => e.1 != k)

/-- Set a key; a value equal to the default leaves no entry. -/
def mapSet {α : Type} [DecidableEq α] (d : α) (k : Nat) (v : α) (m : FMap α) : FMap α :=
  if v = d then mapDel k m else mapPut k v m

/-- Keys rise strictly from above `lo`. -/
def mapRising {α : Type} (lo : Nat) : FMap α → Bool
  | [] => true
  | (j, _) :: r => decide (lo ≤ j) && mapRising (j + 1) r

/-- The canonical form. -/
def mapWf {α : Type} [DecidableEq α] (d : α) (m : FMap α) : Bool :=
  mapRising 0 m && m.all (fun e => e.2 != d)

/-- Byte addressed memory. An unlisted byte reads `memDefault` (DESIGN CHOICE, log 3: the spec gives no contents after
power-on). -/
abbrev Mem := FMap Byte

/-- What a byte that nothing has written reads as. -/
def memDefault : Byte := 0

/-- The canonical form of memory: addresses strictly rising, no entry equal to the default. -/
def Memory.wf (m : Mem) : Bool := mapWf memDefault m

/-- One byte. -/
def memByte (m : Mem) (a : Nat) : Byte := mapGet memDefault a m

/-- Store one byte. -/
def memPut (a : Nat) (b : Byte) (m : Mem) : Mem := mapSet memDefault a b m

/-- `n` bytes from `a`, lowest address first. -/
def memRead (m : Mem) (a : Nat) : Nat → List Byte
  | 0 => []
  | n + 1 => memByte m a :: memRead m (a + 1) n

/-- Store bytes from `a` upward. -/
def memWrite (a : Nat) : List Byte → Mem → Mem
  | [], m => m
  | b :: bs, m => memWrite (a + 1) bs (memPut a b m)

/-- Make `n` bytes from `a` zero. -/
def memZero (a n : Nat) (m : Mem) : Mem := m.filter (fun e => !(decide (a ≤ e.1) && decide (e.1 < a + n)))

/-- Little-endian number of a byte list. -/
def leNat : List Byte → Nat
  | [] => 0
  | b :: bs => b.toNat + 256 * leNat bs

/-- `n` bytes of a number, little-endian. -/
def toLe : Nat → Nat → List Byte
  | 0, _ => []
  | n + 1, v => BitVec.ofNat 8 (v % 256) :: toLe n (v / 256)

/-- Bytes `[o, o+n)` of a byte list as a little-endian number. -/
def leAt (bs : List Byte) (o n : Nat) : Nat := leNat ((bs.drop o).take n)

/-- Whether bytes `[o, o+n)` of a list are all zero. -/
def zeroAt (bs : List Byte) (o n : Nat) : Bool := ((bs.drop o).take n).all (fun b => b == 0)

end Sys2Proof.Machine
end

