-- ==== Sys2Proof/Machine/State.lean ====
section
/-! DEFINITION. The block's state, unit by unit, as plain data. Registers stand in one sparse map by platform offset
(chapter 18); everything else the spec gives a unit stands in that unit's structure. -/
namespace Sys2Proof.Machine

/-! ### Cabinets (chapter 01) -/

/-- R25 STATE. -/
inductive CabState where
  | free | build | live | clear
deriving DecidableEq, Repr

/-- The command whose effects are being carried out while BUSY is 1 (R29). -/
inductive CabWork where
  | none | activating | applying | destroying
deriving DecidableEq, Repr

/-- A configuration: the words of CAB_FUNC, CAB_CFG, CAB_BW, CAB_QUOTA_A, CAB_QUOTA_B, CAB_TILE0-3, CAB_SHELF0-15. -/
structure CabConf where
  func   : Word := 0
  cfg    : Word := 0
  bw     : Word := 0
  quotaA : Word := 0
  quotaB : Word := 0
  tiles  : List Word := []
  shelf  : List Word := []
deriving DecidableEq, Repr

/-- What R45 measures: the window figures. -/
structure Window where
  memBytes : Nat := 0
  memShort : Nat := 0
  memLat   : Nat := 0
  fabTx    : Nat := 0
  fabRx    : Nat := 0
  fabShort : Nat := 0
  tileBusy : Nat := 0
  hold     : Nat := 0
deriving DecidableEq, Repr

/-- The cumulative figures of R45, and COMPLETED of R85. -/
structure Totals where
  memBytes   : Nat := 0
  tileBusy   : Nat := 0
  kills      : Nat := 0
  swapBytes  : Nat := 0
  fallbacks  : Nat := 0
  denied     : Nat := 0
  integrity  : Nat := 0
  quarantine : Nat := 0
  hold       : Nat := 0
  resets     : Nat := 0
  completed  : Nat := 0
deriving DecidableEq, Repr

/-- A key of 256 bits: the mix key and the tag key (R319). -/
structure ShelfKey where
  mix : BitVec 128
  tag : BitVec 128
deriving DecidableEq, Repr

/-- One cabinet. -/
structure Cab where
  st       : CabState := .free
  work     : CabWork := .none
  err      : Nat := 0                 -- CAB_STATUS.ERR
  dropped  : Bool := false            -- CAB_STATUS.DROPPED
  gen      : Nat := 0                 -- CAB_STATUS.GEN
  conf     : CabConf := {}            -- in force, or reserved while an ACTIVATE is under way (R31)
  next     : Option CabConf := none   -- ranges of an accepted APPLY that wait for a re-key or re-initialisation (R333, R337)
  oldReserve : List (Nat × Nat) := [] -- the reserve an APPLY still has to re-place (R144)
  winAt    : Nat := 0                 -- when the running window began (R44)
  removing : List Nat := []           -- tile ports an APPLY or DESTROY is still clearing (R34, R41)
  floorsAt : Nat := 0                 -- when the floors of the running command come into force (R298)
  keyWait  : Bool := false            -- the draw of the shelf key waits for the random source (R319)
  key      : Option ShelfKey := none  -- the shelf key in force (R319)
  memFloor : Nat := 0                 -- MEM_FLOOR in force at the gates (R298)
  fabFloor : Nat := 0                 -- FAB_FLOOR in force at the router (R298)
  win      : Window := {}
  tot      : Totals := {}
  power    : Nat := 0                 -- CSTATE (R414): 0 ACTIVE, 1 IDLE, 2 SLEEP
  idleAt   : Nat := 0                 -- when it last had work (R414)
  fabWait  : Bool := false            -- a packet of it waited for injection when the interval began (R48)
deriving DecidableEq, Repr

/-! ### Contexts, memory objects, drawers, descriptors (chapter 02) -/

/-- R54. -/
inductive CtxState where
  | free | live | dying
deriving DecidableEq, Repr

/-- R204. -/
inductive Resid where
  | unbound | out | inProgress | resident | outProgress | lost
deriving DecidableEq, Repr

/-- One context of a cabinet. -/
structure Ctx where
  st        : CtxState := .free
  alloc     : Nat := 0        -- which ALLOC made it (R187)
  root      : Nat := 0        -- PT_ROOT, a physical address
  pasidEn   : Bool := false
  pasid     : Nat := 0
  busyNs    : Nat := 0        -- query counters of R85
  memBytes  : Nat := 0
  completed : Nat := 0
  kills     : Nat := 0
  byCmd     : Bool := false   -- DYING by CTX_CMD FREE, which owes CTX_RESULT
  resid     : Resid := .unbound
  saveVa    : Nat := 0        -- the binding (R199)
  stiles    : Nat := 0
  pin       : Bool := false
  nosave    : Bool := false
  tiles     : List Nat := []  -- R(c)
  lostStatus : Nat := 0
  lostUnit  : Nat := 0
  blockedAt : Option Nat := none  -- when it last entered BLOCKED (R187)
  lastRun   : Nat := 0
  guilty    : Option (Nat × Nat) := none -- torn down by a verdict: the faulted unit and the culprit's sequence number
  exported  : List Nat := []     -- the objects that a latch exported when its teardown began (R107)
  resetting : Bool := false      -- a CONTEXT reset is under way (R377)
  since     : Nat := 0           -- when its teardown or reset began
deriving DecidableEq, Repr

/-- One entry of the memory-object table (R56 to R58). -/
structure MObj where
  gen       : Nat := 1
  used      : Bool := false
  withdrawn : Bool := false
  orig      : Nat := 0        -- index of the creating handle's entry
  cab       : Nat := 0
  ctx       : Nat := 0
  base      : Nat := 0
  len       : Nat := 0
  host      : Bool := false
  fence     : Bool := false   -- KIND
  refs      : Nat := 0        -- descriptors in flight that named this handle (R79)
deriving DecidableEq, Repr

/-- R62 STATE. -/
inductive DrawerState where
  | free | live | stopping | stopped | error | dying
deriving DecidableEq, Repr

/-- One drawer; INFLIGHT and DONE_LOW are computed from the descriptors in flight. -/
structure Drawer where
  st       : DrawerState := .free
  ringBase : Nat := 0
  cqBase   : Nat := 0
  cfg      : Nat := 0         -- bits [27:0] of DRW_ARG2 as created
  ctx      : Nat := 0
  tail     : Nat := 0
  head     : Nat := 0
  cqHead   : Nat := 0
  nextSeq  : Nat := 0
  dbCount  : Nat := 0
  lastErr  : Nat := 0
  lastUnit : Nat := 0
  byCmd    : Bool := false    -- DYING by DRW_CMD DESTROY, which owes DRW_RESULT
deriving DecidableEq, Repr

/-- How a descriptor ended: its STATUS, the unit that reported it, and the fence status word it relays (R99). -/
structure Ending where
  status : Nat
  unit   : Option Nat := none
  relay  : Option Word := none
deriving DecidableEq, Repr

/-- Where a fetched descriptor stands (R65, R81). -/
inductive Stage where
  | validated | issued | running | ended (e : Ending)
deriving DecidableEq, Repr

/-- A descriptor fetched and not yet complete. -/
structure Flight where
  cab      : Nat
  drawer   : Nat
  ctx      : Nat
  seq      : Nat
  slot     : Nat              -- HEAD count at its base slot (R80 SLOT)
  slots    : Nat              -- ring slots it occupies
  gen      : Nat
  op       : Nat
  flags    : Nat
  fence    : Nat
  fenceVal : Nat
  fenceOk  : Bool             -- an error may be attached to FENCE (R78)
  count    : Nat
  body     : List Byte
  exts     : List (List Byte)
  refs     : List Nat         -- handles referenced (R79)
  stage    : Stage
  issuedAt : Nat              -- when it was issued
  prog     : Nat := 0         -- bytes of an ADVISE WILLNEED translated so far (R151)
  ringFail : Bool := false    -- the record of a failed ring read (R83)
  recorded : Bool := false    -- its record is written and its fence is still to be written (R81)
deriving DecidableEq, Repr

/-- The Drawer Engine's tables. -/
structure DrwUnit where
  ctxs    : FMap Ctx := []       -- by cabinet × 16,384 + context
  objs    : FMap MObj := []      -- by table index
  freed   : List Nat := []       -- freed indices, oldest first
  fresh   : Nat := 0             -- lowest index never used
  drawers : FMap Drawer := []    -- by cabinet × 8,192 + local index
  flights : List Flight := []    -- oldest first
  allocs  : Nat := 0             -- ALLOCs so far
  turn    : FMap Nat := []       -- by cabinet × 16 + arbitration group, the drawer whose turn comes next (R87)
  ctxBusy : List Nat := []       -- cabinets whose CTX_RESULT.READY is 0
  drwBusy : List Nat := []
deriving DecidableEq, Repr

/-! ### Fences and latches (chapter 03) -/

/-- R104. -/
inductive LatchState where
  | free | watch | armed | spent
deriving DecidableEq, Repr

/-- One latch. Its waiters are the WAITs that name it. -/
structure Latch where
  st        : LatchState := .free
  cab       : Nat := 0
  fence     : Nat := 0        -- handle by which it was installed
  obj       : Nat := 0        -- table index of the fence object
  ctx       : Nat := 0
  host      : Bool := false
  exportEn  : Bool := false
  exportId  : Nat := 0
  mirrorEn  : Bool := false
  mirrorVa  : Nat := 0
  pollUs    : Nat := 0
  threshold : Nat := 0
  errored   : Bool := false
  last      : Nat := 0
  regress   : Nat := 0
  lower     : Nat := 0
  nextPoll  : Nat := 0        -- when its next poll is made (R103)
  pollDue   : Nat := 0        -- when that poll were made but for the poll budget
  known     : Bool := false    -- where its fence lies was found at the last read
  pa        : Nat := 0         -- where its fence lay at the last read (physical or host address)
  dirty     : Bool := false   -- a write to its fence is visible and not yet evaluated (R101)
deriving DecidableEq, Repr

/-- A WAIT that holds its drawer: attached to a latch, or starved (R108). -/
structure Waiting where
  cab      : Nat
  drawer   : Nat
  seq      : Nat
  obj      : Nat
  fence    : Nat              -- TARGET
  value    : Nat
  latch    : Option Nat
  deadline : Option Nat
deriving DecidableEq, Repr

/-- The Latch Unit. -/
structure LatUnit where
  latches  : FMap Latch := []
  waits    : List Waiting := []        -- oldest first
  starveAt : FMap Nat := []            -- when a cabinet's starved WAITs are next read
deriving DecidableEq, Repr

/-! ### Translation and commit-by-remap (chapter 04) -/

/-- A command that can hold SHADOW granules: a tile command by cabinet and command number, or a Dispatch-Combine
command by its descriptor. -/
inductive Owner where
  | cmd (cab n : Nat)
  | dce (cab drawer seq : Nat)
  | inbound (cab id : Nat)       -- a set being received (R253)
deriving DecidableEq, Repr

/-- A translation stream (R122). -/
inductive Src where
  | tile (t : Nat) (write : Bool)
  | me (e : Nat)
  | dce (k : Nat)
  | drw (record : Bool)
  | lat
  | sb (cab : Nat) (write : Bool)
  | ts
  | fab (write : Bool)
deriving DecidableEq, Repr

/-- A cached leaf translation (R120, R121, R125). -/
structure Lookaside where
  cab  : Nat
  ctx  : Nat
  va   : Nat
  size : Nat
  pa   : Nat
  w    : Bool
  rm   : Bool
  host : Bool
  hw   : Bool := false   -- the host granted writes (R125)
  hr   : Bool := true    -- the host granted reads (R125)
  level : Nat := 0       -- the level of its leaf
deriving DecidableEq, Repr

/-- A cached entry that points to a node (R120). -/
structure WalkCached where
  cab   : Nat
  ctx   : Nat
  level : Nat     -- level of the node it points to
  va    : Nat     -- first virtual address the node covers
  node  : Nat
deriving DecidableEq, Repr

/-- Where a stalled request stands. -/
inductive ReqPhase where
  | miss (counted : Bool)     -- waits for a walk (R123)
  | walk                      -- its walk is outstanding
  | fault (f : Nat)           -- attached to fault record f of its cabinet (R129)
  | ats                       -- an ATS request is out (R125)
  | pri (group : Nat)         -- a page request is out (R127)
  | priWait                   -- beyond the PRI allocation (R127)
  | shadow                    -- no FREE granule (R142)
  | failed (status unit : Nat) -- to be failed when its requester next looks
deriving DecidableEq, Repr

/-- A request that has missed and waits. -/
structure Req where
  id    : Nat
  src   : Src
  unit  : Nat
  cab   : Nat
  ctx   : Nat
  owner : Option Owner
  tag   : Nat
  va    : Nat
  write : Bool
  len   : Nat
  data  : List Byte
  mask  : List Bool
  phase : ReqPhase
  since : Nat
  service : Bool := true     -- false for the requests of R133
  capped : Bool := false     -- fills the look-aside within the cabinet's share only (R151)
  leafW : Bool := true       -- its HOST leaf's W (R125)
  ord   : Nat := 0           -- its place among the requests of its run (R479)
deriving DecidableEq, Repr

/-- A table walk in progress for one context and 64 KiB page (R123). -/
structure Walk where
  cab  : Nat
  ctx  : Nat
  page : Nat
deriving DecidableEq, Repr

/-- A fault record without an accepted response (R130 to R132). -/
structure FaultRec where
  cab     : Nat
  f       : Nat
  ctx     : Nat
  page    : Nat
  level   : Nat
  kind    : Nat
  write   : Bool
  unit    : Nat
  written : Bool
  writtenAt : Nat
  since   : Nat
deriving DecidableEq, Repr

/-- One granule of a shelf that is not simply at home (R137). -/
structure Gran where
  cur    : Option Nat := none          -- CURRENT granule
  shadow : Option (Owner × Nat) := none -- owner and SHADOW granule
  map    : Nat := 0                    -- lines written, 64 bits
  age    : Nat := 0                    -- commit order of CURRENT
  viaCtx : Nat := 0                    -- context through which the SHADOW was reached, and the 64 KiB pages (R147)
  vias   : List Nat := []
  resv   : Bool := false               -- its granule serves a reservation (R244)
  failed : Bool := false               -- its settling failed and no write has reached c since (R143)
deriving DecidableEq, Repr

/-- A withdrawal before its passage of the sequence point (R147). -/
structure Withdrawal where
  id    : Nat
  ctxs  : List (Nat × Nat)                      -- cabinet and context
  lo    : Nat
  hi    : Nat
  host  : Option (Nat × Nat)                    -- an ATS Invalidate: function and ITag
  desc  : Option (Nat × Nat × Nat)              -- an ADVISE INVALIDATE
deriving DecidableEq, Repr

/-- An ADVISE SETTLE or APPLY still settling. -/
structure Settling where
  desc  : Option (Nat × Nat × Nat)
  cab   : Nat
  grans : List Nat
  bad   : Option (Nat × Nat)
deriving DecidableEq, Repr

/-- The Translation Unit. -/
structure TuUnit where
  look     : List Lookaside := []    -- newest first
  walkc    : List WalkCached := []
  reqs     : List Req := []
  walks    : List Walk := []
  faults   : List FaultRec := []
  nextReq  : Nat := 0
  grans    : FMap Gran := []         -- by home granule (physical address / 8,192)
  commits  : Nat := 0
  withdraws : List Withdrawal := []
  settles  : List Settling := []
  nextWd   : Nat := 0
  reserved : FMap Nat := []          -- per cabinet, granules held by landings and open tickets (R244, R248)
  frozen   : List Nat := []          -- cabinets granted no new shadow (R144 step 1)
  priOff   : List Nat := []          -- functions stopped by a Response Failure (R127)
  groups   : Nat := 0                -- page request groups so far
  priOpen  : List (Nat × Nat) := []  -- page request groups without a response, and their functions (R127)
  atsOpen  : List Nat := []          -- Translation Requests without a completion (R473)
  dirc     : List Nat := []          -- directory cache: home granules, newest first (R120)
  fq       : FMap Nat := []          -- per cabinet, the next record's count f
  badHost  : List Nat := []          -- host lines (address / 128) whose read completes in error (log 9)
deriving DecidableEq, Repr

/-! ### Tiles, placement and swap (chapter 06) -/

/-- Why a killed command's replay is held back (R194). -/
inductive Hold where
  | shadowOf (o : Owner)         -- until that command has committed or been discarded (R141)
  | granules (n : Nat)           -- until the pool has n FREE granules (R142)
  | applyEnd                     -- until the cabinet's APPLY has ended (R144)
  | search                       -- a suspect waiting for its replay (R386)
deriving DecidableEq, Repr

/-- Where a tile command stands. -/
inductive CmdPhase where
  | waiting                      -- validated, waiting for tiles
  | clearing (left : List Nat)   -- placed; the tiles still to be cleared before its records go out (R191)
  | running
  | killing (late : List Nat)    -- kill asserted; the ports still to acknowledge
  | committing                   -- ended without error, its commit to come
  | finished (status unit : Nat) -- the Step Batcher's, ended; the batcher has not yet taken it
deriving DecidableEq, Repr

/-- An error a request of a run got: the request's place in the run, the status, and the unit that returned it. -/
structure RunError where
  ord    : Nat
  status : Nat
  unit   : Nat
deriving DecidableEq, Repr

/-- One KERNEL or LAYER_STEP command known to the Tile Scheduler. -/
structure Cmd where
  cab     : Nat
  n       : Nat                  -- the model's own number of the command within its cabinet
  num     : Option Nat := none   -- CMD of R186, fixed at its first issue
  ctx     : Nat
  alloc   : Nat
  desc    : Option (Nat × Nat)   -- drawer and sequence number; none for the Step Batcher's
  group   : Nat := 0             -- the batcher's group and layer
  layer   : Nat := 0
  op      : Nat
  direct  : Bool
  prio    : Nat
  tilesN  : Nat
  key     : Nat
  code    : Nat                  -- CODE_VA
  aux     : Nat                  -- AUX_VA
  ntokens : Nat
  outs    : List (Nat × Nat)     -- declared output ranges: first virtual address and length
  phase   : CmdPhase := .waiting
  readyAt : Nat
  waitFrom : Nat                 -- its last entry into the ready order (R188)
  killsPrio : Nat := 0
  replay  : Bool := false
  holds   : List Hold := []
  counted : Bool := false        -- PLACE_WAIT counted (R190)
  tiles   : List Nat := []       -- the placement, in rank order
  epoch   : Nat := 0
  start   : Nat := 0
  first   : Option Nat := none   -- when it was first issued (R173, R186)
  endAt   : Nat := 0             -- when it ended, for the Step Batcher (R173)
  done    : List Nat := []       -- ports whose tile has reported tp_done
  asks    : Nat := 0             -- requests its tiles have issued in this run
  errors  : List RunError := []  -- errors returned to its tiles, in the order of their requests (R479)
  fail    : Option (Nat × Nat) := none -- status and unit it must end with, killed or not (R363, R375, R387)
  deny    : Option (Nat × Nat) := none -- status and unit its run must fail with (R118, R135)
  said    : Option Nat := none   -- the first status other than DONE that a tile reported
  stuck   : Bool := false        -- it headed the order for BYPASS_US (R188)
  gone    : Bool := false        -- its context or drawer is torn down: not replayed (R196)
  avoid   : List Nat := []       -- ports a suspect's replay avoids (R386)
deriving DecidableEq, Repr

/-- One tile port of the scoreboard (R187). -/
structure Tile where
  cab      : Option Nat := none
  busy     : Bool := false
  resident : Option Nat := none       -- context whose state it holds
  last     : Option (Nat × Nat) := none -- last context and its allocation
  keys     : List Nat := []
  killing  : Bool := false
  lastStatus : Nat := 0
  clearing : Bool := false
  leaving  : Bool := false            -- leaves its cabinet once cleared (R34, R41)
  progress : Nat := 0                 -- when it last advanced (R371)
  killAt   : Nat := 0                 -- when kill was asserted (R193)
  retired  : Bool := false            -- R383
  cmd      : Option Nat := none       -- command number it runs
  since    : Nat := 0                 -- when its run began
  tables   : List Nat := []           -- function-table slots delivered (R282)
  owed     : List Nat := []           -- deliveries pending
deriving DecidableEq, Repr

/-- A swap under way (R204, R205). -/
structure Swap where
  cab    : Nat
  ctx    : Nat
  load   : Bool
  desc   : Option (Nat × Nat)         -- the SWAP descriptor
  evict  : Bool := false
  started : Bool := false             -- tiles chosen and moving
  va     : Nat
  tiles  : List Nat := []
  zero   : Bool := false
  discard : Bool := false
  unbind : Bool := false
  pin    : Bool := false
  nosave : Bool := false
  stiles : Nat := 0
  prior  : Resid := .unbound
  trig   : Option Nat := none         -- the command that triggered an automatic swap-in
deriving DecidableEq, Repr

/-- The Tile Scheduler. -/
structure TsUnit where
  tiles  : FMap Tile := []
  cmds   : List Cmd := []             -- in the order they became known
  swaps  : List Swap := []
  epochs : FMap Nat := []             -- per cabinet, the next EPOCH
  cmdNo  : FMap Nat := []             -- per cabinet, the next command number of R186
  ids    : FMap Nat := []             -- per cabinet, commands known so far
deriving DecidableEq, Repr

/-! ### Movement engines and channels (chapter 07) -/

/-- R220; a channel that is to return to FREE is marked `dying` beside it. -/
inductive ChanState where
  | free | idle | run | draining | paused | pausedReady
deriving DecidableEq, Repr

/-- One segment in staging: its number from the transfer's current base, its converted bytes. -/
structure Seg where
  k  : Nat
  bs : List Byte
deriving DecidableEq, Repr

/-- One channel. `src`, `dst` and `count` are the registers at the transfer's base; segments count from there. -/
structure Chan where
  st     : ChanState := .free
  dying  : Bool := false
  quiet  : Bool := false          -- draining or paused for power, not by PAUSE (R237)
  gen    : Nat := 1
  anon   : Bool := false
  cab    : Nat := 0
  ctx    : Nat := 0
  src    : Nat := 0
  dst    : Nat := 0
  count  : Nat := 0
  status : Nat := 0
  dfmt   : Nat := 0
  sfmt   : Nat := 0
  sat    : Bool := false
  phys   : Bool := false
  pause  : Bool := false
  done   : Bool := false
  direct : Bool := false           -- a direct transfer runs
  cur    : Option (Nat × Nat) := none -- drawer and sequence number of the MOVE in progress
  bytes  : Nat := 0
  staged : List Seg := []
  wrote  : List Nat := []          -- segments written
  queue  : List (Nat × Nat) := []  -- MOVEs waiting for this channel (R221)
  destroys : List (Nat × Nat) := [] -- the CHANNEL_DESTROYs that wait
  pre    : Bool := false           -- it carries a PREFETCH (R149)
  noFault : Bool := false
  drop   : Bool := false           -- DROP_SRC
  mapped : Bool := false           -- the PREFETCH's first pass is done
  suspect : Bool := false          -- it waits for its replay in a search (R386)
  short  : Bool := false           -- its next segment has waited for a staging slot (R213)
deriving DecidableEq, Repr

/-- The Movement Engine. -/
structure MeUnit where
  chans : FMap Chan := []
  waits : List (Nat × Nat × Nat) := []  -- MOVEs that wait for an anonymous channel (R217)
  avoid : List (Nat × Nat) := []        -- channel and engine: a segment to be read again elsewhere (R238)
  jobs  : List (Nat × Nat × Nat) := []  -- engine, channel and segment: what an engine that waits for a translation carries (R212)
  turnCab  : FMap Nat := []             -- round-robin (R213): by kind of engine, the next cabinet;
  turnChan : FMap Nat := []             -- by cabinet and kind, the next channel
deriving DecidableEq, Repr

/-! ### Function tables (chapter 09) -/

/-- R280. -/
inductive SlotState where
  | free | loading | held | replacing | freeing
deriving DecidableEq, Repr

/-- One function-table slot. -/
structure Slot where
  st      : SlotState := .free
  cab     : Nat := 0
  image   : Bool := false        -- it holds a table of the configuration image (R283)
  version : Nat := 0
  bytes   : List Byte := []      -- the image as installed
deriving DecidableEq, Repr

/-- A TABLE_LOAD under way, in validation order (R281). -/
structure TableOp where
  cab    : Nat
  drawer : Nat
  seq    : Nat
  op     : Nat                   -- 0 LOAD, 1 REPLACE, 2 FREE
  slot   : Nat
  bytes  : List Byte := []       -- the new image
  checked : Bool := false        -- it has passed check 9 and acts on its slot
deriving DecidableEq, Repr

/-- A reference a ROUTE holds to one version of a slot (R281). -/
structure SlotRef where
  cab     : Nat
  drawer  : Nat
  seq     : Nat
  slot    : Nat
  version : Nat
deriving DecidableEq, Repr

/-- The table store. -/
structure FtUnit where
  slots : FMap Slot := []
  exp   : Option Nat := none     -- EXP_SLOT while EXP_VALID
  ops   : List TableOp := []
  refs  : List SlotRef := []
deriving DecidableEq, Repr

/-! ### Line mix and integrity (chapter 11) -/

/-- A quarantine entry (R334). -/
structure Quar where
  cab   : Nat
  slot  : Nat
  level : Nat
  first : Nat      -- physical address of the first group
  span  : Nat      -- groups covered
deriving DecidableEq, Repr

/-- A damaged counter node (R335): cabinet, range slot, level, first group's address, groups covered, and the status of
the request that meets it. -/
structure BadNode where
  cab    : Nat
  slot   : Nat
  level  : Nat
  first  : Nat
  span   : Nat
  status : Nat
deriving DecidableEq, Repr

/-- A re-key under way (R331): the watermark, a byte offset into the shelf. -/
structure Rekey where
  wm   : Nat
  old  : Option ShelfKey
deriving DecidableEq, Repr

/-- What a line of a metadata cache holds: a metadata line, by physical address / 2,048, or a counter node of R327, by
cabinet, range slot, level and place within the level. -/
inductive MetaKey where
  | line (l : Nat)
  | node (cab slot level idx : Nat)
deriving DecidableEq, Repr

/-- An entry of a gate's metadata cache (R338); `bad` once its storage fails its check (R339). -/
structure MetaEntry where
  gate  : Nat
  key   : MetaKey
  dirty : Bool := false
  bad   : Bool := false
deriving DecidableEq, Repr

/-- The stack gates' mix and integrity state. Lines are physical addresses / 128, groups / 8,192. -/
structure MixUnit where
  minor   : FMap Nat := []
  major   : FMap Nat := []
  badData : List Nat := []          -- lines with an uncorrectable error
  badTag  : List Nat := []          -- lines whose tag check fails
  badMeta : List Nat := []          -- metadata lines (by group pair) with an uncorrectable error: physical address / 2,048
  badNode : List BadNode := []
  quar    : FMap (Option Quar) := []  -- the 64 entries
  whole   : FMap Nat := []          -- per cabinet, bit k: whole-range flag of slot k
  remix   : List Nat := []          -- groups being re-mixed
  rekey   : FMap (Option Rekey) := []
  rekeyDue : List Nat := []         -- cabinets whose re-key waits for an APPLY or re-initialisation (R333)
  reinit  : Option (Nat × Nat × Nat) := none -- cabinet, start, length
  keys    : Nat := 0                -- keys drawn so far
  blockKey : Option ShelfKey := none  -- the block key (R319)
  healthy : Bool := true            -- the random source passes its test (R319)
  rekeyWait : List Nat := []
  cache   : List MetaEntry := []    -- the gates' metadata caches, latest use first (R338)
  version : List (MetaKey × Nat) := [] -- versions of counter nodes, held in their parents (R327); an unlisted one is 0
deriving DecidableEq, Repr

/-! ### Stack gates and urgency wires (chapter 10) -/

/-- A request of the gate's queue (R296, R297, R481): at most one line. `sent` once it is granted to the controller; `res`
is then what the gate will answer: a status and the bytes read. `undo` restores a partial write whose read fails. -/
structure GateReq where
  tag   : Nat
  m     : Master
  unit  : Nat
  ctx   : Option Nat
  p     : Nat                       -- physical address asked for
  len   : Nat
  data  : Option (List Byte)        -- bytes to write
  since : Nat                       -- its entry into the queue
  sent  : Bool := false
  res   : Nat × List Byte := (0, [])
  q     : Nat := 0                  -- where the bytes lie
  undo  : List Byte := []
  minor : Nat := 0                  -- the line's MINOR before the write
  held  : Option MemErr := none     -- its completion, held by a stop (R462)
deriving DecidableEq, Repr

/-- A master's pace: its origin k0 and the lines granted since (R296). -/
structure Pace where
  k0 : Nat
  g  : Nat
deriving DecidableEq, Repr

/-- One stack gate. -/
structure SgUnit where
  reqs   : List GateReq := []       -- in arrival order
  next   : Nat := 0                 -- the next tag
  cyc    : Nat := 0                 -- the cycle of the last grant
  slots  : Nat := 0                 -- lines granted in it
  pace   : FMap (Option Pace) := [] -- by master number
  served : FMap Nat := []           -- lines granted in the running interval, by master number
  waits  : List Nat := []           -- masters that have had a request waiting since the interval began
  rrUrg  : Nat := 0                 -- last master served round-robin among the urgent, and among the rest
  rr     : Nat := 0
  plat   : Nat := 0                 -- floors in force of PLATFORM and OBSERVE, from the first interval on (R298, R312)
  obs    : Nat := 0
  last   : FMap Bool := []          -- whether a master's last floor-class line was an engine's (R214)
  paused : Bool := false            -- a hold has ended: paces start again with the next interval (R316)
  held   : Bool := false            -- a hold lies in the running interval (R48, R313)
  alarm  : Option (Nat × Nat) := none -- when the last alarm was: timestamp and cycle (R310)
deriving DecidableEq, Repr

/-- The urgency wires: which are sampled at 1 and since when, since when each is in force, which are treated as deasserted
(R304), and which cabinet owns each tile port for them (R305). The sampled levels stand in URG_STAT. -/
structure UrgUnit where
  since  : FMap (Option Nat) := []
  force  : FMap (Option Nat) := []    -- since when a wire is in force (R304)
  dead   : List Nat := []
  owners : FMap (Option Nat) := []
  interval : Nat := 0                 -- start of the running 1,000 ns interval (R296)
  rested : List Nat := []             -- masters that were not in RUN when it began (R316)
deriving DecidableEq, Repr

/-! ### Faults, resets and recovery (chapter 13) -/

/-- R398 PHASE. -/
inductive UnitPhase where
  | service | hold | reset | resync | search | retired
deriving DecidableEq, Repr

/-- A suspect of a search (R386): its context, when its earliest interrupted work began, and that work: tile commands,
segments (channel, segment number, whether a read) and Dispatch-Combine commands. -/
structure Suspect where
  cab   : Nat
  ctx   : Nat
  start : Nat
  cmds  : List Nat := []
  segs  : List (Nat × Nat × Bool) := []
  dces  : List (Nat × Nat) := []
deriving DecidableEq, Repr

/-- A search (R386). The head of `left` is replayed; `began` is when its replay began. -/
structure Search where
  unit  : Nat
  left  : List Suspect
  began : Nat
deriving DecidableEq, Repr

/-- What the recovery rules keep of one unit. -/
structure UnitSt where
  epoch  : Nat := 1
  phase  : UnitPhase := .service
  cls    : Nat := 0                -- class of the event of the running reset
  began  : Nat := 0                -- its detection
  resets : List Nat := []          -- detections of the ENGINE resets counted towards ESC_COUNT (R382)
  wait   : List Suspect := []      -- suspects of the search that follows the reset (R386)
  failed : Bool := false           -- a phase of the running reset has missed its limit
deriving DecidableEq, Repr

/-- A CABINET reset (R391); `began` is none while it waits for BUSY or a teardown. -/
structure CabReset where
  cab   : Nat
  began : Option Nat
deriving DecidableEq, Repr

/-- What RST_RESULT waits for (R397). -/
inductive RstWait where
  | none | context (cab ctx : Nat) | engine (unit : Nat) | cabinet (cab : Nat) | dump
deriving DecidableEq, Repr

/-- A dump being written (R394 to R396). -/
structure DumpNext where
  level  : Nat                     -- 4 CHIP, 5 TRAY
  reason : Nat                     -- of POWER_CYCLE: 2 ESCALATION, 3 RST_CMD
  unit   : Nat
deriving DecidableEq, Repr

structure Dump where
  host    : Bool                   -- in the host Chest
  trigger : Nat
  first   : Nat                    -- the unit whose fault triggered it
  tStart  : Nat
  seq     : Nat
  rcd     : List Byte              -- the triggering fault record
  bad     : List (Nat × Nat) := [] -- units whose read timed out, with the offset
  next    : Option DumpNext := none -- the reset that follows
  since   : Nat
deriving DecidableEq, Repr

/-- The recovery logic. -/
structure RcvUnit where
  units  : FMap UnitSt := []       -- by unit ID
  cabEp  : FMap Nat := []          -- cabinet epochs, 1 where unlisted
  faults : Nat := 0                -- the fault ring's record count f
  searches  : List Search := []
  deferred  : List (Nat × Nat × Option Nat) := [] -- fault events deferred by a stop (R463): unit, class, channel
  cabResets : List CabReset := []
  wait      : RstWait := .none
  dump      : Option Dump := none
  heldFrom  : List (Nat × Nat) := []  -- units whose traffic a reset holds, with the start (R45, R381)
deriving DecidableEq, Repr

/-! ### Observation (chapter 16) -/

/-- R461. -/
inductive StopState where
  | idle | armed | stopping | stopped
deriving DecidableEq, Repr

/-- The Observation Unit. Its registers stand in the register map. -/
structure OuUnit where
  smpCount : Nat := 0              -- records of the sampler ring
  trcCount : Nat := 0
  stop     : StopState := .idle
  cause    : Nat := 0
  stopId   : Nat := 0
  t        : Nat := 0              -- T
  sAt      : Nat := 0              -- S
  tu       : Nat := 0              -- T_u
  fabric   : Bool := false         -- the stop is a fabric stop
  unitsStopped : Bool := false
  incomplete : Bool := false
  resume   : Bool := false         -- a RESUME is held until STOPPED
  wrote    : Nat := 0              -- ports written by the capture
  resync   : Bool := false         -- the next sampler record carries RESYNC (R468)
  smpAt    : Option Nat := none    -- the last sample instant taken (R454)
  missed   : Nat := 0              -- samples discarded since the last record written (R455)
  wasStopped : Bool := false       -- a stop lay behind the last record (R455)
  portsDue : Bool := false         -- port records are written with ledgers open (R464)
  sensors  : FMap (Nat × Nat × Nat) := [] -- latest reading of each sensor: value, kind, arrival (R456)
deriving DecidableEq, Repr

/-! ### Ports (chapter 17) -/

/-- An access through BAR4: the function, the address, the bytes of a write or the length of a read (R475). -/
structure HostAccess where
  func : Nat
  addr : Nat
  len  : Nat
  data : Option (List Byte)
deriving DecidableEq, Repr

/-- An access to a unit's register that waits for the unit's reset to end (R495): the function, the offset in its window, the
word of a write, and whether it came by the debug port's DBG_REG. -/
structure HeldAccess where
  func : Nat
  off  : Nat
  data : Option Word
  tap  : Bool := false
deriving DecidableEq, Repr

/-- A doorbell write that waits for the Host Gate's reset to end. -/
structure HeldBell where
  func  : Nat
  off   : Nat
  len   : Nat
  pasid : Option Nat
  value : Word
deriving DecidableEq, Repr

/-- The Host Gate. -/
structure HgUnit where
  cfg     : FMap Word := []        -- hg_cfg_data of each function (R476)
  flr     : List (Nat × Nat) := [] -- functions whose FLR is in progress, with their cabinets
  held    : List HostAccess := []  -- BAR4 accesses a global stop or a reset holds, oldest first (R380, R462)
  regs    : List HeldAccess := []  -- register accesses a reset of their unit holds, oldest first (R495)
  bells   : List HeldBell := []    -- doorbell writes the Host Gate's own reset holds, oldest first (R380)
  release : Bool := false          -- hg_release (R410)
deriving DecidableEq, Repr

/-! ### Dispatch-Combine Engine (chapter 08) -/

inductive DceKind where
  | route | ret | combine
deriving DecidableEq, Repr

/-- Where a ROUTE, RETURN or COMBINE stands (R253, R260). -/
inductive DcePhase where
  | queued       -- validated; its exchange has not begun
  | staging      -- its sets are sent
  | committing   -- past its sequence point
  | gathering    -- a COMBINE that waits for its return sets
deriving DecidableEq, Repr

/-- A set's destination: node, cabinet, the ticket its packets name, its index at the other side. -/
structure Peer where
  node   : Nat
  cab    : Nat
  ticket : Nat
deriving DecidableEq, Repr

/-- A command of the engine. -/
structure DceCmd where
  cab       : Nat
  drawer    : Nat
  seq       : Nat
  ctx       : Nat
  kind      : DceKind
  direct    : Bool
  phase     : DcePhase := .queued
  ticket    : Nat := 0
  table     : Nat := 0              -- the home table's object (R255)
  homes     : List Byte := []       -- its snapshot (R241)
  peers     : List Peer := []       -- the ranks a set goes to, in rank order
  epoch     : Nat := 0
  staged    : List Nat := []        -- ranks that replied STAGED
  committed : List Nat := []        -- ranks that replied COMMITTED
  deadline  : Nat := 0              -- end of the running phase (R263)
  start     : Nat := 0
  holds     : List Hold := []
  slot      : Option Nat := none    -- the function-table slot a ROUTE evaluates
  outs      : List (Nat × Nat) := [] -- its declared outputs, by virtual address and bytes
  started   : Bool := false         -- it runs, though still to begin phase 1
deriving DecidableEq, Repr

/-- An open ticket (R248). -/
structure Ticket where
  cab      : Nat
  num      : Nat
  ctx      : Nat
  rows     : Nat
  k        : Nat
  h        : Nat
  rfmt     : Nat
  ranks    : List (Nat × Nat)       -- node and cabinet of each rank
  retVa    : Nat
  routVa   : Nat
  resv     : Nat                    -- granules reserved
  sent     : List Nat := []         -- choices sent to each rank
  returned : List Nat := []         -- ranks whose return set has committed
  aborted  : Bool := false
deriving DecidableEq, Repr

/-- A bound landing (R242 to R246). -/
structure Landing where
  cab      : Nat
  group    : Nat
  ctx      : Nat
  handle   : Nat
  base     : Nat                    -- virtual address of the landing object
  h        : Nat
  fmt      : Nat
  lexperts : Nat
  ranks    : Nat
  cap      : Nat
  bufs2    : Bool
  arrive   : Nat                    -- handles
  consumed : Nat
  resv     : Nat
  last     : List (Option Nat)      -- last arrived step of each part
  got      : List (Nat × Nat) := [] -- step and sender rank of sets committed and not yet arrived
  owed     : List Nat := []         -- steps whose ARRIVE is still to be signalled
  aborted  : Bool := false          -- ARRIVE carries an error
  owedErr  : Bool := false          -- that error is still to be attached
  unland   : Bool := false
  desc     : Option (Nat × Nat) := none -- the UNLAND that waits
deriving DecidableEq, Repr

/-- One SET packet's contents. -/
structure SetPart where
  group : Nat
  lexp  : Nat
  slot  : Nat
  tag   : Nat
  off   : Nat
  bytes : List Byte
deriving DecidableEq, Repr

/-- A SEAL's contents. -/
structure SealInfo where
  step  : Nat
  count : Nat
  xb    : Nat
  cap   : Nat
  rank  : Nat
  ret   : Bool
deriving DecidableEq, Repr

/-- A set being received (R253, R256). -/
structure InSet where
  id     : Nat
  cab    : Nat                      -- the receiving cabinet
  job    : Nat
  g      : Bool := false            -- the class of its packets
  node   : Nat                      -- the sender
  scab   : Nat
  epoch  : Nat
  ticket : Nat
  parts  : List SetPart := []
  fin    : Option SealInfo := none
  placed : List Nat := []           -- rows (their places in `parts`) already in shadow
  staged : Bool := false
  commit : Bool := false            -- COMMIT has arrived
deriving DecidableEq, Repr

/-- What the sets of one sender are told apart by (R256): the part of a landing, the ticket of a ROUTE or of a RETURN, or
an EPOCH that is over. -/
inductive SetKey where
  | part (group part : Nat)
  | sent (ticket : Nat)
  | back (ticket : Nat)
  | done
deriving DecidableEq, Repr

/-- An EPOCH seen: the highest of its key, from a sender at a receiving cabinet. -/
structure Seen where
  cab   : Nat
  node  : Nat
  scab  : Nat
  key   : SetKey
  epoch : Nat
deriving DecidableEq, Repr

/-- The Dispatch-Combine Engine. -/
structure DceUnit where
  cmds     : List DceCmd := []      -- in validation order
  tickets  : List Ticket := []
  landings : List Landing := []
  sets     : List InSet := []
  nextSet  : Nat := 0
  seen     : List Seen := []
deriving DecidableEq, Repr

/-! ### Moatis fabric (chapter 12) -/

/-- R349. -/
inductive PortState where
  | down | disc | up | miswired | held
deriving DecidableEq, Repr

/-- PG_LEDGER.LSTATE. -/
inductive LedgerState where
  | none | opened | closed | unmarked
deriving DecidableEq, Repr

/-- One port gate. -/
structure Port where
  st      : PortState := .down
  link    : Bool := false           -- the PHY reports link-up
  lanes   : Nat := 0
  ver     : Nat := 0
  node    : Nat := 0xFFFF           -- NEIGH_NODE
  nport   : Nat := 0                -- NEIGH_PORT
  nver    : Nat := 0                -- the neighbour's MAXVER
  discAt  : Nat := 0                -- when the next DISC is due
  queue   : List Packet := []       -- packets that wait to be sent, oldest first
  inq     : List Packet := []       -- packets held in the input buffer, oldest first
  lstate  : LedgerState := .none
  lstop   : Nat := 0
  ledger  : List Packet := []       -- packets recorded, oldest first
  lbytes  : Nat := 0
  lcount  : Nat := 0
  pstop   : Nat := 0                -- PG_PEERLEDGER
  ppkts   : Nat := 0
deriving DecidableEq, Repr

/-- What waits on a remote chip. -/
inductive RemoteWork where
  | read (tile tag : Nat)
  | write (tile tag : Nat)
  | signal (drawer seq : Nat)
deriving DecidableEq, Repr

/-- A remote request not yet answered. -/
structure RemoteReq where
  id       : Nat
  cab      : Nat
  node     : Nat
  job      : Nat
  epoch    : Nat
  owner    : Option Owner
  work     : RemoteWork
  len      : Nat
  deadline : Nat                    -- of a REMOTE SIGNAL (R97)
  ord      : Nat := 0               -- its place among the requests of its run (R479)
deriving DecidableEq, Repr

/-- One triple of the abort cache (R362). -/
structure AbortSeen where
  job    : Nat
  origin : Nat
  serial : Nat
  time   : Nat
deriving DecidableEq, Repr

/-- A master's pace at injection: its origin, the bytes injected since, and the end of the last of them in the stage
(R299). -/
structure InjectPace where
  k0  : Nat
  g   : Nat
  til : Nat
deriving DecidableEq, Repr

/-- The Fabric Router and the port gates. -/
structure FrUnit where
  ports  : FMap Port := []
  here   : List Packet := []        -- packets on the local turn, oldest first
  waits  : List Packet := []        -- tagged packets that wait for TXKEY to flip (R359)
  rot    : List Nat := []           -- the rotation of each dimension (R354)
  serial : Nat := 0                 -- SERIAL of the next ABORT
  cache  : List AbortSeen := []     -- newest first
  keys   : FMap Nat := []           -- key halves by cabinet × 4 + k
  keyed  : List (Nat × Nat) := []   -- cabinet and slot written since the last change of TAG
  pctr   : FMap Nat := []           -- next payload counter of each cabinet
  reqs   : List RemoteReq := []
  reqNo  : Nat := 0
  floor  : Nat := 32                -- the router's own floor in force (R298)
  held   : Bool := false            -- a hold lies in the running interval (R48)
  tx     : FMap Nat := []           -- bytes injected in the running interval by master (R299)
  stage  : Nat := 0                 -- bytes the injection stage could have passed up to its last packet's end (R299)
  pace   : FMap (Option InjectPace) := [] -- by master, 256 the router's own
deriving DecidableEq, Repr

/-! ### Step Batcher (chapter 05) -/

/-- R165, DRAIN apart. -/
inductive SbState where
  | off | idle | form | run
deriving DecidableEq, Repr

/-- R163; an ended request is no longer held. -/
inductive ReqStage where
  | pending | prefill | decode
deriving DecidableEq, Repr

/-- A live request. `total` tokens of TOKENS are its prompt (after a switch, with what was generated), `left` of them are
still to be taken in. -/
structure SbReq where
  drawer   : Nat
  seq      : Nat
  ctx      : Nat
  slot     : Nat
  model    : Nat                    -- object of the model record
  fallback : Option Nat
  tokens   : Nat                    -- handle
  progress : Nat
  cancel   : Nat
  maxNew   : Nat
  deadline : Nat
  stop     : Nat
  prompt   : Nat                    -- PROMPT_LEN
  total    : Nat
  left     : Nat
  gen      : Nat := 0               -- tokens generated
  stage    : ReqStage := .pending
  arrived  : Bool := false          -- taken from the arrival queue
  switched : Bool := false
  drop     : Bool := false          -- ended by a CONTEXT reset (R377)
  marked   : Bool := false
  chunk    : Nat := 0               -- k(q) of the running step
deriving DecidableEq, Repr

/-- One row of a batch table (R171), with its request's drawer and sequence number. -/
structure SbRow where
  drawer : Nat
  seq    : Nat
  slot   : Nat
  tokens : Nat
  ntok   : Nat
  flags  : Nat
  pos    : Nat
deriving DecidableEq, Repr

/-- Where a group stands in the running step (R172). -/
inductive GroupRun where
  | running | ok | failed (status unit : Nat)
deriving DecidableEq, Repr

/-- A group with its snapshot of the model record (R156, R158). -/
structure SbGroup where
  id      : Nat
  ctx     : Nat
  obj     : Nat
  base    : Nat                     -- the record's virtual address
  chunk   : Nat
  rowsMax : Nat
  margin  : Nat
  area    : Nat                     -- BATCH_AREA's object
  areaVa  : Nat
  maxPos  : Nat
  dec     : Nat
  pre     : Nat
  samples : Nat
  layers  : List Cmd                -- the layer images, as tile commands
  rows    : List SbRow := []        -- its batch table in the running step
  run     : GroupRun := .ok
  layer   : Nat := 0
  cmd     : Option Nat := none      -- the layer command it waits for
  ran     : Bool := false           -- it had rows in the running step (R159)
  since   : Nat := 0                -- when that was issued
  tau     : Nat := 0                -- ns of the layers committed in this step, each from its first issue (R173)
deriving DecidableEq, Repr

/-- A REQUEST that waits at admission (R162), with the objects it names and the groups it would make; `stale` once a group over
one of them is created or ends. -/
structure SbWait where
  drawer : Nat
  seq    : Nat
  ctx    : Nat
  objs   : List Nat
  news   : List SbGroup
  stale  : Bool := false
deriving DecidableEq, Repr

/-- One cabinet's batcher. -/
structure SbCab where
  st      : SbState := .off
  drain   : Bool := false
  err     : Nat := 0                -- CFG_ERR
  window  : Nat := 0                -- requests validated since the last boundary
  step    : Nat := 0                -- steps closed
  at_     : Nat := 0                -- timestamp of the last boundary
  charge  : Nat := 0                -- budget charged in the running step
  last    : Word := 0               -- SB_LAST
  reqs    : List SbReq := []        -- in admission order
  groups  : List SbGroup := []
  waits   : List SbWait := []
  nextId  : Nat := 0
  fresh   : Bool := false           -- the next boundary follows a discarded step (R180)
deriving DecidableEq, Repr

/-! ### The Plinth: start-up, power states, the tray controller (chapter 14) -/

/-- PLN_BOOT.PHASE (R402). -/
inductive Phase where
  | por | fuse | lifecycle | power | image | memory | run | halted
deriving DecidableEq, Repr

/-- The configuration image while it is loaded (R406 to R408). -/
structure Image where
  len    : Nat                      -- BODY_LEN
  digest : List Byte
  svn    : Nat
  body   : List Byte := []          -- the records streamed in so far
  exp    : Bool := false            -- a TABLE record with EXP has been seen
  slot   : Nat := 256               -- the last image slot filled; they fill downward from 255
  tables : Nat := 0                 -- tables installed
  cabs   : List (List Byte) := []   -- CABINET records held for release, in image order
  saved  : FMap Word := []          -- the registers before the image, which a failure brings back (R408)
deriving DecidableEq, Repr

/-- An entry into a power state under way (R415 to R418). -/
structure Entry where
  cab    : Option Nat               -- its cabinet; none for the block
  target : Nat                      -- 1 IDLE, 2 SLEEP, 3 DEEP, 4 OFF
  left   : List Nat                 -- those that have not answered: unit IDs, and 0x1000 + i for participant i
  asked  : Bool := true             -- false while it waits for other transitions to end (R419)
  start  : Nat
  byCmd  : Bool := false            -- PWR_CMD waits for it
  byTray : Bool := false            -- SET_POWER waits for it
deriving DecidableEq, Repr

/-- A message the block originates and repeats (R427, R428). -/
structure TrayMsg where
  code : Nat                        -- 0x10 POWER_CYCLE, 0x11 EVENT
  body : List Byte
  sent : Nat                        -- when it was last sent
deriving DecidableEq, Repr

/-- The Plinth. -/
structure PlnUnit where
  phase   : Phase := .por
  fail    : Nat := 0
  imageOk : Bool := false
  cold    : Bool := false
  releaseMs : Nat := 0
  startAt : Nat := 0                -- when the running or last start-up began
  phaseAt : Nat := 0                -- when its phase began
  afterChip : Bool := false         -- it follows a CHIP reset
  svn     : Nat := 0                -- PLN_IMG
  tables  : Nat := 0
  cabRecs : Nat := 0
  ready   : Nat := 0                -- ready signals of the rungs: bits 0 rail, 1 osc, 2 mem, 3 logic (R420)
  req     : Nat := 0                -- their requests
  rungAt  : Nat := 0                -- when the last request changed
  image   : Option Image := none
  records : List (List Byte) := []  -- CABINET records not yet activated
  init    : List Nat := []          -- gates whose sg_init answer is outstanding
  power   : Nat := 0                -- block state: 0 RUN, 1 IDLE, 2 SLEEP, 3 DEEP, 4 OFF
  waking  : Bool := false           -- an exit from SLEEP or DEEP is under way
  wake    : Nat := 0                -- its source bits
  entries : List Entry := []
  held    : Bool := false           -- every unit is held in reset until power is removed (R385, R437)
  addr    : Option Nat := none      -- the I3C dynamic address, once taken
  msgs    : List TrayMsg := []      -- originated and not acknowledged
  wakeReq : Nat := 0                -- SET_POWERs to RUN that wait for their answer
  trayBusy : Nat := 0               -- requests of the tray controller held (R428)
deriving DecidableEq, Repr

/-! ### Life cycle and debug (chapter 15) -/

/-- Where the burning of a pair stands (R437 step 4). -/
inductive BurnStep where
  | first | wipe | second
deriving DecidableEq, Repr

/-- What the life-cycle engine carries out. -/
structure LcJob where
  pairs   : List Nat                -- pairs still to burn, lowest first
  step    : BurnStep
  sectors : Nat := 0                -- sectors still to erase in this wipe
  tries   : Nat := 0                -- tries of the bit at hand
  boot    : Bool := false           -- in the LIFECYCLE phase of a start-up
  erase   : Bool := false           -- the erase of R444
  dump    : Bool := false           -- it waits for a Chest dump to end
  began   : Nat := 0                -- when it started
  total   : Nat := 0                -- sectors it erases in all (R439)
deriving DecidableEq, Repr

/-- The life-cycle engine. -/
structure LcUnit where
  state     : Nat := 0              -- the state in force (R431)
  raw       : Nat := 0              -- the ten bits as read at FUSE
  completed : Bool := false
  scopeOk   : Nat := 0
  erased    : Bool := false
  fails     : Nat := 0              -- TOKEN_FAILS
  reason    : Nat := 0              -- reason code of the last submission
  chal      : Option (List Byte) := none
  openField : Bool := false         -- OPEN_FIELD reached (R444)
  job       : Option LcJob := none
  chalWait  : List Nat := []        -- who waits for a challenge's draw: 0 LC_CMD, 1 TAP, 2 MCTP (R319, R441)
  tapOut    : Nat := 0              -- outcome of the last TAP LC_TRANSITION, captured next
deriving DecidableEq, Repr

/-! ### The whole block -/

/-- The tie-off pins of the integration (R483, R481): which ports are populated, the stacks' capacities in GiB, and the
TAP and ID pins. -/
structure Tie where
  tiles  : Nat := 2 ^ 192 - 1       -- bit i: tp_present of port i
  gates  : List Nat := [64, 64, 64, 64, 64, 64, 64, 64, 64, 64, 64, 64] -- sg_cap_gib of each populated gate, gate 0 first
  ports  : Nat := 2 ^ 48 - 1        -- bit p: fp_present of port p
deriving DecidableEq, Repr

/-- What the block puts out at its ports. -/
inductive Out where
  | read (w : Word)                                   -- data of a register read
  | bytes (bs : List Byte)                            -- data of a BAR4 or debug memory read
  | abort                                             -- a completion with Completer Abort (R475)
  | atsRequest (req func addr : Nat) (pasid : Option Nat) (write : Bool)   -- R125
  | pageRequest (group func addr : Nat) (pasid : Option Nat) (write : Bool) -- R127
  | invalidated (func itag : Nat)                     -- R126
  | issue (tile : Nat) (record : List Byte)           -- R186
  | kill (tile : Nat)                                 -- R193
  | clear (tile : Nat)                                -- R35
  | tileRead (tile tag status : Nat) (bs : List Byte) -- R478
  | tileWrite (tile tag status : Nat)
  | tableTo (tile slot : Nat) (image : List Byte)     -- R282
  | tableDrop (tile slot : Nat)
  | swapLoad (tile : Nat) (bs : List Byte)
  | packet (port : Nat) (p : Packet)                  -- R353
  | tray (code status : Nat) (body : List Byte)        -- an MCTP response (R426)
  | trayMsg (code : Nat) (body : List Byte)           -- an MCTP message of the block (R427)
  | gateLine (gate tag line : Nat) (write : Bool)     -- a line request to a memory controller (R481)
  | gateReply (gate tag status : Nat) (bs : List Byte) -- the gate's answer to its requester
  | flrDone (func : Nat)                              -- hg_flr_done (R477)
  | tap (v : Nat)                                     -- what a TAP data register shifts out (R445)
deriving DecidableEq, Repr

/-- The block's state. -/
structure State where
  pending : List Sys2Proof.Instr := []  -- commands waiting, first in first out
  out     : List Out := []              -- what the block has put out, newest first (the model's own, log 4)
  now     : Nat := 0                    -- the global timestamp (R423)
  tie     : Tie := {}
  free    : Nat := 0                    -- counter of free values (the model's own, log 5)
  regs    : FMap Word := []             -- registers by platform offset; unlisted reads as at reset (chapter 18)
  dev     : Mem := []                   -- device memory by physical address
  hostMem : Mem := []                   -- host memory by bus address
  lost    : List (Nat × Nat) := []      -- device ranges whose key is discarded: first byte and length (R41, R320)
  cabs    : FMap Cab := []
  drw     : DrwUnit := {}
  lat     : LatUnit := {}
  tu      : TuUnit := {}
  ts      : TsUnit := {}
  mix     : MixUnit := {}
  hg      : HgUnit := {}
  rcv     : RcvUnit := {}
  ou      : OuUnit := {}
  mono    : Nat := 0                    -- time that limits are measured by: it stands still in a stop (R463)
  ft      : FtUnit := {}
  me      : MeUnit := {}
  dce     : DceUnit := {}
  fr      : FrUnit := {}
  sb      : FMap SbCab := []            -- by cabinet
  pln     : PlnUnit := {}
  lc      : LcUnit := {}
  fuse    : Fuses := {}
  sg      : FMap SgUnit := []           -- by gate
  urg     : UrgUnit := {}
deriving DecidableEq, Repr

/-- Why the machine stops with a fault. -/
inductive Fault where
  | illFormed (what : String)  -- raised by the meanings of commands whose operand lists no port can carry (see
                               -- Sys2Proof.Instr.wf); safe: such a command cannot reach the block
deriving DecidableEq, Repr

/-- Why a command has no meaning. -/
inductive Refusal where
  | notModelled (mnemonic : String) -- raised by exec for a command without a meaning yet; safe: nothing is claimed
  | scanChain                       -- raised by TAP_PRIVATE: the spec does not describe the scan chains; safe
deriving DecidableEq, Repr

/-- The block at power-on reset: every register at its reset value, nothing held, PHASE POR. -/
def State.reset : State := {}

end Sys2Proof.Machine
end

