-- ==== Sys2Proof/Machine/Flags.lean ====
section
/-! DEFINITION. Bit fields of registers, the register map of chapter 18 as a table (offsets, access codes of R13, reset
values), and saturating counters. -/
namespace Sys2Proof.Machine

/-- Bits [hi:lo] of a number. -/
def bitsOf (v hi lo : Nat) : Nat := v / 2 ^ lo % 2 ^ (hi + 1 - lo)

/-- Bits [hi:lo] of a word. -/
def fld (w : Word) (hi lo : Nat) : Nat := bitsOf w.toNat hi lo

/-- A word with bits [hi:lo] replaced by the low bits of `v`. -/
def setFld (w : Word) (hi lo v : Nat) : Word :=
  BitVec.ofNat 64 (w.toNat - fld w hi lo * 2 ^ lo + v % 2 ^ (hi + 1 - lo) * 2 ^ lo)

/-- A word made of (low bit, value) fields that do not overlap. -/
def pack (fs : List (Nat × Nat)) : Word :=
  BitVec.ofNat 64 (fs.foldl (fun a f => a + f.2 * 2 ^ f.1) 0)

/-- The mask of bits [hi:lo]. -/
def mk (hi lo : Nat) : Nat := 2 ^ (hi + 1) - 2 ^ lo

/-- 1 for true. -/
def bit (b : Bool) : Nat := if b then 1 else 0

/-- A row of the register map: `n1` × `n2` registers at `base + i × s1 + j × s2`, the bits of each access code of R13,
and the reset value. -/
structure RegRow where
  base  : Nat
  s1    : Nat := 8
  n1    : Nat := 1
  s2    : Nat := 8
  n2    : Nat := 1
  rw    : Nat := 0
  rwl   : Nat := 0
  w1c   : Nat := 0
  w1s   : Nat := 0
  rc    : Nat := 0
  reset : Nat := 0

/-- Whether an offset is one of a row's registers. -/
def RegRow.has (r : RegRow) (off : Nat) : Bool :=
  let d := off - r.base
  let i := if r.n1 ≤ 1 then 0 else d / r.s1
  let e := d - i * r.s1
  decide (r.base ≤ off) && decide (i < r.n1) && decide (e % r.s2 = 0) && decide (e / r.s2 < r.n2)

/-- All 64 bits. -/
def all64 : Nat := 2 ^ 64 - 1

/-- Chapters 17 and 18, BLK range (R497); RST, RCV, FLT and RETIRED rows stand with chapter 13. -/
def rowsBlk : List RegRow := [
  { base := 0x0, reset := 0x4B58000303010000 },
  { base := 0x8, reset := 0xFFFFC701 },
  { base := 0x10, w1c := mk 63 62 },
  { base := 0x18, w1s := 1 },
  { base := 0x100, rwl := mk 2 0 },
  { base := 0x140, rwl := mk 43 21 },
  { base := 0x148, rwl := mk 23 0 } ]

/-- Chapters 01 to 03, cabinet windows (R500). -/
def rowsWindow : List RegRow := [
  { base := 0x100010, s1 := 0x1000, n1 := 256, rw := mk 7 0 },
  { base := 0x100018, s1 := 0x1000, n1 := 256, rw := mk 8 8 + mk 5 0, reset := 0x108 },
  { base := 0x100020, s1 := 0x1000, n1 := 256, n2 := 4, rw := all64 },
  { base := 0x100040, s1 := 0x1000, n1 := 256, rw := mk 56 48 + mk 46 32 + mk 30 16 + mk 13 0 },
  { base := 0x100048, s1 := 0x1000, n1 := 256, rw := mk 20 0 },
  { base := 0x100050, s1 := 0x1000, n1 := 256, rw := mk 26 16 + mk 10 0 },
  { base := 0x100100, s1 := 0x1000, n1 := 256, n2 := 16, rw := mk 45 0 },
  { base := 0x100408, s1 := 0x1000, n1 := 256, rw := mk 43 12 },
  { base := 0x100410, s1 := 0x1000, n1 := 256, rw := mk 20 0 },
  { base := 0x100418, s1 := 0x1000, n1 := 256, reset := 2 ^ 63 },
  { base := 0x100448, s1 := 0x1000, n1 := 256, n2 := 2, rw := mk 56 0 },
  { base := 0x100458, s1 := 0x1000, n1 := 256, rw := mk 45 32 + mk 27 24 + mk 20 16 + mk 12 8 + mk 4 0 },
  { base := 0x100460, s1 := 0x1000, n1 := 256, reset := 2 ^ 63 },
  { base := 0x100468, s1 := 0x1000, n1 := 256, rw := mk 12 0 },
  { base := 0x1004C8, s1 := 0x1000, n1 := 256, n2 := 2, rw := mk 56 0 },
  { base := 0x1004D8, s1 := 0x1000, n1 := 256, rw := mk 63 32 + mk 17 16 + mk 13 0 },
  { base := 0x1004E0, s1 := 0x1000, n1 := 256, reset := 2 ^ 63 },
  { base := 0x100540, s1 := 0x1000, n1 := 256, reset := 2 ^ 63 },
  { base := 0x100548, s1 := 0x1000, n1 := 256, n2 := 7 },
  { base := 0x100580, s1 := 0x1000, n1 := 256, rc := all64 },
  { base := 0x100808, s1 := 0x1000, n1 := 256, rw := mk 45 0 },
  { base := 0x100810, s1 := 0x1000, n1 := 256, rw := mk 62 0 },
  { base := 0x100818, s1 := 0x1000, n1 := 256, rw := mk 56 0 },
  { base := 0x100820, s1 := 0x1000, n1 := 256, rw := mk 63 48 + mk 27 16 + mk 8 8 + 1 },
  { base := 0x100828, s1 := 0x1000, n1 := 256, reset := 2 ^ 63 },
  { base := 0x100830, s1 := 0x1000, n1 := 256, rw := mk 47 32 + mk 15 0, reset := 0x0000000A0000000A },
  { base := 0x100838, s1 := 0x1000, n1 := 256, rw := mk 13 0 },
  { base := 0x100880, s1 := 0x1000, n1 := 256, rc := all64 } ]

/-- Chapters 02 to 04 and 06, chip-wide (R501). -/
def rowsDrwTu : List RegRow := [
  { base := 0x200000, rw := mk 20 0 },
  { base := 0x200100, rc := all64 },
  { base := 0x300000, rw := mk 13 0 },
  { base := 0x300100, rc := all64 },
  { base := 0x400000, rw := mk 37 0, reset := 0x0000001000142710 },
  { base := 0x400008, rc := all64 },
  { base := 0x400010 },
  { base := 0x410000, s1 := 0x20, n1 := 256, rw := all64 },
  { base := 0x410008, s1 := 0x20, n1 := 256, rw := mk 12 8 + mk 2 0 },
  { base := 0x410010, s1 := 0x20, n1 := 256, rw := all64 },
  { base := 0x410018, s1 := 0x20, n1 := 256 },
  { base := 0x420000, s1 := 8, n1 := 256, rc := all64 },
  { base := 0x520000, rwl := mk 47 32 + mk 14 0, reset := 0x00000BB800004000 },
  { base := 0x520008, rc := mk 63 32 },
  { base := 0x520100, rw := mk 7 0 },
  { base := 0x520200, rw := mk 21 0 },
  { base := 0x530000, s1 := 0x20, n1 := 256, rw := mk 63 56 + mk 48 0, reset := 0x1001001427100032 },
  { base := 0x530010, s1 := 0x20, n1 := 256, n2 := 2, rc := all64 } ]

/-- Chapter 11, gates and chip-wide mix registers (R341, R342). -/
def rowsMix : List RegRow := [
  { base := 0x803000, s1 := 0x10000, n1 := 12, rwl := mk 55 48 + mk 36 12 },
  { base := 0x803008, s1 := 0x10000, n1 := 12, rc := all64 },
  { base := 0x803010, s1 := 0x10000, n1 := 12, w1c := mk 63 63 },
  { base := 0x803018, s1 := 0x10000, n1 := 12, n2 := 2, rc := all64 },
  { base := 0x8D0000, n2 := 2, rwl := mk 43 12 },
  { base := 0x8D0010, rc := all64 },
  { base := 0x8D0028, rw := mk 43 13 + mk 7 0 },
  { base := 0x8D0030, rw := mk 43 13 },
  { base := 0x8D0038, reset := 2 ^ 63 },
  { base := 0x8D0040, rw := mk 5 0 } ]

/-- Chapter 13, RST, RCV, FLT and Chest registers (R398). -/
def rowsRcv : List RegRow := [
  { base := 0x1008, rw := all64 },
  { base := 0x1010, reset := 2 ^ 63 },
  { base := 0x1018, rw := mk 63 20 + mk 13 0, reset := 0x033E80C806401432 },
  { base := 0x1020, rc := all64 },
  { base := 0x1028, rw := mk 12 0 },
  { base := 0x1040, rw := all64 },
  { base := 0x1048, rw := mk 12 8 + mk 2 0 },
  { base := 0x1050, rw := all64 },
  { base := 0x1058, rw := mk 31 0 },
  { base := 0x1060 },
  { base := 0x1080, n2 := 4 },
  { base := 0xA08000, rwl := mk 43 12 },
  { base := 0xA08008, rw := mk 63 12 + 1 },
  { base := 0xA08010, rw := mk 23 8 + mk 1 0, reset := 0x3201 },
  { base := 0xA08018, rc := mk 15 8, w1s := mk 4 4 } ]

/-- Chapter 16, OU registers (R467). -/
def rowsOu : List RegRow := [
  { base := 0xA00000, rwl := mk 43 16 },
  { base := 0xA00008, rwl := mk 27 0 },
  { base := 0xA00010, rc := mk 47 0 },
  { base := 0xA00018 },
  { base := 0xA00100, rw := mk 63 40 + mk 36 30 + mk 19 0, reset := 0x3E8 },
  { base := 0xA00108, rw := mk 31 0 },
  { base := 0xA00110 },
  { base := 0xA00140, n2 := 8, rw := mk 31 31 + mk 21 0 },
  { base := 0xA00200, rw := mk 63 40 + mk 36 30 + mk 24 16 + mk 8 0 },
  { base := 0xA00208, rw := mk 31 0 },
  { base := 0xA00210 },
  { base := 0xA00308, rw := all64 },
  { base := 0xA00310, rw := mk 63 16 + mk 8 8 + mk 2 0, reset := 0x0002000027100100 },
  { base := 0xA00318, reset := 2 ^ 63 },
  { base := 0xA00328, rw := all64 },
  { base := 0xA00400, n2 := 16 },
  { base := 0xA01000, n2 := 64, rw := mk 31 20 + mk 16 16 + mk 15 0 },
  { base := 0xA01400, n2 := 64 } ]

/-- Chapters 06 to 09: ME, DCE and FT ranges (R236, R268, R291); channel windows are views. -/
def rowsMe : List RegRow := [
  { base := 0x640000, rc := all64 },
  { base := 0x650000, n2 := 256, rw := mk 10 0, reset := 0x40 },
  { base := 0x660000, n2 := 256, rc := all64 },
  { base := 0x720008, rw := mk 7 0 },
  { base := 0x721000, n2 := 256, rc := mk 63 32 } ]

/-- Chapters 08, 10 and 12: DCE, gate, urgency, router, port and job registers (R268, R312, R314, R366). -/
def rowsFab : List RegRow := [
  { base := 0x700000, rw := mk 31 0, reset := 0x186A0 },
  { base := 0x700008, rc := mk 63 16 },
  { base := 0x700100, rw := mk 11 0 },
  { base := 0x710000, s1 := 0x10, n1 := 256, rw := mk 10 0, reset := 0x40 },
  { base := 0x710008, s1 := 0x10, n1 := 256, rc := all64 },
  { base := 0x800000, s1 := 0x10000, n1 := 12, rwl := mk 10 0, reset := 0x400 },
  { base := 0x800008, s1 := 0x10000, n1 := 12, rw := mk 26 16 + mk 10 0, reset := 0x10 },
  { base := 0x800010, s1 := 0x10000, n1 := 12, rw := mk 8 0, reset := 0x100 },
  { base := 0x800018, s1 := 0x10000, n1 := 12, rc := mk 63 16, w1c := mk 9 9 },
  { base := 0x801000, s1 := 0x10000, n1 := 12, n2 := 258, rw := mk 31 0 },
  { base := 0x802000, s1 := 0x10000, n1 := 12, n2 := 258, rc := mk 63 48 + mk 31 0 },
  { base := 0x8C0000, n2 := 32, rwl := mk 15 14 + mk 8 0 },
  { base := 0x8C0100, rw := mk 15 0, reset := 0x64 },
  { base := 0x8C0108, w1c := mk 63 32 },
  { base := 0x900000, rw := mk 15 0, reset := 0xFFFF },
  { base := 0x900008, rw := mk 47 16 + mk 8 8 + mk 5 4 + mk 2 0, reset := 0x4000000020 },
  { base := 0x900010, w1c := mk 2 2 },
  { base := 0x900018, rc := all64 },
  { base := 0x900020, rc := mk 63 16 },
  { base := 0x900080, rw := mk 10 0, reset := 0x20 },
  { base := 0x900100, rw := mk 7 4 + mk 1 0 },
  { base := 0x901000, s1 := 0x1000, n1 := 48, rw := mk 11 8 + mk 5 4 + 1, reset := 0x300 },
  { base := 0x901010, s1 := 0x1000, n1 := 48, rc := all64 },
  { base := 0x940000, s1 := 0x40, n1 := 256, rw := mk 33 32 + mk 29 16 + mk 15 0 } ]

/-- Chapter 05 (R178). -/
def rowsSb : List RegRow := [
  { base := 0x500000, rc := mk 63 16 },
  { base := 0x510000, s1 := 0x40, n1 := 256, rw := mk 62 48 + mk 45 32 + 1, reset := 0x4000100000000000 },
  { base := 0x510008, s1 := 0x40, n1 := 256, rw := mk 43 16 },
  { base := 0x510028, s1 := 0x40, n1 := 256, rc := all64 } ]

/-- Chapter 14 (R429). PLN_TS, PLN_BOOT, PLN_IMG, PWR_STATE and PWR_CSTATE are views. -/
def rowsPln : List RegRow := [
  { base := 0x10020, rc := mk 15 0 },
  { base := 0x10028, w1c := mk 16 16 },
  { base := 0x10048, reset := 2 ^ 63 },
  { base := 0x10050, rw := mk 33 0, reset := 0x000000010003D090 },
  { base := 0x10060, rc := mk 31 0 },
  { base := 0x10068 },
  { base := 0x10070, w1c := mk 6 0 },
  { base := 0x10078, rw := all64 },
  { base := 0x10100, n2 := 64, rwl := mk 15 15 + mk 11 0 },
  { base := 0x10400, n2 := 256, rw := mk 31 0, reset := 0x64 } ]

/-- Chapter 15 (R447). -/
def rowsLc : List RegRow := [
  { base := 0xF00018, reset := 2 ^ 63 },
  { base := 0xF00100, n2 := 32, rw := all64 } ]

/-- The register map. -/
def regRows : List RegRow := rowsBlk ++ rowsWindow ++ rowsDrwTu ++ rowsMix ++ rowsRcv ++ rowsOu ++ rowsMe ++ rowsFab ++ rowsSb ++
  rowsPln ++ rowsLc

/-- The row of an offset. -/
def regRow (off : Nat) : Option RegRow := regRows.find? (fun r => r.has off)

/-- The reset value of an offset; 0 where no register stands (R492). -/
def regReset (off : Nat) : Word :=
  match regRow off with
  | some r => BitVec.ofNat 64 r.reset
  | none => 0

/-- BLK_ID: INTEG_ID reads 0 until fuse loading has completed, then the fused value (R4). -/
def State.blkId (s : State) : Word :=
  if s.pln.phase == .por || s.pln.phase == .fuse || s.pln.fail == 1 then regReset 0
  else regReset 0 + BitVec.ofNat 64 (s.fuse.integId % 2 ^ 16)

/-- A stored register. -/
def State.reg (s : State) (off : Nat) : Word := (mapFind off s.regs).getD (regReset off)

/-- Store a register. -/
def State.setReg (s : State) (off : Nat) (w : Word) : State :=
  { s with regs := mapSet (regReset off) off w s.regs }

/-- A field of a stored register. -/
def State.rfld (s : State) (off hi lo : Nat) : Nat := fld (s.reg off) hi lo

/-- Set a field of a stored register. -/
def State.setRfld (s : State) (off hi lo v : Nat) : State := s.setReg off (setFld (s.reg off) hi lo v)

/-- Add to a counter field, saturating (R178, R153 and their like). -/
def State.bump (s : State) (off hi lo : Nat) (n : Nat := 1) : State :=
  s.setRfld off hi lo (min (s.rfld off hi lo + n) (2 ^ (hi + 1 - lo) - 1))

/-- Put out an event at a port. -/
def State.emit (s : State) (o : Out) : State := { s with out := o :: s.out }

/-- What a plain register write leaves, by the access codes of R13; `locked` is BLK_LOCK.LOCK. -/
def writeMasked (r : RegRow) (locked : Bool) (old v : Word) : Word :=
  let m : Word := BitVec.ofNat 64 (r.rw + if locked then 0 else r.rwl)
  let kept := (old &&& ~~~m) ||| (v &&& m)
  (kept &&& ~~~(v &&& BitVec.ofNat 64 r.w1c)) ||| (v &&& BitVec.ofNat 64 r.w1s)

/-- What a read of an RC register leaves (R13). -/
def readClears (r : RegRow) (old : Word) : Word := old &&& ~~~(BitVec.ofNat 64 r.rc)

/-! Offsets of the registers the meanings name; `n` is a cabinet, `g` a gate. -/

/-- Cabinet n's window. -/
def rWin (n : Nat) : Nat := 0x100000 + n * 0x1000
/-- Cabinet n's report page. -/
def rRep (n : Nat) : Nat := 0xA80000 + n * 0x1000
def rLock : Nat := 0x18
def rCabFunc (n : Nat) : Nat := rWin n + 0x10
def rCabCfg (n : Nat) : Nat := rWin n + 0x18
def rCabTile (n k : Nat) : Nat := rWin n + 0x20 + 8 * k
def rQuotaA (n : Nat) : Nat := rWin n + 0x40
def rQuotaB (n : Nat) : Nat := rWin n + 0x48
def rCabBw (n : Nat) : Nat := rWin n + 0x50
def rShelf (n k : Nat) : Nat := rWin n + 0x100 + 8 * k
def rCtxArg0 (n : Nat) : Nat := rWin n + 0x408
def rCtxArg1 (n : Nat) : Nat := rWin n + 0x410
def rCtxResult (n : Nat) : Nat := rWin n + 0x418
def rDrwArg (n k : Nat) : Nat := rWin n + 0x448 + 8 * k
def rDrwResult (n : Nat) : Nat := rWin n + 0x460
def rMobjArg (n k : Nat) : Nat := rWin n + 0x4C8 + 8 * k
def rMobjResult (n : Nat) : Nat := rWin n + 0x4E0
def rQry (n k : Nat) : Nat := rWin n + 0x540 + 8 * k
def rDbDrops (n : Nat) : Nat := rWin n + 0x580
def rDbGdrops : Nat := 0x200100
def rLatArg (n k : Nat) : Nat := rWin n + 0x808 + 8 * k
def rLatResult (n : Nat) : Nat := rWin n + 0x828
def rLatCfg (n : Nat) : Nat := rWin n + 0x830
def rLatStat (n : Nat) : Nat := rWin n + 0x880
def rLatGstat : Nat := 0x300100
def rTuCfg : Nat := 0x400000
def rTuGstat : Nat := 0x400008
def rTuSeq : Nat := 0x400010
def rFqBase (n : Nat) : Nat := 0x410000 + n * 0x20
def rFqCfg (n : Nat) : Nat := 0x410008 + n * 0x20
def rFqNotify (n : Nat) : Nat := 0x410010 + n * 0x20
def rFqStat (n : Nat) : Nat := 0x410018 + n * 0x20
def rTuCstat (n : Nat) : Nat := 0x420000 + n * 8
def rTsGcfg : Nat := 0x520000
def rTsGstat : Nat := 0x520008
def rTsCfg (n : Nat) : Nat := 0x530000 + n * 0x20
def rTsCnt (n : Nat) : Nat := 0x530010 + n * 0x20
def rTsCnt2 (n : Nat) : Nat := 0x530018 + n * 0x20
def rMdBase (g : Nat) : Nat := 0x803000 + g * 0x10000
def rMixStat (g : Nat) : Nat := 0x803008 + g * 0x10000
def rDeny (g : Nat) : Nat := 0x803010 + g * 0x10000
def rMdc (g : Nat) : Nat := 0x803018 + g * 0x10000
def rRemix (g : Nat) : Nat := 0x803020 + g * 0x10000
def rNodeBase : Nat := 0x8D0000
def rNodeSize : Nat := 0x8D0008
def rMixGstat : Nat := 0x8D0010
def rRiArg (k : Nat) : Nat := 0x8D0028 + 8 * k
def rRiResult : Nat := 0x8D0038
def rFltBase : Nat := 0x1040
def rFltCfg : Nat := 0x1048
def rFltNotify : Nat := 0x1050
def rFltHead : Nat := 0x1058
def rFltStat : Nat := 0x1060
def rRcvCfg : Nat := 0x1018
def rRcvStat : Nat := 0x1020
def rRetired (k : Nat) : Nat := 0x1080 + 8 * k
def rChestBase : Nat := 0xA08000
def rOuBase : Nat := 0xA00000
def rOuSize : Nat := 0xA00008
def rOuGstat : Nat := 0xA00010
def rSmpCfg : Nat := 0xA00100
def rSmpHead : Nat := 0xA00108
def rSmpStat : Nat := 0xA00110
def rTrcCfg : Nat := 0xA00200
def rTrcHead : Nat := 0xA00208
def rTrcStat : Nat := 0xA00210
def rStopCfg : Nat := 0xA00310
def rStopResult : Nat := 0xA00318
def rStopArea : Nat := 0xA00328
def rCsel (k : Nat) : Nat := 0xA01000 + 8 * k
def rCtr (k : Nat) : Nat := 0xA01400 + 8 * k
def rMeGstat : Nat := 0x640000
def rMeClim (n : Nat) : Nat := 0x650000 + n * 8
def rMeCstat (n : Nat) : Nat := 0x660000 + n * 8
def rFtCstat (n : Nat) : Nat := 0x721000 + n * 8
def rDceCfg : Nat := 0x700000
def rDceGstat : Nat := 0x700008
def rDceLsel : Nat := 0x700100
def rDceClim (n : Nat) : Nat := 0x710000 + n * 0x10
def rDceCstat (n : Nat) : Nat := 0x710008 + n * 0x10
def rSgCap (g : Nat) : Nat := 0x800000 + g * 0x10000
def rSgNcfloor (g : Nat) : Nat := 0x800008 + g * 0x10000
def rSgQlim (g : Nat) : Nat := 0x800010 + g * 0x10000
def rSgStat (g : Nat) : Nat := 0x800018 + g * 0x10000
def rSgThr (g m : Nat) : Nat := 0x801000 + g * 0x10000 + m * 8
def rSgLat (g m : Nat) : Nat := 0x802000 + g * 0x10000 + m * 8
def rUrgMap (i : Nat) : Nat := 0x8C0000 + i * 8
def rUrgCfg : Nat := 0x8C0100
def rUrgStat : Nat := 0x8C0108
def rFrNode : Nat := 0x900000
def rFrCfg : Nat := 0x900008
def rFrStat : Nat := 0x900010
def rFrCnt : Nat := 0x900018
def rFrCnt2 : Nat := 0x900020
def rFrNcfloor : Nat := 0x900080
def rFrRtsel : Nat := 0x900100
def rPgCfg (p : Nat) : Nat := 0x901000 + p * 0x1000
def rPgCnt (p : Nat) : Nat := 0x901010 + p * 0x1000
def rFrJob (n : Nat) : Nat := 0x940000 + n * 0x40
def rSbGstat : Nat := 0x500000
def rSbCfg (n : Nat) : Nat := 0x510000 + n * 0x40
def rSbArea (n : Nat) : Nat := 0x510008 + n * 0x40
def rSbCnt (n : Nat) : Nat := 0x510028 + n * 0x40
def rPlnTsStat : Nat := 0x10020
def rPlnClk : Nat := 0x10028
def rPwrResult : Nat := 0x10048
def rPwrCfg : Nat := 0x10050
def rPwrRefuse : Nat := 0x10060
def rPwrLast : Nat := 0x10068
def rPwrWake : Nat := 0x10070
def rPwrWakeAt : Nat := 0x10078
def rQsMap (i : Nat) : Nat := 0x10100 + 8 * i
def rPwrCab (n : Nat) : Nat := 0x10400 + 8 * n
def rLcResult : Nat := 0xF00018
def rLcToken (k : Nat) : Nat := 0xF00100 + 8 * k
def rWorkBase : Nat := 0x140
def rWorkSize : Nat := 0x148
def rMemMap : Nat := 0x100

end Sys2Proof.Machine
end

