-- ==== Sys2Proof/Machine/Ops.lean ====
section
/-! DEFINITION. The shared operations over the state: accessors, the address map (R482), the stack gate's checks (R323)
and accesses, host memory (R475, R476), trace, fault ring and counter bank. -/
namespace Sys2Proof.Machine

/-! ### Accessors -/

def State.cab (s : State) (n : Nat) : Cab := mapGet {} n s.cabs
def State.setCab (s : State) (n : Nat) (c : Cab) : State := { s with cabs := mapSet {} n c s.cabs }

/-- Key of a context: cabinet and number. -/
def ctxKey (cab c : Nat) : Nat := cab * 16384 + c
def State.ctx (s : State) (cab c : Nat) : Ctx := mapGet {} (ctxKey cab c) s.drw.ctxs
def State.setCtx (s : State) (cab c : Nat) (v : Ctx) : State :=
  { s with drw := { s.drw with ctxs := mapSet {} (ctxKey cab c) v s.drw.ctxs } }

/-- Key of a drawer: cabinet and local index (R51). -/
def drwKey (cab i : Nat) : Nat := cab * 8192 + i
def State.drawer (s : State) (cab i : Nat) : Drawer := mapGet {} (drwKey cab i) s.drw.drawers
def State.setDrawer (s : State) (cab i : Nat) (v : Drawer) : State :=
  { s with drw := { s.drw with drawers := mapSet {} (drwKey cab i) v s.drw.drawers } }

def State.obj (s : State) (i : Nat) : MObj := mapGet {} i s.drw.objs
def State.setObj (s : State) (i : Nat) (v : MObj) : State :=
  { s with drw := { s.drw with objs := mapSet {} i v s.drw.objs } }

def State.latch (s : State) (i : Nat) : Latch := mapGet {} i s.lat.latches
def State.setLatch (s : State) (i : Nat) (v : Latch) : State :=
  { s with lat := { s.lat with latches := mapSet {} i v s.lat.latches } }

def State.tile (s : State) (t : Nat) : Tile := mapGet {} t s.ts.tiles
def State.setTile (s : State) (t : Nat) (v : Tile) : State :=
  { s with ts := { s.ts with tiles := mapSet {} t v s.ts.tiles } }

def State.gran (s : State) (h : Nat) : Gran := mapGet {} h s.tu.grans
def State.setGran (s : State) (h : Nat) (v : Gran) : State :=
  { s with tu := { s.tu with grans := mapSet {} h v s.tu.grans } }

def State.unitSt (s : State) (u : Nat) : UnitSt := mapGet {} u s.rcv.units
def State.setUnitSt (s : State) (u : Nat) (v : UnitSt) : State :=
  { s with rcv := { s.rcv with units := mapSet {} u v s.rcv.units } }

/-- Change one element found by a test. -/
def updWhere {α : Type} (p : α → Bool) (f : α → α) (l : List α) : List α := l.map (fun x => if p x then f x else x)

/-! ### Status codes (R369) and unit IDs (R9) -/

def stDone : Nat := 0
def stBound : Nat := 1
def stXlate : Nat := 2
def stIntegrity : Nat := 3
def stMemory : Nat := 4
def stQuarantine : Nat := 5
def stAbortedPeer : Nat := 6
def stAbandoned : Nat := 7
def stTimeout : Nat := 8
def stGuilty : Nat := 9
def stFormat : Nat := 10
def stDenied : Nat := 11
def stFallback : Nat := 12
def stKilled : Nat := 13

def uPlinth : Nat := 0x000
def uHost : Nat := 0x100
def uDrawer : Nat := 0x200
def uLatch : Nat := 0x300
def uTu : Nat := 0x400
def uBatcher : Nat := 0x500
def uTs : Nat := 0x600
def uDce : Nat := 0x800
def uRouter : Nat := 0xB00
def uOu : Nat := 0xC00
def uGate (g : Nat) : Nat := 0x900 + g
def uPort (p : Nat) : Nat := 0xA00 + p
def uTile (t : Nat) : Nat := 0xD00 + t
/-- Movement engine 0-127 (R9). -/
def uEngine (e : Nat) : Nat := 0x700 + e

/-- The unit a register belongs to; of the movement engines' registers and of the chip-wide mix and urgency registers, the
first of the class (log 134). -/
def regUnit (off : Nat) : Nat :=
  let m := off / 0x100000
  if m = 1 then (if off % 0x1000 < 0x400 then uPlinth else if off % 0x1000 < 0x800 then uDrawer else uLatch)
  else if m = 2 then uDrawer
  else if m = 3 then uLatch
  else if m = 4 then uTu
  else if m = 5 then (if off < 0x520000 then uBatcher else uTs)
  else if m = 6 then uEngine 0
  else if m = 7 then uDce
  else if m = 8 then (if off < 0x8C0000 then uGate ((off - 0x800000) / 0x10000) else uGate 0)
  else if m = 9 then (if 0x901000 ≤ off ∧ off < 0x931000 then uPort ((off - 0x901000) / 0x1000) else uRouter)
  else if m = 0xA then uOu
  else uPlinth

/-- A unit ID the block may report (R9, R10). -/
def State.unitExists (s : State) (u : Nat) : Bool :=
  match u / 256 with
  | 0 | 1 | 2 | 3 | 4 | 5 | 6 | 8 | 0xB | 0xC => u % 256 == 0
  | 7 => decide (u % 256 < 128)
  | 9 => decide (u % 256 < 12)
  | 0xA => decide (u % 256 < 48)
  | 0xD => s.tie.tiles.testBit (u % 256)
  | _ => false

/-! ### When work may advance -/

/-- The VDD_CORE units are powered and out of reset (R402, R403, R413); in SLEEP the osc and mem rungs are low. -/
def State.coreUp (s : State) : Bool :=
  (s.pln.ready == 15 || (s.pln.power == 2 && s.pln.ready.testBit 0 && s.pln.ready.testBit 3)) && !s.pln.held &&
  decide (s.pln.power < 3) &&
  (match s.pln.phase with | .image | .memory | .run => true | _ => false)

/-- The Host Gate answers: the block is released, and not in DEEP or OFF (R2, R410, R421). -/
def State.hostUp (s : State) : Bool := s.coreUp && s.pln.phase == .run

/-- No unit advances: the block is not up, or stopped from T_u until the resume of a global stop (R462). -/
def State.frozen (s : State) : Bool := !s.coreUp || s.ou.unitsStopped

/-- The unit is out of service in an ENGINE reset (R380). -/
def State.resetting (s : State) (u : Nat) : Bool :=
  match (s.unitSt u).phase with
  | .hold | .reset | .resync => true
  | _ => false

/-- An effect of unit `u`: nothing happens while the block is stopped or the unit is in a reset. -/
def State.work (s : State) (u : Nat) (f : State → State) : State :=
  if s.frozen || s.resetting u then s else f s

/-- `clk_core` cycles of an interval of 1,000 ns, by the measured clock. -/
def State.cycles (s : State) : Nat := s.rfld rPlnClk 11 0

/-- One period of `clk_ao`: the timestamp counts 40 ns in every power state but OFF (R423); the limits' time stands still
in a stop (R463). -/
def State.tick (s : State) : State :=
  if s.pln.power = 4 then s
  else { s with now := (s.now + 40) % 2 ^ 64, mono := if s.ou.unitsStopped then s.mono else s.mono + 40 }

/-! ### Address map (R482, R483) -/

def State.gateCount (s : State) : Nat := s.tie.gates.length
/-- C: the smallest capacity reported, in GiB. -/
def State.capGib (s : State) : Nat := s.tie.gates.foldl min 255
/-- The first address above installed memory. -/
def State.installed (s : State) : Nat := if s.tie.gates = [] then 0 else s.gateCount * s.capGib * 2 ^ 30
/-- The interleave granule W. -/
def State.ilv (s : State) : Nat := 8192 * 2 ^ (s.rfld rMemMap 2 0)
/-- The gate and local address of a physical address. -/
def State.gateOf (s : State) (p : Nat) : Nat × Nat :=
  (p / s.ilv % s.gateCount, p / s.ilv / s.gateCount * s.ilv + p % s.ilv)

/-! ### Shelves and block regions (R17, R36) -/

/-- The ranges of a configuration: slot, first byte, length. -/
def CabConf.ranges (c : CabConf) : List (Nat × Nat × Nat) :=
  (c.shelf.zipIdx.map (fun e => (e.2, fld e.1 22 0 * 2 ^ 21, fld e.1 45 23 * 2 ^ 21))).filter (fun r => r.2.2 != 0)

def inRange (lo len a : Nat) : Bool := decide (lo ≤ a) && decide (a < lo + len)
def overlaps (a n b m : Nat) : Bool := decide (a < b + m) && decide (b < a + n)

def CabConf.has (c : CabConf) (p : Nat) : Bool := c.ranges.any (fun r => inRange r.2.1 r.2.2 p)
/-- The slot of the range that holds an address. -/
def CabConf.slotOf (c : CabConf) (p : Nat) : Nat :=
  match c.ranges.find? (fun r => inRange r.2.1 r.2.2 p) with
  | some r => r.1
  | none => 0
/-- S: the shelf's size. -/
def CabConf.size (c : CabConf) : Nat := (c.ranges.map (fun r => r.2.2)).sum
def CabConf.integ (c : CabConf) : Bool := fld c.cfg 8 8 == 1
/-- The shadow reserve's size (R36). -/
def CabConf.reserve (c : CabConf) : Nat := c.size * fld c.cfg 5 0 / 64 / 2 ^ 21 * 2 ^ 21
/-- The 256 tile ports as one bit map. -/
def CabConf.tileMap (c : CabConf) : Nat := c.tiles.reverse.foldl (fun a w => a * 2 ^ 64 + w.toNat) 0
def CabConf.tileList (c : CabConf) : List Nat := (List.range 256).filter (fun t => c.tileMap.testBit t)

/-- Insert a range by its first byte, highest first. -/
def insertRange (r : Nat × Nat × Nat) : List (Nat × Nat × Nat) → List (Nat × Nat × Nat)
  | [] => [r]
  | q :: l => if q.2.1 < r.2.1 then r :: q :: l else q :: insertRange r l

/-- The pieces of the `n` highest bytes of ranges given highest first: first byte and length. -/
def topPieces : Nat → List (Nat × Nat × Nat) → List (Nat × Nat)
  | _, [] => []
  | n, r :: l => if n = 0 then [] else (r.2.1 + r.2.2 - min n r.2.2, min n r.2.2) :: topPieces (n - r.2.2) l

/-- The shadow reserve: the shelf's highest addresses (R36), highest piece first. -/
def CabConf.reservePieces (c : CabConf) : List (Nat × Nat) :=
  topPieces c.reserve (c.ranges.foldr insertRange [])
def CabConf.inReserve (c : CabConf) (p : Nat) : Bool := c.reservePieces.any (fun r => inRange r.1 r.2 p)

/-- The cabinet's reservation is in force: LIVE, CLEAR, or an ACTIVATE under way (R31). -/
def Cab.holds (c : Cab) : Bool :=
  c.st == .live || c.st == .clear || (c.st == .build && c.work == .activating)

def State.anyShelf (s : State) (p : Nat) : Bool := s.cabs.any (fun e => e.2.holds && e.2.conf.has p)

def State.tagRegion (s : State) (p : Nat) : Bool :=
  let g := s.gateOf p
  inRange (s.rfld (rMdBase g.1) 36 12 * 4096) (s.rfld (rMdBase g.1) 55 48 * 2 ^ 26) g.2
def State.nodeRegion (s : State) (p : Nat) : Bool := inRange (s.reg rNodeBase).toNat (s.reg rNodeSize).toNat p
def State.workRegion (s : State) (p : Nat) : Bool :=
  inRange (s.reg rWorkBase).toNat ((s.reg rWorkSize).toNat * 2 ^ 21) p
def State.chest (s : State) (p : Nat) : Bool :=
  (s.reg rChestBase != 0) && inRange (s.reg rChestBase).toNat (2 ^ 28) p
def State.obsShelf (s : State) (p : Nat) : Bool :=
  inRange (s.reg rOuBase).toNat (s.rfld rOuSize 27 0 * 65536) p
/-- The block's own regions (R17). -/
def State.blockRegion (s : State) (p : Nat) : Bool :=
  s.tagRegion p || s.nodeRegion p || s.workRegion p || s.chest p || s.obsShelf p

/-! ### Masters (R294) and their reach (R323 check 1) -/

end Sys2Proof.Machine
namespace Sys2Proof

/-- The 9-bit master number. -/
def Master.number : Master → Nat
  | .cab n => n
  | .observe => 0x101
  | _ => 0x100

end Sys2Proof
namespace Sys2Proof.Machine

/-- Who makes a request: the master, the unit that made it, and the context it works for. -/
structure Who where
  m    : Master
  unit : Nat
  ctx  : Option Nat := none
deriving DecidableEq, Repr

def State.reach (s : State) (m : Master) (p : Nat) : Bool :=
  match m with
  | .cab n => (s.cab n).holds && (s.cab n).conf.has p
  | .platform => !s.anyShelf p && !(s.tagRegion p || s.nodeRegion p || s.workRegion p)
  | .ring => !s.anyShelf p && !s.blockRegion p
  | .working => s.workRegion p
  | .observe => s.chest p || s.obsShelf p

/-! ### Counter bank (R452) -/

/-- Add `n` to every counter that selects event `ev` on `unit` for this cabinet; none counts while the units are stopped
(R453). -/
def State.tally (s : State) (unit ev : Nat) (cab : Option Nat) (n : Nat := 1) : State :=
  if s.ou.unitsStopped then s
  else (List.range 64).foldl (fun s k =>
    let c := s.reg (rCsel k)
    if fld c 7 0 = ev && fld c 31 20 = unit && (fld c 16 16 = 0 || cab = some (fld c 15 8)) then
      s.setReg (rCtr k) (BitVec.ofNat 64 ((s.reg (rCtr k)).toNat + n))
    else s) s

/-- A unit has carried one item of `n` bytes over its data paths: ITEMS, BYTES_IN and BYTES_OUT. -/
def State.carry (s : State) (unit : Nat) (cab : Option Nat) (n : Nat) : State :=
  if s.ou.unitsStopped then s
  else (List.range 64).foldl (fun s k =>
    let c := s.reg (rCsel k)
    if (fld c 7 0 = 4 || fld c 7 0 = 5 || fld c 7 0 = 6) && fld c 31 20 = unit && (fld c 16 16 = 0 || cab = some (fld c 15 8)) then
      s.setReg (rCtr k) (BitVec.ofNat 64 ((s.reg (rCtr k)).toNat + if fld c 7 0 = 4 then 1 else n))
    else s) s

/-! ### Free values -/

/-- The next free word; the counter advances. -/
def State.freeWord (s : State) : Word × State := (Config.freeWord s.free, { s with free := s.free + 1 })

/-! ### Device memory behind the gates -/

/-- Remove `[a, a+n)` from a list of ranges. -/
def cutRanges (a n : Nat) : List (Nat × Nat) → List (Nat × Nat)
  | [] => []
  | (b, m) :: r =>
    let lo := if b < a then [(b, min m (a - b))] else []
    let hi := if a + n < b + m then [(max b (a + n), b + m - max b (a + n))] else []
    (if overlaps a n b m then lo ++ hi else [(b, m)]) ++ cutRanges a n r

/-- The bytes a line holds; a byte whose key is discarded is free (R320). -/
def State.devBytes (s : State) (p : Nat) : Nat → List Byte
  | 0 => []
  | n + 1 =>
    (if s.lost.any (fun r => inRange r.1 r.2 p) then Config.freeByte (s.free + n) else memByte s.dev p)
      :: s.devBytes (p + 1) n

/-- Store bytes. -/
def State.devPut (s : State) (p : Nat) (bs : List Byte) : State :=
  { s with dev := memWrite p bs s.dev, lost := cutRanges p bs.length s.lost }

/-- Where a shelf address now lies: at home or in its CURRENT granule (R137). -/
def State.locate (s : State) (p : Nat) : Nat :=
  match (s.gran (p / 8192)).cur with
  | some c => c * 8192 + p % 8192
  | none => p

/-- What check of R323 a line fails behind the region check. -/
inductive GateFail where
  | quarantined
  | node (n : BadNode)
  | metaUe
  | dataUe
  | tag
deriving DecidableEq, Repr

def Quar.covers (q : Quar) (p : Nat) : Bool := inRange q.first (q.span * 8192) p
def BadNode.covers (q : BadNode) (p : Nat) : Bool := inRange q.first (q.span * 8192) p

/-- Quarantined by an entry, a whole-range flag, or a re-initialisation under way (R334, R337). -/
def State.quarantined (s : State) (n p : Nat) : Bool :=
  s.mix.quar.any (fun e => match e.2 with | some q => q.cab == n && q.covers p | none => false) ||
  (mapGet 0 n s.mix.whole).testBit ((s.cab n).conf.slotOf p) ||
  (match s.mix.reinit with | some r => r.1 == n && inRange r.2.1 r.2.2 p | none => false)

/-- Checks 2 to 6 of R323 on the line at `q` (where the line lies); a whole-line write passes checks 5 and 6 (R324). -/
def State.gateFail (s : State) (m : Master) (q : Nat) (whole : Bool) : Option GateFail :=
  let line := q / 128
  let data := if whole then none else if s.mix.badData.contains line then some GateFail.dataUe else none
  match m with
  | .cab n =>
    if s.quarantined n q then some .quarantined
    else if (s.cab n).conf.integ then
      match s.mix.badNode.find? (fun b => b.cab == n && b.covers q) with
      | some b => some (.node b)
      | none =>
        if s.mix.badMeta.contains (q / 2048) then some .metaUe
        else match data with
          | some f => some f
          | none => if !whole && s.mix.badTag.contains line then some .tag else none
    else data
  | _ => data

/-- An access's outcome. -/
inductive Res (α : Type) where
  | ok (v : α)
  | bad (status unit : Nat)
deriving DecidableEq, Repr

/-! ### Stack gates -/

def State.gate (s : State) (g : Nat) : SgUnit := mapGet {} g s.sg
def State.setGate (s : State) (g : Nat) (v : SgUnit) : State := { s with sg := mapSet {} g v s.sg }

/-- Lines served at gate `g` count for their master: in the interval (R295), in its pace (R296), and for a cabinet and its
context in what R45 and R85 report. -/
def State.charge (s : State) (g : Nat) (w : Who) (lines : Nat) : State :=
  let v := s.gate g
  let n := w.m.number
  let pace := match mapGet none n v.pace with
    | some p => mapSet none n (some { p with g := p.g + lines }) v.pace
    | none => v.pace
  let s := s.setGate g { v with served := mapSet 0 n (mapGet 0 n v.served + lines) v.served, pace := pace }
  match w.m with
  | .cab n =>
    let c := s.cab n
    let s := s.setCab n { c with win := { c.win with memBytes := c.win.memBytes + 128 * lines },
                                 tot := { c.tot with memBytes := c.tot.memBytes + 128 * lines } }
    match w.ctx with
    | some k => let x := s.ctx n k; s.setCtx n k { x with memBytes := x.memBytes + 128 * lines }
    | none => s
  | _ => s

/-- R325: a denial at gate `g`. -/
def State.noteDenied (s : State) (g : Nat) (m : Master) (write : Bool) (p : Nat) : State :=
  let s := s.bump (rMixStat g) 31 16
  let s := if s.rfld (rDeny g) 63 63 = 1 then s
    else s.setReg (rDeny g) (pack [(63, 1), (48, m.number), (47, bit write), (0, p)])
  match m with
  | .cab n => let c := s.cab n; s.setCab n { c with tot := { c.tot with denied := c.tot.denied + 1 } }
  | _ => s

/-! ### Host memory (R474 to R476) -/

def State.funcBme (s : State) (f : Nat) : Bool := fld (mapGet 0 f s.hg.cfg) 1 1 == 1

def State.hostRead (s : State) (f a n : Nat) : Res (List Byte) :=
  if s.funcBme f then .ok (memRead s.hostMem a n) else .bad stDenied uHost

/-- The latch may watch bytes of a write: its fence lies there, or where it lies is not known (log 139). -/
def Latch.sees (l : Latch) (host : Bool) (a n : Nat) : Bool :=
  l.host == host && l.st != .free && (!l.known || overlaps l.pa 16 a n)

/-- Mark the latches whose fence a write to host memory touches (R101). -/
def State.touchHost (s : State) (a n : Nat) : State :=
  { s with lat := { s.lat with latches := s.lat.latches.map (fun e =>
      if e.2.sees true a n then (e.1, { e.2 with dirty := true }) else e) } }

def State.hostWrite (s : State) (f a : Nat) (bs : List Byte) : Res Unit × State :=
  if s.funcBme f then (.ok (), ({ s with hostMem := memWrite a bs s.hostMem }).touchHost a bs.length)
  else (.bad stDenied uHost, s)

/-- Mark the latches whose fence a write to device memory touches (R101). -/
def State.touchDev (s : State) (a n : Nat) : State :=
  { s with lat := { s.lat with latches := s.lat.latches.map (fun e =>
      if e.2.sees false a n then (e.1, { e.2 with dirty := true }) else e) } }

/-! ### The fault ring (R372, R373) -/

/-- A fault event (R370). -/
structure FaultEv where
  unit     : Nat
  cls      : Nat
  action   : Nat := 0
  status   : Nat := 0
  cab      : Option Nat := none
  ctx      : Option Nat := none
  suspects : Nat := 0
  drawer   : Nat := 0
  seq      : Nat := 2 ^ 48 - 1
  detail   : Nat := 0
  add      : Nat := 0          -- what the action adds to the unit's epoch (R389)
deriving DecidableEq, Repr

/-- The first line of `[p, p+n)` that fails a check of R323 for a write of the block's own records; check 5 passes on lines
the write covers whole (R324). -/
def State.ownFail (s : State) (m : Master) (p n : Nat) : Option (Nat × Option GateFail) :=
  (List.range ((p % 128 + n + 127) / 128)).findSome? (fun i =>
    let q := p / 128 * 128 + i * 128
    if !s.reach m (max p q) then some (max p q, none)
    else (s.gateFail m q (decide (p ≤ q) && decide (q + 128 ≤ p + n))).map (fun f => (q, some f)))

/-- Whether a write of the block's own records would pass the gates. -/
def State.ringOk (s : State) (p n : Nat) : Bool := decide (p + n ≤ s.installed) && (s.ownFail .ring p n).isNone

/-- A write of the block's own records (fault ring, notify words, sampler and trace rings): charged to its master, or
counted under R325 by the gate of the first failing line, which it answers. Nothing is written then. -/
def State.ownWrite (s : State) (m : Master) (unit p : Nat) (bs : List Byte) : Option Nat × Bool × State :=
  if s.installed < p + bs.length then (none, false, s)
  else match s.ownFail m p bs.length with
    | some (q, none) => (none, false, s.noteDenied (s.gateOf q).1 m true q)
    | some (q, some _) =>
      let g := (s.gateOf q).1
      (some q, false, (s.tally (uGate g) 7 none).bump (rMixStat g) 47 32)
    | none =>
      let s := (List.range ((p % 128 + bs.length + 127) / 128)).foldl (fun (s : State) i =>
        s.charge (s.gateOf (p / 128 * 128 + i * 128)).1 { m := m, unit := unit } 1) s
      let part (l : Nat) : Bool := !(decide (p ≤ l * 128) && decide (l * 128 + 128 ≤ p + bs.length))
      (none, true, ({ s with mix := { s.mix with badData := s.mix.badData.filter part } }).devPut p bs)

/-- Write to the fault ring's place or a notify word: host as function 0, or device. A failure raises no fault event
(R373). -/
def State.ringPut (s : State) (host : Bool) (p : Nat) (bs : List Byte) : Bool × State :=
  if host then
    match s.hostWrite 0 p bs with
    | (.ok _, s) => (true, s)
    | (.bad .., s) => (false, s)
  else
    let r := s.ownWrite .ring uPlinth p bs
    (r.2.1, if r.2.1 then r.2.2.touchDev p bs.length else r.2.2)

/-- The 64 bytes of a fault record. -/
def faultRecord (s : State) (e : FaultEv) (f ph : Nat) : List Byte :=
  toLe 8 (f % 2 ^ 32 * 2 ^ 32 + e.unit * 2 ^ 20 + e.cls * 2 ^ 12 + e.action * 2 ^ 8 + ph) ++ toLe 8 s.now ++
  toLe 8 (e.status * 2 ^ 56 + e.cab.getD 0 * 2 ^ 48 + bit e.cab.isSome * 2 ^ 47 + bit e.ctx.isSome * 2 ^ 46 +
    e.ctx.getD 0 * 2 ^ 32 + min e.suspects 65535 * 2 ^ 16) ++
  toLe 8 (e.drawer * 2 ^ 48 + e.seq) ++ toLe 8 ((s.unitSt e.unit).epoch + e.add) ++ toLe 8 e.detail ++ toLe 16 0

/-- The current ring of the Observation Unit: where record `f` goes, with its PHASE. -/
def ringSlot (f log2 : Nat) : Nat × Nat := (f % 2 ^ log2, if f / 2 ^ log2 % 2 = 0 then 1 else 0)

/-- Write the record of a fault event, or count it LOST. -/
def State.ringRecord (s : State) (e : FaultEv) : State :=
  let c := s.reg rFltCfg
  let log2 := fld c 12 8
  let f := s.rcv.faults
  if fld c 0 0 = 0 then s
  else if 2 ^ log2 ≤ (f + 2 ^ 32 - s.rfld rFltHead 31 0) % 2 ^ 32 then s.bump rFltStat 47 32
  else
    match s.ringPut (fld c 1 1 == 1) ((s.reg rFltBase).toNat + f % 2 ^ log2 * 64) (faultRecord s e f (ringSlot f log2).2) with
    | (false, s) => s.bump rFltStat 47 32
    | (true, s) =>
      let s := ({ s with rcv := { s.rcv with faults := f + 1 } }).setRfld rFltStat 31 0 ((f + 1) % 2 ^ 32)
      if s.reg rFltNotify = 0 then s
      else match s.ringPut (fld c 2 2 == 1) (s.reg rFltNotify).toNat (toLe 8 (f + 1)) with
        | (true, s) => s
        | (false, s) => s.bump rFltStat 63 48

/-! ### Trace (R451, R457) and the global stop's triggers (R460) -/

/-- Write a record of one of the Observation Unit's rings, by R451; `rec f phase` is the record. One that fails at its gate
is LOST and takes no number (log 137); its DATA event goes to the fault ring. -/
def State.ouRecord (s : State) (cfg head stat f size : Nat) (rcd : Nat → List Byte) : State × Bool :=
  let c := s.reg cfg
  let log2 := fld c 36 32
  let full := decide (2 ^ log2 ≤ (f + 2 ^ 32 - s.rfld head 31 0) % 2 ^ 32)
  if full && fld c 30 30 = 1 then (s.bump stat 63 48, false)
  else
    let base := (s.reg rOuBase).toNat + fld c 63 40 * 65536 + (ringSlot f log2).1 * size
    match s.ownWrite .observe uOu base (rcd (ringSlot f log2).2) with
    | (_, true, s) =>
      let s := if full then s.bump stat 47 32 else s
      (s.setRfld stat 31 0 ((f + 1) % 2 ^ 32), true)
    | (some q, false, s) =>
      ((s.ringRecord { unit := uGate (s.gateOf q).1, cls := 0x01, status := stMemory, detail := q }).bump stat 63 48, false)
    | (none, false, s) => (s.bump stat 63 48, false)

/-- A trace event: number, unit, cabinet, context and arguments. One raised while the Observation Unit is in a reset is
discarded with its record buffer (R468, log 168). -/
def State.trace (s : State) (ev unit : Nat) (cab ctx : Option Nat) (a0 a1 : Nat) : State :=
  let c := s.reg rTrcCfg
  if fld c 31 31 = 1 && (fld c 8 0).testBit (ev - 1) && (fld c 24 24 = 0 || cab = some (fld c 23 16)) then
    if s.resetting uOu then s.bump rTrcStat 63 48
    else
      let f := s.ou.trcCount
      let r := s.ouRecord rTrcCfg rTrcHead rTrcStat f 64 (fun ph =>
        toLe 8 (f % 2 ^ 32 * 2 ^ 32 + ev * 2 ^ 24 + unit * 2 ^ 12 + ph) ++ toLe 8 s.now ++
        toLe 1 (cab.getD 0) ++ toLe 1 (bit cab.isSome + 2 * bit ctx.isSome) ++ toLe 2 (ctx.getD 0) ++
        toLe 4 0 ++ toLe 8 a0 ++ toLe 8 a1 ++ toLe 24 0)
      if r.2 then { r.1 with ou := { r.1.ou with trcCount := f + 1 } } else r.1
  else s

/-- The STOP trace event of an entry to a state (R461). -/
def State.traceStop (s : State) : State :=
  let st := match s.ou.stop with | .idle => 0 | .armed => 1 | .stopping => 2 | .stopped => 3
  s.trace 0x08 uOu none none (s.ou.stopId + s.ou.cause * 2 ^ 16 + st * 2 ^ 20) s.ou.tu

/-- A trigger of OU_STOP_CFG.TRIG: bit 0 FAULT, 1 ALARM, 2 MARK (R460). -/
def State.stopTrigger (s : State) (b : Nat) : State :=
  if (s.rfld rStopCfg 2 0).testBit b then
    match s.ou.stop with
    | .idle =>
      let t := s.now + s.rfld rStopCfg 63 48 * 1000
      ({ s with ou := { s.ou with stop := .armed, cause := 3, stopId := s.rfld rStopArea 39 24, t := t, tu := t,
                                  fabric := s.rfld rStopCfg 8 8 == 1 } }).traceStop
    | _ => s.bump rOuGstat 15 0
  else s

/-- Record a fault event: the ring, the trace, and the stop trigger of classes 0x03 to 0x06. -/
def State.faultEvent (s : State) (e : FaultEv) : State :=
  let s := s.ringRecord e
  let s := s.trace 0x02 e.unit e.cab e.ctx (e.cls * 2 ^ 12 + e.action * 2 ^ 8) e.detail
  if 3 ≤ e.cls && e.cls ≤ 6 then s.stopTrigger 0 else s

/-! ### Quarantine (R334, R335) -/

def bumpQuarFull (s : State) : State := s.bump rMixGstat 31 16

/-- Raise an entry, or the whole-range flag when none of the 64 is free; damage under an existing entry raises nothing. -/
def State.raiseQuar (s : State) (g : Nat) (q : Quar) : State :=
  if s.quarantined q.cab q.first then s
  else
    let s := match (List.range 64).find? (fun i => (mapGet none i s.mix.quar).isNone) with
      | some i => { s with mix := { s.mix with quar := mapSet none i (some q) s.mix.quar } }
      | none =>
        bumpQuarFull { s with mix := { s.mix with
          whole := mapSet 0 q.cab (mapGet 0 q.cab s.mix.whole ||| 2 ^ q.slot) s.mix.whole,
          quar := s.mix.quar.filter (fun e => match e.2 with
            | some r => !(r.cab == q.cab && r.slot == q.slot) | none => false) } }
    s.faultEvent { unit := uGate g, cls := 0x02, cab := some q.cab, detail := q.first }

/-! ### Messages to the tray controller (R427, R428) -/

/-- Originate a message; it repeats until it is acknowledged. -/
def State.sendTray (s : State) (code : Nat) (body : List Byte) : State :=
  { s with pln := { s.pln with msgs := s.pln.msgs ++ [({ code := code, body := body, sent := s.now } : TrayMsg)] } }.emit (.trayMsg code body)

/-- PWR_STATE. -/
def State.pwrState (s : State) : Word :=
  match s.pln.entries.find? (fun e => e.cab.isNone) with
  | some e => pack [(7, 1), (4, e.target), (0, s.pln.power)]
  | none => pack [(0, s.pln.power)]

/-- The block is in another power state: the POWER trace event and the EVENT message STATE_CHANGE. -/
def State.blockState (s : State) (p : Nat) : State :=
  let s := { s with pln := { s.pln with power := p } }
  (s.trace 0x06 uPlinth none none p 0).sendTray 0x11 (toLe 1 3 ++ toLe 8 s.pwrState.toNat)

/-! ### Power states: aborts and wakes (R418, R420, R421) -/

/-- The lowest rung that is not up is requested. -/
def State.raiseRung (s : State) : State :=
  match (List.range 4).find? (fun r => !s.pln.ready.testBit r) with
  | some r => { s with pln := { s.pln with req := s.pln.ready ||| 2 ^ r, rungAt := s.now } }
  | none => s

/-- The rungs a state lowers are down: mem and osc in SLEEP, all four in DEEP and OFF. -/
def State.lowered (s : State) : Bool :=
  if s.pln.power = 2 then !s.pln.ready.testBit 1 && !s.pln.ready.testBit 2 else s.pln.ready == 0

/-- Transfers that drained for a power state go on (R237). -/
def State.resumeQuiet (s : State) (hit : Nat → Bool) : State :=
  let go (c : Chan) : Chan := { c with quiet := false, st := if c.pause then c.st else match c.st with
    | .draining | .paused | .pausedReady => .run
    | st => st }
  { s with me := { s.me with chans := s.me.chans.map (fun e => if e.2.quiet && hit e.2.cab then (e.1, go e.2) else e) } }

/-- An entry ends without its state: what it held resumes, and who asked for it is told which unit gave which reason. -/
def State.dropEntry (s : State) (e : Entry) (unit reason : Nat) : State :=
  let s := { s with pln := { s.pln with entries := s.pln.entries.filter (fun x => x != e) } }
  let s := s.resumeQuiet (fun n => match e.cab with | some k => n == k | none => (s.cab n).power != 2)
  let s := if e.byTray then
      { s with pln := { s.pln with trayBusy := s.pln.trayBusy - 1 } }.emit (.tray 0x04 0 (toLe 1 1 ++ toLe 2 unit ++ toLe 1 reason))
    else s
  if e.byCmd then s.setReg rPwrResult (pack [(63, 1), (62, s.rfld rPwrResult 62 62), (56, 5), (16, reason), (0, unit)]) else s

/-- An entry ends without its state: `qs_req` falls, and R418 records the refuser. -/
def State.abortEntry (s : State) (e : Entry) (unit reason : Nat) : State :=
  let s := s.bump rPwrRefuse 31 0
  (s.setReg rPwrLast (pack [(40, bit e.cab.isSome), (32, e.cab.getD 0), (24, e.target), (16, reason), (0, unit)])).dropEntry e unit reason

/-- Which events wake a state (R421): sources are numbered as in PWR_WAKE; 7 stands for `hg_wake`, shown as the host's. -/
def wakes (src target : Nat) : Bool :=
  if target ≤ 2 then true else if target = 3 then src == 0 || src == 4 || src == 5 || src == 7 else src == 0
def wakeBit (src : Nat) : Nat := if src = 7 then 2 else 2 ^ src

/-- The block takes work again: a wake source is noted for SLEEP and DEEP, block IDLE ends at once, and the rungs of the
others are raised in order (R420, R421). An entry that has not completed is aborted with reason WAKE. -/
def State.wakeBlock (s : State) (src : Nat) : State :=
  let s := (s.pln.entries.filter (fun e => e.cab.isNone && wakes src e.target)).foldl (fun s e => s.abortEntry e uPlinth 7) s
  if s.pln.power = 1 then s.blockState 0
  else if (s.pln.power = 2 ∨ s.pln.power = 3) ∧ s.pln.waking = false ∧ wakes src s.pln.power = true then
    let s := { s with pln := { s.pln with waking := true, wake := wakeBit src } }
    if s.lowered then s.raiseRung else s
  else s

/-- Work for a cabinet in IDLE or SLEEP returns it to RUN, with a POWER trace event; any work restarts its idle time. It
wakes the block too, and aborts the cabinet's entry. -/
def State.wakeCab (s : State) (n src : Nat) : State :=
  let s := (s.pln.entries.filter (fun e => e.cab == some n)).foldl (fun s e => s.abortEntry e uPlinth 7) s
  let c := s.cab n
  let s := (s.setCab n { c with power := 0, idleAt := s.mono }).wakeBlock src
  if c.power = 0 then s else (s.resumeQuiet (fun k => k == n)).trace 0x06 uPlinth (some n) none 0 (256 + n)

/-! ### Urgency wires (R302 to R305) -/

/-- The master a wire is bound to (R302); the owner of a tile port is the one of the interval's start (R305). -/
def State.wireMaster (s : State) (i : Nat) : Option Nat :=
  let w := s.reg (rUrgMap i)
  let live (n : Nat) : Option Nat := if (s.cab n).st == .live then some n else none
  if fld w 15 14 = 1 then (mapGet none (fld w 7 0) s.urg.owners).bind live
  else if fld w 15 14 = 2 then
    if fld w 8 0 < 256 then live (fld w 8 0) else if fld w 8 0 ≤ 0x101 then some (fld w 8 0) else none
  else none

/-- A wire in force. -/
def State.wireOn (s : State) (i : Nat) : Bool :=
  (mapGet none i s.urg.since).isSome && !s.urg.dead.contains i && (s.wireMaster i).isSome

/-- A master is urgent while a wire of it is in force. -/
def State.urgent (s : State) (n : Nat) : Bool := (List.range 32).any (fun i => s.wireOn i && s.wireMaster i == some n)

/-- Note when wires came into force (R304). -/
def State.syncWires (s : State) : State :=
  let ks := (List.range 32).filter s.wireOn
  { s with urg := { s.urg with force := ks.map (fun i => (i, some ((mapGet none i s.urg.force).getD s.mono))) } }

/-! ### Accesses through a stack gate -/

/-- R325, R335, R370: a request ends at gate `g` with a failed check. Answers its status. -/
def State.noteFail (s : State) (g : Nat) (w : Who) (q : Nat) (f : GateFail) : Nat × State :=
  let s := s.tally (uGate g) 7 (match w.m with | .cab n => some n | _ => none)
  let data (st : Nat) : FaultEv :=
    { unit := uGate g, cls := 0x01, status := st, cab := (match w.m with | .cab n => some n | _ => none),
      ctx := w.ctx, detail := q }
  match f with
  | .quarantined => (stQuarantine, s.bump (rMixStat g) 15 0)
  | .node b =>
    let s := if b.status = stIntegrity then s.bump (rMixStat g) 63 48 else s.bump (rMixStat g) 47 32
    (b.status, s.raiseQuar g { cab := b.cab, slot := b.slot, level := b.level, first := b.first, span := b.span })
  | .metaUe =>
    let s := s.bump (rMixStat g) 47 32
    match w.m with
    | .cab n => (stMemory, s.raiseQuar g { cab := n, slot := (s.cab n).conf.slotOf q, level := 0,
                                           first := q / 8192 * 8192, span := 1 })
    | _ => (stMemory, s)
  | .dataUe => (stMemory, (s.bump (rMixStat g) 47 32).faultEvent (data stMemory))
  | .tag => (stIntegrity, (s.bump (rMixStat g) 63 48).faultEvent (data stIntegrity))

/-- The bytes below `x` that lie at gate `g`. -/
def State.gateBelow (s : State) (g x : Nat) : Nat :=
  let k := x / s.ilv
  (k + s.gateCount - 1 - g) / s.gateCount * s.ilv + if k % s.gateCount = g then x % s.ilv else 0

/-- Charge a stretch of a shelf to its cabinet, one line for each `per` bytes, at the gates where they lie. -/
def State.chargeSpan (s : State) (n a l per : Nat) : State :=
  (List.range s.gateCount).foldl (fun (s : State) g =>
    s.charge g { m := .cab n, unit := uGate g } ((s.gateBelow g (a + l) - s.gateBelow g a) / per)) s

/-- The cabinet whose shelf holds an address. -/
def State.cabAt (s : State) (p : Nat) : Option Nat := (s.cabs.find? (fun e => e.2.holds && e.2.conf.has p)).map (·.1)

/-- A key is drawn from the random source: four free words (R319). -/
def State.newKey (s : State) : ShelfKey × State :=
  let d (i : Nat) : BitVec 64 := Config.freeWord (s.free + i)
  ({ mix := d 0 ++ d 1, tag := d 2 ++ d 3 }, { s with free := s.free + 4, mix := { s.mix with keys := s.mix.keys + 1 } })

/-- A shelf's key is drawn for a re-key, which then runs; the draw waits for the random source (R319, R331). -/
def State.beginRekey (s : State) (n : Nat) : State :=
  if s.mix.healthy then
    let c := s.cab n
    let s := s.bump rMixGstat 63 48
    let r : Rekey := { wm := 0, old := c.key }
    let k := s.newKey
    let s := k.2
    ({ s with mix := { s.mix with
        rekeyWait := s.mix.rekeyWait.filter (fun m => m != n),
        rekey := mapSet none n (some r) s.mix.rekey } }).setCab n { c with key := some k.1 }
  else ({ s with mix := { s.mix with rekeyWait := n :: s.mix.rekeyWait.filter (fun m => m != n) } }).bump rMixGstat 47 32

/-- A shelf re-keys when one of its counters passes 2^44 - 2^32 with the value `v` (R331), once no APPLY or
re-initialisation of it runs (R333). -/
def State.rekeyCheck (s : State) (n v : Nat) : State :=
  if 2 ^ 44 - 2 ^ 32 < v && (mapGet none n s.mix.rekey).isNone
      && !s.mix.rekeyWait.contains n && !s.mix.rekeyDue.contains n then
    if (s.cab n).work != .none || (match s.mix.reinit with | some r => r.1 == n | none => false) then
      { s with mix := { s.mix with rekeyDue := n :: s.mix.rekeyDue } }
    else s.beginRekey n
  else s

/-- A re-key that came due during an APPLY or a re-initialisation starts (R333). -/
def State.rekeyStart (s : State) (n : Nat) : State :=
  if s.mix.rekeyDue.contains n then
    ({ s with mix := { s.mix with rekeyDue := s.mix.rekeyDue.filter (fun m => m != n) } }).beginRekey n
  else s

/-- The level D of the range root over `g` groups (R327). -/
def treeDepth (g : Nat) : Nat := ((List.range 12).find? (fun d => d != 0 && decide (g ≤ 8 ^ d))).getD 12

/-- A range of a shelf by its slot: its first byte and its length. -/
def CabConf.rangeAt (c : CabConf) (k : Nat) : Option (Nat × Nat) := (c.ranges.find? (fun r => r.1 == k)).map (·.2)

/-- The counter nodes of an address of cabinet `n`, from its leaf up to the level below the range root (R327). -/
def State.nodePath (s : State) (n q : Nat) : List MetaKey :=
  match (s.cab n).conf.ranges.find? (fun r => inRange r.2.1 r.2.2 q) with
  | some r => (List.range (treeDepth (r.2.2 / 8192) - 1)).map (fun l => .node n r.1 (l + 1) ((q - r.2.1) / 8192 / 8 ^ (l + 1)))
  | none => []

/-- The node that holds an entry's version, where that is not the range root (R327). -/
def State.parentNode (s : State) : MetaKey → Option MetaKey
  | .line _ => none
  | .node n k l i => ((s.cab n).conf.rangeAt k).bind (fun r =>
      if l + 1 < treeDepth (r.2 / 8192) then some (.node n k (l + 1) (i / 8)) else none)

/-- The level of an entry, 0 for a metadata line. -/
def MetaKey.level : MetaKey → Nat
  | .line _ => 0
  | .node _ _ l _ => l

/-- The cabinet an entry belongs to. -/
def State.metaCab (s : State) : MetaKey → Option Nat
  | .line l => s.cabAt (l * 2048)
  | .node n .. => some n

def State.cachedAt (s : State) (g : Nat) (k : MetaKey) : Bool := s.mix.cache.any (fun e => e.gate == g && e.key == k)

/-- A lookup in the cache of gate `g`: counted, and charged to its master when it misses (R295, R338); `dirty` says that the
entry is changed. -/
def State.touchMeta (s : State) (g : Nat) (w : Who) (k : MetaKey) (dirty : Bool) : State :=
  let s := s.bump (rMdc g) 31 0
  let hit (e : MetaEntry) : Bool := e.gate == g && e.key == k
  match s.mix.cache.find? hit with
  | some e => { s with mix := { s.mix with
      cache := { e with dirty := e.dirty || dirty } :: s.mix.cache.filter (fun x => !hit x) } }
  | none =>
    let e : MetaEntry := { gate := g, key := k, dirty := dirty }
    (({ s with mix := { s.mix with cache := e :: s.mix.cache } }).bump (rMdc g) 63 32).charge g w 1

/-- The version of a counter node (R327). -/
def MixUnit.versionOf (x : MixUnit) (k : MetaKey) : Nat := ((x.version.find? (fun e => e.1 == k)).map (·.2)).getD 0
def MixUnit.setVersion (x : MixUnit) (k : MetaKey) (v : Nat) : MixUnit :=
  { x with version := (k, v) :: x.version.filter (fun e => e.1 != k) }

/-- An entry is written back to memory: counted, at its cabinet's cost; a node's version rises in its parent (R295, R327,
R338). -/
def State.writeMeta (s : State) (g : Nat) (k : MetaKey) : State :=
  let clean := updWhere (fun (e : MetaEntry) => e.gate == g && e.key == k) (fun e => { e with dirty := false }) s.mix.cache
  let s := ({ s with mix := { s.mix with cache := clean } }).bump (rRemix g) 63 32
  match s.metaCab k with
  | none => s
  | some n =>
    let w : Who := { m := .cab n, unit := uGate g }
    let s := s.charge g w 1
    if k.level = 0 then s
    else
      let v := s.mix.versionOf k + 1
      let s := { s with mix := s.mix.setVersion k v }
      let s := match s.parentNode k with
        | some p => s.touchMeta g w p true
        | none => s
      s.rekeyCheck n v

/-- An entry leaves the cache; a dirty one is written back (R338). -/
def State.dropMeta (s : State) (e : MetaEntry) : State :=
  let s := { s with mix := { s.mix with cache := s.mix.cache.filter (fun x => !(x.gate == e.gate && x.key == e.key)) } }
  if e.dirty then s.writeMeta e.gate e.key else s

/-- A cabinet's share of a gate's metadata cache, in lines (R338). -/
def State.metaShare (s : State) (n : Nat) : Nat := 32768 * (s.cab n).memFloor / 1024

/-- What a full cache drops: the entry longest unused of a cabinet above its share, else the one longest unused. -/
def State.metaVictim (s : State) (g : Nat) : Option MetaEntry :=
  let mine := (s.mix.cache.filter (fun e => e.gate == g)).reverse
  if mine.length ≤ 32768 then none
  else
    let past (e : MetaEntry) : Bool := match s.metaCab e.key with
      | some n => decide (s.metaShare n < (mine.filter (fun x => s.metaCab x.key == some n)).length)
      | none => true
    (mine.find? past).or mine.head?

/-- Entries leave a cache until what it holds fits. -/
def State.evictMeta (s : State) (g : Nat) : State :=
  go 64 s
where
  go : Nat → State → State
    | 0, s => s
    | k + 1, s => match s.metaVictim g with
      | some e => go k (s.dropMeta e)
      | none => s

/-- The counter nodes of a path are looked up from the leaf to the first one that the cache holds, which is verified. -/
def climbNodes (g : Nat) (w : Who) : List MetaKey → State → State
  | [], s => s
  | k :: r, s => if s.cachedAt g k then s.touchMeta g w k false else climbNodes g w r (s.touchMeta g w k false)

/-- The metadata word and the major of a line with tags are obtained (R329, R338). -/
def State.metaLookup (s : State) (g : Nat) (w : Who) (q : Nat) : State :=
  match w.m with
  | .cab n =>
    if (s.cab n).conf.integ then
      (climbNodes g w (s.nodePath n q) (s.touchMeta g w (.line (q / 2048)) false)).evictMeta g
    else s
  | _ => s

/-- Dirty entries are written back, metadata lines first and nodes level by level, since a written node changes its parent
(R338). -/
def State.flushCache (s : State) (hit : MetaEntry → Bool) : State :=
  (List.range 12).foldl (fun (s : State) l =>
    (s.mix.cache.filter (fun e => e.dirty && e.key.level == l && hit e)).foldl (fun (s : State) e => s.writeMeta e.gate e.key) s) s

/-- End a group re-mix (R330): the major rises, every minor is 0, and a line that failed its check keeps failing. -/
def State.remixGroup (s : State) (grp : Nat) : State :=
  let lines := (List.range 64).map (fun i => grp * 64 + i)
  let bad := lines.filter (fun l => s.mix.badData.contains l || s.mix.badTag.contains l)
  let g := (s.gateOf (grp * 8192)).1
  let s := match s.cabAt (grp * 8192) with
    | some n =>
      let w : Who := { m := .cab n, unit := uGate g }
      let s := s.charge g w 136
      match s.nodePath n (grp * 8192) with
      | k :: _ => (s.touchMeta g w k true).evictMeta g
      | [] => s
    | none => s
  { s with mix := { s.mix with
      major := mapSet 0 grp (mapGet 0 grp s.mix.major + 1) s.mix.major,
      minor := s.mix.minor.filter (fun e => e.1 / 64 != grp),
      badData := s.mix.badData.filter (fun l => l / 64 != grp),
      badTag := bad ++ s.mix.badTag.filter (fun l => l / 64 != grp),
      remix := s.mix.remix.filter (fun x => x != grp) } }

/-- R329: the counters of a line written under tags; MINOR 127 starts a re-mix of its group. Requests to a group under
re-mix wait for it, so a write that finds one ends it first. -/
def State.countWrite (s : State) (g n : Nat) (q : Nat) : State :=
  let grp := q / 8192
  let s := if s.mix.remix.contains grp then s.remixGroup grp else s
  let m := mapGet 0 (q / 128) s.mix.minor
  let soiled := updWhere (fun (e : MetaEntry) => e.gate == g && e.key == .line (q / 2048)) (fun e => { e with dirty := true }) s.mix.cache
  let s := { s with mix := { s.mix with cache := soiled } }
  if m = 127 then
    (({ s with mix := { s.mix with remix := grp :: s.mix.remix } }).bump (rRemix g) 31 0).rekeyCheck n (mapGet 0 grp s.mix.major + 1)
  else { s with mix := { s.mix with minor := mapSet 0 (q / 128) (m + 1) s.mix.minor } }

/-- One read within a line: `p` is the address asked for, `q` where its byte lies. -/
def State.readLoc (s : State) (w : Who) (p q n : Nat) : Res (List Byte) × State :=
  if s.installed < p + n then (.bad stDenied w.unit, s)
  else
    let g := (s.gateOf q).1
    if !s.reach w.m p then (.bad stDenied (uGate g), s.noteDenied g w.m false p)
    else match s.gateFail w.m q false with
      | some f => let r := s.noteFail g w q f; (.bad r.1 (uGate g), r.2)
      | none =>
        let s' := ((s.charge g w 1).metaLookup g w q).carry (uGate g) (match w.m with | .cab n => some n | _ => none) n
        (.ok (s.devBytes q n), { s' with free := s.free + n })

/-- One write within a line at `q`. -/
def State.writeLoc (s : State) (w : Who) (p q : Nat) (bs : List Byte) : Res Unit × State :=
  if s.installed < p + bs.length then (.bad stDenied w.unit, s)
  else
    let g := (s.gateOf q).1
    let whole := bs.length == 128 && p % 128 == 0
    if !s.reach w.m p then (.bad stDenied (uGate g), s.noteDenied g w.m true p)
    else match s.gateFail w.m q whole with
      | some f => let r := s.noteFail g w q f; (.bad r.1 (uGate g), r.2)
      | none =>
        let s := ((s.charge g w 1).metaLookup g w q).carry (uGate g) (match w.m with | .cab n => some n | _ => none) bs.length
        let s := match w.m with
          | .cab n => if (s.cab n).conf.integ then s.countWrite g n q else s
          | _ => s
        let s := s.devPut q bs
        (.ok (), if whole then { s with mix := { s.mix with
            badData := s.mix.badData.filter (fun l => l != q / 128),
            badTag := s.mix.badTag.filter (fun l => l != q / 128) } } else s)

/-- Where an address of a master's request lies: a shelf address resolves through the directory (R137). -/
def State.place (s : State) (m : Master) (p : Nat) : Nat :=
  match m with
  | .cab _ => s.locate p
  | _ => p

/-- A granule of the pool that holds a running command's writes: no other reader sees them (R137). -/
def State.isShadow (s : State) (x : Nat) : Bool :=
  s.tu.grans.any (fun e => match e.2.shadow with | some (_, y) => y == x && x != e.1 | none => false)

/-- One read within a line from the current location. A pool granule that is a SHADOW, read at its own address, gives open
bytes (R137, log 140). -/
def State.readLine (s : State) (w : Who) (p n : Nat) : Res (List Byte) × State :=
  match s.readLoc w p (s.place w.m p) n with
  | (.ok bs, t) => (.ok (if s.isShadow (s.place w.m p / 8192) then (List.range n).map (fun i => Config.freeByte (s.free + i)) else bs), t)
  | r => r

/-- One write within a line to the current location; watching latches are told, and a failed settle may be tried again
(R101, R143). -/
def State.writeLine (s : State) (w : Who) (p : Nat) (bs : List Byte) : Res Unit × State :=
  match s.writeLoc w p (s.place w.m p) bs with
  | (.ok _, s) =>
    let s := if (s.gran (p / 8192)).failed then s.setGran (p / 8192) { s.gran (p / 8192) with failed := false } else s
    (.ok (), s.touchDev p bs.length)
  | r => r

/-- A read cut at line boundaries; the first failing line ends it. -/
def State.devRead (s : State) (w : Who) (p n : Nat) : Res (List Byte) × State :=
  go (n / 128 + 2) s p n
where
  go : Nat → State → Nat → Nat → Res (List Byte) × State
    | 0, s, _, _ => (.ok [], s)
    | _ + 1, s, _, 0 => (.ok [], s)
    | k + 1, s, p, n =>
      let c := min n (128 - p % 128)
      match s.readLine w p c with
      | (.bad st u, s) => (.bad st u, s)
      | (.ok a, s) =>
        match go k s (p + c) (n - c) with
        | (.ok b, s) => (.ok (a ++ b), s)
        | r => r

/-- A write cut at line boundaries; the first failing line ends it, earlier lines stay written. -/
def State.devWrite (s : State) (w : Who) (p : Nat) (bs : List Byte) : Res Unit × State :=
  go (bs.length / 128 + 2) s p bs
where
  go : Nat → State → Nat → List Byte → Res Unit × State
    | 0, s, _, _ => (.ok (), s)
    | _ + 1, s, _, [] => (.ok (), s)
    | k + 1, s, p, bs =>
      let c := min bs.length (128 - p % 128)
      match s.writeLine w p (bs.take c) with
      | (.bad st u, s) => (.bad st u, s)
      | (.ok _, s) => go k s (p + c) (bs.drop c)

end Sys2Proof.Machine
end

