-- ==== Sys2Proof/Machine/Translate.lean ====
section
/-! DEFINITION. Translation (R115 to R133): table walks, look-aside, device faults, host pages; reads and writes at
virtual addresses; the shared operations of the fault queue. -/
namespace Sys2Proof.Machine

/-! ### Walking the tables (R116 to R119) -/

/-- The lowest virtual address bit a level indexes. -/
def lvShift : Nat → Nat
  | 0 => 16 | 1 => 21 | 2 => 30 | 3 => 39 | _ => 48
/-- Index bits of a level. -/
def lvBits (l : Nat) : Nat := if l = 0 then 5 else 9

/-- What a walk finds. -/
inductive WalkEnd where
  | leaf (level pa : Nat) (w rm host merged : Bool)   -- `merged`: its group of 32 is one run (R121)
  | absent (level : Nat)
  | malformed
  | fail (status unit : Nat)
deriving DecidableEq, Repr

/-- Whether `[p, p+n)` meets the cabinet's shadow reserve. -/
def CabConf.meetsReserve (c : CabConf) (p n : Nat) : Bool := c.reservePieces.any (fun r => overlaps r.1 r.2 p n)

/-- R118: an entry with V 1 that is malformed at its level. ADDR bits [51:44] are taken as address bits (log 11). -/
def malformed (c : CabConf) (level e : Nat) : Bool :=
  let leaf := e.testBit 1
  let addr := bitsOf e 51 8 * 256
  let host := e.testBit 3
  bitsOf e 63 52 != 0 || bitsOf e 7 6 != 0 || (!leaf && bitsOf e 5 2 != 0) ||
  (leaf && 3 ≤ level) || (!leaf && level == 0) ||
  (if leaf then
    if host then addr != 0 || e.testBit 4
    else addr % 2 ^ lvShift level != 0 || c.meetsReserve addr (2 ^ lvShift level)
  else if level == 1 then addr % 256 != 0 || c.meetsReserve addr 256
  else addr % 4096 != 0 || c.meetsReserve addr 4096)

/-- The look-aside holds the group of 32 leaves as one entry: every leaf of it has CONT (R121). -/
def contGroup (c : CabConf) (level : Nat) (bs : List Byte) : Bool :=
  (List.range 32).all (fun i =>
    let e := leAt bs (i * 8) 8
    e.testBit 0 && e.testBit 1 && e.testBit 5 && !malformed c level e)

/-- The group of 32 entries that a walked small or medium leaf with CONT belongs to is read, and says whether the leaves may
be cached as one (R121); a group that cannot be read is not merged. -/
def State.mergedLeaf (s : State) (w : Who) (cab level node idx e : Nat) : Bool × State :=
  if e.testBit 5 && !e.testBit 3 && decide (level ≤ 1) &&
      decide (idx % 32 * 2 ^ lvShift level ≤ bitsOf e 51 8 * 256) then
    match s.devRead w (node + idx / 32 * 256) 256 with
    | (.ok bs, s) => (contGroup (s.cab cab).conf level bs, s)
    | (_, s) => (false, s)
  else (false, s)

/-- Walk from a node at `level` downward, filling the walk cache; what a full one drops is the oldest filled. -/
def walkFrom (w : Who) (cab ctx va : Nat) : Nat → Nat → State → WalkEnd × State
  | level, node, s =>
    let idx := va / 2 ^ lvShift level % 2 ^ lvBits level
    match s.devRead w (node + idx * 8) 8 with
    | (.bad st u, s) => (.fail st u, s)
    | (.ok bs, s) =>
      let e := leNat bs
      if !e.testBit 0 then (.absent level, s)
      else if malformed (s.cab cab).conf level e then (.malformed, s)
      else if e.testBit 1 then
        let g := s.mergedLeaf w cab level node idx e
        (.leaf level (bitsOf e 51 8 * 256) (e.testBit 2) (e.testBit 4) (e.testBit 3) g.1, g.2)
      else match level with
        | 0 => (.malformed, s)
        | l + 1 =>
          let next := bitsOf e 51 8 * 256
          let size := 2 ^ lvShift (l + 1)
          let e : WalkCached := { cab := cab, ctx := ctx, level := l, va := va / size * size, node := next }
          walkFrom w cab ctx va l next { s with tu := { s.tu with walkc := e :: s.tu.walkc.take 32767 } }

/-- Walk cache entry that holds the lowest node for an address. -/
def walkStart (s : State) (cab ctx va : Nat) : Nat × Nat :=
  let hit (l : Nat) := s.tu.walkc.find? (fun e =>
    e.cab == cab && e.ctx == ctx && e.level == l && inRange e.va (2 ^ lvShift (l + 1)) va)
  match hit 0 with
  | some e => (0, e.node)
  | none => match hit 1 with
    | some e => (1, e.node)
    | none => match hit 2 with
      | some e => (2, e.node)
      | none => match hit 3 with
        | some e => (3, e.node)
        | none => (4, (s.ctx cab ctx).root)

/-- One walk for a context and address. -/
def State.walk (s : State) (cab ctx va : Nat) : WalkEnd × State :=
  let st := walkStart s cab ctx va
  let r := walkFrom { m := .cab cab, unit := uTu, ctx := some ctx } cab ctx va st.1 st.2 s
  (r.1, r.2.tally uTu 4 (some cab))

/-! ### Look-aside (R120) -/

def State.lookup (s : State) (cab ctx va : Nat) : Option Lookaside :=
  s.tu.look.find? (fun e => e.cab == cab && e.ctx == ctx && inRange e.va e.size va)

/-- A cabinet's share of the look-aside (R120). -/
def State.lookShare (s : State) (cab : Nat) : Nat := 163840 * (s.cab cab).memFloor / 1024

/-- Drop the oldest filled entry of a cabinet that holds more than its share. -/
def State.evictLook (s : State) (l : List Lookaside) : List Lookaside :=
  let past (e : Lookaside) := decide (s.lookShare e.cab < (l.filter (fun x => x.cab == e.cab)).length)
  match l.reverse.find? past with
  | some e => (l.reverse.erase e).reverse
  | none => l.dropLast

def State.fill (s : State) (e : Lookaside) : State :=
  let l := e :: s.tu.look.filter (fun x => !(x.cab == e.cab && x.ctx == e.ctx && x.va == e.va && x.size == e.size))
  { s with tu := { s.tu with look := if 163840 < l.length then s.evictLook l else l } }

/-- A fill within the cabinet's share: past it, the cabinet's own oldest entry leaves (R151). -/
def State.capLook (s : State) (cab : Nat) : State :=
  let mine := s.tu.look.filter (fun e => e.cab == cab)
  if max 1 (s.lookShare cab) < mine.length then
    match mine.getLast? with
    | some e => { s with tu := { s.tu with look := s.tu.look.filter (fun x => x != e) } }
    | none => s
  else s

/-- Stop serving cached translations of a context in `[lo, hi)`. -/
def State.dropLook (s : State) (cab ctx lo hi : Nat) : State :=
  { s with tu := { s.tu with
      look := s.tu.look.filter (fun e => !(e.cab == cab && e.ctx == ctx && overlaps e.va e.size lo (hi - lo))),
      walkc := s.tu.walkc.filter (fun e =>
        !(e.cab == cab && e.ctx == ctx && overlaps e.va (2 ^ lvShift (e.level + 1)) lo (hi - lo))) } }

/-! ### Stalls: device faults, host pages -/

/-- Who asks for a translation. `service` is false for the requests of R133. -/
structure Asker where
  src     : Src
  unit    : Nat
  cab     : Nat
  ctx     : Nat
  owner   : Option Owner := none
  tag     : Nat := 0
  service : Bool := true
  capped  : Bool := false
  id      : Option Nat := none    -- the number of a request already recorded
deriving DecidableEq, Repr

/-- The Dispatch-Combine Engine's requests are spread over its 32 streams (R122, R267): table reads, landing fences,
received sets and commands, told apart by their tags. -/
def dceStream (n : Nat) : Src := .dce (n % 32)
def dceTag (kind n : Nat) : Nat := n * 4 + kind

def Asker.who (a : Asker) : Who := { m := .cab a.cab, unit := a.unit, ctx := some a.ctx }

/-- The function a cabinet's host traffic goes out as. -/
def State.funcOf (s : State) (cab : Nat) : Nat := fld (s.cab cab).conf.func 7 0

def Asker.req (a : Asker) (s : State) (va : Nat) (write : Bool) (ph : ReqPhase) : Req :=
  { id := s.tu.nextReq, src := a.src, unit := a.unit, cab := a.cab, ctx := a.ctx, owner := a.owner, tag := a.tag,
    va := va, write := write, len := 0, data := [], mask := [], phase := ph, since := s.mono,
    service := a.service, capped := a.capped }

/-- A request waits for its translation: missed, or stalled behind it (R122). -/
def Req.missing (r : Req) : Bool :=
  match r.phase with
  | .shadow | .failed .. => false
  | _ => true

/-- A stream accepts no new request while 16 of its misses are outstanding (R122). -/
def State.streamFull (s : State) (x : Src) : Bool := decide (16 ≤ (s.tu.reqs.filter (fun r => r.src == x && r.missing)).length)

/-- Record a stalled request under the next request number. -/
def State.addReq (s : State) (r : Req) : State :=
  { s with tu := { s.tu with reqs := s.tu.reqs ++ [{ r with id := s.tu.nextReq }], nextReq := s.tu.nextReq + 1 } }

def State.setReq (s : State) (r : Req) : State :=
  { s with tu := { s.tu with reqs := updWhere (fun q => q.id == r.id) (fun _ => r) s.tu.reqs } }

def State.dropReq (s : State) (id : Nat) : State :=
  { s with tu := { s.tu with reqs := s.tu.reqs.filter (fun q => q.id != id) } }

/-- The phase of a device fault: attach to the pending record of the context and page, or queue a new one (R129).
Kinds: 1 NOT_PRESENT, 2 PERMISSION. -/
def State.queueFault (s : State) (cab ctx va level kind unit : Nat) (write : Bool) : ReqPhase × State :=
  let page := va / 65536
  match s.tu.faults.find? (fun r => r.cab == cab && r.ctx == ctx && r.page == page) with
  | some r => (.fault r.f, s.bump (rTuCstat cab) 47 32)
  | none =>
    let f := mapGet 0 cab s.tu.fq
    let rcd : FaultRec := { cab := cab, f := f, ctx := ctx, page := page, level := level, kind := kind, write := write,
                            unit := unit, written := false, writtenAt := 0, since := s.mono }
    (.fault f, ({ s with tu := { s.tu with
      fq := mapSet 0 cab (f + 1) s.tu.fq,
      faults := s.tu.faults ++ [rcd] } }).bump (rTuCstat cab) 63 48)

/-- The cabinet's fault queue is enabled (R128). -/
def State.fqOn (s : State) (cab : Nat) : Bool := s.rfld (rFqCfg cab) 0 0 == 1

/-- A host fault that fails (R127). -/
def State.priFail (s : State) : State := s.bump rTuGstat 15 0

/-- What a translation attempt answers. -/
inductive Xl where
  | ok (host : Bool) (pa : Nat) (rm : Bool)
  | wait (r : Req)              -- stalled; the request to record
  | bad (status unit : Nat)
deriving DecidableEq, Repr

/-- The PASID a context's host traffic carries: its own, where it and its function enable PASID (R54, R476). -/
def State.hostPasid (s : State) (cab ctx : Nat) : Option Nat :=
  let x := s.ctx cab ctx
  if x.pasidEn && fld (mapGet 0 (s.funcOf cab) s.hg.cfg) 9 9 == 1 then some x.pasid else none

/-- ATS is enabled for a cabinet's function. -/
def State.atsOn (s : State) (cab : Nat) : Bool := fld (mapGet 0 (s.funcOf cab) s.hg.cfg) 2 2 == 1

/-- A Translation Request goes to the host; it stays outstanding until its completion. -/
def State.askAts (s : State) (id cab ctx va : Nat) (write : Bool) : State :=
  { s with tu := { s.tu with atsOpen := id :: s.tu.atsOpen } }.emit
    (.atsRequest id (s.funcOf cab) va (s.hostPasid cab ctx) write)

/-- A HOST leaf: the ATS request of R125, with the refusals of R125 and R476. -/
def State.askHost (s : State) (a : Asker) (va : Nat) (write leafW : Bool) : Xl × State :=
  let f := s.funcOf a.cab
  let cfg := mapGet 0 f s.hg.cfg
  if write && !leafW then (.bad stXlate uTu, s)
  else if fld cfg 2 2 = 0 then (.bad stXlate uTu, s.priFail)
  else if fld cfg 1 1 = 0 then (.bad stDenied uHost, s)
  else (.wait { a.req s va write .ats with leafW := leafW }, s.askAts (a.id.getD s.tu.nextReq) a.cab a.ctx va write)

/-- A device fault of a request: serviced through the fault queue, or XLATE (R128, R133). -/
def State.devFault (s : State) (a : Asker) (va level kind : Nat) (write : Bool) : Xl × State :=
  if a.service && s.fqOn a.cab then
    let r := s.queueFault a.cab a.ctx va level kind a.unit write
    (.wait (a.req s va write r.1), r.2)
  else (.bad stXlate uTu, s)

/-- Use a cached translation. -/
def State.useLook (s : State) (a : Asker) (e : Lookaside) (va : Nat) (write : Bool) : Xl × State :=
  if e.host then
    if (write && !(e.w && e.hw)) || (!write && !e.hr) || !s.atsOn a.cab then s.askHost a va write e.w else (.ok true (e.pa + (va - e.va)) false, s)
  else if write && !e.w then s.devFault a va e.level 2 write
  else (.ok false (e.pa + (va - e.va)) e.rm, s)

/-- What follows a walk (R118, R124, R125, R128). -/
def State.afterWalk (s : State) (a : Asker) (va : Nat) (write : Bool) : WalkEnd → Xl × State
  | .leaf level pa w rm host merged =>
    if host then s.askHost a va write w
    else
      let page := 2 ^ lvShift level
      let size := if merged then 32 * page else page
      let lo := va / size * size
      let e : Lookaside :=
        { cab := a.cab, ctx := a.ctx, va := lo, size := size, pa := pa - (va / page * page - lo), w := w, rm := rm,
          host := false, level := level }
      let s := s.fill e
      (if a.capped then s.capLook a.cab else s).useLook a e va write
  | .absent level => s.devFault a va level 1 write
  | .malformed => (.bad stXlate uTu, s.bump rTuGstat 47 32)
  | .fail st u => (.bad st u, s)

/-- A request of an engine whose earlier attempt is still stalled or has been failed. -/
def State.earlier (s : State) (a : Asker) (va : Nat) : Option Req :=
  s.tu.reqs.find? (fun r => r.src == a.src && r.tag == a.tag && r.cab == a.cab && r.ctx == a.ctx && r.va / 65536 == va / 65536)

/-- Translate one address for an engine: a hit goes on; a miss is recorded and waits for its walk, after which the engine
asks again. A stalled request asked again stays stalled; a failed one fails once. While the Translation Unit is reset, or
the stream has 16 misses outstanding, nothing is accepted (R122, R123, R380). -/
def State.xlate (s : State) (a : Asker) (va : Nat) (write : Bool) : Xl × State :=
  match s.earlier a va with
  | some r => match r.phase with
    | .failed st u => (.bad st u, s.dropReq r.id)
    | _ => (.wait r, s)
  | none =>
    let miss := a.req s va write (.miss false)
    if s.resetting uTu || s.streamFull a.src then (.wait miss, s)
    else match s.lookup a.cab a.ctx va with
      | some e => match s.useLook a e va write with
        | (.wait q, s) => (.wait q, s.addReq q)
        | r => r
      | none => (.wait miss, s.addReq miss)

/-! ### Accesses at virtual addresses -/

/-- An access's outcome where it may stall. -/
inductive Acc (α : Type) where
  | ok (v : α)
  | wait
  | bad (status unit : Nat)
deriving DecidableEq, Repr

/-- Read from host memory as a cabinet's function. -/
def State.hostReadFor (s : State) (cab p n : Nat) : Res (List Byte) :=
  if s.tu.badHost.any (fun l => overlaps (l * 128) 128 p n) then .bad stXlate uHost else s.hostRead (s.funcOf cab) p n

/-- The directory cache holds the entries of the granules last resolved, the newest first (R120, R137). -/
def State.resolve (s : State) (p n : Nat) : State :=
  let hs := (List.range ((p % 8192 + n + 8191) / 8192)).map (fun i => p / 8192 + i)
  { s with tu := { s.tu with dirc := (hs.reverse ++ s.tu.dirc.filter (fun h => !hs.contains h)).take 65536 } }

def State.readAt (s : State) (a : Asker) (host : Bool) (p n : Nat) : Res (List Byte) × State :=
  if host then (s.hostReadFor a.cab p n, s) else (s.resolve p n).devRead a.who p n

def State.writeAt (s : State) (a : Asker) (host : Bool) (p : Nat) (bs : List Byte) : Res Unit × State :=
  if host then s.hostWrite (s.funcOf a.cab) p bs else (s.resolve p bs.length).devWrite a.who p bs

/-- Translate every 64 KiB page of `[va, va+n)`. -/
def State.xlateAll (s : State) (a : Asker) (va n : Nat) (write : Bool) : Acc Unit × State :=
  go (n / 65536 + 2) s va n
where
  go : Nat → State → Nat → Nat → Acc Unit × State
    | 0, s, _, _ => (.ok (), s)
    | _ + 1, s, _, 0 => (.ok (), s)
    | k + 1, s, va, n =>
      let c := min n (65536 - va % 65536)
      match s.xlate a va write with
      | (.wait _, s) => (.wait, s)
      | (.bad st u, s) => (.bad st u, s)
      | (.ok .., s) => go k s (va + c) (n - c)

/-- Read `n` bytes at a virtual address. -/
def State.vaRead (s : State) (a : Asker) (va n : Nat) : Acc (List Byte) × State :=
  go (n / 65536 + 2) s va n
where
  go : Nat → State → Nat → Nat → Acc (List Byte) × State
    | 0, s, _, _ => (.ok [], s)
    | _ + 1, s, _, 0 => (.ok [], s)
    | k + 1, s, va, n =>
      let c := min n (65536 - va % 65536)
      match s.xlate a va false with
      | (.wait _, s) => (.wait, s)
      | (.bad st u, s) => (.bad st u, s)
      | (.ok host p _, s) =>
        match s.readAt a host p c with
        | (.bad st u, s) => (.bad st u, s)
        | (.ok x, s) =>
          match go k s (va + c) (n - c) with
          | (.ok y, s) => (.ok (x ++ y), s)
          | r => r

/-- Write bytes at a virtual address, in the current location (R141), every page translated before the first byte. -/
def State.vaWrite (s : State) (a : Asker) (va : Nat) (bs : List Byte) : Acc Unit × State :=
  match s.xlateAll a va bs.length true with
  | (.ok _, s) => go (bs.length / 65536 + 2) s va bs
  | r => r
where
  go : Nat → State → Nat → List Byte → Acc Unit × State
    | 0, s, _, _ => (.ok (), s)
    | _ + 1, s, _, [] => (.ok (), s)
    | k + 1, s, va, bs =>
      let c := min bs.length (65536 - va % 65536)
      match s.xlate a va true with
      | (.wait _, s) => (.wait, s)
      | (.bad st u, s) => (.bad st u, s)
      | (.ok host p _, s) =>
        match s.writeAt a host p (bs.take c) with
        | (.bad st u, s) => (.bad st u, s)
        | (.ok _, s) => go k s (va + c) (bs.drop c)

end Sys2Proof.Machine
end

