-- ==== Sys2Proof/Machine/Objects.lean ====
section
/-! DEFINITION. Shared operations over contexts, handles, quotas, command results, descriptors in flight and fences
(R28, R42, R52, R56 to R58, R79, R88 to R94). -/
namespace Sys2Proof.Machine

/-! ### Use of the quota resources (R28) -/

def State.useDrawers (s : State) (cab : Nat) : Nat :=
  (s.drw.drawers.filter (fun e => e.1 / 8192 == cab && e.2.st != .free)).length
def State.useContexts (s : State) (cab : Nat) : Nat :=
  (s.drw.ctxs.filter (fun e => e.1 / 16384 == cab && e.2.st != .free)).length
def State.useLatches (s : State) (cab : Nat) : Nat :=
  (s.lat.latches.filter (fun e => e.2.cab == cab && e.2.st != .free)).length
def State.useObjs (s : State) (cab : Nat) : Nat :=
  (s.drw.objs.filter (fun e => e.2.cab == cab && e.2.used)).length

def quotaDrawers (c : CabConf) : Nat := fld c.quotaA 13 0
def quotaLatches (c : CabConf) : Nat := fld c.quotaA 30 16
def quotaContexts (c : CabConf) : Nat := fld c.quotaA 46 32
def quotaTables (c : CabConf) : Nat := fld c.quotaA 56 48
def quotaObjs (c : CabConf) : Nat := fld c.quotaB 20 0

/-! ### Command and result registers (R52, R53) -/

/-- Start a command on a result register: refused with OVERRUN while READY is 0; otherwise READY 0 and OVERRUN 0. -/
def State.accept (s : State) (res : Nat) : Option State :=
  if s.rfld res 63 63 = 0 then none else some (s.setReg res (setFld (setFld (s.reg res) 63 63 0) 62 62 0))

/-- A command that arrives while READY is 0 (R53). -/
def State.overrun (s : State) (res : Nat) : State := s.setRfld res 62 62 1

/-- End a command: ERR and VALUE together with READY 1. -/
def State.result (s : State) (res err value : Nat) : State :=
  s.setReg res (pack [(63, 1), (62, s.rfld res 62 62), (56, err), (0, value % 2 ^ 32)])

def errNone : Nat := 0
def errQuota : Nat := 1
def errArg : Nat := 2
def errNoCtx : Nat := 3
def errStale : Nat := 4
def errState : Nat := 5

/-- A command that ends at once with an error code, a value and an effect. -/
def State.command (s : State) (res : Nat) (f : State → Nat × Nat × State) : State :=
  match s.accept res with
  | none => s.overrun res
  | some s => let r := f s; r.2.2.result res r.1 r.2.1

/-- Whether a function reaches cabinet `n`'s operating registers with effect: the cabinet is LIVE, and the function is
the platform's or the one bound to it (R20, R50, R496). -/
def State.mayOperate (s : State) (func n : Nat) : Bool :=
  s.hostUp && (s.cab n).st == .live && (func == 0 || s.funcOf n == func)

/-- The BLK, PLN and DBG ranges and the report pages (R495). -/
def neverHeld (off : Nat) : Bool := decide (off < 0x100000) || decide (0xA80000 ≤ off)

/-- The unit a register belongs to, or the Host Gate itself, is in HOLD, RESET or RESYNC, or an earlier access waits: the
access is held (R380, R493, R495; log 150). -/
def State.regHeld (s : State) (off : Nat) : Bool :=
  !neverHeld off && (s.resetting (regUnit off) || s.resetting uHost || s.hg.regs != [])

/-- An access to the register at platform offset `off`: carried out, or held until its unit's RELEASE (R495). -/
def State.access (s : State) (off : Nat) (a : HeldAccess) (f : State → State) : State :=
  if s.regHeld off then { s with hg := { s.hg with regs := s.hg.regs ++ [a] } } else f s

/-- The offset by which a function reaches offset `o` of cabinet `n`'s window (R20). -/
def winOff (func n o : Nat) : Nat := if func = 0 then rWin n + o else o

/-- An access to the operating register at offset `o` of cabinet `n`'s window, writing `v` or reading, by a function that
reaches it: it wakes the cabinet (R421) and has its effect. Without a LIVE cabinet the platform's access only wakes the
block. -/
def State.operate (s : State) (func n o : Nat) (v : Option Word) (f : State → State) : State :=
  if s.mayOperate func n then (s.wakeCab n 1).access (rWin n + o) { func := func, off := winOff func n o, data := v } f
  else if s.hostUp && func == 0 then s.wakeBlock 1
  else s

/-- An access of the platform function to the chip-wide register at `off`, writing `v` or reading: it wakes the block and has
its effect (R496). -/
def State.platform (s : State) (func off : Nat) (v : Option Word) (f : State → State) : State :=
  if func = 0 ∧ s.hostUp = true then (s.wakeBlock 1).access off { func := 0, off := off, data := v } f else s

/-- The word of a command register with OP in [3:0] and an index from bit 16 on. -/
def cmdWord (op : Nat) (i : Nat := 0) : Word := pack [(16, i), (0, op)]

/-! ### Handles (R56, R58) -/

def handleIdx (h : Nat) : Nat := h % 2 ^ 20
def handleGen (h : Nat) : Nat := h / 2 ^ 20 % 4096
def mkHandle (gen idx : Nat) : Nat := gen * 2 ^ 20 + idx

/-- The handle names an unreleased entry of the cabinet. -/
def State.named (s : State) (cab h : Nat) : Bool :=
  let o := s.obj (handleIdx h)
  o.used && !o.withdrawn && o.gen == handleGen h && o.cab == cab

/-- The handle is the context's own. -/
def State.owns (s : State) (cab ctx h : Nat) : Bool := s.named cab h && (s.obj (handleIdx h)).ctx == ctx

/-- An entry returns to free when its handle is withdrawn, nothing in flight names it and no alias names its object;
the generation steps, never to 0 (R58). -/
def State.objFree (s : State) (i : Nat) : State :=
  let o := s.obj i
  let aliased := o.orig == i && s.drw.objs.any (fun e => e.2.used && e.1 != i && e.2.orig == i && e.2.cab == o.cab)
  if o.used && o.withdrawn && o.refs == 0 && !aliased then
    let s := s.setObj i { gen := if o.gen = 4095 then 1 else o.gen + 1 }
    { s with drw := { s.drw with freed := s.drw.freed ++ [i] } }
  else s

/-- Free an entry if it may be, then its object's creating entry. -/
def State.objSettle (s : State) (i : Nat) : State :=
  let o := s.obj i
  let s := s.objFree i
  if o.used && o.orig != i then s.objFree o.orig else s

/-- The index a new handle takes: the lowest never used, else the one freed first (log 12). -/
def State.objTake (s : State) : Nat × State :=
  if s.drw.fresh < 2 ^ 20 then (s.drw.fresh, { s with drw := { s.drw with fresh := s.drw.fresh + 1 } })
  else match s.drw.freed with
    | i :: r => (i, { s with drw := { s.drw with freed := r } })
    | [] => (0, s)

/-- Withdraw a handle (RELEASE). -/
def State.objRelease (s : State) (i : Nat) : State :=
  (s.setObj i { s.obj i with withdrawn := true }).objSettle i

/-- Take references for a descriptor, or drop them (R79). -/
def State.holdRefs (s : State) (hs : List Nat) : State :=
  hs.foldl (fun s h => let i := handleIdx h; s.setObj i { s.obj i with refs := (s.obj i).refs + 1 }) s
def State.dropRefs (s : State) (hs : List Nat) : State :=
  hs.foldl (fun s h =>
    let i := handleIdx h
    (s.setObj i { s.obj i with refs := (s.obj i).refs - 1 }).objSettle i) s

/-! ### Descriptors in flight -/

def Flight.is (f : Flight) (cab drawer seq : Nat) : Bool := f.cab == cab && f.drawer == drawer && f.seq == seq

def State.flight (s : State) (cab drawer seq : Nat) : Option Flight :=
  s.drw.flights.find? (fun f => f.is cab drawer seq)

def State.updFlight (s : State) (cab drawer seq : Nat) (g : Flight → Flight) : State :=
  { s with drw := { s.drw with flights := updWhere (fun f => f.is cab drawer seq) g s.drw.flights } }

def Stage.isEnded : Stage → Bool
  | .ended _ => true
  | _ => false

/-- A descriptor's work ends; the first ending stands. -/
def State.endFlight (s : State) (cab drawer seq : Nat) (e : Ending) : State :=
  let s := if e.status ≠ stDone ∧ e.status ≠ stFallback then
      match e.unit with | some u => s.tally u 7 (some cab) | none => s else s
  s.updFlight cab drawer seq (fun f => if f.stage.isEnded then f else { f with stage := .ended e })

/-- The descriptor is issued and waits for its unit: the precondition of its opcode's command. -/
def State.issuedOp (s : State) (cab drawer seq op : Nat) : Option Flight :=
  match s.flight cab drawer seq with
  | some f => if f.stage == .issued && f.op == op then some f else none
  | none => none

def State.startFlight (s : State) (f : Flight) : State := s.updFlight f.cab f.drawer f.seq (fun g => { g with stage := .running })

def State.inflight (s : State) (cab drawer : Nat) : Nat :=
  (s.drw.flights.filter (fun f => f.cab == cab && f.drawer == drawer)).length

/-- DONE_LOW's sequence number (R62). -/
def State.doneLow (s : State) (cab drawer : Nat) : Nat :=
  match s.drw.flights.find? (fun f => f.cab == cab && f.drawer == drawer) with
  | some f => f.seq
  | none => (s.drawer cab drawer).nextSeq

def Drawer.ringLog2 (d : Drawer) : Nat := bitsOf d.cfg 4 0
def Drawer.cqLog2 (d : Drawer) : Nat := bitsOf d.cfg 12 8
def Drawer.gen (d : Drawer) : Nat := bitsOf d.cfg 17 16
def Drawer.mode (d : Drawer) : Nat := bitsOf d.cfg 19 18
/-- The command runs as DIRECT (R66, R73, R134). -/
def State.runsDirect (s : State) (f : Flight) : Bool :=
  f.flags.testBit 0 || (s.drawer f.cab f.drawer).mode == 2 || (f.op == 1 && f.gen == 1)

/-! ### Fences (R88 to R94) -/

def fenceError : Nat := 2 ^ 63 - 1

/-- Word 1 of a fence (R89). -/
def fenceWord (status unit seq : Nat) : Word := pack [(60, status), (48, unit), (0, seq)]

/-- The Latch Unit's stream for a context. -/
def latAsker (cab ctx : Nat) : Asker := { src := .lat, unit := uLatch, cab := cab, ctx := ctx }

/-- R93: count a lower signal of a cabinet, and at each latch that watches the fence: at its address, or, where the latch
has not found it, at its virtual address in the cabinet. -/
def State.lowerSignal (s : State) (cab base : Nat) (host : Bool) (p : Nat) : State :=
  let s := (s.bump (rLatStat cab) 63 48).bump rLatGstat 63 48
  let on (l : Latch) : Bool :=
    l.st != .free && (if l.known then l.host == host && l.pa == p else l.cab == cab && (s.obj l.obj).base == base)
  { s with lat := { s.lat with latches := s.lat.latches.map (fun e =>
      if on e.2 then (e.1, { e.2 with lower := min (e.2.lower + 1) 65535 }) else e) } }

/-- Signal a fence at a virtual address: VALUE becomes the maximum (R91, R93). -/
def State.signalFence (s : State) (a : Asker) (base value : Nat) : Acc Unit × State :=
  match s.xlate a base true with
  | (.wait _, s) => (.wait, s)
  | (.bad st u, s) => (.bad st u, s)
  | (.ok host p _, s) =>
    match s.readAt a host p 8 with
    | (.bad st u, s) => (.bad st u, s)
    | (.ok bs, s) =>
      if leNat bs < value then
        match s.writeAt a host p (toLe 8 value) with
        | (.bad st u, s) => (.bad st u, s)
        | (.ok _, s) => (.ok (), s)
      else if leNat bs = value then (.ok (), s)
      else (.ok (), s.lowerSignal a.cab base host p)

/-- Attach an error: word 1, then the error value in word 0; the first error stays (R94). With `low`, only where VALUE is
below the error value (R107). -/
def State.attachError (s : State) (a : Asker) (base : Nat) (w1 : Word) (low : Bool := false) : Acc Unit × State :=
  match s.xlate a base true with
  | (.wait _, s) => (.wait, s)
  | (.bad st u, s) => (.bad st u, s)
  | (.ok host p _, s) =>
    match s.readAt a host p 8 with
    | (.bad st u, s) => (.bad st u, s)
    | (.ok bs, s) =>
      if leNat bs = fenceError || (low && decide (fenceError ≤ leNat bs)) then (.ok (), s)
      else match s.writeAt a host (p + 8) (toLe 8 w1.toNat) with
        | (.bad st u, s) => (.bad st u, s)
        | (.ok _, s) =>
          match s.writeAt a host p (toLe 8 fenceError) with
          | (.bad st u, s) => (.bad st u, s)
          | (.ok _, s) => (.ok (), s)

end Sys2Proof.Machine
end

