-- ==== Sys2Proof/Machine/Commit.lean ====
section
/-! DEFINITION. Commit-by-remap (R134 to R146): the shadow pool, shadow reads and writes, commit, discard, settling and
the sequence point. -/
namespace Sys2Proof.Machine

/-! ### The pool (R136) -/

/-- Usable granules of a configuration. -/
def CabConf.usable (c : CabConf) : Nat := (c.reserve - c.reserve / 256) / 8192

/-- The `i`-th 8 KiB of a list of pieces, as a granule number. -/
def nthGran : Nat → List (Nat × Nat) → Nat
  | _, [] => 0
  | i, (p, n) :: r => if i < n / 8192 then p / 8192 + i else nthGran (i - n / 8192) r

/-- Pool granule `i`: above the directory, in ascending order. -/
def CabConf.poolGran (c : CabConf) (i : Nat) : Nat := nthGran (c.reserve / 256 / 8192 + i) c.reservePieces.reverse

/-- A granule's home lies in the cabinet's shelf. -/
def State.homeOf (s : State) (cab h : Nat) : Bool := (s.cab cab).conf.has (h * 8192)

/-- The pool granule an entry holds, if any: CURRENT, or a SHADOW that is not the home itself. -/
def Gran.held (g : Gran) (h : Nat) : Option Nat :=
  match g.cur with
  | some c => some c
  | none => match g.shadow with
    | some (_, x) => if x = h then none else some x
    | none => none

/-- The cabinet's entries. -/
def State.gransOf (s : State) (cab : Nat) : List (Nat × Gran) := s.tu.grans.filter (fun e => s.homeOf cab e.1)

/-- Pool granules in use, split by whether a reservation serves them. -/
def State.poolUsed (s : State) (cab : Nat) (resv : Bool) : Nat :=
  ((s.gransOf cab).filter (fun e => e.2.resv == resv && (e.2.held e.1).isSome)).length

def State.reservedOf (s : State) (cab : Nat) : Nat := mapGet 0 cab s.tu.reserved

/-- FREE granules for ordinary commands, or for inbound sets (R244). -/
def State.poolFree (s : State) (cab : Nat) (resv : Bool) : Nat :=
  if resv then s.reservedOf cab - s.poolUsed cab true
  else (s.cab cab).conf.usable - max (s.reservedOf cab) (s.poolUsed cab true) - s.poolUsed cab false

/-- The lowest FREE pool granule. -/
def State.takeGran (s : State) (cab : Nat) : Nat :=
  let c := (s.cab cab).conf
  let used := (s.gransOf cab).filterMap (fun e => e.2.held e.1)
  c.poolGran (((List.range (used.length + 1)).find? (fun i => !used.contains (c.poolGran i))).getD 0)

/-- The granules declared ranges touch, each range by itself (R135). -/
def shadowNeed (outs : List (Nat × Nat)) : Nat :=
  (outs.map (fun r => if r.2 = 0 then 0 else (r.1 + r.2 - 1) / 8192 + 1 - r.1 / 8192)).sum

/-- R135, check 9: the pool holds the declared ranges' granules. -/
def State.shadowFits (s : State) (cab : Nat) (outs : List (Nat × Nat)) : Bool :=
  decide (shadowNeed outs ≤ (s.cab cab).conf.usable - s.reservedOf cab)

/-! ### Shadow access (R137, R138) -/

/-- What a first write to a granule meets. -/
inductive ShadowRes where
  | ok
  | conflict (o : Owner)        -- another running command's SHADOW (R141)
  | stall                       -- no FREE granule (R142, R144)
  | bad (status unit : Nat)
  | fail (status unit : Nat)    -- the copy of a partly written line failed: the command fails (R138)
deriving DecidableEq, Repr

/-- Where a command's own read of an address lies: its shadow for lines it has written. -/
def State.ownPlace (s : State) (o : Owner) (p : Nat) : Nat :=
  match (s.gran (p / 8192)).shadow with
  | some (x, g) => if x = o ∧ (s.gran (p / 8192)).map.testBit (p % 8192 / 128) then g * 8192 + p % 8192 else s.locate p
  | none => s.locate p

/-- The 64 KiB page through which a shadow is reached is kept for withdrawals (R147). -/
def Gran.seen (g : Gran) (va : Nat) : Gran :=
  if g.vias.contains (va / 65536) then g else { g with vias := va / 65536 :: g.vias }

/-- Give the owner a SHADOW for granule `h`. -/
def State.shadowFor (s : State) (o : Owner) (cab ctx va h : Nat) (resv : Bool) : ShadowRes × State :=
  let g := s.gran h
  match g.shadow with
  | some (x, _) => if x = o then (.ok, s.setGran h (g.seen va)) else (.conflict x, s)
  | none =>
    if s.tu.frozen.contains cab then (.stall, s)
    else match g.cur with
      | some _ => (.ok, s.setGran h { g with shadow := some (o, h), map := 0, viaCtx := ctx, vias := [va / 65536] })
      | none =>
        if s.poolFree cab resv = 0 then (.stall, s)
        else (.ok, s.setGran h { g with
          shadow := some (o, s.takeGran cab), map := 0, viaCtx := ctx, vias := [va / 65536], resv := resv })

/-- A committing write within a line (R138). -/
def State.shadowWrite (s : State) (o : Owner) (w : Who) (cab ctx va p : Nat) (bs : List Byte) (resv : Bool := false) :
    ShadowRes × State :=
  let h := p / 8192
  let line := p % 8192 / 128
  match (s.resolve p bs.length).shadowFor o cab ctx va h resv with
  | (.ok, s) =>
    let g := s.gran h
    match g.shadow with
    | none => (.ok, s)
    | some (_, x) =>
      let lineP := p / 128 * 128
      let put (s : State) (q : Nat) (d : List Byte) : ShadowRes × State :=
        match s.writeLoc w q (x * 8192 + q % 8192) d with
        | (.ok _, s) => (.ok, s.setGran h { g with map := g.map ||| 2 ^ line })
        | (.bad st u, s) => (.bad st u, s)
      if g.map.testBit line || bs.length == 128 then put s p bs
      else match s.readLine w lineP 128 with
        | (.bad st u, s) => (.fail st u, s)
        | (.ok old, s) => put s lineP (old.take (p % 128) ++ bs ++ old.drop (p % 128 + bs.length))
  | r => r

/-! ### The sequence point (R146) -/

/-- One passage of the sequence point: TU_SEQ counts it, modulo 2^48. -/
def State.passSeq (s : State) : State := s.setReg rTuSeq (BitVec.ofNat 64 (((s.reg rTuSeq).toNat + 1) % 2 ^ 48))

/-- The pool granules that an owner's shadows hold (R142). -/
def State.poolShadows (s : State) (o : Owner) : Nat :=
  (s.tu.grans.filter (fun e => match e.2.shadow with | some (x, y) => x == o && y != e.1 | none => false)).length

/-- Homes whose granule the owner shadows. -/
def State.shadowsOf (s : State) (o : Owner) : List Nat :=
  (s.tu.grans.filter (fun e => match e.2.shadow with | some (x, _) => x = o | none => false)).map (·.1)

/-- Copy the lines missing from a shadow's written map (R139). -/
def State.fillGran (s : State) (w : Who) (h : Nat) : Res Unit × State :=
  go 64 s
where
  go : Nat → State → Res Unit × State
    | 0, s => (.ok (), s)
    | k + 1, s =>
      let i := 63 - k
      let g := s.gran h
      match g.shadow with
      | none => (.ok (), s)
      | some (_, x) =>
        if g.map.testBit i then go k s
        else match s.readLine w (h * 8192 + i * 128) 128 with
          | (.bad st u, s) => (.bad st u, s)
          | (.ok d, s) =>
            match s.writeLoc w (h * 8192 + i * 128) (x * 8192 + i * 128) d with
            | (.bad st u, s) => (.bad st u, s)
            | (.ok _, s) => go k s

/-- Fill every shadow of a list; the first failure ends it. -/
def State.fillAll (w : Who) : List Nat → State → Res Unit × State
  | [], s => (.ok (), s)
  | h :: r, s =>
    match s.fillGran w h with
    | (.ok _, s) => State.fillAll w r s
    | e => e

/-- A shadow becomes current: a pool granule becomes CURRENT; a home used as shadow removes the entry (R139). -/
def State.makeCurrent (s : State) (h : Nat) : State :=
  let g := s.gran h
  match g.shadow with
  | none => s
  | some (_, x) =>
    let s := if x = h then s.setGran h {} else s.setGran h { cur := some x, age := s.tu.commits, resv := g.resv }
    s.touchDev (h * 8192) 8192

/-- A hold that has ended: no granule is waited for. -/
def Hold.over : Hold := .granules 0

/-- An owner has committed or been discarded: replays that R141 holds back on it may go on. -/
def State.endHold (s : State) (o : Owner) : State :=
  let ended (l : List Hold) : List Hold := l.map (fun h => if h == .shadowOf o then .over else h)
  { s with
    ts := { s.ts with cmds := s.ts.cmds.map (fun c => { c with holds := ended c.holds }) },
    dce := { s.dce with cmds := s.dce.cmds.map (fun c => { c with holds := ended c.holds }) } }

/-- Discard every shadow of an owner (R140). -/
def State.discardShadows (s : State) (o : Owner) : State :=
  (s.shadowsOf o).foldl (init := s.endHold o) (fun s h =>
    let g := s.gran h
    s.setGran h (match g.cur with | some _ => { g with shadow := none, map := 0 } | none => {}))

/-- Commit an owner's shadows: fill, pass the sequence point, make them current together (R139). On a failed fill the
shadows are discarded. -/
def State.commitOwner (s : State) (o : Owner) (w : Who) : Res Unit × State :=
  let hs := s.shadowsOf o
  match State.fillAll w hs s with
  | (.bad st u, s) => (.bad st u, s.discardShadows o)
  | (.ok _, s) =>
    let t := (hs.foldl State.makeCurrent s.passSeq).endHold o
    (.ok (), { t with tu := { t.tu with commits := t.tu.commits + 1 } })

/-! ### Settling (R143) -/

/-- Copy a CURRENT granule home: every line read from c, then written at h. -/
def State.copyHome (s : State) (w : Who) (h c : Nat) : Res Unit × State :=
  go 64 s
where
  go : Nat → State → Res Unit × State
    | 0, s => (.ok (), s)
    | k + 1, s =>
      let o := (63 - k) * 128
      match s.readLoc w (h * 8192 + o) (c * 8192 + o) 128 with
      | (.bad st u, s) => (.bad st u, s)
      | (.ok d, s) =>
        match s.writeLoc w (h * 8192 + o) (h * 8192 + o) d with
        | (.bad st u, s) => (.bad st u, s)
        | (.ok _, s) => go k s

/-- Settle one granule: `none` where it cannot be settled now; a failed read leaves the entry CURRENT. -/
def State.settleGran (s : State) (cab h : Nat) : Option (Res Unit) × State :=
  let g := s.gran h
  match g.cur with
  | none => (none, s)
  | some c =>
    if g.shadow.isSome then (none, s)
    else match s.copyHome { m := .cab cab, unit := uTu } h c with
      | (.bad st u, s) => (some (.bad st u), s.setGran h { g with failed := true })
      | (.ok _, s) => (some (.ok ()), ((s.setGran h {}).passSeq).bump (rTuCstat cab) 15 0)

end Sys2Proof.Machine
end

