-- ==== Sys2Proof/Machine/TileOps.lean ====
section
/-! DEFINITION. Shared operations of the Tile Scheduler (chapter 06): the scoreboard, the end of a run, kills. -/
namespace Sys2Proof.Machine

def Cmd.is (c : Cmd) (cab n : Nat) : Bool := c.cab == cab && c.n == n
def State.cmd (s : State) (cab n : Nat) : Option Cmd := s.ts.cmds.find? (fun c => c.is cab n)
def State.updCmd (s : State) (cab n : Nat) (f : Cmd → Cmd) : State :=
  { s with ts := { s.ts with cmds := updWhere (fun c => c.is cab n) f s.ts.cmds } }

/-- A request of the run gets an error (R479). -/
def Cmd.gets (c : Cmd) (e : RunError) : Cmd :=
  { c with errors := c.errors.filter (fun x => decide (x.ord ≤ e.ord)) ++ [e] ++ c.errors.filter (fun x => decide (e.ord < x.ord)) }
/-- A status that was returned to the run, with the unit that returned it on the earliest request that got it (R479). -/
def Cmd.returned (c : Cmd) (status : Nat) : Option (Nat × Nat) :=
  (c.errors.find? (fun e => e.status == status)).map (fun e => (status, e.unit))
/-- A status returned to a run on one of its requests; `hard` where the command fails whatever its tiles report (R118,
R135). -/
def State.noteErr (s : State) (o : Option Owner) (ord st u : Nat) (hard : Bool := false) : State :=
  match o with
  | some (.cmd cab n) => s.updCmd cab n (fun c =>
      { c.gets { ord := ord, status := st, unit := u } with deny := if hard then some (c.deny.getD (st, u)) else c.deny })
  | _ => s

def State.dropCmd (s : State) (cab n : Nat) : State :=
  { s with ts := { s.ts with cmds := s.ts.cmds.filter (fun c => !c.is cab n) } }

/-- The command of a descriptor. -/
def State.cmdOf (s : State) (cab drawer seq : Nat) : Option Cmd :=
  s.ts.cmds.find? (fun c => c.cab == cab && c.desc == some (drawer, seq))

/-- The command is on tiles. -/
def Cmd.onTiles (c : Cmd) : Bool :=
  match c.phase with
  | .clearing _ | .running | .killing _ => true
  | _ => false

/-- Committing commands run, of the tiles and of the Dispatch-Combine Engine, up to 4,096 at once chip-wide (R145). -/
def State.mayCommit (s : State) : Bool :=
  let tiles := (s.ts.cmds.filter (fun c => !c.direct && match c.phase with | .waiting | .finished .. => false | _ => true)).length
  let rows := (s.dce.cmds.filter (fun c => !c.direct && (c.phase != .queued || c.started))).length
  decide (tiles + rows < 4096)

/-- Committing commands hold no place beyond their tiles; this one counts as running for kills (R192). -/
def Cmd.live (c : Cmd) : Bool :=
  match c.phase with
  | .clearing _ | .running | .committing => true
  | _ => false

/-- Charge tile-nanoseconds of busy time to a cabinet and context (R45, R85). -/
def State.chargeBusy (s : State) (cab ctx ns : Nat) : State :=
  let c := s.cab cab
  let s := s.setCab cab { c with win := { c.win with tileBusy := c.win.tileBusy + ns },
                                 tot := { c.tot with tileBusy := c.tot.tileBusy + ns } }
  let x := s.ctx cab ctx
  if x.st == .free then s else s.setCtx cab ctx { x with busyNs := x.busyNs + ns, lastRun := s.mono }

/-- Deliver a tile its pending function tables (R282). -/
def State.deliverTables (s : State) (t : Nat) : State :=
  let x := s.tile t
  let s := x.owed.foldl (fun s k => s.emit (.tableTo t k (mapGet {} k s.ft.slots).bytes)) s
  s.setTile t { x with owed := [], tables := x.tables ++ x.owed.filter (fun k => !x.tables.contains k) }

/-- Start clearing a tile's scratchpad and accumulators (R35): its keys and last context are forgotten (R187). -/
def State.clearTile (s : State) (t : Nat) : State :=
  let x := s.tile t
  (s.setTile t { x with clearing := true, keys := [], last := none, resident := none, progress := s.mono }).emit (.clear t)

/-- A tile that leaves its cabinet is cleared once it is idle and holds no resident state (R34). -/
def State.pushLeaving (s : State) (t : Nat) : State :=
  let x := s.tile t
  if x.leaving && !x.busy && !x.clearing && !x.killing && x.resident.isNone then s.clearTile t else s

/-- A tile stops running its command with an end status (R209 LAST_STATUS); it stays BUSY for a swap (R187). -/
def State.freeTile (s : State) (t status : Nat) : State :=
  let x := s.tile t
  let s := match x.cmd, x.cab with
    | some n, some cab => match s.cmd cab n with
      | some c => s.chargeBusy cab c.ctx (s.mono - x.since)
      | none => s
    | _, _ => s
  let swaps := s.ts.swaps.any (fun w => w.tiles.contains t)
  (((s.setTile t { x with busy := swaps, killing := false, cmd := none, lastStatus := status }).tally (uTile t) 4
    x.cab (if status = stKilled then 0 else 1)).deliverTables t).pushLeaving t

def State.freeTiles (s : State) (ts : List Nat) (status : Nat) : State := ts.foldl (fun s t => s.freeTile t status) s

/-- Detach the stalled requests of an owner (R133): their fault records stay; replies to its remote requests will be
dropped (R197). -/
def State.dropReqsOf (s : State) (o : Owner) : State :=
  { s with tu := { s.tu with reqs := s.tu.reqs.filter (fun r => r.owner != some o) },
           fr := { s.fr with reqs := s.fr.reqs.filter (fun r => r.owner != some o) } }

/-- A hold that has not ended (R141, R142, R144, R386). -/
def State.holding (s : State) (cab : Nat) : Hold → Bool
  | .shadowOf _ => true
  | .granules n => decide (s.poolFree cab false < n)
  | .applyEnd => (s.cab cab).work == .applying
  | .search => true

/-- The command is in its cabinet's ready order (R188, R194). -/
def State.ready (s : State) (c : Cmd) : Bool := c.phase == .waiting && !c.holds.any (s.holding c.cab)

/-- The command's context activity (R187). -/
def State.readyCmd (s : State) (cab ctx : Nat) : Bool :=
  s.ts.cmds.any (fun c => c.cab == cab && c.ctx == ctx && s.ready c)
def State.runningCmd (s : State) (cab ctx : Nat) : Bool :=
  s.ts.cmds.any (fun c => c.cab == cab && c.ctx == ctx && c.onTiles)
/-- At least one drawer of the context is held at a WAIT (R99). -/
def State.heldAtWait (s : State) (cab ctx : Nat) : Bool :=
  s.lat.waits.any (fun w => w.cab == cab && (s.drawer cab w.drawer).ctx == ctx)

/-- Activity class: 0 IDLE, 1 BLOCKED, 2 READY, 3 RUNNING (R187, R209). -/
def State.activity (s : State) (cab ctx : Nat) : Nat :=
  if s.runningCmd cab ctx then 3 else if s.readyCmd cab ctx then 2 else if s.heldAtWait cab ctx then 1 else 0

/-- Keep the moment a context entered BLOCKED (R187). -/
def State.noteActivity (s : State) (cab ctx : Nat) : State :=
  let x := s.ctx cab ctx
  if x.st == .free then s
  else if s.activity cab ctx = 1 then
    if x.blockedAt.isNone then s.setCtx cab ctx { x with blockedAt := some s.mono } else s
  else if x.blockedAt.isSome then s.setCtx cab ctx { x with blockedAt := none } else s

/-- Replays whose holds have all ended enter the ready order: the wait of R188 is measured from then. -/
def State.renewWaits (s : State) (cab : Nat) : State :=
  let free := s.ts.cmds.filter (fun c => c.cab == cab && c.phase == .waiting && c.holds != [] && !c.holds.any (s.holding cab))
  free.foldl (fun s c => (s.updCmd cab c.n (fun x => { x with holds := [], waitFrom := s.mono })).noteActivity cab c.ctx) s

/-- A command ends with a status: its shadows are gone, its descriptor ends, or the batcher finds it finished. -/
def State.endCmd (s : State) (c : Cmd) (status : Nat) (unit : Option Nat) : State :=
  let s := (s.dropReqsOf (.cmd c.cab c.n)).tally uTs 4 (some c.cab)
  let s := match c.desc with
    | some (d, q) => (s.dropCmd c.cab c.n).endFlight c.cab d q { status := status, unit := unit }
    | none => s.updCmd c.cab c.n (fun x => { x with phase := .finished status (unit.getD 0), tiles := [], endAt := s.mono })
  (s.noteActivity c.cab c.ctx).renewWaits c.cab

/-- Kills count at the cabinet, the context and the scheduler (R192); `prio` for priority pre-emption. -/
def State.countKill (s : State) (c : Cmd) (cause : Nat) : State :=
  let b := s.cab c.cab
  let s := s.setCab c.cab { b with tot := { b.tot with kills := b.tot.kills + 1 } }
  let x := s.ctx c.cab c.ctx
  let s := if x.st == .live then s.setCtx c.cab c.ctx { x with kills := x.kills + 1 } else s
  c.tiles.foldl (fun s t => s.tally (uTile t) 8 (some c.cab))
    ((s.trace 0x03 uTs (some c.cab) (some c.ctx) (c.num.getD 0) cause).tally uTs 8 (some c.cab))

/-- Count a cause (R192, R196). -/
def State.countCause (s : State) (cab cause : Nat) : State :=
  if cause = 1 then s.bump (rTsCnt cab) 63 48 else s.bump (rTsCnt cab) 47 32

/-- The killed run is over: its outputs are discarded, its tiles are free, and it returns to the ready order unless its
context is torn down (R193, R194, R196). -/
def State.finishKill (s : State) (c : Cmd) : State :=
  let last := match c.fail with | some (st, _) => st | none => stKilled
  let s := ((s.discardShadows (.cmd c.cab c.n)).dropReqsOf (.cmd c.cab c.n)).freeTiles c.tiles last
  if c.gone && c.fail.map (·.1) != some stGuilty then
    match c.desc with
    | some (d, q) => (s.dropCmd c.cab c.n).endFlight c.cab d q { status := stAbandoned, unit := some uDrawer }
    | none => s.dropCmd c.cab c.n
  else match c.fail with
    | some (st, u) => s.endCmd c st (some u)
    | none =>
      let s := s.updCmd c.cab c.n (fun x => { x with phase := .waiting, tiles := [], done := [], errors := [], said := none,
                                                     deny := none, stuck := false, replay := true, waitFrom := s.mono })
      (s.noteActivity c.cab c.ctx).renewWaits c.cab

/-- Kill a running committing command (R192, R193). Causes are numbered by the rows of R192; `h` holds its replay. A
command that waits is not killed; a second cause is only counted. -/
def State.killCmd (s : State) (cab n cause : Nat) (h : List Hold := []) : State :=
  match s.cmd cab n with
  | none => s
  | some c =>
    if c.direct then s
    else match c.phase with
      | .clearing _ | .running =>
        let s := (s.countKill c cause).countCause cab cause
        let s := c.tiles.foldl (fun s t =>
          (s.setTile t { s.tile t with killing := true, progress := s.mono, killAt := s.mono }).emit (.kill t)) s
        (s.updCmd cab n (fun x => { x with phase := .killing c.tiles, holds := x.holds ++ h,
                                           killsPrio := x.killsPrio + if cause = 1 then 1 else 0 })).dropReqsOf (.cmd cab n)
      | .committing =>
        let s := (s.countKill c cause).countCause cab cause
        let c' := { c with holds := c.holds ++ h, tiles := [] }
        (s.updCmd cab n (fun _ => c')).finishKill c'
      | .killing _ => (s.countCause cab cause).updCmd cab n (fun x => { x with holds := x.holds ++ h })
      | _ => s

/-- A tile has acknowledged its kill. -/
def State.ackKill (s : State) (t : Nat) : State :=
  let x := s.tile t
  match x.killing, x.cmd, x.cab with
  | true, some n, some cab =>
    match s.cmd cab n with
    | some c => match c.phase with
      | .killing left =>
        let left := left.filter (fun y => y != t)
        let s := s.setTile t { x with killing := false }
        if left = [] then s.finishKill { c with phase := .killing [] }
        else s.updCmd cab n (fun y => { y with phase := .killing left })
      | _ => s.setTile t { x with killing := false }
    | none => s.setTile t { x with killing := false, busy := s.ts.swaps.any (fun w => w.tiles.contains t), cmd := none }
  | _, _, _ => s

/-- Running committing commands of a cabinet that hold SHADOW granules. -/
def State.shadowHolders (s : State) (cab : Nat) : List Cmd :=
  s.ts.cmds.filter (fun c => c.cab == cab && c.live && !(s.shadowsOf (.cmd cab c.n)).isEmpty)

/-- Of a list, the command that started latest (R142). -/
def latestStart : List Cmd → Option Cmd
  | [] => none
  | c :: r => match latestStart r with
    | none => some c
    | some d => if c.start ≤ d.start then some d else some c

end Sys2Proof.Machine
end

