-- ==== Sys2Proof/Machine/Fabric.lean ====
section
/-! DEFINITION. The Moatis fabric's shared operations (R343 to R361): node IDs, routes, injection, the local turn, job
tags, the abort flood's origin. -/
namespace Sys2Proof.Machine

/-! ### Packet types (R345) -/

def ptDisc : Nat := 0x01
def ptAbort : Nat := 0x02
def ptMarker : Nat := 0x03
def ptLedger : Nat := 0x04
def ptUnreach : Nat := 0x05
def ptWrite : Nat := 0x10
def ptWack : Nat := 0x11
def ptRead : Nat := 0x12
def ptRdata : Nat := 0x13
def ptSignal : Nat := 0x20
def ptSack : Nat := 0x21
def ptSet : Nat := 0x30
def ptSeal : Nat := 0x31
def ptCommit : Nat := 0x32
def ptDiscard : Nat := 0x33
def ptSetrsp : Nat := 0x38

end Sys2Proof.Machine

namespace Sys2Proof
open Machine

/-- CTRL packets are untagged. -/
def Packet.ctrl (p : Packet) : Bool := decide (p.ty < 0x10)
/-- The REQ class. -/
def Packet.req (p : Packet) : Bool :=
  [ptWrite, ptRead, ptSignal, ptSet, ptSeal, ptCommit, ptDiscard].contains p.ty
/-- Types of version 3 only. -/
def Packet.only3 (p : Packet) : Bool := p.ty == ptMarker || p.ty == ptLedger || decide (0x30 ≤ p.ty)
/-- Header and payload in bytes (R343). -/
def Packet.size (p : Packet) : Nat := (if p.v2 then 16 else 32) + (p.payload.length + 15) / 16 * 16
/-- Flits of a packet. -/
def Packet.flits (p : Packet) : Nat := (p.size + 63) / 64
/-- The packet as it goes over a Moatis 2 link: it loses the fields only version 3 has (R344). -/
def Packet.toV2 (p : Packet) : Packet := { p with v2 := true, g := false, phase := 1, inter := 0xFFFF, arg0 := 0, arg1 := 0, epoch := 0 }
/-- The 32 header bytes (R344); a Moatis 2 header is padded with zeros. -/
def Packet.header (p : Packet) : List Byte :=
  let len := (p.payload.length + 15) / 16
  if p.v2 then
    toLe 1 p.ty ++ toLe 1 (bit p.keysel) ++ toLe 1 len ++ toLe 1 p.hops ++ toLe 2 p.dst ++ toLe 2 p.src ++ toLe 2 p.job ++
    toLe 1 p.srcCab ++ toLe 1 p.status ++ toLe 4 p.pctr ++ toLe 16 0
  else
    toLe 1 p.ty ++ toLe 1 (bit p.g + 2 * bit p.keysel + 4 * p.phase) ++ toLe 1 len ++ toLe 1 p.hops ++ toLe 2 p.dst ++
    toLe 2 p.src ++ toLe 2 p.inter ++ toLe 2 p.job ++ toLe 1 p.srcCab ++ toLe 1 p.status ++ toLe 2 p.arg0 ++
    toLe 6 p.pctr ++ toLe 2 0 ++ toLe 4 p.epoch ++ toLe 4 p.arg1

end Sys2Proof

namespace Sys2Proof.Machine

/-! ### Node IDs and the routing table (R351, R352) -/

def State.node (s : State) : Nat := s.rfld rFrNode 15 0
def State.dims (s : State) : Nat := min 4 (s.rfld rFrCfg 2 0)
/-- S_d. -/
def State.dimSize (s : State) (d : Nat) : Nat := s.rfld rFrCfg (4 * d + 19) (4 * d + 16)
/-- Digit `d` of a node ID. -/
def digit (n d : Nat) : Nat := n / 16 ^ d % 16
/-- A node ID with digit `d` replaced. -/
def withDigit (n d v : Nat) : Nat := n - digit n d * 16 ^ d + v * 16 ^ d
def State.nodeValid (s : State) (n : Nat) : Bool :=
  n != 0xFFFF && (List.range 4).all (fun d => if d < s.dims then decide (digit n d < s.dimSize d) else digit n d == 0)

def State.port (s : State) (p : Nat) : Port := mapGet {} p s.fr.ports
def State.setPort (s : State) (p : Nat) (v : Port) : State :=
  { s with fr := { s.fr with ports := mapSet {} p v s.fr.ports } }
def State.portDim (s : State) (p : Nat) : Nat := s.rfld (rPgCfg p) 5 4
/-- A port that appears UP. -/
def Port.upHeld (x : Port) : Bool := x.st == .up || x.st == .held
def Port.occupancy (x : Port) : Nat := (x.queue.map (·.flits)).sum
/-- RT(d, v). -/
def State.route (s : State) (d v : Nat) : List Nat :=
  (List.range 48).filter (fun p => (s.port p).upHeld && s.portDim p == d && digit (s.port p).node d == v)
/-- Ports of RT(d, v) a packet may use: a Moatis 2 link carries no version 3 type, and no hop of PHASE 0 or 2 (R354). -/
def State.routeFor (s : State) (pkt : Packet) (d v : Nat) : List Nat :=
  (s.route d v).filter (fun p => (s.port p).ver != 2 || (pkt.phase == 1 && !pkt.only3))
/-- The member whose output queue holds the fewest flits, the lowest index among equals. -/
def State.emptiest (s : State) : List Nat → Option Nat
  | [] => none
  | p :: r => match s.emptiest r with
    | none => some p
    | some q => if (s.port p).occupancy ≤ (s.port q).occupancy then some p else some q

/-- Digits whose set in dimension `d` is not empty, the least occupied first. -/
def State.otherDigit (s : State) (pkt : Packet) (d : Nat) : Option Nat :=
  let ws := (List.range 16).filterMap (fun v => (s.emptiest (s.routeFor pkt d v)).map (fun p => (v, (s.port p).occupancy)))
  (ws.foldl (fun (m : Option (Nat × Nat)) w => match m with
    | none => some w
    | some x => if w.2 < x.2 then some w else m) none).map (·.1)

/-! ### Job tags (R358 to R360) -/

def State.jobValid (s : State) (n : Nat) : Bool := s.rfld (rFrJob n) 32 32 == 1
def State.jobTag (s : State) (n : Nat) : Nat := s.rfld (rFrJob n) 15 0
def State.jobCtx (s : State) (n : Nat) : Nat := s.rfld (rFrJob n) 29 16
/-- The cabinet that holds a tag. -/
def State.jobCab (s : State) (tag : Nat) : Option Nat :=
  (List.range 256).find? (fun n => s.jobValid n && s.jobTag n == tag)
/-- The tag a cabinet sends under; 0 for none. -/
def State.tagOf (s : State) (n : Nat) : Nat := if s.jobValid n then s.jobTag n else 0

/-! ### Sending -/

/-- From the stop's S on, the ports send only CTRL packets and hold arrivals (R462). -/
def State.portsStopped (s : State) : Bool := s.ou.stop == .stopping || s.ou.stop == .stopped

/-- A packet leaves at a port. -/
def State.portOut (s : State) (p : Nat) (pkt : Packet) : State :=
  (s.carry (uPort p) (if pkt.job = 0 then none else s.jobCab pkt.job) pkt.size).emit (.packet p pkt)

/-- Put a packet out at a port, or in its queue while the port is HELD or stopped. -/
def State.portSend (s : State) (p : Nat) (pkt : Packet) : State :=
  let x := s.port p
  let pkt := { (if x.ver == 2 then pkt.toV2 else pkt) with hops := pkt.hops + 1 }
  if x.st == .held || (s.portsStopped && !pkt.ctrl) then s.setPort p { x with queue := x.queue ++ [pkt] }
  else s.portOut p pkt

/-- Two queues in turn, one packet each. -/
def inTurn : List Packet → List Packet → List Packet
  | a :: as, b :: bs => a :: b :: inTurn as bs
  | as, [] => as
  | [], bs => bs

/-- The order in which a port sends what its queue holds: CTRL, then G in order, then transit traffic and the chip's own in turn
(R356, log 169). -/
def State.sendOrder (s : State) (q : List Packet) : List Packet :=
  let rest := q.filter (fun k => !k.ctrl && !k.g)
  q.filter (·.ctrl) ++ q.filter (fun k => !k.ctrl && k.g) ++
    inTurn (rest.filter (fun k => k.src != s.node)) (rest.filter (fun k => k.src == s.node))

/-- An UP port sends what its queue holds; in a stop, its CTRL packets only (R462, R364). -/
def State.flushPort (s : State) (p : Nat) : State :=
  let x := s.port p
  let keep := if s.portsStopped then x.queue.filter (fun k => !k.ctrl) else []
  let go := if s.portsStopped then x.queue.filter (·.ctrl) else s.sendOrder x.queue
  if x.st == .up then go.foldl (fun s k => s.portOut p k) (s.setPort p { x with queue := keep }) else s

/-- A dropped request's UNREACH: it returns to the source (R355). -/
def unreachOf (own : Nat) (p : Packet) : Packet :=
  { ty := ptUnreach, v2 := p.v2, dst := p.src, src := own, payload := p.header.take 16 }

/-- What routing decides: the local turn, a port with the packet as it leaves, or a drop. -/
inductive Route where
  | here (p : Packet)
  | via (port : Nat) (p : Packet) (detour : Bool)
  | hopDrop
  | lost
deriving DecidableEq, Repr

/-- R353 and R355. -/
def State.routeOf (s : State) (p : Packet) : Route :=
  if p.dst = s.node then .here p
  else if 15 ≤ p.hops then .hopDrop
  else
    let p := if p.phase = 0 ∧ p.inter = s.node then { p with phase := 1 } else p
    let target := if p.phase = 0 then p.inter else p.dst
    match (List.range 4).find? (fun d => digit s.node d != digit target d) with
    | none => .lost
    | some d =>
      match s.emptiest (s.routeFor p d (digit target d)) with
      | some q => .via q p false
      | none =>
        if p.phase = 2 || p.v2 then .lost
        else if p.phase = 0 then
          match s.otherDigit p d with
          | some w => match s.emptiest (s.routeFor p d w) with
            | some q => .via q { p with inter := withDigit p.inter d w } false
            | none => .lost
          | none => .lost
        else
          let p := { p with phase := 2 }
          match s.otherDigit p d with
          | some w => match s.emptiest (s.routeFor p d w) with
            | some q => .via q p true
            | none => .lost
          | none => .lost

/-! ### The injection stage's paces (R299) -/

/-- The `clk_core` cycle of now. -/
def State.cycleNow (s : State) : Nat := s.now * s.cycles / 1000
/-- The floor of master `n` at injection, 256 the router's own. -/
def State.injectShare (s : State) (n : Nat) : Nat := if n < 256 then (s.cab n).fabFloor else s.fr.floor
/-- Bytes master `n` is promised in an interval (R299). -/
def State.injectFloor (s : State) (n : Nat) : Nat := s.injectShare n * 600 * s.cycles / 1024

/-- `size` bytes of master `n` pass the stage, 600 B a cycle: whether they are of the floor class, by the pace of R296 in
bytes at the cycle in which they go (log 103). -/
def State.injectPace (s : State) (n size : Nat) : Bool × State :=
  let k := s.cycleNow
  let start := max s.fr.stage (k * 600)
  let kk := start / 600
  let p : InjectPace := match mapGet none n s.fr.pace with
    | some p => if k * 600 < p.til then p else { k0 := kk, g := 0, til := start }
    | none => { k0 := kk, g := 0, til := start }
  let behind := decide (p.g < (s.injectShare n * 600 * (kk - p.k0 + 1) + 1023) / 1024)
  (behind, { s with fr := { s.fr with
    stage := start + size,
    pace := mapSet none n (some { p with g := p.g + size, til := start + size }) s.fr.pace,
    tx := mapSet 0 n (mapGet 0 n s.fr.tx + size) s.fr.tx } })

/-- A packet of the router's own master (discovery, abort floods, markers and ledgers) leaves at a port. -/
def State.portOwn (s : State) (q : Nat) (p : Packet) : State := ((s.injectPace 256 p.size).2).portSend q p

/-- A packet dropped for want of a route (R355): an UNREACH goes back for a request; one to this chip takes the local
turn. -/
def State.dropUnreach (s : State) (p : Packet) : State :=
  let s := s.bump rFrCnt 63 48
  if p.req then
    match s.routeOf (unreachOf s.node p) with
    | .here u => { s with fr := { s.fr with here := s.fr.here ++ [u] } }
    | .via q u _ => s.portOwn q u
    | _ => s
  else s

/-- Forward a packet (R353). -/
def State.forward (s : State) (p : Packet) : State :=
  match s.routeOf p with
  | .here p => { s with fr := { s.fr with here := s.fr.here ++ [p] } }
  | .via q p detour => ((if detour then s.bump rFrCnt2 47 32 else s).carry uRouter (if p.job = 0 then none else s.jobCab p.job) p.size).portSend q p
  | .hopDrop => s.bump rFrCnt 31 16
  | .lost => s.dropUnreach p

/-! ### Injection (R299, R354) -/

/-- The intermediate node of a non-minimal route, and the rotations after it. -/
def State.rotate (s : State) : Nat × State :=
  let ds := (List.range s.dims).map (fun d => s.fr.rot.getD d 0)
  ((ds.zipIdx.map (fun e => e.1 * 16 ^ e.2)).sum,
   { s with fr := { s.fr with rot := ds.zipIdx.map (fun e => if e.1 + 1 < s.dimSize e.2 then e.1 + 1 else 0) } })

/-- ADAPT: flits at the first minimal hop's least occupied queue. -/
def State.minimalOccupancy (s : State) (dst : Nat) : Nat :=
  match (List.range 4).find? (fun d => digit s.node d != digit dst d) with
  | some d => match s.emptiest (s.route d (digit dst d)) with
    | some p => (s.port p).occupancy
    | none => 0
  | none => 0

/-- Choose the route at injection. -/
def State.chooseRoute (s : State) (p : Packet) : Packet × State :=
  let mode := s.rfld rFrCfg 5 4
  let minimal := p.ctrl || p.v2 || (!p.g && (mode == 0 ||
    (mode != 1 && decide (s.minimalOccupancy p.dst ≤ s.rfld rFrCfg 47 32))))
  if minimal then ({ p with phase := 1, inter := 0xFFFF }, s)
  else let r := s.rotate; ({ p with phase := 0, inter := r.1 }, r.2)

/-- The last value a cabinet's payload counter takes on the link a packet would first use (R359). -/
def State.ctrLimit (s : State) (p : Packet) : Nat :=
  match s.routeOf p with
  | .via q _ _ => if (s.port q).ver = 2 then 2 ^ 32 - 1 else 2 ^ 48 - 1
  | _ => 2 ^ 48 - 1

/-- Send a packet of cabinet `p.srcCab` from this chip: the local turn, or the fabric under its payload counter. Its class
is the floor's while its master is behind pace; a response keeps its request's class. -/
def State.inject (s : State) (p : Packet) (g : Option Bool := none) : State :=
  let p := { p with src := s.node }
  if p.dst = s.node then { s with fr := { s.fr with here := s.fr.here ++ [p] } }
  else
    let n := if p.ctrl then 256 else p.srcCab
    let c := mapGet 0 n s.fr.pctr
    let p := { p with g := !p.ctrl && g.getD (s.injectPace n p.size).1, keysel := !p.ctrl && s.rfld (rFrJob n) 33 33 == 1 }
    let r := s.chooseRoute p
    let p := r.1
    let s := r.2
    if !p.ctrl && s.ctrLimit p ≤ c then
      { s.bump rFrCnt2 31 16 with fr := { s.fr with waits := s.fr.waits ++ [p] } }
    else
      let s := (s.injectPace n p.size).2
      let p := if p.ctrl then p else { p with pctr := c }
      let s := if p.ctrl then s else { s with fr := { s.fr with pctr := mapSet 0 n (c + 1) s.fr.pctr } }
      let s := if p.ctrl then s else
        let b := s.cab n
        s.setCab n { b with win := { b.win with fabTx := b.win.fabTx + p.size } }
      s.forward p

/-- The reply to a request, under the tag and class it came with. -/
def State.reply (s : State) (cab : Nat) (q : Packet) (ty status : Nat) (payload : List Byte) (arg0 : Nat := 0) : State :=
  s.inject { ty := ty, v2 := q.v2, dst := q.src, job := q.job, srcCab := cab, status := status, epoch := q.epoch,
             arg0 := arg0, arg1 := q.arg1, payload := payload } (some q.g)

/-! ### Arrival (R360) -/

/-- A tagged packet at its destination: its cabinet, or a counted mismatch. A packet of the local turn without a tag
reaches the sending cabinet itself (R240). -/
def State.arrives (s : State) (port : Option Nat) (p : Packet) : Option Nat × State :=
  match (if p.job = 0 then (if port.isNone then some p.srcCab else none) else s.jobCab p.job) with
  | some n =>
    let b := s.cab n
    let s := if port.isSome then s.setCab n { b with win := { b.win with fabRx := b.win.fabRx + p.size } } else s
    (some n, (s.wakeCab n 2).carry uRouter (some n) p.size)
  | none =>
    let s := s.bump rFrCnt 47 32
    (none, match port with | some q => s.bump (rPgCnt q) 15 0 | none => s)

/-- Hold an arrival in a port's input buffer; an open ledger records it if it comes before the port's MARKER (R364). -/
def State.holdArrival (s : State) (q : Nat) (p : Packet) : State :=
  let x := s.port q
  let x := { x with inq := x.inq ++ [p] }
  s.setPort q (if x.lstate == .opened && !x.inq.any (fun k => k.ty == ptMarker) then
    { x with ledger := x.ledger ++ [p], lcount := x.lcount + 1, lbytes := x.lbytes + p.size } else x)

/-- A packet comes to be handled: one of the local turn, or one that arrives at an UP port; a HELD or stopped port holds
it. -/
def State.receive (s : State) (port : Option Sys2Proof.PortId) (p : Packet) (f : State → State) : State :=
  if s.frozen && port.isNone then s
  else match port with
    | none =>
      if s.resetting uRouter then s
      else if s.fr.here.contains p then f { s with fr := { s.fr with here := s.fr.here.erase p } } else s
    | some q =>
      let x := s.port q.val
      if x.upHeld then
        let s := s.carry (uPort q.val) (if p.job = 0 then none else s.jobCab p.job) p.size
        if x.st == .held || s.portsStopped then s.holdArrival q.val p else f s
      else s

/-! ### Remote requests -/

/-- Record a remote request and answer its request ID. -/
def State.remote (s : State) (cab node epoch : Nat) (owner : Option Owner) (work : RemoteWork) (len : Nat)
    (ord : Nat := 0) : Nat × State :=
  let id := s.fr.reqNo
  (id, { s with fr := { s.fr with
    reqNo := (id + 1) % 2 ^ 32,
    reqs := s.fr.reqs ++ [{ id := id, cab := cab, node := node, job := s.tagOf cab, epoch := epoch, owner := owner, work := work,
                            len := len, deadline := s.mono + 100000, ord := ord }] } })

def State.dropRemote (s : State) (id : Nat) : State :=
  { s with fr := { s.fr with reqs := s.fr.reqs.filter (fun r => r.id != id) } }

/-- A tile command that fails on a remote request: not replayed (R363). -/
def State.failOwner (s : State) (o : Option Owner) (ord st u : Nat) : State :=
  match o with
  | some (.cmd cab n) => (s.noteErr o ord st u).updCmd cab n (fun c => { c with fail := some (c.fail.getD (st, u)) })
  | _ => s

/-- A remote write of a tile whose mask has several runs is several requests; it is answered once (log 62). -/
def State.sameWrite (s : State) (r : RemoteReq) : List RemoteReq := s.fr.reqs.filter (fun q => q.work == r.work && q.owner == r.owner)

/-- Drop a request, for a write with its other runs. -/
def State.dropWrite (s : State) (r : RemoteReq) : State := (s.sameWrite r).foldl (fun s q => s.dropRemote q.id) s

/-- A remote request ends with a status that is not DONE. -/
def State.endRemote (s : State) (r : RemoteReq) (st u : Nat) : State :=
  if !s.fr.reqs.any (fun q => q.id == r.id) then s
  else
  let s := match r.work with
    | .write .. => s.dropWrite r
    | _ => s.dropRemote r.id
  match r.work with
  | .read t tag => (s.failOwner r.owner r.ord st u).emit (.tileRead t tag st [])
  | .write t tag => (s.failOwner r.owner r.ord st u).emit (.tileWrite t tag st)
  | .signal d q => s.endFlight r.cab d q { status := st, unit := some u }

/-! ### The abort flood's origin (R361) -/

/-- The payload of an ABORT. -/
def abortPayload (job origin serial reason : Nat) : List Byte :=
  toLe 2 job ++ toLe 2 origin ++ toLe 2 serial ++ toLe 1 reason ++ toLe 9 0

/-- Send an ABORT on every UP port but one. -/
def State.flood (s : State) (p : Packet) (but : Option Nat) : State :=
  ((List.range 48).filter (fun q => (s.port q).upHeld && but != some q)).foldl (fun s q => s.portOwn q p) s

/-- Originate an ABORT for a cabinet's VALID tag. -/
def State.originateAbort (s : State) (n reason : Nat) : State :=
  if s.jobValid n then
    let p : Packet := { ty := ptAbort, src := s.node, payload := abortPayload (s.jobTag n) s.node s.fr.serial reason }
    let seen : AbortSeen := { job := s.jobTag n, origin := s.node, serial := s.fr.serial, time := s.mono }
    let s := { s with fr := { s.fr with serial := (s.fr.serial + 1) % 65536, cache := (seen :: s.fr.cache).take 1024 } }
    (s.bump rFrCnt2 63 48).flood p none
  else s

end Sys2Proof.Machine
end

