-- ==== Sys2Proof/Machine/DceOps.lean ====
section
/-! DEFINITION. Shared operations of the Dispatch-Combine Engine (chapter 08): commands, kills, tickets, committing writes
at virtual addresses. -/
namespace Sys2Proof.Machine

/-! ### Commands -/

def DceCmd.is (c : DceCmd) (cab drawer seq : Nat) : Bool := c.cab == cab && c.drawer == drawer && c.seq == seq
def DceCmd.owner (c : DceCmd) : Owner := .dce c.cab c.drawer c.seq
def State.dceCmd (s : State) (cab drawer seq : Nat) : Option DceCmd := s.dce.cmds.find? (fun c => c.is cab drawer seq)
def State.updDce (s : State) (c : DceCmd) (f : DceCmd → DceCmd) : State :=
  { s with dce := { s.dce with cmds := updWhere (fun x => x.is c.cab c.drawer c.seq) f s.dce.cmds } }
def State.dropDce (s : State) (c : DceCmd) : State :=
  { s with dce := { s.dce with cmds := s.dce.cmds.filter (fun x => !x.is c.cab c.drawer c.seq) } }


/-- The stream of a command. -/
def DceCmd.asker (c : DceCmd) : Asker :=
  { src := dceStream c.seq, unit := uDce, cab := c.cab, ctx := c.ctx, owner := some c.owner,
    tag := dceTag 3 (drwKey c.cab c.drawer * 2 ^ 48 + c.seq) }

/-- The command runs (R265, R386). -/
def DceCmd.runs (c : DceCmd) : Bool := c.phase != .queued || c.started

/-- PEER_US in ns; 0 acts as 1. -/
def State.peerNs (s : State) : Nat := max 1 (s.rfld rDceCfg 31 0) * 1000

/-- A packet of a set to a peer: SET, SEAL, COMMIT or DISCARD. -/
def State.toPeer (s : State) (c : DceCmd) (p : Peer) (ty : Nat) (payload : List Byte) (slot : Nat := 0) : State :=
  s.inject { ty := ty, dst := p.node, job := s.tagOf c.cab, srcCab := c.cab, epoch := c.epoch, arg0 := slot, arg1 := p.ticket,
             payload := payload }

/-- DISCARD to every rank but one. -/
def State.discardPeers (s : State) (c : DceCmd) (but : Option Nat) : State :=
  (c.peers.zipIdx.filter (fun e => but != some e.2)).foldl (fun s e => s.toPeer c e.1 ptDiscard []) s

/-! ### Tickets (R248) -/

def State.ticket (s : State) (cab num : Nat) : Option Ticket := s.dce.tickets.find? (fun t => t.cab == cab && t.num == num)
def State.updTicket (s : State) (cab num : Nat) (f : Ticket → Ticket) : State :=
  { s with dce := { s.dce with tickets := updWhere (fun t => t.cab == cab && t.num == num) f s.dce.tickets } }

/-- The engine has carried `n` rows of a cabinet, of these bytes in and out (R452). -/
def State.carryRows (s : State) (cab n bin bout : Nat) : State :=
  ((s.tally uDce 4 (some cab) n).tally uDce 5 (some cab) bin).tally uDce 6 (some cab) bout

/-- Change a cabinet's reservation. -/
def State.setReserved (s : State) (cab n : Nat) : State :=
  { s with tu := { s.tu with reserved := mapSet 0 cab n s.tu.reserved } }

/-- Close a ticket: its reservation is released. -/
def State.closeTicket (s : State) (cab num : Nat) : State :=
  match s.ticket cab num with
  | some t =>
    let s := s.setReserved cab (s.reservedOf cab - t.resv)
    { s with dce := { s.dce with tickets := s.dce.tickets.filter (fun x => !(x.cab == cab && x.num == num)) } }
  | none => s

/-! ### Ends and kills -/

/-- A command is over: its shadows not committed are gone, its slot reference and requests are dropped. -/
def State.leaveDce (s : State) (c : DceCmd) : State :=
  let s := ((s.discardShadows c.owner).dropReqsOf c.owner).dropDce c
  { s with ft := { s.ft with refs := s.ft.refs.filter (fun r => !(r.cab == c.cab && r.drawer == c.drawer && r.seq == c.seq)) } }

/-- A command ends with a status; COMBINE closes its ticket (R260). -/
def State.endDce (s : State) (c : DceCmd) (e : Ending) : State :=
  let s := s.leaveDce c
  let s := if c.kind == .combine then s.closeTicket c.cab c.ticket else s
  let x := s.ctx c.cab c.ctx
  let s := if c.direct && (x.resetting || x.st == .dying) then s.setCtx c.cab c.ctx { x with since := s.mono } else s
  s.endFlight c.cab c.drawer c.seq e

/-- Count a kill of a command of this engine (R192). -/
def State.countDceKill (s : State) (c : DceCmd) (cause : Nat) : State :=
  let b := s.cab c.cab
  let s := s.setCab c.cab { b with tot := { b.tot with kills := b.tot.kills + 1 } }
  let x := s.ctx c.cab c.ctx
  let s := if x.st == .live then s.setCtx c.cab c.ctx { x with kills := x.kills + 1 } else s
  ((s.trace 0x03 uDce (some c.cab) (some c.ctx) c.epoch cause).tally uDce 8 (some c.cab)).countCause c.cab cause

/-- Kill a running command: its outputs are discarded, every rank reached gets DISCARD, and it replays under a new EPOCH
(R197, R256). A DIRECT command is never killed; past the sequence point a kill has no effect (R196). -/
def State.killDce (s : State) (c : DceCmd) (cause : Nat) (h : List Hold := []) : State :=
  if c.direct then s
  else match c.phase with
    | .staging =>
      let s := ((s.countDceKill c cause).discardPeers c none).discardShadows c.owner
      (s.dropReqsOf c.owner).updDce c (fun x =>
        { x with phase := .queued, started := false, staged := [], committed := [], holds := x.holds ++ h })
    | .queued =>
      if !c.started then s
      else
        let s := (s.countDceKill c cause).discardShadows c.owner
        (s.dropReqsOf c.owner).updDce c (fun x => { x with started := false, holds := x.holds ++ h })
    | .gathering =>
      let s := (s.countDceKill c cause).discardShadows c.owner
      (s.dropReqsOf c.owner).updDce c (fun x => { x with holds := x.holds ++ h })
    | _ => s

/-- Kill the running command that owns shadows. -/
def State.killOwner (s : State) (o : Owner) (cause : Nat) : State :=
  match o with
  | .cmd cab n => s.killCmd cab n cause
  | .dce cab d q => match s.dceCmd cab d q with
    | some c => s.killDce c cause
    | none => s.discardShadows o
  | .inbound .. => s

/-- Holds of a command that have not ended. -/
def State.dceHeld (s : State) (c : DceCmd) : Bool := c.holds.any (s.holding c.cab)

/-- Commands of this engine that hold SHADOW granules and may be killed (R142). -/
def State.dceHolders (s : State) (cab : Nat) : List DceCmd :=
  s.dce.cmds.filter (fun c => c.cab == cab && !c.direct && (c.phase == .staging || c.phase == .gathering || c.phase == .queued) && !(s.shadowsOf c.owner).isEmpty)

/-! ### Committing writes at virtual addresses -/

/-- What a committing write meets. -/
inductive VaRes where
  | ok
  | wait
  | bad (status unit : Nat)
  | conflict (o : Owner)
deriving DecidableEq, Repr

/-- Record a write that finds no FREE granule (R142). -/
def State.shadowStall (s : State) (a : Asker) (va : Nat) : State := s.addReq (a.req s va true .shadow)

/-- Write bytes in shadow at a virtual address: every page is translated first; a leaf without RM or with HOST gives
XLATE (R135). -/
def State.shadowVa (s : State) (o : Owner) (a : Asker) (va : Nat) (bs : List Byte) (resv : Bool) : VaRes × State :=
  match s.xlateAll a va bs.length true with
  | (.wait, s) => (.wait, s)
  | (.bad st u, s) => (.bad st u, s)
  | (.ok _, s) => go (bs.length / 128 + 2) s va bs
where
  go : Nat → State → Nat → List Byte → VaRes × State
    | 0, s, _, _ => (.ok, s)
    | _ + 1, s, _, [] => (.ok, s)
    | k + 1, s, va, bs =>
      let n := min bs.length (128 - va % 128)
      match s.xlate a va true with
      | (.wait _, s) => (.wait, s)
      | (.bad st u, s) => (.bad st u, s)
      | (.ok host p rm, s) =>
        if host || !rm then (.bad stXlate uTu, s)
        else match s.shadowWrite o a.who a.cab a.ctx va p (bs.take n) resv with
          | (.ok, s) => go k s (va + n) (bs.drop n)
          | (.bad st u, s) | (.fail st u, s) => (.bad st u, s)
          | (.conflict x, s) => (.conflict x, s)
          | (.stall, s) => (.wait, s.shadowStall a va)

/-- Write a command's output: in shadow, or in place for a DIRECT one. -/
def State.dceWrite (s : State) (c : DceCmd) (va : Nat) (bs : List Byte) : VaRes × State :=
  if c.direct then
    match s.vaWrite c.asker va bs with
    | (.ok _, s) => (.ok, s)
    | (.wait, s) => (.wait, s)
    | (.bad st u, s) => (.bad st u, s)
  else s.shadowVa c.owner c.asker va bs false

/-! ### Reservations (R244) -/

/-- Granules a virtual range touches. -/
def touched (va n : Nat) : Nat := if n = 0 then 0 else (va + n - 1) / 8192 + 1 - va / 8192

end Sys2Proof.Machine
end

