-- ==== Sys2Proof/Machine/Float.lean ====
section
/-! DEFINITION. Numbers of chapters 07 to 09: exact binary values, rounding to nearest even, the formats of R230, the
conversions of R231 to R233. -/
namespace Sys2Proof.Machine

/-! ### Exact values -/

/-- The value m × 2^e. -/
structure Dy where
  m : Int
  e : Int
deriving DecidableEq, Repr

/-- The integer a value is at exponent `e`, which is not above its own. -/
def Dy.at_ (a : Dy) (e : Int) : Int := a.m * 2 ^ (a.e - e).toNat

def Dy.zero : Dy := { m := 0, e := 0 }
def Dy.ofInt (n : Int) : Dy := { m := n, e := 0 }
def Dy.neg (a : Dy) : Dy := { a with m := -a.m }
def Dy.abs (a : Dy) : Dy := { a with m := a.m.natAbs }
def Dy.add (a b : Dy) : Dy := let e := min a.e b.e; { m := a.at_ e + b.at_ e, e := e }
def Dy.sub (a b : Dy) : Dy := a.add b.neg
def Dy.mul (a b : Dy) : Dy := { m := a.m * b.m, e := a.e + b.e }
/-- Multiplication by 2^k. -/
def Dy.scale (a : Dy) (k : Int) : Dy := { a with e := a.e + k }
def Dy.le (a b : Dy) : Bool := let e := min a.e b.e; decide (a.at_ e ≤ b.at_ e)
def Dy.lt (a b : Dy) : Bool := !b.le a
def Dy.eqv (a b : Dy) : Bool := a.le b && b.le a
/-- ⌊a⌋. -/
def Dy.floor (a : Dy) : Int := if 0 ≤ a.e then a.m * 2 ^ a.e.toNat else a.m.fdiv (2 ^ (-a.e).toNat)
/-- ⌊log2 |a|⌋ of a value that is not 0. -/
def Dy.log2 (a : Dy) : Int := (Nat.log2 a.m.natAbs : Int) + a.e

/-! ### Formats (R230) -/

/-- A sign-magnitude format. -/
structure Fmt where
  man   : Nat          -- mantissa bits
  bits  : Nat          -- exponent bits
  bias  : Nat
  inf   : Bool         -- the top exponent holds Infinity and NaN
  nan   : Nat          -- canonical NaN
  big   : Dy           -- largest finite
deriving DecidableEq, Repr

/-- A format whose top exponent holds Infinity and NaN. -/
def ieeeFmt (man bits nan : Nat) : Fmt :=
  { man := man, bits := bits, bias := 2 ^ (bits - 1) - 1, inf := true, nan := nan,
    big := { m := 2 ^ (man + 1) - 1, e := (2 ^ (bits - 1) - 1 : Int) - man } }

/-- A format without Infinity or NaN. -/
def smallFmt (man bits bias : Nat) : Fmt :=
  { man := man, bits := bits, bias := bias, inf := false, nan := 0,
    big := { m := 2 ^ (man + 1) - 1, e := (2 ^ bits - 1 : Int) - bias - man } }

def fp64 : Fmt := ieeeFmt 52 11 0x7FF8000000000000
def fp32 : Fmt := ieeeFmt 23 8 0x7FC00000
def bf16 : Fmt := ieeeFmt 7 8 0x7FC0
def fp16 : Fmt := ieeeFmt 10 5 0x7E00
def e5m2 : Fmt := ieeeFmt 2 5 0x7E
def e4m3 : Fmt := { man := 3, bits := 4, bias := 7, inf := false, nan := 0x7F, big := { m := 7, e := 6 } }
def e3m2 : Fmt := smallFmt 2 3 3
def e2m3 : Fmt := smallFmt 3 2 1
def e2m1 : Fmt := smallFmt 1 2 1

/-- A number as read: the sign of a zero is kept. -/
inductive FV where
  | nan
  | inf (neg : Bool)
  | fin (neg : Bool) (v : Dy)      -- v is the magnitude
deriving DecidableEq, Repr

/-- The exact signed value of a finite number. -/
def FV.val : FV → Dy
  | .fin neg v => if neg then v.neg else v
  | _ => Dy.zero
def FV.isFin : FV → Bool
  | .fin .. => true
  | _ => false
def FV.isNan : FV → Bool
  | .nan => true
  | _ => false
/-- The number of an exact value; `z` is the sign of a zero. -/
def FV.ofDy (v : Dy) (z : Bool := false) : FV := .fin (if v.m = 0 then z else decide (v.m < 0)) v.abs
def FV.neg : FV → FV
  | .nan => .nan
  | .inf n => .inf (!n)
  | .fin n v => .fin (!n) v

/-- Read an encoding. -/
def Fmt.decode (f : Fmt) (w : Nat) : FV :=
  let sign := w.testBit (f.man + f.bits)
  let e := w / 2 ^ f.man % 2 ^ f.bits
  let m := w % 2 ^ f.man
  if f.inf && e == 2 ^ f.bits - 1 then (if m = 0 then .inf sign else .nan)
  else if f == e4m3 && w % 128 == 0x7F then .nan
  else if e = 0 then .fin sign { m := m, e := 1 - (f.bias : Int) - f.man }
  else .fin sign { m := 2 ^ f.man + m, e := (e : Int) - f.bias - f.man }

/-- n / d rounded to nearest, ties to even. -/
def rne (n d : Nat) : Nat :=
  let q := n / d
  let r := n % d
  if d < 2 * r ∨ (2 * r = d ∧ q % 2 = 1) then q + 1 else q

/-- n / d × 2^e (n, d above 0) rounded to the format's precision with the exponent range unbounded above: a magnitude
k × 2^q. -/
def Fmt.roundRat (f : Fmt) (n d : Nat) (e : Int) : Dy :=
  let l0 : Int := (Nat.log2 n : Int) - Nat.log2 d
  let below := if 0 ≤ l0 then decide (n < d * 2 ^ l0.toNat) else decide (n * 2 ^ (-l0).toNat < d)
  let l := (if below then l0 - 1 else l0) + e
  let q := max (l - f.man) (1 - (f.bias : Int) - f.man)
  let s := e - q
  { m := if 0 ≤ s then rne (n * 2 ^ s.toNat) d else rne n (d * 2 ^ (-s).toNat), e := q }

/-- Round a magnitude. -/
def Fmt.roundMag (f : Fmt) (v : Dy) : Dy := if v.m = 0 then Dy.zero else f.roundRat v.m.natAbs 1 v.e

/-- Round a number to the format, Infinity on overflow (IEEE 754, to nearest even). -/
def Fmt.round (f : Fmt) : FV → FV
  | .fin n v => let r := f.roundMag v; if f.big.lt r then .inf n else .fin n r
  | x => x

/-- The fields of a rounded finite magnitude. -/
def Fmt.mag (f : Fmt) (r : Dy) : Nat :=
  if r.m = 0 then 0 else ((r.e + f.man + f.bias - 1).toNat) * 2 ^ f.man + r.m.natAbs

def Fmt.signBit (f : Fmt) (n : Bool) : Nat := if n then 2 ^ (f.man + f.bits) else 0

/-- The encoding of a number already rounded to the format. -/
def Fmt.encode (f : Fmt) : FV → Nat
  | .nan => f.nan
  | .inf n => if f.inf then f.signBit n + (2 ^ f.bits - 1) * 2 ^ f.man else f.signBit n + f.nan
  | .fin n v => f.signBit n + f.mag v

/-- The encoding of a conversion into a scalar destination, and whether the element was clamped (R232, R233). -/
def Fmt.convert (f : Fmt) (sat : Bool) : FV → Nat × Bool
  | .nan => (f.nan, false)
  | .inf n => if sat then (f.signBit n + f.mag (f.roundMag f.big), true) else (f.encode (.inf n), false)
  | .fin n v =>
    let r := f.roundMag v
    if f.big.lt r then
      if sat then (f.signBit n + f.mag (f.roundMag f.big), true) else (f.encode (.inf n), false)
    else (f.signBit n + f.mag r, false)

/-! ### Arithmetic in FP32 -/

/-- The sign of an exact sum that is 0. -/
def zeroSign (a b : Bool) : Bool := a && b

/-- a × b + c with one rounding. -/
def Fmt.fma (f : Fmt) (a b c : FV) : FV :=
  match a, b, c with
  | .nan, _, _ => .nan
  | _, .nan, _ => .nan
  | _, _, .nan => .nan
  | .fin na va, .fin nb vb, .fin nc vc =>
    let p := (FV.fin na va).val.mul (FV.fin nb vb).val
    f.round (FV.ofDy (p.add (FV.fin nc vc).val) (zeroSign (na != nb) nc))
  | .fin _ _, .fin _ _, .inf n => .inf n
  | .fin na va, .inf nb, c => infTerm (na != nb) (va.m = 0) c
  | .inf na, .fin nb vb, c => infTerm (na != nb) (vb.m = 0) c
  | .inf na, .inf nb, c => infTerm (na != nb) false c
where
  infTerm (n : Bool) (zero : Bool) (c : FV) : FV :=
    if zero then .nan else match c with
      | .inf m => if m = n then .inf n else .nan
      | _ => .inf n

def Fmt.add (f : Fmt) (a b : FV) : FV := f.fma a (.fin false { m := 1, e := 0 }) b
def Fmt.sub (f : Fmt) (a b : FV) : FV := f.add a b.neg
/-- a × b, rounded once. -/
def Fmt.mul (f : Fmt) (a b : FV) : FV :=
  match a, b with
  | .fin na va, .fin nb vb => f.round (.fin (na != nb) (va.mul vb).abs)
  | .nan, _ => .nan
  | _, .nan => .nan
  | .inf na, .fin nb vb => if vb.m = 0 then .nan else .inf (na != nb)
  | .fin na va, .inf nb => if va.m = 0 then .nan else .inf (na != nb)
  | .inf na, .inf nb => .inf (na != nb)

/-- IEEE 754 division, rounded to nearest even. -/
def Fmt.div (f : Fmt) (a b : FV) : FV :=
  match a, b with
  | .nan, _ => .nan
  | _, .nan => .nan
  | .inf _, .inf _ => .nan
  | .inf n, .fin m _ => .inf (n != m)
  | .fin n _, .inf m => .fin (n != m) Dy.zero
  | .fin n v, .fin m w =>
    if w.m = 0 then (if v.m = 0 then .nan else .inf (n != m))
    else if v.m = 0 then .fin (n != m) Dy.zero
    else
      let r := f.roundRat v.m.natAbs w.m.natAbs (v.e - w.e)
      if f.big.lt r then .inf (n != m) else .fin (n != m) r

/-- ⌊√n⌋, found bit by bit from bit `k - 1`. -/
def isqrtFrom (n : Nat) : Nat → Nat → Nat
  | 0, r => r
  | k + 1, r => isqrtFrom n k (if (r + 2 ^ k) * (r + 2 ^ k) ≤ n then r + 2 ^ k else r)

def isqrt (n : Nat) : Nat := isqrtFrom n (Nat.log2 n / 2 + 1) 0

/-- IEEE 754 squareRoot. -/
def Fmt.sqrt (f : Fmt) : FV → FV
  | .fin n v =>
    if v.m = 0 then .fin n v
    else if n then .nan
    else
      let odd := v.e % 2
      let m := v.m.natAbs * 2 ^ odd.toNat * 2 ^ (2 * (f.man + 3))
      let e := (v.e - odd - 2 * (f.man + 3 : Int)) / 2
      let r := isqrt m
      f.round (.fin false { m := 2 * r + (if r * r = m then 0 else 1), e := e - 1 })
  | .inf n => if n then .nan else .inf false
  | .nan => .nan

/-- RTZ32: truncation into FP32 of a value at or above 0. -/
def rtz32 (v : Dy) : Dy :=
  if v.m ≤ 0 then Dy.zero
  else
    let q := max (v.log2 - 23) (-149)
    if q ≤ v.e then v else { m := v.m / 2 ^ (q - v.e).toNat, e := q }

/-! ### Elements and groups (R230, R231) -/

/-- The format of a code's elements; none for INT8 and codes above 0xA. -/
def codeFmt : Nat → Option Fmt
  | 0x0 => some fp32
  | 0x1 => some bf16
  | 0x2 => some fp16
  | 0x3 => some e4m3
  | 0x4 => some e5m2
  | 0x5 => some e4m3
  | 0x6 => some e5m2
  | 0x7 => some e3m2
  | 0x8 => some e2m3
  | 0x9 => some e2m1
  | _ => none

/-- Bits of one element. -/
def codeBits : Nat → Nat
  | 0x0 => 32
  | 0x1 => 16
  | 0x2 => 16
  | 0x7 => 6
  | 0x8 => 6
  | 0x9 => 4
  | _ => 8

/-- The code is an MX format. -/
def codeMx (c : Nat) : Bool := decide (5 ≤ c ∧ c ≤ 10)

/-- Bytes of a group of `g` elements. -/
def groupBytes (c g : Nat) : Nat := g * codeBits c / 8 + if codeMx c then g / 32 else 0

/-- Elements of `n` source bytes, none where the condition of R223 fails. -/
def codeElems (c n : Nat) : Option Nat :=
  if codeMx c then (if n % groupBytes c 32 = 0 then some (32 * (n / groupBytes c 32)) else none)
  else if n % (codeBits c / 8) = 0 then some (n / (codeBits c / 8)) else none

/-- Destination bytes of `e` elements, none where the condition of R223 fails. -/
def codeDest (c e : Nat) : Option Nat :=
  if codeMx c then (if e % 32 = 0 then some (e / 32 * groupBytes c 32) else none) else some (e * (codeBits c / 8))

/-- Element `i` of packed elements. -/
def packedAt (c : Nat) (bs : List Byte) (i : Nat) : Nat :=
  match codeBits c with
  | 4 => leAt bs (i / 2) 1 / 16 ^ (i % 2) % 16
  | 6 => leAt bs (i / 4 * 3) 3 / 64 ^ (i % 4) % 64
  | b => leAt bs (i * (b / 8)) (b / 8)

/-- Pack elements. -/
def packElems (c : Nat) (es : List Nat) : List Byte :=
  let b := codeBits c
  toLe (es.length * b / 8) (es.foldr (fun e acc => acc * 2 ^ b + e) 0)

/-- An INT8 element's value n / 64. -/
def int8Val (w : Nat) : FV :=
  let n : Int := if w < 128 then w else (w : Int) - 256
  FV.ofDy { m := n, e := -6 }

/-- Read a group of `g` elements. -/
def readGroup (c g : Nat) (bs : List Byte) : List FV :=
  (List.range g).map (fun i =>
    let w := packedAt c bs i
    let v := match codeFmt c with | some f => f.decode w | none => int8Val w
    if codeMx c then
      let sc := leAt bs (g * codeBits c / 8 + i / 32) 1
      if sc = 255 then .nan
      else match v with
        | .fin n x => .fin n (x.scale ((sc : Int) - 127))
        | x => x
    else v)

/-- e_max of R233. -/
def codeEmax : Nat → Int
  | 5 => 8
  | 6 => 15
  | 7 => 4
  | 8 => 2
  | 9 => 2
  | _ => 0

/-- One element of an MX block, and whether it was clamped (R233 steps 5 and 6). -/
def mxElem (c : Nat) (x : Int) (v : FV) : Nat × Bool :=
  match v with
  | .fin n d =>
    let w := d.scale (-x)
    match codeFmt c with
    | some f =>
      let r := f.roundMag w
      if f.big.lt r then (f.signBit n + f.mag (f.roundMag f.big), true) else (f.signBit n + f.mag r, false)
    | none =>
      let w := w.scale 6
      let k := if w.m = 0 then 0 else if 0 ≤ w.e then w.m.natAbs * 2 ^ w.e.toNat else rne w.m.natAbs (2 ^ (-w.e).toNat)
      let q := min k 127
      (if n && q != 0 then 256 - q else q, decide (127 < k))
  | _ => (0, false)

/-- The largest magnitude. -/
def maxMag (vs : List FV) : Dy :=
  vs.foldl (fun m v => match v with | .fin _ d => if m.lt d then d else m | _ => m) Dy.zero

/-- One MX block: its scale byte, its elements, the elements clamped, and whether its scale is 0xFF (R233). -/
def mxBlock (c : Nat) (vs : List FV) : Nat × List Nat × Nat × Bool :=
  if vs.any (fun v => !v.isFin) then (255, vs.map (fun _ => 0), 0, true)
  else
    let a := maxMag vs
    let x : Int := if a.m = 0 then -127 else max (-127) (min 127 (a.log2 - codeEmax c))
    let es := vs.map (mxElem c x)
    ((x + 127).toNat, es.map (·.1), (es.filter (·.2)).length, false)

/-- Cut a list into blocks of 32. -/
def blocks32 {α : Type} : Nat → List α → List (List α)
  | 0, _ => []
  | k + 1, l => if l.isEmpty then [] else l.take 32 :: blocks32 k (l.drop 32)

/-- Write a group: its bytes, the elements clamped, the blocks of scale 0xFF. -/
def writeGroup (c : Nat) (sat : Bool) (vs : List FV) : List Byte × Nat × Nat :=
  if codeMx c then
    let bs := (blocks32 vs.length vs).map (mxBlock c)
    (packElems c (bs.flatMap (fun b => b.2.1)) ++ bs.map (fun b => BitVec.ofNat 8 b.1),
      (bs.map (fun b => b.2.2.1)).sum, (bs.filter (fun b => b.2.2.2)).length)
  else match codeFmt c with
    | some f =>
      let es := vs.map (f.convert sat)
      (packElems c (es.map (·.1)), (es.filter (·.2)).length, 0)
    | none => ([], 0, 0)

/-- A row of `h` elements, in groups of 1,024 (R231). -/
def readRow (c h : Nat) (bs : List Byte) : List FV :=
  (List.range ((h + 1023) / 1024)).flatMap (fun q =>
    readGroup c (min 1024 (h - 1024 * q)) (bs.drop (q * groupBytes c 1024)))

/-- A row as written, in groups of 1,024 (R231). -/
def writeRow (c : Nat) (sat : Bool) (vs : List FV) : List Byte :=
  (List.range ((vs.length + 1023) / 1024)).flatMap (fun q => (writeGroup c sat ((vs.drop (1024 * q)).take 1024)).1)

/-- Convert a group of `g` elements. -/
def convertGroup (src dst g : Nat) (sat : Bool) (bs : List Byte) : List Byte × Nat × Nat :=
  writeGroup dst sat (readGroup src g bs)

end Sys2Proof.Machine
end

