-- ==== Sys2Proof/Machine/Tables.lean ====
section
/-! DEFINITION. Function tables (chapter 09): evaluation, the loader's checks, slots, TABLE_LOAD. -/
namespace Sys2Proof.Machine

/-! ### The image (R270, R271) -/

def tblKind (b : List Byte) : Nat := leAt b 0 1
def tblMono (b : List Byte) : Bool := (leAt b 1 1).testBit 0
def tblNeg (b : List Byte) : Bool := (leAt b 1 1).testBit 1
def tblLoId (b : List Byte) : Bool := (leAt b 1 1).testBit 2
def tblHiId (b : List Byte) : Bool := (leAt b 1 1).testBit 3
def tblEnd (b : List Byte) : FV := fp32.decode (leAt b 4 4)
def tblX0 (b : List Byte) : FV := fp64.decode (leAt b 8 8)
def tblScale (b : List Byte) : FV := fp64.decode (leAt b 16 8)
def tblLo (b : List Byte) : FV := fp32.decode (leAt b 24 4)
def tblHi (b : List Byte) : FV := fp32.decode (leAt b 28 4)
def tblTol (b : List Byte) : FV := fp32.decode (leAt b 32 4)
/-- Coefficient `j` of segment `i`; coefficient 0 of segment 64 is END. -/
def tblC (b : List Byte) (i j : Nat) : FV := if i = 64 then tblEnd b else fp32.decode (leAt b (64 + 16 * i + 4 * j) 4)

/-! ### Evaluation (R272 to R275) -/

/-- P_i(t) by Horner's rule (R273). -/
def horner (b : List Byte) (i : Nat) (t : FV) : FV :=
  let a := tblC b i 3
  let a := fp32.fma a t (tblC b i 2)
  let a := fp32.fma a t (tblC b i 1)
  fp32.fma a t (tblC b i 0)

/-- Order of numbers; a NaN is above none and below none. -/
def FV.le : FV → FV → Bool
  | .nan, _ => false
  | _, .nan => false
  | .inf true, _ => true
  | _, .inf false => true
  | .inf false, _ => false
  | _, .inf true => false
  | a, b => a.val.le b.val
def FV.lt (a b : FV) : Bool := !a.isNan && !b.isNan && !b.le a

/-- R274. -/
def tblClamp (b : List Byte) (i : Nat) (p : FV) : FV :=
  if tblMono b then
    if p.lt (tblC b i 0) then tblC b i 0 else if (tblC b (i + 1) 0).lt p then tblC b (i + 1) 0 else p
  else p

/-- The result inside the domain at u, 0 ≤ u < 64. -/
def tblAt (b : List Byte) (u : Dy) : FV :=
  let i := u.floor.toNat
  tblClamp b i (horner b i (.fin false (rtz32 (u.sub (Dy.ofInt i)))))

def tblFlip (neg : Bool) (v : FV) : FV := if neg then v.neg else v

/-- The value of a table at an argument. -/
def tblEval (b : List Byte) (x : FV) : FV :=
  let scale := (tblScale b).val
  let sixtyFour := Dy.ofInt 64
  let r := match x with
    | .nan => .nan
    | .inf n =>
      if tblKind b = 1 then (if n then .fin false Dy.zero else .inf false)
      else if tblKind b = 0 then
        (if n then (if tblLoId b then .inf true else tblLo b) else (if tblHiId b then .inf false else tblHi b))
      else tblFlip n (if tblHiId b then .inf false else tblHi b)
    | .fin n v =>
      if tblKind b = 0 then
        let u := ((FV.fin n v).val.sub (tblX0 b).val).mul scale
        if u.lt Dy.zero then (if tblLoId b then x else tblLo b)
        else if sixtyFour.le u then (if tblHiId b then x else tblHi b)
        else tblAt b u
      else if tblKind b = 1 then
        let u := (FV.fin n v).val.mul scale
        let k := u.floor
        match tblAt b (sixtyFour.mul (u.sub (Dy.ofInt k))) with
        | .fin m p => fp32.round (.fin m (p.scale k))
        | p => p
      else
        let u := v.mul scale
        tblFlip n (if sixtyFour.le u then (if tblHiId b then .fin false v else tblHi b) else tblAt b u)
  tblFlip (tblNeg b) r

/-! ### The loader's checks (R279): code and segment of the first that fails -/

def chkHeader (b : List Byte) : Bool :=
  let k := tblKind b
  decide (2 < k) || decide (16 ≤ leAt b 1 1) || !zeroAt b 2 2 || !zeroAt b 36 28 ||
  (k != 0 && (!zeroAt b 8 8 || !zeroAt b 24 4)) || (k == 1 && (!zeroAt b 28 4 || tblLoId b || tblHiId b)) ||
  (tblLoId b && !zeroAt b 24 4) || (tblHiId b && !zeroAt b 28 4) ||
  !(tblScale b).isFin || !Dy.zero.lt (tblScale b).val || !(tblX0 b).isFin

def chkCoeff (b : List Byte) : Option Nat :=
  match (List.range 64).find? (fun i => (List.range 4).any (fun j => !(tblC b i j).isFin)) with
  | some i => some i
  | none =>
    if [tblEnd b, tblLo b, tblHi b, tblTol b].any (fun v => !v.isFin) || (tblTol b).val.lt Dy.zero then some 64
    else if tblKind b = 2 && !zeroAt b 64 4 then some 0
    else none

/-- P_i(k / 16). -/
def tblSample (b : List Byte) (i k : Nat) : FV := horner b i (.fin false { m := k, e := -4 })

def chkSeam (b : List Byte) : Option Nat :=
  (List.range 64).find? (fun i => match tblSample b i 16 with
    | .fin n v => (tblTol b).val.lt ((FV.fin n v).val.sub (tblC b (i + 1) 0).val).abs
    | _ => true)

def chkMonoC (b : List Byte) : Option Nat := (List.range 64).find? (fun i => (tblC b (i + 1) 0).lt (tblC b i 0))
def chkMonoS (b : List Byte) : Option Nat :=
  (List.range 64).find? (fun i => (List.range 16).any (fun k => (tblSample b i (k + 1)).lt (tblSample b i k)))

/-- The side rules in force: OUT_LO and OUT_HI where no identity stands and the kind has them. -/
def chkMonoSide (b : List Byte) : Bool :=
  let c0 := tblC b 0 0
  let k := tblKind b
  (k != 1 && !tblLoId b && c0.lt (tblLo b)) || (tblLoId b && c0.lt (tblX0 b)) ||
  (k != 1 && !tblHiId b && (tblHi b).lt (tblEnd b)) ||
  (tblHiId b &&
    ((((tblX0 b).val.mul (tblScale b).val).add (Dy.ofInt 64)).lt ((tblEnd b).val.mul (tblScale b).val))) ||
  (k == 1 && (c0.val.le Dy.zero || (c0.val.scale 1).lt (tblEnd b).val))

def loaderCheck (b : List Byte) : Option (Nat × Nat) :=
  if chkHeader b then some (1, 64)
  else match chkCoeff b with
    | some i => some (2, i)
    | none => match chkSeam b with
      | some i => some (3, i)
      | none =>
        if tblMono b then match chkMonoC b with
          | some i => some (4, i)
          | none => match chkMonoS b with
            | some i => some (5, i)
            | none => if chkMonoSide b then some (6, 64) else none
        else none

/-! ### Slots (R280 to R282) -/

def State.slot (s : State) (k : Nat) : Slot := mapGet {} k s.ft.slots
def State.setSlot (s : State) (k : Nat) (v : Slot) : State := { s with ft := { s.ft with slots := mapSet {} k v s.ft.slots } }

/-- FTSLOTS use of a cabinet. -/
def State.useTables (s : State) (cab : Nat) : Nat :=
  (s.ft.slots.filter (fun e => e.2.st != .free && !e.2.image && e.2.cab == cab)).length
def State.freeSlot (s : State) : Option Nat := (List.range 256).find? (fun k => (s.slot k).st == .free)
/-- HELD by the cabinet. -/
def State.slotHeld (s : State) (cab k : Nat) : Bool :=
  decide (k < 256) && (s.slot k).st == .held && !(s.slot k).image && (s.slot k).cab == cab

def State.opOf (s : State) (cab drawer seq : Nat) : Option TableOp :=
  s.ft.ops.find? (fun o => o.cab == cab && o.drawer == drawer && o.seq == seq)
def State.dropOp (s : State) (o : TableOp) : State :=
  { s with ft := { s.ft with ops := s.ft.ops.filter (fun x => !(x.cab == o.cab && x.drawer == o.drawer && x.seq == o.seq)) } }
def State.setOp (s : State) (o : TableOp) : State :=
  { s with ft := { s.ft with ops := updWhere (fun x => x.cab == o.cab && x.drawer == o.drawer && x.seq == o.seq) (fun _ => o) s.ft.ops } }
/-- The op is the first of its slot. -/
def State.opFirst (s : State) (o : TableOp) : Bool := s.ft.ops.find? (fun x => x.slot == o.slot) == some o

/-- Deliver slot `k` to tiles: to a free tile at once, to a busy one when it becomes free. -/
def State.deliverSlot (s : State) (k : Nat) (ts : List Nat) : State :=
  ts.foldl (fun s t =>
    let x := s.tile t
    if x.busy then s.setTile t { x with owed := x.owed.filter (fun y => y != k) ++ [k] }
    else (s.setTile t { x with owed := x.owed.filter (fun y => y != k) ++ [k] }).deliverTables t) s

/-- Withdraw slot `k` from tiles. -/
def State.withdrawSlot (s : State) (k : Nat) (ts : List Nat) : State :=
  ts.foldl (fun s t =>
    let x := s.tile t
    let s := s.setTile t { x with tables := x.tables.filter (fun y => y != k), owed := x.owed.filter (fun y => y != k) }
    if x.tables.contains k then s.emit (.tableDrop t k) else s) s

/-- The tiles of a cabinet. -/
def State.cabTiles (s : State) (cab : Nat) : List Nat := (List.range 256).filter (fun t => (s.tile t).cab == some cab)

/-- A tile receives every table of its cabinet and of the image again (R282, R211). -/
def State.retable (s : State) (t : Nat) : State :=
  let own := (List.range 256).filter (fun k =>
    let x := s.slot k
    (x.st == .held || x.st == .replacing) && (x.image || (s.tile t).cab == some x.cab))
  let s := s.setTile t { s.tile t with tables := [], owed := [] }
  own.foldl (fun s k => s.deliverSlot k [t]) s

/-- The next op of a slot begins where it is a FREE; one that no longer finds the slot HELD ends, and the op after it is
next (R281). -/
def State.nextOp (s : State) (k : Nat) : State := go s.ft.ops.length s
where
  go : Nat → State → State
    | 0, s => s
    | n + 1, s => match s.ft.ops.find? (fun x => x.slot == k) with
      | some o =>
        if o.op != 2 || o.checked then s
        else if s.slotHeld o.cab k then (s.setSlot k { s.slot k with st := .freeing }).setOp { o with checked := true }
        else go n (((s.dropOp o).bump (rFtCstat o.cab) 47 32).endFlight o.cab o.drawer o.seq
          { status := stDenied, unit := some uDce })
      | none => s

/-- A TABLE_LOAD fails at check 9. -/
def State.tableFails (s : State) (f : Flight) (st u : Nat) : State :=
  (s.bump (rFtCstat f.cab) 47 32).endFlight f.cab f.drawer f.seq { status := st, unit := some u }

def tableAsker (f : Flight) : Asker :=
  { src := dceStream f.seq, unit := uDce, cab := f.cab, ctx := f.ctx, tag := dceTag 0 (drwKey f.cab f.drawer) }

/-- A TABLE_LOAD of this OP that has been issued. -/
def State.tableFlight (s : State) (cab drawer seq op : Nat) : Option Flight :=
  match s.issuedOp cab drawer seq 0x22 with
  | some f => if leAt f.body 0 1 = op then some f else none
  | none => none

/-- Read the image of a LOAD or REPLACE (9.2). -/
def State.readImage (s : State) (f : Flight) : Acc (List Byte) × State :=
  s.vaRead (tableAsker f) ((s.obj (handleIdx (leAt f.body 4 4))).base + leAt f.body 8 8) 1088

/-- 9.2 of a LOAD with its slot reserved: a failed read returns the slot and its quota unit. -/
def loadRead (f : Flight) (o : TableOp) (s : State) : State :=
  match s.readImage f with
  | (.wait, s) => s
  | (.bad st _, s) => ((s.setSlot o.slot { version := (s.slot o.slot).version }).dropOp o).tableFails f st uDce
  | (.ok bs, s) => (s.startFlight f).setOp { o with bytes := bs }

/-- LOAD: 9.1 reserves a slot, 9.2 reads the image. -/
def loadTable (f : Flight) (s : State) : State :=
  match s.opOf f.cab f.drawer f.seq with
  | some o => loadRead f o s
  | none =>
    if quotaTables (s.cab f.cab).conf ≤ s.useTables f.cab then s.tableFails f stDenied uDce
    else match s.freeSlot with
      | none => s.tableFails f stDenied uDce
      | some k =>
        let o : TableOp := { cab := f.cab, drawer := f.drawer, seq := f.seq, op := 0, slot := k }
        let s := s.setSlot k { s.slot k with st := .loading, cab := f.cab }
        loadRead f o { s with ft := { s.ft with ops := s.ft.ops ++ [o] } }

def execTableLoadLoad (cab : CabId) (drawer : DrawerId) (seq : Seq) (s : State) : Host.Outcome State Fault Refusal :=
  .next (s.work uDce fun s => match s.tableFlight cab.val drawer.val seq.val 0 with
    | some f => loadTable f s
    | none => s)

/-- The slot may take a REPLACE or FREE of the cabinet now or behind the operations before it (9.1, R281). -/
def State.slotTakes (s : State) (cab k : Nat) : Bool :=
  decide (k < 256) && !(s.slot k).image && (s.slot k).cab == cab && ((s.slot k).st == .held || (s.slot k).st == .replacing)

def replaceTable (f : Flight) (s : State) : State :=
  let k := leAt f.body 16 2
  if !s.slotTakes f.cab k then s.tableFails f stDenied uDce
  else match s.readImage f with
    | (.wait, s) => s
    | (.bad st _, s) => s.tableFails f st uDce
    | (.ok bs, s) =>
      let s := s.startFlight f
      { s with ft := { s.ft with ops := s.ft.ops ++ [{ cab := f.cab, drawer := f.drawer, seq := f.seq, op := 1, slot := k, bytes := bs }] } }

def execTableLoadReplace (cab : CabId) (drawer : DrawerId) (seq : Seq) (s : State) : Host.Outcome State Fault Refusal :=
  .next (s.work uDce fun s => match s.tableFlight cab.val drawer.val seq.val 1 with
    | some f => replaceTable f s
    | none => s)

def freeTable (f : Flight) (s : State) : State :=
  let k := leAt f.body 16 2
  if !s.slotTakes f.cab k then s.tableFails f stDenied uDce
  else
    let s := s.startFlight f
    let s := { s with ft := { s.ft with ops := s.ft.ops ++ [{ cab := f.cab, drawer := f.drawer, seq := f.seq, op := 2, slot := k }] } }
    if (s.ft.ops.filter (fun o => o.slot == k)).length = 1 then s.nextOp k else s

def execTableLoadFree (cab : CabId) (drawer : DrawerId) (seq : Seq) (s : State) : Host.Outcome State Fault Refusal :=
  .next (s.work uDce fun s => match s.tableFlight cab.val drawer.val seq.val 2 with
    | some f => freeTable f s
    | none => s)

/-- A failed loader check (9.3): recorded with its segment; a LOAD's slot and quota unit return. -/
def State.loaderFails (s : State) (o : TableOp) (code seg : Nat) : State :=
  let s := (s.setRfld (rFtCstat o.cab) 7 0 code).setRfld (rFtCstat o.cab) 22 16 seg
  let s := if o.op = 0 then s.setSlot o.slot { version := (s.slot o.slot).version } else s
  let s := ((s.dropOp o).bump (rFtCstat o.cab) 47 32).endFlight o.cab o.drawer o.seq { status := stFormat, unit := some uDce }
  s.nextOp o.slot

/-- A LOAD enters HELD: install, deliver, DONE. -/
def State.installTable (s : State) (o : TableOp) : State :=
  let x := s.slot o.slot
  let s := s.setSlot o.slot { x with st := .held, version := (x.version + 1) % 65536, bytes := o.bytes }
  let s := ((s.deliverSlot o.slot (s.cabTiles o.cab)).dropOp o).bump (rFtCstat o.cab) 63 48
  s.endFlight o.cab o.drawer o.seq { status := stDone }

/-- The loader checks an image; a LOAD that passes writes RESULT and is installed, a REPLACE enters REPLACING. -/
def loaderStep (cab drawer seq : Nat) (s : State) : State :=
  match s.opOf cab drawer seq, s.flight cab drawer seq with
  | some o, some f =>
    if o.op = 2 || o.checked || o.bytes == [] || !s.opFirst o then s
    else match loaderCheck o.bytes with
      | some (code, seg) => s.loaderFails o code seg
      | none =>
        if o.op = 0 then
          match s.vaWrite (tableAsker f) ((s.obj (handleIdx (leAt f.body 20 4))).base + leAt f.body 24 8) (toLe 8 o.slot) with
          | (.wait, s) => s
          | (.bad st u, s) =>
            ((s.setSlot o.slot { version := (s.slot o.slot).version }).dropOp o).endFlight cab drawer seq { status := st, unit := some u }
          | (.ok _, s) => s.installTable o
        else if s.slotHeld cab o.slot then (s.setSlot o.slot { s.slot o.slot with st := .replacing }).setOp { o with checked := true }
        else ((s.dropOp o).tableFails f stDenied uDce).nextOp o.slot
  | _, _ => s

def execTableLoaderCheck (cab : CabId) (drawer : DrawerId) (seq : Seq) (s : State) : Host.Outcome State Fault Refusal :=
  .next (s.work uDce (loaderStep cab.val drawer.val seq.val))

/-- References to the slot's current version are released and no tile of the cabinet is busy. -/
def State.slotQuiet (s : State) (o : TableOp) : Bool :=
  !s.ft.refs.any (fun r => r.slot == o.slot && r.version == (s.slot o.slot).version) &&
  (s.cabTiles o.cab).all (fun t => !(s.tile t).busy)

def execTableReplaceComplete (cab : CabId) (drawer : DrawerId) (seq : Seq) (s : State) : Host.Outcome State Fault Refusal :=
  .next (s.work uDce fun s => match s.opOf cab.val drawer.val seq.val with
    | some o => if o.op = 1 && o.checked && s.slotQuiet o then (s.installTable o).nextOp o.slot else s
    | none => s)

/-- FREEING ends: the tiles' copies are withdrawn and the slot is FREE. -/
def freeDone (o : TableOp) (s : State) : State :=
  let s := (s.withdrawSlot o.slot (s.cabTiles o.cab)).setSlot o.slot { version := (s.slot o.slot).version }
  ((s.dropOp o).endFlight o.cab o.drawer o.seq { status := stDone }).nextOp o.slot

def execTableFreeComplete (cab : CabId) (drawer : DrawerId) (seq : Seq) (s : State) : Host.Outcome State Fault Refusal :=
  .next (s.work uDce fun s => match s.opOf cab.val drawer.val seq.val with
    | some o => if o.op = 2 && o.checked && s.slotQuiet o then freeDone o s else s
    | none => s)

/-- A cancelled TABLE_LOAD leaves its slot as it was before it. -/
def State.cancelOp (s : State) (o : TableOp) : State :=
  let x := s.slot o.slot
  let s := s.dropOp o
  let s := if o.op = 0 then s.setSlot o.slot { version := x.version }
    else if o.checked then s.setSlot o.slot { x with st := .held } else s
  s.nextOp o.slot

/-- An ENGINE reset of the engine ends each LOAD or REPLACE in LOADING or REPLACING with the fault's status (R293). -/
def State.resetTables (s : State) (st unit : Nat) : State :=
  (s.ft.ops.filter (fun o => o.op = 0 || (o.op = 1 && o.checked))).foldl (fun s o =>
    (s.cancelOp o).endFlight o.cab o.drawer o.seq { status := st, unit := some unit }) s

/-- A cabinet that enters FREE loses its slots (R280). -/
def State.dropTables (s : State) (cab : Nat) : State :=
  ((List.range 256).filter (fun k => (s.slot k).st != .free && !(s.slot k).image && (s.slot k).cab == cab)).foldl
    (fun (s : State) k => (s.withdrawSlot k (s.cabTiles cab)).setSlot k { version := (s.slot k).version })
    { s with ft := { s.ft with ops := s.ft.ops.filter (fun o => o.cab != cab) } }

end Sys2Proof.Machine
end

