-- ==== Sys2Proof/Machine/Dce.lean ====
section
/-! DEFINITION. The Dispatch-Combine Engine's commands: landings, ROUTE, RETURN, COMBINE, and the sender's side of their
exchange (chapter 08). -/
namespace Sys2Proof.Machine

def up64 (n : Nat) : Nat := (n + 63) / 64 * 64
def up8K (n : Nat) : Nat := (n + 8191) / 8192 * 8192

/-! ### Sizes (R243) -/

/-- Bytes of a row of `h` elements in a format. -/
def rowBytes (fmt h : Nat) : Nat := groupBytes fmt h
def sliceBytes (cap xb : Nat) : Nat := up8K (64 + up64 (4 * cap) + cap * up64 xb)
def Landing.xb (l : Landing) : Nat := rowBytes l.fmt l.h
def Landing.slice (l : Landing) : Nat := sliceBytes l.cap l.xb
def Landing.partBytes (l : Landing) : Nat := l.lexperts * l.ranks * l.slice
def Landing.nparts (l : Landing) : Nat := if l.bufs2 then 2 else 1
/-- Virtual address of slice (e, r) of the part of a step. -/
def Landing.sliceVa (l : Landing) (step e r : Nat) : Nat :=
  l.base + step % l.nparts * l.partBytes + (e * l.ranks + r) * l.slice
def Landing.tagVa (l : Landing) (step e r c : Nat) : Nat := l.sliceVa step e r + 64 + 4 * c
def Landing.rowVa (l : Landing) (step e r c : Nat) : Nat := l.sliceVa step e r + 64 + up64 (4 * l.cap) + c * up64 l.xb
/-- The last step that arrived at a step's part. -/
def Landing.lastOf (l : Landing) (step : Nat) : Option Nat := l.last.getD (step % l.nparts) none

def State.landing (s : State) (cab g : Nat) : Option Landing := s.dce.landings.find? (fun l => l.cab == cab && l.group == g)
def State.setLanding (s : State) (l : Landing) : State :=
  { s with dce := { s.dce with landings := updWhere (fun x => x.cab == l.cab && x.group == l.group) (fun _ => l) s.dce.landings } }
def State.dropLanding (s : State) (l : Landing) : State :=
  { s with dce := { s.dce with landings := s.dce.landings.filter (fun x => !(x.cab == l.cab && x.group == l.group)) } }

/-! ### Reservations (R244) -/

/-- The largest shadow need of the cabinet's committing commands that have not completed. -/
def State.largestNeed (s : State) (cab : Nat) : Nat :=
  max (((s.ts.cmds.filter (fun c => c.cab == cab && !c.direct)).map (fun c => shadowNeed c.outs)).foldl max 0)
    (((s.dce.cmds.filter (fun c => c.cab == cab && !c.direct)).map (fun c => shadowNeed c.outs)).foldl max 0)

/-- Reserve granules, if what stays unreserved still covers that need. -/
def State.reserve (s : State) (cab n : Nat) : Option State :=
  if s.reservedOf cab + n + s.largestNeed cab ≤ (s.cab cab).conf.usable then some (s.setReserved cab (s.reservedOf cab + n))
  else none

def dceDenied : Ending := { status := stDenied, unit := some uDce }
def dceFormat : Ending := { status := stFormat, unit := some uDce }

/-! ### LAND, UNLAND -/

/-- A DISPATCH of this mode that has been issued. -/
def State.dispatch (s : State) (cab drawer seq mode : Nat) : Option Flight :=
  match s.issuedOp cab drawer seq 0x20 with
  | some f => if leAt f.body 0 1 = mode then some f else none
  | none => none

/-- The landing a LAND binds. -/
def landingOf (s : State) (f : Flight) : Landing :=
  let b := f.body
  let bufs2 := (leAt b 3 1).testBit 0
  { cab := f.cab, group := leAt b 1 1 % 16, ctx := f.ctx, handle := leAt b 4 4,
    base := (s.obj (handleIdx (leAt b 4 4))).base, h := leAt b 20 2, fmt := leAt b 22 1 % 16, lexperts := leAt b 24 2,
    ranks := leAt b 26 2, cap := leAt b 28 4, bufs2 := bufs2, arrive := leAt b 32 4, consumed := leAt b 36 4, resv := 0,
    last := if bufs2 then [none, none] else [none] }

def land (f : Flight) (s : State) : State :=
  let l := landingOf s f
  if (s.landing f.cab l.group).isSome then s.endFlight f.cab f.drawer f.seq dceDenied
  else
    let n := touched l.base (l.nparts * l.partBytes)
    match s.reserve f.cab n with
    | none => s.endFlight f.cab f.drawer f.seq dceDenied
    | some s =>
      let s := { s with dce := { s.dce with landings := s.dce.landings ++ [{ l with resv := n }] } }
      s.endFlight f.cab f.drawer f.seq { status := stDone }

def execDispatchLand (cab : CabId) (drawer : DrawerId) (seq : Seq) (s : State) : Host.Outcome State Fault Refusal :=
  .next (s.work uDce fun s => match s.dispatch cab.val drawer.val seq.val 2 with
    | some f => land f s
    | none => s)

/-! ### Received sets -/

def InSet.owner (i : InSet) : Owner := .inbound i.cab i.id
def State.inSet (s : State) (cab id : Nat) : Option InSet := s.dce.sets.find? (fun i => i.cab == cab && i.id == id)
def State.updSet (s : State) (i : InSet) : State :=
  { s with dce := { s.dce with sets := updWhere (fun x => x.id == i.id) (fun _ => i) s.dce.sets } }

/-- Discard a set: its shadows go, it is forgotten. -/
def State.discardSet (s : State) (i : InSet) : State :=
  let s := (s.discardShadows i.owner).dropReqsOf i.owner
  { s with dce := { s.dce with sets := s.dce.sets.filter (fun x => x.id != i.id) } }

/-- KINDs of SETRSP: 1 STAGED, 2 COMMITTED, 3 REFUSED, 4 DISCARDED. -/
def State.setReply (s : State) (i : InSet) (kind status : Nat) : State :=
  s.inject { ty := ptSetrsp, dst := i.node, job := i.job, srcCab := i.cab, status := status, epoch := i.epoch, arg0 := kind,
             arg1 := i.ticket } (if i.job = 0 then none else some i.g)

/-- Refuse a set (R254). -/
def State.refuseSet (s : State) (i : InSet) (status : Nat) : State :=
  ((s.discardSet i).bump rDceGstat 47 32).setReply i 3 status

/-- Groups the rows of a set name. -/
def InSet.groups (i : InSet) : List Nat := (i.parts.map (·.group)).eraseDups

/-- The step is later than the last that arrived at its part (R245). -/
def Landing.later (l : Landing) (step : Nat) : Bool :=
  match l.lastOf step with
  | some t => decide (t < step)
  | none => true

/-- The landing's geometry admits the set's SEAL. -/
def Landing.fits (l : Landing) (f : SealInfo) : Bool :=
  f.cap == l.cap && f.xb == l.xb && decide (f.rank < l.ranks) && l.later f.step

/-- The landings a set counts at: those its rows name, and every other bound landing it fits (log 22). -/
def State.landsAt (s : State) (i : InSet) : List Landing :=
  match i.fin with
  | some f => s.dce.landings.filter (fun l => l.cab == i.cab && !l.aborted &&
      (i.groups.contains l.group || (l.fits f && !l.unland)))
  | none => []

/-! ### UNLAND (R246) -/

/-- An unbinding landing with no committed set left to commit is released. -/
def State.settleUnland (s : State) (l : Landing) : State :=
  if s.dce.sets.any (fun i => i.cab == l.cab && i.commit && match i.fin with
      | some f => !f.ret && (s.landsAt i).any (fun x => x.group == l.group)
      | none => false) then s
  else
    let s := (s.setReserved l.cab (s.reservedOf l.cab - l.resv)).dropLanding l
    match l.desc with
    | some (d, q) => s.endFlight l.cab d q { status := stDone }
    | none => s

/-- Steps 1 to 4 of UNLAND. -/
def State.unbind (s : State) (l : Landing) : State :=
  let mine := s.dce.sets.filter (fun i => i.cab == l.cab && (i.staged || i.placed != []) && !i.commit &&
    (match i.fin with | some f => !f.ret | none => false) && (s.landsAt i).any (fun x => x.group == l.group))
  let s := s.setLanding { l with unland := true }
  (mine.foldl (fun s i => s.refuseSet i stDenied) s).settleUnland { l with unland := true }

def unlandIssue (f : Flight) (s : State) : State :=
  match s.landing f.cab (leAt f.body 1 1 % 16) with
  | some l =>
    if l.ctx != f.ctx || l.unland then s.endFlight f.cab f.drawer f.seq dceDenied
    else (s.startFlight f).unbind { l with desc := some (f.drawer, f.seq) }
  | none => s.endFlight f.cab f.drawer f.seq dceDenied

def execDispatchUnland (cab : CabId) (drawer : DrawerId) (seq : Seq) (s : State) : Host.Outcome State Fault Refusal :=
  .next (s.work uDce fun s => match s.dispatch cab.val drawer.val seq.val 3 with
    | some f => unlandIssue f s
    | none => s)

/-! ### The router (R249 to R252) -/

/-- A choice: its expert, weight, whether its p is 0. -/
structure Choice where
  expert : Nat
  weight : FV
  zero   : Bool
deriving DecidableEq, Repr

/-- What the router makes of a row: ROWFLAGS and its choices in order. -/
structure RowRoute where
  flags   : Nat
  choices : List Choice
deriving DecidableEq, Repr

/-- A sum from left to right, each addition rounded. -/
def sumF : List FV → FV
  | [] => .fin false Dy.zero
  | a :: r => r.foldl fp32.add a

def FV.isZero : FV → Bool
  | .fin _ v => v.m == 0
  | _ => false

/-- Route one row: logits of the valid experts by expert index. -/
def routeRow (table : List Byte) (k : Nat) (renorm : Bool) (ls : List (Nat × FV)) : RowRoute :=
  if ls.any (fun l => l.2.isNan) then { flags := 1, choices := [] }
  else
    let infs := (ls.filter (fun l => l.2 == .inf false)).length
    if infs = 0 && ls.all (fun l => l.2 == .inf true) then { flags := 4, choices := [] }
    else
      let one : FV := .fin false (Dy.ofInt 1)
      let m := ls.foldl (fun m l => if m.lt l.2 then l.2 else m) (.inf true)
      let qs := ls.map (fun l => tblEval table (fp32.sub l.2 m))
      let z := sumF qs
      let ps : List (Nat × FV × FV) :=
        if infs ≠ 0 then
          ls.map (fun l => (l.1, l.2, if l.2 == .inf false then fp32.div one (.fin false (Dy.ofInt infs)) else .fin false Dy.zero))
        else (ls.zip qs).map (fun x => (x.1.1, x.1.2, fp32.div x.2 z))
      let best := (ps.foldr (fun x acc => ins x acc) []).take k
      let live := best.filter (fun x => !x.2.2.isZero)
      let tot := sumF (live.map (fun x => x.2.2))
      let weight (p : FV) : FV := if renorm && !p.isZero then fp32.div p tot else p
      { flags := if infs ≠ 0 then 2 else 0,
        choices := best.map (fun x => { expert := x.1, zero := x.2.2.isZero, weight := weight x.2.2 }) }
where
  /-- Highest logit first, then the lower expert index. -/
  ins (x : Nat × FV × FV) : List (Nat × FV × FV) → List (Nat × FV × FV)
    | [] => [x]
    | y :: r => if y.2.1.lt x.2.1 || (!x.2.1.lt y.2.1 && decide (x.1 < y.1)) then x :: y :: r else y :: ins x r

/-- A choice after capacity is assigned: its slot where it is sent. -/
structure Placed where
  expert : Nat
  weight : Nat
  zero   : Bool
  slot   : Option Nat
deriving DecidableEq, Repr

/-- Assign capacity in row and choice order (R251). -/
def assignSlots (cap : Nat) : FMap Nat → List Choice → List Placed × FMap Nat
  | used, [] => ([], used)
  | used, c :: r =>
    let w := fp32.encode c.weight
    let n := mapGet 0 c.expert used
    let mk (slot : Option Nat) (used : FMap Nat) : List Placed × FMap Nat :=
      let x := assignSlots cap used r
      ({ expert := c.expert, weight := w, zero := c.zero, slot := slot } :: x.1, x.2)
    if c.zero then mk none used
    else if n < cap then mk (some n) (mapSet 0 c.expert (n + 1) used)
    else mk none used

def assignRows (cap : Nat) : FMap Nat → List RowRoute → List (Nat × List Placed)
  | _, [] => []
  | used, r :: rs => let x := assignSlots cap used r.choices; (r.flags, x.1) :: assignRows cap x.2 rs

/-- CFLAGS: SENT, DROPPED, ZERO. -/
def Placed.flags (p : Placed) : Nat := if p.zero then 4 else if p.slot.isSome then 1 else 2

/-- A routing record (R252). -/
def routingRecord (k flags : Nat) (cs : List Placed) : List Byte :=
  toLe 2 flags ++ toLe 2 (cs.filter (fun c => c.slot.isSome)).length ++ toLe 4 0 ++
  (List.range k).flatMap (fun j => match cs[j]? with
    | some c => toLe 2 c.expert ++ toLe 1 c.flags ++ toLe 1 0 ++ toLe 4 c.weight
    | none => toLe 2 0xFFFF ++ toLe 1 0 ++ toLe 1 0 ++ toLe 4 0)

/-! ### The home table (R239) -/

def homeExperts (b : List Byte) : Nat := leAt b 0 2
def homeRanks (b : List Byte) : Nat := leAt b 2 2
def homeCap (b : List Byte) : Nat := leAt b 4 4
def homeRank (b : List Byte) (r : Nat) : Nat := leAt b (64 + 4 * r) 4
def homeExpert (b : List Byte) (e : Nat) : Nat := leAt b (64 + 4 * (homeRanks b + e)) 4
/-- Node and cabinet of each rank. -/
def homePeers (b : List Byte) : List (Nat × Nat) :=
  (List.range (homeRanks b)).map (fun r => (homeRank b r % 65536, bitsOf (homeRank b r) 23 16))

def dupFree : List (Nat × Nat) → Bool
  | [] => true
  | x :: r => !r.contains x && dupFree r

/-- Sub-check 9.2. -/
def homeOk (s : State) (cab k rank : Nat) (b : List Byte) : Bool :=
  let n := homeExperts b
  let r := homeRanks b
  decide (1 ≤ n ∧ n ≤ 1024 ∧ 1 ≤ r ∧ r ≤ 1024 ∧ 1 ≤ homeCap b ∧ homeCap b ≤ 65536 ∧ k ≤ n ∧ rank < r) &&
  (homePeers b)[rank]? == some (s.node, cab) && dupFree (homePeers b) && zeroAt b 8 56 &&
  (List.range r).all (fun i => bitsOf (homeRank b i) 31 24 == 0) &&
  (List.range n).all (fun e => bitsOf (homeExpert b e) 30 22 == 0 &&
    (!(homeExpert b e).testBit 31 || decide (homeExpert b e % 1024 < r)))

/-! ### ROUTE (R247, R248) -/

/-- An operand of the extension: base address of its handle plus its offset. -/
def State.extVa (s : State) (f : Flight) (o : Nat) : Nat :=
  let x := (f.exts.getD 0 []).drop 8
  (s.obj (handleIdx (leAt x o 4))).base + leAt x (o + 4) 8

def routeK (f : Flight) : Nat := leAt f.body 2 1
def routeRows (f : Flight) : Nat := leAt f.body 16 4
def routeH (f : Flight) : Nat := leAt f.body 20 2
def routeX (f : Flight) : Nat := leAt f.body 22 1 % 16
def routeL (f : Flight) : Nat := leAt f.body 22 1 / 16
def routeR (f : Flight) : Nat := leAt f.body 23 1 % 16
def routeTicket (f : Flight) : Nat := leAt f.body 24 2
def routeRank (f : Flight) : Nat := leAt f.body 26 2 % 1024
/-- LS: the stride of a row of logits. -/
def logitStride (f : Flight) (n : Nat) : Nat := up64 (n * if routeL f = 0 then 4 else 2)

/-- The slot EXPTAB names and the version a ROUTE takes: held by the cabinet, or the image's exp table (R249, R281). -/
def State.expSlot (s : State) (cab exptab : Nat) : Option (Nat × Nat) :=
  if exptab = 0xFFFF then s.ft.exp.map (fun k => (k, (s.slot k).version))
  else if exptab < 256 && !(s.slot exptab).image && (s.slot exptab).cab == cab then
    match (s.slot exptab).st with
    | .held => some (exptab, (s.slot exptab).version)
    | .replacing => some (exptab, ((s.slot exptab).version + 1) % 65536)
    | _ => none
  else none

/-- The checks of ROUTE past 9.1, then its ticket. -/
def routeAdmit (f : Flight) (homes : List Byte) (s : State) : State :=
  let x := (f.exts.getD 0 []).drop 8
  let bad (e : Ending) (s : State) : State := s.endFlight f.cab f.drawer f.seq e
  let peers := homePeers homes
  let k := routeK f
  let num := routeTicket f
  let rows := routeRows f
  let rs := up64 (rowBytes (routeR f) (routeH f))
  let lo := s.obj (handleIdx (leAt x 12 4))
  if !homeOk s f.cab k (routeRank f) homes then bad dceFormat s
  else if lo.len < leAt x 16 8 + rows * logitStride f (homeExperts homes) then bad { status := stBound, unit := some uDce } s
  else if !s.jobValid f.cab && peers.any (fun p => p != (s.node, f.cab)) then bad dceDenied s
  else if (s.ticket f.cab num).isSome || decide (s.rfld (rDceClim f.cab) 10 0 ≤ (s.dce.tickets.filter (fun t => t.cab == f.cab)).length)
      || decide (1024 ≤ s.dce.tickets.length) then bad dceDenied (s.bump (rDceCstat f.cab) 15 0)
  else
    let resv := touched (s.extVa f 36) (rows * k * rs)
    let direct := s.runsDirect f
    match s.reserve f.cab resv with
    | none => bad dceDenied s
    | some t =>
      if !direct && !t.shadowFits f.cab [(s.extVa f 24, rows * (8 + 8 * k))] then bad { status := stDenied, unit := some uTu } s
      else match s.expSlot f.cab (leAt f.body 28 2) with
        | none => bad dceFormat s
        | some (slot, v) =>
          let c : DceCmd :=
            { cab := f.cab, drawer := f.drawer, seq := f.seq, ctx := f.ctx, kind := .route, direct := direct, ticket := num,
              table := (s.obj (handleIdx (leAt f.body 4 4))).orig, homes := homes,
              peers := peers.map (fun p => { node := p.1, cab := p.2, ticket := num }), slot := some slot,
              outs := [(s.extVa f 24, rows * (8 + 8 * k))] }
          let tk : Ticket :=
            { cab := f.cab, num := num, ctx := f.ctx, rows := rows, k := k, h := routeH f, rfmt := routeR f, ranks := peers,
              retVa := s.extVa f 36, routVa := s.extVa f 24, resv := resv }
          let t := t.startFlight f
          { t with dce := { t.dce with cmds := t.dce.cmds ++ [c], tickets := t.dce.tickets ++ [tk] },
                   ft := { t.ft with refs := t.ft.refs ++ [{ cab := f.cab, drawer := f.drawer, seq := f.seq, slot := slot, version := v }] } }

/-- The asker of a ROUTE before it is a command. -/
def flightAsker (f : Flight) : Asker :=
  { src := dceStream f.seq, unit := uDce, cab := f.cab, ctx := f.ctx, owner := some (.dce f.cab f.drawer f.seq),
    tag := dceTag 3 (drwKey f.cab f.drawer * 2 ^ 48 + f.seq) }

/-- Read the home table (9.1), then check and admit. -/
def routeCheck (f : Flight) (s : State) : State :=
  let o := s.obj (handleIdx (leAt f.body 4 4))
  let bound (s : State) : State := s.endFlight f.cab f.drawer f.seq { status := stBound, unit := some uDce }
  if o.len < 64 then bound s
  else match s.vaRead (flightAsker f) o.base 64 with
    | (.wait, s) => s
    | (.bad st u, s) => s.endFlight f.cab f.drawer f.seq { status := st, unit := some u }
    | (.ok hd, s) =>
      let n := 64 + 4 * (homeRanks hd + homeExperts hd)
      if o.len < n then bound s
      else match s.vaRead (flightAsker f) o.base n with
        | (.wait, s) => s
        | (.bad st u, s) => s.endFlight f.cab f.drawer f.seq { status := st, unit := some u }
        | (.ok bs, s) => routeAdmit f bs s

/-! ### Sending sets (R253) -/

/-- A row of a set before it is cut: GROUP, LEXP, slot, tag, bytes. -/
structure SetRow where
  group : Nat
  lexp  : Nat
  slot  : Nat
  tag   : Nat
  bytes : List Byte
deriving DecidableEq, Repr

/-- The pieces of at most 464 bytes of a row, with their offsets. -/
def pieces : Nat → Nat → List Byte → List (Nat × List Byte)
  | 0, _, _ => []
  | k + 1, o, bs => if bs.length ≤ 464 then [(o, bs)] else (o, bs.take 464) :: pieces k (o + 464) (bs.drop 464)

def setPayload (r : SetRow) (o : Nat) (bs : List Byte) : List Byte :=
  toLe 4 r.tag ++ toLe 4 o ++ toLe 1 r.lexp ++ toLe 1 r.group ++ toLe 6 0 ++ bs ++ List.replicate ((16 - bs.length % 16) % 16) 0

def sealPayload (f : SealInfo) : List Byte :=
  toLe 8 f.step ++ toLe 4 f.count ++ toLe 4 f.xb ++ toLe 4 f.cap ++ toLe 2 f.rank ++ toLe 1 (bit f.ret) ++ toLe 9 0

/-- Send one set: its SET packets and its SEAL. -/
def State.sendSet (s : State) (c : DceCmd) (p : Peer) (rows : List SetRow) (f : SealInfo) : State :=
  let ps := rows.flatMap (fun r => (pieces (r.bytes.length / 464 + 1) 0 r.bytes).map (fun x => (r, x.1, x.2)))
  let s := ps.foldl (fun s x => s.toPeer c p ptSet (setPayload x.1 x.2.1 x.2.2) x.1.slot) s
  s.toPeer c p ptSeal (sealPayload { f with count := ps.length })

/-- Take the next EPOCH of the cabinet (R186). -/
def State.nextEpoch (s : State) (cab : Nat) : Nat × State :=
  let e := mapGet 0 cab s.ts.epochs
  (e, { s with ts := { s.ts with epochs := mapSet 0 cab ((e + 1) % 2 ^ 32) s.ts.epochs } })

/-- Phase 1 begins: the sets go out. -/
def State.startSets (s : State) (c : DceCmd) (sets : List (Peer × List SetRow)) (f : SealInfo) : State :=
  let e := s.nextEpoch c.cab
  let c := { c with phase := .staging, epoch := e.1, staged := [], committed := [], holds := [], deadline := s.mono + s.peerNs,
                    start := s.mono, peers := sets.map (·.1) }
  let n := (sets.map (fun x => x.2.length)).sum
  sets.foldl (fun s x => s.sendSet c x.1 x.2 f) ((e.2.updDce c (fun _ => c)).carryRows c.cab n (n * f.xb) (n * f.xb))

/-- What a committing write of a command leaves when it does not go through. -/
def State.dceMeets (s : State) (c : DceCmd) (r : VaRes) : State :=
  match r with
  | .bad st u => s.endDce c { status := st, unit := some u }
  | .conflict o => ((s.countDceKill c 2).discardShadows c.owner).updDce c (fun x =>
      { x with started := false, holds := x.holds ++ [.shadowOf o] })
      |>.bump (rTuCstat c.cab) 31 16
  | _ => s

/-- The command runs from here on (R145, R265). -/
def State.startDce (s : State) (c : DceCmd) : State := s.updDce c (fun x => { x with started := true })

/-- It may start: it runs already, it commits nothing, or the chip has room for one more committing command (R145). -/
def State.dceMayStart (s : State) (c : DceCmd) : Bool := c.direct || c.started || s.mayCommit

/-- Split bytes into rows of a stride, keeping `n` bytes of each. -/
def rowsOf : Nat → Nat → Nat → List Byte → List (List Byte)
  | 0, _, _, _ => []
  | k + 1, stride, n, bs => bs.take n :: rowsOf k stride n (bs.drop stride)

/-- The logits of the valid experts of a row. -/
def validLogits (f : Flight) (homes bs : List Byte) : List (Nat × FV) :=
  ((List.range (homeExperts homes)).filter (fun e => (homeExpert homes e).testBit 31)).map (fun e =>
    (e, if routeL f = 0 then fp32.decode (leAt bs (4 * e) 4) else bf16.decode (leAt bs (2 * e) 2)))

/-- The rows of the set to rank `r`. -/
def setTo (homes : List Byte) (r : Nat) (placed : List (Nat × List Placed)) (xs : List (List Byte)) : List SetRow :=
  (placed.zip xs).zipIdx.flatMap (fun (p : ((Nat × List Placed) × List Byte) × Nat) => p.1.1.2.zipIdx.filterMap (fun c =>
    match c.1.slot with
    | some slot =>
      let e := homeExpert homes c.1.expert
      if e % 1024 = r then
        some { group := bitsOf e 21 18, lexp := bitsOf e 17 10, slot := slot, tag := p.2 + c.2 * 65536, bytes := p.1.2 }
      else none
    | none => none))

/-- Route the rows, write the records, send the sets. -/
def routeRun (c : DceCmd) (f : Flight) (s : State) : State :=
  let rows := routeRows f
  let xb := rowBytes (routeX f) (routeH f)
  let ls := logitStride f (homeExperts c.homes)
  match s.vaRead c.asker (s.extVa f 12) (rows * ls) with
  | (.wait, s) => s
  | (.bad st u, s) => s.endDce c { status := st, unit := some u }
  | (.ok lg, s) =>
    match s.vaRead c.asker (s.extVa f 0) (rows * up64 xb) with
    | (.wait, s) => s
    | (.bad st u, s) => s.endDce c { status := st, unit := some u }
    | (.ok xs, s) =>
      let table := (s.slot (c.slot.getD 0)).bytes
      let routed := (rowsOf rows ls ls lg).map (fun b =>
        routeRow table (routeK f) ((leAt f.body 3 1).testBit 0) (validLogits f c.homes b))
      let placed := assignRows (homeCap c.homes) [] routed
      let recs := placed.flatMap (fun p => routingRecord (routeK f) p.1 p.2)
      match s.dceWrite c (s.extVa f 24) recs with
      | (.ok, s) =>
        let dropped := (placed.map (fun p => (p.2.filter (fun x => x.flags == 2)).length)).sum
        let odd := (placed.filter (fun p => p.1 == 1 || p.1 == 4)).length
        let s := (s.bump (rDceCstat c.cab) 63 48 dropped).bump (rDceCstat c.cab) 47 32 odd
        let data := rowsOf rows (up64 xb) xb xs
        let sets := c.peers.zipIdx.map (fun e => (e.1, setTo c.homes e.2 placed data))
        let s := s.updTicket c.cab c.ticket (fun t => { t with sent := sets.map (fun x => x.2.length) })
        s.startSets c sets { step := leAt f.body 8 8, count := 0, xb := xb, cap := homeCap c.homes, rank := routeRank f, ret := false }
      | (r, s) => s.dceMeets c r

/-- A ROUTE may begin phase 1: no hold, no earlier ROUTE of its table, its table version installed (R255, R281). -/
def State.routeReady (s : State) (c : DceCmd) : Bool :=
  c.phase == .queued && !s.dceHeld c && s.dceMayStart c &&
  ((s.dce.cmds.takeWhile (fun x => !x.is c.cab c.drawer c.seq)).all (fun x =>
    !(x.kind == .route && x.cab == c.cab && x.table == c.table))) &&
  s.ft.refs.any (fun r => r.cab == c.cab && r.drawer == c.drawer && r.seq == c.seq &&
    r.version == (s.slot (c.slot.getD 0)).version)

def routeGo (cab drawer seq : Nat) (s : State) : State :=
  match s.dceCmd cab drawer seq, s.flight cab drawer seq with
  | some c, some f => if c.kind == .route && s.routeReady c then routeRun { c with started := true } f (s.startDce c) else s
  | _, _ => s

def execDispatchRoute (cab : CabId) (drawer : DrawerId) (seq : Seq) (s : State) : Host.Outcome State Fault Refusal :=
  .next (s.work uDce fun s => match s.dispatch cab.val drawer.val seq.val 0 with
    | some f => routeGo cab.val drawer.val seq.val (routeCheck f s)
    | none => routeGo cab.val drawer.val seq.val s)

/-! ### RETURN (R257, R258) -/

/-- Read the slices of one sender rank: SRC_NODE, SRC_CAB, TICKET, and its rows as returned. -/
def readSlices (a : Asker) (l : Landing) (step r rb : Nat) (out : Nat) :
    List Nat → State → Acc (Peer × List SetRow) × State
  | [], s => (.ok ({ node := 0, cab := 0, ticket := 0 }, []), s)
  | e :: es, s =>
    match s.vaRead a (l.sliceVa step e r) 64 with
    | (.wait, s) => (.wait, s)
    | (.bad st u, s) => (.bad st u, s)
    | (.ok hd, s) =>
      let n := min (leAt hd 0 4) l.cap
      match s.vaRead a (l.tagVa step e r 0) (4 * n) with
      | (.wait, s) => (.wait, s)
      | (.bad st u, s) => (.bad st u, s)
      | (.ok tags, s) =>
        match s.vaRead a (out + (e * l.ranks + r) * l.cap * up64 rb) (n * up64 rb) with
        | (.wait, s) => (.wait, s)
        | (.bad st u, s) => (.bad st u, s)
        | (.ok bs, s) =>
          let mine := (rowsOf n (up64 rb) rb bs).zipIdx.map (fun x =>
            ({ group := l.group, lexp := e, slot := x.2, tag := leAt tags (4 * x.2) 4, bytes := x.1 } : SetRow))
          match readSlices a l step r rb out es s with
          | (.ok v, s) => (.ok ({ node := leAt hd 4 2, cab := leAt hd 6 1, ticket := leAt hd 16 2 }, mine ++ v.2), s)
          | x => x

def readRanks (a : Asker) (l : Landing) (step rb out : Nat) : List Nat → State → Acc (List (Peer × List SetRow)) × State
  | [], s => (.ok [], s)
  | r :: rs, s =>
    match readSlices a l step r rb out (List.range l.lexperts) s with
    | (.wait, s) => (.wait, s)
    | (.bad st u, s) => (.bad st u, s)
    | (.ok x, s) => match readRanks a l step rb out rs s with
      | (.ok xs, s) => (.ok (x :: xs), s)
      | e => e

def retStep (f : Flight) : Nat := leAt f.body 8 8
def retBytes (f : Flight) : Nat := rowBytes (leAt f.body 22 1 % 16) (leAt f.body 20 2)

/-- Check 9 of RETURN. -/
def returnCheck (f : Flight) (s : State) : Option Ending :=
  match s.landing f.cab (leAt f.body 1 1 % 16) with
  | none => some dceDenied
  | some l =>
    if l.ctx != f.ctx then some dceDenied
    else if l.lastOf (retStep f) != some (retStep f) then some dceFormat
    else if (s.obj (handleIdx (leAt f.body 4 4))).len < leAt f.body 32 8 + l.lexperts * l.ranks * l.cap * up64 (retBytes f) then
      some { status := stBound, unit := some uDce }
    else none

/-- Read what is to be returned and send the sets. -/
def returnRun (c : DceCmd) (f : Flight) (s : State) : State :=
  match s.landing f.cab (leAt f.body 1 1 % 16) with
  | none => s.endDce c dceDenied
  | some l =>
    let out := (s.obj (handleIdx (leAt f.body 4 4))).base + leAt f.body 32 8
    match readRanks c.asker l (retStep f) (retBytes f) out (List.range l.ranks) s with
    | (.wait, s) => s
    | (.bad st u, s) => s.endDce c { status := st, unit := some u }
    | (.ok sets, s) =>
      s.startSets c sets { step := retStep f, count := 0, xb := retBytes f, cap := l.cap, rank := 0, ret := true }

def returnGo (cab drawer seq : Nat) (s : State) : State :=
  match s.dceCmd cab drawer seq, s.flight cab drawer seq with
  | some c, some f => 
    if c.kind == .ret && c.phase == .queued && !s.dceHeld c && s.dceMayStart c then
      returnRun { c with started := true } f (s.startDce c)
    else s
  | _, _ => s

def execDispatchReturn (cab : CabId) (drawer : DrawerId) (seq : Seq) (s : State) : Host.Outcome State Fault Refusal :=
  .next (s.work uDce fun s => match s.dispatch cab.val drawer.val seq.val 1 with
    | some f => match returnCheck f s with
      | some e => s.endFlight f.cab f.drawer f.seq e
      | none =>
        let c : DceCmd := { cab := f.cab, drawer := f.drawer, seq := f.seq, ctx := f.ctx, kind := .ret, direct := s.runsDirect f }
        let s := s.startFlight f
        returnGo f.cab f.drawer f.seq { s with dce := { s.dce with cmds := s.dce.cmds ++ [c] } }
    | none => returnGo cab.val drawer.val seq.val s)

/-! ### Replies to a sender (R253, R254, R256) -/

/-- The command and rank a SETRSP answers. A reply from another cabinet of the rank's node says that the rank's own does
not hold the job (R254). -/
def State.answeredBy (s : State) (cab : Nat) (p : Packet) : Option (DceCmd × Option Nat) :=
  match s.dce.cmds.find? (fun c => c.cab == cab && c.epoch == p.epoch && (c.phase == .staging || c.phase == .committing) &&
      c.peers.any (fun x => x.node == p.src && x.ticket == p.arg1)) with
  | some c => some (c, (c.peers.zipIdx.find? (fun e => e.1.node == p.src && e.1.cab == p.srcCab && e.1.ticket == p.arg1)).map (·.2))
  | none => none

/-- All sets are STAGED: the sequence point, then COMMIT to every rank. -/
def State.allStaged (s : State) (c : DceCmd) : State :=
  let go (s : State) : State :=
    let s := s.updDce c (fun x => { x with phase := .committing, deadline := s.mono + s.peerNs })
    c.peers.foldl (fun s p => s.toPeer c p ptCommit []) s
  if c.direct then go s
  else match s.commitOwner c.owner { m := .cab c.cab, unit := uTu, ctx := some c.ctx } with
    | (.ok _, s) => go s
    | (.bad st u, s) => (s.discardPeers c none).endDce c { status := st, unit := some u }

/-- A refusal ends the command; a ROUTE's ticket closes (R254). -/
def State.refused (s : State) (c : DceCmd) (rank : Option Nat) (status : Nat) : State :=
  let s := (s.bump (rDceCstat c.cab) 31 16).discardPeers c rank
  let s := if c.kind == .route then s.closeTicket c.cab c.ticket else s
  s.endDce c { status := status, unit := some uDce }

/-- A SETRSP of this KIND. -/
def setrsp (kind : Nat) (cab : Nat) (p : Packet) (s : State) : State :=
  match s.answeredBy cab p with
  | none => s.bump rDceGstat 63 48
  | some (c, none) => s.refused c none stDenied
  | some (c, some r) =>
    if kind = 1 then
      if c.phase == .staging && !c.staged.contains r then
        let c := { c with staged := r :: c.staged }
        let s := s.updDce c (fun _ => c)
        if c.staged.length = c.peers.length then s.allStaged c else s
      else s
    else if kind = 2 then
      if c.phase == .committing && !c.committed.contains r then
        let c := { c with committed := r :: c.committed }
        let s := s.updDce c (fun _ => c)
        if c.committed.length = c.peers.length then s.endDce c { status := stDone } else s
      else s
    else if kind = 3 then s.refused c (some r) p.status
    else s.killDce c 8

/-! ### COMBINE (R259 to R262) -/

def combineTicket (f : Flight) : Nat := leAt f.body 0 2
def combineFmt (f : Flight) : Nat := leAt f.body 2 1 / 16
def combineStats (f : Flight) : Bool := (leAt f.body 3 1).testBit 0
/-- OB and OS. -/
def combineOb (f : Flight) (t : Ticket) : Nat := rowBytes (combineFmt f) t.h
def combineOuts (s : State) (f : Flight) (t : Ticket) : List (Nat × Nat) :=
  ((s.obj (handleIdx (leAt f.body 4 4))).base + leAt f.body 8 8, t.rows * up64 (combineOb f t)) ::
  (if combineStats f then [((s.obj (handleIdx (leAt f.body 16 4))).base + leAt f.body 24 8, t.rows * 16)] else [])

/-- Check 9 of COMBINE. -/
def combineCheck (f : Flight) (s : State) : Option Ending :=
  match s.ticket f.cab (combineTicket f) with
  | none => some dceDenied
  | some t =>
    if t.ctx != f.ctx then some dceDenied
    else if codeMx (combineFmt f) && t.h % 32 != 0 then some dceFormat
    else if (s.obj (handleIdx (leAt f.body 4 4))).len < leAt f.body 8 8 + t.rows * up64 (combineOb f t) ∨
        (combineStats f = true ∧ (s.obj (handleIdx (leAt f.body 16 4))).len < leAt f.body 24 8 + t.rows * 16) then
      some { status := stBound, unit := some uDce }
    else if !s.runsDirect f && !s.shadowFits f.cab (combineOuts s f t) then some { status := stDenied, unit := some uTu }
    else none

def combineIssue (f : Flight) (s : State) : State :=
  match combineCheck f s with
  | some e => s.endFlight f.cab f.drawer f.seq e
  | none =>
    let num := combineTicket f
    match s.ticket f.cab num with
    | none => s
    | some t =>
    if t.aborted then (s.closeTicket f.cab num).endFlight f.cab f.drawer f.seq { status := stAbortedPeer, unit := some uDce }
    else
      let c : DceCmd :=
        { cab := f.cab, drawer := f.drawer, seq := f.seq, ctx := f.ctx, kind := .combine, direct := s.runsDirect f, ticket := num,
          outs := combineOuts s f t, phase := if s.runsDirect f || s.mayCommit then .gathering else .queued,
          deadline := s.mono + s.peerNs, start := s.mono }
      let s := s.startFlight f
      { s with dce := { s.dce with cmds := s.dce.cmds ++ [c] } }

def execCombineDesc (cab : CabId) (drawer : DrawerId) (seq : Seq) (s : State) : Host.Outcome State Fault Refusal :=
  .next (s.work uDce fun s => match s.issuedOp cab.val drawer.val seq.val 0x21 with
    | some f => combineIssue f s
    | none => s)

/-- The taken choices of a routing record: index j, expert, weight, in order of descending weight, ties to the lower
expert. -/
def takenChoices (k : Nat) (rcd : List Byte) : List (Nat × Nat × FV) :=
  let all := (List.range k).filterMap (fun j =>
    if (leAt rcd (10 + 8 * j) 1).testBit 0 then some (j, leAt rcd (8 + 8 * j) 2, fp32.decode (leAt rcd (12 + 8 * j) 4)) else none)
  all.foldr ins []
where
  ins (x : Nat × Nat × FV) : List (Nat × Nat × FV) → List (Nat × Nat × FV)
    | [] => [x]
    | y :: r => if y.2.2.lt x.2.2 || (!x.2.2.lt y.2.2 && decide (x.2.1 < y.2.1)) then x :: y :: r else y :: ins x r

/-- The weighted sum of one element (R260 steps 3 to 5). -/
def combineElem : List FV → FV
  | [] => .fin false Dy.zero
  | t :: r => r.foldl fp32.add t

/-- One output row before conversion. -/
def combineRow (h k : Nat) (rcd : List Byte) (returned : Nat → List FV) : List FV :=
  let terms := (takenChoices k rcd).map (fun c => (returned c.1).map (fun r => fp32.mul c.2.2 r))
  (List.range h).map (fun i => combineElem (terms.map (fun t => t.getD i .nan)))

/-! ### Row statistics (R286 to R289) -/

/-- One level of the pairwise tree. -/
def pairUp : List FV → List FV
  | a :: b :: r => fp32.add a b :: pairUp r
  | l => l

/-- The pairwise sum. -/
def pairSum : Nat → List FV → FV
  | 0, l => l.headD (.fin false Dy.zero)
  | k + 1, l => if l.length ≤ 1 then l.headD (.fin false Dy.zero) else pairSum k (pairUp l)

def treeSum (l : List FV) : FV := pairSum l.length l

/-- scale2. -/
def FV.scale2 (v : FV) (k : Int) : FV :=
  match v with
  | .fin n d => .fin n (d.scale k)
  | x => x

/-- round32(sum / n). -/
def meanOf (v : FV) (n : Nat) : FV := fp32.div v (.fin false (Dy.ofInt n))

/-- MEAN, VARIANCE, RMS of a finite row. -/
def rowStats (xs : List FV) : FV × FV × FV :=
  let zero : FV := .fin false Dy.zero
  let n := xs.length
  let x0 := xs.headD zero
  let d := xs.map (fun x => fp32.sub x x0)
  let md := meanOf (treeSum d) n
  let mean := fp32.add x0 md
  let e := d.map (fun x => fp32.sub x md)
  let big (l : List FV) : Dy := maxMag l
  let var : FV := if e.any (fun x => !x.isFin) then .inf false
    else if (big e).m = 0 then zero
    else
      let k := (big e).log2
      let q := e.map (fun x => let y := x.scale2 (-k); fp32.mul y y)
      fp32.round ((meanOf (treeSum q) n).scale2 (2 * k))
  let rms := if (big xs).m = 0 then zero
    else
      let k := (big xs).log2
      let q := xs.map (fun x => let y := x.scale2 (-k); fp32.mul y y)
      fp32.round ((fp32.sqrt (meanOf (treeSum q) n)).scale2 k)
  (mean, var, rms)

/-- MEAN of a finite row whose own steps give a NaN is not stated: no field is NaN (R289, log 23). -/
def meanBits (v : FV) (free : Word) : Nat :=
  if v.isNan then
    let w := free.toNat % 2 ^ 32
    if (fp32.decode w).isNan then w / 2 ^ 23 * 2 ^ 23 else w
  else fp32.encode v
/-- VARIANCE of a finite row reads Infinity where it exceeds the range (R289). -/
def varBits (v : FV) : Nat := if v.isNan then fp32.encode (.inf false) else fp32.encode v

/-- The 16-byte record of a row as written (R262). -/
def statRecord (xs : List FV) (free : Word) : List Byte :=
  if xs.any (fun x => !x.isFin) then toLe 4 fp32.nan ++ toLe 4 fp32.nan ++ toLe 4 fp32.nan ++ toLe 4 1
  else
    let r := rowStats xs
    toLe 4 (meanBits r.1 free) ++ toLe 4 (varBits r.2.1) ++ toLe 4 (fp32.encode r.2.2) ++ toLe 4 0

/-- The output rows of a COMBINE from the routing records and the return area: rows as written, and statistics. -/
def combineRows (f : Flight) (t : Ticket) (free : Word) (recs area : List Byte) : List Byte × List Byte :=
  let rs := up64 (rowBytes t.rfmt t.h)
  let rl := 8 + 8 * t.k
  let ob := combineOb f t
  let rows := (List.range t.rows).map (fun i =>
    let acc := combineRow t.h t.k ((recs.drop (i * rl)).take rl) (fun j =>
      readRow t.rfmt t.h ((area.drop ((i * t.k + j) * rs)).take rs))
    writeRow (combineFmt f) ((leAt f.body 3 1).testBit 1) acc)
  (rows.flatMap (fun b => b ++ List.replicate (up64 ob - ob) 0),
   rows.flatMap (fun b => statRecord (readRow (combineFmt f) t.h b) free))

/-- Write the rows of a stride, `n` bytes of each. -/
def writeRows (c : DceCmd) (stride n : Nat) : Nat → Nat → List Byte → State → VaRes × State
  | 0, _, _, s => (.ok, s)
  | k + 1, va, bs, s =>
    match s.dceWrite c va (bs.take n) with
    | (.ok, s) => writeRows c stride n k (va + stride) (bs.drop stride) s
    | r => r

/-- COMBINE computes, writes and commits once every return set has committed. -/
def combineGo (cab drawer seq : Nat) (s : State) : State :=
  match s.dceCmd cab drawer seq, s.flight cab drawer seq with
  | some c, some f =>
    match c.kind, c.phase, s.ticket cab c.ticket with
    | .combine, .queued, some _ =>
      if s.dceHeld c || !s.dceMayStart c then s
      else s.updDce c (fun x => { x with phase := .gathering, deadline := s.mono + s.peerNs, start := s.mono })
    | .combine, .gathering, some t =>
      if s.dceHeld c || t.returned.length != t.ranks.length then s
      else match s.vaRead c.asker t.routVa (t.rows * (8 + 8 * t.k)) with
        | (.wait, s) => s
        | (.bad st u, s) => s.endDce c { status := st, unit := some u }
        | (.ok recs, s) =>
          match s.vaRead c.asker t.retVa (t.rows * t.k * up64 (rowBytes t.rfmt t.h)) with
          | (.wait, s) => s
          | (.bad st u, s) => s.endDce c { status := st, unit := some u }
          | (.ok area, s) =>
            let fr := s.freeWord
            let s := fr.2
            let out := combineRows f t fr.1 recs area
            let ob := combineOb f t
            let taken := (((List.range t.rows).map (fun i => leAt recs (i * (8 + 8 * t.k) + 2) 2)).sum) * rowBytes t.rfmt t.h
            let s := s.carryRows c.cab t.rows taken (t.rows * ob)
            match writeRows c (up64 ob) ob t.rows ((s.obj (handleIdx (leAt f.body 4 4))).base + leAt f.body 8 8) out.1 s with
            | (.ok, s) =>
              let w := if combineStats f then
                  s.dceWrite c ((s.obj (handleIdx (leAt f.body 16 4))).base + leAt f.body 24 8) out.2
                else (.ok, s)
              match w with
              | (.ok, s) =>
                if c.direct then s.endDce c { status := stDone }
                else match s.commitOwner c.owner { m := .cab c.cab, unit := uTu, ctx := some c.ctx } with
                  | (.ok _, s) => s.endDce c { status := stDone }
                  | (.bad st u, s) => s.endDce c { status := st, unit := some u }
              | (r, s) => s.dceMeets c r
            | (r, s) => s.dceMeets c r
    | _, _, _ => s
  | _, _ => s

def execCombineCompute (cab : CabId) (drawer : DrawerId) (seq : Seq) (s : State) : Host.Outcome State Fault Refusal :=
  .next (s.work uDce (combineGo cab.val drawer.val seq.val))

/-! ### Peer timeout (R263) -/

def peerTimeout (cab drawer seq : Nat) (s : State) : State :=
  match s.dceCmd cab drawer seq with
  | some c =>
    let back := match s.ticket cab c.ticket with | some t => t.returned.length == t.ranks.length | none => false
    if c.phase != .queued && decide (c.deadline ≤ s.mono) && !(c.kind == .combine && back) then
      (if c.kind == .combine then s else s.discardPeers c none).endDce c { status := stTimeout, unit := some uDce }
    else s
  | none => s

def execDcePeerTimeout (cab : CabId) (drawer : DrawerId) (seq : Seq) (s : State) : Host.Outcome State Fault Refusal :=
  .next (s.work uDce (peerTimeout cab.val drawer.val seq.val))

end Sys2Proof.Machine
end

