-- ==== Sys2Proof/Machine/Movement.lean ====
section
/-! DEFINITION. The Movement Engine (chapter 07): channels, MOVE and PREFETCH, segments, direct transfers. -/
namespace Sys2Proof.Machine

/-! ### Channels (R216 to R220) -/

def State.chan (s : State) (i : Nat) : Chan := mapGet {} i s.me.chans
def State.setChan (s : State) (i : Nat) (c : Chan) : State :=
  { s with me := { s.me with chans := mapSet {} i c s.me.chans } }

def chanHandle (gen i : Nat) : Nat := gen * 2 ^ 20 + i

/-- Channels in FREE. -/
def State.chansFree (s : State) : Nat := 1024 - (s.me.chans.filter (fun e => e.2.st != .free)).length
/-- The lowest FREE index. -/
def State.freeChan (s : State) : Option Nat := (List.range 1024).find? (fun i => (s.chan i).st == .free)

/-- The named channel of a context that a handle names, until it is FREE. -/
def State.namedChan (s : State) (cab ctx h : Nat) : Option Nat :=
  let i := h % 2 ^ 20
  let c := s.chan i
  if i < 1024 && c.st != .free && !c.anon && c.gen == h / 2 ^ 20 && c.cab == cab && c.ctx == ctx then some i
  else none

/-- The live named channel a handle names for a context: no destroy of it has been issued (R219). -/
def State.liveChan (s : State) (cab ctx h : Nat) : Option Nat := (s.namedChan cab ctx h).filter (fun i => !(s.chan i).dying)

/-- A channel leaves FREE: its owner is set and its registers are 0 (R220, R227). -/
def State.takeChan (s : State) (i cab ctx : Nat) (anon : Bool) : State :=
  s.setChan i { st := .idle, gen := (s.chan i).gen, anon := anon, cab := cab, ctx := ctx }

/-- A channel returns to FREE: its generation rises, its registers keep their values, its requests are forgotten. -/
def State.releaseChan (s : State) (i : Nat) : State :=
  let c := s.chan i
  { s.setChan i { c with st := .free, dying := false, quiet := false, gen := if c.gen = 4095 then 1 else c.gen + 1,
                         staged := [], wrote := [], queue := [], destroys := [], direct := false, suspect := false }
    with tu := { s.tu with reqs := s.tu.reqs.filter (fun r => match r.src with | .me _ => r.tag != i | _ => true) } }

/-- Stalled requests of a channel are detached, and their engines freed; a segment so left is not read (R228, R133). -/
def State.dropChanReqs (s : State) (i : Nat) (reads : Bool := false) : State :=
  { s with
    tu := { s.tu with reqs := s.tu.reqs.filter (fun r => match r.src with
      | .me e => !(r.tag == i && (!reads || decide (e < 64))) | _ => true) },
    me := { s.me with jobs := s.me.jobs.filter (fun j => !(j.2.1 == i && (!reads || decide (j.1 < 64)))) } }

/-! ### What an engine carries (R212) -/

/-- The channel and the segment that an engine carries. -/
def State.jobOf (s : State) (e : Nat) : Option (Nat × Nat) := (s.me.jobs.find? (fun j => j.1 == e)).map (·.2)
def State.dropJob (s : State) (e : Nat) : State := { s with me := { s.me with jobs := s.me.jobs.filter (fun j => j.1 != e) } }
/-- The engine waits with a segment. -/
def State.setJob (s : State) (e i k : Nat) : State :=
  { s with me := { s.me with jobs := (e, i, k) :: s.me.jobs.filter (fun j => j.1 != e) } }
/-- Engines of one kind, read or write, on a segment of the channel. -/
def State.carried (s : State) (write : Bool) (i k : Nat) : Bool :=
  s.me.jobs.any (fun j => (decide (64 ≤ j.1) == write) && j.2.1 == i && j.2.2 == k)
/-- The next segment to read: the lowest one neither read, nor written, nor on a read engine. -/
def State.nextSeg (s : State) (i : Nat) : Nat :=
  let c := s.chan i
  let n := c.staged.length + c.wrote.length + s.me.jobs.length
  ((List.range (n + 1)).find? (fun k => !c.staged.any (fun g => g.k == k) && !c.wrote.contains k && !s.carried false i k)).getD n

/-! ### Segments (R212) -/

/-- A byte copy. -/
def Chan.copies (c : Chan) : Bool := c.sfmt == c.dfmt
/-- Source bytes of a whole segment. -/
def Chan.segSrc (c : Chan) : Nat := if c.copies then 4096 else groupBytes c.sfmt 1024
/-- Destination bytes of a whole segment. -/
def Chan.segDst (c : Chan) : Nat := if c.copies then 4096 else groupBytes c.dfmt 1024
/-- Segments from the base. -/
def Chan.segs (c : Chan) : Nat := (c.count + c.segSrc - 1) / c.segSrc
/-- Source bytes of segment `k`. -/
def Chan.segLen (c : Chan) (k : Nat) : Nat := min c.segSrc (c.count - k * c.segSrc)
/-- The lowest segment not yet written. -/
def Chan.low (c : Chan) : Nat := ((List.range (c.wrote.length + 1)).find? (fun k => !c.wrote.contains k)).getD 0
/-- Every segment is written. -/
def Chan.finished (c : Chan) : Bool := decide (c.segs ≤ c.low)
/-- CH_SRC, CH_DST and CH_COUNT now: they name the lowest segment not yet written. -/
def Chan.srcNow (c : Chan) : Nat := c.src + min (c.low * c.segSrc) c.count
def Chan.dstNow (c : Chan) : Nat :=
  if c.finished then c.dst + (if c.copies then c.count else (codeDest c.dfmt ((codeElems c.sfmt c.count).getD 0)).getD 0)
  else c.dst + c.low * c.segDst
def Chan.countNow (c : Chan) : Nat := c.count - c.low * c.segSrc
/-- Make the registers exact: the next read starts at the lowest segment not written (R228). -/
def Chan.rebase (c : Chan) : Chan :=
  { c with src := c.srcNow, dst := c.dstNow, count := c.countNow, staged := [], wrote := [] }

/-- The element counts of R223 hold for a source length: a byte copy, or a conversion's E and D exist. -/
def moveCounts (sfmt dfmt n : Nat) : Option Nat :=
  if sfmt = dfmt then some n
  else match codeElems sfmt n with
    | some e => codeDest dfmt e
    | none => none

/-! ### Starting and ending a transfer -/

/-- A MOVE that names a channel joins its queue when it is validated (R219, R221). -/
def State.queueMove (s : State) (f : Flight) : State :=
  let h := leAt f.body 24 4
  if f.op = 0x10 && f.gen != 1 && f.stage == .validated && f.count != 0 && h != 0 then
    match s.liveChan f.cab f.ctx h with
    | some i => s.setChan i { s.chan i with queue := (s.chan i).queue ++ [(f.drawer, f.seq)] }
    | none => s
  else s

/-- Load a transfer: it runs, or waits for PAUSE to be cleared. -/
def Chan.load (c : Chan) (src dst count sfmt dfmt : Nat) (sat : Bool) : Chan :=
  { c with src := src, dst := dst, count := count, sfmt := sfmt, dfmt := dfmt, sat := sat, staged := [], wrote := [],
           short := false, st := if c.pause && !c.dying then .pausedReady else .run }

/-- The transfer of a MOVE (opcode 0x10) or PREFETCH (0x11) descriptor starts on a channel. -/
def State.loadMove (s : State) (i : Nat) (f : Flight) : State :=
  let c := s.chan i
  let b := f.body
  let base (o : Nat) := (s.obj (handleIdx (leAt b o 4))).base
  let dst := base 0 + if f.gen = 1 then leAt b 8 4 else leAt b 8 8
  let src := base 4 + if f.gen = 1 then leAt b 12 4 else leAt b 16 8
  let fmt := if f.gen = 1 ∨ f.op = 0x11 then 0 else leAt b 28 1
  let sat := f.op == 0x10 && f.gen != 1 && (leAt b 29 1).testBit 0
  let c := c.load src dst f.count (fmt % 16) (fmt / 16) sat
  let opts := if f.op = 0x11 then leAt b 24 1 else 0
  (s.setChan i { c with cur := some (f.drawer, f.seq), phys := false, pre := f.op == 0x11, noFault := opts.testBit 0,
                        drop := opts.testBit 1, mapped := false }).updFlight f.cab f.drawer f.seq
    (fun g => { g with stage := .running })

/-- End the transfer of a channel: the MOVE's descriptor, or STATUS and DONE of a direct transfer (R224, R225, R229). -/
def State.endTransfer (s : State) (i : Nat) (e : Ending) : State :=
  let c := s.chan i
  let s := s.dropChanReqs i
  let s := match c.cur with
    | some (d, q) => s.endFlight c.cab d q e
    | none => s
  let c := { c.rebase with cur := none, st := .idle, status := e.status, done := c.done || c.direct, direct := false,
                           quiet := false, suspect := false }
  if c.anon then (s.setChan i c).releaseChan i else s.setChan i c

/-- Cancel the running transfer and every MOVE queued (R219 ABORT, R226): each ends with this status and unit. -/
def State.abortChan (s : State) (i : Nat) (e : Ending) : State :=
  let c := s.chan i
  let s := c.queue.foldl (fun s q => s.endFlight c.cab q.1 q.2 e) s
  let s := s.setChan i { c with queue := [] }
  if c.st == .idle || c.st == .free then s else s.endTransfer i e

/-- ABANDONED of R219. -/
def abandoned : Ending := { status := stAbandoned, unit := some uDrawer }

/-! ### MOVE, PREFETCH -/

/-- A transfer on an anonymous channel, or its wait for one, counted once (R217). -/
def State.anonMove (s : State) (f : Flight) : State :=
  let key := (f.cab, f.drawer, f.seq)
  match s.freeChan with
  | some i =>
    let s := { s with me := { s.me with waits := s.me.waits.filter (fun w => w != key) } }
    (s.takeChan i f.cab f.ctx true).loadMove i f
  | none =>
    if s.me.waits.contains key then s
    else ({ s with me := { s.me with waits := s.me.waits ++ [key] } }).bump (rMeCstat f.cab) 63 48 |>.bump rMeGstat 47 32

/-- A MOVE is issued: at once done with COUNT 0, on its way in its named channel's queue, or on an anonymous channel (R217,
R221, R223). -/
def moveIssue (f : Flight) (s : State) : State :=
  if f.count = 0 then s.endFlight f.cab f.drawer f.seq { status := stDone }
  else
    let h := if f.gen = 1 then 0 else leAt f.body 24 4
    if h = 0 then s.anonMove f else s.startFlight f

def execMoveDesc (cab : CabId) (drawer : DrawerId) (seq : Seq) (s : State) : Host.Outcome State Fault Refusal :=
  .next (s.work uDrawer fun s => match s.issuedOp cab.val drawer.val seq.val 0x10 with
    | some f => moveIssue f s
    | none => s)

/-- A PREFETCH takes an anonymous channel (R149). -/
def execPrefetchDesc (cab : CabId) (drawer : DrawerId) (seq : Seq) (s : State) : Host.Outcome State Fault Refusal :=
  .next (s.work uDrawer fun s => match s.issuedOp cab.val drawer.val seq.val 0x11 with
    | some f => if f.count = 0 then s.endFlight f.cab f.drawer f.seq { status := stDone } else s.anonMove f
    | none => s)

/-- A MOVE begins: the head of its channel's queue once the channel is idle, or one that waited for an anonymous channel. -/
def moveStart (cab drawer seq : Nat) (s : State) : State :=
  match s.flight cab drawer seq with
  | some f =>
    if s.me.waits.contains (cab, drawer, seq) then s.anonMove f
    else match s.me.chans.find? (fun e => e.2.cab == cab && e.2.queue.head? == some (drawer, seq)) with
      | some (i, c) =>
        if c.st == .idle && f.stage == .running then (s.setChan i { c with queue := c.queue.tail }).loadMove i f else s
      | none => s
  | none => s

def execMoveStart (cab : CabId) (drawer : DrawerId) (seq : Seq) (s : State) : Host.Outcome State Fault Refusal :=
  .next (s.work uDrawer (moveStart cab.val drawer.val seq.val))

/-! ### Segments -/

/-- Staging slots in use by a channel: segments staged, and those that read engines carry. -/
def State.chanSlots (s : State) (i : Nat) : Nat :=
  (s.chan i).staged.length + (s.me.jobs.filter (fun j => decide (j.1 < 64) && j.2.1 == i)).length
/-- Staging slots in use by a cabinet. -/
def State.slotsOf (s : State) (cab : Nat) : Nat :=
  ((s.me.chans.filter (fun e => e.2.cab == cab)).map (fun e => s.chanSlots e.1)).sum
/-- Staging slots in use. -/
def State.slotsUsed (s : State) : Nat := (s.me.chans.map (fun e => s.chanSlots e.1)).sum
/-- The channel has a segment to read. -/
def State.readWaits (s : State) (i : Nat) : Bool :=
  let c := s.chan i
  c.st == .run && !c.suspect && decide (s.nextSeg i < c.segs)
/-- The channel has a staged segment that no engine writes; a PREFETCH writes in ascending order. -/
def State.writeWaits (s : State) (i : Nat) : Bool :=
  let c := s.chan i
  (c.st == .run || c.st == .draining) && !c.suspect && c.staged.any (fun g => !s.carried true i g.k && (!c.pre || g.k == c.low))
/-- The slots a cabinet is guaranteed (R213). -/
def State.slotGuar (s : State) (cab : Nat) : Nat := 8192 * (s.cab cab).memFloor / 1024
/-- A segment of the cabinet is granted a slot: from its guarantee, or from those that the guarantee of no other cabinet with
segments waiting claims. -/
def State.slotFor (s : State) (cab : Nat) : Bool :=
  let waits := ((s.me.chans.filter (fun e => e.2.cab != cab && s.readWaits e.1)).map (fun e => e.2.cab)).eraseDups
  let claimed := (waits.map (fun n => s.slotGuar n - s.slotsOf n)).sum
  decide (s.slotsUsed < 8192) && (decide (s.slotsOf cab < s.slotGuar cab) || decide (s.slotsUsed + claimed < 8192))

/-! ### Grants of engines (R213) -/

/-- The engines of each kind a cabinet is guaranteed. -/
def State.engGuar (s : State) (cab : Nat) : Nat := 64 * (s.cab cab).memFloor / 1024
/-- The channel waits for an engine of a kind. -/
def State.segWaits (s : State) (write : Bool) (i : Nat) : Bool :=
  if write then s.writeWaits i else s.readWaits i && s.slotFor (s.chan i).cab
/-- The channels that wait for an engine of a kind. -/
def State.waiting (s : State) (write : Bool) : List Nat := (s.me.chans.filter (fun e => s.segWaits write e.1)).map (·.1)
/-- Engines of a kind on a cabinet's segments. -/
def State.engOf (s : State) (write : Bool) (cab : Nat) : Nat :=
  (s.me.jobs.filter (fun j => (decide (64 ≤ j.1) == write) && (s.chan j.2.1).cab == cab)).length

/-- Of numbers below `n`, whether `x` is the first from the turn on. -/
def firstFrom (n turn x : Nat) (l : List Nat) : Bool := l.all (fun y => decide ((x + n - turn) % n ≤ (y + n - turn) % n))

/-- An engine of a kind is granted to a segment of the channel: round-robin over the cabinet's channels; to the cabinet from
its guarantee, or, of the engines that no guarantee claims, round-robin over the cabinets. -/
def State.grants (s : State) (write : Bool) (i : Nat) : Bool :=
  let cab := (s.chan i).cab
  let all := s.waiting write
  let cabs := (all.map (fun j => (s.chan j).cab)).eraseDups
  let free := 64 - (s.me.jobs.filter (fun j => decide (64 ≤ j.1) == write)).length
  let claimed := ((cabs.filter (fun n => n != cab)).map (fun n => s.engGuar n - s.engOf write n)).sum
  firstFrom 1024 (mapGet 0 (2 * cab + bit write) s.me.turnChan) i (all.filter (fun j => (s.chan j).cab == cab)) &&
  (decide (s.engOf write cab < s.engGuar cab) ||
    (decide (claimed < free) && firstFrom 256 (mapGet 0 (bit write) s.me.turnCab) cab
      (cabs.filter (fun n => decide (s.engGuar n ≤ s.engOf write n)))))

/-- The channel, and its cabinet unless its guarantee served it, have had their turn. -/
def State.granted (s : State) (write : Bool) (i : Nat) : State :=
  let cab := (s.chan i).cab
  { s with me := { s.me with
      turnChan := mapSet 0 (2 * cab + bit write) ((i + 1) % 1024) s.me.turnChan,
      turnCab := if s.engOf write cab < s.engGuar cab then s.me.turnCab
        else mapSet 0 (bit write) ((cab + 1) % 256) s.me.turnCab } }

def Chan.asker (c : Chan) (i e : Nat) : Asker :=
  { src := .me e, unit := uEngine e, cab := c.cab, ctx := c.ctx, tag := i, service := !c.noFault }

/-- Read source bytes: virtual, or device physical for PHYS (R229). -/
def State.chanRead (s : State) (c : Chan) (i e a n : Nat) : Acc (List Byte) × State :=
  if c.phys then match s.devRead { m := .cab c.cab, unit := uEngine e, ctx := some c.ctx } a n with
    | (.ok bs, s) => (.ok bs, s)
    | (.bad st u, s) => (.bad st u, s)
  else s.vaRead (c.asker i e) a n

def State.chanWrite (s : State) (c : Chan) (i e a : Nat) (bs : List Byte) : Acc Unit × State :=
  if c.phys then match s.devWrite { m := .cab c.cab, unit := uEngine e, ctx := some c.ctx } a bs with
    | (.ok _, s) => (.ok (), s)
    | (.bad st u, s) => (.bad st u, s)
  else s.vaWrite (c.asker i e) a bs

/-- The unit a MOVE's record names is the engine that met the failure (R225). -/
def State.moveFails (s : State) (i e st : Nat) : State :=
  (s.tally (uEngine e) 7 (some (s.chan i).cab)).endTransfer i { status := st, unit := some (uEngine e) }

/-- The first pass of a PREFETCH: every page of both ranges (R149). -/
def State.prefetchMap (s : State) (c : Chan) (i e : Nat) : Acc Unit × State :=
  match s.xlateAll (c.asker i e) c.src c.count false with
  | (.ok _, s) => s.xlateAll (c.asker i e) c.dst c.count true
  | r => r

/-- A segment that an engine's reset abandoned has been carried by another engine (R238). -/
def State.unavoid (s : State) (i : Nat) : State := { s with me := { s.me with avoid := s.me.avoid.filter (fun a => a.1 != i) } }

/-- Read and convert segment `k` into a slot; an engine that must wait keeps it. -/
def State.stage (s : State) (i e k : Nat) : State :=
  let c := s.chan i
  match s.chanRead c i e (c.src + k * c.segSrc) (c.segLen k) with
  | (.wait, s) => s.setJob e i k
  | (.bad st _, s) => s.moveFails i e st
  | (.ok bs, s) =>
    let r := if c.copies then (bs, 0, 0) else convertGroup c.sfmt c.dfmt ((codeElems c.sfmt (c.segLen k)).getD 0) c.sat bs
    let s := (s.bump (rMeCstat c.cab) 31 16 r.2.1).bump (rMeCstat c.cab) 15 0 r.2.2
    let c := s.chan i
    (((s.dropJob e).setChan i { c with short := false, staged := c.staged ++ [{ k := k, bs := r.1 }] }).carry (uEngine e)
      (some c.cab) bs.length).unavoid i

/-- A read engine goes on with segment `k`; a PREFETCH first translates both its ranges. -/
def State.readSeg (s : State) (i e k : Nat) : State :=
  let c := s.chan i
  if c.pre && !c.mapped then
    match s.prefetchMap c i e with
    | (.wait, s) => s.setJob e i k
    | (.bad st _, s) => s.moveFails i e st
    | (.ok _, s) => (s.setChan i { s.chan i with mapped := true }).stage i e k
  else s.stage i e k

/-- A read engine reads the channel's next segment into a staging slot, once granted; one that waited goes on with its own
segment (R212, R213). -/
def segmentRead (e i : Nat) (s : State) : State :=
  let c := s.chan i
  match s.jobOf e with
  | some (j, k) => if j == i && c.st == .run && !c.suspect then s.readSeg i e k else s
  | none =>
    if !s.readWaits i || s.me.avoid.contains (i, e) then s
    else if !s.slotFor c.cab then (if c.short then s else (s.setChan i { c with short := true }).bump rMeGstat 63 48)
    else if !s.grants false i then s
    else (s.granted false i).readSeg i e (s.nextSeg i)

def execSegmentRead (engine : EngineId) (chan : ChanId) (s : State) : Host.Outcome State Fault Refusal :=
  .next (if engine.val < 64 then s.work (uEngine engine.val) (segmentRead engine.val chan.val) else s)

/-- A write engine writes a staged segment to its destination; one that must wait keeps it. -/
def State.writeSeg (s : State) (i e : Nat) (g : Seg) : State :=
  let c := s.chan i
  match s.chanWrite c i e (c.dst + g.k * c.segDst) g.bs with
  | (.wait, s) => s.setJob e i g.k
  | (.bad st _, s) => s.moveFails i e st
  | (.ok _, s) =>
    let c := s.chan i
    let c := { c with staged := c.staged.filter (fun x => x.k != g.k), wrote := g.k :: c.wrote,
                      bytes := min (c.bytes + g.bs.length) (2 ^ 64 - 1) }
    (((s.dropJob e).setChan i c).carry (uEngine e) (some c.cab) g.bs.length).unavoid i

/-- A write engine writes one staged segment, once granted; a PREFETCH's in ascending order (R149, R212, R213). -/
def segmentWrite (e i k : Nat) (s : State) : State :=
  let c := s.chan i
  let runs := (c.st == .run || c.st == .draining) && !c.suspect
  match c.staged.find? (fun g => g.k == k), s.jobOf e with
  | some g, some (j, k') => if j == i && k' == k && runs then s.writeSeg i e g else s
  | some g, none =>
    if !runs || s.carried true i k || s.me.avoid.contains (i, e) || (c.pre && k != c.low) || !s.grants true i then s
    else (s.granted true i).writeSeg i e g
  | none, _ => s

def execSegmentWrite (engine : EngineId) (chan : ChanId) (seg : Nat) (s : State) : Host.Outcome State Fault Refusal :=
  .next (if 64 ≤ engine.val then s.work (uEngine engine.val) (segmentWrite engine.val chan.val seg) else s)

/-- Every destination byte is visible: the MOVE completes, in RUN (R220, R224). -/
def moveComplete (i : Nat) (pre : Bool) (s : State) : State :=
  let c := s.chan i
  if c.cur.isSome && c.pre == pre && c.finished && c.st == .run then
    let s := if c.pre && c.drop then s.dropLook c.cab c.ctx c.src (c.src + c.count) else s
    s.endTransfer i { status := stDone }
  else s

def execMoveComplete (chan : ChanId) (s : State) : Host.Outcome State Fault Refusal :=
  .next (s.work uDrawer (moveComplete chan.val false))
def execPrefetchComplete (chan : ChanId) (s : State) : Host.Outcome State Fault Refusal :=
  .next (s.work uDrawer (moveComplete chan.val true))

/-! ### CHANNEL_CREATE, CHANNEL_DESTROY -/

/-- CHANNEL_CREATE (R218). -/
def channelCreate (f : Flight) (s : State) : State :=
  let named := (s.me.chans.filter (fun e => e.2.st != .free && !e.2.anon && e.2.cab == f.cab)).length
  if s.rfld (rMeClim f.cab) 10 0 ≤ named ∨ s.chansFree ≤ 64 then
    (s.bump (rMeCstat f.cab) 47 32).endFlight f.cab f.drawer f.seq { status := stDenied, unit := some uDrawer }
  else match s.freeChan with
    | none => s
    | some i =>
      let old := s.chan i
      let s := s.takeChan i f.cab f.ctx false
      let va := (s.obj (handleIdx (leAt f.body 0 4))).base + leAt f.body 8 8
      let a : Asker := { src := .drw false, unit := uDrawer, cab := f.cab, ctx := f.ctx, tag := drwKey f.cab f.drawer + 1 }
      match s.vaWrite a va (toLe 8 (chanHandle (s.chan i).gen i)) with
      | (.wait, t) => { t with me := { t.me with chans := mapSet {} i old t.me.chans } }
      | (.bad st u, s) => (s.releaseChan i).endFlight f.cab f.drawer f.seq { status := st, unit := some u }
      | (.ok _, s) => s.endFlight f.cab f.drawer f.seq { status := stDone }

def execChannelCreate (cab : CabId) (drawer : DrawerId) (seq : Seq) (s : State) : Host.Outcome State Fault Refusal :=
  .next (s.work uDrawer fun s => match s.issuedOp cab.val drawer.val seq.val 0x60 with
    | some f => channelCreate f s
    | none => s)

/-- CHANNEL_DESTROY (R219). One that was validated before another was issued completes with it. -/
def channelDestroy (f : Flight) (s : State) : State :=
  match s.namedChan f.cab f.ctx (leAt f.body 0 4) with
  | none => s.endFlight f.cab f.drawer f.seq { status := stDone }
  | some i =>
    let c := s.chan i
    let s := s.startFlight f
    let ds := c.destroys ++ [(f.drawer, f.seq)]
    if (leAt f.body 4 1).testBit 0 then
      (s.setChan i { c with dying := true, destroys := ds }).abortChan i abandoned
    else
      s.setChan i { c with dying := true, destroys := ds, pause := false,
                           st := if (c.st == .draining || c.st == .paused || c.st == .pausedReady) && !c.quiet then .run else c.st }

def execChannelDestroy (cab : CabId) (drawer : DrawerId) (seq : Seq) (s : State) : Host.Outcome State Fault Refusal :=
  .next (s.work uDrawer fun s => match s.issuedOp cab.val drawer.val seq.val 0x61 with
    | some f => channelDestroy f s
    | none => s)

/-- A DYING channel with nothing in progress becomes FREE; a waiting destroy completes (R219, R220). -/
def channelFree (i : Nat) (s : State) : State :=
  let c := s.chan i
  if c.dying && c.st == .idle && c.queue.isEmpty then
    c.destroys.foldl (fun s d => s.endFlight c.cab d.1 d.2 { status := stDone }) (s.releaseChan i)
  else s

def execChannelFree (chan : ChanId) (s : State) : Host.Outcome State Fault Refusal :=
  .next (s.work uDrawer (channelFree chan.val))

/-! ### Channel registers (R227 to R229) -/

/-- PAUSE 1: no more reads; the channel drains (R228). In DYING the bit is written and nothing stops (R220). -/
def Chan.pauses (c : Chan) : Chan := { c with pause := true, st := if c.st == .run && !c.dying then .draining else c.st }

def State.pauseChan (s : State) (i : Nat) : State :=
  let c := s.chan i
  if c.st == .free then s
  else if c.dying then s.setChan i c.pauses
  else (s.setChan i c.pauses).dropChanReqs i true

/-- PAUSE 0: a drained transfer resumes where its registers point, a loaded one begins (R220). -/
def State.unpauseChan (s : State) (i : Nat) : State :=
  let c := s.chan i
  if c.st == .free then s
  else
    let held := c.st == .draining || c.st == .paused || c.st == .pausedReady
    s.setChan i { c with pause := false, st := if held && !c.quiet then .run else c.st }

/-- START: a direct transfer on an idle named channel whose queue is empty (R229). -/
def State.startDirect (s : State) (i : Nat) : State :=
  let c := s.chan i
  if c.st != .idle || c.anon || c.dying || !c.queue.isEmpty then s
  else if c.count = 0 then s.setChan i { c with status := stDone, done := true }
  else if 11 ≤ c.sfmt || 11 ≤ c.dfmt || (moveCounts c.sfmt c.dfmt c.count).isNone
      || (c.phys && (decide (2 ^ 44 ≤ c.src) || decide (2 ^ 44 ≤ c.dst))) then
    s.setChan i { c with status := stFormat, done := true }
  else s.setChan i { (c.load c.src c.dst c.count c.sfmt c.dfmt c.sat) with direct := true, pre := false, noFault := false }

/-- A write of CH_CTRL(i). -/
def State.writeChCtrl (s : State) (i : Nat) (v : Word) : State :=
  let c := s.chan i
  if c.st == .free then s
  else
    let c := if c.st == .idle && !c.dying then { c with dfmt := fld v 23 20, sfmt := fld v 19 16, sat := fld v 8 8 == 1, phys := fld v 4 4 == 1 }
      else c
    let c := if fld v 5 5 = 1 then { c with done := false } else c
    let s := s.setChan i c
    let s := if fld v 1 1 = 1 then s.pauseChan i else s.unpauseChan i
    if fld v 0 0 = 1 then s.startDirect i else s

/-- A write of CH_SRC, CH_DST or CH_COUNT takes effect only in IDLE (R227). -/
def State.writeChAddr (s : State) (i off : Nat) (v : Word) : State :=
  let c := s.chan i
  if c.st != .idle || c.dying then s
  else if off = 0 then s.setChan i { c with src := fld v 56 0 }
  else if off = 8 then s.setChan i { c with dst := fld v 56 0 }
  else s.setChan i { c with count := fld v 47 0 }

/-- The platform writes CH_CTRL with PAUSE 1. -/
def execChPause (func : Func) (chan : ChanId) (value : Word) (s : State) : Host.Outcome State Fault Refusal :=
  .next (s.platform func.val (0x600018 + chan.val * 0x100) (some (setFld value 1 1 1)) fun s => s.writeChCtrl chan.val (setFld value 1 1 1))
/-- The platform writes CH_CTRL with PAUSE 0. -/
def execChUnpause (func : Func) (chan : ChanId) (value : Word) (s : State) : Host.Outcome State Fault Refusal :=
  .next (s.platform func.val (0x600018 + chan.val * 0x100) (some (setFld value 1 1 0)) fun s => s.writeChCtrl chan.val (setFld value 1 1 0))
/-- The platform writes CH_CTRL with START 1. -/
def execChStart (func : Func) (chan : ChanId) (value : Word) (s : State) : Host.Outcome State Fault Refusal :=
  .next (s.platform func.val (0x600018 + chan.val * 0x100) (some (setFld value 0 0 1)) fun s => s.writeChCtrl chan.val (setFld value 0 0 1))

/-- Every staged segment has been written: the registers are exact and the channel is PAUSED (R228). -/
def channelDrained (i : Nat) (s : State) : State :=
  let c := s.chan i
  if c.st == .draining && c.staged.isEmpty then
    (s.setChan i { c.rebase with st := .paused }).bump rMeGstat 31 16
  else s

def execChannelDrained (chan : ChanId) (s : State) : Host.Outcome State Fault Refusal :=
  .next (s.work uDrawer (channelDrained chan.val))

/-- A direct transfer ends (R229). -/
def directEnd (i : Nat) (s : State) : State :=
  let c := s.chan i
  if c.direct && c.finished && c.st == .run then s.endTransfer i { status := stDone } else s

def execDirectTransferEnd (chan : ChanId) (s : State) : Host.Outcome State Fault Refusal :=
  .next (s.work uDrawer (directEnd chan.val))

end Sys2Proof.Machine
end

