-- ==== Sys2Proof/Machine/Sched.lean ====
section
/-! DEFINITION. The Tile Scheduler (chapter 06): tile commands, placement, priority pre-emption and state swap. -/
namespace Sys2Proof.Machine

/-! ### Tile commands (R182 to R186) -/

/-- The output ranges of a KERNEL or LAYER_STEP: handle, offset and count in 64 B units (R182, R183). -/
def outRanges (nout : Nat) (body : List Byte) (exts : List (List Byte)) : List (Nat × Nat × Nat) :=
  let raw := (body.drop 16).take 24 ++ exts.flatMap (fun e => (e.drop 8).take 48)
  (List.range nout).map (fun i => (leAt raw (12 * i) 4, leAt raw (12 * i + 4) 4, leAt raw (12 * i + 8) 4))

/-- Virtual ranges of declared outputs. -/
def State.outVas (s : State) (rs : List (Nat × Nat × Nat)) : List (Nat × Nat) :=
  rs.map (fun r => ((s.obj (handleIdx r.1)).base + 64 * r.2.1, 64 * r.2.2))

/-- The base of a handle's object, 0 for no handle. -/
def State.baseOr0 (s : State) (h : Nat) : Nat := if h = 0 then 0 else (s.obj (handleIdx h)).base

/-- A command becomes known to the scheduler. -/
def State.addCmd (s : State) (c : Cmd) : State :=
  let n := mapGet 0 c.cab s.ts.ids
  let s := { s with ts := { s.ts with ids := mapSet 0 c.cab (n + 1) s.ts.ids, cmds := s.ts.cmds ++ [{ c with n := n }] } }
  s.noteActivity c.cab c.ctx

/-- The command of a KERNEL (opcode 1) or LAYER_STEP (2) descriptor. -/
def tileCommand (s : State) (f : Flight) : Cmd :=
  let ctrl := leAt f.body 4 4
  let gen1 := f.gen == 1
  let a0 := leAt f.body 8 4
  let a1 := leAt f.body 12 4
  { cab := f.cab, n := 0, ctx := f.ctx, alloc := (s.ctx f.cab f.ctx).alloc, desc := some (f.drawer, f.seq), op := f.op,
    direct := s.runsDirect f, prio := bitsOf ctrl 14 13, tilesN := bitsOf ctrl 8 0, key := bitsOf ctrl 31 16,
    code := (s.obj (handleIdx (leAt f.body 0 4))).base,
    aux := if f.op = 1 then (if a0 = 0 then 0 else s.baseOr0 a0 + 64 * a1) else s.baseOr0 a0,
    ntokens := if f.op = 1 then 0 else a1,
    outs := if gen1 then [] else s.outVas (outRanges (bitsOf ctrl 12 9) f.body f.exts),
    readyAt := s.mono, waitFrom := s.mono }

/-- A command of a LOST context fails with the recorded status and unit (R204). -/
def State.lostEnding (s : State) (cab ctx : Nat) : Ending :=
  { status := (s.ctx cab ctx).lostStatus, unit := some (s.ctx cab ctx).lostUnit }

/-- Check 9 of a tile command: TILES within the tiles in force, then the shadow pool (R184, R135). -/
def State.tileCheck9 (s : State) (c : Cmd) : Option Ending :=
  if (s.cab c.cab).conf.tileList.length < c.tilesN then some { status := stDenied, unit := some uTs }
  else if !c.direct && !s.shadowFits c.cab c.outs then some { status := stDenied, unit := some uTu }
  else none

def issueTile (op : Nat) (cab drawer seq : Nat) (s : State) : State :=
  match s.issuedOp cab drawer seq op with
  | some f =>
    match s.tileCheck9 (tileCommand s f) with
    | some e => s.endFlight cab drawer seq e
    | none =>
      if (s.ctx cab f.ctx).resid == .lost then s.endFlight cab drawer seq (s.lostEnding cab f.ctx)
      else (s.startFlight f).addCmd (tileCommand s f)
  | none => s

def execKernelDesc (cab : CabId) (drawer : DrawerId) (seq : Seq) (s : State) : Host.Outcome State Fault Refusal :=
  .next (s.work uTs (issueTile 0x01 cab.val drawer.val seq.val))
def execLayerStep (cab : CabId) (drawer : DrawerId) (seq : Seq) (s : State) : Host.Outcome State Fault Refusal :=
  .next (s.work uTs (issueTile 0x02 cab.val drawer.val seq.val))

/-! ### The ready order (R188) -/

/-- `a` comes before `b`. -/
def Cmd.before (a b : Cmd) : Bool :=
  if a.prio ≠ b.prio then decide (b.prio < a.prio)
  else if a.readyAt ≠ b.readyAt then decide (a.readyAt < b.readyAt)
  else match a.desc, b.desc with
    | some x, some y => decide (x.1 < y.1) || (x.1 == y.1 && decide (x.2 < y.2))
    | some _, none => true
    | none, some _ => false
    | none, none => decide (a.n < b.n)

/-- Insertion by an order. -/
def insertBy {α : Type} (lt : α → α → Bool) (x : α) : List α → List α
  | [] => [x]
  | y :: r => if lt x y then x :: y :: r else y :: insertBy lt x r

def sortBy {α : Type} (lt : α → α → Bool) (l : List α) : List α := l.foldr (insertBy lt) []

def State.readyOrder (s : State) (cab : Nat) : List Cmd := sortBy Cmd.before (s.ts.cmds.filter (fun c => c.cab == cab && s.ready c))

/-! ### Eligibility and cost (R189 to R191) -/

/-- In service and not retired (R380, R383). -/
def State.portServes (s : State) (t : Nat) : Bool :=
  !(s.tile t).retired && !s.resetting (uTile t) && (s.unitSt (uTile t)).phase != .retired

/-- The tile is free for a command of its cabinet. -/
def State.tileFree (s : State) (cab t : Nat) : Bool :=
  let x := s.tile t
  x.cab == some cab && !x.busy && !x.clearing && !x.killing && !x.leaving && s.portServes t &&
  !(s.cab cab).removing.contains t

/-- The cabinet's tiles. -/
def State.tilesOf (s : State) (cab : Nat) : List Nat := (List.range 256).filter (fun t => (s.tile t).cab == some cab)

/-- Whether a tile is of the set a context's commands may use. -/
def State.tileFits (s : State) (cab ctx t : Nat) : Bool :=
  match (s.ctx cab ctx).resid with
  | .resident => (s.ctx cab ctx).tiles.contains t
  | .unbound => (s.tile t).resident.isNone
  | _ => false

/-- The eligible tiles of a command (R189, R386 for a suspect's replay). -/
def State.eligible (s : State) (c : Cmd) : List Nat :=
  let all := (s.tilesOf c.cab).filter (fun t => s.tileFits c.cab c.ctx t && s.portServes t)
  let others := all.filter (fun t => !c.avoid.contains t)
  (if c.tilesN ≤ others.length then others else all).filter (s.tileFree c.cab)

/-- A clear is needed before a command of the context starts (R191). -/
def State.needsClear (s : State) (cab ctx t : Nat) : Bool :=
  s.rfld (rTsCfg cab) 48 48 == 1 && !(s.ctx cab ctx).tiles.contains t &&
  (match (s.tile t).last with | some l => l != (ctx, (s.ctx cab ctx).alloc) | none => false)

/-- R190. -/
def State.placeCost (s : State) (c : Cmd) (t : Nat) : Nat :=
  let clear := s.needsClear c.cab c.ctx t
  (if clear then s.rfld rTsGcfg 47 32 else 0) +
  (if c.key = 0 ∨ ((s.tile t).keys.contains c.key ∧ !clear) then 0 else s.rfld (rTsCfg c.cab) 31 16)

/-- The TILES eligible tiles of least cost, in ascending port order. -/
def State.cheapest (s : State) (c : Cmd) : List Nat :=
  sortBy (fun a b => decide (a < b)) ((sortBy (fun a b =>
    decide (s.placeCost c a < s.placeCost c b) || (s.placeCost c a == s.placeCost c b && decide (a < b)))
    (s.eligible c)).take c.tilesN)

/-- A swap of the context holds its commands back (R203). -/
def State.swapHolds (s : State) (cab ctx : Nat) : Bool :=
  s.ts.swaps.any (fun w => w.cab == cab && w.ctx == ctx) ||
  s.drw.flights.any (fun f => f.cab == cab && f.ctx == ctx && (f.op == 0x50 || f.op == 0x51) &&
    (f.stage == .issued || f.stage == .running))

/-- The cabinet places nothing while a table is replaced or freed (R282). -/
def State.tableStall (s : State) (cab : Nat) : Bool :=
  s.ft.slots.any (fun e => e.2.cab == cab && !e.2.image && (e.2.st == .replacing || e.2.st == .freeing))

/-- The command can be placed now: not while its cabinet is reset (R211), nor past the limit on committing commands. -/
def State.placeable (s : State) (c : Cmd) : Bool :=
  (s.cab c.cab).st == .live && !s.rcv.cabResets.any (fun r => r.cab == c.cab && r.began.isSome) && (c.direct || s.mayCommit) &&
  !s.swapHolds c.cab c.ctx && !s.tableStall c.cab &&
  decide (0 < c.tilesN) && decide (c.tilesN ≤ (s.eligible c).length)

/-! ### Issue (R186) -/

/-- The 64 bytes of an issue record. -/
def issueRecord (s : State) (c : Cmd) (t rank epoch num : Nat) : List Byte :=
  toLe 8 (c.code % 2 ^ 57) ++ toLe 8 c.aux ++ toLe 4 c.ntokens ++ toLe 2 rank ++ toLe 2 c.tiles.length ++ toLe 2 c.ctx ++
  toLe 1 c.op ++ toLe 1 (bit c.direct + 2 * bit ((s.ctx c.cab c.ctx).tiles.contains t) + 4 * bit c.replay) ++
  toLe 4 epoch ++ toLe 8 (num % 2 ^ 48) ++ toLe 24 0

/-- The tiles of a placement receive their records and run. -/
def State.startRun (s : State) (c : Cmd) : State :=
  let epoch := mapGet 0 c.cab s.ts.epochs
  let num := c.num.getD (mapGet 0 c.cab s.ts.cmdNo)
  let s := { s with ts := { s.ts with epochs := mapSet 0 c.cab ((epoch + 1) % 2 ^ 32) s.ts.epochs } }
  let s := if c.num.isSome then s else { s with ts := { s.ts with cmdNo := mapSet 0 c.cab (num + 1) s.ts.cmdNo } }
  let s := c.tiles.zipIdx.foldl (fun s e =>
    let s := s.deliverTables e.1
    let x := s.tile e.1
    let keys := if c.key = 0 then x.keys else (c.key :: x.keys.filter (fun k => k != c.key)).take 4
    (s.setTile e.1 { x with since := s.mono, progress := s.mono, last := some (c.ctx, c.alloc), keys := keys }).emit
      (.issue e.1 (issueRecord s c e.1 e.2 epoch num))) s
  s.updCmd c.cab c.n (fun x => { x with phase := .running, tiles := c.tiles, epoch := epoch, num := some num,
                                        start := s.mono, first := some (x.first.getD s.mono), done := [], asks := 0, errors := [],
                                        said := none, deny := none })

/-- Place a command on tiles: those that need it are cleared first (R191). -/
def State.placeOn (s : State) (c : Cmd) (ts : List Nat) : State :=
  let dirty := ts.filter (s.needsClear c.cab c.ctx)
  let s := ts.foldl (fun s t => s.setTile t { s.tile t with busy := true, cmd := some c.n, since := s.mono, progress := s.mono }) s
  let c' := { c with tiles := ts, holds := [], avoid := [] }
  if dirty = [] then (s.updCmd c.cab c.n (fun _ => c')).startRun c'
  else
    let s := dirty.foldl (fun s t => s.clearTile t) s
    s.updCmd c.cab c.n (fun _ => { c' with phase := .clearing dirty })

/-! ### Priority pre-emption (R198) -/

/-- Victim order: lowest PRIO, then latest start, then highest port of the placement. -/
def victimBefore (a b : Cmd) : Bool :=
  if a.prio ≠ b.prio then decide (a.prio < b.prio)
  else if a.start ≠ b.start then decide (b.start < a.start)
  else decide (b.tiles.foldl max 0 < a.tiles.foldl max 0)

/-- The sum of the `k` largest of a list. -/
def topSum (k : Nat) (l : List Nat) : Nat := ((sortBy (fun a b => decide (b < a)) l).take k).sum

/-- The first set of `k` candidates, in their order, that gains `need`. -/
def pickVictims {α : Type} (gain : α → Nat) : Nat → Nat → List α → List α
  | _, _, [] => []
  | 0, _, _ => []
  | k + 1, need, c :: r =>
    if need ≤ gain c + topSum k (r.map gain) then c :: pickVictims gain k (need - gain c) r
    else pickVictims gain (k + 1) need r

/-- The fewest candidates that gain `need`, none where all together do not. -/
def victims {α : Type} (gain : α → Nat) (need : Nat) (l : List α) : List α :=
  match (List.range (l.length + 1)).find? (fun k => decide (need ≤ topSum k (l.map gain))) with
  | some k => pickVictims gain k need l
  | none => []

/-- A running committing command that a pre-emptor of PRIO `p` may kill. -/
def State.victimOf (s : State) (p : Nat) (v : Cmd) : Bool :=
  !v.direct && decide (v.prio < p) && decide (v.killsPrio < s.rfld (rTsCfg v.cab) 63 56) &&
  (match v.phase with | .clearing _ | .running => true | _ => false)

/-- The head, short of tiles, kills the chosen victims (R198). -/
def State.preempt (s : State) (c : Cmd) : State :=
  if s.swapHolds c.cab c.ctx || s.tableStall c.cab || s.rfld (rTsCfg c.cab) 63 56 = 0 then s
  else
    let fits (t : Nat) := s.tileFits c.cab c.ctx t && s.portServes t && !(s.cab c.cab).removing.contains t
    let coming := s.ts.cmds.flatMap (fun v => match v.phase with
      | .killing _ => if v.cab == c.cab then v.tiles.filter fits else [] | _ => [])
    let have_ := (s.eligible c).length + coming.length
    if c.tilesN ≤ have_ then s
    else
      let cand := sortBy victimBefore (s.ts.cmds.filter (fun v => v.cab == c.cab && s.victimOf c.prio v))
      (victims (fun v => (v.tiles.filter fits).length) (c.tilesN - have_) cand).foldl (fun s v => s.killCmd v.cab v.n 1) s

/-! ### Placement -/

/-- End the ready commands that can never run: those of a LOST context, and those with TILES above |R(c)| (R189, R204). -/
def State.endHopeless (s : State) (cab : Nat) : State :=
  (s.readyOrder cab).foldl (fun s c =>
    let x := s.ctx cab c.ctx
    if x.resid == .lost then s.endCmd c x.lostStatus (some x.lostUnit)
    else if x.resid == .resident ∧ x.tiles.length < c.tilesN then s.endCmd c stDenied (some uTs)
    else s) s

/-- The head has waited BYPASS_US since its last entry into the order (R188). -/
def State.bypassOver (s : State) (c : Cmd) : Bool :=
  c.stuck || decide (c.waitFrom + s.rfld (rTsCfg c.cab) 47 32 * 1000 ≤ s.mono)

/-- A command that waits because fewer than TILES tiles are eligible is counted once (R190). -/
def State.countWait (s : State) (c : Cmd) : State :=
  if c.counted || decide (c.tilesN ≤ (s.eligible c).length) then s
  else (s.bump (rTsCnt2 c.cab) 31 16).updCmd c.cab c.n (fun x => { x with counted := true })

def place (cab : Nat) (s : State) : State :=
  let s := (s.renewWaits cab).endHopeless cab
  match s.readyOrder cab with
  | [] => s
  | h :: r =>
    if s.placeable h then (s.placeOn h (s.cheapest h)).noteActivity cab h.ctx
    else
      let s := (h :: r).foldl (fun s c => s.countWait c) s
      match (if s.bypassOver h then none else r.find? s.placeable) with
      | some c => ((s.placeOn c (s.cheapest c)).preempt h).noteActivity cab c.ctx
      | none => s.preempt h

/-- The scheduler places a ready command of the cabinet: the head, or one that may bypass it; a head short of tiles
pre-empts. -/
def execPlacement (cab : CabId) (s : State) : Host.Outcome State Fault Refusal := .next (s.work uTs (place cab.val))

/-- The head has waited BYPASS_US: nothing behind it is placed until it is. -/
def bypassExpiry (cab : Nat) (s : State) : State :=
  let s := s.renewWaits cab
  match s.readyOrder cab with
  | h :: _ =>
    if h.waitFrom + s.rfld (rTsCfg cab) 47 32 * 1000 ≤ s.mono then s.updCmd cab h.n (fun x => { x with stuck := true }) else s
  | [] => s

def execBypassLimitExpiry (cab : CabId) (s : State) : Host.Outcome State Fault Refusal :=
  .next (s.work uTs (bypassExpiry cab.val))

/-! ### Swaps (R199 to R206) -/

/-- S: the bytes of one tile's state. -/
def State.stateBytes (s : State) : Nat := s.rfld rTsGcfg 14 0 * 1024

def State.swapOf (s : State) (cab ctx : Nat) : Option Swap := s.ts.swaps.find? (fun w => w.cab == cab && w.ctx == ctx)
def State.dropSwap (s : State) (cab ctx : Nat) : State :=
  { s with ts := { s.ts with swaps := s.ts.swaps.filter (fun w => !(w.cab == cab && w.ctx == ctx)) } }
def State.setSwap (s : State) (w : Swap) : State :=
  { s with ts := { s.ts with swaps := updWhere (fun v => v.cab == w.cab && v.ctx == w.ctx) (fun _ => w) s.ts.swaps } }

/-- Clear and free the tiles of a context's state. -/
def State.freeState (s : State) (cab ctx : Nat) : State :=
  let x := s.ctx cab ctx
  let s := x.tiles.foldl (fun s t =>
    let y := s.tile t
    (s.setTile t { y with busy := y.cmd.isSome, resident := none }).clearTile t) s
  s.setCtx cab ctx { x with tiles := [] }

/-- Enter LOST with a status and unit; its waiting commands fail (R204). -/
def State.loseState (s : State) (cab ctx st unit : Nat) : State :=
  let s := s.freeState cab ctx
  let s := (s.setCtx cab ctx { s.ctx cab ctx with resid := .lost, lostStatus := st, lostUnit := unit }).bump (rTsCnt2 cab) 15 0
  (s.ts.cmds.filter (fun c => c.cab == cab && c.ctx == ctx && c.phase == .waiting)).foldl
    (fun s c => s.endCmd c st (some unit)) s

/-- Start an eviction of a resident context (R205). -/
def State.evict (s : State) (cab ctx : Nat) : State :=
  let x := s.ctx cab ctx
  let w : Swap := { cab := cab, ctx := ctx, load := false, desc := none, evict := true, va := x.saveVa, tiles := x.tiles,
                    discard := x.nosave, stiles := x.stiles, prior := .resident }
  let s := x.tiles.foldl (fun s t => s.setTile t { s.tile t with busy := true, progress := s.mono }) s
  ({ s with ts := { s.ts with swaps := s.ts.swaps ++ [w] } }).setCtx cab ctx { x with resid := .outProgress }
    |>.bump (rTsCnt2 cab) 47 32

/-- The resident contexts of a cabinet that no swap holds. -/
def State.residents (s : State) (cab : Nat) : List Nat :=
  (s.drw.ctxs.filter (fun e => e.1 / 16384 == cab && e.2.resid == .resident && (s.swapOf cab (e.1 % 16384)).isNone)).map
    (fun e => e.1 % 16384)

/-- Idle resident contexts that are not PIN, least recently run first (R205 item 2). -/
def State.idleResidents (s : State) (cab : Nat) : List Nat :=
  sortBy (fun a b => decide ((s.ctx cab a).lastRun < (s.ctx cab b).lastRun))
    ((s.residents cab).filter (fun c => s.activity cab c == 0 && !(s.ctx cab c).pin))

/-- The shortest prefix of contexts whose tiles make up `need`; none where all do not. -/
def State.enough (s : State) (cab : Nat) : Nat → List Nat → Option (List Nat)
  | 0, _ => some []
  | _ + 1, [] => none
  | need + 1, c :: r => (s.enough cab (need + 1 - (s.ctx cab c).tiles.length) r).map (fun l => c :: l)

/-- Free tiles that hold no resident state, by the cost of R190 with C_key 0. -/
def State.freeForSwap (s : State) (cab ctx : Nat) : List Nat :=
  let cost (t : Nat) := if s.needsClear cab ctx t then s.rfld rTsGcfg 47 32 else 0
  sortBy (fun a b => decide (cost a < cost b) || (cost a == cost b && decide (a < b)))
    ((s.tilesOf cab).filter (fun t => s.tileFree cab t && (s.tile t).resident.isNone))

/-- The running commands of a context. -/
def State.runningOf (s : State) (cab ctx : Nat) : List Cmd := s.ts.cmds.filter (fun c => c.cab == cab && c.ctx == ctx && c.onTiles)

/-- Contexts a PRIO 3 pre-emptor may have evicted: every running command is a victim (R198, R205 item 4). -/
def State.preemptable (s : State) (cab : Nat) : List Nat :=
  sortBy (fun a b => match s.runningOf cab a, s.runningOf cab b with
      | x :: _, y :: _ => victimBefore x y
      | _, _ => false)
    ((s.residents cab).filter (fun c => !(s.runningOf cab c).isEmpty && (s.runningOf cab c).all (s.victimOf 3)))

/-- Every way to choose from a list, in its order. -/
def choices {α : Type} : List α → List (List α)
  | [] => [[]]
  | x :: r => (choices r).map (fun l => x :: l) ++ choices r

/-- Of two sets of victims in victim order the one to take: fewer victims, then the earlier first member that differs (R198). -/
def victimsBefore (a b : List Cmd) : Bool :=
  if a.length ≠ b.length then decide (a.length < b.length)
  else match (a.zip b).find? (fun e => e.1.n != e.2.n) with
    | some e => victimBefore e.1 e.2
    | none => false

/-- The contexts whose running commands are the victims of a PRIO 3 pre-emption that gains `need` tiles: the fewest victims. -/
def State.evictVictims (s : State) (cab need : Nat) : Option (List Nat) :=
  let vs (l : List Nat) : List Cmd := sortBy victimBefore (l.flatMap (s.runningOf cab))
  let enough := (choices (s.preemptable cab)).filter (fun l => decide (need ≤ (l.map (fun c => (s.ctx cab c).tiles.length)).sum))
  (sortBy (fun a b => victimsBefore (vs a) (vs b)) enough).head?

/-- A waiting load takes its tiles if it can find enough, evicting as it must; otherwise it takes nothing (R205). Only a head
of PRIO 3 has victims evicted (R198). -/
def State.gather (s : State) (w : Swap) : State :=
  if w.tiles ≠ [] || !(s.runningOf w.cab w.ctx).isEmpty then s
  else
    let free := s.freeForSwap w.cab w.ctx
    let need := w.stiles - free.length
    let prio3 := (s.readyOrder w.cab).head?.any (fun c => c.ctx == w.ctx && c.prio == 3)
    let idle := s.idleResidents w.cab
    let chosen := match s.enough w.cab need idle with
      | some l => some (l, [])
      | none =>
        if prio3 then
          (s.evictVictims w.cab (need - (idle.map (fun c => (s.ctx w.cab c).tiles.length)).sum)).map
            (fun vs => (idle ++ vs, vs.flatMap (s.runningOf w.cab)))
        else none
    match chosen with
    | none => s
    | some (out, kill) =>
      let s := kill.foldl (fun s v => s.killCmd v.cab v.n 1) s
      let s := out.foldl (fun s c => s.evict w.cab c) s
      let ts := sortBy (fun a b => decide (a < b))
        ((free ++ out.flatMap (fun c => (s.ctx w.cab c).tiles)).take w.stiles)
      let s := ts.foldl (fun s t => s.setTile t { s.tile t with busy := true, progress := s.mono }) s
      (s.setSwap { w with tiles := ts }).setCtx w.cab w.ctx { s.ctx w.cab w.ctx with resid := .inProgress }

/-- SWAP_IN (R200, R201, R204). -/
def swapInIssue (f : Flight) (s : State) : State :=
  let flags := leAt f.body 18 1
  let stiles := bitsOf (leAt f.body 16 2) 8 0
  let va := (s.obj (handleIdx (leAt f.body 0 4))).base + leAt f.body 8 8
  let x := s.ctx f.cab f.ctx
  let own := x.resid != .unbound && x.saveVa == va && x.stiles == stiles
  if (s.cab f.cab).conf.tileList.length < stiles then
    s.endFlight f.cab f.drawer f.seq { status := stDenied, unit := some uTs }
  else if (s.swapOf f.cab f.ctx).isSome then s
  else if x.resid == .resident then
    s.endFlight f.cab f.drawer f.seq (if own then { status := stDone } else { status := stDenied, unit := some uTs })
  else if x.resid == .lost && own && !flags.testBit 0 then s.endFlight f.cab f.drawer f.seq (s.lostEnding f.cab f.ctx)
  else
    let w : Swap := { cab := f.cab, ctx := f.ctx, load := true, desc := some (f.drawer, f.seq), va := va,
                      zero := flags.testBit 0, pin := flags.testBit 1, nosave := flags.testBit 2, stiles := stiles,
                      prior := x.resid }
    let s := s.startFlight f
    ({ s with ts := { s.ts with swaps := s.ts.swaps ++ [w] } }).gather w

/-- Issue a SWAP_IN, or let the one that waits for tiles try again. -/
def swapIn (cab drawer seq : Nat) (s : State) : State :=
  match s.issuedOp cab drawer seq 0x50 with
  | some f => swapInIssue f s
  | none => match s.ts.swaps.find? (fun w => w.cab == cab && w.load && w.desc == some (drawer, seq)) with
    | some w => s.gather w
    | none => s

def execSwapIn (cab : CabId) (drawer : DrawerId) (seq : Seq) (s : State) : Host.Outcome State Fault Refusal :=
  .next (s.work uTs (swapIn cab.val drawer.val seq.val))

/-- SWAP_OUT (R202); a NOSAVE binding is not saved (R204). R(c)'s tiles are BUSY until it ends (R187). All of R(c) is
written from the named start, and the body's STILES is bound; UNBIND on a context not RESIDENT only unbinds, and SAVE changes
nothing for an unbound one (log 143). -/
def swapOutIssue (f : Flight) (s : State) : State :=
  let h := leAt f.body 0 4
  let flags := leAt f.body 18 1
  let stiles := bitsOf (leAt f.body 16 2) 8 0
  let x := s.ctx f.cab f.ctx
  let va := if h = 0 then x.saveVa else (s.obj (handleIdx h)).base + leAt f.body 8 8
  if (s.cab f.cab).conf.tileList.length < stiles then
    s.endFlight f.cab f.drawer f.seq { status := stDenied, unit := some uTs }
  else if (s.swapOf f.cab f.ctx).isSome then s
  else if x.resid == .resident then
    let w : Swap := { cab := f.cab, ctx := f.ctx, load := false, desc := some (f.drawer, f.seq), va := va, tiles := x.tiles,
                      discard := flags.testBit 0 || x.nosave, unbind := flags.testBit 1, stiles := x.stiles, prior := .resident }
    let s := s.startFlight f
    let s := x.tiles.foldl (fun s t => s.setTile t { s.tile t with busy := true, progress := s.mono }) s
    let x := if h = 0 then x else { x with saveVa := va, stiles := stiles }
    ({ s with ts := { s.ts with swaps := s.ts.swaps ++ [w] } }).setCtx f.cab f.ctx { x with resid := .outProgress }
  else
    let s := if flags.testBit 1 then s.setCtx f.cab f.ctx { x with resid := .unbound, saveVa := 0, stiles := 0, pin := false,
                                                                     nosave := false, lostStatus := 0, lostUnit := 0 }
      else if h = 0 || x.resid == .unbound then s
      else s.setCtx f.cab f.ctx { x with saveVa := va, stiles := stiles }
    s.endFlight f.cab f.drawer f.seq { status := stDone }

def execSwapOut (cab : CabId) (drawer : DrawerId) (seq : Seq) (s : State) : Host.Outcome State Fault Refusal :=
  .next (s.work uTs fun s => match s.issuedOp cab.val drawer.val seq.val 0x51 with
    | some f => swapOutIssue f s
    | none => s)

/-- The cabinet's contexts are being swapped out for SLEEP or DEEP (R210). -/
def State.swapsOut (s : State) (cab : Nat) : Bool :=
  s.pln.entries.any (fun e => e.asked && ((e.cab == some cab && e.target == 2) || (e.cab.isNone && e.target == 3)))

/-- A READY command of a swapped-out context starts a swap-in, or one that waits for tiles tries again (R204, R205). -/
def autoSwap (cab ctx : Nat) (s : State) : State :=
  match s.swapOf cab ctx with
  | some w => if w.load then s.gather w else s
  | none =>
    let x := s.ctx cab ctx
    match (s.readyOrder cab).find? (fun c => c.ctx == ctx) with
    | some c =>
      if x.resid == .out && !s.swapHolds cab ctx && !s.swapsOut cab then
        let w : Swap := { cab := cab, ctx := ctx, load := true, desc := none, va := x.saveVa, pin := x.pin, nosave := x.nosave,
                          stiles := x.stiles, prior := .out, trig := some c.n }
        ({ s with ts := { s.ts with swaps := s.ts.swaps ++ [w] } }).gather w
      else s
    | none => s

def execAutoSwapIn (cab : CabId) (ctx : CtxId) (s : State) : Host.Outcome State Fault Refusal :=
  .next (s.work uTs (autoSwap cab.val ctx.val))

/-- The swap stream of a context; an eviction's faults are not serviced (R205). -/
def Swap.asker (w : Swap) : Asker := { src := .ts, unit := uTs, cab := w.cab, ctx := w.ctx, tag := w.ctx, service := !w.evict }

/-- Swap bytes moved (R45 REP_TOT_SWAP_BYTES). -/
def State.countSwap (s : State) (w : Swap) (bytes : Nat) : State :=
  let c := s.cab w.cab
  (s.setCab w.cab { c with tot := { c.tot with swapBytes := c.tot.swapBytes + bytes } }).trace 0x04 uTs (some w.cab)
    (some w.ctx) (bit w.load + 2 * bit w.desc.isNone) bytes

/-- End a swap's descriptor. -/
def State.endSwapDesc (s : State) (w : Swap) (e : Ending) : State :=
  match w.desc with
  | some (d, q) => s.endFlight w.cab d q e
  | none => s

/-- Every eviction a load depends on is complete and its tiles are cleared. -/
def State.loadReady (s : State) (w : Swap) : Bool :=
  w.load && w.tiles != [] &&
  w.tiles.all (fun t => !(s.tile t).clearing && (s.tile t).resident.isNone && s.portServes t)

/-- The load's last byte is on the tiles; on the way to SLEEP or DEEP the context goes out again (R210). -/
def loadDone (w : Swap) (s : State) : State :=
  let s := w.tiles.foldl (fun s t => s.setTile t { s.tile t with busy := false, resident := some w.ctx }) s
  let s := s.setCtx w.cab w.ctx { s.ctx w.cab w.ctx with resid := .resident, saveVa := w.va, stiles := w.stiles, pin := w.pin,
                                                           nosave := w.nosave, tiles := w.tiles, lastRun := s.mono,
                                                           lostStatus := 0, lostUnit := 0 }
  let s := (s.dropSwap w.cab w.ctx).bump (rTsCnt w.cab) 31 16
  let s := ((s.countSwap w (if w.zero then 0 else w.tiles.length * s.stateBytes)).endSwapDesc w { status := stDone }).noteActivity
    w.cab w.ctx
  if s.swapsOut w.cab then s.evict w.cab w.ctx else s

/-- A load fails: its tiles are cleared, and the swap or the triggering command fails with the read's status. -/
def loadFails (w : Swap) (st u : Nat) (s : State) : State :=
  let s := w.tiles.foldl (fun s t => (s.setTile t { s.tile t with busy := false }).clearTile t) s
  let s := (s.dropSwap w.cab w.ctx).setCtx w.cab w.ctx { s.ctx w.cab w.ctx with resid := w.prior }
  let s := s.endSwapDesc w { status := st, unit := some u }
  match w.trig with
  | some n => match s.cmd w.cab n with
    | some c => if c.phase == .waiting then s.endCmd c st (some u) else s
    | none => s
  | none => s

/-- Deliver the image, tile by tile in rank order. -/
def loadTiles (n : Nat) : List Nat → List Byte → State → State
  | [], _, s => s
  | t :: r, bs, s => loadTiles n r (bs.drop n) (s.emit (.swapLoad t (bs.take n)))

def swapLoad (cab ctx : Nat) (s : State) : State :=
  match s.swapOf cab ctx with
  | some w =>
    if s.loadReady w then
      let n := w.tiles.length * s.stateBytes
      if w.zero then loadDone w (loadTiles s.stateBytes w.tiles (List.replicate n 0) s)
      else match s.vaRead w.asker w.va n with
        | (.wait, s) => s
        | (.bad st u, s) => loadFails w st u s
        | (.ok bs, s) => loadDone w (loadTiles s.stateBytes w.tiles bs s)
    else s
  | none => s

/-- The load of a context ends. -/
def execSwapLoadComplete (cab : CabId) (ctx : CtxId) (s : State) : Host.Outcome State Fault Refusal :=
  .next (s.work uTs (swapLoad cab.val ctx.val))

/-- The save is complete: R(c) is cleared and freed. -/
def saveDone (w : Swap) (moved : Nat) (s : State) : State :=
  let s := w.tiles.foldl (fun s t => s.setTile t { s.tile t with busy := s.ts.swaps.any (fun v => v.load && v.tiles.contains t) }) s
  let keep := w.tiles.filter (fun t => (s.tile t).busy)
  let s := s.freeState w.cab w.ctx
  let s := keep.foldl (fun s t => s.setTile t { s.tile t with busy := true }) s
  let x := s.ctx w.cab w.ctx
  let s := s.setCtx w.cab w.ctx (if w.unbind then { x with resid := .unbound, saveVa := 0, stiles := 0, pin := false, nosave := false }
    else { x with resid := .out })
  ((((s.dropSwap w.cab w.ctx).bump (rTsCnt w.cab) 15 0).countSwap w moved).endSwapDesc w { status := stDone }).noteActivity
    w.cab w.ctx

/-- A save fails: the context enters LOST (R204). -/
def saveFails (w : Swap) (st u : Nat) (s : State) : State :=
  let keep := w.tiles.filter (fun t => s.ts.swaps.any (fun v => v.load && v.tiles.contains t))
  let s := (s.dropSwap w.cab w.ctx).loseState w.cab w.ctx st u
  let s := keep.foldl (fun s t => s.setTile t { s.tile t with busy := true }) s
  s.endSwapDesc w { status := st, unit := some u }

/-- `data` is what the tiles send, in rank order; nothing moves for a discard. -/
def swapSave (cab ctx : Nat) (data : List Byte) (s : State) : State :=
  match s.swapOf cab ctx with
  | some w =>
    if w.load || !(s.runningOf cab ctx).isEmpty then s
    else if w.discard then saveDone w 0 s
    else if data.length ≠ w.tiles.length * s.stateBytes then s
    else match s.vaWrite w.asker w.va data with
      | (.wait, s) => s
      | (.bad st u, s) => saveFails w st u s
      | (.ok _, s) => saveDone w data.length s
  | none => s

/-- The save of a context ends. -/
def execSwapSaveComplete (cab : CabId) (ctx : CtxId) (data : List Byte) (s : State) : Host.Outcome State Fault Refusal :=
  .next (s.work uTs (swapSave cab.val ctx.val data))

/-- Of a cabinet's resident contexts the one BLOCKED longest, ties to the lower number (R206). -/
def longestBlocked (s : State) (cab : Nat) : List Nat → Option Nat
  | [] => none
  | c :: r => match longestBlocked s cab r with
    | none => some c
    | some d => if (s.ctx cab c).blockedAt.getD 0 ≤ (s.ctx cab d).blockedAt.getD 0 then some c else some d

/-- A swapped-out context finds too few tiles: those free, and those that evictions under way release to no load (R205). -/
def State.shortOfTiles (s : State) (cab ctx : Nat) : Bool :=
  let coming := (s.ts.swaps.filter (fun w => w.cab == cab && !w.load)).flatMap (fun w =>
    w.tiles.filter (fun t => !s.ts.swaps.any (fun v => v.load && v.tiles.contains t)))
  decide ((s.freeForSwap cab ctx).length + coming.length < (s.ctx cab ctx).stiles)

/-- The stall rule (R206), for a context that no other tiles suffice for. -/
def stallEvict (cab : Nat) (s : State) : State :=
  let limit := max 1 (s.rfld (rTsCfg cab) 15 0) * 1000
  let rs := s.residents cab
  let blocked (c : Nat) := s.activity cab c == 1 && (s.ctx cab c).blockedAt.any (fun t => decide (t + limit < s.mono))
  let waits := s.drw.ctxs.any (fun e => e.1 / 16384 == cab && e.2.resid == .out && s.readyCmd cab (e.1 % 16384) &&
    s.shortOfTiles cab (e.1 % 16384))
  if rs.all blocked && waits then
    match longestBlocked s cab rs with
    | some c => (s.evict cab c).bump (rTsCnt2 cab) 63 48
    | none => s
  else s

def execStallEviction (cab : CabId) (s : State) : Host.Outcome State Fault Refusal := .next (s.work uTs (stallEvict cab.val))

/-- Teardown of a context: stop any swap, clear and free R(c), release the binding (R204). -/
def State.dropState (s : State) (cab ctx : Nat) : State :=
  let s := match s.swapOf cab ctx with
    | some w => w.tiles.foldl (fun (s : State) t =>
        let y := s.tile t
        if y.resident.isNone then (s.setTile t { y with busy := y.cmd.isSome }).clearTile t else s) (s.dropSwap cab ctx)
    | none => s
  let s := s.freeState cab ctx
  s.setCtx cab ctx { s.ctx cab ctx with resid := .unbound, saveVa := 0, stiles := 0, pin := false, nosave := false }

end Sys2Proof.Machine
end

