-- ==== Sys2Proof/Machine/Operands.lean ====
section
/-! DEFINITION. Descriptors as operands: headers, the opcode table, and checks 1 to 8 of R77 for every opcode's body. -/
namespace Sys2Proof.Machine

/-! ### The opcode table (R75) -/

structure OpRow where
  op      : Nat
  gen1    : Bool
  gen2    : Bool
  fixed   : Bool     -- allowed in FIXED and DIRECT drawers
  batched : Bool
  count   : Bool

/-- Every opcode is allowed in gen3. -/
def opTable : List OpRow := [
  { op := 0x01, gen1 := true,  gen2 := true,  fixed := true,  batched := false, count := false },
  { op := 0x02, gen1 := false, gen2 := true,  fixed := true,  batched := false, count := false },
  { op := 0x03, gen1 := false, gen2 := true,  fixed := false, batched := true,  count := false },
  { op := 0x10, gen1 := true,  gen2 := true,  fixed := true,  batched := false, count := true },
  { op := 0x11, gen1 := false, gen2 := true,  fixed := true,  batched := false, count := true },
  { op := 0x12, gen1 := false, gen2 := true,  fixed := true,  batched := false, count := true },
  { op := 0x20, gen1 := false, gen2 := false, fixed := true,  batched := false, count := false },
  { op := 0x21, gen1 := false, gen2 := false, fixed := true,  batched := false, count := false },
  { op := 0x22, gen1 := false, gen2 := true,  fixed := true,  batched := false, count := false },
  { op := 0x30, gen1 := true,  gen2 := true,  fixed := true,  batched := true,  count := false },
  { op := 0x31, gen1 := true,  gen2 := true,  fixed := true,  batched := true,  count := false },
  { op := 0x40, gen1 := true,  gen2 := true,  fixed := true,  batched := true,  count := false },
  { op := 0x50, gen1 := false, gen2 := true,  fixed := true,  batched := false, count := false },
  { op := 0x51, gen1 := false, gen2 := true,  fixed := true,  batched := false, count := false },
  { op := 0x60, gen1 := false, gen2 := true,  fixed := true,  batched := false, count := false },
  { op := 0x61, gen1 := false, gen2 := true,  fixed := true,  batched := false, count := false } ]

def opRow (op : Nat) : Option OpRow := opTable.find? (fun r => r.op == op)

def OpRow.inGen (r : OpRow) (gen : Nat) : Bool := if gen = 1 then r.gen1 else if gen = 2 then r.gen2 else true
def OpRow.inMode (r : OpRow) (mode : Nat) : Bool := if mode = 1 then r.batched else r.fixed

/-! ### Headers (R72, R74) -/

/-- A descriptor as read: its header fields, its body and its extension slots. -/
structure Desc where
  gen   : Nat
  op    : Nat
  flags : Nat
  ext   : Nat
  fence : Nat
  fval  : Nat
  count : Nat
  zero  : Bool          -- the header's reserved bytes are 0
  body  : List Byte
  exts  : List (List Byte)
deriving DecidableEq, Repr

/-- Bytes of a ring slot (R60). -/
def slotBytes (gen : Nat) : Nat := if gen = 1 then 32 else 64

/-- EXT of a base slot. -/
def extOf (gen : Nat) (b : List Byte) : Nat := if gen = 3 then leAt b 2 1 % 4 else 0

def parse (gen : Nat) (b : List Byte) (exts : List (List Byte)) : Desc :=
  let d : Desc := { gen := gen, op := leAt b 0 1, flags := leAt b 1 1, ext := extOf gen b, fence := leAt b 4 4,
                    fval := 0, count := 0, zero := false, body := b.drop 24, exts := exts }
  match gen with
  | 1 => { d with fval := leAt b 8 4, count := leAt b 12 3, zero := zeroAt b 2 2 && zeroAt b 15 1, body := b.drop 16 }
  | 2 => { d with fval := leAt b 8 8, count := leAt b 16 4, zero := zeroAt b 2 2 && zeroAt b 20 4 }
  | _ => { d with fval := leAt b 8 8, count := leAt b 16 6,
                  zero := decide (leAt b 2 1 < 4) && zeroAt b 3 1 && zeroAt b 22 2 }

/-- The extension slots are in place: a kind, the right position, reserved bytes 0. -/
def extsOk (exts : List (List Byte)) : Bool :=
  exts.zipIdx.all (fun e => leAt e.1 0 1 != 0 && leAt e.1 1 1 == e.2 + 1 && zeroAt e.1 2 6)

/-- Every extension is of one kind. -/
def extKind (exts : List (List Byte)) (k : Nat) : Bool := exts.all (fun e => leAt e 0 1 == k)

/-! ### What a body asks of checks 2 and 5 to 8 -/

/-- A body's demands: its own encodings (checks 2 and 5 and R505, all FORMAT), the handles it names with the kind each
needs (true for FENCE), a channel it needs (check 6), and its ranges under R59. -/
structure Body where
  ok      : Bool
  handles : List (Nat × Bool) := []
  chan    : Bool := true
  ranges  : List (Nat × Nat × Nat) := []

def badBody : Body := { ok := false }

/-- The two handles name one object. -/
def State.sameObj (s : State) (cab ctx h1 h2 : Nat) : Bool :=
  h1 == h2 || (s.owns cab ctx h1 && s.owns cab ctx h2 && (s.obj (handleIdx h1)).orig == (s.obj (handleIdx h2)).orig)

/-- A fence value a body may carry. -/
def valueOk (v : Nat) : Bool := decide (v ≤ 2 ^ 63 - 2)

/-- A row format with its width (R243, R247): a code of R230, a whole number of MX blocks. -/
def rowFmtOk (fmt h : Nat) : Bool := decide (fmt ≤ 10) && (!codeMx fmt || h % 32 == 0)
def widthOk (h : Nat) : Bool := decide (1 ≤ h) && decide (h ≤ 16384)

/-- KERNEL and LAYER_STEP (R182 to R184); a gen1 KERNEL declares no output. -/
def tileBody (d : Desc) : Body :=
  let b := d.body
  let ctrl := leAt b 4 4
  let nout := bitsOf ctrl 12 9
  let tiles := bitsOf ctrl 8 0
  let raw := (b.drop 16).take 24 ++ d.exts.flatMap (fun e => (e.drop 8).take 48)
  let outs := outRanges nout b d.exts
  let aux := leAt b 8 4
  { ok := !ctrl.testBit 15 && decide (1 ≤ tiles) && decide (tiles ≤ 256) &&
      decide (nout ≤ if d.gen = 1 then 0 else if d.gen = 2 then 2 else 8) &&
      d.ext == (nout - 2 + 3) / 4 && extKind d.exts 1 && d.exts.all (fun e => zeroAt e 56 8) &&
      zeroAt raw (12 * nout) (raw.length - 12 * nout) && leAt b 0 4 != 0 && outs.all (fun r => r.1 != 0),
    handles := (leAt b 0 4, false) :: (aux, false) :: outs.map (fun r => (r.1, false)),
    ranges := (if d.op = 0x01 then [(aux, 64 * leAt b 12 4, 0)] else []) ++
      outs.map (fun r => (r.1, 64 * r.2.1, 64 * r.2.2)) }

/-- REQUEST (R160, R161). -/
def requestBody (d : Desc) : Body :=
  let b := d.body
  let h (o : Nat) := leAt b o 4
  { ok := decide (h 16 < 2 ^ 24) && h 16 != 0 && decide (h 20 < 2 ^ 24) && h 4 != h 0 && h 0 != 0 && h 8 != 0,
    handles := [(h 0, false), (h 4, false), (h 8, false), (h 12, true), (h 36, true)],
    ranges := [(h 8, 0, 4 * (h 16 + h 20))] }

/-- MOVE (R222, R223). -/
def moveBody (s : State) (cab ctx : Nat) (d : Desc) : Body :=
  let b := d.body
  let dst := leAt b 0 4
  let src := leAt b 4 4
  let doff := if d.gen = 1 then leAt b 8 4 else leAt b 8 8
  let soff := if d.gen = 1 then leAt b 12 4 else leAt b 16 8
  let ch := if d.gen = 1 then 0 else leAt b 24 4
  let sf := if d.gen = 1 then 0 else leAt b 28 1 % 16
  let df := if d.gen = 1 then 0 else leAt b 28 1 / 16
  match moveCounts sf df d.count with
  | none => badBody
  | some n =>
    { ok := decide (sf ≤ 10) && decide (df ≤ 10) && (d.gen == 1 || (decide (leAt b 29 1 < 2) && zeroAt b 30 10)) &&
        dst != 0 && src != 0 && !(s.sameObj cab ctx dst src && overlaps soff d.count doff n),
      handles := [(dst, false), (src, false)], chan := ch == 0 || (s.liveChan cab ctx ch).isSome,
      ranges := [(dst, doff, n), (src, soff, d.count)] }

/-- PREFETCH (R148). -/
def prefetchBody (s : State) (cab ctx : Nat) (d : Desc) : Body :=
  let b := d.body
  let dst := leAt b 0 4
  let src := leAt b 4 4
  { ok := decide (leAt b 24 1 < 4) && zeroAt b 25 15 && dst != 0 && src != 0 &&
      !(s.sameObj cab ctx dst src && overlaps (leAt b 8 8) d.count (leAt b 16 8) d.count),
    handles := [(dst, false), (src, false)],
    ranges := [(dst, leAt b 8 8, d.count), (src, leAt b 16 8, d.count)] }

/-- ADVISE (R150). -/
def adviseBody (d : Desc) : Body :=
  let b := d.body
  let h := leAt b 0 4
  let off := leAt b 8 8
  let inval := leAt b 4 1 == 4
  { ok := decide (1 ≤ leAt b 4 1) && decide (leAt b 4 1 ≤ 4) && decide (leAt b 5 1 ≤ if inval then 1 else 0) &&
      decide (leAt b 6 1 < 2) && zeroAt b 7 1 && zeroAt b 16 24 &&
      (if inval then h == 0 && decide (off + d.count ≤ 2 ^ 57) else h != 0),
    handles := [(h, false)],
    ranges := [(h, off, d.count)] }

/-- DISPATCH LAND and UNLAND (R242, R243). -/
def landBody (d : Desc) : Body :=
  let b := d.body
  if leAt b 0 1 = 3 then { ok := decide (leAt b 1 1 < 16) && zeroAt b 2 38 && d.ext == 0 }
  else
    let l : Landing :=
      { cab := 0, group := 0, ctx := 0, handle := 0, base := 0, h := leAt b 20 2,
        fmt := leAt b 22 1, lexperts := leAt b 24 2, ranks := leAt b 26 2, cap := leAt b 28 4, bufs2 := (leAt b 3 1).testBit 0,
        arrive := leAt b 32 4, consumed := leAt b 36 4, resv := 0, last := [] }
    { ok := decide (leAt b 1 1 < 16) && zeroAt b 2 1 && decide (leAt b 3 1 < 2) && zeroAt b 8 12 && widthOk l.h &&
        rowFmtOk l.fmt l.h && zeroAt b 23 1 && decide (1 ≤ l.lexperts) && decide (l.lexperts ≤ 256) &&
        decide (1 ≤ l.ranks) && decide (l.ranks ≤ 1024) && decide (1 ≤ l.cap) && decide (l.cap ≤ 65536) &&
        leAt b 4 4 != 0 && l.arrive != 0 && l.consumed != 0 && d.ext == 0,
      handles := [(leAt b 4 4, false), (l.arrive, true), (l.consumed, true)],
      ranges := [(leAt b 4 4, 0, l.nparts * l.partBytes)] }

/-- DISPATCH ROUTE (R247, R248). -/
def routeBody (d : Desc) : Body :=
  let b := d.body
  let x := (d.exts.getD 0 []).drop 8
  let k := leAt b 2 1
  let rows := leAt b 16 4
  let h := leAt b 20 2
  let xf := leAt b 22 1 % 16
  let rf := leAt b 23 1
  let obj (i : Nat) := leAt x (12 * i) 4
  let off (i : Nat) := leAt x (12 * i + 4) 8
  { ok := d.ext == 1 && extKind d.exts 2 && zeroAt x 48 8 && zeroAt b 1 1 && decide (1 ≤ k) && decide (k ≤ 16) &&
      decide (leAt b 3 1 < 2) && valueOk (leAt b 8 8) && decide (1 ≤ rows) && decide (rows ≤ 65536) && widthOk h &&
      rowFmtOk xf h && decide (leAt b 22 1 / 16 ≤ 1) && rowFmtOk rf h && decide (leAt b 26 2 < 1024) &&
      zeroAt b 30 10 && off 0 % 64 == 0 && off 1 % 64 == 0 && off 2 % 8 == 0 && off 3 % 64 == 0 &&
      leAt b 4 4 != 0 && obj 0 != 0 && obj 1 != 0 && obj 2 != 0 && obj 3 != 0,
    handles := [(leAt b 4 4, false), (obj 0, false), (obj 1, false), (obj 2, false), (obj 3, false)],
    ranges := [(obj 0, off 0, rows * up64 (rowBytes xf h)), (obj 2, off 2, rows * (8 + 8 * k)),
               (obj 3, off 3, rows * k * up64 (rowBytes rf h))] }

/-- DISPATCH RETURN (R257). -/
def returnBody (d : Desc) : Body :=
  let b := d.body
  { ok := d.ext == 0 && decide (leAt b 1 1 < 16) && zeroAt b 2 2 && zeroAt b 16 4 && widthOk (leAt b 20 2) &&
      rowFmtOk (leAt b 22 1) (leAt b 20 2) && zeroAt b 23 9 && leAt b 32 8 % 64 == 0 && leAt b 4 4 != 0,
    handles := [(leAt b 4 4, false)] }

def dispatchBody (d : Desc) : Body :=
  match leAt d.body 0 1 with
  | 0 => routeBody d
  | 1 => returnBody d
  | 2 => landBody d
  | 3 => landBody d
  | _ => badBody

/-- COMBINE (R259). -/
def combineBody (d : Desc) : Body :=
  let b := d.body
  let f := leAt b 2 1 / 16
  let stats := (leAt b 3 1).testBit 0
  { ok := d.ext == 0 && leAt b 2 1 % 16 == 0 && (f == 1 || (decide (5 ≤ f) && decide (f ≤ 10))) && decide (leAt b 3 1 < 4) &&
      leAt b 4 4 != 0 && leAt b 8 8 % 64 == 0 && (leAt b 16 4 != 0) == stats && zeroAt b 20 4 && leAt b 24 8 % 16 == 0 &&
      zeroAt b 32 8,
    handles := [(leAt b 4 4, false), (leAt b 16 4, false)] }

/-- TABLE_LOAD (R277, R278). -/
def tableBody (d : Desc) : Body :=
  let b := d.body
  let op := leAt b 0 1
  let img := leAt b 4 4
  let res := leAt b 20 4
  { ok := decide (op ≤ 2) && zeroAt b 1 3 && (if op = 2 then zeroAt b 4 12 else img != 0 && leAt b 8 8 % 64 == 0) &&
      (if op = 0 then zeroAt b 16 2 && res != 0 && leAt b 24 8 % 8 == 0
       else zeroAt b 20 12) && zeroAt b 18 2 && zeroAt b 32 8,
    handles := [(img, false), (res, false)],
    ranges := [(img, leAt b 8 8, 1088), (res, leAt b 24 8, 8)] }

/-- SIGNAL (R96). -/
def signalBody (d : Desc) : Body :=
  let b := d.body
  let local_ := leAt b 0 1 == 0
  { ok := decide (leAt b 0 1 ≤ 1) && zeroAt b 1 3 && valueOk (leAt b 8 8) && zeroAt b 16 (b.length - 16) &&
      (if local_ then leAt b 4 4 != 0 else decide (leAt b 4 4 < 2 ^ 28)),
    handles := if local_ then [(leAt b 4 4, true)] else [] }

/-- WAIT (R98). -/
def waitBody (d : Desc) : Body :=
  let b := d.body
  { ok := valueOk (leAt b 8 8) && zeroAt b 16 (b.length - 16) && leAt b 0 4 != 0, handles := [(leAt b 0 4, true)] }

/-- QUERY (R84). -/
def queryBody (d : Desc) : Body :=
  let b := d.body
  { ok := leAt b 4 4 % 64 == 0 && decide (leAt b 8 1 ≤ 1) && zeroAt b 9 (b.length - 9) && leAt b 0 4 != 0,
    handles := [(leAt b 0 4, false)], ranges := [(leAt b 0 4, leAt b 4 4, 64)] }

/-- SWAP_IN and SWAP_OUT (R200). -/
def swapBody (s : State) (d : Desc) : Body :=
  let b := d.body
  let save := leAt b 0 4
  let st := leAt b 16 2
  let stOk := decide (1 ≤ st) && decide (st ≤ 256)
  { ok := zeroAt b 4 4 && leAt b 8 8 % 8192 == 0 && zeroAt b 19 21 &&
      (if d.op = 0x50 then save != 0 && stOk && decide (leAt b 18 1 < 8)
       else decide (leAt b 18 1 < 4) && if save = 0 then st == 0 else stOk),
    handles := [(save, false)], ranges := [(save, leAt b 8 8, st * s.stateBytes)] }

/-- CHANNEL_CREATE (R218). -/
def chanCreateBody (d : Desc) : Body :=
  let b := d.body
  { ok := zeroAt b 4 4 && leAt b 8 8 % 8 == 0 && zeroAt b 16 24 && leAt b 0 4 != 0,
    handles := [(leAt b 0 4, false)], ranges := [(leAt b 0 4, leAt b 8 8, 8)] }

/-- CHANNEL_DESTROY (R219). -/
def chanDestroyBody (s : State) (cab ctx : Nat) (d : Desc) : Body :=
  let b := d.body
  { ok := decide (leAt b 4 1 < 2) && zeroAt b 5 35 && leAt b 0 4 != 0, chan := (s.liveChan cab ctx (leAt b 0 4)).isSome }

/-- The demands of a body by its opcode; an opcode without an extension of its own takes none. -/
def bodyOf (s : State) (cab ctx : Nat) (d : Desc) : Body :=
  let plain (b : Body) : Body := { b with ok := b.ok && d.ext == 0 }
  match d.op with
  | 0x01 => tileBody d
  | 0x02 => tileBody d
  | 0x03 => plain (requestBody d)
  | 0x10 => plain (moveBody s cab ctx d)
  | 0x11 => plain (prefetchBody s cab ctx d)
  | 0x12 => plain (adviseBody d)
  | 0x20 => dispatchBody d
  | 0x21 => combineBody d
  | 0x22 => plain (tableBody d)
  | 0x30 => plain (signalBody d)
  | 0x31 => plain (waitBody d)
  | 0x40 => plain (queryBody d)
  | 0x50 => plain (swapBody s d)
  | 0x51 => plain (swapBody s d)
  | 0x60 => plain (chanCreateBody d)
  | 0x61 => plain (chanDestroyBody s cab ctx d)
  | _ => badBody

/-! ### Checks 1 to 8 (R77) -/

/-- The handle's object is of the kind asked for: FENCE or DATA. -/
def State.kindOk (s : State) (h : Nat × Bool) : Bool := (s.obj (handleIdx h.1)).fence == h.2

/-- R59 on a range of the object that a handle names. -/
def State.inBounds (s : State) (r : Nat × Nat × Nat) : Bool := decide (r.2.1 + r.2.2 ≤ (s.obj (handleIdx r.1)).len)

/-- Every non-zero handle of the descriptor, FENCE included, with the kind it needs. -/
def Desc.named (d : Desc) (b : Body) : List (Nat × Bool) := ((d.fence, true) :: b.handles).filter (fun h => h.1 != 0)

/-- Checks 1 to 5. -/
def formOk (mode : Nat) (d : Desc) (b : Body) : Bool :=
  match opRow d.op with
  | none => false
  | some r =>
    r.inGen d.gen && d.zero && decide (d.flags < 4) && (r.count || d.count == 0) && extsOk d.exts && r.inMode mode &&
    (d.fence == 0 || valueOk d.fval) && b.ok

/-- The first failing check's status, and whether an error may be attached to FENCE (R78). -/
def State.validate (s : State) (cab ctx mode : Nat) (d : Desc) : Option Nat × Bool :=
  let b := bodyOf s cab ctx d
  if !formOk mode d b then (some stFormat, false)
  else
    let hs := d.named b
    let fenceOk := d.fence != 0 && s.owns cab ctx d.fence && (s.obj (handleIdx d.fence)).fence
    if !(hs.all (fun h => s.owns cab ctx h.1) && b.chan) then (some stDenied, fenceOk)
    else if !hs.all s.kindOk then (some stFormat, fenceOk)
    else if !(b.ranges.filter (fun r => r.1 != 0)).all s.inBounds then (some stBound, fenceOk)
    else (none, fenceOk)

/-- The handles a descriptor holds references on (R79): the context's own that it names, once validation has reached
check 6. -/
def refsOf (s : State) (cab ctx mode : Nat) (d : Desc) : List Nat :=
  let b := bodyOf s cab ctx d
  if formOk mode d b then ((d.named b).map (·.1)).eraseDups.filter (s.owns cab ctx) else []

/-- A layer image of a model record (R157, R185): a gen3 base with its fixed fields, valid as a LAYER_STEP. -/
def State.layerImage (s : State) (cab ctx : Nat) (img : List Byte) : Option Nat :=
  let d := parse 3 img []
  if d.op != 2 || d.flags != 0 || leAt img 2 1 != 0 || d.fence != 0 || d.fval != 0 || d.count != 0 ||
      !zeroAt d.body 8 8 then some stFormat
  else (s.validate cab ctx 0 d).1

end Sys2Proof.Machine
end

