-- ==== Sys2Proof/Machine/TransCmds.lean ====
section
/-! DEFINITION. The Translation Unit's operations and events (chapter 04). -/
namespace Sys2Proof.Machine

/-! ### Requests of the tiles -/

/-- Fail a request: a tile gets the status; another requester finds it when it next looks. -/
def State.failReq (s : State) (r : Req) (st u : Nat) (hard : Bool := false) : State :=
  match r.src with
  | .tile t wr =>
    let s := (s.dropReq r.id).noteErr r.owner r.ord st u hard
    if wr then s.emit (.tileWrite t r.tag st) else s.emit (.tileRead t r.tag st [])
  | _ => s.setReq { r with phase := .failed st u }

/-- The runs of a masked write within a line: offset and bytes of each run of written bytes. -/
def maskRuns : Nat → List Bool → List Byte → List (Nat × List Byte)
  | o, true :: ms, b :: bs =>
    match maskRuns (o + 1) ms bs with
    | (p, r) :: l => if p = o + 1 then (o, b :: r) :: l else (o, [b]) :: (p, r) :: l
    | [] => [(o, [b])]
  | o, false :: ms, _ :: bs => maskRuns (o + 1) ms bs
  | _, _, _ => []

/-- The command whose run a tile request belongs to. -/
def State.ownerCmd (s : State) (o : Option Owner) : Option Cmd :=
  match o with
  | some (.cmd cab n) => s.cmd cab n
  | _ => none

/-- Every byte lies inside a declared range (R135). -/
def Cmd.declared (c : Cmd) (va n : Nat) : Bool := (List.range n).all (fun i => c.outs.any (fun r => inRange r.1 r.2 (va + i)))

/-- Land the runs of a committing write (R135, R138, R141, R142). -/
def landRuns (r : Req) (c : Cmd) (p : Nat) : List (Nat × List Byte) → State → ShadowRes × State
  | [], s => (.ok, s)
  | (o, bs) :: l, s =>
    match s.shadowWrite (.cmd c.cab c.n) { m := .cab c.cab, unit := r.unit, ctx := some c.ctx } c.cab c.ctx (r.va + o)
        (p + o) bs with
    | (.ok, s) => landRuns r c p l s
    | e => e

/-- Land the runs of a write that does not commit. -/
def placeRuns (a : Asker) (host : Bool) (p : Nat) : List (Nat × List Byte) → State → Res Unit × State
  | [], s => (.ok (), s)
  | (o, bs) :: l, s =>
    match s.writeAt a host (p + o) bs with
    | (.ok _, s) => placeRuns a host p l s
    | e => e

/-- Carry out a translated tile request. -/
def serveTile (r : Req) (host : Bool) (p : Nat) (rm : Bool) (s : State) : State :=
  match r.src, s.ownerCmd r.owner with
  | .tile t wr, some c =>
    let w : Who := { m := .cab c.cab, unit := r.unit, ctx := some c.ctx }
    let a : Asker := { src := r.src, unit := r.unit, cab := c.cab, ctx := c.ctx }
    if !wr then
      match (if host then (s.hostReadFor c.cab p r.len, s)
             else (s.resolve p r.len).readLoc w p (if c.direct then s.locate p else s.ownPlace (.cmd c.cab c.n) p) r.len) with
      | (.ok bs, s) => (s.dropReq r.id).emit (.tileRead t r.tag stDone bs)
      | (.bad st u, s) => s.failReq r st u
    else
      let runs := maskRuns 0 r.mask r.data
      if c.direct then
        match placeRuns a host p runs s with
        | (.ok _, s) => (s.dropReq r.id).emit (.tileWrite t r.tag stDone)
        | (.bad st u, s) => s.failReq r st u
      else if !runs.all (fun x => c.declared (r.va + x.1) x.2.length) then s.failReq r stDenied uTu true
      else if host || !rm then s.failReq r stXlate uTu true
      else match landRuns r c p runs s with
        | (.ok, s) => (s.dropReq r.id).emit (.tileWrite t r.tag stDone)
        | (.bad st u, s) => s.failReq r st u
        | (.fail st u, s) => s.failReq r st u true
        | (.conflict o, s) =>
          ((s.dropReq r.id).killCmd c.cab c.n 2 [.shadowOf o]).bump (rTuCstat c.cab) 31 16
        | (.stall, s) =>
          if s.tu.reqs.any (fun q => q.id == r.id) then s.setReq { r with phase := .shadow, since := if r.phase == .shadow then r.since else s.mono }
          else s.addReq { r with phase := .shadow, since := s.mono }
  | _, _ => s.dropReq r.id

/-- Go on with a recorded request whose translation attempt answered `x`: a tile's is carried out, an engine asks again. A
failed translation fails its command (R118, R125, R128). -/
def tileGoes (r : Req) (x : Xl × State) : State :=
  match x with
  | (.ok host p rm, s) => serveTile r host p rm s
  | (.bad st u, s) => s.failReq r st u true
  | (.wait q, s) => s.setReq { r with phase := q.phase, since := s.mono, leafW := q.leafW }

def Req.asker (r : Req) : Asker :=
  { src := r.src, unit := r.unit, cab := r.cab, ctx := r.ctx, owner := r.owner, tag := r.tag, service := r.service,
    capped := r.capped, id := some r.id }

/-- Look a recorded tile request up afresh: a hit goes on, a miss waits for a walk (R122); in the unit's reset it waits for
the return (R155). -/
def retryTile (r : Req) (s : State) : State :=
  match (if s.resetting uTu then none else s.lookup r.cab r.ctx r.va) with
  | some e => tileGoes r (s.useLook r.asker e r.va r.write)
  | none => s.setReq { r with phase := .miss false, since := s.mono }

/-- A stalled request is released to translate afresh: a tile's request is looked up again, an engine asks again. -/
def releaseReq (r : Req) (s : State) : State :=
  match r.src with
  | .tile .. => retryTile r s
  | _ => s.dropReq r.id

/-! ### Walks (R123, R124) -/

/-- A walk slot is free for a cabinet: 512 in all, and a cabinet at its share waits while another's miss waits (R123). -/
def State.walkRoom (s : State) (cab : Nat) : Bool :=
  let mine := (s.tu.walks.filter (fun w => w.cab == cab)).length
  let others := s.tu.reqs.any (fun q => q.cab != cab && match q.phase with | .miss _ => true | _ => false)
  decide (s.tu.walks.length < 512) && !(others && decide (max 16 (512 * (s.cab cab).memFloor / 1024) ≤ mine))

def walkStartReq (id : Nat) (s : State) : State :=
  match s.tu.reqs.find? (fun r => r.id == id) with
  | some r => match r.phase with
    | .miss counted =>
      let page := r.va / 65536
      if s.tu.walks.any (fun w => w.cab == r.cab && w.ctx == r.ctx && w.page == page) then
        (s.setReq { r with phase := .walk }).bump (rTuCstat r.cab) 47 32
      else
        if !s.walkRoom r.cab then
          if counted then s else (s.setReq { r with phase := .miss true }).bump rTuGstat 63 48
        else
          let s := s.setReq { r with phase := .walk }
          { s with tu := { s.tu with walks := s.tu.walks ++ [{ cab := r.cab, ctx := r.ctx, page := page }] } }
    | _ => s
  | none => s

/-- A translation miss starts its walk once a slot is free for its cabinet. -/
def execWalkStart (req : Nat) (s : State) : Host.Outcome State Fault Refusal := .next (s.work uTu (walkStartReq req))

/-- A walk's reads resolve: every attached request goes on. -/
def walkEnds (cab ctx page : Nat) (s : State) : State :=
  if s.tu.walks.any (fun w => w.cab == cab && w.ctx == ctx && w.page == page) then
    let s := { s with tu := { s.tu with walks := s.tu.walks.filter (fun w => !(w.cab == cab && w.ctx == ctx && w.page == page)) } }
    let mine := s.tu.reqs.filter (fun r => r.cab == cab && r.ctx == ctx && r.va / 65536 == page && r.phase == .walk)
    let w := s.walk cab ctx (page * 65536)
    match w.1 with
    | .malformed => mine.foldl (fun s r => s.failReq r stXlate uTu true) (w.2.bump rTuGstat 47 32)
    | .fail st u => mine.foldl (fun s r => s.failReq r st u true) w.2
    | e => mine.foldl (fun s r => tileGoes r (s.afterWalk r.asker r.va r.write e)) w.2
  else s

def execWalkComplete (cab : CabId) (ctx : CtxId) (page : Nat) (s : State) : Host.Outcome State Fault Refusal :=
  .next (s.work uTu (walkEnds cab.val ctx.val page))

/-! ### The fault queue (R128 to R132, R154) -/

/-- The 64 bytes of a device fault record (R130). -/
def tuRecord (r : FaultRec) (ph now : Nat) : List Byte :=
  toLe 8 (r.f % 2 ^ 32 * 2 ^ 32 + r.ctx * 2 ^ 16 + r.kind * 2 ^ 8 + r.level * 2 ^ 5 + bit r.write * 2 + ph) ++
  toLe 8 (r.page * 65536) ++ toLe 8 r.unit ++ toLe 8 now ++ toLe 32 0

/-- Write to a cabinet's fault ring or notify word: host as its function, device as its master. -/
def State.fqPut (s : State) (cab : Nat) (host : Bool) (p : Nat) (bs : List Byte) : State :=
  if host then (s.hostWrite (s.funcOf cab) p bs).2 else (s.devWrite { m := .cab cab, unit := uTu } p bs).2

/-- Where record `f` of a cabinet lies. -/
def State.fqSlot (s : State) (cab f : Nat) : Nat := (s.reg (rFqBase cab)).toNat + f % 2 ^ s.rfld (rFqCfg cab) 12 8 * 64

/-- The slot of the next record is free: the record one ring earlier has been answered (R132). -/
def State.fqRoom (s : State) (r : FaultRec) : Bool :=
  !s.tu.faults.any (fun q => q.cab == r.cab && q.written && q.f + 2 ^ s.rfld (rFqCfg r.cab) 12 8 == r.f)

def updFault (s : State) (cab f : Nat) (g : FaultRec → FaultRec) : State :=
  { s with tu := { s.tu with faults := updWhere (fun r => r.cab == cab && r.f == f) g s.tu.faults } }

def recordWrite (cab : Nat) (s : State) : State :=
  match s.tu.faults.find? (fun r => r.cab == cab && !r.written) with
  | some r =>
    if s.fqOn cab && s.fqRoom r then
      let host := s.rfld (rFqCfg cab) 1 1 == 1
      let log2 := s.rfld (rFqCfg cab) 12 8
      let bs := tuRecord r (ringSlot r.f log2).2 s.now
      let s := (s.fqPut cab host (s.fqSlot cab r.f + 8) (bs.drop 8)).fqPut cab host (s.fqSlot cab r.f) (bs.take 8)
      let s := s.setRfld (rFqStat cab) 31 0 ((r.f + 1) % 2 ^ 32)
      let s := if s.reg (rFqNotify cab) = 0 then s
        else s.fqPut cab (s.rfld (rFqCfg cab) 2 2 == 1) (s.reg (rFqNotify cab)).toNat (toLe 8 (r.f + 1))
      let s := updFault s cab r.f (fun q => { q with written := true, writtenAt := s.mono })
      let reqs := updWhere (fun q => q.cab == cab && q.phase == .fault r.f) (fun q => { q with since := s.mono }) s.tu.reqs
      { s with tu := { s.tu with reqs := reqs } }
    else s
  | none => s

/-- The next fault record goes to the ring once its slot is free, then the notify write. -/
def execFaultRecordWrite (cab : CabId) (s : State) : Host.Outcome State Fault Refusal :=
  .next (s.work uTu (recordWrite cab.val))

/-- The response word of a written record. -/
def State.fqResponse (s : State) (cab f : Nat) : Nat :=
  let p := s.fqSlot cab f + 32
  if s.rfld (rFqCfg cab) 1 1 = 1 then leNat (memRead s.hostMem p 8) else leNat (memRead s.dev (s.locate p) 8)

/-- The record is pending and its response word answers it with this RESP (R131). -/
def State.answered (s : State) (cab f resp : Nat) : Bool :=
  s.tu.faults.any (fun r => r.cab == cab && r.f == f && r.written) &&
  bitsOf (s.fqResponse cab f) 63 32 == f % 2 ^ 32 && bitsOf (s.fqResponse cab f) 1 0 == resp

def attached (s : State) (cab f : Nat) : List Req := s.tu.reqs.filter (fun r => r.cab == cab && r.phase == .fault f)

def dropFault (s : State) (cab f : Nat) : State :=
  { s with tu := { s.tu with faults := s.tu.faults.filter (fun r => !(r.cab == cab && r.f == f)) } }

/-- RETRY releases the attached streams to translate afresh (R129, R131). -/
def faultRetry (cab f : Nat) (s : State) : State :=
  match s.tu.faults.find? (fun r => r.cab == cab && r.f == f) with
  | some r =>
    let reqs := attached s cab f
    let s := (dropFault s cab f).dropLook cab r.ctx (r.page * 65536) (r.page * 65536 + 65536)
    reqs.foldl (fun s q => releaseReq q s) s
  | none => s

/-- FAIL fails every attached request with XLATE (R131). -/
def faultFail (cab f : Nat) (s : State) : State :=
  (attached s cab f).foldl (fun s q => s.failReq q stXlate uTu true) (dropFault s cab f)

def execFaultRetry (cab : CabId) (record : Nat) (s : State) : Host.Outcome State Fault Refusal :=
  .next (s.work uTu fun s => if s.answered cab.val record 1 then faultRetry cab.val record s else s)

def execFaultFail (cab : CabId) (record : Nat) (s : State) : Host.Outcome State Fault Refusal :=
  .next (s.work uTu fun s => if s.answered cab.val record 2 then faultFail cab.val record s else s)

/-- FAULT_US in ns; 0 acts as 1. -/
def State.faultNs (s : State) : Nat := max 1 (s.rfld rTuCfg 15 0) * 1000

/-- An attached request's own limit passes without a response: TIMEOUT (R127, R132). -/
def execFaultTimeout (req : Nat) (s : State) : Host.Outcome State Fault Refusal :=
  .next (s.work uTu fun s => match s.tu.reqs.find? (fun r => r.id == req) with
    | some r =>
      if s.mono < r.since + s.faultNs then s
      else match r.phase with
        | .fault _ => s.failReq r stTimeout uTu true
        | .pri _ | .priWait => (s.failReq r stTimeout uTu true).priFail
        | _ => s
    | none => s)

/-- `[p, e)` lies in a list of spans, in one of them or across adjoining ones. -/
def coveredBy (l : List (Nat × Nat)) : Nat → Nat → Nat → Bool
  | 0, _, _ => false
  | k + 1, p, e => match l.find? (fun r => inRange r.1 r.2 p) with
    | some r => decide (e ≤ r.1 + r.2) || coveredBy l k (r.1 + r.2) e
    | none => false

/-- Whether a device range lies in the cabinet's shelf, in one of its ranges or across adjoining ones, outside the reserve. -/
def State.inShelfFree (s : State) (cab p n : Nat) : Bool :=
  let c := (s.cab cab).conf
  (s.cab cab).holds && coveredBy (c.ranges.map (·.2)) 9 p (p + n) && !c.meetsReserve p n

/-- R154: the conditions under which EN can be set. -/
def State.fqReady (s : State) (cab : Nat) (cfg : Word) : Bool :=
  let log2 := fld cfg 12 8
  let base := (s.reg (rFqBase cab)).toNat
  decide (4 ≤ log2) && decide (log2 ≤ 16) && base % 64 == 0 && (s.reg (rFqNotify cab)).toNat % 8 == 0 &&
  (fld cfg 1 1 == 1 || s.inShelfFree cab base (2 ^ log2 * 64))

/-- A write of TU_FQ_CFG(n) (R132, R153, R154). -/
def fqWrite (cab : Nat) (v : Word) (s : State) : State :=
  let old := s.reg (rFqCfg cab)
  let asked := pack [(8, fld v 12 8), (2, fld v 2 2), (1, fld v 1 1)]
  if fld old 0 0 = 1 then
    if fld v 0 0 = 1 then s.setReg (rFqCfg cab) (setFld old 2 2 (fld v 2 2))
    else
      let s := (s.tu.faults.filter (fun r => r.cab == cab)).foldl (fun s r => faultFail cab r.f s) s
      s.setReg (rFqCfg cab) (setFld (setFld old 2 2 (fld v 2 2)) 0 0 0)
  else if fld v 0 0 = 1 && s.fqReady cab asked then
    let s := (s.setReg (rFqCfg cab) (setFld asked 0 0 1)).setRfld (rFqStat cab) 31 0 0
    { s with tu := { s.tu with fq := mapSet 0 cab 0 s.tu.fq } }
  else s.setReg (rFqCfg cab) asked

/-- The platform writes TU_FQ_CFG with EN 1. -/
def execTuFqEnable (func : Func) (cab : CabId) (value : Word) (s : State) : Host.Outcome State Fault Refusal :=
  .next (s.platform func.val (rFqCfg cab.val) (some (setFld value 0 0 1)) fun s => fqWrite cab.val (setFld value 0 0 1) s)

/-- The platform writes TU_FQ_CFG with EN 0. -/
def execTuFqDisable (func : Func) (cab : CabId) (value : Word) (s : State) : Host.Outcome State Fault Refusal :=
  .next (s.platform func.val (rFqCfg cab.val) (some (setFld value 0 0 0)) fun s => fqWrite cab.val (setFld value 0 0 0) s)

/-! ### Host pages (R125 to R127) -/

/-- Page requests of a function that have no response yet, whether or not their requester still waits (R127). -/
def State.priOut (s : State) (f : Nat) : Nat := (s.tu.priOpen.filter (fun e => e.2 == f)).length

/-- Issue a page request for a request, or let it wait beyond the allocation. -/
def pageRequest (r : Req) (s : State) : State :=
  let f := s.funcOf r.cab
  if s.priOut f < fld (mapGet 0 f s.hg.cfg) 63 32 then
    let g := s.tu.groups
    (({ s with tu := { s.tu with groups := g + 1, priOpen := (g, f) :: s.tu.priOpen } }).setReq { r with phase := .pri g }).emit
      (.pageRequest g f (r.va / 4096 * 4096) (s.hostPasid r.cab r.ctx) r.write)
  else s.setReq { r with phase := .priWait }

/-- A host page found absent or without permission (R127, R133). -/
def hostFault (r : Req) (s : State) : State :=
  let f := s.funcOf r.cab
  if !s.funcBme f then s.failReq r stDenied uHost true
  else if !r.service || fld (mapGet 0 f s.hg.cfg) 8 8 = 0 || s.tu.priOff.contains f then (s.failReq r stXlate uTu true).priFail
  else pageRequest r { s with tu := { s.tu with reqs := updWhere (fun q => q.id == r.id) (fun q => { q with since := s.mono }) s.tu.reqs } }

/-- Page requests that waited for the allocation go out as far as it now allows. -/
def priRefill (s : State) : State :=
  (s.tu.reqs.filter (fun r => r.phase == .priWait)).foldl (fun s r => pageRequest r s) s

/-! ### Withdrawal (R126, R147) -/

/-- A host translation being asked for is asked for again under a new request number: an answer to the old request is to the
old translation (R147 step 1). -/
def State.renewHost (s : State) (r : Req) : State :=
  match r.phase with
  | .ats | .pri _ | .priWait => (s.dropReq r.id).addReq { r with phase := .miss false, since := s.mono }
  | _ => s

/-- Steps 1 and 2 of a withdrawal, and its wait for the sequence point. `host` for an ATS Invalidate Request. -/
def State.withdraw (s : State) (ctxs : List (Nat × Nat)) (lo hi : Nat) (host : Option (Nat × Nat))
    (desc : Option (Nat × Nat × Nat)) : State :=
  let s := if host.isSome then
      { s with tu := { s.tu with look := s.tu.look.filter (fun e =>
          !(e.host && ctxs.contains (e.cab, e.ctx) && overlaps e.va e.size lo (hi - lo))) } }
    else
      let s := ctxs.foldl (fun s c => s.dropLook c.1 c.2 lo hi) s
      (s.tu.grans.filter (fun e => e.2.vias.any (fun v => overlaps (v * 65536) 65536 lo (hi - lo)))).foldl (fun s e =>
        match e.2.shadow with
        | some (.cmd cab n, _) => if ctxs.contains (cab, e.2.viaCtx) then s.killCmd cab n 4 else s
        | some (.dce cab d q, _) => if ctxs.contains (cab, e.2.viaCtx) then s.killOwner (.dce cab d q) 4 else s
        | _ => s) s
  let s := (s.tu.reqs.filter (fun r => ctxs.contains (r.cab, r.ctx) &&
    overlaps (r.va / 65536 * 65536) 65536 lo (hi - lo))).foldl State.renewHost s
  { s with tu := { s.tu with
      nextWd := s.tu.nextWd + 1,
      withdraws := s.tu.withdraws ++ [{ id := s.tu.nextWd, ctxs := ctxs, lo := lo, hi := hi, host := host, desc := desc }] } }

/-- The contexts whose host traffic a function carries, with a PASID or without (R126). -/
def State.ctxsOfFunc (s : State) (f : Nat) (pasid : Option Nat) : List (Nat × Nat) :=
  (s.drw.ctxs.filter (fun e => e.2.st != .free && (s.cab (e.1 / 16384)).st == .live && s.funcOf (e.1 / 16384) == f &&
    (match pasid with
     | some p => e.2.pasidEn && e.2.pasid == p
     | none => !e.2.pasidEn || fld (mapGet 0 f s.hg.cfg) 9 9 == 0))).map (fun e => (e.1 / 16384, e.1 % 16384))

/-- An ATS Invalidate Request: accepted while fewer than 32 of the function are outstanding. -/
def execAtsInvalidate (func : Func) (itag : Fin 32) (pasid : Option Pasid) (addr len : Nat) (s : State) :
    Host.Outcome State Fault Refusal :=
  .next (s.work uTu fun s =>
    if (s.tu.withdraws.filter (fun w => w.host.any (fun h => h.1 == func.val))).length < 32 then
      (s.bump rTuGstat 31 16).withdraw (s.ctxsOfFunc func.val (pasid.map (·.val))) addr (addr + len)
        (some (func.val, itag.val)) none
    else s)

/-- Old requests have drained: the withdrawal passes the sequence point and completes; a function's invalidations
complete in the order of arrival. -/
def execWithdrawalComplete (id : Nat) (s : State) : Host.Outcome State Fault Refusal :=
  .next (s.work uTu fun s => match s.tu.withdraws.find? (fun w => w.id == id) with
    | some w =>
      let earlier := s.tu.withdraws.any (fun v => decide (v.id < id) && v.host.isSome && v.host.map (·.1) == w.host.map (·.1))
      let killing := w.ctxs.any (fun c => s.ts.cmds.any (fun x => x.cab == c.1 && x.ctx == c.2 &&
        match x.phase with | .killing _ => true | _ => false))
      if earlier || killing then s
      else
        let s := ({ s with tu := { s.tu with withdraws := s.tu.withdraws.filter (fun v => v.id != id) } }).passSeq
        let s := match w.host with
          | some (f, t) => s.emit (.invalidated f t)
          | none => s
        match w.desc with
        | some (c, d, q) => s.endFlight c d q { status := stDone }
        | none => s
    | none => s)

/-! ### Commit, shadow stalls, settling (R139, R142, R143) -/

/-- Commit a command that ended without error, or fail it with its fill's status. -/
def commitCmd (c : Cmd) (s : State) : State :=
  match s.commitOwner (.cmd c.cab c.n) { m := .cab c.cab, unit := uTu, ctx := some c.ctx } with
  | (.ok _, s) => (s.endCmd c stDone none).noteActivity c.cab c.ctx
  | (.bad st u, s) => (s.endCmd c st (some u)).noteActivity c.cab c.ctx

def execCommitByRemap (cab : CabId) (cmd : Nat) (s : State) : Host.Outcome State Fault Refusal :=
  .next (s.work uTu fun s => match s.cmd cab.val cmd with
    | some c => if c.phase == .committing then commitCmd c s else s
    | none => s)

/-- The FREE granules that a stalled write of this owner may take. -/
def State.freeFor (s : State) (r : Req) : Nat :=
  s.poolFree r.cab (match r.owner with | some (.inbound ..) => true | _ => false)

/-- A write stalled for a FREE granule goes on once there is one. -/
def execShadowStallResume (req : Nat) (s : State) : Host.Outcome State Fault Refusal :=
  .next (s.work uTu fun s => match s.tu.reqs.find? (fun r => r.id == req) with
    | some r => if r.phase == .shadow && decide (0 < s.freeFor r) && !s.tu.frozen.contains r.cab
        then releaseReq r s else s
    | none => s)

/-- Of the Dispatch-Combine Engine's, the command that started latest. -/
def latestDce : List DceCmd → Option DceCmd
  | [] => none
  | c :: r => match latestDce r with
    | none => some c
    | some d => if c.start ≤ d.start then some d else some c

/-- SHADOW_WAIT_US has passed for a stalled write: the latest-started holder of shadows is killed (R142). -/
def shadowExpiry (cab : Nat) (s : State) : State :=
  let limit := max 1 (s.rfld rTuCfg 31 16) * 1000
  if s.tu.reqs.any (fun r => r.cab == cab && r.phase == .shadow && decide (r.since + limit ≤ s.mono)) &&
      !s.tu.frozen.contains cab then
    let fresh (s : State) : State :=
      let reqs := updWhere (fun r => r.cab == cab && r.phase == .shadow) (fun r => { r with since := s.mono }) s.tu.reqs
      { s with tu := { s.tu with reqs := reqs } }
    match latestStart (s.shadowHolders cab), latestDce (s.dceHolders cab) with
    | some c, none => fresh ((s.killCmd cab c.n 3 [.granules (s.poolShadows (.cmd cab c.n))]).bump (rTuCstat cab) 31 16)
    | none, some d => fresh ((s.killDce d 3 [.granules (s.poolShadows d.owner)]).bump (rTuCstat cab) 31 16)
    | some c, some d =>
      if c.start ≤ d.start then fresh ((s.killDce d 3 [.granules (s.poolShadows d.owner)]).bump (rTuCstat cab) 31 16)
      else fresh ((s.killCmd cab c.n 3 [.granules (s.poolShadows (.cmd cab c.n))]).bump (rTuCstat cab) 31 16)
    | none, none => s
  else s

def execShadowWaitExpiry (cab : CabId) (s : State) : Host.Outcome State Fault Refusal :=
  .next (s.work uTu (shadowExpiry cab.val))

/-- The oldest commit of a cabinet that settling for the low threshold may take: not shadowed by its home, not failed. -/
def State.oldestCurrent (s : State) (cab : Nat) : Option Nat :=
  ((s.gransOf cab).filter (fun e => e.2.cur.isSome && e.2.shadow.isNone && !e.2.failed)).foldl (fun m e =>
    match m with
    | none => some e.1
    | some h => if e.2.age < (s.gran h).age then some e.1 else m) none

/-- Free granules are below SETTLE_LOW / 64, or a write is stalled for one (R142, R143). -/
def State.settleLow (s : State) (cab : Nat) : Bool :=
  decide (s.poolFree cab false * 64 < s.rfld rTuCfg 37 32 * (s.cab cab).conf.usable) ||
  s.tu.reqs.any (fun r => r.cab == cab && r.phase == .shadow)

/-- What a settling job does with a granule's outcome. -/
def jobAfter (h : Nat) (r : Res Unit) (j : Settling) : Settling :=
  match r with
  | .ok _ => { j with grans := j.grans.filter (fun x => x != h) }
  | .bad st u =>
    if j.desc.isSome then { j with grans := j.grans.filter (fun x => x != h), bad := some (j.bad.getD (st, u)) } else j

/-- End the ADVISE SETTLEs whose granules are all settled. -/
def endJobs (s : State) : State :=
  let done := s.tu.settles.filter (fun j => j.desc.isSome && j.grans.isEmpty)
  let s := { s with tu := { s.tu with settles := s.tu.settles.filter (fun j => !(j.desc.isSome && j.grans.isEmpty)) } }
  done.foldl (fun s j => match j.desc with
    | some (c, d, q) => match j.bad with
      | some (st, u) => s.endFlight c d q { status := st, unit := some u }
      | none => s.endFlight c d q { status := stDone }
    | none => s) s

/-- A settling job may take this granule: no granule of it of an older commit can be settled now (R143). -/
def State.jobTakes (s : State) (h : Nat) (j : Settling) : Bool :=
  j.grans.contains h && !j.grans.any (fun x => (s.gran x).cur.isSome && (s.gran x).shadow.isNone && decide ((s.gran x).age < (s.gran h).age))

def settleTake (cab h : Nat) (s : State) : State :=
  let inJob := s.tu.settles.any (fun j => j.cab == cab && s.jobTakes h j)
  if inJob && (s.gran h).cur.isNone && (s.gran h).shadow.isNone then
    endJobs { s with tu := { s.tu with settles := s.tu.settles.map (fun j => if j.cab == cab then jobAfter h (.ok ()) j else j) } }
  else if s.homeOf cab h && (inJob || (s.settleLow cab && s.oldestCurrent cab == some h)) then
    match s.settleGran cab h with
    | (some r, s) =>
      endJobs { s with tu := { s.tu with settles := s.tu.settles.map (fun j => if j.cab == cab then jobAfter h r j else j) } }
    | (none, s) => s
  else s

/-- One granule is settled; replays held back for granules may go on (R142). -/
def settleOne (cab h : Nat) (s : State) : State := (settleTake cab h s).renewWaits cab

def execSettleGranule (cab : CabId) (home : Nat) (s : State) : Host.Outcome State Fault Refusal :=
  .next (s.work uTu (settleOne cab.val home))

/-! ### ADVISE (R150, R151) -/

/-- An ADVISE of this ADVICE that has been issued. -/
def State.advise (s : State) (cab drawer seq advice : Nat) : Option Flight :=
  match s.issuedOp cab drawer seq 0x12 with
  | some f => if leAt f.body 4 1 = advice then some f else none
  | none => none

def adviseRange (s : State) (f : Flight) : Nat × Nat :=
  ((s.obj (handleIdx (leAt f.body 0 4))).base + leAt f.body 8 8, f.count)

def adviseAsker (f : Flight) : Asker :=
  { src := .drw false, unit := uTu, cab := f.cab, ctx := f.ctx, tag := drwKey f.cab f.drawer + 1,
    service := !(leAt f.body 6 1).testBit 0, capped := true }

def State.done (s : State) (f : Flight) : State := s.endFlight f.cab f.drawer f.seq { status := stDone }

/-- Translate the 64 KiB pages of `[lo, lo+n)` one after another from offset `d`; answers how far that has come. -/
def pagesFrom (a : Asker) (lo n : Nat) : Nat → Nat → State → (Acc Unit × Nat) × State
  | 0, d, s => ((.ok (), d), s)
  | k + 1, d, s =>
    if n ≤ d then ((.ok (), d), s)
    else match s.xlate a (lo + d) false with
      | (.wait _, s) => ((.wait, d), s)
      | (.bad st u, s) => ((.bad st u, d), s)
      | (.ok .., s) => pagesFrom a lo n k (d + (65536 - (lo + d) % 65536)) s

def adviseWillneed (f : Flight) (s : State) : State :=
  let r := adviseRange s f
  match pagesFrom (adviseAsker f) r.1 r.2 (r.2 / 65536 + 2) f.prog s with
  | ((.ok _, _), s) => s.done f
  | ((.wait, d), s) => s.updFlight f.cab f.drawer f.seq (fun x => { x with prog := d })
  | ((.bad st u, _), s) => s.endFlight f.cab f.drawer f.seq { status := st, unit := some u }

def execAdviseWillneed (cab : CabId) (drawer : DrawerId) (seq : Seq) (s : State) : Host.Outcome State Fault Refusal :=
  .next (s.work uTu fun s => match s.advise cab.val drawer.val seq.val 1 with
    | some f => adviseWillneed f s
    | none => s)

def execAdviseDontneed (cab : CabId) (drawer : DrawerId) (seq : Seq) (s : State) : Host.Outcome State Fault Refusal :=
  .next (s.work uTu fun s => match s.advise cab.val drawer.val seq.val 2 with
    | some f => let r := adviseRange s f; (s.dropLook f.cab f.ctx r.1 (r.1 + r.2)).done f
    | none => s)

/-- The home granules of a 64 KiB page at `p` that `[va, va+n)` reaches. -/
def pageGrans (pg p va n : Nat) : List Nat :=
  ((List.range 8).filter (fun i => overlaps (pg + i * 8192) 8192 va n)).map (fun i => p / 8192 + i)

/-- The home granules that a virtual range reaches, page by page: by the look-aside, else by a walk. Pages that are not
mapped, and pages in host memory, are skipped; a malformed entry or a failed walk read ends it (R118, R151). -/
def reachedGrans (cab ctx va n : Nat) : Nat → Nat → State → Res (List Nat) × State
  | 0, _, s => (.ok [], s)
  | k + 1, pg, s =>
    let rest (l : List Nat) (s : State) : Res (List Nat) × State :=
      match reachedGrans cab ctx va n k (pg + 65536) s with
      | (.ok r, s) => (.ok (l ++ r), s)
      | r => r
    match s.lookup cab ctx pg with
    | some e => rest (if e.host then [] else pageGrans pg (e.pa + (pg - e.va)) va n) s
    | none =>
      match s.walk cab ctx pg with
      | (.leaf level pa _ _ host _, s) => rest (if host then [] else pageGrans pg (pa + pg % 2 ^ lvShift level) va n) s
      | (.absent _, s) => rest [] s
      | (.malformed, s) => (.bad stXlate uTu, s.bump rTuGstat 47 32)
      | (.fail st u, s) => (.bad st u, s)

/-- SETTLE settles every CURRENT entry whose home the range reaches; it waits for a walk slot. -/
def adviseSettle (f : Flight) (s : State) : State :=
  let r := adviseRange s f
  if !s.walkRoom f.cab then s
  else match reachedGrans f.cab f.ctx r.1 r.2 ((r.1 % 65536 + r.2 + 65535) / 65536) (r.1 / 65536 * 65536) s with
    | (.bad st u, s) => s.endFlight f.cab f.drawer f.seq { status := st, unit := some u }
    | (.ok hs, s) =>
      let gs := hs.filter (fun h => (s.gran h).cur.isSome)
      if gs = [] then s.done f
      else
        let s := s.startFlight f
        { s with tu := { s.tu with settles := s.tu.settles ++
            [{ desc := some (f.cab, f.drawer, f.seq), cab := f.cab, grans := gs, bad := none }] } }

def execAdviseSettle (cab : CabId) (drawer : DrawerId) (seq : Seq) (s : State) : Host.Outcome State Fault Refusal :=
  .next (s.work uTu fun s => match s.advise cab.val drawer.val seq.val 3 with
    | some f => adviseSettle f s
    | none => s)

def execAdviseInvalidate (cab : CabId) (drawer : DrawerId) (seq : Seq) (s : State) : Host.Outcome State Fault Refusal :=
  .next (s.work uTu fun s => match s.advise cab.val drawer.val seq.val 4 with
    | some f =>
      let lo := leAt f.body 8 8
      if f.count = 0 then s.done f
      else
        let ctxs := if leAt f.body 5 1 = 0 then [(f.cab, f.ctx)]
          else (s.drw.ctxs.filter (fun e => e.1 / 16384 == f.cab && e.2.st != .free)).map (fun e => (f.cab, e.1 % 16384))
        (s.startFlight f).withdraw ctxs lo (lo + f.count) none (some (f.cab, f.drawer, f.seq))
    | none => s)

end Sys2Proof.Machine
end

