-- ==== Sys2Proof/Machine/Batcher.lean ====
section
/-! DEFINITION. The Step Batcher (chapter 05). -/
namespace Sys2Proof.Machine

def State.sbc (s : State) (n : Nat) : SbCab := mapGet {} n s.sb
def State.setSbc (s : State) (n : Nat) (c : SbCab) : State := { s with sb := mapSet {} n c s.sb }

def State.budget (s : State) (n : Nat) : Nat := s.rfld (rSbCfg n) 62 48
def State.maxLive (s : State) (n : Nat) : Nat := s.rfld (rSbCfg n) 45 32
/-- A: the requests a window may validate (R162). -/
def State.windowSize (s : State) (n : Nat) : Nat := (s.budget n - s.maxLive n) / 128

/-- STATE of SB_STAT (R178). -/
def SbCab.state (c : SbCab) : Nat :=
  if c.st == .off then 0 else if c.drain then 4
  else match c.st with | .off => 0 | .idle => 1 | .form => 2 | .run => 3

/-- The step repeats its work from the start when one of its accesses waits for its translation: `t` is what the attempt
left, of which its new requests, their fault records and ATS requests, and the unit's counters stay. -/
def State.keepStall (s t : State) (cab : Nat) : State :=
  let ats (o : Out) : Bool := match o with | .atsRequest .. => true | _ => false
  let s' : State := { s with
    out := (t.out.take (t.out.length - s.out.length)).filter ats ++ s.out,
    tu := { s.tu with
      reqs := s.tu.reqs ++ t.tu.reqs.filter (fun r => decide (s.tu.nextReq ≤ r.id)),
      nextReq := t.tu.nextReq, faults := t.tu.faults, fq := t.tu.fq, atsOpen := t.tu.atsOpen } }
  (s'.setReg (rTuCstat cab) (t.reg (rTuCstat cab))).setReg rTuGstat (t.reg rTuGstat)

def sbAsker (cab ctx tag : Nat) (write : Bool) : Asker :=
  { src := .sb cab write, unit := uBatcher, cab := cab, ctx := ctx, tag := tag }

/-! ### Enable and disable (R165, R168, R179) -/

/-- The first failing check of R179; 0 when all pass. -/
def State.sbCheck (s : State) (n : Nat) : Nat :=
  let b := s.budget n
  let m := s.maxLive n
  if !(b % 64 == 0 && decide (128 ≤ b) && decide (b ≤ 16384)) then 1
  else if !(decide (1 ≤ m) && decide (m ≤ b - 128)) then 2
  else if !s.inShelfFree n (s.reg (rSbArea n)).toNat (64 * m + 65536) then 3
  else if (s.cab n).st != .live then 4
  else 0

/-- REQUESTs that wait at admission fail when the batcher leaves IDLE, FORM and RUN (R162). -/
def State.failWaits (s : State) (n : Nat) : State :=
  let c := s.sbc n
  c.waits.foldl (fun s w => s.endFlight n w.drawer w.seq { status := stDenied, unit := some uBatcher })
    (s.setSbc n { c with waits := [] })

/-- A write of SB_CFG(n). -/
def sbCfgWrite (n : Nat) (v : Word) (s : State) : State :=
  let c := s.sbc n
  let en := fld v 0 0 == 1
  let s := if c.st == .off then s.setReg (rSbCfg n) (pack [(48, fld v 62 48), (32, fld v 45 32)]) else s
  if en then
    if c.st == .off then
      let e := s.sbCheck n
      if e = 0 then (s.setRfld (rSbCfg n) 0 0 1).setSbc n { nextId := c.nextId, last := c.last, st := .idle }
      else s.setSbc n { c with err := e }
    else (s.setRfld (rSbCfg n) 0 0 1).setSbc n { c with drain := false }
  else if c.st == .off then s
  else ((s.setRfld (rSbCfg n) 0 0 0).setSbc n { c with drain := true }).failWaits n

def execSbEnable (func : Func) (cab : CabId) (value : Word) (s : State) : Host.Outcome State Fault Refusal :=
  .next (s.platform func.val (rSbCfg cab.val) (some (setFld value 0 0 1)) fun s => sbCfgWrite cab.val (setFld value 0 0 1) s)
def execSbDisable (func : Func) (cab : CabId) (value : Word) (s : State) : Host.Outcome State Fault Refusal :=
  .next (s.platform func.val (rSbCfg cab.val) (some (setFld value 0 0 0)) fun s => sbCfgWrite cab.val (setFld value 0 0 0) s)

/-! ### REQUEST: sub-checks 9.1 to 9.7 (R158, R161) -/

def SbCab.group (c : SbCab) (ctx obj : Nat) : Option SbGroup := c.groups.find? (fun g => g.ctx == ctx && g.obj == obj)

/-- The record objects a REQUEST names, MODEL first, each once. -/
def requestObjs (s : State) (f : Flight) : List Nat :=
  let o (h : Nat) := (s.obj (handleIdx h)).orig
  let fb := leAt f.body 4 4
  (o (leAt f.body 0 4) :: (if fb = 0 then [] else [o fb])).eraseDups

/-- Sub-check 9.3: the header is in range. -/
def headerOk (b : List Byte) : Bool :=
  let layers := leAt b 0 2
  let chunk := leAt b 2 2
  let rows := leAt b 4 2
  decide (1 ≤ layers) && decide (layers ≤ 256) && chunk % 64 == 0 && decide (64 ≤ chunk) && decide (chunk ≤ 8192) &&
  decide (1 ≤ rows) && decide (rows ≤ 16384) && zeroAt b 6 2 && zeroAt b 20 4 && zeroAt b 40 24

/-- An outcome of a sub-check. -/
inductive Chk (α : Type) where
  | ok (v : α)
  | wait
  | no (e : Ending)

def chkBatcher (st : Nat) : Ending := { status := st, unit := some uBatcher }

/-- The group a header makes, without its layers (R156). -/
def groupOf (s : State) (f : Flight) (obj : Nat) (b : List Byte) : SbGroup :=
  let area := (s.obj (handleIdx (leAt b 12 4))).orig
  { id := 0, ctx := f.ctx, obj := obj, base := (s.obj obj).base, chunk := leAt b 2 2, rowsMax := leAt b 4 2,
    margin := leAt b 8 4, area := area, areaVa := (s.obj area).base, maxPos := leAt b 16 4, dec := leAt b 24 4,
    pre := leAt b 28 4, samples := leAt b 32 8, layers := [] }

/-- 9.2: read the headers of the records that name no group. -/
def readHeaders (f : Flight) : List Nat → State → Chk (List (Nat × List Byte)) × State
  | [], s => (.ok [], s)
  | o :: r, s =>
    match s.vaRead (sbAsker f.cab f.ctx 0 false) (s.obj o).base 64 with
    | (.wait, s) => (.wait, s)
    | (.bad st u, s) => (.no { status := st, unit := some u }, s)
    | (.ok b, s) =>
      match readHeaders f r s with
      | (.ok l, s) => (.ok ((o, b) :: l), s)
      | x => x

/-- 9.4: the record and its batch area are long enough, and BATCH_AREA is a DATA handle of the context. -/
def State.recordFits (s : State) (f : Flight) (x : Nat × List Byte) : Bool :=
  let h := leAt x.2 12 4
  decide (64 + 64 * leAt x.2 0 2 ≤ (s.obj x.1).len) && s.owns f.cab f.ctx h && !(s.obj (handleIdx h)).fence &&
  decide (64 + 32 * leAt x.2 4 2 ≤ (s.obj (handleIdx h)).len)

/-- The tile command of a layer image (R157, R182, R185). -/
def layerCmd (s : State) (f : Flight) (img : List Byte) : Cmd :=
  { tileCommand s { f with op := 2, flags := 0, gen := 3, body := img.drop 24, exts := [] } with desc := none, direct := false }

/-- 9.7: the layer images of one new record. -/
def readLayers (f : Flight) (g : SbGroup) (layers : Nat) (s : State) : Chk SbGroup × State :=
  match s.vaRead (sbAsker f.cab f.ctx 0 false) (g.base + 64) (64 * layers) with
  | (.wait, s) => (.wait, s)
  | (.bad st u, s) => (.no { status := st, unit := some u }, s)
  | (.ok b, s) =>
    let imgs := (List.range layers).map (fun l => (b.drop (64 * l)).take 64)
    match imgs.findSome? (s.layerImage f.cab f.ctx) with
    | some st => (.no (chkBatcher st), s)
    | none =>
      let cs := imgs.map (layerCmd s f)
      match cs.getLast? with
      | some c =>
        if c.outs.any (fun r => decide (r.1 ≤ g.areaVa) && decide (g.areaVa + 64 + 32 * g.rowsMax ≤ r.1 + r.2)) then
          (.ok { g with layers := cs }, s)
        else (.no (chkBatcher stFormat), s)
      | none => (.no (chkBatcher stFormat), s)

def readAllLayers (f : Flight) : List (SbGroup × Nat) → State → Chk (List SbGroup) × State
  | [], s => (.ok [], s)
  | g :: r, s =>
    match readLayers f g.1 g.2 s with
    | (.ok g, s) =>
      match readAllLayers f r s with
      | (.ok l, s) => (.ok (g :: l), s)
      | x => x
    | (.wait, s) => (.wait, s)
    | (.no e, s) => (.no e, s)

def dupArea : List SbGroup → Bool
  | [] => false
  | g :: r => r.any (fun h => h.area == g.area) || dupArea r

/-- Sub-checks 9.1 to 9.7: the groups the request would create. BAD_MODEL counts the REQUEST once (log 145). -/
def requestCheck (f : Flight) (s : State) : Chk (List SbGroup) × State :=
  let c := s.sbc f.cab
  let objs := requestObjs s f
  if c.st == .off || c.drain then (.no (chkBatcher stDenied), s)
  else
    match readHeaders f (objs.filter (fun o => (c.group f.ctx o).isNone)) s with
    | (.wait, s) => (.wait, s)
    | (.no e, s) => (.no e, s)
    | (.ok hs, s) =>
      if !hs.all (fun x => headerOk x.2) then (.no (chkBatcher stFormat), s.bump rSbGstat 63 48)
      else if !hs.all (s.recordFits f) then (.no (chkBatcher stBound), s)
      else
        let news := hs.map (fun x => (groupOf s f x.1 x.2, leAt x.2 0 2))
        let all := c.groups ++ news.map (·.1)
        if objs.any (fun o => c.groups.any (fun g => g.obj == o && g.ctx != f.ctx)) then (.no (chkBatcher stDenied), s)
        else if dupArea all then (.no (chkBatcher stFormat), s)
        else if objs.any (fun o => all.any (fun g => g.obj == o && g.ctx == f.ctx &&
            decide (g.maxPos < leAt f.body 16 4 + leAt f.body 20 4))) then (.no (chkBatcher stFormat), s)
        else readAllLayers f news s

/-! ### Admission (R162, R164) -/

/-- The live requests a group counts under ROWS_MAX. -/
def SbCab.load (c : SbCab) (ctx obj : Nat) : Nat :=
  (c.reqs.filter (fun q => q.ctx == ctx && ((q.model == obj && !q.switched) || q.fallback == some obj))).length

/-- Admission passes for a request over these objects: a group to be created holds no request yet. -/
def State.admits (s : State) (f : Flight) : Bool :=
  let c := s.sbc f.cab
  let objs := requestObjs s f
  decide (c.reqs.length < s.maxLive f.cab) && decide (c.window < s.windowSize f.cab) &&
  objs.all (fun o => match c.group f.ctx o with
    | some g => decide (c.load f.ctx o < g.rowsMax)
    | none => true) &&
  decide (c.groups.length + (objs.filter (fun o => (c.group f.ctx o).isNone)).length ≤ 256)

/-- Groups were created or have ended: the REQUESTs that wait and name their objects are checked again (R162). -/
def SbCab.changed (c : SbCab) (gs : List SbGroup) : SbCab :=
  { c with waits := c.waits.map (fun w => if gs.any (fun g => g.ctx == w.ctx && w.objs.contains g.obj) then { w with stale := true } else w) }

/-- The batcher writes a request's line of the request area, whose layout is the block's own: its bytes are open (R168,
log 144). -/
def State.writeRq (s : State) (cab slot : Nat) : State :=
  let bs := (List.range 64).map (fun i => Config.freeByte (s.free + i))
  ({ s with free := s.free + 64 }.devWrite { m := .cab cab, unit := uBatcher } ((s.reg (rSbArea cab)).toNat + 64 * slot) bs).2

/-- A boundary reads and writes the request state of these requests (R167). -/
def State.passRq (s : State) (cab : Nat) (qs : List SbReq) : State :=
  qs.foldl (fun s q =>
    (s.devRead { m := .cab cab, unit := uBatcher } ((s.reg (rSbArea cab)).toNat + 64 * q.slot) 64).2.writeRq cab q.slot) s

/-- The lowest request slot not in use. -/
def SbCab.freeSlot (c : SbCab) : Nat :=
  ((List.range (c.reqs.length + 1)).find? (fun i => !c.reqs.any (fun q => q.slot == i))).getD 0

/-- The request becomes live and enters the arrival queue. -/
def State.admitRequest (s : State) (f : Flight) (news : List SbGroup) : State :=
  let c := s.sbc f.cab
  let b := f.body
  let o (h : Nat) := (s.obj (handleIdx h)).orig
  let fb := leAt b 4 4
  let q : SbReq := { drawer := f.drawer, seq := f.seq, ctx := f.ctx, slot := c.freeSlot, model := o (leAt b 0 4),
                     fallback := if fb = 0 then none else some (o fb), tokens := leAt b 8 4, progress := leAt b 12 4,
                     cancel := leAt b 36 4, maxNew := leAt b 20 4, deadline := leAt b 24 8, stop := leAt b 32 4,
                     prompt := leAt b 16 4, total := leAt b 16 4, left := leAt b 16 4 }
  let gs := news.zipIdx.map (fun e => { e.1 with id := c.nextId + e.2 })
  let c' := ({ c with reqs := c.reqs ++ [q], groups := c.groups ++ gs, window := c.window + 1,
                      nextId := c.nextId + gs.length,
                      waits := c.waits.filter (fun w => !(w.drawer == f.drawer && w.seq == f.seq)) } : SbCab).changed gs
  (((s.setSbc f.cab c').writeRq f.cab q.slot).startFlight f).wakeCab f.cab 6

/-- Check 9 of a REQUEST, then admission; one that does not pass waits and is counted once. -/
def requestGo (f : Flight) (s : State) : State :=
  match requestCheck f s with
  | (.wait, t) => s.keepStall t f.cab
  | (.no e, s) =>
    let c := s.sbc f.cab
    (s.setSbc f.cab { c with waits := c.waits.filter (fun w => !(w.drawer == f.drawer && w.seq == f.seq)) }).endFlight
      f.cab f.drawer f.seq e
  | (.ok news, s) =>
    if s.admits f then s.admitRequest f news
    else
      let c := s.sbc f.cab
      let w : SbWait := { drawer := f.drawer, seq := f.seq, ctx := f.ctx, objs := requestObjs s f, news := news }
      let old := c.waits.any (fun x => x.drawer == f.drawer && x.seq == f.seq)
      let s := s.setSbc f.cab { c with waits := c.waits.filter (fun x => !(x.drawer == f.drawer && x.seq == f.seq)) ++ [w] }
      if old then s else s.bump (rSbCnt f.cab) 15 0

def execRequestDesc (cab : CabId) (drawer : DrawerId) (seq : Seq) (s : State) : Host.Outcome State Fault Refusal :=
  .next (s.work uBatcher fun s => match s.issuedOp cab.val drawer.val seq.val 0x03 with
    | some f => if (s.sbc cab.val).waits.any (fun w => w.drawer == drawer.val && w.seq == seq.val) then s else requestGo f s
    | none => s)

/-- A waiting REQUEST is admitted when admission passes; sub-checks 9.1 to 9.8 run again then where a group it names was
created or has ended. -/
def admissionPass (cab drawer seq : Nat) (s : State) : State :=
  let c := s.sbc cab
  match s.issuedOp cab drawer seq 0x03, c.waits.find? (fun w => w.drawer == drawer && w.seq == seq) with
  | some f, some w =>
    if !s.admits f then s else if w.stale then requestGo f s else s.admitRequest f w.news
  | _, _ => s

def execAdmissionPass (cab : CabId) (drawer : DrawerId) (seq : Seq) (s : State) : Host.Outcome State Fault Refusal :=
  .next (s.work uBatcher (admissionPass cab.val drawer.val seq.val))

/-! ### Batch formation (R169, R171) -/

def SbReq.is (q : SbReq) (drawer seq : Nat) : Bool := q.drawer == drawer && q.seq == seq
/-- The object of the group the request belongs to. -/
def SbReq.groupObj (q : SbReq) : Nat := if q.switched then q.fallback.getD q.model else q.model

/-- The third pass: chunks grow in admission order; answers the room left. -/
def growChunks (chunkMax : SbReq → Nat) : Nat → List SbReq → List SbReq × Nat
  | room, [] => ([], room)
  | room, q :: r =>
    if q.stage == .decode then
      let x := growChunks chunkMax room r
      (q :: x.1, x.2)
    else
      let want := up64 (min (chunkMax q) q.left) - up64 q.chunk
      let give := min want (64 * (room / 64))
      let x := growChunks chunkMax (room - give) r
      ({ q with chunk := min q.left (up64 q.chunk + give) } :: x.1, x.2)

/-- The three passes over the requests taken from the arrival queue; answers the requests with their chunks and the
budget charged. -/
def formBatch (budget : Nat) (chunkMax : SbReq → Nat) (qs : List SbReq) : List SbReq × Nat :=
  let qs := qs.map (fun q => { q with chunk := if q.stage == .pending then min 64 q.left else 0 })
  let dec := (qs.filter (fun q => q.stage == .decode)).length
  let pend := (qs.filter (fun q => q.stage == .pending)).length
  let x := growChunks chunkMax (budget - dec - 64 * pend) qs
  (x.1, budget - x.2)

/-- The row of a request in the step being formed. -/
def SbReq.row (q : SbReq) : Option SbRow :=
  if q.stage == .decode then
    let pos := q.prompt + q.gen - 1
    some { drawer := q.drawer, seq := q.seq, slot := q.slot, tokens := q.tokens, ntok := 1, flags := 1 + 8, pos := pos }
  else if q.chunk = 0 then none
  else
    let last := q.chunk == q.left
    some { drawer := q.drawer, seq := q.seq, slot := q.slot, tokens := q.tokens, ntok := q.chunk, pos := q.total - q.left,
           flags := bit (q.total == q.left) * 2 + bit last * 4 + bit (last && decide (q.gen < q.maxNew)) * 8 }

def SbRow.decode (r : SbRow) : Bool := r.flags.testBit 0
def SbRow.emits (r : SbRow) : Bool := r.flags.testBit 3

/-- Rows of a group's table: DECODE rows, then prefill rows, each in admission order. -/
def groupRows (qs : List SbReq) (g : SbGroup) : List SbRow :=
  let rows := (qs.filter (fun q => q.ctx == g.ctx && q.groupObj == g.obj)).filterMap SbReq.row
  rows.filter (·.decode) ++ rows.filter (fun r => !r.decode)

def SbGroup.decRows (g : SbGroup) : Nat := (g.rows.filter (·.decode)).length
/-- P: prefill input tokens. -/
def SbGroup.preTokens (g : SbGroup) : Nat := ((g.rows.filter (fun r => !r.decode)).map (·.ntok)).sum
def SbGroup.tokens (g : SbGroup) : Nat := (g.rows.map (·.ntok)).sum

/-- The batch table of a group: header and rows. -/
def batchTable (step time budget : Nat) (g : SbGroup) : List Byte :=
  toLe 8 step ++ toLe 8 time ++ toLe 4 g.rows.length ++ toLe 4 g.decRows ++ toLe 4 g.tokens ++ toLe 4 budget ++ toLe 32 0 ++
  g.rows.flatMap (fun r => toLe 4 r.slot ++ toLe 4 r.tokens ++ toLe 4 r.ntok ++ toLe 4 r.flags ++ toLe 8 r.pos ++
    toLe 4 (2 ^ 32 - 1) ++ toLe 4 0)

/-! ### The deadline monitor (R174) -/

/-- 256 times T_g in ns. -/
def SbGroup.cost256 (g : SbGroup) : Nat := g.layers.length * (g.decRows * g.dec + g.preTokens * g.pre)

/-- The request trips at boundary time `t` in its group. -/
def trips (t : Nat) (g : SbGroup) (q : SbReq) : Bool :=
  let k := if q.chunk = 0 then 64 else q.chunk
  let steps := if q.stage == .decode then q.maxNew - q.gen else (q.left + k - 1) / k + (q.maxNew - 1)
  q.deadline != 0 && q.fallback.isSome && !q.switched && !q.marked && (g.dec != 0 || g.pre != 0) &&
  decide (256 * (q.deadline - g.margin * 1000) < 256 * t + steps * g.cost256)

def tripsIn (t : Nat) (gs : List SbGroup) (q : SbReq) : Bool :=
  match gs.find? (fun g => g.ctx == q.ctx && g.obj == q.groupObj) with
  | some g => trips t g q
  | none => false

/-! ### Cost figures (R173) -/

/-- A figure kept within 32 bits and never below 0. -/
def satCost (x : Int) : Nat := min x.toNat (2 ^ 32 - 1)

def SbGroup.updateCost (g : SbGroup) : SbGroup :=
  let tau := 256 * g.tau / g.layers.length
  let d := g.decRows
  let p := g.preTokens
  let g' : SbGroup :=
    if g.samples = 0 then
      if p = 0 then { g with dec := min (tau / d) (2 ^ 32 - 1) }
      else { g with pre := min ((tau - d * g.dec) / p) (2 ^ 32 - 1) }
    else if p = 0 then { g with dec := satCost (g.dec + ((tau / d : Nat) - (g.dec : Int)) / 8) }
    else if d * g.dec < tau then
      { g with pre := satCost (g.pre + (((tau - d * g.dec) / p : Nat) - (g.pre : Int)) / 8) }
    else g
  { g' with samples := min (g.samples + 1) (2 ^ 64 - 1) }

/-! ### Closing a step (R166, items 1 to 8) -/

/-- The request's context or drawer is being torn down, or its context is reset. -/
def State.reqGone (s : State) (cab : Nat) (q : SbReq) : Bool :=
  q.drop || (s.ctx cab q.ctx).st != .live || (s.drawer cab q.drawer).st == .dying || (s.drawer cab q.drawer).st == .free

/-- What the boundary is making: the requests that stay, and those that have ended. -/
structure Closing where
  s     : State
  stay  : List SbReq
  ended : List (SbReq × Ending)
  wait  : Bool := false

/-- End one of the requests that stay. -/
def Closing.finish (c : Closing) (q : SbReq) (e : Ending) : Closing :=
  { c with stay := c.stay.filter (fun x => !x.is q.drawer q.seq), ended := c.ended ++ [(q, e)] }
def Closing.put (c : Closing) (q : SbReq) : Closing := { c with stay := updWhere (fun x => x.is q.drawer q.seq) (fun _ => q) c.stay }

/-- The normal ending of a request. -/
def SbReq.normal (q : SbReq) : Ending := { status := if q.switched then stFallback else stDone }

/-- The OUT_TOKENs of a group's EMIT rows whose requests are not torn down. -/
def readTokens (cab : Nat) (g : SbGroup) : List (Nat × SbRow) → State → Acc (List (SbRow × Nat)) × State
  | [], s => (.ok [], s)
  | e :: r, s =>
    match s.vaRead (sbAsker cab g.ctx (g.id + 1) false) (g.areaVa + 64 + 32 * e.1 + 24) 4 with
    | (.wait, s) => (.wait, s)
    | (.bad st u, s) => (.bad st u, s)
    | (.ok b, s) =>
      match readTokens cab g r s with
      | (.ok l, s) => (.ok ((e.2, leNat b) :: l), s)
      | x => x

/-- One row of a group whose last layer committed, with the token it produced. -/
def takeRow (cab : Nat) (row : SbRow) (tok : Option Nat) (c : Closing) : Closing :=
  match c.stay.find? (fun q => q.is row.drawer row.seq) with
  | none => c
  | some q =>
    if c.s.reqGone cab q then c
    else
      let q' := { q with left := q.left - q.chunk, chunk := 0,
                         stage := if row.decode || q.chunk == q.left then .decode else .prefill }
      match row.emits, tok with
      | true, some t =>
        if t = 2 ^ 32 - 1 then
          { c with s := c.s.bump rSbGstat 47 32 }.finish q (chkBatcher stFormat)
        else match c.s.vaWrite (sbAsker cab q.ctx (q.slot + 1) true)
            ((c.s.obj (handleIdx q.tokens)).base + 4 * (q.prompt + q.gen)) (toLe 4 t) with
          | (.wait, s) => { c with s := s, wait := true }
          | (.bad st u, s) => { c with s := s }.finish q { status := st, unit := some u }
          | (.ok _, s) =>
            let q' := { q' with gen := q.gen + 1 }
            let c := ({ c with s := s }).put q'
            if q'.gen = q.maxNew ∨ t = q.stop then c.finish q' q'.normal else c
      | _, _ => if q'.stage == .decode then c.finish q' q'.normal else c.put q'

/-- Item 1 for one group: read every token, then take the rows; answers whether the group still stands as committed. -/
def takeGroup (cab : Nat) (c : Closing) (g : SbGroup) : Closing × SbGroup :=
  match g.run with
  | .ok =>
    let emits := (g.rows.zipIdx.map (fun e => (e.2, e.1))).filter (fun e => e.2.emits &&
      c.stay.any (fun q => q.is e.2.drawer e.2.seq && !c.s.reqGone cab q))
    match readTokens cab g emits c.s with
    | (.wait, s) => ({ c with s := s, wait := true }, g)
    | (.bad st u, s) => ({ c with s := s }, { g with run := .failed st u })
    | (.ok toks, s) =>
      (g.rows.foldl (fun c r => takeRow cab r ((toks.find? (fun t => t.1 == r)).map (·.2)) c) { c with s := s }, g)
  | _ => (c, g)

def takeGroups (cab : Nat) : List SbGroup → Closing → Closing × List SbGroup
  | [], c => (c, [])
  | g :: r, c =>
    let x := takeGroup cab c g
    let y := takeGroups cab r x.1
    (y.1, x.2 :: y.2)

/-- Item 2: a failed group ends every request that had a row. -/
def failGroup (c : Closing) (g : SbGroup) : Closing :=
  match g.run with
  | .failed st u => g.rows.foldl (fun c r => match c.stay.find? (fun q => q.is r.drawer r.seq) with
      | some q => c.finish q { status := st, unit := some u }
      | none => c) c
  | _ => c

/-- Item 3 and R159: new figures, written back to the record of every group that ran. -/
def costGroup (cab : Nat) (c : Closing) (g : SbGroup) : Closing × SbGroup :=
  if !g.ran then (c, g)
  else
    let g' := if g.run == .ok && g.rows != [] then g.updateCost else g
    if (c.s.ctx cab g.ctx).st == .free then (c, g')
    else match c.s.vaWrite (sbAsker cab g.ctx 0 true) (g.base + 24) (toLe 4 g'.dec ++ toLe 4 g'.pre ++ toLe 8 g'.samples) with
      | (.ok _, s) => ({ c with s := s }, g')
      | (.wait, s) => ({ c with s := s, wait := true }, g')
      | (.bad .., s) => ({ c with s := s.bump rSbGstat 31 16 }, g')

def costGroups (cab : Nat) : List SbGroup → Closing → Closing × List SbGroup
  | [], c => (c, [])
  | g :: r, c =>
    let x := costGroup cab c g
    let y := costGroups cab r x.1
    (y.1, x.2 :: y.2)

/-- Item 4: signal PROGRESS of a request whose generated count changed; a failure ends a request that has not ended. -/
def progressOne (cab : Nat) (before : List SbReq) (c : Closing) (q : SbReq) : Closing :=
  if q.progress = 0 || before.any (fun p => p.is q.drawer q.seq && p.gen == q.gen) then c
  else match c.s.signalFence (sbAsker cab q.ctx (q.slot + 1) true) (c.s.obj (handleIdx q.progress)).base q.gen with
    | (.ok _, s) => { c with s := s }
    | (.wait, s) => { c with s := s, wait := true }
    | (.bad st u, s) =>
      let c := { c with s := s }
      if c.stay.any (fun x => x.is q.drawer q.seq) then c.finish q { status := st, unit := some u } else c

/-- Item 6: CANCEL. -/
def cancelOne (cab : Nat) (c : Closing) (q : SbReq) : Closing :=
  if q.cancel = 0 then c
  else match c.s.vaRead (sbAsker cab q.ctx (q.slot + 1) false) (c.s.obj (handleIdx q.cancel)).base 8 with
    | (.wait, s) => { c with s := s, wait := true }
    | (.bad st u, s) => { c with s := s }.finish q { status := st, unit := some u }
    | (.ok b, s) =>
      if leNat b = 0 then { c with s := s }
      else { c with s := s.bump (rSbCnt cab) 31 16 }.finish q (chkBatcher stAbandoned)

/-- Item 7: a marked request joins its fallback group (R176). -/
def SbReq.switch (q : SbReq) : SbReq :=
  if q.marked && !q.switched then
    { q with switched := true, stage := .prefill, total := q.prompt + q.gen, left := q.prompt + q.gen }
  else q

/-- Item 8: the ended requests' descriptors end; their records follow (R80). -/
def endRequest (cab : Nat) (s : State) (x : SbReq × Ending) : State :=
  let st := x.2.status
  let s := if st = stFallback then
      let c := s.cab cab; s.setCab cab { c with tot := { c.tot with fallbacks := c.tot.fallbacks + 1 } }
    else if st = stDone ∨ st = stAbandoned then s
    else s.bump (rSbCnt cab) 47 32
  s.endFlight cab x.1.drawer x.1.seq x.2

/-- Items 1 to 8 over the closed step's groups. -/
def closeStep (cab : Nat) (b : SbCab) (s : State) : Closing × List SbGroup :=
  let x := takeGroups cab b.groups { s := s, stay := b.reqs, ended := [] }
  let c := x.2.foldl failGroup x.1
  let y := costGroups cab x.2 c
  let c := (y.1.stay ++ y.1.ended.map (·.1)).foldl (progressOne cab b.reqs) y.1
  let c := (c.stay.filter (c.s.reqGone cab)).foldl (fun c q => c.finish q abandoned) c
  let c := c.stay.foldl (cancelOne cab) c
  ({ c with s := c.ended.foldl (endRequest cab) c.s, stay := c.stay.map SbReq.switch }, y.2)

/-! ### The boundary (R165, R166) -/

/-- Item 9: form the next step from every live request, and run the monitor. Groups without a live request end. -/
def formStep (cab : Nat) (b : SbCab) (s : State) : State :=
  let groups := b.groups.filter (fun g => b.reqs.any (fun q => q.ctx == g.ctx && (q.model == g.obj || q.fallback == some g.obj)))
  if b.reqs = [] then
    let b := b.changed b.groups
    s.setSbc cab { b with groups := [], window := 0, charge := 0, at_ := s.now, drain := false, fresh := false,
                          st := if b.drain then .off else .idle }
  else
    let chunkMax (q : SbReq) : Nat := match groups.find? (fun g => g.ctx == q.ctx && g.obj == q.groupObj) with
      | some g => g.chunk
      | none => 64
    let b := b.changed (b.groups.filter (fun g => !groups.any (fun x => x.id == g.id)))
    let x := formBatch (s.budget cab) chunkMax (b.reqs.map (fun q => { q with arrived := true }))
    let gs : List SbGroup := groups.map (fun g => { g with rows := groupRows x.1 g, layer := 0, cmd := none, tau := 0, run := .running })
    let gs : List SbGroup := gs.map (fun g => if g.rows = [] then { g with run := .ok, ran := false } else { g with ran := true })
    let n := (x.1.filter (tripsIn s.now gs)).length
    let qs := x.1.map (fun q => { q with marked := q.marked || tripsIn s.now gs q })
    ((s.setSbc cab { b with reqs := qs, groups := gs, window := 0, charge := x.2, at_ := s.now, st := .form, fresh := false }).bump
      (rSbCnt cab) 63 48 n).passRq cab qs

/-- Every group of the step has finished: its layers are through, it failed, or its command is gone with its context. -/
def State.stepDone (s : State) (cab : Nat) (b : SbCab) : Bool :=
  b.groups.all (fun g => match g.run, g.cmd with
    | .running, some n => (s.cmd cab n).isNone
    | .running, none => false
    | _, _ => true)

/-- A group whose command went with its context has neither committed nor failed. -/
def SbGroup.settled (g : SbGroup) : SbGroup := if g.run == .running then { g with rows := [], run := .ok } else g

/-- Items 5 to 8 at a boundary that closes no step: after a discarded one CANCEL is read and marked requests switch (R180). -/
def openStep (cab : Nat) (b : SbCab) (s : State) : Closing :=
  let c : Closing := { s := s, stay := b.reqs, ended := [] }
  let c := (c.stay.filter (c.s.reqGone cab)).foldl (fun c q => c.finish q abandoned) c
  let c := if b.fresh then c.stay.foldl (cancelOne cab) c else c
  { c with s := c.ended.foldl (endRequest cab) c.s, stay := if b.fresh then c.stay.map SbReq.switch else c.stay }

/-- A quiesce request that concerns the cabinet is out: the batcher acknowledges between steps (R181). -/
def State.quiesces (s : State) (cab : Nat) : Bool := s.pln.entries.any (fun e => e.asked && (e.cab.isNone || e.cab == some cab))

/-- The boundary between a closed step and a step that a quiesce request holds back. -/
def SbCab.rest (b : SbCab) : SbCab :=
  { b with st := .idle, groups := b.groups.map (fun g => { g with rows := [], run := .ok, cmd := none, ran := false }) }

def stepBoundary (cab : Nat) (s : State) : State :=
  let b := s.sbc cab
  match b.st with
  | .idle =>
    if (b.reqs = [] && !b.drain) || s.quiesces cab || (s.cab cab).power != 0 then s
    else
      let c := openStep cab b s
      if c.wait then s.keepStall c.s cab else formStep cab { c.s.sbc cab with reqs := c.stay } c.s
  | .run =>
    if !s.stepDone cab b then s
    else
      let x := closeStep cab { b with groups := b.groups.map SbGroup.settled } s
      if x.1.wait then s.keepStall x.1.s cab
      else
        let rows := (b.groups.map (fun g => g.rows.length)).sum
        let last := pack [(48, rows), (32, b.charge), (0, min (s.now - b.at_) (2 ^ 32 - 1))]
        let t := (x.1.s.trace 0x05 uBatcher (some cab) none b.step last.toNat).tally uBatcher 4 (some cab)
        let closed : SbCab := { t.sbc cab with reqs := x.1.stay, groups := x.2, step := (b.step + 1) % 2 ^ 48, last := last }
        if x.1.stay != [] && s.quiesces cab then t.setSbc cab closed.rest else formStep cab closed t
  | _ => s

def execStepBoundary (cab : CabId) (s : State) : Host.Outcome State Fault Refusal :=
  .next (s.work uBatcher (stepBoundary cab.val))

/-! ### Batch tables and layer commands (R171, R172) -/

def SbCab.updGroup (c : SbCab) (g : SbGroup) : SbCab := { c with groups := updWhere (fun x => x.id == g.id) (fun _ => g) c.groups }

/-- Issue layer `g.layer` of a group, or fail the group (check 9, LOST context). -/
def issueLayer (cab : Nat) (g : SbGroup) (s : State) : State :=
  let put (g : SbGroup) (s : State) : State := s.setSbc cab ((s.sbc cab).updGroup g)
  match g.layers[g.layer]? with
  | none => put { g with run := .ok, cmd := none } s
  | some c0 =>
    let c := { c0 with group := g.id, layer := g.layer, aux := g.areaVa, ntokens := g.tokens, readyAt := s.mono,
                       waitFrom := s.mono, alloc := (s.ctx cab g.ctx).alloc }
    match s.tileCheck9 c with
    | some e => put { g with run := .failed e.status (e.unit.getD uTs), cmd := none } s
    | none =>
      if (s.ctx cab g.ctx).resid == .lost then
        put { g with run := .failed (s.ctx cab g.ctx).lostStatus (s.ctx cab g.ctx).lostUnit, cmd := none } s
      else
        let n := mapGet 0 cab s.ts.ids
        put { g with cmd := some n, since := s.mono } (s.addCmd c)

/-- Write the batch tables; a failed write fails its group. -/
def writeTables (cab step time budget : Nat) : List SbGroup → State → Acc (List SbGroup) × State
  | [], s => (.ok [], s)
  | g :: r, s =>
    let x : Acc SbGroup × State :=
      if g.rows = [] then (.ok g, s)
      else match s.vaWrite (sbAsker cab g.ctx (g.id + 1) true) g.areaVa (batchTable step time budget g) with
        | (.wait, s) => (.wait, s)
        | (.bad st u, s) => (.ok { g with run := .failed st u }, s)
        | (.ok _, s) => (.ok g, s)
    match x with
    | (.ok g, s) =>
      match writeTables cab step time budget r s with
      | (.ok l, s) => (.ok (g :: l), s)
      | y => y
    | (.wait, s) => (.wait, s)
    | (.bad st u, s) => (.bad st u, s)

def tablesWritten (cab : Nat) (s : State) : State :=
  let b := s.sbc cab
  if b.st != .form then s
  else match writeTables cab b.step b.at_ (s.budget cab) b.groups s with
    | (.ok gs, t) =>
      let t := t.setSbc cab { t.sbc cab with groups := gs, st := .run }
      (gs.filter (fun g => g.run == .running)).foldl (fun s g =>
        if (s.ctx cab g.ctx).st != .live then s.setSbc cab ((s.sbc cab).updGroup g.settled) else issueLayer cab g s) t
    | (_, t) => s.keepStall t cab

def execBatchTablesWritten (cab : CabId) (s : State) : Host.Outcome State Fault Refusal :=
  .next (s.work uBatcher (tablesWritten cab.val))

/-- A layer command has ended: the next layer follows, or the group has finished. -/
def layerCommit (cab n : Nat) (s : State) : State :=
  let b := s.sbc cab
  match s.cmd cab n, b.groups.find? (fun g => g.cmd == some n) with
  | some c, some g =>
    match c.phase with
    | .finished st u =>
      let s := s.dropCmd cab n
      if st ≠ stDone then s.setSbc cab (b.updGroup { g with run := .failed st u, cmd := none })
      else
        let g := { g with tau := g.tau + (c.endAt - c.first.getD g.since), layer := g.layer + 1, cmd := none }
        issueLayer cab g s
    | _ => s
  | _, _ => s

def execLayerCommit (cab : CabId) (cmd : Nat) (s : State) : Host.Outcome State Fault Refusal :=
  .next (s.work uBatcher (layerCommit cab.val cmd))

/-! ### Reset (R180) -/

/-- The step in flight is discarded: its layer commands are killed and gone; a fresh boundary without collection follows. -/
def State.discardStep (s : State) (cab : Nat) : State :=
  let b := s.sbc cab
  if b.st == .form || b.st == .run then
    let s := (s.ts.cmds.filter (fun c => c.cab == cab && c.desc.isNone)).foldl (fun s c =>
      let s := s.updCmd cab c.n (fun x => { x with gone := true })
      match c.phase with
      | .waiting => s.dropCmd cab c.n
      | .finished .. => s.dropCmd cab c.n
      | _ => s.killCmd cab c.n 8) s
    s.setSbc cab { b.rest with fresh := true }
  else if b.reqs = [] then s
  else s.setSbc cab { b with fresh := true }

end Sys2Proof.Machine
end

