-- ==== Sys2Proof/Machine/DceIn.lean ====
section
/-! DEFINITION. The Dispatch-Combine Engine as receiver: SET, SEAL, COMMIT, DISCARD, the commit of a set; aborts, resets
and teardown (R245, R246, R253 to R256, R258, R264, R265). -/
namespace Sys2Proof.Machine

/-! ### Staging -/

/-- Rows a set carries: a row's first piece has offset 0. -/
def InSet.rows (i : InSet) : List SetPart := i.parts.filter (fun p => p.off == 0)

/-- A fence's value as a landing sees it: none for the error value. -/
def State.consumedOf (s : State) (l : Landing) : Acc (Option Nat) × State :=
  let a : Asker := { src := dceStream l.group, unit := uDce, cab := l.cab, ctx := l.ctx, tag := dceTag 1 l.group }
  match s.vaRead a (s.obj (handleIdx l.consumed)).base 8 with
  | (.ok bs, s) => (.ok (if 2 ^ 63 - 1 ≤ leNat bs then none else some (leNat bs)), s)
  | (.wait, s) => (.wait, s)
  | (.bad st u, s) => (.bad st u, s)

/-- ARRIVE of a landing carries an error (R264). -/
def State.arriveBad (s : State) (l : Landing) : Acc Bool × State :=
  if l.aborted then (.ok true, s)
  else
    let a : Asker := { src := dceStream l.group, unit := uDce, cab := l.cab, ctx := l.ctx, tag := dceTag 4 l.group }
    match s.vaRead a (s.obj (handleIdx l.arrive)).base 8 with
    | (.ok bs, s) =>
      if 2 ^ 63 - 1 ≤ leNat bs then (.ok true, s.setLanding { l with aborted := true }) else (.ok false, s)
    | (.wait, s) => (.wait, s)
    | (.bad st u, s) => (.bad st u, s)

/-- Whether a row fits its landing. -/
def Landing.takes (l : Landing) (p : SetPart) : Bool := decide (p.lexp < l.lexperts) && decide (p.slot < l.cap)

/-- R254 for a dispatch set; `none` where it may stage. The read of CONSUMED may stall. -/
def landingRefusal (i : InSet) (f : SealInfo) (s : State) : Acc (Option Nat) × State :=
  let named := i.groups.map (fun g => (g, s.landing i.cab g))
  if named.any (fun x => match x.2 with | some l => l.unland | none => true) then (.ok (some stDenied), s)
  else if named.any (fun x => match x.2 with
      | some l => !l.fits f || !(i.parts.filter (fun p => p.group == x.1)).all l.takes
      | none => true) then (.ok (some stFormat), s)
  else go (named.filterMap (·.2)) s
where
  go : List Landing → State → Acc (Option Nat) × State
    | [], s => (.ok none, s)
    | l :: r, s => match s.arriveBad l with
      | (.ok true, s) => (.ok (some stAbandoned), s)
      | (.wait, s) => (.wait, s)
      | (.bad st u, s) => (.bad st u, s)
      | (.ok false, s) => match s.consumedOf l with
        | (.ok (some _), s) => go r s
        | (.ok none, s) => (.ok (some stAbandoned), s)
        | (.wait, s) => (.wait, s)
        | (.bad st u, s) => (.bad st u, s)

/-- The sender's rank in a ticket. -/
def Ticket.rankOf (t : Ticket) (node cab : Nat) : Option Nat :=
  (t.ranks.zipIdx.find? (fun e => e.1 == (node, cab))).map (·.2)

/-- R258's refusals of a return set. -/
def returnRefusal (i : InSet) (f : SealInfo) (s : State) : Option Nat :=
  match s.ticket i.cab i.ticket with
  | none => some stDenied
  | some t =>
    if f.xb != rowBytes t.rfmt t.h ||
        i.parts.any (fun p => decide (t.rows ≤ p.tag % 65536) || decide (t.k ≤ bitsOf p.tag 19 16)) then some stFormat
    else match t.rankOf i.node i.scab with
      | none => some stFormat
      | some r => if t.returned.contains r || i.rows.length != t.sent.getD r 0 then some stFormat else none

/-- Where a piece of a set goes: the virtual address of its bytes and the context; a dispatch row's tag too. -/
def placesOf (s : State) (i : InSet) (f : SealInfo) (p : SetPart) : Option (Nat × List (Nat × List Byte)) :=
  let bytes := p.bytes.take (f.xb - p.off)
  if f.ret then
    (s.ticket i.cab i.ticket).map (fun t =>
      (t.ctx, [(t.retVa + (p.tag % 65536 * t.k + bitsOf p.tag 19 16) * up64 f.xb + p.off, bytes)]))
  else
    (s.landing i.cab p.group).map (fun l =>
      (l.ctx, (if p.off = 0 then [(l.tagVa f.step p.lexp f.rank p.slot, toLe 4 p.tag)] else []) ++
        [(l.rowVa f.step p.lexp f.rank p.slot + p.off, bytes)]))

/-- The stream of a received set. -/
def InSet.asker (i : InSet) (ctx : Nat) : Asker :=
  { src := dceStream i.id, unit := uDce, cab := i.cab, ctx := ctx, owner := some i.owner, tag := dceTag 2 i.id }

/-- Write pieces into shadow one after another. -/
def setWrites (i : InSet) (ctx : Nat) : List (Nat × List Byte) → State → VaRes × State
  | [], s => (.ok, s)
  | (va, bs) :: r, s =>
    match s.shadowVa i.owner (i.asker ctx) va bs true with
    | (.ok, s) => setWrites i ctx r s
    | e => e

/-- Place the pieces not yet in shadow. -/
def placeParts (f : SealInfo) : List (SetPart × Nat) → InSet → State → VaRes × State
  | [], i, s => (.ok, s.updSet i)
  | (p, n) :: r, i, s =>
    if i.placed.contains n then placeParts f r i s
    else match placesOf s i f p with
      | none => (.bad stDenied uDce, s.updSet i)
      | some (ctx, ws) => match setWrites i ctx ws s with
        | (.ok, s) => placeParts f r { i with placed := n :: i.placed } s
        | (e, s) => (e, s.updSet i)

/-- Place a set's rows and reply STAGED. A local command met on a granule is killed, and the set goes on after it
(R255). -/
def stageRows (i : InSet) (f : SealInfo) (s : State) : State :=
  match placeParts f i.parts.zipIdx i s with
  | (.ok, s) => match s.inSet i.cab i.id with
    | some j => (s.updSet { j with staged := true }).setReply j 1 stDone
    | none => s
  | (.bad st _, s) => match s.inSet i.cab i.id with
    | some j => s.refuseSet j st
    | none => s
  | (.conflict o, s) => (s.killOwner o 2).bump (rTuCstat i.cab) 31 16
  | (.wait, s) => s

/-- EPOCH `a` is higher than `b`, modulo 2^32. -/
def epochAbove (a b : Nat) : Bool := let d := (a + 2 ^ 32 - b) % 2 ^ 32; decide (0 < d) && decide (d < 2 ^ 31)

/-- A higher EPOCH than this one has been seen from the sender for this key. -/
def State.seenAbove (s : State) (cab node scab : Nat) (k : SetKey) (epoch : Nat) : Bool :=
  s.dce.seen.any (fun e => e.cab == cab && e.node == node && e.scab == scab && e.key == k && epochAbove e.epoch epoch)

/-- See an EPOCH of a key: the highest stays. -/
def State.see (s : State) (x : Seen) : State :=
  if s.seenAbove x.cab x.node x.scab x.key x.epoch then s
  else
    let rest := s.dce.seen.filter (fun e => !(e.cab == x.cab && e.node == x.node && e.scab == x.scab && e.key == x.key))
    { s with dce := { s.dce with seen := x :: rest } }

/-- An EPOCH of a sender is over: its set was discarded or replaced. -/
def State.setDone (s : State) (cab node scab epoch : Nat) : Bool :=
  s.dce.seen.any (fun e => e.cab == cab && e.node == node && e.scab == scab && e.key == .done && e.epoch == epoch)

/-- The EPOCH is over: the list keeps it beside the others. -/
def State.endEpoch (s : State) (cab node scab epoch : Nat) : State :=
  if s.setDone cab node scab epoch then s
  else { s with dce := { s.dce with seen := ⟨cab, node, scab, .done, epoch⟩ :: s.dce.seen } }

/-- The packet belongs to a set older than one already seen (R256): its EPOCH is over, or a higher one of its ticket has
been seen in every direction it may travel: back to an open ticket that waits for its sender, or out to a landing
(log 148). -/
def State.lateSet (s : State) (cab : Nat) (p : Packet) : Bool :=
  s.setDone cab p.src p.srcCab p.epoch ||
  (let out := s.seenAbove cab p.src p.srcCab (.sent p.arg1) p.epoch
   let back := s.seenAbove cab p.src p.srcCab (.back p.arg1) p.epoch
   let mayBack := match s.ticket cab p.arg1 with
     | some t => match t.rankOf p.src p.srcCab with
       | some r => !t.returned.contains r
       | none => false
     | none => false
   (out && !mayBack) || (out && back))

/-- The set a packet belongs to. -/
def State.setOf (s : State) (cab : Nat) (p : Packet) : Option InSet :=
  s.dce.sets.find? (fun i => i.cab == cab && i.node == p.src && i.scab == p.srcCab && i.ticket == p.arg1 && i.epoch == p.epoch)

/-- What a set whose SEAL has arrived is told apart by. -/
def InSet.keys (s : State) (i : InSet) (f : SealInfo) : List SetKey :=
  if f.ret then [.back i.ticket]
  else .sent i.ticket :: (s.landsAt i).map (fun l => .part l.group (f.step % l.nparts))

/-- One of the keys is shared. -/
def shares (a b : List SetKey) : Bool := a.any (fun k => b.contains k)

/-- A set that is complete replaces the sender's older ones of its landing parts or ticket that have not received COMMIT,
and is itself dropped where a newer one has been seen (R256). -/
def State.admitSet (s : State) (i : InSet) (f : SealInfo) : Bool × State :=
  let ks := i.keys s f
  if ks.any (fun k => s.seenAbove i.cab i.node i.scab k i.epoch) then
    (false, ((s.discardSet i).endEpoch i.cab i.node i.scab i.epoch).bump rDceGstat 63 48)
  else
    let old := s.dce.sets.filter (fun x => x.cab == i.cab && x.node == i.node && x.scab == i.scab && x.id != i.id && !x.commit &&
      epochAbove i.epoch x.epoch && (match x.fin with
        | some g => shares ks (x.keys s g)
        | none => false))
    let s := old.foldl (fun s x => (s.discardSet x).endEpoch x.cab x.node x.scab x.epoch) s
    (true, ks.foldl (fun s k => s.see ⟨i.cab, i.node, i.scab, k, i.epoch⟩) s)

/-- Check and stage a set whose SEAL and SET packets have all arrived (R253, R254). -/
def stageSet (i : InSet) (s : State) : State :=
  match i.fin with
  | none => s
  | some f =>
    if i.staged || i.parts.length < f.count then s
    else if i.placed ≠ [] then stageRows i f s
    else match s.admitSet i f with
      | (false, s) => s
      | (true, s) =>
        if f.ret then match returnRefusal i f s with
          | some st => s.refuseSet i st
          | none => stageRows i f s
        else match landingRefusal i f s with
          | (.wait, s) => s
          | (.bad st _, s) => s.refuseSet i st
          | (.ok (some st), s) => s.refuseSet i st
          | (.ok none, s) => stageRows i f s

/-! ### Arrival of a set's packets -/

/-- Find or begin the set of a packet, and change it. -/
def State.onSet (s : State) (cab : Nat) (p : Packet) (g : InSet → InSet) : State :=
  match s.setOf cab p with
  | some i => let i := g i; stageSet i (s.updSet i)
  | none =>
    if s.lateSet cab p then s.bump rDceGstat 63 48
    else
      let i := g { id := s.dce.nextSet, cab := cab, job := p.job, g := p.g, node := p.src, scab := p.srcCab, epoch := p.epoch,
                   ticket := p.arg1 }
      stageSet i { s with dce := { s.dce with nextSet := s.dce.nextSet + 1, sets := s.dce.sets ++ [i] } }

/-- A tagged packet for the engine: its cabinet's handler, under the engine's holds. -/
def State.toDce (s : State) (port : Option Nat) (p : Packet) (f : Nat → State → State) : State :=
  match s.arrives port p with
  | (some n, s) => f n s
  | (none, s) => s

def setPart (p : Packet) : SetPart :=
  let b := p.payload
  { group := leAt b 9 1, lexp := leAt b 8 1, slot := p.arg0, tag := leAt b 0 4, off := leAt b 4 4, bytes := b.drop 16 }

def onSetPacket (port : Option Nat) (p : Packet) (s : State) : State :=
  s.toDce port p fun n s => s.onSet n p (fun i => { i with parts := i.parts ++ [setPart p] })

def sealInfo (p : Packet) : SealInfo :=
  let b := p.payload
  { step := leAt b 0 8, count := leAt b 8 4, xb := leAt b 12 4, cap := leAt b 16 4, rank := leAt b 20 2, ret := leAt b 22 1 == 1 }

def onSeal (port : Option Nat) (p : Packet) (s : State) : State :=
  s.toDce port p fun n s => s.onSet n p (fun i => { i with fin := some (sealInfo p) })

/-- COMMIT of a staged set: it commits when it may (R245). -/
def onCommit (port : Option Nat) (p : Packet) (s : State) : State :=
  s.toDce port p fun n s => match s.setOf n p with
    | some i => if i.staged then s.updSet { i with commit := true } else s
    | none => s.bump rDceGstat 63 48

/-- DISCARD discards the set of its EPOCH that has not received COMMIT (R256). -/
def onDiscard (port : Option Nat) (p : Packet) (s : State) : State :=
  s.toDce port p fun n s => match s.setOf n p with
    | some i => if i.commit then s else (s.discardSet i).endEpoch n p.src p.srcCab p.epoch
    | none => if s.lateSet n p then s.bump rDceGstat 63 48 else s.endEpoch n p.src p.srcCab p.epoch

def onSetrsp (port : Option Nat) (p : Packet) (s : State) : State :=
  s.toDce port p fun n s => setrsp (p.arg0 % 256) n p s

/-- A packet row of the engine: the packet has its type. -/
def dcePacket (port : Option PortId) (p : Packet) (ok : Bool) (f : Option Nat → Packet → State → State) (s : State) :
    Host.Outcome State Fault Refusal :=
  .next (if ok && p.dst == s.node then s.receive port p (f (port.map (·.val)) p) else s)

def execSetPacket (port : Option PortId) (pkt : Packet) (s : State) : Host.Outcome State Fault Refusal :=
  dcePacket port pkt (pkt.ty == ptSet) onSetPacket s
def execSealPacket (port : Option PortId) (pkt : Packet) (s : State) : Host.Outcome State Fault Refusal :=
  dcePacket port pkt (pkt.ty == ptSeal) onSeal s
def execCommitPacket (port : Option PortId) (pkt : Packet) (s : State) : Host.Outcome State Fault Refusal :=
  dcePacket port pkt (pkt.ty == ptCommit) onCommit s
def execDiscardPacket (port : Option PortId) (pkt : Packet) (s : State) : Host.Outcome State Fault Refusal :=
  dcePacket port pkt (pkt.ty == ptDiscard) onDiscard s
def execSetrspStaged (port : Option PortId) (pkt : Packet) (s : State) : Host.Outcome State Fault Refusal :=
  dcePacket port pkt (pkt.ty == ptSetrsp && pkt.arg0 % 256 == 1) onSetrsp s
def execSetrspCommitted (port : Option PortId) (pkt : Packet) (s : State) : Host.Outcome State Fault Refusal :=
  dcePacket port pkt (pkt.ty == ptSetrsp && pkt.arg0 % 256 == 2) onSetrsp s
def execSetrspRefused (port : Option PortId) (pkt : Packet) (s : State) : Host.Outcome State Fault Refusal :=
  dcePacket port pkt (pkt.ty == ptSetrsp && pkt.arg0 % 256 == 3) onSetrsp s
def execSetrspDiscarded (port : Option PortId) (pkt : Packet) (s : State) : Host.Outcome State Fault Refusal :=
  dcePacket port pkt (pkt.ty == ptSetrsp && pkt.arg0 % 256 == 4) onSetrsp s

/-! ### The commit of a set (R245) -/

/-- A slice header (R243). -/
def sliceHeader (i : InSet) (f : SealInfo) (count now : Nat) : List Byte :=
  toLe 4 count ++ toLe 2 i.node ++ toLe 1 i.scab ++ toLe 1 0 ++ toLe 8 f.step ++ toLe 2 i.ticket ++ toLe 2 f.rank ++
  toLe 4 f.xb ++ toLe 8 now ++ toLe 32 0

/-- Write the headers of every slice the set has at the landings it counts at. -/
def writeHeaders (i : InSet) (f : SealInfo) : List (Landing × Nat) → State → VaRes × State
  | [], s => (.ok, s)
  | (l, e) :: r, s =>
    let n := (i.rows.filter (fun p => p.group == l.group && p.lexp == e)).length
    match s.shadowVa i.owner (i.asker l.ctx) (l.sliceVa f.step e f.rank) (sliceHeader i f n s.now) true with
    | (.ok, s) => writeHeaders i f r s
    | x => x

/-- CONSUMED of every landing allows the step; its error value refuses the set with ABANDONED. -/
def consumedAllows (step : Nat) : List Landing → State → Acc Bool × State
  | [], s => (.ok true, s)
  | l :: r, s => match s.consumedOf l with
    | (.ok (some v), s) => if step ≤ v + l.nparts then consumedAllows step r s else (.ok false, s)
    | (.ok none, s) => (.bad stAbandoned uDce, s)
    | (.wait, s) => (.wait, s)
    | (.bad st u, s) => (.bad st u, s)

/-- The error the flood attaches to ARRIVE (R264). -/
def arriveError : Word := fenceWord 6 0x800 (2 ^ 48 - 1)

/-- Signal what ARRIVE is owed, in order. -/
def State.payArrive (s : State) (l : Landing) : State :=
  let a := latAsker l.cab l.ctx
  let base := (s.obj (handleIdx l.arrive)).base
  if l.owedErr then
    match s.attachError a base arriveError with
    | (.wait, s) => s
    | (_, s) => s.setLanding { l with owedErr := false, owed := [] }
  else match l.owed with
    | [] => s
    | v :: r => match s.signalFence a base v with
      | (.wait, s) => s
      | (_, s) => s.setLanding { l with owed := r }

/-- The set of one sender rank counts at a landing, once for its step; the part's step arrives once those of all ranks have
committed. -/
def State.countArrival (s : State) (l : Landing) (f : SealInfo) : State :=
  let got := if l.got.contains (f.step, f.rank) then l.got else l.got ++ [(f.step, f.rank)]
  if (got.filter (fun g => g.1 == f.step)).length = l.ranks then
    let l := { l with got := got.filter (fun g => g.1 != f.step), last := l.last.set (f.step % l.nparts) (some f.step),
                      owed := l.owed ++ [f.step] }
    (s.setLanding l).payArrive l
  else s.setLanding { l with got := got }

/-- Unbinding landings of a cabinet go on. -/
def State.settleUnlands (s : State) (cab : Nat) : State :=
  (s.dce.landings.filter (fun l => l.cab == cab && l.unland)).foldl (fun s l => s.settleUnland l) s

/-- Make a set that may commit current: headers, sequence point, COMMITTED. -/
def commitSet (i : InSet) (f : SealInfo) (s : State) : State :=
  let ls := if f.ret then [] else s.landsAt i
  let slices := ls.flatMap (fun l => (List.range l.lexperts).map (fun e => (l, e)))
  match writeHeaders i f slices s with
  | (.wait, s) => s
  | (.conflict o, s) => s.killOwner o 2
  | (.bad st _, s) => s.refuseSet i st
  | (.ok, s) =>
    match s.commitOwner i.owner { m := .cab i.cab, unit := uTu, ctx := none } with
    | (.bad st _, s) => s.refuseSet i st
    | (.ok _, s) =>
      let s := { s with dce := { s.dce with sets := s.dce.sets.filter (fun x => x.id != i.id) } }
      let s := s.setReply i 2 stDone
      if f.ret then
        s.updTicket i.cab i.ticket (fun t => match t.rankOf i.node i.scab with
          | some r => { t with returned := r :: t.returned }
          | none => t)
      else (ls.foldl (fun s l => s.countArrival l f) s).settleUnlands i.cab

/-- A staged set with COMMIT commits once CONSUMED allows; one still to be staged goes on staging. -/
def landingCommit (cab id : Nat) (s : State) : State :=
  let s := (s.dce.landings.filter (fun l => l.cab == cab)).foldl (fun s l => s.payArrive l) s
  match s.inSet cab id with
  | some i => match i.fin with
    | some f =>
      if !i.staged then stageSet i s
      else if !i.commit then s
      else if f.ret then commitSet i f s
      else if i.groups.any (fun g => match s.landing i.cab g with | some l => !l.later f.step | none => false) then
        s.refuseSet i stFormat
      else match consumedAllows f.step (s.landsAt i) s with
        | (.ok true, s) => commitSet i f s
        | (.bad st _, s) => s.refuseSet i st
        | (_, s) => s
    | none => s
  | none => s.settleUnlands cab

def execLandingCommit (cab : CabId) (id : Nat) (s : State) : Host.Outcome State Fault Refusal :=
  .next (s.work uDce (landingCommit cab.val id))

/-! ### Aborts, resets, teardown -/

/-- The job-abort flood at a cabinet (R264). -/
def State.abortDce (s : State) (cab : Nat) : State :=
  let waits (l : Landing) := l.got != [] || s.dce.sets.any (fun i => i.cab == cab && i.staged &&
    (match i.fin with | some f => !f.ret | none => false) && (s.landsAt i).any (fun x => x.group == l.group))
  let hit := s.dce.landings.filter (fun l => l.cab == cab && waits l)
  let s := (s.dce.sets.filter (fun i => i.cab == cab)).foldl (fun s i => s.discardSet i) s
  let s := (s.dce.cmds.filter (fun c => c.cab == cab)).foldl (fun s c =>
    s.endDce c { status := stAbortedPeer, unit := some uDce }) s
  let s := { s with dce := { s.dce with tickets := updWhere (fun (t : Ticket) => t.cab == cab) (fun t => { t with aborted := true }) s.dce.tickets } }
  let s := hit.foldl (fun s l => let l := { l with aborted := true, owedErr := true }; (s.setLanding l).payArrive l) s
  s.bump rDceGstat 31 16

/-- An abort acts on the cabinet that holds its tag (R363): its outstanding remote requests and its sets end. -/
def State.applyAbort (s : State) (cab : Nat) : State :=
  ((s.fr.reqs.filter (fun r => r.cab == cab)).foldl (fun s r => s.endRemote r stAbortedPeer uRouter) s).abortDce cab

/-- Originate an ABORT for a cabinet's VALID tag; it acts on this chip too (R361, R363, log 51). -/
def State.abortJob (s : State) (cab reason : Nat) : State :=
  if s.jobValid cab then (s.originateAbort cab reason).applyAbort cab else s

/-- VALID is cleared, after the ABORT with REASON 0x04 (R358). -/
def State.clearTag (s : State) (cab : Nat) : State :=
  if s.jobValid cab then (s.abortJob cab 4).setRfld (rFrJob cab) 32 32 0 else s

/-- The engine's own reset (R265): sets that had received COMMIT commit where CONSUMED allows, the rest are discarded with
DISCARDED; commands are killed and replay, DIRECT ones end with the fault's status. -/
def State.resetDce (s : State) (st unit : Nat) : State :=
  let s := (s.dce.cmds.filter DceCmd.runs).foldl (fun s c =>
    if c.direct then s.endDce c { status := st, unit := some unit } else s.killDce c 8) s
  let s := (s.dce.sets.filter (fun i => !i.commit)).foldl (fun s i => (s.discardSet i).setReply i 4 stDone) s
  (s.dce.sets.filter (·.commit)).foldl (fun s i => landingCommit i.cab i.id s) s

/-- Teardown of a context: its landings unbind (R246). -/
def State.dropLandingsOf (s : State) (cab ctx : Nat) : State :=
  (s.dce.landings.filter (fun l => l.cab == cab && l.ctx == ctx && !l.unland)).foldl (fun s l => s.unbind l) s

/-- Teardown of a context: its tickets close, and their staged return sets are refused. -/
def State.dropTicketsOf (s : State) (cab ctx : Nat) : State :=
  (s.dce.tickets.filter (fun t => t.cab == cab && t.ctx == ctx)).foldl (fun s t =>
    let s := (s.dce.sets.filter (fun i => i.cab == cab && i.ticket == t.num && i.staged && !i.commit &&
      (match i.fin with | some f => f.ret | none => false))).foldl (fun s i => s.refuseSet i stDenied) s
    s.closeTicket cab t.num) s

/-- Nothing of the context is bound. -/
def State.dceIdle (s : State) (cab ctx : Nat) : Bool := !s.dce.landings.any (fun l => l.cab == cab && l.ctx == ctx)

/-- No command of the cabinet runs and no set is staged (R266). -/
def State.dceQuiet (s : State) (cab : Nat) : Bool :=
  !s.dce.cmds.any (fun c => c.cab == cab) && !s.dce.sets.any (fun i => i.cab == cab)

end Sys2Proof.Machine
end

