-- ==== Sys2Proof/Machine/Latches.lean ====
section
/-! DEFINITION. The Latch Unit (chapter 03): WAIT, local SIGNAL, latch commands, evaluation, polls and limits. -/
namespace Sys2Proof.Machine

/-! ### Shared operations -/

/-- How a fence with words `v` and `w1` completes a WAIT for `value` (R99). -/
def fenceVerdict (v w1 value : Nat) : Option Ending :=
  if 2 ^ 63 ≤ v ∨ v = fenceError then
    let code := bitsOf w1 63 60
    if 1 ≤ code ∧ code ≤ 0xB then
      some { status := code, unit := some (bitsOf w1 59 48), relay := some (BitVec.ofNat 64 w1) }
    else some { status := stFormat, unit := some uLatch }
  else if value ≤ v then some { status := stDone }
  else none

def State.dropWait (s : State) (w : Waiting) : State :=
  { s with lat := { s.lat with waits := s.lat.waits.filter (fun x => x != w) } }

/-- A WAIT completes; a satisfied WAIT wakes its cabinet (R103). -/
def State.endWait (s : State) (w : Waiting) (e : Ending) : State :=
  (((s.dropWait w).endFlight w.cab w.drawer w.seq e).wakeCab w.cab 3).noteActivity w.cab
    (s.drawer w.cab w.drawer).ctx

def State.waiters (s : State) (n : Nat) : List Waiting := s.lat.waits.filter (fun w => w.latch == some n)

/-- The lowest latch that is FREE. -/
def State.freeLatch (s : State) : Nat :=
  ((List.range 16384).find? (fun i => (s.latch i).st == .free)).getD 0

/-- The latch of the cabinet that watches an object (R100). -/
def State.latchOf (s : State) (cab obj : Nat) : Option Nat :=
  (s.lat.latches.find? (fun e => e.2.st != .free && e.2.cab == cab && e.2.obj == obj)).map (·.1)

/-- The poll interval of a latch on a host fence, in µs (R103, R110). -/
def State.pollUs (s : State) (l : Latch) : Nat :=
  max 1 (if l.pollUs = 0 then s.rfld (rLatCfg l.cab) 15 0 else l.pollUs)

/-- The polls that the latches on host fences ask for, in 2^32ths of a poll per µs. -/
def State.pollDemand (s : State) : Nat :=
  ((s.lat.latches.filter (fun e => e.2.st != .free && e.2.host)).map (fun e => 2 ^ 32 / s.pollUs e.2)).sum

/-- An interval of `ns` stretched in the proportion by which the demand exceeds one poll every 8 cycles (R103). -/
def State.stretch (s : State) (ns : Nat) : Nat :=
  let budget := 2 ^ 32 * s.cycles
  if budget = 0 then ns else ns * max budget (8 * s.pollDemand) / budget

/-- A latch that polls at now polls next after its interval. -/
def State.schedulePoll (s : State) (l : Latch) : Latch :=
  { l with nextPoll := s.mono + s.stretch (s.pollUs l * 1000), pollDue := s.mono + s.pollUs l * 1000 }

/-- A latch in WATCH for a WAIT's object. -/
def watchLatch (s : State) (cab ctx fence obj : Nat) : Latch :=
  s.schedulePoll { st := .watch, cab := cab, fence := fence, obj := obj, ctx := ctx, host := (s.obj obj).host, dirty := true }

/-- Starved WAITs of a latch's fence share the latch (R100). -/
def State.shareLatch (s : State) (n : Nat) : State :=
  let l := s.latch n
  let same (w : Waiting) : Bool := w.cab == l.cab && w.obj == l.obj && w.latch == none
  { s with lat := { s.lat with waits := updWhere same (fun w => { w with latch := some n }) s.lat.waits } }

/-- A latch is released: its quota unit returns, and the oldest starved WAIT of the cabinet takes it (R104, R108). -/
def State.releaseLatch (s : State) (n : Nat) : State :=
  let cab := (s.latch n).cab
  let s := s.setLatch n {}
  match s.lat.waits.find? (fun w => w.cab == cab && w.latch == none) with
  | some w =>
    let ctx := (s.drawer w.cab w.drawer).ctx
    (s.setLatch n (watchLatch s cab ctx w.fence w.obj)).shareLatch n
  | none => s

/-- A latch in WATCH without waiters returns to FREE. -/
def State.settleLatch (s : State) (n : Nat) : State :=
  if (s.latch n).st == .watch && (s.waiters n).isEmpty then s.releaseLatch n else s

/-- The mirror write of a latch that reaches its threshold: never serviced; a failure is only counted (R104). It answers
false while it waits for the host's translation. -/
def State.mirrorWrite (s : State) (n v : Nat) : Bool × State :=
  let l := s.latch n
  if l.mirrorEn then
    match s.vaWrite { latAsker l.cab l.ctx with service := false } l.mirrorVa (toLe 8 v) with
    | (.ok _, s) => (true, s)
    | (.wait, s) => (false, s)
    | (.bad .., s) => (true, s.bump (rLatStat l.cab) 23 16)
  else (true, s)

/-- What a latch's read of its fence answers: its two words and where it lies. -/
inductive FenceRead where
  | ok (v w1 : Nat) (host : Bool) (pa : Nat)
  | wait
  | bad (status unit : Nat) (known : Option (Bool × Nat))
deriving DecidableEq, Repr

/-- A read of a fence object on the Latch Unit's stream for a context. -/
def State.readFence (s : State) (cab ctx obj : Nat) : FenceRead × State :=
  let a := latAsker cab ctx
  match s.xlate a (s.obj obj).base false with
  | (.wait _, s) => (.wait, s)
  | (.bad st u, s) => (.bad st u none, s)
  | (.ok host p _, s) =>
    match s.readAt a host p 16 with
    | (.bad st u, s) => (.bad st u (some (host, p)), s)
    | (.ok bs, s) => (.ok (leAt bs 0 8) (leAt bs 8 8) host p, s)

/-- A latch's read of its fence failed: every WAIT attached completes with its status (R506). -/
def State.latchFails (s : State) (n st u : Nat) (known : Option (Bool × Nat)) : State :=
  let l := s.latch n
  let s := s.setLatch n (match known with
    | some (host, p) => { l with dirty := false, known := true, host := host, pa := p }
    | none => { l with dirty := false, known := false })
  ((s.waiters n).foldl (fun s w => s.endWait w { status := st, unit := some u }) s).settleLatch n

/-- An ARMED latch reaches its threshold: its mirror is written, and it is SPENT; while the mirror waits for the host's
translation the latch stays ARMED, to be read again (R104, log 39). -/
def State.latchHit (s : State) (n v : Nat) : State :=
  let m := s.mirrorWrite n v
  let l := m.2.latch n
  m.2.setLatch n (if m.1 then { l with st := .spent } else { l with dirty := true })

/-- Read a latch's fence and act on it (R101, R104, R506). A read that stalls leaves the latch to be read again. -/
def State.evalLatch (s : State) (n : Nat) : State :=
  let l := s.latch n
  if l.st == .free then s
  else match s.readFence l.cab l.ctx l.obj with
    | (.wait, s) => s.setLatch n { s.latch n with dirty := true }
    | (.bad st u k, s) => s.latchFails n st u k
    | (.ok v w1 host p, s) =>
      let s := s.tally uLatch 4 (some l.cab)
      let err := decide (2 ^ 63 ≤ v ∨ v = fenceError)
      let s := s.setLatch n { l with dirty := false, known := true, host := host, pa := p, errored := err, last := v % 2 ^ 63,
                                     regress := if v % 2 ^ 63 < l.last then min (l.regress + 1) 65535 else l.regress }
      let s := ((s.waiters n).foldl (fun s w =>
        match fenceVerdict v w1 w.value with
        | some e => s.endWait w e
        | none => s) s).settleLatch n
      if l.st == .armed && (err || decide (l.threshold ≤ v)) then s.latchHit n v else s

/-! ### WAIT and local SIGNAL -/

/-- When a WAIT times out: TIMEOUT_US from its issue (R98). -/
def waitLimit (f : Flight) : Option Nat :=
  let us := leAt f.body 4 4
  if us = 0 then none else some (f.issuedAt + us * 1000)

/-- WAIT (R98, R99, R104, R108). -/
def waitIssue (f : Flight) (s : State) : State :=
  let target := leAt f.body 0 4
  let value := leAt f.body 8 8
  let obj := (s.obj (handleIdx target)).orig
  match s.readFence f.cab f.ctx obj with
  | (.wait, s) => s
  | (.bad st u _, s) => s.endFlight f.cab f.drawer f.seq { status := st, unit := some u }
  | (.ok v w1 _ _, s) =>
    match fenceVerdict v w1 value with
    | some e => s.endFlight f.cab f.drawer f.seq e
    | none =>
      let w : Waiting := { cab := f.cab, drawer := f.drawer, seq := f.seq, obj := obj, fence := target, value := value,
                           latch := none, deadline := waitLimit f }
      let s := s.startFlight f
      let add (w : Waiting) (s : State) : State := { s with lat := { s.lat with waits := s.lat.waits ++ [w] } }
      match s.latchOf f.cab obj with
      | some n => add { w with latch := some n } s
      | none =>
        if s.useLatches f.cab < quotaLatches (s.cab f.cab).conf then
          let n := s.freeLatch
          (add { w with latch := some n } ((s.setLatch n (watchLatch s f.cab f.ctx target obj)).shareLatch n)).evalLatch n
        else
          add w ((s.bump (rLatStat f.cab) 47 32).bump rLatGstat 47 32)

def execWaitDesc (cab : CabId) (drawer : DrawerId) (seq : Seq) (s : State) : Host.Outcome State Fault Refusal :=
  .next (s.work uLatch fun s => match s.issuedOp cab.val drawer.val seq.val 0x31 with
    | some f => (waitIssue f s).noteActivity f.cab f.ctx
    | none => s)

/-- A local SIGNAL acts when issued, then completes (R96, R97). -/
def signalLocal (f : Flight) (s : State) : State :=
  match s.signalFence (latAsker f.cab f.ctx) (s.obj (handleIdx (leAt f.body 4 4))).base (leAt f.body 8 8) with
  | (.wait, s) => s
  | (.bad st u, s) => s.endFlight f.cab f.drawer f.seq { status := st, unit := some u }
  | (.ok _, s) => s.endFlight f.cab f.drawer f.seq { status := stDone }

def execSignalLocal (cab : CabId) (drawer : DrawerId) (seq : Seq) (s : State) : Host.Outcome State Fault Refusal :=
  .next (s.work uLatch fun s => match s.issuedOp cab.val drawer.val seq.val 0x30 with
    | some f => if leAt f.body 0 1 = 0 then signalLocal f s else s
    | none => s)

/-- TIMEOUT_US has passed for a WAIT, attached, starved or stalled in its read at issue (R99). -/
def waitTimeout (cab drawer seq : Nat) (s : State) : State :=
  let ending : Ending := { status := stTimeout, unit := some uLatch }
  let due (d : Option Nat) : Bool := d.any (fun d => decide (d ≤ s.mono))
  match s.lat.waits.find? (fun w => w.cab == cab && w.drawer == drawer && w.seq == seq) with
  | some w =>
    if due w.deadline then
      let s := (s.endWait w ending).bump (rLatStat cab) 31 24
      match w.latch with | some n => s.settleLatch n | none => s
    else s
  | none => match s.issuedOp cab drawer seq 0x31 with
    | some f => if due (waitLimit f) then (s.endFlight cab drawer seq ending).bump (rLatStat cab) 31 24 else s
    | none => s

def execWaitTimeout (cab : CabId) (drawer : DrawerId) (seq : Seq) (s : State) : Host.Outcome State Fault Refusal :=
  .next (s.work uLatch (waitTimeout cab.val drawer.val seq.val))

/-! ### Evaluation and polls -/

/-- A write to the fence is visible: the latch reads it and evaluates (R101, R102). -/
def execLatchEvaluate (latch : LatchId) (s : State) : Host.Outcome State Fault Refusal :=
  .next (s.work uLatch fun s => if (s.latch latch.val).dirty then s.evalLatch latch.val else s)

/-- A poll falls due: the latch reads its host fence; one that the budget has delayed is late (R103). -/
def hostPoll (n : Nat) (s : State) : State :=
  let l := s.latch n
  if l.st != .free && l.host && decide (l.nextPoll ≤ s.mono) then
    let s := if l.pollDue < l.nextPoll then s.bump rLatGstat 31 16 else s
    (s.setLatch n (s.schedulePoll l)).evalLatch n
  else s

def execHostFencePoll (latch : LatchId) (s : State) : Host.Outcome State Fault Refusal :=
  .next (s.work uLatch (hostPoll latch.val))

/-- The starvation interval has passed: every starved WAIT of the cabinet has its fence read (R108). -/
def starvedPoll (cab : Nat) (s : State) : State :=
  if mapGet 0 cab s.lat.starveAt ≤ s.mono then
    let us := max 1 (s.rfld (rLatCfg cab) 47 32)
    let s := { s with lat := { s.lat with starveAt := mapSet 0 cab (s.mono + us * 1000) s.lat.starveAt } }
    (s.lat.waits.filter (fun w => w.cab == cab && w.latch == none)).foldl (fun s w =>
      match s.readFence cab (s.drawer cab w.drawer).ctx w.obj with
      | (.wait, s) => s
      | (.bad st u _, s) => s.endWait w { status := st, unit := some u }
      | (.ok v w1 _ _, s) =>
        match fenceVerdict v w1 w.value with
        | some e => s.endWait w e
        | none => s) s
  else s

def execStarvedWaitPoll (cab : CabId) (s : State) : Host.Outcome State Fault Refusal :=
  .next (s.work uLatch (starvedPoll cab.val))

/-! ### Latch commands (R104, R110) -/

/-- The fields an ARM sets. -/
def armFields (s : State) (cab : Nat) (l : Latch) : Latch :=
  s.schedulePoll { l with
    st := .armed, ctx := s.rfld (rLatArg cab 0) 45 32, threshold := s.rfld (rLatArg cab 1) 62 0,
    mirrorVa := s.rfld (rLatArg cab 2) 56 0, pollUs := s.rfld (rLatArg cab 3) 63 48,
    exportId := s.rfld (rLatArg cab 3) 27 16, exportEn := s.rfld (rLatArg cab 3) 8 8 == 1,
    mirrorEn := s.rfld (rLatArg cab 3) 0 0 == 1 }

/-- A live export of the cabinet (R105). -/
def State.exporter (s : State) (cab id : Nat) : Option Nat :=
  (s.lat.latches.find? (fun e => e.2.cab == cab && (e.2.st == .armed || e.2.st == .spent) && e.2.exportEn
    && e.2.exportId == id)).map (·.1)

/-- ARM's checks in order, then its effect: error code, value, state. -/
def latArm (cab : Nat) (s : State) : Nat × Nat × State :=
  let ctx := s.rfld (rLatArg cab 0) 45 32
  let h := s.rfld (rLatArg cab 0) 31 0
  let o := s.obj (handleIdx h)
  let cur := s.latchOf cab o.orig
  if (s.ctx cab ctx).st != .live then (errNoCtx, 0, s)
  else if !s.owns cab ctx h then (errStale, 0, s)
  else if !o.fence then (errArg, 0, s)
  else if cur.any (fun n => (s.latch n).st != .watch) then (errState, 0, s)
  else if s.rfld (rLatArg cab 3) 0 0 = 1 ∧ s.rfld (rLatArg cab 2) 56 0 % 8 ≠ 0 then (errArg, 0, s)
  else if s.rfld (rLatArg cab 3) 8 8 = 1 ∧ (s.exporter cab (s.rfld (rLatArg cab 3) 27 16)).isSome then (errArg, 0, s)
  else match cur with
    | some n => (errNone, n, (s.setLatch n (armFields s cab (s.latch n))).evalLatch n)
    | none =>
      if s.useLatches cab < quotaLatches (s.cab cab).conf then
        let n := s.freeLatch
        (errNone, n, ((s.setLatch n (armFields s cab { watchLatch s cab ctx h o.orig with fence := h })).shareLatch n).evalLatch n)
      else (errQuota, 0, s)

/-- The latch is one of the cabinet's and not FREE. -/
def State.ownLatch (s : State) (cab n : Nat) : Bool := (s.latch n).st != .free && (s.latch n).cab == cab

def latRearm (cab n : Nat) (s : State) : Nat × Nat × State :=
  if !s.ownLatch cab n then (errStale, 0, s)
  else if (s.latch n).st == .watch then (errState, 0, s)
  else (errNone, n,
    (s.setLatch n { s.latch n with st := .armed, threshold := s.rfld (rLatArg cab 1) 62 0 }).evalLatch n)

/-- Clear a latch's threshold and options: WATCH with waiters, else FREE. -/
def State.disarm (s : State) (n : Nat) : State :=
  let l := s.latch n
  (s.setLatch n { l with st := .watch, threshold := 0, mirrorEn := false, mirrorVa := 0, exportEn := false, exportId := 0,
                         pollUs := 0 }).settleLatch n

def latDisarm (cab n : Nat) (s : State) : Nat × Nat × State :=
  if !s.ownLatch cab n then (errStale, 0, s)
  else if (s.latch n).st == .watch then (errState, 0, s)
  else (errNone, n, s.disarm n)

def latEval (cab n : Nat) (s : State) : Nat × Nat × State :=
  if !s.ownLatch cab n then (errStale, 0, s) else (errNone, n, s.evalLatch n)

/-- A latch command by a function: no effect unless the function reaches the window (R496). -/
def latCommand (func : Func) (cab : CabId) (v : Word) (f : State → Nat × Nat × State) (s : State) :
    Host.Outcome State Fault Refusal :=
  .next (s.operate func.val cab.val 0x800 (some v) fun s => s.command (rLatResult cab.val) f)

/-- NOP is a command that has no effect and ends at once without an error (R53, log 13). -/
def nopCommand (res : Nat) (s : State) : State := s.command res (fun s => (errNone, 0, s))

def execLatNop (func : Func) (cab : CabId) (s : State) : Host.Outcome State Fault Refusal :=
  .next (s.operate func.val cab.val 0x800 (some (cmdWord 0)) fun s => nopCommand (rLatResult cab.val) s)
def execLatArm (func : Func) (cab : CabId) (s : State) : Host.Outcome State Fault Refusal :=
  latCommand func cab (cmdWord 1) (latArm cab.val) s
def execLatRearm (func : Func) (cab : CabId) (latch : LatchId) (s : State) : Host.Outcome State Fault Refusal :=
  latCommand func cab (cmdWord 2 latch.val) (latRearm cab.val latch.val) s
def execLatDisarm (func : Func) (cab : CabId) (latch : LatchId) (s : State) : Host.Outcome State Fault Refusal :=
  latCommand func cab (cmdWord 3 latch.val) (latDisarm cab.val latch.val) s
def execLatEval (func : Func) (cab : CabId) (latch : LatchId) (s : State) : Host.Outcome State Fault Refusal :=
  latCommand func cab (cmdWord 4 latch.val) (latEval cab.val latch.val) s

end Sys2Proof.Machine
end

