-- ==== Sys2Proof/Machine/Search.lean ====
section
/-! DEFINITION. Finding the guilty context (R386 to R388): suspects, their replays one at a time, and the end of a search. -/
namespace Sys2Proof.Machine

/-- Hold a suspect's interrupted work, or let it go on. -/
def State.holdSuspect (s : State) (x : Suspect) (on : Bool) : State :=
  let holds (l : List Hold) : List Hold := l.map (fun h => if h == .search then .over else h) ++ (if on then [.search] else [])
  let s := x.cmds.foldl (fun s n => s.updCmd x.cab n (fun c => { c with holds := holds c.holds })) s
  let s := s.renewWaits x.cab
  let s := x.segs.foldl (fun s g => s.setChan g.1 { s.chan g.1 with suspect := on && (s.chan g.1).cab == x.cab }) s
  x.dces.foldl (fun s d => match s.dceCmd x.cab d.1 d.2 with
    | some c => s.updDce c (fun c => { c with holds := holds c.holds })
    | none => s) s

/-- The interrupted segment has been carried. -/
def State.segDone (s : State) (x : Suspect) (g : Nat × Nat × Bool) : Bool :=
  let c := s.chan g.1
  c.cab != x.cab || c.ctx != x.ctx || (c.cur.isNone && !c.direct) || decide (g.2.1 < c.low) || c.wrote.contains g.2.1 ||
  (g.2.2 && c.staged.any (fun x => x.k == g.2.1))

/-- A suspect's replay is complete: every interrupted command has ended, every segment is carried. -/
def State.replayDone (s : State) (x : Suspect) : Bool :=
  x.cmds.all (fun n => match s.cmd x.cab n with
    | some c => (match c.phase with | .finished .. => true | _ => false)
    | none => true) &&
  x.segs.all (s.segDone x) && x.dces.all (fun d => (s.dceCmd x.cab d.1 d.2).isNone)

/-- Remove the search of a unit: every suspect left resumes. -/
def State.endSearch (s : State) (u : Nat) : State :=
  let mine := s.rcv.searches.filter (fun r => r.unit == u)
  let s := mine.foldl (fun s r => r.left.foldl (fun s x => s.holdSuspect x false) s) s
  let s := { s with rcv := { s.rcv with searches := s.rcv.searches.filter (fun r => r.unit != u) } }
  let v := s.unitSt u
  if v.phase == .search then s.setUnitSt u { v with phase := .service } else s

/-- Set the suspects left of a search. -/
def State.setLeft (s : State) (u : Nat) (l : List Suspect) : State :=
  let q := updWhere (fun (q : Search) => q.unit == u) (fun q => { q with left := l }) s.rcv.searches
  { s with rcv := { s.rcv with searches := q } }

/-- Let the head of a search replay. -/
def State.startHead (s : State) (u : Nat) : State :=
  match s.rcv.searches.find? (fun r => r.unit == u) with
  | some r => match r.left with
    | x :: _ =>
      let s := s.holdSuspect x false
      let l := updWhere (fun (q : Search) => q.unit == u) (fun q => { q with began := s.mono }) s.rcv.searches
      { s with rcv := { s.rcv with searches := l } }
    | [] => s.endSearch u
  | none => s

/-- The head leaves a search and the next suspect is replayed; the last one ends it. -/
def State.nextSuspect (s : State) (u : Nat) : State :=
  match s.rcv.searches.find? (fun r => r.unit == u) with
  | some r =>
    let s := match r.left with
      | x :: _ => s.holdSuspect x false
      | [] => s
    let s := s.setLeft u r.left.tail
    if r.left.length ≤ 1 then s.endSearch u else s.startHead u
  | none => s

/-- Start the search of a unit over its suspects (R386). -/
def State.startSearch (s : State) (u : Nat) (l : List Suspect) : State :=
  if l = [] then s
  else
    let s := (s.endSearch u).setUnitSt u { s.unitSt u with phase := .search, wait := [] }
    let s := l.foldl (fun (s : State) x => s.holdSuspect x true) s
    ({ s with rcv := { s.rcv with searches := s.rcv.searches ++ [({ unit := u, left := l, began := s.mono } : Search)] } }).startHead u

/-- A VERDICT record (R386). -/
def State.verdict (s : State) (u action status n : Nat) (x : Suspect) (desc : Option (Nat × Nat)) : State :=
  let d := desc.getD (0, 2 ^ 48 - 1)
  s.faultEvent { unit := u, cls := 0x08, action := action, status := status, cab := some x.cab, ctx := some x.ctx,
                 suspects := n, drawer := d.1, seq := d.2 }

/-- The head of a unit's search is cleared (R386 item 4). -/
def State.clearHead (s : State) (u : Nat) : State :=
  match s.rcv.searches.find? (fun r => r.unit == u) with
  | some r => match r.left with
    | x :: _ => (s.verdict u 0 0 r.left.length x none).nextSuspect u
    | [] => s.endSearch u
  | none => s

/-- A context leaves every search: it is torn down or reset (R388). -/
def State.leaveSearch (s : State) (hit : Suspect → Bool) : State :=
  let s := s.rcv.units.foldl (fun (s : State) e =>
    s.setUnitSt e.1 { e.2 with wait := e.2.wait.filter (fun x => !hit x) }) s
  s.rcv.searches.foldl (fun (s : State) r =>
    let head := match r.left with | x :: _ => hit x | [] => false
    let s := (r.left.filter hit).foldl (fun (s : State) x => s.holdSuspect x false) s
    let s := s.setLeft r.unit (r.left.filter (fun x => !hit x))
    if head then s.startHead r.unit else s) s

end Sys2Proof.Machine
end

