-- ==== Sys2Proof/Machine/Cancel.lean ====
section
/-! DEFINITION. What removes work: one descriptor (R63), a context's work (R377, R378). -/
namespace Sys2Proof.Machine

/-! ### Drawers that empty (R63) -/

/-- The requests of a drawer that is gone are dropped; their fault records stay. -/
def State.dropDrwReqs (s : State) (cab i : Nat) : State :=
  { s with tu := { s.tu with reqs := s.tu.reqs.filter (fun r =>
      !((r.src == .drw true || r.src == .drw false) && r.tag == drwKey cab i + 1)) } }

/-- INFLIGHT has reached 0: STOPPING ends in STOPPED, DYING in FREE. -/
def State.settleDrawer (s : State) (cab i : Nat) : State :=
  let d := s.drawer cab i
  if s.inflight cab i != 0 then s
  else match d.st with
    | .stopping => s.setDrawer cab i { d with st := .stopped }
    | .dying =>
      let s := (s.setDrawer cab i {}).dropDrwReqs cab i
      if d.byCmd then
        { s with drw := { s.drw with drwBusy := s.drw.drwBusy.filter (fun x => x != cab) } }.result (rDrwResult cab) errNone i
      else s
    | _ => s

/-! ### Cancelling one descriptor -/

/-- A tile command is cancelled: one that waits is removed, a committing one is killed and not replayed, a DIRECT one on
its tiles runs to its end. -/
def State.cancelCmd (s : State) (c : Cmd) : State :=
  if c.direct && c.onTiles then s
  else match c.phase with
    | .waiting =>
      let s := (s.dropCmd c.cab c.n).noteActivity c.cab c.ctx
      match c.desc with
      | some (d, q) => s.endFlight c.cab d q abandoned
      | none => s
    | .finished .. => s.dropCmd c.cab c.n
    | _ => (s.updCmd c.cab c.n (fun x => { x with gone := true })).killCmd c.cab c.n 9

/-- A MOVE or PREFETCH is cancelled, wherever it stands. -/
def State.cancelMove (s : State) (f : Flight) : State :=
  let key := (f.cab, f.drawer, f.seq)
  let s := { s with me := { s.me with waits := s.me.waits.filter (fun w => w != key) } }
  match s.me.chans.find? (fun e => e.2.cab == f.cab && (e.2.cur == some (f.drawer, f.seq) || e.2.queue.contains (f.drawer, f.seq))) with
  | some (i, c) =>
    if c.cur == some (f.drawer, f.seq) then s.endTransfer i abandoned
    else s.setChan i { c with queue := c.queue.filter (fun q => q != (f.drawer, f.seq)) }
  | none => s

/-- A Dispatch-Combine command is cancelled with DISCARD to its ranks; a DIRECT one, or one past its sequence point, runs
to its end. -/
def State.cancelDce (s : State) (c : DceCmd) : State :=
  if c.phase == .committing || (c.direct && c.phase != .queued) then s
  else (s.discardPeers c none).endDce c abandoned

/-- Cancel a descriptor in flight. One whose work must leave an engine first ends when it has; a live REQUEST ends at its
next boundary. -/
def State.cancelFlight (s : State) (f : Flight) : State :=
  if f.stage.isEnded then s
  else
    let done (s : State) : State := s.endFlight f.cab f.drawer f.seq abandoned
    let same (d : Option (Nat × Nat)) : Bool := d == some (f.drawer, f.seq)
    if f.op = 0x01 ∨ f.op = 0x02 then
      match s.cmdOf f.cab f.drawer f.seq with
      | some c => s.cancelCmd c
      | none => done s
    else if f.op = 0x03 then
      if f.stage == .running then s
      else
        let b := s.sbc f.cab
        done (s.setSbc f.cab { b with waits := b.waits.filter (fun w => !(w.drawer == f.drawer && w.seq == f.seq)) })
    else if f.op = 0x10 ∨ f.op = 0x11 then done (s.cancelMove f)
    else if f.op = 0x12 then
      let key := some (f.cab, f.drawer, f.seq)
      done { s with tu := { s.tu with settles := s.tu.settles.filter (fun j => j.desc != key),
                                      withdraws := updWhere (fun w => w.desc == key) (fun w => { w with desc := none }) s.tu.withdraws } }
    else if f.op = 0x20 ∨ f.op = 0x21 then
      match s.dceCmd f.cab f.drawer f.seq with
      | some c => s.cancelDce c
      | none =>
        let ls := updWhere (fun (l : Landing) => l.cab == f.cab && same l.desc) (fun l => { l with desc := none }) s.dce.landings
        done { s with dce := { s.dce with landings := ls } }
    else if f.op = 0x22 then
      match s.opOf f.cab f.drawer f.seq with
      | some o => done (s.cancelOp o)
      | none => done s
    else if f.op = 0x30 then
      done { s with fr := { s.fr with reqs := s.fr.reqs.filter (fun r => !(r.cab == f.cab && r.work == .signal f.drawer f.seq)) } }
    else if f.op = 0x31 then
      match s.lat.waits.find? (fun w => w.cab == f.cab && w.drawer == f.drawer && w.seq == f.seq) with
      | some w =>
        let s := done (s.dropWait w)
        match w.latch with
        | some n => s.settleLatch n
        | none => s
      | none => done s
    else if f.op = 0x50 ∨ f.op = 0x51 then
      match s.ts.swaps.find? (fun w => w.cab == f.cab && same w.desc) with
      | some w =>
        if w.load && w.tiles == [] then
          done ((s.dropSwap w.cab w.ctx).setCtx w.cab w.ctx { s.ctx w.cab w.ctx with resid := w.prior })
        else done (s.setSwap { w with desc := none })
      | none => done s
    else if f.op = 0x61 then
      let chans := s.me.chans.map (fun e => if e.2.cab == f.cab then
        (e.1, { e.2 with destroys := e.2.destroys.filter (fun d => d != (f.drawer, f.seq)) }) else e)
      done { s with me := { s.me with chans := chans } }
    else done s

/-- The descriptors in flight of a context. -/
def State.flightsOf (s : State) (cab ctx : Nat) : List Flight :=
  s.drw.flights.filter (fun f => f.cab == cab && f.ctx == ctx)

def State.cancelFlights (s : State) (fs : List Flight) : State := fs.foldl (fun s f => s.cancelFlight f) s

/-- The drawers of a context, by local index. -/
def State.drawersOf (s : State) (cab ctx : Nat) : List Nat :=
  (s.drw.drawers.filter (fun e => e.1 / 8192 == cab && e.2.st != .free && e.2.ctx == ctx)).map (fun e => e.1 % 8192)

/-- The channels of a context. -/
def State.chansOf (s : State) (cab ctx : Nat) : List Nat :=
  (s.me.chans.filter (fun e => e.2.st != .free && e.2.cab == cab && e.2.ctx == ctx)).map (·.1)

/-- A latch whose context is torn down is disarmed; one that others' WAITs keep goes on through one of theirs (R104). -/
def State.leaveLatch (s : State) (ctx n : Nat) : State :=
  let l := s.latch n
  if l.st == .free || l.ctx != ctx then s
  else
    let s := if l.st == .watch then s else s.disarm n
    match (s.waiters n).head? with
    | some w =>
      let l := s.latch n
      s.setLatch n { l with ctx := (s.drawer w.cab w.drawer).ctx }
    | none => s.settleLatch n

/-! ### CONTEXT reset (R377) -/

/-- A descriptor's work that a cancel leaves to run to its end: a DIRECT command on its tiles or at the engines, a
Dispatch-Combine command past its sequence point. -/
def State.runsOn (s : State) (f : Flight) : Bool :=
  if f.op = 0x01 ∨ f.op = 0x02 then (s.cmdOf f.cab f.drawer f.seq).any (fun c => c.direct && c.onTiles)
  else if f.op = 0x20 ∨ f.op = 0x21 then
    (s.dceCmd f.cab f.drawer f.seq).any (fun c => c.phase == .committing || (c.direct && c.phase != .queued))
  else false

/-- The work of a context leaves every unit; its drawers that lose a descriptor enter ERROR. -/
def State.resetContext (s : State) (cab ctx : Nat) : State :=
  let s := s.leaveSearch (fun x => x.cab == cab && x.ctx == ctx)
  let fs := s.flightsOf cab ctx
  let hit := (fs.filter (fun f => !f.stage.isEnded && !s.runsOn f)).map (·.drawer)
  let s := s.cancelFlights fs
  let s := (s.chansOf cab ctx).foldl (fun s i => if (s.chan i).direct then s.endTransfer i abandoned else s) s
  let b := s.sbc cab
  let s := if b.reqs.any (fun q => q.ctx == ctx) then
      s.setSbc cab { b with reqs := updWhere (fun q => q.ctx == ctx) (fun q => { q with drop := true }) b.reqs } else s
  let s := (s.drawersOf cab ctx).foldl (fun s i =>
    let d := s.drawer cab i
    if hit.contains i && d.st != .dying then
      s.setDrawer cab i { d with st := .error, lastErr := stAbandoned, lastUnit := uDrawer } else s) s
  s.setCtx cab ctx { s.ctx cab ctx with resetting := true, since := s.mono }

/-- The work that was in the units when the reset began has left them. -/
def State.contextClear (s : State) (cab ctx : Nat) : Bool :=
  (s.flightsOf cab ctx).all (fun f => f.stage.isEnded) && !(s.sbc cab).reqs.any (fun q => q.ctx == ctx) &&
  !s.ts.cmds.any (fun c => c.cab == cab && c.ctx == ctx) && !s.dce.cmds.any (fun c => c.cab == cab && c.ctx == ctx)

/-! ### Teardown of a context (R378) -/

/-- A latch exports the object (R105). -/
def State.exports (s : State) (obj : Nat) : Bool :=
  s.lat.latches.any (fun l => (l.2.st == .armed || l.2.st == .spent) && l.2.exportEn && l.2.obj == obj)

/-- Steps 1 and 2: the context and its drawers are DYING, and its work leaves every unit. -/
def State.beginTeardown (s : State) (cab ctx : Nat) (byCmd : Bool) (guilty : Option (Nat × Nat)) : State :=
  let x := s.ctx cab ctx
  if x.st != .live then s
  else
    let s := s.leaveSearch (fun x => x.cab == cab && x.ctx == ctx)
    let shown := (s.lat.latches.map (·.2.obj)).eraseDups.filter s.exports
    let s := s.setCtx cab ctx { x with st := .dying, byCmd := byCmd, guilty := guilty, since := s.mono, resetting := false,
                                       exported := shown }
    let s := if s.jobCtx cab = ctx then s.clearTag cab else s
    let ds := s.drawersOf cab ctx
    let s := ds.foldl (fun s i => s.setDrawer cab i { s.drawer cab i with st := .dying }) s
    let s := s.cancelFlights (s.flightsOf cab ctx)
    let s := (s.ts.cmds.filter (fun c => c.cab == cab && c.ctx == ctx && c.desc.isNone)).foldl (fun s c => s.cancelCmd c) s
    let s := (s.chansOf cab ctx).foldl (fun s i =>
      let s := s.setChan i { s.chan i with dying := true }
      if (s.chan i).direct then s.endTransfer i abandoned else s) s
    let s := (s.lat.latches.filter (fun e => e.2.cab == cab)).foldl (fun s e => s.leaveLatch ctx e.1) s
    let s := s.dropLandingsOf cab ctx
    let s := if s.dce.cmds.any (fun c => c.cab == cab && c.ctx == ctx) then s else s.dropTicketsOf cab ctx
    let s := if (s.runningOf cab ctx).isEmpty then s.dropState cab ctx else s
    ds.foldl (fun s i => s.settleDrawer cab i) s

/-- Nothing of the context is left in a unit. -/
def State.contextGone (s : State) (cab ctx : Nat) : Bool :=
  s.contextClear cab ctx && (s.flightsOf cab ctx).isEmpty && (s.drawersOf cab ctx).isEmpty && s.dceIdle cab ctx &&
  (s.chansOf cab ctx).all (fun i => (s.chan i).st == .idle && (s.chan i).queue.isEmpty)

/-- The fences a teardown attaches an error to (R107): FENCE objects the context created that someone else can reach. -/
def State.fencesOf (s : State) (cab ctx : Nat) : List Nat :=
  (s.drw.objs.filter (fun e => e.2.used && e.2.fence && e.2.cab == cab && e.2.ctx == ctx && e.2.orig == e.1 &&
    (e.2.host || s.drw.objs.any (fun o => o.2.used && !o.2.withdrawn && o.1 != e.1 && o.2.orig == e.1 && o.2.ctx != ctx) ||
     (s.ctx cab ctx).exported.contains e.1 || s.exports e.1))).map (·.1)

/-- Step 4: attach the error to each of these fences; answers false where one waits for a page. -/
def attachAll (cab ctx : Nat) (w1 : Word) : List Nat → State → Bool × State
  | [], s => (true, s)
  | i :: r, s =>
    match s.attachError (latAsker cab ctx) (s.obj i).base w1 true with
    | (.wait, s) => (false, s)
    | (_, s) => attachAll cab ctx w1 r s

/-- Steps 3 to 6: address space, fences, handles, slot. -/
def contextTeardown (cab ctx : Nat) (s : State) : State :=
  let x := s.ctx cab ctx
  if x.st != .dying || !s.contextGone cab ctx then s
  else
    let w1 := match x.guilty with
      | some (u, q) => fenceWord stGuilty u q
      | none => fenceWord stAbandoned uDrawer (2 ^ 48 - 1)
    match attachAll cab ctx w1 (s.fencesOf cab ctx) s with
    | (false, t) => s.keepStall t cab
    | (true, s) =>
      let s := (s.dropLook cab ctx 0 (2 ^ 57)).passSeq
      let s := { s with tu := { s.tu with reqs := s.tu.reqs.filter (fun r => !(r.cab == cab && r.ctx == ctx)),
                                          walks := s.tu.walks.filter (fun w => !(w.cab == cab && w.ctx == ctx)) } }
      let s := (s.dropTicketsOf cab ctx).dropState cab ctx
      let s := (s.chansOf cab ctx).foldl (fun s i => s.releaseChan i) s
      let hs := (s.drw.objs.filter (fun e => e.2.used && !e.2.withdrawn && e.2.cab == cab && e.2.ctx == ctx)).map (·.1)
      let s := hs.foldl (fun s i => s.objRelease i) s
      let s := s.setCtx cab ctx {}
      if x.byCmd then
        ({ s with drw := { s.drw with ctxBusy := s.drw.ctxBusy.filter (fun n => n != cab) } }).result (rCtxResult cab) errNone ctx
      else s

end Sys2Proof.Machine
end

