-- ==== Sys2Proof/Machine/FabricCmds.lean ====
section
/-! DEFINITION. The Moatis fabric's commands (chapter 12): ports, discovery, transit, packets that arrive, job tags, the
abort flood, markers and ledgers, and the REMOTE SIGNAL of chapter 03. -/
namespace Sys2Proof.Machine

/-! ### Port state machine (R349 to R352) -/

def State.portEn (s : State) (p : Nat) : Bool := s.rfld (rPgCfg p) 0 0 == 1

/-- Send a DISC with the port's own figures. -/
def State.sendDisc (s : State) (p : Nat) : State :=
  let maxver := s.rfld (rPgCfg p) 11 8
  let s := s.setPort p { s.port p with discAt := s.mono + 100000 }
  let body := toLe 1 maxver ++ toLe 1 p ++ toLe 2 s.node ++ toLe 8 (s.reg 0).toNat ++ toLe 4 0
  let k : Packet := { ty := ptDisc, v2 := maxver == 2, src := s.node, payload := body }
  ((s.injectPace 256 k.size).2).emit (.packet p k)

/-- R351's conditions for UP. -/
def State.neighbourOk (s : State) (p : Nat) : Bool :=
  let n := (s.port p).node
  let d := s.portDim p
  s.nodeValid s.node && s.nodeValid n && decide (d < s.dims) && digit n d != digit s.node d && withDigit n d (digit s.node d) == s.node

/-- A port checks its neighbour: UP (HELD while the router is in a reset) or MISWIRED, once both node IDs are valid. -/
def State.checkPort (s : State) (p : Nat) : State :=
  let x := s.port p
  if !(s.nodeValid s.node && s.nodeValid x.node) then s
  else if s.neighbourOk p then
    (s.setPort p { x with st := if s.resetting uRouter then .held else .up, ver := min (s.rfld (rPgCfg p) 11 8) x.nver }).flushPort p
  else s.setPort p { x with st := .miswired, ver := 0 }

/-- A port enters DISC when it is enabled and its link is up. -/
def State.startPort (s : State) (p : Nat) : State :=
  let x := s.port p
  if x.st == .down && x.link && s.portEn p then s.setPort p { x with st := .disc, ver := 0, discAt := s.mono, nver := 0 } else s

/-- A request whose destination no route reaches. -/
def State.unreachable (s : State) (node : Nat) : Bool :=
  match s.routeOf { ty := ptRead, dst := node } with
  | .lost => true
  | _ => false

/-- Requests that wait on a chip no path reaches end with ABORTED_PEER (R97, R263). -/
def State.endPeers (s : State) (job : Option Nat) (lost : Nat → Bool) : State :=
  let s := (s.fr.reqs.filter (fun r => job.getD r.job == r.job && lost r.node)).foldl (fun s r => s.endRemote r stAbortedPeer uRouter) s
  let hit (c : DceCmd) : Bool := job.getD (s.tagOf c.cab) == s.tagOf c.cab && c.phase != .queued &&
    (if c.phase == .gathering then (match s.ticket c.cab c.ticket with
       | some t => t.ranks.zipIdx.any (fun e => lost e.1.1 && !t.returned.contains e.2)
       | none => false)
     else c.peers.any (fun p => lost p.node))
  (s.dce.cmds.filter hit).foldl (fun s c => s.endDce c { status := stAbortedPeer, unit := some uDce }) s

/-- A port goes DOWN: it leaves every route and its link-layer state is discarded; what waited for it takes another
route. -/
def State.portDown (s : State) (p : Nat) : State :=
  let x := s.port p
  if x.st == .down then s
  else
    let s := s.setPort p { x with st := .down, ver := 0, queue := [] }
    let s := (x.queue.filter (fun k => !k.ctrl)).foldl (fun s k => s.forward { k with hops := k.hops - 1 }) s
    if x.upHeld then s.endPeers none (fun n => n != s.node && s.unreachable n) else s

/-- A port declares link-down (R350, R370). -/
def State.linkDown (s : State) (p : Nat) : State :=
  if (s.port p).st == .down then s
  else
    let s := (s.portDown p).bump (rPgCnt p) 31 16
    s.faultEvent { unit := uPort p, cls := 0x07, detail := (s.port p).node }

/-- A write of PG_CFG(p). -/
def State.pgCfgWrite (s : State) (p : Nat) (v : Word) : State :=
  let ver := fld v 11 8
  let ver := if ver = 2 ∨ ver = 3 then ver else s.rfld (rPgCfg p) 11 8
  let s := s.setReg (rPgCfg p) (pack [(8, ver), (4, fld v 5 4), (0, fld v 0 0)])
  if fld v 0 0 = 1 then s.startPort p else s.portDown p

def execPortEnable (func : Func) (port : PortId) (value : Word) (s : State) : Host.Outcome State Fault Refusal :=
  .next (s.platform func.val (rPgCfg port.val) (some (setFld value 0 0 1)) fun s => s.pgCfgWrite port.val (setFld value 0 0 1))
def execPortDisable (func : Func) (port : PortId) (value : Word) (s : State) : Host.Outcome State Fault Refusal :=
  .next (s.platform func.val (rPgCfg port.val) (some (setFld value 0 0 0)) fun s => s.pgCfgWrite port.val (setFld value 0 0 0))

/-- The PHY of a populated port reports link-up with 8, 4 or 2 lanes (R347, R484). -/
def linkUp (p lanes : Nat) (s : State) : State :=
  if s.tie.ports.testBit p && (lanes == 8 || lanes == 4 || lanes == 2) then
    (s.setPort p { s.port p with link := true, lanes := lanes }).startPort p
  else s

/-- An event of a port gate's own, which has none in its reset. -/
def portEvent (p : Nat) (f : State → State) (s : State) : Host.Outcome State Fault Refusal :=
  .next (if s.coreUp && !s.resetting (uPort p) then f s else s)
/-- What a PHY reports, and a link that goes down: a HELD port goes DOWN too (R349). -/
def linkEvent (f : State → State) (s : State) : Host.Outcome State Fault Refusal := .next (if s.coreUp then f s else s)

def execLinkUp (port : PortId) (lanes : Fin 16) (s : State) : Host.Outcome State Fault Refusal :=
  linkEvent (linkUp port.val lanes.val) s
def execPhyLossOfLink (port : PortId) (s : State) : Host.Outcome State Fault Refusal :=
  linkEvent (fun s => (s.linkDown port.val).setPort port.val { (s.linkDown port.val).port port.val with link := false, lanes := 0 }) s
def execControlWordTimeout (port : PortId) (s : State) : Host.Outcome State Fault Refusal :=
  linkEvent (fun s => s.linkDown port.val) s
def execFlitRetryLimit (port : PortId) (s : State) : Host.Outcome State Fault Refusal :=
  linkEvent (fun s => s.linkDown port.val) s

/-- A flit fails its CRC: counted where it arrives; where it was sent, it is retried with the `n` flits sent after it
(R348). -/
def execFlitCrcError (port : PortId) (retried : Option Nat) (s : State) : Host.Outcome State Fault Refusal :=
  portEvent port.val (fun s => if (s.port port.val).st == .down then s
    else match retried with
      | none => s.bump (rPgCnt port.val) 47 32
      | some n => s.bump (rPgCnt port.val) 63 48 (n + 1)) s

/-- A DISC packet: what it says is learned; a port in DISC checks it, one in MISWIRED when its timer runs out (R349, R351). -/
def onDisc (p : Nat) (k : Packet) (s : State) : State :=
  let x := s.port p
  let b := k.payload
  if k.ty != ptDisc || x.st == .down then s
  else
    let s := s.setPort p { x with nver := leAt b 0 1, nport := leAt b 1 1, node := leAt b 2 2 }
    if x.st == .disc then s.checkPort p else s

/-- DISC crosses one link: it arrives at a port. -/
def execDiscPacket (port : Option PortId) (pkt : Packet) (s : State) : Host.Outcome State Fault Refusal :=
  match port with
  | some q => portEvent q.val (onDisc q.val pkt) s
  | none => .next s

/-- 100 µs have passed in DISC or MISWIRED. -/
def execDiscTimer (port : PortId) (s : State) : Host.Outcome State Fault Refusal :=
  portEvent port.val (fun s =>
    let x := s.port port.val
    if (x.st == .disc || x.st == .miswired) && decide (x.discAt ≤ s.mono) then
      let s := s.sendDisc port.val
      if x.st == .miswired then s.checkPort port.val else s
    else s) s

/-- A write of FR_CFG: DIMS and S change only while EN is 0; EN needs a valid NODE. -/
def State.frCfgWrite (s : State) (v : Word) : State :=
  let old := s.reg rFrCfg
  let kept := if fld old 8 8 = 1 then old else v
  let s := s.setReg rFrCfg (pack [(32, fld v 47 32), (16, fld kept 31 16), (8, 0), (4, fld v 5 4), (0, fld kept 2 0)])
  if fld v 8 8 = 1 && s.nodeValid s.node then s.setRfld rFrCfg 8 8 1 else s

def execFabricEnable (func : Func) (value : Word) (s : State) : Host.Outcome State Fault Refusal :=
  .next (s.platform func.val rFrCfg (some value) fun s => s.frCfgWrite value)

/-! ### Transit (R353, R355) -/

/-- A packet of the network: CTRL packets that cross one link, and ABORTs, are handled where they arrive. -/
def linkLocal (p : Packet) : Bool := decide (p.ty < ptUnreach)

def execFabricTransit (port : Option PortId) (pkt : Packet) (s : State) : Host.Outcome State Fault Refusal :=
  .next (if linkLocal pkt || pkt.dst == s.node || port.isNone then s
    else s.receive port pkt (fun s => s.forward pkt))

/-! ### Remote WRITE and READ (R345, R356) -/

/-- The request ID of a packet. -/
def reqId (p : Packet) : Nat := leAt p.payload 12 4

/-- The stream of an inbound request: never serviced (R133, R356). -/
def inboundAsker (n ctx : Nat) (p : Packet) (write : Bool) : Asker :=
  { src := .fab write, unit := uRouter, cab := n, ctx := ctx, service := false,
    tag := (p.src * 256 + p.srcCab) * 2 ^ 32 + reqId p }

/-- An access that waits for the host: the request stays with the router and is tried again. -/
def State.keepHere (s : State) (p : Packet) : State := { s with fr := { s.fr with here := s.fr.here ++ [p] } }

/-- An inbound WRITE: applied in the job context, answered with WACK. An address beyond 57 bits gives XLATE (log 53). -/
def onWrite (port : Option Nat) (p : Packet) (s : State) : State :=
  match s.arrives port p with
  | (none, s) => s
  | (some n, s) =>
    let va := leAt p.payload 0 8
    let data := (p.payload.drop 16).take (leAt p.payload 8 4)
    let done (st : Nat) (s : State) : State := s.reply n p ptWack st (toLe 12 0 ++ toLe 4 (reqId p))
    if 2 ^ 57 < va + data.length then done stXlate s
    else match s.vaWrite (inboundAsker n (s.jobCtx n) p true) va data with
      | (.ok _, s) => done stDone s
      | (.bad st _, s) => done st s
      | (.wait, s) => s.keepHere p

/-- An inbound READ: answered with RDATA. -/
def onRead (port : Option Nat) (p : Packet) (s : State) : State :=
  match s.arrives port p with
  | (none, s) => s
  | (some n, s) =>
    let va := leAt p.payload 0 8
    let len := leAt p.payload 8 4
    let done (st : Nat) (bs : List Byte) (s : State) : State := s.reply n p ptRdata st (toLe 12 0 ++ toLe 4 (reqId p) ++ bs)
    if 2 ^ 57 < va + len then done stXlate [] s
    else match s.vaRead (inboundAsker n (s.jobCtx n) p false) va len with
      | (.ok bs, s) => done stDone bs s
      | (.bad st _, s) => done st [] s
      | (.wait, s) => s.keepHere p

/-- The outstanding request a reply answers; a reply with another EPOCH is dropped (R197), but a Moatis 2 one is matched by
request ID alone. -/
def State.repliedTo (s : State) (n : Nat) (p : Packet) (id : Nat) : Option RemoteReq :=
  s.fr.reqs.find? (fun r => r.cab == n && r.id == id && r.node == p.src && (p.v2 || r.epoch == p.epoch))

/-- A tile sees a response: its hang timer restarts (R371). -/
def State.tileMoves (s : State) (t : Nat) : State := s.setTile t { s.tile t with progress := s.mono }

/-- WACK and RDATA (R345, R197). -/
def onReply (port : Option Nat) (p : Packet) (s : State) : State :=
  match s.arrives port p with
  | (none, s) => s
  | (some n, s) => match s.repliedTo n p (reqId p) with
    | none => s
    | some r => match r.work with
      | .write t tag =>
        if p.ty != ptWack then s
        else
          let s := (if p.status = stDone then s.dropRemote r.id else s.dropWrite r).tileMoves t
          if p.status = stDone then (if s.sameWrite r = [] then s.emit (.tileWrite t tag stDone) else s)
          else (s.noteErr r.owner r.ord p.status uRouter).emit (.tileWrite t tag p.status)
      | .read t tag =>
        if p.ty != ptRdata then s
        else
          let s := (s.dropRemote r.id).tileMoves t
          if p.status = stDone then s.emit (.tileRead t tag stDone ((p.payload.drop 16).take r.len))
          else (s.noteErr r.owner r.ord p.status uRouter).emit (.tileRead t tag p.status [])
      | .signal .. => s

/-! ### Remote signals (R97, R105, R106) -/

/-- A REMOTE SIGNAL is sent. -/
def signalRemote (f : Flight) (s : State) : State :=
  if !s.jobValid f.cab then s.endFlight f.cab f.drawer f.seq { status := stDenied, unit := some uRouter }
  else
    let target := leAt f.body 4 4
    let r := s.remote f.cab (target % 65536) 0 none (.signal f.drawer f.seq) 0
    let body := toLe 4 (target / 65536 % 4096) ++ toLe 4 r.1 ++ toLe 8 (leAt f.body 8 8)
    (r.2.startFlight f).inject
      { ty := ptSignal, dst := target % 65536, job := s.jobTag f.cab, srcCab := f.cab, payload := body }

def execSignalRemote (cab : CabId) (drawer : DrawerId) (seq : Seq) (s : State) : Host.Outcome State Fault Refusal :=
  .next (s.work uLatch fun s => match s.issuedOp cab.val drawer.val seq.val 0x30 with
    | some f => if leAt f.body 0 1 = 1 then signalRemote f s else s
    | none => s)

/-- No reply within 100 µs of sending. -/
def execRemoteSignalTimeout (cab : CabId) (drawer : DrawerId) (seq : Seq) (s : State) : Host.Outcome State Fault Refusal :=
  .next (s.work uLatch fun s =>
    match s.fr.reqs.find? (fun r => r.cab == cab.val && r.work == .signal drawer.val seq.val) with
    | some r => if r.deadline ≤ s.mono then s.endRemote r stTimeout uRouter else s
    | none => s)

/-- The request ID of a signal and its acknowledgement. -/
def signalId (p : Packet) : Nat := leAt p.payload 4 4

/-- An inbound fence signal. A value above 2^63 − 2, an absent export and a failing access give DENIED (log 54). -/
def onSignal (port : Option Nat) (p : Packet) (s : State) : State :=
  match s.arrives port p with
  | (none, s) => s
  | (some n, s) =>
    let ack (st : Nat) (s : State) : State := s.reply n p ptSack st (toLe 4 0 ++ toLe 4 (signalId p) ++ toLe 8 0)
    let value := leAt p.payload 8 8
    let absent (s : State) : State := ack stDenied ((s.bump (rLatStat n) 15 0).bump rLatGstat 15 0)
    match s.exporter n (leAt p.payload 0 4 % 4096) with
    | none => absent s
    | some k =>
      if 2 ^ 63 - 2 < value then absent s
      else
        let l := s.latch k
        match s.signalFence (latAsker n l.ctx) (s.obj l.obj).base value with
        | (.ok _, s) => ack stDone (s.setLatch k { s.latch k with dirty := true })
        | (.bad .., s) => ack stDenied s
        | (.wait, s) => s.keepHere p

/-- A SACK completes its REMOTE SIGNAL. -/
def onSack (port : Option Nat) (p : Packet) (s : State) : State :=
  match s.arrives port p with
  | (none, s) => s
  | (some n, s) => match s.repliedTo n p (signalId p) with
    | some r => match r.work with
      | .signal d q =>
        let e : Ending := if p.status = stDone then { status := stDone } else { status := p.status, unit := some uRouter }
        (s.dropRemote r.id).endFlight n d q e
      | _ => s
    | none => s

/-! ### UNREACH and ABORT (R355, R362, R363) -/

/-- An UNREACH: JOB and DST stand in the dropped packet's header. -/
def onUnreach (p : Packet) (s : State) : State :=
  let job := if p.v2 then leAt p.payload 8 2 else leAt p.payload 10 2
  let dst := leAt p.payload 4 2
  s.endPeers (some job) (fun n => n == dst)

/-- An ABORT: a triple seen within 1 ms is dropped; a new one is recorded, applied and flooded on. -/
def onAbort (port : Option Nat) (p : Packet) (s : State) : State :=
  let b := p.payload
  let job := leAt b 0 2
  let seen : AbortSeen := { job := job, origin := leAt b 2 2, serial := leAt b 4 2, time := s.mono }
  if s.fr.cache.any (fun a => a.job == job && a.origin == seen.origin && a.serial == seen.serial && decide (s.mono < a.time + 1000000)) then s
  else
    let s := { s with fr := { s.fr with cache := (seen :: s.fr.cache).take 1024 } }
    let s := match s.jobCab job with
      | some n => (s.applyAbort n).bump rFrCnt 15 0
      | none => s
    s.flood p port

def execAbortCacheExpiry (s : State) : Host.Outcome State Fault Refusal :=
  .next (s.work uRouter fun s =>
    { s with fr := { s.fr with cache := s.fr.cache.filter (fun a => decide (s.mono < a.time + 1000000)) } })

/-! ### The packet rows -/

/-- A packet for this chip, of one type. -/
def packetHere (port : Option PortId) (p : Packet) (ty : Nat) (f : Option Nat → Packet → State → State) (s : State) :
    Host.Outcome State Fault Refusal :=
  .next (if p.ty == ty && p.dst == s.node then s.receive port p (f (port.map (·.val)) p) else s)

def execWritePacket (port : Option PortId) (pkt : Packet) (s : State) : Host.Outcome State Fault Refusal :=
  packetHere port pkt ptWrite onWrite s
def execWackPacket (port : Option PortId) (pkt : Packet) (s : State) : Host.Outcome State Fault Refusal :=
  packetHere port pkt ptWack onReply s
def execReadPacket (port : Option PortId) (pkt : Packet) (s : State) : Host.Outcome State Fault Refusal :=
  packetHere port pkt ptRead onRead s
def execRdataPacket (port : Option PortId) (pkt : Packet) (s : State) : Host.Outcome State Fault Refusal :=
  packetHere port pkt ptRdata onReply s
def execSignalPacket (port : Option PortId) (pkt : Packet) (s : State) : Host.Outcome State Fault Refusal :=
  packetHere port pkt ptSignal onSignal s
def execSackPacket (port : Option PortId) (pkt : Packet) (s : State) : Host.Outcome State Fault Refusal :=
  packetHere port pkt ptSack onSack s
def execUnreachPacket (port : Option PortId) (pkt : Packet) (s : State) : Host.Outcome State Fault Refusal :=
  packetHere port pkt ptUnreach (fun _ => onUnreach) s

/-- An ABORT is handled at every chip, whatever its DST. -/
def execAbortPacket (port : Option PortId) (pkt : Packet) (s : State) : Host.Outcome State Fault Refusal :=
  .next (if pkt.ty == ptAbort && port.isSome then
    s.receive port pkt (onAbort (port.map (·.val)) pkt) else s)

/-! ### Job tags (R358 to R361) -/

/-- The conditions for VALID. -/
def State.tagAllowed (s : State) (n : Nat) : Bool :=
  let tag := s.jobTag n
  (s.cab n).st == .live && (s.ctx n (s.jobCtx n)).st == .live && tag != 0 && s.jobCab tag == none &&
  s.fr.keyed.contains (n, s.rfld (rFrJob n) 33 33)

/-- TXKEY flips: the payload counter restarts and the packets that waited for it go (R359). -/
def State.flipKey (s : State) (n : Nat) : State :=
  let ws := s.fr.waits.filter (fun p => p.srcCab == n)
  let s := { s with fr := { s.fr with pctr := mapSet 0 n 0 s.fr.pctr, waits := s.fr.waits.filter (fun p => p.srcCab != n) } }
  ws.foldl (fun s p =>
    let s := { s with fr := { s.fr with reqs := updWhere (fun r => p.ty == ptSignal && r.cab == n && r.id == signalId p)
                                                   (fun r => { r with deadline := s.mono + 100000 }) s.fr.reqs } }
    s.inject p (some p.g)) s

/-- A write of FR_JOB(n). -/
def State.jobWrite (s : State) (n : Nat) (v : Word) : State :=
  let flip := fld v 33 33 != s.rfld (rFrJob n) 33 33
  if s.jobValid n then
    let s := if fld v 32 32 = 0 then s.clearTag n else s
    let s := s.setRfld (rFrJob n) 33 33 (fld v 33 33)
    if flip then s.flipKey n else s
  else
    let s := if fld v 15 0 = s.jobTag n then s
      else { s with fr := { s.fr with keyed := s.fr.keyed.filter (fun k => k.1 != n) } }
    let s := s.setReg (rFrJob n) (pack [(33, fld v 33 33), (16, fld v 29 16), (0, fld v 15 0)])
    let s := if flip then s.flipKey n else s
    if fld v 32 32 = 1 && s.tagAllowed n then s.setRfld (rFrJob n) 32 32 1 else s

def execJobTagSet (func : Func) (cab : CabId) (value : Word) (s : State) : Host.Outcome State Fault Refusal :=
  .next (s.platform func.val (rFrJob cab.val) (some (setFld value 32 32 1)) fun s => s.jobWrite cab.val (setFld value 32 32 1))
def execJobTagClear (func : Func) (cab : CabId) (value : Word) (s : State) : Host.Outcome State Fault Refusal :=
  .next (s.platform func.val (rFrJob cab.val) (some (setFld value 32 32 0)) fun s => s.jobWrite cab.val (setFld value 32 32 0))
/-- A write that changes TXKEY; VALID and the other fields as written. -/
def execJobTxkeyFlip (func : Func) (cab : CabId) (value : Word) (s : State) : Host.Outcome State Fault Refusal :=
  .next (s.platform func.val (rFrJob cab.val) (some (setFld value 33 33 (1 - s.rfld (rFrJob cab.val) 33 33))) fun s => s.jobWrite cab.val (setFld value 33 33 (1 - s.rfld (rFrJob cab.val) 33 33)))

/-- A write of FR_JOBKEY(n, k): ignored for the slot TXKEY names while VALID is 1. -/
def State.jobKeyWrite (s : State) (n k : Nat) (v : Word) : State :=
  if s.jobValid n && s.rfld (rFrJob n) 33 33 == k / 2 then s
  else { s with fr := { s.fr with keys := mapSet 0 (n * 4 + k) v.toNat s.fr.keys,
                                  keyed := (n, k / 2) :: s.fr.keyed.filter (fun e => e != (n, k / 2)) } }

def execFrJobkeyWrite (func : Func) (cab : CabId) (k : Fin 4) (value : Word) (s : State) : Host.Outcome State Fault Refusal :=
  .next (s.platform func.val (rFrJob cab.val + 8 + 8 * k.val) (some value) fun s => s.jobKeyWrite cab.val k.val value)

/-- FR_ABORT names a cabinet: an ABORT with REASON 0x05 for its tag. -/
def execFrAbortWrite (func : Func) (value : Word) (s : State) : Host.Outcome State Fault Refusal :=
  .next (s.platform func.val 0x900088 (some value) fun s => s.abortJob (fld value 7 0) 5)

/-! ### Markers and ledgers (R364, R365, R460 to R462) -/

/-- What the port gates do at S of a fabric stop: each sends a MARKER and opens its ledger; a Moatis 2 port closes its
ledger UNMARKED. -/
def State.openLedgers (s : State) : State :=
  ((List.range 48).filter (fun p => (s.port p).upHeld)).foldl (fun s p =>
    let x := { s.port p with lstop := s.ou.stopId, ledger := [], lcount := 0, lbytes := 0 }
    if x.ver = 2 then s.setPort p { x with lstate := .unmarked }
    else (s.setPort p { x with lstate := .opened }).portOwn p
      { ty := ptMarker, src := s.node, payload := toLe 2 s.ou.stopId ++ toLe 2 s.node ++ toLe 1 p ++ toLe 11 0 }) s

/-- The stop enters STOPPING at S. -/
def State.enterStopping (s : State) (cause sAt tu : Nat) (fabric : Bool) : State :=
  let ou := { s.ou with stop := .stopping, cause := cause, sAt := sAt, tu := tu, fabric := fabric, portsDue := false, resume := false }
  let s := { s with ou := ou }
  (if fabric then s.openLedgers else s).traceStop

/-- The ledger of a port closes, and the far port is told. -/
def State.closeLedger (s : State) (p : Nat) : State :=
  let x := s.port p
  if x.lstate == .opened then
    (s.setPort p { x with lstate := .closed }).portOwn p
      { ty := ptLedger, src := s.node, payload := toLe 2 x.lstop ++ toLe 2 0 ++ toLe 4 x.lcount ++ toLe 8 x.lbytes }
  else s

/-- A MARKER (R461). -/
def onMarker (p : Nat) (k : Packet) (s : State) : State :=
  let id := leAt k.payload 0 2
  match s.ou.stop with
  | .idle => ({ s with ou := { s.ou with stopId := id, t := s.now } }.enterStopping 2 s.now (s.now + 2000) true).closeLedger p
  | .armed =>
    if s.ou.stopId = id then (s.enterStopping 2 s.now (min (s.now + 2000) s.ou.t) true).closeLedger p
    else s.bump rOuGstat 47 32
  | _ => if s.ou.stopId = id then s.closeLedger p else s.bump rOuGstat 47 32

/-- A CTRL packet of one link, at a port that is UP. -/
def linkPacket (port : Option PortId) (pkt : Packet) (ty : Nat) (f : Nat → Packet → State → State) (s : State) :
    Host.Outcome State Fault Refusal :=
  match port with
  | some q => .next (if pkt.ty == ty && s.coreUp && (s.port q.val).upHeld then
      (if (s.port q.val).st == .held then s.holdArrival q.val pkt else f q.val pkt s) else s)
  | none => .next s

def execMarkerPacket (port : Option PortId) (pkt : Packet) (s : State) : Host.Outcome State Fault Refusal :=
  linkPacket port pkt ptMarker onMarker s

/-- A LEDGER from the far port. -/
def onLedger (p : Nat) (k : Packet) (s : State) : State :=
  s.setPort p { s.port p with pstop := leAt k.payload 0 2, ppkts := leAt k.payload 4 4 }

def execLedgerPacket (port : Option PortId) (pkt : Packet) (s : State) : Host.Outcome State Fault Refusal :=
  linkPacket port pkt ptLedger onLedger s

/-! ### Delivery of held packets (R349, R365) -/

/-- A packet that a port held comes to be handled. -/
def deliver (q : Nat) (p : Packet) (s : State) : State :=
  let port := some q
  if p.ty = ptAbort then onAbort port p s
  else if p.ty = ptMarker then onMarker q p s
  else if p.ty = ptLedger then onLedger q p s
  else if p.ty = ptDisc then onDisc q p s
  else if p.dst != s.node then s.forward p
  else if p.ty = ptUnreach then onUnreach p s
  else if p.ty = ptWrite then onWrite port p s
  else if p.ty = ptRead then onRead port p s
  else if p.ty = ptWack || p.ty = ptRdata then onReply port p s
  else if p.ty = ptSignal then onSignal port p s
  else if p.ty = ptSack then onSack port p s
  else if p.ty = ptSet then onSetPacket port p s
  else if p.ty = ptSeal then onSeal port p s
  else if p.ty = ptCommit then onCommit port p s
  else if p.ty = ptDiscard then onDiscard port p s
  else if p.ty = ptSetrsp then onSetrsp port p s
  else s

/-- A packet that a port held is delivered; in a stop only a MARKER or a LEDGER is, and the others stay held (R364). -/
def State.deliverHeld (q : Nat) (s : State) (p : Packet) : State :=
  if s.portsStopped && p.ty != ptMarker && p.ty != ptLedger then
    s.setPort q { s.port q with inq := (s.port q).inq ++ [p] }
  else deliver q p s

/-- A port delivers what it held, in order, before any later packet, and sends again. -/
def State.releasePort (s : State) (q : Nat) : State :=
  let x := s.port q
  let s := s.setPort q { x with inq := [], st := if x.st == .held then .up else x.st }
  (x.inq.foldl (State.deliverHeld q) s).flushPort q

/-- Hold a port (R349). -/
def State.holdPort (s : State) (q : Nat) : State :=
  let x := s.port q
  if x.st == .up then s.setPort q { x with st := .held } else s

end Sys2Proof.Machine
end

