-- ==== Sys2Proof/Machine/Cabinets.lean ====
section
/-! DEFINITION. Cabinet commands (chapter 01): the checks of R30, what ACTIVATE, APPLY and DESTROY carry out, and the
report page. -/
namespace Sys2Proof.Machine

/-! ### The requested configuration (R23) -/

def State.request (s : State) (n : Nat) : CabConf :=
  { func := s.reg (rCabFunc n), cfg := s.reg (rCabCfg n), bw := s.reg (rCabBw n), quotaA := s.reg (rQuotaA n),
    quotaB := s.reg (rQuotaB n), tiles := (List.range 4).map (fun k => s.reg (rCabTile n k)),
    shelf := (List.range 16).map (fun k => s.reg (rShelf n k)) }

def CabConf.memFloor (c : CabConf) : Nat := fld c.bw 10 0
def CabConf.fabFloor (c : CabConf) : Nat := fld c.bw 26 16
def CabConf.fn (c : CabConf) : Nat := fld c.func 7 0

/-- Bytes of a shelf, slots apart. -/
def CabConf.spans (c : CabConf) : List (Nat × Nat) := c.ranges.map (fun r => r.2)

/-- The configurations a cabinet holds: in force, and the ranges of an APPLY that wait. -/
def Cab.confs (c : Cab) : List CabConf := c.conf :: c.next.toList

/-- The other cabinets that hold a configuration. -/
def State.otherCabs (s : State) (n : Nat) : List (Nat × Cab) := s.cabs.filter (fun e => e.1 != n && e.2.holds)

/-- The bytes of `a` that are not in `b`. -/
def minusSpans (a b : List (Nat × Nat)) : List (Nat × Nat) := b.foldl (fun l r => cutRanges r.1 r.2 l) a

def spansMeet (a b : List (Nat × Nat)) : Bool := a.any (fun x => b.any (fun y => overlaps x.1 x.2 y.1 y.2))

/-! ### The checks of R30 -/

/-- ERR codes. -/
inductive CabErr where
  | none | state | tile | empty | quota | inUse | floor | overlap | range | func | shadow
deriving DecidableEq, Repr

def CabErr.code : CabErr → Nat
  | .none => 0 | .state => 1 | .tile => 2 | .empty => 3 | .quota => 4 | .inUse => 5
  | .floor => 6 | .overlap => 7 | .range => 8 | .func => 9 | .shadow => 10

def failsEmpty (q : CabConf) : Bool :=
  q.tileMap == 0 || q.ranges == [] || quotaDrawers q == 0 || quotaContexts q == 0

/-- A requested tile is not populated, is another's, or is still being cleared after leaving. -/
def State.failsTile (s : State) (n : Nat) (q : CabConf) : Bool :=
  q.tileList.any (fun t =>
    let x := s.tile t
    !s.tie.tiles.testBit t || x.leaving || (match x.cab with | some m => m != n | none => x.clearing))

def State.failsRange (s : State) (q : CabConf) : Bool :=
  q.spans.any (fun r => decide (s.installed < r.1 + r.2)) || decide (s.rfld rWorkSize 23 0 < 32) ||
  (q.integ && (s.reg rNodeSize == 0 || (List.range s.gateCount).any (fun g => s.rfld (rMdBase g) 55 48 == 0)))

/-- The local addresses of gate `g` that a physical range covers lie in one stretch: its first byte and length. -/
def State.localSpan (s : State) (g a n : Nat) : Nat × Nat :=
  let w := s.ilv
  let c := s.gateCount
  let k0 := a / w
  let k1 := (a + n + w - 1) / w
  let first := k0 + (g + c - k0 % c) % c
  let last := k1 - 1 - ((k1 - 1) % c + c - g) % c
  if first < k1 ∧ first ≤ last then (first / c * w, (last / c + 1 - first / c) * w) else (0, 0)

/-- A range overlaps a block region of R17. -/
def State.meetsBlock (s : State) (a n : Nat) : Bool :=
  overlaps a n (s.reg rNodeBase).toNat (s.reg rNodeSize).toNat ||
  overlaps a n (s.reg rWorkBase).toNat ((s.reg rWorkSize).toNat * 2 ^ 21) ||
  (s.reg rChestBase != 0 && overlaps a n (s.reg rChestBase).toNat (2 ^ 28)) ||
  overlaps a n (s.reg rOuBase).toNat (s.rfld rOuSize 27 0 * 65536) ||
  (List.range s.gateCount).any (fun g =>
    let l := s.localSpan g a n
    l.2 != 0 && overlaps l.1 l.2 (s.rfld (rMdBase g) 36 12 * 4096) (s.rfld (rMdBase g) 55 48 * 2 ^ 26))

/-- Two of a list of ranges overlap. -/
def selfOverlap : List (Nat × Nat) → Bool
  | [] => false
  | r :: l => l.any (fun x => overlaps r.1 r.2 x.1 x.2) || selfOverlap l

def State.failsOverlap (s : State) (n : Nat) (q : CabConf) : Bool :=
  selfOverlap q.spans || (s.otherCabs n).any (fun e => e.2.confs.any (fun c => spansMeet q.spans c.spans)) ||
  q.spans.any (fun r => s.meetsBlock r.1 r.2)

/-- Slots the configuration image's tables hold. -/
def State.imageSlots (s : State) : Nat := (s.ft.slots.filter (fun e => e.2.st != .free && e.2.image)).length

/-- R42. -/
def State.failsQuota (s : State) (n : Nat) (q : CabConf) : Bool :=
  let past (f : CabConf → Nat) (pool : Nat) : Bool :=
    decide (pool < f q + ((s.otherCabs n).map (fun e => f e.2.conf)).sum)
  decide (8192 < quotaDrawers q) || past quotaDrawers 65536 || past quotaContexts 16384 || past quotaLatches 16384 ||
  past quotaObjs 1048576 || past quotaTables (256 - s.imageSlots)

/-- Whether an object's range reaches a removed byte through a context's tables, page by page (R504). Of a page that is only
partly inside the range, the object's own bytes count (log 142). -/
def reachesGone (cab ctx : Nat) (gone : List (Nat × Nat)) (hi : Nat) : Nat → Nat → State → Bool × State
  | 0, _, s => (false, s)
  | k + 1, va, s =>
    if hi ≤ va then (false, s)
    else
      let r := walkFrom { m := .cab cab, unit := uTu, ctx := some ctx } cab ctx va 4 (s.ctx cab ctx).root s
      let after (l : Nat) : Nat := (va / 2 ^ lvShift l + 1) * 2 ^ lvShift l
      match r.1 with
      | .absent l => reachesGone cab ctx gone hi k (after l) r.2
      | .leaf l pa _ _ host _ =>
        if !host && spansMeet gone [(pa + va % 2 ^ lvShift l, min hi (after l) - va)] then (true, r.2)
        else reachesGone cab ctx gone hi k (after l) r.2
      | _ => (true, r.2)

/-- Every live handle's object, through the handle's context. -/
def anyReachesGone (cab : Nat) (gone : List (Nat × Nat)) : List MObj → State → Bool × State
  | [], s => (false, s)
  | o :: l, s =>
    let r := reachesGone cab o.ctx gone (o.base + o.len) (o.len / 65536 + 2) o.base s
    if r.1 then (true, r.2) else anyReachesGone cab gone l r.2

/-- The live handles of a cabinet. -/
def State.liveHandles (s : State) (n : Nat) : List MObj :=
  (s.drw.objs.filter (fun e => e.2.used && !e.2.withdrawn && e.2.cab == n)).map (·.2)

/-- A quota is below the use; the reserve cannot hold the pages in use; a flagged range changes its extent. -/
def State.belowUse (s : State) (n : Nat) (q : CabConf) : Bool :=
  let c := (s.cab n).conf
  let flags := mapGet 0 n s.mix.whole
  decide (quotaDrawers q < s.useDrawers n) || decide (quotaContexts q < s.useContexts n) ||
  decide (quotaLatches q < s.useLatches n) || decide (quotaObjs q < s.useObjs n) || decide (quotaTables q < s.useTables n) ||
  ((q.size != c.size || fld q.cfg 5 0 != fld c.cfg 5 0) &&
    decide (q.usable < max (s.reservedOf n) (s.poolUsed n true) + s.poolUsed n false)) ||
  c.ranges.any (fun r => flags.testBit r.1 && !q.spans.contains r.2)

def State.failsInUse (s : State) (n : Nat) (q : CabConf) : Bool × State :=
  if s.belowUse n q then (true, s)
  else
    let gone := minusSpans (s.cab n).conf.spans q.spans
    if gone = [] then (false, s) else anyReachesGone n gone (s.liveHandles n) s

/-- The largest non-cabinet sum of any gate (R300). -/
def State.gateNcFloor (s : State) : Nat :=
  ((List.range s.gateCount).map (fun g => s.rfld (rSgNcfloor g) 10 0 + s.rfld (rSgNcfloor g) 26 16)).foldl max 0

/-- The floors of the cabinets that hold one (R43): LIVE, or an ACTIVATE under way. -/
def State.floorCabs (s : State) (n : Option Nat) : List CabConf :=
  (s.cabs.filter (fun e => n != some e.1 && e.2.holds && e.2.st != .clear)).map (fun e => e.2.conf)

def State.failsFloor (s : State) (n : Nat) (q : CabConf) : Bool :=
  let others := s.floorCabs (some n)
  decide (1024 < q.memFloor) || decide (1024 < q.fabFloor) ||
  decide (1024 < q.memFloor + (others.map CabConf.memFloor).sum + s.gateNcFloor) ||
  decide (1024 < q.fabFloor + (others.map CabConf.fabFloor).sum + s.rfld rFrNcfloor 10 0)

def State.failsFunc (s : State) (n : Nat) (q : CabConf) : Bool :=
  q.fn != 0 && (s.otherCabs n).any (fun e => e.2.conf.fn == q.fn)

/-- The checks of R30 in order; STATE apart. -/
def State.cabChecks (s : State) (n : Nat) (q : CabConf) : CabErr × State :=
  if failsEmpty q then (.empty, s)
  else if s.failsTile n q then (.tile, s)
  else if s.failsRange q then (.range, s)
  else if s.failsOverlap n q then (.overlap, s)
  else if 32 < fld q.cfg 5 0 then (.shadow, s)
  else if s.failsQuota n q then (.quota, s)
  else
    let r := s.failsInUse n q
    if r.1 then (.inUse, r.2)
    else if r.2.failsFloor n q then (.floor, r.2)
    else if r.2.failsFunc n q then (.func, r.2)
    else (.none, r.2)

/-! ### Shelf bytes -/

/-- The mix state of `[a, a+n)` is as after re-initialisation: counters 0, no damage (R37, R337). -/
def State.freshMix (s : State) (a n : Nat) : State :=
  let lines := fun (k : Nat) => inRange a n (k * 128)
  { s with mix := { s.mix with
      minor := s.mix.minor.filter (fun e => !lines e.1), major := s.mix.major.filter (fun e => !inRange a n (e.1 * 8192)),
      badData := s.mix.badData.filter (fun l => !lines l), badTag := s.mix.badTag.filter (fun l => !lines l),
      badMeta := s.mix.badMeta.filter (fun m => !inRange a n (m * 2048)),
      badNode := s.mix.badNode.filter (fun b => !(inRange a n b.first && decide (b.first + b.span * 8192 ≤ a + n))),
      cache := s.mix.cache.filter (fun e => match e.key with | .line l => !inRange a n (l * 2048) | .node .. => true) } }

/-- Zero-fill a range and re-root its counters (R37). -/
def State.reinitSpan (s : State) (r : Nat × Nat) : State :=
  let s := s.freshMix r.1 r.2
  { s with dev := memZero r.1 r.2 s.dev, lost := cutRanges r.1 r.2 s.lost }

/-- Bytes that leave every key: what they held cannot be read again (R41). -/
def State.loseSpan (s : State) (r : Nat × Nat) : State :=
  let s := s.freshMix r.1 r.2
  { s with dev := memZero r.1 r.2 s.dev, lost := r :: cutRanges r.1 r.2 s.lost }

/-- Memory under the block key, the working region, is lost with it (R18, R321). -/
def State.loseBlock (s : State) : State :=
  let n := (s.reg rWorkSize).toNat
  if n = 0 then s else s.loseSpan ((s.reg rWorkBase).toNat, n * 2 ^ 21)

/-- What of `span` groups from `first` lies in a configuration: slot, first byte, groups. -/
def CabConf.pieces (q : CabConf) (first span : Nat) : List (Nat × Nat × Nat) :=
  q.ranges.filterMap (fun r =>
    let lo := max first r.2.1
    let hi := min (first + span * 8192) (r.2.1 + r.2.2)
    if lo < hi then some (r.1, lo, (hi - lo) / 8192) else none)

/-- A quarantine entry follows its bytes: the first piece keeps the entry's place, each other takes a free one, or sets the
whole-range flag where there is none (R37, R334). -/
def MixUnit.moveQuar (x : MixUnit) (q : CabConf) (e : Nat × Option Quar) : MixUnit :=
  match e.2 with
  | none => x
  | some o =>
    let x := { x with quar := mapSet none e.1 none x.quar }
    ((q.pieces o.first o.span).zipIdx).foldl (fun (x : MixUnit) p =>
      let v : Quar := { o with slot := p.1.1, first := p.1.2.1, span := p.1.2.2 }
      let at_ := if p.2 = 0 then some e.1 else (List.range 64).find? (fun i => (mapGet none i x.quar).isNone)
      match at_ with
      | some i => { x with quar := mapSet none i (some v) x.quar }
      | none => { x with whole := mapSet 0 o.cab (mapGet 0 o.cab x.whole ||| 2 ^ v.slot) x.whole }) x

/-- Entries and flags follow their range to its new slot; those of removed bytes go. The counter tree of a range that
changes is built afresh from its majors (R37). -/
def State.moveSlots (s : State) (n : Nat) (old q : CabConf) : State :=
  let slotAt (p : Nat) : Option Nat := (q.ranges.find? (fun r => inRange r.2.1 r.2.2 p)).map (·.1)
  let bad := s.mix.badNode.flatMap (fun b =>
    if b.cab = n then (q.pieces b.first b.span).map (fun p => { b with slot := p.1, first := p.2.1, span := p.2.2 }) else [b])
  let flags := mapGet 0 n s.mix.whole
  let moved := ((old.ranges.filter (fun r => flags.testBit r.1)).filterMap (fun r => slotAt r.2.1)).eraseDups
  let kept (k : MetaKey) : Bool := match k with
    | .node m i .. => m != n || old.rangeAt i == q.rangeAt i
    | .line _ => true
  let mix := { s.mix with badNode := bad, cache := s.mix.cache.filter (fun e => kept e.key),
                          version := s.mix.version.filter (fun e => kept e.1),
                          whole := mapSet 0 n ((moved.map (fun k => 2 ^ k)).sum) s.mix.whole }
  let mine := s.mix.quar.filter (fun e => match e.2 with | some x => x.cab == n | none => false)
  { s with mix := mine.foldl (fun (x : MixUnit) e => x.moveQuar q e) mix }

/-- The shelf and the shadow fraction of an APPLY come into force: added bytes are zero, removed bytes are gone, and the
reserve is to be re-placed where it changes. Bytes of the old reserve stay until that is done. -/
def State.applyShelf (s : State) (n : Nat) (q : CabConf) : State :=
  let c := s.cab n
  let old := c.conf
  let new := { old with shelf := q.shelf, cfg := q.cfg }
  let added := minusSpans new.spans old.spans
  let gone := minusSpans old.spans new.spans
  let keep := if new.reservePieces = old.reservePieces then [] else old.reservePieces
  let s := added.foldl (fun (s : State) r => (s.reinitSpan r).chargeSpan n r.1 r.2 128) s
  let s := (minusSpans gone keep).foldl State.loseSpan s
  let s := s.moveSlots n old new
  let inGone (h : Nat) : Bool := gone.any (fun r => inRange r.1 r.2 (h * 8192))
  let s := { s with tu := { s.tu with
      grans := s.tu.grans.filter (fun e => !inGone e.1),
      frozen := if keep = [] then s.tu.frozen else n :: s.tu.frozen.filter (fun m => m != n) } }
  s.setCab n { s.cab n with conf := new, next := none, oldReserve := keep }

/-- A running command that needs a shadow while the reserve is re-placed is killed, and replays after the APPLY (R144). -/
def State.killStalled (s : State) (n : Nat) : State :=
  let owners := ((s.tu.reqs.filter (fun r => r.cab == n && r.phase == .shadow)).filterMap (·.owner)).eraseDups
  owners.foldl (fun s o => match o with
    | .cmd c k => s.killCmd c k 7 [.applyEnd]
    | .dce c d q => match s.dceCmd c d q with
      | some x => s.killDce x 7 [.applyEnd]
      | none => s
    | .inbound .. => s) s

/-- The bytes of a reserve that has left the shelf. -/
def State.dropOldReserve (s : State) (n : Nat) (old : List (Nat × Nat)) : State :=
  (minusSpans old (s.cab n).conf.spans).foldl (fun s r => if s.anyShelf r.1 then s else s.loseSpan r) s

/-- Settle every CURRENT granule once no SHADOW is left; those whose settle failed wait for a write (R143, R144). -/
def State.replaceReserve (s : State) (n : Nat) : State :=
  if (s.cab n).oldReserve == [] then s
  else
    let s := s.killStalled n
    let all := s.tu.grans.filter (fun e => (s.cab n).conf.has (e.1 * 8192))
    if all.any (fun e => e.2.shadow.isSome) then s
    else
      let s := (all.filter (fun e => e.2.cur.isSome && !e.2.failed)).foldl (fun s e => (s.settleGran n e.1).2) s
      if s.tu.grans.any (fun e => (s.cab n).conf.has (e.1 * 8192) && e.2.cur.isSome) then s
      else
        let s := { s with tu := { s.tu with frozen := s.tu.frozen.filter (fun m => m != n) } }
        let s := s.dropOldReserve n (s.cab n).oldReserve
        s.setCab n { s.cab n with oldReserve := [] }

/-! ### Tiles (R34, R35) -/

/-- A tile joins a cabinet: it takes the cabinet's tables and may be placed on. -/
def State.joinTile (s : State) (n t : Nat) : State :=
  (s.setTile t { s.tile t with cab := some n, leaving := false, busy := false, cmd := none, lastStatus := 0 }).retable t

/-- Tiles an APPLY removes take no more work; committing commands on them are killed. -/
def State.beginRemoval (s : State) (n : Nat) (ts : List Nat) : State :=
  let s := ts.foldl (fun s t => s.setTile t { s.tile t with leaving := true }) s
  let hit := s.ts.cmds.filter (fun c => c.cab == n && c.onTiles && c.tiles.any (fun t => ts.contains t))
  hit.foldl (fun s c => s.killCmd n c.n 5) s

/-- State resident on a leaving tile is swapped out, and idle tiles are cleared. -/
def State.pushRemoval (s : State) (n : Nat) : State :=
  let ts := (s.cab n).removing
  let cs := (s.residents n).filter (fun c => (s.ctx n c).tiles.any (fun t => ts.contains t))
  ts.foldl (fun s t => s.pushLeaving t) (cs.foldl (fun s c => s.evict n c) s)

/-- Once every context of a cabinet under DESTROY is torn down, its tiles are cleared (R41). -/
def State.pushDestroy (s : State) (n : Nat) : State :=
  let c := s.cab n
  if c.work == .destroying && s.useContexts n == 0 then
    c.removing.foldl (fun s t =>
      let x := s.tile t
      if x.leaving then s.pushLeaving t else (s.setTile t { x with leaving := true }).pushLeaving t) s
  else s

/-- A leaving tile's clear has ended: it is free, or waits for the end of its cabinet's DESTROY. -/
def State.tileLeft (s : State) (t : Nat) : State :=
  let x := s.tile t
  match x.cab with
  | some n =>
    if x.leaving && !x.busy && x.resident.isNone then
      let c := s.cab n
      let s := s.setCab n { c with removing := c.removing.filter (fun y => y != t) }
      if c.work == .destroying then s.setTile t { x with leaving := false }
      else
        let s := x.tables.foldl (fun s k => if (s.slot k).image then s else s.withdrawSlot k [t]) s
        let y := s.tile t
        s.setTile t { retired := y.retired, tables := y.tables, owed := y.owed.filter (fun k => (s.slot k).image),
                      lastStatus := y.lastStatus }
    else s
  | none => s.setTile t { x with leaving := false }

/-- Function-level resets whose cabinet has no teardown left are answered (R477). -/
def State.endFlrs (s : State) : State :=
  let past (f : Nat × Nat) : Bool := !s.drw.ctxs.any (fun e => e.1 / 16384 == f.2 && e.2.st == .dying)
  (s.hg.flr.filter past).foldl (fun s f => s.emit (.flrDone f.1)) { s with hg := { s.hg with flr := s.hg.flr.filter (fun f => !past f) } }

/-- A context's teardown ends; the last of a cabinet under DESTROY lets its tiles be cleared. -/
def execContextTeardownComplete (cab : CabId) (ctx : CtxId) (s : State) : Host.Outcome State Fault Refusal :=
  .next (s.work uDrawer fun s => ((contextTeardown cab.val ctx.val s).pushDestroy cab.val).endFlrs)

/-! ### The report page (R44 to R47) -/

def State.rep (s : State) (n off v : Nat) : State := s.setReg (rRep n + off) (BitVec.ofNat 64 v)

/-- CAB_STATUS.STATE. -/
def CabState.code : CabState → Nat
  | .free => 0 | .build => 1 | .live => 2 | .clear => 3

/-- Current use in the layout of CAB_QUOTA_A and CAB_QUOTA_B (R28). -/
def State.useA (s : State) (n : Nat) : Word :=
  pack [(0, s.useDrawers n), (16, s.useLatches n), (32, s.useContexts n), (48, s.useTables n)]
def State.useB (s : State) (n : Nat) : Word := pack [(0, s.useObjs n)]

/-- REP_GUAR_MEM_MBPS and REP_GUAR_FAB_MBPS at a clock in MHz (R47). -/
def State.guarMem (s : State) (c : CabConf) (mhz : Nat) : Nat := c.memFloor * s.gateCount * mhz
def guarFab (c : CabConf) (mhz : Nat) : Nat := c.fabFloor * 600 * mhz / 1024

/-- The fields every update writes. -/
def State.reportConf (s : State) (n : Nat) : State :=
  let c := s.cab n
  let q := c.conf
  let mhz := s.rfld rPlnClk 11 0
  [(0x00, (s.reg (rRep n)).toNat + 2),
   (0x10, c.gen * 2 ^ 32 + c.st.code * 2 ^ 16 + q.fn * 2 ^ 8 + n),
   (0x20, q.tileList.length), (0x28, q.size), (0x30, q.reserve), (0x38, bit q.integ),
   (0x40, q.quotaA.toNat), (0x48, q.quotaB.toNat), (0x60, q.bw.toNat),
   (0x68, s.guarMem q mhz), (0x70, guarFab q mhz), (0x78, mhz)].foldl (fun s e => s.rep n e.1 e.2) s

/-- A counter of the page saturates. -/
def repSat (v : Nat) : Nat := min v (2 ^ 64 - 1)

/-- The fields a closed window writes. -/
def State.reportWindow (s : State) (n at_ : Nat) : State :=
  let c := s.cab n
  let w := c.win
  let t := c.tot
  [(0x18, at_), (0x50, (s.useA n).toNat), (0x58, (s.useB n).toNat),
   (0x100, w.memBytes), (0x108, w.memShort), (0x110, w.memLat), (0x118, w.fabTx), (0x120, w.fabRx), (0x128, w.fabShort),
   (0x130, w.tileBusy), (0x138, w.hold),
   (0x200, t.memBytes), (0x208, t.tileBusy), (0x210, t.kills), (0x218, t.swapBytes), (0x220, t.fallbacks),
   (0x228, t.denied), (0x230, t.integrity), (0x238, t.quarantine), (0x240, t.hold), (0x248, t.resets)].foldl
    (fun s e => s.rep n e.1 (repSat e.2)) s

/-- Busy time of the runs under way, up to now. -/
def State.chargeRuns (s : State) (n : Nat) : State :=
  (s.tilesOf n).foldl (fun s t =>
    let x := s.tile t
    match x.cmd with
    | some k => match s.cmd n k with
      | some c => (s.chargeBusy n c.ctx (s.mono - x.since)).setTile t { x with since := s.mono }
      | none => s
    | none => s) s

/-- The limits' time at a timestamp that has passed. -/
def State.monoAt (s : State) (t : Nat) : Nat := s.mono - (s.now - t)

/-- Held time up to `t` is charged to the window that runs at each LIVE cabinet; holds that overlap count once (R45,
R381). What lies before the window's start was charged to an earlier one. -/
def State.chargeHold (s : State) (t : Nat) : State :=
  match s.rcv.heldFrom with
  | [] => s
  | h :: r =>
    let t0 := r.foldl (fun m x => min m x.2) h.2
    (s.cabs.filter (fun e => e.2.st == .live)).foldl (fun (s : State) e =>
      let c := s.cab e.1
      let d := t - max t0 (s.monoAt c.winAt)
      s.setCab e.1 { c with win := { c.win with hold := c.win.hold + d }, tot := { c.tot with hold := c.tot.hold + d } }) s

/-- The running window of a cabinet closes at `at_` (R44). -/
def State.closeWindow (s : State) (n at_ : Nat) : State :=
  let c := s.cab n
  if (c.st == .live || c.st == .clear) && decide (c.winAt < at_) then
    let s := ((s.chargeRuns n).reportConf n).reportWindow n at_
    s.setCab n { s.cab n with win := {}, winAt := at_ }
  else s

/-! ### Commands (R29, R31) -/

/-- A key is drawn for a shelf, or the draw waits for the random source (R319). -/
def State.drawKey (s : State) (n : Nat) : State :=
  let c := s.cab n
  if s.mix.healthy then
    let k := s.newKey
    k.2.setCab n { c with key := some k.1, keyWait := false }
  else (s.bump rMixGstat 47 32).setCab n { c with keyWait := true }

/-- The start of the next interval (R298). -/
def State.nextInterval (s : State) : Nat := (s.now / 1000 + 1) * 1000

/-- BUILD, FREE and the others by the state table of R29; anything not listed is STATE. -/
def State.cabRefuse (s : State) (n : Nat) (e : CabErr) : State := s.setCab n { s.cab n with err := e.code }

/-- Every partition register of a cabinet at its reset value. -/
def State.resetPartition (s : State) (n : Nat) : State :=
  { s with regs := s.regs.filter (fun e => !inRange (rWin n) 0x400 e.1) }

def State.cabBuild (s : State) (n : Nat) : State :=
  let c := s.cab n
  if c.st == .free then s.setCab n { c with st := .build, err := 0 } else s.cabRefuse n .state

/-- What the checks of an ACTIVATE lead to. -/
def State.activateWith (s : State) (n : Nat) (q : CabConf) (e : CabErr) : State :=
  match e with
  | .none =>
    let s := s.setCab n { s.cab n with err := 0, work := .activating, conf := q, floorsAt := s.nextInterval }
    (q.tileList.foldl (fun s t => s.joinTile n t) s).drawKey n
  | e => s.cabRefuse n e

/-- ACTIVATE: the checks and the reservation are one step. -/
def State.cabActivate (s : State) (n : Nat) : State :=
  if (s.cab n).st != .build then s.cabRefuse n .state
  else
    let r := s.cabChecks n (s.request n)
    r.2.activateWith n (s.request n) r.1

/-- What the checks of an APPLY lead to; `old` is the configuration in force. -/
def State.applyWith (s : State) (n : Nat) (old q : CabConf) (e : CabErr) : State :=
  match e with
  | .none =>
    let gone := old.tileList.filter (fun t => !q.tileList.contains t)
    let come := q.tileList.filter (fun t => !old.tileList.contains t)
    let conf := { q with shelf := old.shelf, cfg := old.cfg }
    let s := s.setCab n { s.cab n with err := 0, work := .applying, conf := conf, removing := gone,
                                       floorsAt := s.nextInterval, next := some q }
    let s := come.foldl (fun s t => s.joinTile n t) s
    let s := (s.beginRemoval n gone).pushRemoval n
    let waits := (mapGet none n s.mix.rekey).isSome || (match s.mix.reinit with | some x => x.1 == n | none => false)
    if waits && q.ranges != old.ranges then s else (s.applyShelf n q).replaceReserve n
  | e => s.cabRefuse n e

/-- APPLY: the checks, then what begins at once. Ranges wait for a re-key or re-initialisation of the shelf. -/
def State.cabApply (s : State) (n : Nat) : State :=
  if (s.cab n).st != .live || (s.request n).fn != (s.cab n).conf.fn || (s.request n).integ != (s.cab n).conf.integ then
    s.cabRefuse n .state
  else
    let r := s.cabChecks n (s.request n)
    r.2.applyWith n (s.cab n).conf (s.request n) r.1

/-- DESTROY in BUILD, or the start of the teardown of a LIVE cabinet (R41). -/
def State.cabDestroy (s : State) (n : Nat) : State :=
  let c := s.cab n
  match c.st with
  | .build => (s.setCab n { gen := c.gen }).resetPartition n
  | .live =>
    let s := s.setCab n { c with err := 0, st := .clear, work := .destroying, removing := c.conf.tileList,
                                 floorsAt := s.nextInterval }
    let s := s.clearTag n
    let cs := (s.drw.ctxs.filter (fun e => e.1 / 16384 == n && e.2.st == .live)).map (fun e => e.1 % 16384)
    ((cs.foldl (fun s x => s.beginTeardown n x false none) s).pushDestroy n).syncWires
  | _ => s.cabRefuse n .state

/-- A command of CAB_CMD: dropped while BUSY is 1. -/
def State.cabCommand (s : State) (n : Nat) (f : State → State) : State :=
  let c := s.cab n
  if c.work != .none then s.setCab n { c with dropped := true } else f s

/-- A write of CAB_CMD by the platform function (R24); other values are STATE. -/
def State.cabCmd (s : State) (n op : Nat) : State :=
  s.cabCommand n (fun s => match op with
    | 0 => s
    | 1 => s.cabBuild n
    | 2 => s.cabActivate n
    | 3 => s.cabApply n
    | 4 => s.cabDestroy n
    | _ => s.cabRefuse n .state)

def execCabNop (func : Func) (cab : CabId) (s : State) : Host.Outcome State Fault Refusal :=
  .next (s.platform func.val (rWin cab.val) (some (cmdWord 0)) fun s => s.cabCmd cab.val 0)
def execCabBuild (func : Func) (cab : CabId) (s : State) : Host.Outcome State Fault Refusal :=
  .next (s.platform func.val (rWin cab.val) (some (cmdWord 1)) fun s => s.cabCmd cab.val 1)
def execCabActivate (func : Func) (cab : CabId) (s : State) : Host.Outcome State Fault Refusal :=
  .next (s.platform func.val (rWin cab.val) (some (cmdWord 2)) fun s => s.cabCmd cab.val 2)
def execCabApply (func : Func) (cab : CabId) (s : State) : Host.Outcome State Fault Refusal :=
  .next (s.platform func.val (rWin cab.val) (some (cmdWord 3)) fun s => s.cabCmd cab.val 3)
def execCabDestroy (func : Func) (cab : CabId) (s : State) : Host.Outcome State Fault Refusal :=
  .next (s.platform func.val (rWin cab.val) (some (cmdWord 4)) fun s => s.cabCmd cab.val 4)

/-! ### Their ends -/

/-- The floors a cabinet's configuration asks for come into force (R298). -/
def State.floorsInForce (s : State) (n : Nat) : State :=
  let c := s.cab n
  let on := c.st == .live || c.work == .activating
  s.setCab n { c with memFloor := if on then c.conf.memFloor else 0, fabFloor := if on then c.conf.fabFloor else 0 }

/-- An ACTIVATE ends once its key is drawn and its interval has begun (R31). -/
def activateDone (n : Nat) (s : State) : State :=
  let c := s.cab n
  if c.work == .activating && !c.keyWait && decide (c.floorsAt ≤ s.now) then
    let s := c.conf.spans.foldl State.reinitSpan s
    let s := s.setCab n { c with st := .live, work := .none, gen := (c.gen + 1) % 65536, win := {}, tot := {},
                                 winAt := s.now, idleAt := s.mono, power := 0 }
    ((s.floorsInForce n).reportConf n).syncWires
  else s

def execActivateComplete (cab : CabId) (s : State) : Host.Outcome State Fault Refusal :=
  .next (s.work uPlinth (activateDone cab.val))

/-- An APPLY goes on with what waits, and ends when every change is made (R34, R37, R144, R298). -/
def applyDone (n : Nat) (s : State) : State :=
  let c := s.cab n
  if c.work != .applying then s
  else
    let waits := (mapGet none n s.mix.rekey).isSome || (match s.mix.reinit with | some x => x.1 == n | none => false)
    let s := match c.next with
      | some q => if waits then s else s.applyShelf n q
      | none => s
    let s := (s.replaceReserve n).pushRemoval n
    let c := s.cab n
    if c.next.isNone && c.oldReserve == [] && c.removing == [] && decide (c.floorsAt ≤ s.now) then
      let s := s.setCab n { c with work := .none }
      (((s.floorsInForce n).reportConf n).rekeyStart n).renewWaits n
    else s

def execApplyComplete (cab : CabId) (s : State) : Host.Outcome State Fault Refusal :=
  .next (s.work uPlinth (applyDone cab.val))

/-- What a cabinet that enters FREE releases (R22, R23, R41, R280). -/
def State.releaseCab (s : State) (n : Nat) : State :=
  let c := s.cab n
  let s := s.dropTables n
  let s := (s.tilesOf n).foldl (fun s t =>
    let x := s.tile t
    s.setTile t { retired := x.retired, tables := x.tables, owed := x.owed, lastStatus := x.lastStatus }) s
  let has (h : Nat) : Bool := c.conf.has (h * 8192)
  let other (k : MetaKey) : Bool := match k with | .node m .. => m != n | .line _ => true
  let s := { s with
    tu := { s.tu with grans := s.tu.grans.filter (fun e => !has e.1), reserved := mapSet 0 n 0 s.tu.reserved,
                      frozen := s.tu.frozen.filter (fun m => m != n), faults := s.tu.faults.filter (fun f => f.cab != n),
                      look := s.tu.look.filter (fun e => e.cab != n), walkc := s.tu.walkc.filter (fun e => e.cab != n) },
    mix := { s.mix with quar := s.mix.quar.filter (fun e => match e.2 with | some q => q.cab != n | none => true),
                        badNode := s.mix.badNode.filter (fun b => b.cab != n), whole := mapSet 0 n 0 s.mix.whole,
                        cache := s.mix.cache.filter (fun e => other e.key), version := s.mix.version.filter (fun e => other e.1),
                        rekey := mapSet none n none s.mix.rekey, rekeyDue := s.mix.rekeyDue.filter (fun m => m != n),
                        rekeyWait := s.mix.rekeyWait.filter (fun m => m != n) },
    lat := { s.lat with starveAt := mapSet 0 n 0 s.lat.starveAt },
    fr := { s.fr with keys := s.fr.keys.filter (fun e => e.1 / 4 != n), keyed := s.fr.keyed.filter (fun e => e.1 != n),
                      pctr := mapSet 0 n 0 s.fr.pctr },
    regs := s.regs.filter (fun e => !(inRange (rWin n) 0x1000 e.1 || inRange (rRep n) 0x1000 e.1 || e.1 == rFrJob n)) }
  let s := c.conf.spans.foldl State.loseSpan s
  let s := (s.setSbc n {}).setRfld (rSbCfg n) 0 0 0
  s.setCab n { gen := c.gen, memFloor := c.memFloor, fabFloor := c.fabFloor, floorsAt := c.floorsAt }

def cabTeardown (n : Nat) (s : State) : State :=
  let s := s.pushDestroy n
  let c := s.cab n
  let reinit := match s.mix.reinit with | some r => r.1 == n | none => false
  if c.work == .destroying && s.useContexts n == 0 && c.removing == [] && !reinit then s.releaseCab n else s

def execCabinetTeardownComplete (cab : CabId) (s : State) : Host.Outcome State Fault Refusal :=
  .next (s.work uPlinth (cabTeardown cab.val))

/-- The window of every cabinet closes at `t`; a hold under way is charged to it up to `t` and goes on in the next. -/
def State.closeWindows (s : State) (t : Nat) : State :=
  let old := s.cabs.any (fun e => e.2.st == .live && decide (e.2.winAt < t))
  (List.range 256).foldl (fun s n => s.closeWindow n t) (if old then s.chargeHold (s.monoAt t) else s)

/-- The window that ends at the last multiple of 1,000,000 ns closes for every cabinet (R44). -/
def execReportWindowClose (s : State) : Host.Outcome State Fault Refusal := .next (s.closeWindows (s.now / 1000000 * 1000000))

end Sys2Proof.Machine
end

