-- ==== Sys2Proof/Machine/Drawers.lean ====
section
/-! DEFINITION. Contexts, memory objects, drawers, doorbells, descriptors and queries (chapter 02). -/
namespace Sys2Proof.Machine

/-- An operating command of a cabinet's window, the word `v` at its command register `o`: without a live cabinet that the function reaches, nothing happens. -/
def opCommand (func : Func) (cab : CabId) (o : Nat) (v : Word) (res : Nat → Nat) (f : Nat → State → Nat × Nat × State)
    (s : State) : Host.Outcome State Fault Refusal :=
  .next (s.operate func.val cab.val o (some v) fun s => s.command (res cab.val) (f cab.val))

/-- A NOP of a command register (log 13). -/
def opNop (func : Func) (cab : CabId) (o : Nat) (res : Nat → Nat) (s : State) : Host.Outcome State Fault Refusal :=
  .next (s.operate func.val cab.val o (some (cmdWord 0)) fun s => nopCommand (res cab.val) s)

/-- The lowest number that a test does not find in use, of `n` in use. -/
def lowestFree (used : Nat → Bool) (n : Nat) : Nat := ((List.range (n + 1)).find? (fun i => !used i)).getD 0

/-! ### Contexts (R54, R55) -/

def ctxAlloc (cab : Nat) (s : State) : Nat × Nat × State :=
  let root := s.rfld (rCtxArg0 cab) 43 12 * 4096
  if quotaContexts (s.cab cab).conf ≤ s.useContexts cab then (errQuota, 0, s)
  else if !s.inShelfFree cab root 4096 then (errArg, 0, s)
  else
    let c := lowestFree (fun i => (s.ctx cab i).st != .free) (s.useContexts cab)
    let s := { s with drw := { s.drw with allocs := s.drw.allocs + 1 } }
    (errNone, c, s.setCtx cab c { st := .live, alloc := s.drw.allocs, root := root,
                                  pasidEn := s.rfld (rCtxArg1 cab) 20 20 == 1, pasid := s.rfld (rCtxArg1 cab) 19 0 })

def execCtxNop (func : Func) (cab : CabId) (s : State) : Host.Outcome State Fault Refusal := opNop func cab 0x400 rCtxResult s
def execCtxAlloc (func : Func) (cab : CabId) (s : State) : Host.Outcome State Fault Refusal :=
  opCommand func cab 0x400 (cmdWord 1) rCtxResult ctxAlloc s

/-- FREE begins a teardown; CTX_RESULT turns READY when it ends (R55, R378, R379). -/
def ctxFree (cab ctx : Nat) (s : State) : State :=
  match s.accept (rCtxResult cab) with
  | none => s.overrun (rCtxResult cab)
  | some s =>
    match (s.ctx cab ctx).st with
    | .free => s.result (rCtxResult cab) errStale 0
    | .dying => s.result (rCtxResult cab) errState 0
    | .live => { s with drw := { s.drw with ctxBusy := cab :: s.drw.ctxBusy } }.beginTeardown cab ctx true none

def execCtxFree (func : Func) (cab : CabId) (ctx : CtxId) (s : State) : Host.Outcome State Fault Refusal :=
  .next (s.operate func.val cab.val 0x400 (some (cmdWord 2 ctx.val)) fun s => ctxFree cab.val ctx.val s)

/-! ### Memory objects (R56 to R58) -/

/-- Install a table entry and answer its handle. -/
def State.newHandle (s : State) (make : Nat → MObj → MObj) : Nat × Nat × State :=
  let (i, s) := s.objTake
  let o := make i (s.obj i)
  (errNone, mkHandle o.gen i, s.setObj i o)

def mobjCreate (cab : Nat) (s : State) : Nat × Nat × State :=
  let base := s.rfld (rMobjArg cab 0) 56 0
  let len := s.rfld (rMobjArg cab 1) 56 0
  let fence := s.rfld (rMobjArg cab 2) 16 16 == 1
  let ctx := s.rfld (rMobjArg cab 2) 13 0
  if len = 0 ∨ 2 ^ 57 < base + len ∨ (fence = true ∧ (len < 16 ∨ base % 16 ≠ 0)) then (errArg, 0, s)
  else if (s.ctx cab ctx).st != .live then (errNoCtx, 0, s)
  else if quotaObjs (s.cab cab).conf ≤ s.useObjs cab then (errQuota, 0, s)
  else
    let host := s.rfld (rMobjArg cab 2) 17 17 == 1
    s.newHandle (fun i o => { gen := o.gen, used := true, orig := i, cab := cab, ctx := ctx, base := base, len := len,
                              host := host, fence := fence })

def mobjAlias (cab : Nat) (s : State) : Nat × Nat × State :=
  let h := s.rfld (rMobjArg cab 2) 63 32
  let ctx := s.rfld (rMobjArg cab 2) 13 0
  let root := (s.obj (handleIdx h)).orig
  if (s.ctx cab ctx).st != .live then (errNoCtx, 0, s)
  else if !(s.named cab h && !(s.obj root).withdrawn) then (errStale, 0, s)
  else if quotaObjs (s.cab cab).conf ≤ s.useObjs cab then (errQuota, 0, s)
  else
    let t := s.obj root
    s.newHandle (fun _ o => { t with gen := o.gen, withdrawn := false, orig := root, ctx := ctx, refs := 0 })

def mobjRelease (cab : Nat) (s : State) : Nat × Nat × State :=
  let h := s.rfld (rMobjArg cab 2) 63 32
  if s.named cab h then (errNone, h, s.objRelease (handleIdx h)) else (errStale, 0, s)

def execMobjNop (func : Func) (cab : CabId) (s : State) : Host.Outcome State Fault Refusal := opNop func cab 0x4C0 rMobjResult s
def execMobjCreate (func : Func) (cab : CabId) (s : State) : Host.Outcome State Fault Refusal :=
  opCommand func cab 0x4C0 (cmdWord 1) rMobjResult mobjCreate s
def execMobjAlias (func : Func) (cab : CabId) (s : State) : Host.Outcome State Fault Refusal :=
  opCommand func cab 0x4C0 (cmdWord 2) rMobjResult mobjAlias s
def execMobjRelease (func : Func) (cab : CabId) (s : State) : Host.Outcome State Fault Refusal :=
  opCommand func cab 0x4C0 (cmdWord 3) rMobjResult mobjRelease s

/-! ### Drawers (R60 to R63) -/

def drwCreate (cab : Nat) (s : State) : Nat × Nat × State :=
  let a := s.reg (rDrwArg cab 2)
  let ctx := fld a 45 32
  let size (v : Nat) := decide (4 ≤ v) && decide (v ≤ 20)
  let ring := s.rfld (rDrwArg cab 0) 56 0
  let cq := s.rfld (rDrwArg cab 1) 56 0
  if quotaDrawers (s.cab cab).conf ≤ s.useDrawers cab then (errQuota, 0, s)
  else if (s.ctx cab ctx).st != .live then (errNoCtx, 0, s)
  else if !(size (fld a 4 0) && size (fld a 12 8)) || fld a 17 16 == 0 || fld a 19 18 == 3 ||
      (fld a 19 18 == 1 && fld a 17 16 == 1) || (fld a 20 20 == 1 && !(s.ctx cab ctx).pasidEn) ||
      ring % 64 != 0 || cq % 64 != 0 then (errArg, 0, s)
  else
    let i := lowestFree (fun i => (s.drawer cab i).st != .free) (s.useDrawers cab)
    (errNone, i, s.setDrawer cab i { st := .live, ringBase := ring, cqBase := cq, cfg := fld a 27 0, ctx := ctx })

def drwStop (cab i : Nat) (s : State) : Nat × Nat × State :=
  match (s.drawer cab i).st with
  | .free => (errStale, 0, s)
  | .live => (errNone, i, (s.setDrawer cab i { s.drawer cab i with st := .stopping }).settleDrawer cab i)
  | _ => (errState, 0, s)

def drwStart (cab i : Nat) (s : State) : Nat × Nat × State :=
  match (s.drawer cab i).st with
  | .free => (errStale, 0, s)
  | .stopped => (errNone, i, s.setDrawer cab i { s.drawer cab i with st := .live })
  | .error => (errNone, i, s.setDrawer cab i { s.drawer cab i with st := .live })
  | _ => (errState, 0, s)

/-- DESTROY ends when the drawer's work has left every engine (R53). -/
def drwDestroy (cab i : Nat) (s : State) : State :=
  match s.accept (rDrwResult cab) with
  | none => s.overrun (rDrwResult cab)
  | some s =>
    let d := s.drawer cab i
    match d.st with
    | .free => s.result (rDrwResult cab) errStale 0
    | .dying => s.result (rDrwResult cab) errState 0
    | _ =>
      let s := ({ s with drw := { s.drw with drwBusy := cab :: s.drw.drwBusy } }).setDrawer cab i { d with st := .dying, byCmd := true }
      (s.cancelFlights (s.drw.flights.filter (fun f => f.cab == cab && f.drawer == i))).settleDrawer cab i

def execDrwNop (func : Func) (cab : CabId) (s : State) : Host.Outcome State Fault Refusal := opNop func cab 0x440 rDrwResult s
def execDrwCreate (func : Func) (cab : CabId) (s : State) : Host.Outcome State Fault Refusal :=
  opCommand func cab 0x440 (cmdWord 1) rDrwResult drwCreate s
def execDrwStop (func : Func) (cab : CabId) (drawer : DrawerId) (s : State) : Host.Outcome State Fault Refusal :=
  opCommand func cab 0x440 (cmdWord 2 drawer.val) rDrwResult (fun n => drwStop n drawer.val) s
def execDrwStart (func : Func) (cab : CabId) (drawer : DrawerId) (s : State) : Host.Outcome State Fault Refusal :=
  opCommand func cab 0x440 (cmdWord 3 drawer.val) rDrwResult (fun n => drwStart n drawer.val) s
def execDrwDestroy (func : Func) (cab : CabId) (drawer : DrawerId) (s : State) : Host.Outcome State Fault Refusal :=
  .next (s.operate func.val cab.val 0x440 (some (cmdWord 4 drawer.val)) fun s => drwDestroy cab.val drawer.val s)

/-! ### Queries (R84 to R86) -/

def sat64 (n : Nat) : Nat := min n (2 ^ 64 - 1)

/-- Busy time of runs not yet ended. -/
def State.busyNow (s : State) (cab : Nat) (ctx : Option Nat) : Nat :=
  (s.ts.tiles.map (fun e => match e.2.cmd with
    | some n => if e.2.cab == some cab && (ctx.isNone || (s.cmd cab n).map (·.ctx) == ctx) then s.mono - e.2.since else 0
    | none => 0)).sum

def State.openDrawers (s : State) (cab : Nat) (ctx : Option Nat) : Nat :=
  (s.drw.drawers.filter (fun e => e.1 / 8192 == cab && e.2.st != .free && e.2.st != .dying &&
    (ctx.isNone || some e.2.ctx == ctx))).length

def State.objBytes (s : State) (cab : Nat) (ctx : Option Nat) : Nat :=
  ((s.drw.objs.filter (fun e => e.2.used && !e.2.withdrawn && e.2.cab == cab && (ctx.isNone || some e.2.ctx == ctx))).map
    (·.2.len)).sum

/-- Words 0 to 7 of a query of a context. -/
def State.queryContext (s : State) (cab ctx : Nat) : List Nat :=
  let x := s.ctx cab ctx
  let shadow := ((s.gransOf cab).filter (fun e => e.2.viaCtx == ctx && (e.2.held e.1).isSome)).length
  [2 ^ 63 + bit (x.resid == .resident) * 2 ^ 16 + ctx, s.now, sat64 (x.busyNs + s.busyNow cab (some ctx)), sat64 x.memBytes,
   sat64 (s.objBytes cab (some ctx)), 8192 * shadow, sat64 x.completed,
   min x.kills (2 ^ 32 - 1) * 2 ^ 32 + s.openDrawers cab (some ctx)]

/-- Words 0 to 7 of a query of a whole cabinet. -/
def State.queryCabinet (s : State) (cab : Nat) : List Nat :=
  let t := (s.cab cab).tot
  let live := (s.drw.ctxs.filter (fun e => e.1 / 16384 == cab && e.2.st == .live)).length
  [2 ^ 63 + 2 ^ 24 + live, s.now, sat64 (t.tileBusy + s.busyNow cab none), sat64 t.memBytes, sat64 (s.objBytes cab none),
   8192 * (s.poolUsed cab false + s.poolUsed cab true), sat64 t.completed,
   min t.kills (2 ^ 32 - 1) * 2 ^ 32 + s.openDrawers cab none]

/-- Store words 0 to 7 in QRY_RESULT0-7. -/
def State.putQuery (s : State) (cab : Nat) (ws : List Nat) : State :=
  ws.zipIdx.foldl (fun s e => s.setReg (rQry cab e.2) (BitVec.ofNat 64 e.1)) s

/-- A register query: `f` answers the words. -/
def queryCommand (cab : Nat) (f : State → List Nat) (s : State) : State :=
  match s.accept (rQry cab 0) with
  | none => s.overrun (rQry cab 0)
  | some s => s.putQuery cab (f s)

/-- A query of a context that is not LIVE: NO_CTX and zero counters. -/
def State.queryCtx (s : State) (cab ctx : Nat) : List Nat :=
  if (s.ctx cab ctx).st == .live then s.queryContext cab ctx else [2 ^ 63 + 3 * 2 ^ 56 + ctx, s.now, 0, 0, 0, 0, 0, 0]

def execQryContext (func : Func) (cab : CabId) (ctx : CtxId) (s : State) : Host.Outcome State Fault Refusal :=
  .next (s.operate func.val cab.val 0x500 (some (pack [(0, ctx.val)])) fun s => queryCommand cab.val (fun s => s.queryCtx cab.val ctx.val) s)
def execQryCabinet (func : Func) (cab : CabId) (s : State) : Host.Outcome State Fault Refusal :=
  .next (s.operate func.val cab.val 0x500 (some (cmdWord 0 1)) fun s => queryCommand cab.val (fun s => s.queryCabinet cab.val) s)

/-- A QUERY descriptor writes its result before its completion record. -/
def queryDesc (f : Flight) (ws : List Nat) (s : State) : State :=
  let a : Asker := { src := .drw false, unit := uDrawer, cab := f.cab, ctx := f.ctx, tag := drwKey f.cab f.drawer + 1 }
  match s.vaWrite a ((s.obj (handleIdx (leAt f.body 0 4))).base + leAt f.body 4 4) (ws.flatMap (toLe 8)) with
  | (.ok _, s) => s.done f
  | (.wait, s) => s
  | (.bad st u, s) => s.endFlight f.cab f.drawer f.seq { status := st, unit := some u }

def execQueryContext (cab : CabId) (drawer : DrawerId) (seq : Seq) (s : State) : Host.Outcome State Fault Refusal :=
  .next (s.work uDrawer fun s => match s.issuedOp cab.val drawer.val seq.val 0x40 with
    | some f => if leAt f.body 8 1 = 0 then queryDesc f (s.queryContext f.cab f.ctx) s else s
    | none => s)
def execQueryCabinet (cab : CabId) (drawer : DrawerId) (seq : Seq) (s : State) : Host.Outcome State Fault Refusal :=
  .next (s.work uDrawer fun s => match s.issuedOp cab.val drawer.val seq.val 0x40 with
    | some f => if leAt f.body 8 1 = 1 then queryDesc f (s.queryCabinet f.cab) s else s
    | none => s)

/-! ### Doorbells (R67 to R71) -/

/-- The cabinet whose pages a function sees: the LIVE cabinet bound to it. -/
def State.boundCab (s : State) (func : Nat) : Option Nat :=
  (s.cabs.find? (fun e => e.2.st == .live && fld e.2.conf.func 7 0 == func)).map (·.1)

/-- Count a dropped doorbell write of cabinet `n`'s page; the fields are FORM 48, STALE 32, FREE 16, OWNER 0. -/
def State.dropDoorbell (s : State) (n lo : Nat) : State := (s.bump (rDbDrops n) (lo + 15) lo).bump rDbGdrops (lo + 15) lo

def sub32 (a b : Nat) : Nat := (a + 2 ^ 32 - b) % 2 ^ 32

/-- The conditions of R69 on a write to doorbell `i` of cabinet `n`: the field that counts the first to fail. -/
def State.doorbellFails (s : State) (func n i len off : Nat) (pasid : Option Nat) (v : Word) : Option Nat :=
  let d := s.drawer n i
  let x := s.ctx n d.ctx
  let tail := fld v 31 0
  let cq := fld v 63 32
  if len != 8 || off % 8 != 0 then some 48
  else if !((s.cab n).st == .live && s.funcOf n == func) then some 0
  else if d.st == .free || d.st == .dying then some 16
  else if d.cfg.testBit 20 && pasid != some x.pasid then some 0
  else if 2 ^ d.ringLog2 - sub32 d.tail d.head < sub32 tail d.tail then some 32
  else if sub32 (s.doneLow n i % 2 ^ 32) d.cqHead < sub32 cq d.cqHead then some 32
  else none

/-- A doorbell write at byte `off` of cabinet `n`'s page. -/
def doorbell (func n off len : Nat) (pasid : Option Nat) (v : Word) (s : State) : State :=
  let i := off / 8
  match s.doorbellFails func n i len off pasid v with
  | some lo => s.dropDoorbell n lo
  | none =>
    let d := s.drawer n i
    (s.setDrawer n i { d with tail := fld v 31 0, cqHead := fld v 63 32, dbCount := (d.dbCount + 1) % 2 ^ 32 }).wakeCab n 1

/-- A write to the doorbell region by a function: the platform reaches every page, a tenant the page of its cabinet; it waits
while the Host Gate is in a reset. -/
def doorbellWrite (func off len : Nat) (pasid : Option Nat) (value : Word) (s : State) : State :=
  if !s.hostUp then s
  else if s.resetting uHost then
    { s with hg := { s.hg with bells := s.hg.bells ++ [{ func := func, off := off, len := len, pasid := pasid, value := value }] } }
  else if func = 0 then doorbell 0 (off / 65536) (off % 65536) len pasid value s
  else match s.boundCab func with
    | some n => if off < 65536 then doorbell func n off len pasid value s else s
    | none => s.bump rDbGdrops 15 0

def execDoorbellWrite (func : Func) (off : Fin 16777216) (len : Nat) (pasid : Option Pasid) (value : Word) (s : State) :
    Host.Outcome State Fault Refusal :=
  .next (doorbellWrite func.val off.val len (pasid.map (·.val)) value s)

/-- A read of the doorbell at byte `off` by a function: the last accepted value of a drawer in use (R70); no read counts as
a drop. -/
def State.readDoorbell (s : State) (func off : Nat) : Word :=
  match (if func = 0 then some (off / 65536) else if off < 65536 then s.boundCab func else none) with
  | none => 0
  | some n =>
    let d := s.drawer n (off % 65536 / 8)
    if d.st == .free || d.st == .dying then 0 else pack [(32, d.cqHead), (0, d.tail)]

/-! ### Fetch and validation (R64, R77, R78, R83) -/

/-- The stream of a drawer's ring reads and record writes: never serviced (R133). -/
def drwAsker (cab i ctx : Nat) (rcd : Bool) : Asker :=
  { src := .drw rcd, unit := uDrawer, cab := cab, ctx := ctx, tag := drwKey cab i + 1, service := false }

/-- Read ring slots from count `head` on. -/
def readSlots (cab i : Nat) (d : Drawer) : Nat → Nat → State → Acc (List (List Byte)) × State
  | 0, _, s => (.ok [], s)
  | n + 1, head, s =>
    let b := slotBytes d.gen
    match s.vaRead (drwAsker cab i d.ctx false) (d.ringBase + head % 2 ^ d.ringLog2 * b) b with
    | (.ok x, s) =>
      match readSlots cab i d n (head + 1) s with
      | (.ok l, s) => (.ok (x :: l), s)
      | y => y
    | (.wait, s) => (.wait, s)
    | (.bad st u, s) => (.bad st u, s)

/-- A REQUEST of the drawer whose validation has not ended holds it (R162). -/
def State.requestHolds (s : State) (cab i : Nat) : Bool :=
  s.drw.flights.any (fun f => f.cab == cab && f.drawer == i && f.op == 0x03 && (f.stage == .issued || f.stage == .validated))

/-- The drawer may fetch (R64). -/
def State.mayFetch (s : State) (cab i : Nat) : Bool :=
  let d := s.drawer cab i
  (s.cab cab).st == .live && d.st == .live && d.head != d.tail && !s.requestHolds cab i &&
  decide (sub32 (d.nextSeq % 2 ^ 32) d.cqHead < 2 ^ d.cqLog2)

/-- Key of an arbitration group: cabinet and ARB_GROUP. -/
def groupKey (cab : Nat) (d : Drawer) : Nat := cab * 16 + bitsOf d.cfg 27 24
/-- How many drawers come before drawer `i` in its group's round (R87). -/
def State.turnDist (s : State) (cab i : Nat) : Nat := (i + 8192 - mapGet 0 (groupKey cab (s.drawer cab i)) s.drw.turn) % 8192
/-- A drawer of the group comes before this one in the round and may fetch: the groups are served round-robin (R87). -/
def State.turnWaits (s : State) (cab i : Nat) : Bool :=
  s.drw.drawers.any (fun e => e.1 / 8192 == cab && groupKey cab e.2 == groupKey cab (s.drawer cab i) &&
    decide (s.turnDist cab (e.1 % 8192) < s.turnDist cab i) && s.mayFetch cab (e.1 % 8192))
/-- The drawer has had its turn. -/
def State.passTurn (s : State) (cab i : Nat) : State :=
  { s with drw := { s.drw with turn := mapSet 0 (groupKey cab (s.drawer cab i)) ((i + 1) % 8192) s.drw.turn } }

def State.addFlight (s : State) (f : Flight) (slots : Nat) : State :=
  let d := s.drawer f.cab f.drawer
  let s := s.setDrawer f.cab f.drawer { d with head := (d.head + slots) % 2 ^ 32, nextSeq := (d.nextSeq + 1) % 2 ^ 48 }
  { s with drw := { s.drw with flights := s.drw.flights ++ [f] } }

/-- A ring read failed: a record with OPCODE 0, the drawer in ERROR, HEAD where it was. -/
def State.ringFails (s : State) (cab i st u : Nat) : State :=
  let d := s.drawer cab i
  let f : Flight := { cab := cab, drawer := i, ctx := d.ctx, seq := d.nextSeq, slot := d.head, slots := 0, gen := d.gen, op := 0,
                      flags := 0, fence := 0, fenceVal := 0, fenceOk := false, count := 0, body := [], exts := [], refs := [],
                      stage := .ended { status := st, unit := some u }, issuedAt := s.mono, ringFail := true }
  let s := s.addFlight f 0
  s.setDrawer cab i { s.drawer cab i with st := .error }

/-- Fetch and validate the descriptor at HEAD; one not wholly before TAIL waits. A drawer has its turn whether or not its
ring can be read now. -/
def fetchDesc (cab i : Nat) (s : State) : State :=
  let d := s.drawer cab i
  if !s.mayFetch cab i || s.turnWaits cab i then s
  else
    let s := s.passTurn cab i
    match readSlots cab i d 1 d.head s with
    | (.wait, s) => s
    | (.bad st u, s) => s.ringFails cab i st u
    | (.ok bases, t) =>
      let b := bases.getD 0 []
      let n := 1 + extOf d.gen b
      if sub32 d.tail d.head < n then s
      else match readSlots cab i d (n - 1) (d.head + 1) t with
        | (.wait, s) => s
        | (.bad st u, s) => s.ringFails cab i st u
        | (.ok exts, s) =>
          let x := parse d.gen b exts
          let v := s.validate cab d.ctx d.mode x
          let refs := refsOf s cab d.ctx d.mode x
          let f : Flight := { cab := cab, drawer := i, ctx := d.ctx, seq := d.nextSeq, slot := d.head, slots := n, gen := d.gen,
                              op := x.op, flags := x.flags, fence := x.fence, fenceVal := x.fval, fenceOk := v.2,
                              count := x.count, body := x.body, exts := x.exts, refs := refs, issuedAt := s.mono,
                              stage := match v.1 with
                                | some st => .ended { status := st, unit := some uDrawer }
                                | none => .validated }
          ((s.holdRefs refs).addFlight f n).queueMove f

def execDescriptorFetch (cab : CabId) (drawer : DrawerId) (s : State) : Host.Outcome State Fault Refusal :=
  .next (s.work uDrawer (fetchDesc cab.val drawer.val))

/-! ### Issue (R65, R99, R162, R217) -/

/-- An earlier descriptor that holds its drawer: not yet issued, a WAIT, a REQUEST at admission, a MOVE or PREFETCH
without a channel. -/
def State.holdsDrawer (s : State) (f : Flight) : Bool :=
  match f.stage with
  | .ended _ => false
  | .validated => true
  | .issued => f.op == 0x31 || f.op == 0x03 || f.op == 0x10 || f.op == 0x11
  | .running => f.op == 0x31 || s.me.waits.contains (f.cab, f.drawer, f.seq)

/-- The descriptors of the drawer before this one. -/
def State.earlierFlights (s : State) (f : Flight) : List Flight :=
  (s.drw.flights.filter (fun g => g.cab == f.cab && g.drawer == f.drawer)).takeWhile (fun g => g.seq != f.seq)

def issueDesc (cab i q : Nat) (s : State) : State :=
  match s.flight cab i q with
  | some f =>
    let before := s.earlierFlights f
    if f.stage == .validated && (s.drawer cab i).st != .dying && !before.any s.holdsDrawer &&
        (!f.flags.testBit 1 || before.isEmpty) then
      s.updFlight cab i q (fun g => { g with stage := .issued, issuedAt := s.mono })
    else s
  | none => s

def execDescriptorIssue (cab : CabId) (drawer : DrawerId) (seq : Seq) (s : State) : Host.Outcome State Fault Refusal :=
  .next (s.work uDrawer (issueDesc cab.val drawer.val seq.val))

/-! ### Completion (R78, R80 to R83) -/

/-- The descriptor's fence is written. -/
def Flight.fenced (f : Flight) : Bool := f.fence != 0 && f.fenceOk
/-- DONE and DEADLINE_FALLBACK signal the fence; every other status attaches the error. -/
def Ending.good (e : Ending) : Bool := e.status == stDone || e.status == stFallback

/-- The record's bytes 0-7 and 8-31. -/
def recordHead (f : Flight) (e : Ending) (log2 : Nat) : List Byte :=
  toLe 8 (f.seq * 2 ^ 16 + e.status * 2 ^ 8 + bit f.fenced * 2 + bit (f.seq / 2 ^ log2 % 2 == 0))
def recordTail (f : Flight) (e : Ending) (now : Nat) : List Byte :=
  toLe 8 (if !f.fenced then 0 else if e.good then f.fenceVal else fenceError) ++
  toLe 8 (f.slot % 2 ^ 32 * 2 ^ 32 + bit e.unit.isSome * 2 ^ 20 + e.unit.getD 0 * 2 ^ 8 + f.op) ++ toLe 8 now

/-- Write the completion record: bytes 8-31, then bytes 0-7. -/
def writeRecord (f : Flight) (e : Ending) (s : State) : Acc Unit × State :=
  let d := s.drawer f.cab f.drawer
  let a := drwAsker f.cab f.drawer f.ctx true
  let va := d.cqBase + f.seq % 2 ^ d.cqLog2 * 32
  match s.vaWrite a (va + 8) (recordTail f e s.now) with
  | (.ok _, s) => s.vaWrite a va (recordHead f e d.cqLog2)
  | x => x

/-- The descriptor leaves the drawer: its references are dropped. -/
def State.leave (s : State) (f : Flight) : State :=
  let s := { s with drw := { s.drw with flights := s.drw.flights.filter (fun g => !g.is f.cab f.drawer f.seq) } }
  let s := s.setCab f.cab { s.cab f.cab with idleAt := s.mono }
  ((s.dropRefs f.refs).tally uDrawer 4 (some f.cab)).settleDrawer f.cab f.drawer

/-- Word 1 of the error attached to a descriptor's fence; a teardown by verdict attaches GUILTY (R378). -/
def State.errorWord (s : State) (f : Flight) (e : Ending) : Word :=
  match e.relay, (s.ctx f.cab f.ctx).guilty with
  | some w, _ => w
  | none, some (u, q) => if e.status = stAbandoned then fenceWord stGuilty u q else fenceWord e.status (e.unit.getD 0) f.seq
  | none, none => fenceWord e.status (e.unit.getD 0) f.seq

/-- Signal the fence or attach the error, then let the descriptor leave; a fence access that fails is passed over. -/
def State.closeFlight (s : State) (f : Flight) (e : Ending) : State :=
  if !f.fenced then s.leave f
  else
    let base := (s.obj (handleIdx f.fence)).base
    let a := latAsker f.cab f.ctx
    let r := if e.good then s.signalFence a base f.fenceVal else s.attachError a base (s.errorWord f e)
    match r with
    | (.wait, s) => s
    | (_, s) => s.leave f

/-- What a completion counts (R62, R85). -/
def State.countDone (s : State) (f : Flight) (e : Ending) : State :=
  let c := s.cab f.cab
  let s := s.setCab f.cab { c with tot := { c.tot with completed := c.tot.completed + 1 } }
  let x := s.ctx f.cab f.ctx
  let s := s.setCtx f.cab f.ctx { x with completed := x.completed + 1 }
  if e.good then s
  else s.setDrawer f.cab f.drawer { s.drawer f.cab f.drawer with lastErr := e.status, lastUnit := e.unit.getD 0 }

def completeDesc (cab i q : Nat) (s : State) : State :=
  match s.flight cab i q with
  | some f =>
    match f.stage with
    | .ended e =>
      if (s.drawer cab i).st == .dying || f.recorded then s.closeFlight f e
      else match writeRecord f e s with
        | (.wait, s) => s
        | (.ok _, s) => ((s.countDone f e).updFlight cab i q (fun g => { g with recorded := true })).closeFlight f e
        | (.bad st u, s) =>
          let s := s.countDone f e
          let s := s.setDrawer cab i { s.drawer cab i with st := .error, lastErr := st, lastUnit := u }
          (s.updFlight cab i q (fun g => { g with recorded := true })).closeFlight f e
    | _ => s
  | none => s

def execDescriptorComplete (cab : CabId) (drawer : DrawerId) (seq : Seq) (s : State) : Host.Outcome State Fault Refusal :=
  .next (s.work uDrawer (completeDesc cab.val drawer.val seq.val))

end Sys2Proof.Machine
end

