-- ==== Sys2Proof/Machine/Recovery.lean ====
section
/-! DEFINITION. Faults, reset levels and recovery (chapter 13): detection, ENGINE resets, searches, escalation, RST_CMD,
CONTEXT, CABINET, CHIP and TRAY resets, and the start and end of dumps. -/
namespace Sys2Proof.Machine

def rRstArg : Nat := 0x1008
def rRstResult : Nat := 0x1010
def rChestHost : Nat := 0xA08008
def rChestCfg : Nat := 0xA08010
def rChestStat : Nat := 0xA08018

/-- The hang limit of a unit in µs (R371). -/
def State.hangUs (s : State) (u : Nat) : Nat :=
  let c := s.reg rRcvCfg
  match u / 256 with
  | 0xD => max 1 (fld c 31 20)
  | 9 | 1 | 0xA => fld c 13 8
  | _ => fld c 7 0

/-- The status a DIRECT command ends with when its unit is reset (R375). -/
def classStatus (cls : Nat) : Nat := if cls = 4 then stTimeout else if cls = 0x0A then stAbandoned else stMemory

/-- REP_TOT_RESETS (R45). -/
def State.countReset (s : State) (n : Nat) : State :=
  let c := s.cab n
  s.setCab n { c with tot := { c.tot with resets := c.tot.resets + 1 } }

/-- POWER_CYCLE with its reason: 1 WATCHDOG, 2 ESCALATION, 3 RST_CMD TRAY, 4 DOMAIN_FAIL, 5 LIFE_CYCLE. -/
def State.powerCycle (s : State) (reason unit : Nat) : State := s.sendTray 0x10 (toLe 1 reason ++ toLe 2 unit)

/-! ### Dumps (R393, R394) -/

/-- Write to the Chest; a write that fails is passed over (log 60). -/
def State.chestWrite (s : State) (host : Bool) (off : Nat) (bs : List Byte) : State :=
  if host then (s.hostWrite 0 ((s.reg rChestHost).toNat / 4096 * 4096 + off) bs).2
  else (s.devWrite { m := .observe, unit := uOu } ((s.reg rChestBase).toNat + off) bs).2

/-- The header of a dump (R395). -/
def dumpHeader (blkId : Word) (d : Dump) (state tEnd records unreadable : Nat) : List Byte :=
  toLe 4 0x4B584348 ++ toLe 2 0x0301 ++ toLe 1 state ++ toLe 1 d.trigger ++ toLe 8 blkId.toNat ++ toLe 8 d.tStart ++
  toLe 8 tEnd ++ toLe 4 d.seq ++ toLe 4 records ++ toLe 4 unreadable ++ toLe 4 0 ++ d.rcd ++ toLe 3984 0

/-- Where a dump goes: true for the host Chest. -/
def State.dumpPlace (s : State) (trigger : Nat) : Option Bool :=
  let hostEn := s.rfld rChestHost 0 0 == 1
  let base := (s.reg rChestBase).toNat
  let gates := (List.range s.gateCount).all (fun g => (s.localSpan g base (2 ^ 28)).2 == 0 || !s.resetting (uGate g))
  if trigger = 3 && hostEn then some true
  else if base != 0 && gates then some false
  else if hostEn && !s.resetting uHost then some true
  else none

/-- A dump starts, or is skipped and counted (R393, R394). -/
def State.startDump (s : State) (trigger first : Nat) (rcd : List Byte) (next : Option DumpNext) : Bool × State :=
  let free := s.rfld rChestStat 1 0 == 0 || s.rfld rChestStat 4 4 == 1 || s.rfld rChestCfg 1 1 == 1
  match s.dumpPlace trigger with
  | some host =>
    if free && s.rcv.dump.isNone then
      let seq := s.rfld rChestStat 47 32
      let d : Dump := { host := host, trigger := trigger, first := first, tStart := s.now, seq := seq, rcd := rcd,
                        next := next, since := s.mono }
      let s := s.setReg rChestStat (pack [(32, (seq + 1) % 65536), (8, s.rfld rChestStat 15 8), (2, if host then 2 else 1), (0, 1)])
      let s := { s with rcv := { s.rcv with dump := some d } }
      (true, s.chestWrite host 0 (dumpHeader s.blkId d 1 0 0 0))
    else (false, s.bump rChestStat 15 8)
  | none => (false, s.bump rChestStat 15 8)

/-! ### CHIP and TRAY resets (R376, R384, R385, R392, R403) -/

/-- Every VALID tag's ABORT leaves before the ports stop (R361). -/
def State.abortAll (s : State) (reason : Nat) : State :=
  ((List.range 256).filter s.jobValid).foldl (fun s n => s.originateAbort n reason) s

/-- Registers a CHIP reset keeps: the fabric's configuration, the state of the Chest, the measured clock. -/
def chipKeeps (off : Nat) : Bool :=
  off == rFrNode || off == rFrCfg || off == rChestStat || off == rPlnClk || (List.range 48).any (fun p => off == rPgCfg p)

/-- A port through a CHIP reset: DOWN, its neighbour's IDs kept (R367). -/
def Port.chip (x : Port) : Port :=
  { link := x.link, lanes := x.lanes, node := x.node, nport := x.nport }

/-- The VDD_CORE units are reset: registers, the Plinth's state and what lies outside them are given or kept. -/
def State.coreReset (s : State) (pln : PlnUnit) (regs : FMap Word) : State :=
  { pending := s.pending, out := s.out, now := s.now, mono := s.mono, tie := s.tie, free := s.free,
    regs := regs, dev := s.dev, hostMem := s.hostMem, lost := s.lost,
    hg := { cfg := s.hg.cfg }, fuse := s.fuse, lc := s.lc, pln := pln,
    ou := { sensors := s.ou.sensors },
    fr := { ports := s.fr.ports.map (fun e => (e.1, e.2.chip)) } }

/-- A reset aborts these power entries, with reason RESET and uncounted (R419, log 166). -/
def State.dropEntries (s : State) (hit : Entry → Bool) : State :=
  (s.pln.entries.filter hit).foldl (fun s e => s.dropEntry e uPlinth 4) s

/-- A CHIP reset: the logic and mem rungs fall and are raised again, then start-up runs from IMAGE. Every shelf's key is
lost (R320). -/
def State.chipReset (s : State) : State :=
  let s := (s.abortAll 2).dropEntries (fun _ => true)
  let spans := (s.cabs.filter (fun e => e.2.holds)).flatMap (fun e => e.2.confs.flatMap CabConf.spans ++ e.2.oldReserve)
  let s := (spans.foldl State.loseSpan s).loseBlock
  let pln : PlnUnit := { phase := .image, startAt := s.now, phaseAt := s.now, afterChip := true, ready := 3, req := 7,
                         rungAt := s.now, addr := s.pln.addr, msgs := s.pln.msgs, fail := s.pln.fail }
  s.coreReset pln (s.regs.filter (fun e => chipKeeps e.1))

/-- The block asks for its power to be removed, and holds every unit in reset until it is. -/
def State.holdForTray (s : State) (reason unit : Nat) : State :=
  let s := (s.dropEntries (fun _ => true)).powerCycle reason unit
  { s with pln := { s.pln with held := true } }

/-- Take a CHIP (4) or TRAY (5) reset that no dump holds back any longer. -/
def State.takeReset (s : State) (level reason unit : Nat) : State :=
  if level = 4 then s.chipReset else s.holdForTray reason unit

/-- A CHIP or TRAY reset waits for a dump being written; one of the same or a lower level joins the one that waits
already (R374, R394). -/
def State.afterDump (s : State) (level reason unit : Nat) : State :=
  match s.rcv.dump with
  | some d =>
    if d.next.any (fun n => decide (level ≤ n.level)) then s
    else
      let since := if d.next.isSome then d.since else s.mono
      { s with rcv := { s.rcv with dump := some { d with next := some { level := level, reason := reason, unit := unit }, since := since } } }
  | none => s.takeReset level reason unit

/-- A fault that a higher level takes: its ESCALATION record, and for CHIP and TRAY the dump (R382). -/
def State.escalate (s : State) (unit action : Nat) (cab : Option Nat) : State :=
  let e : FaultEv := { unit := unit, cls := 0x09, action := action, cab := cab }
  let rcd := faultRecord s e s.rcv.faults (ringSlot s.rcv.faults (s.rfld rFltCfg 12 8)).2
  let s := (s.faultEvent e).bump rRcvStat 15 8
  if action = 4 ∨ action = 5 then
    let s := if action = 5 then s.abortAll 3 else s
    if s.rfld rChestCfg 0 0 = 1 then
      match s.startDump (if action = 4 then 2 else 3) unit rcd (some { level := action, reason := 2, unit := unit }) with
      | (true, s) => s
      | (false, s) => s.afterDump action 2 unit
    else s.afterDump action 2 unit
  else s

/-! ### Suspects (R386) -/

/-- The segment an engine carries: the one it waits with, else the next one of the channel that the event names. -/
def State.segsOn (s : State) (e : Nat) (chan : Option Nat) : List (Nat × Nat × Bool) :=
  let next (i : Nat) : Nat := if e < 64 then s.nextSeg i else match (s.chan i).staged with | g :: _ => g.k | [] => (s.chan i).low
  let on : List (Nat × Nat) := match s.jobOf e with
    | some j => [j]
    | none => chan.toList.map (fun i => (i, next i))
  (on.filter (fun x => (s.chan x.1).st == .run || (s.chan x.1).st == .draining)).map (fun x => (x.1, x.2, decide (e < 64)))

/-- Add interrupted work to the suspects, by context. -/
def addSuspect (l : List Suspect) (x : Suspect) : List Suspect :=
  if l.any (fun y => y.cab == x.cab && y.ctx == x.ctx) then
    updWhere (fun (y : Suspect) => y.cab == x.cab && y.ctx == x.ctx) (fun y =>
      { y with start := min y.start x.start, cmds := y.cmds ++ x.cmds, segs := y.segs ++ x.segs, dces := y.dces ++ x.dces }) l
  else l ++ [x]

def State.chanStart (s : State) (c : Chan) : Nat :=
  match c.cur with
  | some (d, q) => match s.flight c.cab d q with
    | some f => f.issuedAt
    | none => s.mono
  | none => s.mono

/-- The contexts with a non-DIRECT command, a MOVE segment or a DCE command on a unit, in the order of their starts. -/
def State.suspectsOn (s : State) (u : Nat) (chan : Option Nat) : List Suspect :=
  let found : List Suspect := match u / 256 with
    | 0xD =>
      let x := s.tile (u % 256)
      match x.cmd, x.cab with
      | some n, some cab => match s.cmd cab n with
        | some c => if c.direct then [] else [{ cab := cab, ctx := c.ctx, start := c.start, cmds := [n] }]
        | none => []
      | _, _ => []
    | 7 => (s.segsOn (u % 256) chan).map (fun g =>
        let c := s.chan g.1
        { cab := c.cab, ctx := c.ctx, start := s.chanStart c, segs := [g] })
    | 8 => (s.dce.cmds.filter (fun c => c.runs && !c.direct)).map (fun c =>
        { cab := c.cab, ctx := c.ctx, start := c.start, dces := [(c.drawer, c.seq)] })
    | _ => []
  sortBy (fun a b => decide (a.start < b.start)) (found.foldl addSuspect [])

/-- The cabinets whose work an ENGINE reset interrupts. -/
def State.touchedBy (s : State) (u : Nat) (chan : Option Nat) : List Nat :=
  let lives := (s.cabs.filter (fun e => e.2.st == .live)).map (·.1)
  let l : List Nat := match u / 256 with
    | 0xD => (s.tile (u % 256)).cab.toList
    | 7 => (s.segsOn (u % 256) chan).map (fun g => (s.chan g.1).cab)
    | 8 => (s.dce.cmds.filter DceCmd.runs).map (·.cab)
    | 6 => (s.ts.cmds.filter (fun c => c.live && !c.direct)).map (·.cab)
    | 4 => (s.cabs.filter (fun e => !(s.shadowHolders e.1).isEmpty)).map (·.1)
    | 5 => (s.sb.filter (fun e => e.2.st == .form || e.2.st == .run)).map (·.1)
    | 9 | 0xA | 0xB | 1 => lives
    | _ => []
  l.eraseDups

/-! ### HOLD: what a reset does to the unit's work (R375, R380) -/

/-- End a DIRECT command whose tile is reset; its other tiles stop through the kill handshake, which is no kill. -/
def State.stopDirect (s : State) (c : Cmd) (t st u : Nat) : State :=
  let others := c.tiles.filter (fun x => x != t)
  let s := others.foldl (fun s x => 
    (s.setTile x { s.tile x with killing := true, progress := s.mono, killAt := s.mono }).emit (.kill x)) s
  let c' := { c with phase := .killing others, fail := some (st, u) }
  let s := (s.updCmd c.cab c.n (fun _ => c')).dropReqsOf (.cmd c.cab c.n)
  if others = [] then s.finishKill c' else s

/-- A DIRECT command still waiting for its tiles to be cleared goes back to wait. -/
def State.unplace (s : State) (c : Cmd) : State :=
  (s.freeTiles c.tiles 0).updCmd c.cab c.n (fun x => { x with phase := .waiting, tiles := [] })

/-- The swaps and the resident state of a reset tile port are lost (R204). -/
def State.loseTile (s : State) (t : Nat) : State :=
  let u := uTile t
  let s := (s.ts.swaps.filter (fun w => w.tiles.contains t)).foldl (fun s w =>
    if w.load then loadFails w stTimeout u s else saveFails w stTimeout u s) s
  match (s.tile t).resident, (s.tile t).cab with
  | some c, some n =>
    if (s.ctx n c).st != .live then s
    else
      let s := (s.runningOf n c).foldl (fun (s : State) k =>
        let s := s.updCmd n k.n (fun x => { x with fail := some (x.fail.getD (stTimeout, u)) })
        match s.cmd n k.n with
        | some k => if k.direct then s.stopDirect k t stTimeout u else s.killCmd n k.n 8
        | none => s) s
      s.loseState n c stTimeout u
  | _, _ => s

/-- A tile port leaves its command. -/
def State.holdTile (s : State) (t st u cause : Nat) : State :=
  let x := s.tile t
  let s := match x.cmd, x.cab with
    | some n, some cab => match s.cmd cab n with
      | some c =>
        if c.direct then
          match c.phase with
          | .running => s.stopDirect c t st u
          | .clearing _ => s.unplace c
          | _ => s.ackKill t
        else ((s.updCmd cab n (fun c => { c with avoid := t :: c.avoid.filter (fun y => y != t) })).killCmd cab n cause).ackKill t
      | none => s
    | _, _ => s
  s.loseTile t

/-- A reset unit holds its traffic from now. -/
def State.holdTraffic (s : State) (u : Nat) : State :=
  { s with rcv := { s.rcv with heldFrom := s.rcv.heldFrom ++ [(u, s.mono)] } }

/-- Kill every running committing command of a cabinet, for a reset. -/
def State.killAll (s : State) (n : Nat) : State :=
  (s.ts.cmds.filter (fun c => c.cab == n && !c.direct)).foldl (fun s c => s.killCmd n c.n 8) s

def State.holdUnit (s : State) (u cls : Nat) (chan : Option Nat) : State :=
  let st := classStatus cls
  match u / 256 with
  | 0xD => s.holdTile (u % 256) st u (if cls = 4 ∨ cls = 5 then 6 else 8)
  | 7 =>
    let e := u % 256
    let av := (s.segsOn e chan).map (fun g => (g.1, e))
    { s with tu := { s.tu with reqs := s.tu.reqs.filter (fun r => r.src != .me e) },
             me := { s.me with avoid := s.me.avoid.filter (fun a => !av.contains a) ++ av,
                               jobs := s.me.jobs.filter (fun j => j.1 != e) } }
  | 8 => (s.resetDce st u).resetTables st u
  | 5 => (List.range 256).foldl (fun s n => s.discardStep n) s
  | 6 => (s.cabs.map (·.1)).foldl (fun s n => s.killAll n) s
  | 9 | 1 => s.holdTraffic u
  | 0xA => (s.holdTraffic u).holdPort (u % 256)
  | 0xB => (List.range 48).foldl (fun s p => s.holdPort p) (s.holdTraffic u)
  | _ => s

/-! ### An ENGINE reset begins -/

/-- PHASE of RCV_EPVIEW. -/
def UnitPhase.code : UnitPhase → Nat
  | .service => 0 | .hold => 1 | .reset => 2 | .resync => 3 | .search => 4 | .retired => 5

/-- Enter a phase, with its RESET trace event (R457). -/
def State.enterPhase (s : State) (u : Nat) (p : UnitPhase) : State :=
  let s := s.setUnitSt u { s.unitSt u with phase := p }
  s.trace 0x07 u none none p.code (s.unitSt u).epoch

def State.beginReset (s : State) (u cls : Nat) (chan : Option Nat) (wait : List Suspect) : State :=
  let touched := s.touchedBy u chan
  let v := s.unitSt u
  let s := s.setUnitSt u { v with cls := cls, began := s.mono, resets := s.mono :: v.resets, wait := wait, failed := false }
  let s := (s.bump rRcvStat 63 48).enterPhase u .hold
  let s := if u / 256 = 0xD then s.bump rTsGstat 47 32 else s
  let s := touched.foldl (fun s n => s.countReset n) s
  let s := s.holdUnit u cls chan
  wait.foldl (fun s x => s.holdSuspect x true) s

/-- A tile port is RETIRED (R383). -/
def State.retire (s : State) (t : Nat) : State :=
  if (s.tile t).retired then s
  else
    let s := (s.setTile t { s.tile t with retired := true }).bump rRcvStat 7 0
    s.setReg (rRetired (t / 64)) (s.reg (rRetired (t / 64)) ||| BitVec.ofNat 64 (2 ^ (t % 64)))

/-- Resets of a unit within ESC_WINDOW_MS, this one included, reach ESC_COUNT (R382). -/
def State.repeated (s : State) (u : Nat) : Bool :=
  let c := s.reg rRcvCfg
  let old := (s.unitSt u).resets.filter (fun t => decide (s.mono < t + fld c 55 44 * 1000000))
  decide (max 1 (fld c 63 56) ≤ old.length + 1)

/-- The search that a fault of class HANG or TILE_ERROR on this unit recurs in, with its head (R386 item 5). -/
def State.recurs (s : State) (u cls : Nat) (chan : Option Nat) : Option (Nat × Suspect) :=
  if cls ≠ 4 ∧ cls ≠ 5 then none
  else
    let on (x : Suspect) : Bool := match u / 256 with
      | 0xD => (s.tile (u % 256)).cab == some x.cab && x.cmds.any (fun n => (s.tile (u % 256)).cmd == some n)
      | 7 => (s.segsOn (u % 256) chan).any (fun g => (s.chan g.1).cab == x.cab && x.segs.any (fun h => h.1 == g.1))
      | 8 => x.dces.any (fun d => match s.dceCmd x.cab d.1 d.2 with | some c => c.runs | none => false)
      | _ => false
    s.rcv.searches.findSome? (fun r => match r.left with
      | x :: _ => if r.unit / 256 = u / 256 ∧ on x then some (r.unit, x) else none
      | [] => none)

/-- The replayed work that met the recurrence ends with GUILTY; answers its descriptor. -/
def State.endCulprit (s : State) (u : Nat) (chan : Option Nat) (x : Suspect) : Option (Nat × Nat) × State :=
  match u / 256 with
  | 0xD =>
    match (s.tile (u % 256)).cmd with
    | some n => match s.cmd x.cab n with
      | some c =>
        (c.desc, ((s.updCmd x.cab n (fun c => { c with fail := some (stGuilty, u) })).killCmd x.cab n 6).ackKill (u % 256))
      | none => (none, s)
    | none => (none, s)
  | 7 =>
    match (s.segsOn (u % 256) chan).find? (fun g => x.segs.any (fun h => h.1 == g.1)) with
    | some g => ((s.chan g.1).cur, s.endTransfer g.1 { status := stGuilty, unit := some u })
    | none => (none, s)
  | _ =>
    match x.dces.findSome? (fun d => match s.dceCmd x.cab d.1 d.2 with
        | some c => if c.runs then some c else none
        | none => none) with
    | some c => (some (c.drawer, c.seq), (s.discardPeers c none).endDce c { status := stGuilty, unit := some u })
    | none => (none, s)

/-- A verdict: GUILTY (R386 item 6, R387). -/
def State.findGuilty (s : State) (su u : Nat) (chan : Option Nat) (x : Suspect) : State :=
  let n := match s.rcv.searches.find? (fun r => r.unit == su) with | some r => r.left.length | none => 0
  let r := s.endCulprit u chan x
  let s := (r.2.verdict u 1 stGuilty n x r.1).bump rRcvStat 31 16
  let s := s.endSearch su
  (s.beginTeardown x.cab x.ctx false (some (u, (r.1.map (·.2)).getD (2 ^ 48 - 1)))).countReset x.cab

/-- The context or cabinet a fault record names: the suspects' cabinet when they share one, or the tile's. -/
def faultCab (s : State) (u : Nat) (sus : List Suspect) : Option Nat :=
  match sus with
  | x :: r => if r.all (fun y => y.cab == x.cab) then some x.cab else none
  | [] => if u / 256 = 0xD then (s.tile (u % 256)).cab else none

/-- A fault event that asks for an ENGINE reset (R370, R374, R382, R386). `chan` is the segment's channel on an engine. -/
def State.engineFault (s : State) (u cls : Nat) (chan : Option Nat) : State :=
  let sus := s.suspectsOn u chan
  let search := (cls == 4 || cls == 5) && (u / 256 == 0xD || u / 256 == 7 || u / 256 == 8)
  let v := s.unitSt u
  let add := match v.phase with | .resync => 0 | _ => 1
  let one := match sus with | [x] => if search then some x.ctx else none | _ => none
  let e : FaultEv := { unit := u, cls := cls, action := 2, cab := faultCab s u sus, ctx := one,
                       suspects := if search then sus.length else 0, add := add,
                       detail := if cls = 4 then s.hangUs u else 0 }
  if u = uPlinth then (s.faultEvent { e with action := 5, add := 0 }).escalate uPlinth 5 none
  else if s.resetting u then s.faultEvent e
  else
    let s := s.faultEvent e
    let r := s.recurs u cls chan
    let s := match r with
      | some (su, x) => s.findGuilty su u chan x
      | none => s
    let wait := if search && r.isNone then sus else []
    if s.repeated u then
      if u / 256 = 0xD then ((s.escalate u 6 (s.tile (u % 256)).cab).retire (u % 256)).beginReset u cls chan wait
      else s.escalate u 4 none
    else s.beginReset u cls chan wait

/-- A fault event of a unit, deferred while a global stop is under way (R463). -/
def State.faultOn (s : State) (u cls : Nat) (chan : Option Nat) : State :=
  if s.ou.stop != .idle then { s with rcv := { s.rcv with deferred := s.rcv.deferred ++ [(u, cls, chan)] } }
  else s.engineFault u cls chan

/-- The deferred fault events are taken at the resume. -/
def State.takeDeferred (s : State) : State :=
  let l := s.rcv.deferred
  l.foldl (fun s d => s.engineFault d.1 d.2.1 d.2.2) { s with rcv := { s.rcv with deferred := [] } }

/-- A tile's command, clear, kill or swap has made no progress for TILE_US; of the other units the detecting timer says
so (R371). -/
def State.hangSeen (s : State) (u : Nat) : Bool :=
  if u / 256 = 0xD then
    let x := s.tile (u % 256)
    (x.cmd.isSome || x.clearing || x.busy) && decide (x.progress + s.hangUs u * 1000 ≤ s.mono)
  else true

def hangDetected (u : Nat) (chan : Option Nat) (s : State) : State :=
  if s.unitExists u && s.hangSeen u then s.faultOn u 4 chan else s

/-- A unit is hung (R371). -/
def execHangDetected (unit : UnitId) (chan : Option ChanId) (s : State) : Host.Outcome State Fault Refusal :=
  .next (if s.frozen && s.ou.stop == .idle then s else hangDetected unit.val (chan.map (·.val)) s)

/-- What the failed arrays of a unit held: counters of the Observation Unit that read 0 (R468), metadata-cache entries of
a stack gate (R339), numbered as the cache lists them. -/
def State.loseArrays (s : State) (u : Nat) (lost : List Nat) : State :=
  if u = uOu then lost.foldl (fun s k => if k < 64 then s.setReg (rCtr k) 0 else s) s
  else if u / 256 = 9 then
    let mine := s.mix.cache.filter (fun e => e.gate == u % 256)
    let hit := (mine.zipIdx.filter (fun e => lost.contains e.2)).map (·.1)
    { s with mix := { s.mix with cache := updWhere (fun e => hit.contains e) (fun e => { e with bad := true }) s.mix.cache } }
  else s

/-- An SRAM array of a unit has an uncorrectable error; `lost` numbers the entries whose storage fails its check. -/
def execSramError (unit : UnitId) (lost : List Nat) (s : State) : Host.Outcome State Fault Refusal :=
  .next (if s.coreUp && s.unitExists unit.val then (s.loseArrays unit.val lost).faultOn unit.val 3 none else s)

/-! ### The phases of an ENGINE reset (R380, R390) -/

/-- HOLD ends: the unit's logic is reset. -/
def holdDone (u : Nat) (s : State) : State := if (s.unitSt u).phase == .hold then s.enterPhase u .reset else s

def execEngineResetHoldDone (unit : UnitId) (s : State) : Host.Outcome State Fault Refusal :=
  .next (if s.frozen then s else holdDone unit.val s)

/-- The Translation Unit's return: its caches are empty, requests translate afresh under new numbers, and fault records not
yet written are raised again under the counts that follow PRODUCED (R155). -/
def State.resyncTu (s : State) : State :=
  let s := s.cabs.foldl (fun (s : State) e =>
    let s := (s.shadowHolders e.1).foldl (fun (s : State) c => s.killCmd e.1 c.n 8) s
    (s.dceHolders e.1).foldl (fun (s : State) c => s.killDce c 8) s) s
  let s := (s.tu.reqs.filter (fun r => r.missing)).foldl (fun (s : State) r => match r.src with
    | .tile .. => (s.dropReq r.id).addReq { r with phase := .miss false, since := s.mono }
    | _ => s.dropReq r.id) s
  let unwritten (cab : Nat) : Nat := (s.tu.faults.filter (fun r => r.cab == cab && !r.written)).length
  { s with tu := { s.tu with
      look := [], walkc := [], dirc := [], walks := [], faults := [],
      fq := (s.tu.fq.map (fun e => (e.1, e.2 - unwritten e.1))).filter (fun e => e.2 != 0) } }

/-- The Latch Unit's return: every latch is read and evaluated (R114). -/
def State.resyncLatches (s : State) : State :=
  ((s.lat.latches.filter (fun e => e.2.st != .free)).map (·.1)).foldl (fun (s : State) n => s.evalLatch n) s

/-- A dropped cache entry raises the quarantine entry of what it held (R335, R339). -/
def State.raiseMeta (s : State) (g : Nat) : MetaKey → State
  | .line l => match s.cabAt (l * 2048) with
    | some n => s.raiseQuar g { cab := n, slot := (s.cab n).conf.slotOf (l * 2048), level := 0, first := l * 2048 / 8192 * 8192,
                                span := 1 }
    | none => s
  | .node n k l i => match (s.cab n).conf.rangeAt k with
    | some r =>
      let first := r.1 + i * (8192 * 8 ^ l)
      s.raiseQuar g { cab := n, slot := k, level := l, first := first, span := min (8 ^ l) ((r.1 + r.2 - first) / 8192) }
    | none => s

/-- A stack gate's return: entries that fail their check are dropped and quarantined, dirty ones are written back (R339). -/
def State.resyncGate (s : State) (g : Nat) : State :=
  let bad := s.mix.cache.filter (fun e => e.gate == g && e.bad)
  let s := { s with mix := { s.mix with cache := s.mix.cache.filter (fun e => !(e.gate == g && e.bad)) } }
  let s := bad.foldl (fun (s : State) e => (s.bump rMixGstat 15 0).raiseMeta g e.key) s
  s.flushCache (fun e => e.gate == g)

/-- RESET ends: the unit's epoch rises, it is presented, and the unit resynchronises as its chapter says. -/
def logicDone (u : Nat) (s : State) : State :=
  let v := s.unitSt u
  if v.phase == .reset then
    let s := (s.setUnitSt u { v with epoch := (v.epoch + 1) % 2 ^ 32 }).enterPhase u .resync
    match u / 256 with
    | 3 => s.resyncLatches
    | 4 => s.resyncTu
    | 9 => s.resyncGate (u % 256)
    | 0xC => { s with ou := { s.ou with resync := true } }
    | _ => s
  else s

def execEngineResetLogicDone (unit : UnitId) (s : State) : Host.Outcome State Fault Refusal :=
  .next (if s.frozen then s else logicDone unit.val s)

/-- Held traffic resumes. Held time is charged to every LIVE cabinet once the last held unit is released; overlapping
holds count once (R45, R381). Pace restarts (R316). -/
def State.releaseTraffic (s : State) (u : Nat) : State :=
  if s.rcv.heldFrom.any (fun h => h.1 == u) then
    let t0 := s.rcv.heldFrom.foldl (fun m h => min m h.2) s.mono
    let rest := (s.rcv.heldFrom.filter (fun h => h.1 != u)).map (fun h => (h.1, t0))
    let s := if rest = [] then s.chargeHold s.mono else s
    let s := { s with rcv := { s.rcv with heldFrom := rest } }
    if u / 256 = 9 then
      s.setGate (u % 256) { s.gate (u % 256) with pace := [], waits := [], paused := true, held := true }
    else if u / 256 = 0xB then { s with fr := { s.fr with tx := [], pace := [], held := true } }
    else s
  else s

/-- Ports that no reset holds any longer deliver and send again. -/
def State.freePorts (s : State) : State :=
  ((List.range 48).filter (fun p => (s.port p).st == .held && !s.resetting (uPort p) && !s.resetting uRouter)).foldl
    (fun s p => s.releasePort p) s

/-- A request of RST_CMD that waits ends. -/
def State.endRst (s : State) (w : RstWait) : State :=
  if s.rcv.wait == w && w != .none then { s with rcv := { s.rcv with wait := .none } }.result rRstResult errNone 0 else s

/-- The scoreboard is rebuilt from the tile ports: a tile whose state is not confirmed is cleared, and the context resident on it
enters LOST (R211). Whether a tile that runs nothing is confirmed is open (log 95). -/
def State.confirmTiles (s : State) (ts : List Nat) : State :=
  let f := s.free
  ts.foldl (fun (s : State) t =>
    let x := s.tile t
    if Config.freeByte (f + t) = 0 || x.cmd.isSome || x.clearing || s.ts.swaps.any (fun w => w.tiles.contains t) then s
    else match x.resident, x.cab with
      | some c, some n => s.loseState n c stTimeout (uTile t)
      | _, _ => s.clearTile t) { s with free := f + 256 }

/-- RELEASE: the unit returns to service, held traffic resumes, a tile port receives its tables again, a search begins its
replays (R282, R380, R386). -/
def resyncDone (u : Nat) (s : State) : State :=
  let v := s.unitSt u
  if v.phase == .resync then
    let retired := u / 256 == 0xD && (s.tile (u % 256)).retired
    let s := s.enterPhase u (if retired then .retired else if v.wait = [] && !s.rcv.searches.any (fun r => r.unit == u) then .service else .search)
    let s := (s.releaseTraffic u).freePorts
    let s := if u / 256 = 0xD && (s.tile (u % 256)).clearing then s.emit (.clear (u % 256)) else s
    let s := if u / 256 = 0xD && !retired then s.retable (u % 256) else s
    let s := if u = uTs then s.confirmTiles ((List.range 256).filter (fun t => (s.tile t).cab.isSome)) else s
    let s := s.startSearch u v.wait
    (if retired then s.setUnitSt u { s.unitSt u with phase := .retired } else s).endRst (.engine u)
  else s

/-- The head suspect's replay is complete (R386 item 4). -/
def replayComplete (u : Nat) (s : State) : State :=
  match s.rcv.searches.find? (fun r => r.unit == u) with
  | some r => match r.left with
    | x :: _ => if s.replayDone x && !s.resetting u then s.clearHead u else s
    | [] => s
  | none => s

def execSearchReplayComplete (unit : UnitId) (s : State) : Host.Outcome State Fault Refusal :=
  .next (if s.frozen then s else replayComplete unit.val s)

/-- The head suspect has run SEARCH_US without a recurrence (R386 item 4). -/
def searchTimer (u : Nat) (s : State) : State :=
  match s.rcv.searches.find? (fun r => r.unit == u) with
  | some r =>
    if r.began + max 1 (s.rfld rRcvCfg 43 32) * 1000 ≤ s.mono && !s.resetting u then s.clearHead u else s
  | none => s

def execSearchClearTimer (unit : UnitId) (s : State) : Host.Outcome State Fault Refusal :=
  .next (if s.frozen then s else searchTimer unit.val s)

/-! ### CABINET reset (R391) -/

/-- It waits while BUSY is 1, and while a context of the cabinet is torn down. -/
def State.cabResetWaits (s : State) (n : Nat) : Bool :=
  (s.cab n).work != .none || s.drw.ctxs.any (fun e => e.1 / 16384 == n && e.2.st == .dying)

/-- MOVEs and direct transfers of a cabinet are cancelled; its named channels are FREE (R238). -/
def State.cancelMoves (s : State) (n : Nat) : State :=
  let waits := s.me.waits.filter (fun w => w.1 == n)
  let s := { s with me := { s.me with waits := s.me.waits.filter (fun w => w.1 != n) } }
  let s := waits.foldl (fun (s : State) w => s.endFlight w.1 w.2.1 w.2.2 abandoned) s
  let is := (s.me.chans.filter (fun e => e.2.cab == n && e.2.st != .free)).map (·.1)
  is.foldl (fun (s : State) i =>
    let anon := (s.chan i).anon
    let s := (s.chan i).destroys.foldl (fun (s : State) d => s.endFlight n d.1 d.2 { status := stDone }) s
    let s := s.abortChan i abandoned
    if anon then s else s.releaseChan i) s

/-- Steps 1 to 3. -/
def State.runCabReset (s : State) (n : Nat) : State :=
  let s := (s.bump rRcvStat 47 32).leaveSearch (fun x => x.cab == n)
  let s := s.dropEntries (fun e => e.cab.isNone || e.cab == some n)
  let s := if s.jobValid n then s.abortJob n 1 else s.abortDce n
  let s := ((s.discardStep n).killAll n).cancelMoves n
  let l := updWhere (fun (r : CabReset) => r.cab == n) (fun r => { r with began := some s.mono }) s.rcv.cabResets
  { s with rcv := { s.rcv with cabResets := l } }

/-- A CABINET reset is asked for: it joins one under way, or begins once nothing holds it back. -/
def State.startCabReset (s : State) (n : Nat) : State :=
  if s.rcv.cabResets.any (fun r => r.cab == n) then s
  else
    let s := { s with rcv := { s.rcv with cabResets := s.rcv.cabResets ++ [{ cab := n, began := none }] } }
    if s.cabResetWaits n then s else s.runCabReset n

/-- Steps 4 to 6: no command of the cabinet is left on its tiles. -/
def cabResetDone (n : Nat) (s : State) : State :=
  match s.rcv.cabResets.find? (fun r => r.cab == n) with
  | some r =>
    match r.began with
    | none =>
      if s.cabResetWaits n then s
      else if (s.cab n).st == .live then s.runCabReset n
      else { s with rcv := { s.rcv with cabResets := s.rcv.cabResets.filter (fun r => r.cab != n) } }.endRst (.cabinet n)
    | some _ =>
      if s.ts.cmds.any (fun c => c.cab == n && c.onTiles) then s
      else
        let ep := mapSet 1 n ((mapGet 1 n s.rcv.cabEp + 1) % 2 ^ 32) s.rcv.cabEp
        let s := { s with rcv := { s.rcv with cabEp := ep, cabResets := s.rcv.cabResets.filter (fun r => r.cab != n) } }
        ((s.confirmTiles (s.tilesOf n)).countReset n).endRst (.cabinet n)
  | none => s

def execCabinetResetComplete (cab : CabId) (s : State) : Host.Outcome State Fault Refusal :=
  .next (if s.frozen then s else cabResetDone cab.val s)

/-- A DIRECT command still runs 1 ms after the reset began: its tile ports are reset as hung. -/
def cabDirectLimit (n : Nat) (s : State) : State :=
  if s.rcv.cabResets.any (fun r => r.cab == n && r.began.any (fun t => decide (t + 1000000 ≤ s.mono))) then
    let ts := (s.ts.cmds.filter (fun c => c.cab == n && c.direct && c.onTiles)).flatMap (·.tiles)
    ts.foldl (fun s t => s.faultOn (uTile t) 4 none) s
  else s

def execCabinetResetDirectLimit (cab : CabId) (s : State) : Host.Outcome State Fault Refusal :=
  .next (if s.frozen then s else cabDirectLimit cab.val s)

/-- A CABINET reset misses its 2 ms: CHIP reset. -/
def execCabinetResetLimitMiss (cab : CabId) (s : State) : Host.Outcome State Fault Refusal :=
  .next (if s.frozen then s
    else if s.rcv.cabResets.any (fun r => r.cab == cab.val && r.began.any (fun t => decide (t + 2000000 ≤ s.mono))) then
      s.escalate uPlinth 4 (some cab.val)
    else s)

/-- Limits of HOLD, RESET and RESYNC from detection, in ns (R380). -/
def UnitPhase.limit : UnitPhase → Nat
  | .hold => 10000 | .reset => 250000 | .resync => 440000 | _ => 0

/-- A phase misses its limit: a tile port is RETIRED and its cabinet reset; any other unit takes a CHIP reset (R382). -/
def resetLimit (u : Nat) (s : State) : State :=
  let v := s.unitSt u
  if s.resetting u && decide (v.began + v.phase.limit ≤ s.mono) then
    if u / 256 = 0xD then
      let n := (s.tile (u % 256)).cab
      let s := ((s.escalate u 3 n).retire (u % 256)).enterPhase u .retired
      let s := v.wait.foldl (fun (s : State) x => s.holdSuspect x false) (s.setUnitSt u { s.unitSt u with wait := [], failed := true })
      match n with
      | some n =>
        let s := if s.rcv.wait == .engine u then { s with rcv := { s.rcv with wait := .cabinet n } } else s
        s.startCabReset n
      | none => s.endRst (.engine u)
    else s.escalate u 4 none
  else s

def execEngineResetLimitMiss (unit : UnitId) (s : State) : Host.Outcome State Fault Refusal :=
  .next (if s.frozen then s else resetLimit unit.val s)

/-! ### CONTEXT reset (R377, R379) -/

def contextResetDone (n c : Nat) (s : State) : State :=
  let x := s.ctx n c
  if x.resetting && s.contextClear n c then (s.setCtx n c { x with resetting := false }).endRst (.context n c) else s

def execContextResetComplete (cab : CabId) (ctx : CtxId) (s : State) : Host.Outcome State Fault Refusal :=
  .next (if s.frozen then s else contextResetDone cab.val ctx.val s)

/-- A CONTEXT reset or teardown misses its limit: CABINET reset (R382). -/
def contextLimit (n c : Nat) (s : State) : State :=
  let x := s.ctx n c
  let direct := s.ts.cmds.any (fun k => k.cab == n && k.ctx == c && k.direct && k.onTiles) ||
    s.dce.cmds.any (fun k => k.cab == n && k.ctx == c && k.direct)
  if (x.resetting || x.st == .dying) && !direct && decide (x.since + 100000 ≤ s.mono) then
    let s := s.escalate uPlinth 3 (some n)
    let s := if s.rcv.wait == .context n c then { s with rcv := { s.rcv with wait := .cabinet n } } else s
    s.startCabReset n
  else s

def execContextResetLimitMiss (cab : CabId) (ctx : CtxId) (s : State) : Host.Outcome State Fault Refusal :=
  .next (if s.frozen then s else contextLimit cab.val ctx.val s)

/-! ### RST_CMD (R374, R397, R398) -/

/-- A REQUEST record. -/
def State.requested (s : State) (u action : Nat) (cab ctx : Option Nat) : State :=
  s.faultEvent { unit := u, cls := 0x0A, action := action, cab := cab, ctx := ctx }

def State.rstWait (s : State) (w : RstWait) : State := { s with rcv := { s.rcv with wait := w } }
def State.rstEnd (s : State) (err : Nat) : State := s.result rRstResult err 0

def rstContext (s : State) : State :=
  let a := s.reg rRstArg
  let n := fld a 23 16
  let c := fld a 45 32
  let x := s.ctx n c
  if s.ou.stop != .idle then s.rstEnd errState
  else match x.st with
    | .free => s.rstEnd errNoCtx
    | .dying => s.rstEnd errState
    | .live =>
      let s := s.requested uPlinth 1 (some n) (some c)
      if s.rcv.cabResets.any (fun r => r.cab == n) then s.rstWait (.cabinet n)
      else if x.resetting then s.rstWait (.context n c)
      else ((s.countReset n).resetContext n c).rstWait (.context n c)

def rstEngine (s : State) : State :=
  let u := s.rfld rRstArg 11 0
  if !s.unitExists u || u == uPlinth then s.rstEnd errArg
  else if s.ou.stop != .idle then s.rstEnd errState
  else (s.rstWait (.engine u)).engineFault u 0x0A none

def rstCabinet (s : State) : State :=
  let n := s.rfld rRstArg 23 16
  let c := s.cab n
  if s.ou.stop != .idle || (c.st != .live && c.work == .none) then s.rstEnd errState
  else ((s.requested uPlinth 3 (some n) none).rstWait (.cabinet n)).startCabReset n

def rstChip (s : State) : State := (s.requested uPlinth 4 none none).afterDump 4 3 uPlinth
def rstTray (s : State) : State := ((s.requested uPlinth 5 none none).abortAll 3).afterDump 5 3 uPlinth

def rstDump (s : State) : State :=
  match (s.requested uPlinth 0 none none).startDump 1 uPlinth (List.replicate 64 0) none with
  | (true, s) => s.rstWait .dump
  | (false, s) => s.rstEnd errNone

/-- A tile port leaves RETIRED, and its escalation count is cleared (R383); its tables are delivered again before its next
placement (R282, R293). -/
def rstUnretire (s : State) : State :=
  let u := s.rfld rRstArg 11 0
  let t := u % 256
  if u / 256 ≠ 0xD ∨ s.unitExists u = false then s.rstEnd errArg
  else
    let v := s.unitSt u
    let s := s.setUnitSt u { v with resets := [], phase := if v.phase == .retired then .service else v.phase }
    let s := if (s.tile t).retired then (s.setTile t { s.tile t with retired := false }).retable t else s
    (s.setReg (rRetired (t / 64)) (s.reg (rRetired (t / 64)) &&& ~~~(BitVec.ofNat 64 (2 ^ (t % 64))))).rstEnd errNone

/-- A command of RST_CMD: ignored with OVERRUN while READY is 0, and refused outside block RUN (R419, log 167). Once a
life-cycle transition is accepted, a reset is refused with reason RESET (R440). -/
def State.rstCommand (s : State) (f : State → State) : State :=
  match s.accept rRstResult with
  | some s =>
    if s.lc.job.isSome then s.result rRstResult errState (4 * 65536)
    else if s.pln.power != 0 then s.result rRstResult errState 0
    else f s
  | none => s.overrun rRstResult

/-- A write of RST_CMD by its OP. -/
def State.rstCmd (s : State) (op : Nat) : State :=
  match op with
  | 0 => nopCommand rRstResult s
  | 1 => s.rstCommand rstContext
  | 2 => s.rstCommand rstEngine
  | 3 => s.rstCommand rstCabinet
  | 4 => s.rstCommand rstChip
  | 5 => s.rstCommand rstTray
  | 6 => s.rstCommand rstDump
  | 7 => s.rstCommand rstUnretire
  | _ => s.rstCommand (fun s => s.rstEnd errArg)

def execRstNop (func : Func) (s : State) : Host.Outcome State Fault Refusal := .next (s.platform func.val 0x1000 (some (cmdWord 0)) fun s => s.rstCmd 0)
def execRstContext (func : Func) (s : State) : Host.Outcome State Fault Refusal := .next (s.platform func.val 0x1000 (some (cmdWord 1)) fun s => s.rstCmd 1)
def execRstEngine (func : Func) (s : State) : Host.Outcome State Fault Refusal := .next (s.platform func.val 0x1000 (some (cmdWord 2)) fun s => s.rstCmd 2)
def execRstCabinet (func : Func) (s : State) : Host.Outcome State Fault Refusal := .next (s.platform func.val 0x1000 (some (cmdWord 3)) fun s => s.rstCmd 3)
def execRstChip (func : Func) (s : State) : Host.Outcome State Fault Refusal := .next (s.platform func.val 0x1000 (some (cmdWord 4)) fun s => s.rstCmd 4)
def execRstTray (func : Func) (s : State) : Host.Outcome State Fault Refusal := .next (s.platform func.val 0x1000 (some (cmdWord 5)) fun s => s.rstCmd 5)
def execRstDump (func : Func) (s : State) : Host.Outcome State Fault Refusal := .next (s.platform func.val 0x1000 (some (cmdWord 6)) fun s => s.rstCmd 6)
def execRstUnretire (func : Func) (s : State) : Host.Outcome State Fault Refusal := .next (s.platform func.val 0x1000 (some (cmdWord 7)) fun s => s.rstCmd 7)

/-! ### The fault ring's configuration (R372, R398) -/

/-- A device range lies in reserved memory outside every block region. -/
def State.reservedSpan (s : State) (p n : Nat) : Bool :=
  decide (p + n ≤ s.installed) && !s.meetsBlock p n &&
  !s.cabs.any (fun e => e.2.holds && spansMeet e.2.conf.spans [(p, n)])

def State.fltReady (s : State) (cfg : Word) : Bool :=
  let log2 := fld cfg 12 8
  let base := (s.reg rFltBase).toNat
  let note := (s.reg rFltNotify).toNat
  decide (4 ≤ log2) && decide (log2 ≤ 16) && base % 64 == 0 && note % 8 == 0 &&
  (fld cfg 1 1 == 1 || s.reservedSpan base (2 ^ log2 * 64)) && (note == 0 || fld cfg 2 2 == 1 || s.reservedSpan note 8)

/-- A write of FLT_CFG: setting EN clears the counts; a configuration that R372 does not allow leaves EN 0. -/
def State.fltWrite (s : State) (v : Word) : State :=
  let old := s.rfld rFltCfg 0 0
  let w := pack [(8, fld v 12 8), (2, fld v 2 2), (1, fld v 1 1)]
  if fld v 0 0 = 0 then s.setReg rFltCfg w
  else if !s.fltReady w then s.setReg rFltCfg w
  else if old = 1 then s.setReg rFltCfg (setFld w 0 0 1)
  else
    { (s.setReg rFltCfg (setFld w 0 0 1)).setReg rFltStat 0 with rcv := { s.rcv with faults := 0 } }

/-- The platform writes FLT_CFG with EN 1. -/
def execFltEnable (func : Func) (value : Word) (s : State) : Host.Outcome State Fault Refusal :=
  .next (s.platform func.val rFltCfg (some (setFld value 0 0 1)) fun s => s.fltWrite (setFld value 0 0 1))

/-! ### The Plinth's watchdog (R384) -/

/-- No sign of life from the sequencer for 100 ms: the watchdog asks for a power cycle. -/
def execPlinthWatchdogExpiry (s : State) : Host.Outcome State Fault Refusal :=
  .next (if s.pln.phase == .por then s else s.powerCycle 1 uPlinth)

end Sys2Proof.Machine
end

