-- ==== Sys2Proof/WellFormed.lean ====
section
/-! DEFINITION. Which operand values a port of the block can carry. -/
namespace Sys2Proof

/-- `tp_rd_addr` has 57 bits and `tp_rd_len` gives 1 to 128 bytes (R478). -/
def tileReadWf (va len : Nat) : Bool := decide (va < 2 ^ 57) && decide (1 ≤ len) && decide (len ≤ 128)

/-- `tp_wr_addr` is a line address of 57 bits; the mask and the data cover the line's 128 bytes (R478). -/
def tileWriteWf (va : Nat) (mask : List Bool) (data : List Byte) : Bool :=
  decide (va < 2 ^ 57) && va % 128 == 0 && mask.length == 128 && data.length == 128

/-- A master that exists: numbers 0x102 to 0x1FF are never used (R294). -/
def Master.wf : Master → Bool
  | .cab n => decide (n < 256)
  | _ => true

/-- A request of a gate's queue is of a master that exists and lies within one line; a write carries as many bytes as it
asks for (R294, R296, R481). -/
def gateReqWf (m : Master) (addr len : Nat) (data : Option (List Byte)) : Bool :=
  m.wf && decide (1 ≤ len) && decide (addr % 128 + len ≤ 128) && data.all (fun bs => bs.length == len)

/-- The well-formed commands. -/
def Instr.wf : Instr → Bool
  | .tileReadRequest _ va len _ _ => tileReadWf va len
  | .tileWriteRequest _ va mask data _ _ => tileWriteWf va mask data
  | .stackGateRequest _ m _ _ addr len data => gateReqWf m addr len data
  | _ => true

end Sys2Proof
end

