-- ==== Sys2Proof/Machine/Gates.lean ====
section
/-! DEFINITION. The stack gates: their queues, grants and responses (R296, R297, R306 to R310, R323, R481), the urgency
wires (R302 to R305), the intervals of R48 and R298, and the floors of R300. -/
namespace Sys2Proof.Machine

/-- F_m at a gate, by master number. -/
def State.gateFloor (s : State) (g n : Nat) : Nat :=
  if n < 256 then (s.cab n).memFloor else if n = 0x100 then (s.gate g).plat else if n = 0x101 then (s.gate g).obs else 0

/-! ### Urgency wires -/

/-- A wire's sampled level changes. -/
def wireChange (i : Nat) (level : Bool) (s : State) : State :=
  let lv := s.rfld rUrgStat 31 0
  let lv := if level then (lv ||| 2 ^ i) else lv - (lv &&& 2 ^ i)
  let s := s.setRfld rUrgStat 31 0 lv
  let old := mapGet none i s.urg.since
  let since := if level then some (old.getD s.mono) else none
  let dead := if level then s.urg.dead else s.urg.dead.filter (fun j => j != i)
  ({ s with urg := { s.urg with since := mapSet none i since s.urg.since, dead := dead } }).syncWires

/-- A change of an urgency wire is sampled and in force (R303). -/
def execUrgencyWireChange (wire : Fin 32) (level : Bool) (s : State) : Host.Outcome State Fault Refusal :=
  .next (if s.coreUp then wireChange wire.val level s else s)

/-- A wire has been in force for LIMIT_US: deasserted until it falls, and flagged (R304). -/
def wireStuck (i : Nat) (s : State) : State :=
  let limit := s.rfld rUrgCfg 15 0
  match mapGet none i s.urg.force with
  | some t =>
    if s.wireOn i && limit != 0 && decide (t + limit * 1000 ≤ s.mono) then
      let s := s.setRfld rUrgStat 63 32 (s.rfld rUrgStat 63 32 ||| 2 ^ i)
      ({ s with urg := { s.urg with dead := i :: s.urg.dead } }).syncWires
    else s
  | none => s

def execUrgencyStuck (wire : Fin 32) (s : State) : Host.Outcome State Fault Refusal :=
  .next (if s.frozen then s else wireStuck wire.val s)

/-! ### Entry to a gate's queue (R297, R323 checks 1 and 2) -/

/-- The gate answers its requester. -/
def State.gateAnswer (s : State) (g tag st : Nat) (bs : List Byte) : State := s.emit (.gateReply g tag st bs)

/-- In a global stop the gates serve only OBSERVE, and PLATFORM's reads of the observation shelf and the Chest (R462). -/
def State.stopServes (s : State) (m : Master) (p : Nat) (write : Bool) : Bool :=
  !s.ou.unitsStopped || (match m with
    | .observe => true
    | .platform => !write && (s.chest p || s.obsShelf p)
    | _ => false)

/-- The requests of a master that wait for a grant. -/
def SgUnit.waiting (v : SgUnit) (n : Nat) : List GateReq := v.reqs.filter (fun r => !r.sent && r.m.number == n)

def gateRequest (g : Nat) (m : Master) (unit : Nat) (ctx : Option Nat) (p len : Nat) (data : Option (List Byte)) (s : State) : State :=
  let v := s.gate g
  let q := s.place m p
  let n := m.number
  let w : Who := { m := m, unit := unit, ctx := ctx }
  let mine := v.reqs.filter (fun r => r.m.number == n)
  if s.installed < p + len || (s.gateOf q).1 != g || s.rfld (rSgQlim g) 8 0 ≤ mine.length then s
  else
    let tag := v.next
    let s := s.setGate g { v with next := (tag + 1) % 4096 }
    if !s.reach m p then (s.noteDenied g m data.isSome p).gateAnswer g tag stDenied []
    else if (match m with | .cab k => s.quarantined k q | _ => false) then
      let r := s.noteFail g w q .quarantined
      r.2.gateAnswer g tag r.1 []
    else
      let v := s.gate g
      let r : GateReq := { tag := tag, m := m, unit := unit, ctx := ctx, p := p, len := len, data := data, since := s.now }
      s.setGate g { v with reqs := v.reqs ++ [r] }

/-- A request enters a stack gate. One beyond SG_QLIM waits at its own source. -/
def execStackGateRequest (gate : GateId) (m : Master) (unit : UnitId) (ctx : Option CtxId) (addr len : Nat) (data : Option (List Byte))
    (s : State) : Host.Outcome State Fault Refusal :=
  if gateReqWf m addr len data then
    .next (if s.coreUp && decide (gate.val < s.gateCount) && !s.resetting (uGate gate.val) && s.stopServes m addr data.isSome then
      gateRequest gate.val m unit.val (ctx.map (·.val)) addr len data s else s)
  else .fault (.illFormed "STACK_GATE_REQUEST")

/-! ### Grants (R296) -/

/-- The request is an engine's (R214). -/
def GateReq.engine (r : GateReq) : Bool := r.unit / 256 == 7
/-- A line of which a partial write is at the controller waits for it, and one of a group under re-mix for its end. -/
def State.lineBusy (s : State) (v : SgUnit) (r : GateReq) : Bool :=
  let q := s.place r.m r.p
  s.mix.remix.contains (q / 8192) ||
  v.reqs.any (fun x => x.sent && x.q / 128 == q / 128 && x.data.isSome && decide (x.len < 128))

/-- The request is a tile's (R214). -/
def GateReq.tile (r : GateReq) : Bool := r.unit / 256 == 0xD

/-- A master's next request: in arrival order, but alternating between its tiles and its engines while the master is served
from its floor and the oldest line is one of theirs. -/
def SgUnit.head (v : SgUnit) (n : Nat) (alternate : Bool) : Option GateReq :=
  let l := v.waiting n
  let engine := mapGet false n v.last
  let turn := l.filter (fun r => r.engine != engine && (r.engine || r.tile))
  match l with
  | [] => none
  | r :: _ => if alternate && (r.engine || r.tile) && l.any (·.engine) && l.any (·.tile) then turn.head? else some r

/-- A master's pace at a cycle: whether it is behind, and when its next line is due. After a hold no one is until the next
interval (R316). -/
def State.due (s : State) (g : Nat) (v : SgUnit) (n k : Nat) : Option Nat :=
  let f := s.gateFloor g n
  let x := (mapGet none n v.pace).getD { k0 := k, g := 0 }
  if f = 0 || v.paused then none
  else if x.g < (f * (k + 1 - x.k0) + 127) / 128 then some (x.k0 + (128 * (x.g + 1) + f - 1) / f) else none

/-- The first of a list after `last`, round-robin by master number. -/
def nextRound (last : Nat) (l : List Nat) : Option Nat :=
  match l.find? (fun n => decide (last < n)) with
  | some n => some n
  | none => l.head?

/-- The master the next slot of cycle `k` goes to, and whether from the floor class. -/
def State.gatePick (s : State) (g k : Nat) : Option (Nat × Bool) :=
  let v := s.gate g
  let free (floor : Bool) (n : Nat) : Bool := match v.head n floor with
    | some r => !s.lineBusy v r && s.stopServes r.m r.p r.data.isSome
    | none => false
  let ms := (List.range 0x102).filter (fun n => v.waiting n != [])
  let behind := (ms.filter (free true)).filterMap (fun n => (s.due g v n k).map (fun d => (n, d)))
  let before (a b : Nat × Nat) : Bool :=
    decide (a.2 < b.2) || (a.2 == b.2 && s.urgent a.1 && !s.urgent b.1) ||
    (a.2 == b.2 && s.urgent a.1 == s.urgent b.1 && decide (a.1 < b.1))
  match sortBy before behind with
  | (n, _) :: _ => some (n, true)
  | [] =>
    let rest := ms.filter (free false)
    match nextRound v.rrUrg (rest.filter s.urgent) with
    | some n => some (n, false)
    | none => (nextRound v.rr (rest.filter (fun n => !s.urgent n))).map (fun n => (n, false))

/-- Carry out a granted request: what it reads is what the gate will answer; a write takes effect at once. -/
def State.gateServe (s : State) (r : GateReq) : GateReq × State :=
  let q := s.place r.m r.p
  let w : Who := { m := r.m, unit := r.unit, ctx := r.ctx }
  match r.data with
  | none =>
    match s.readLine w r.p r.len with
    | (.ok bs, s) => ({ r with sent := true, q := q, res := (stDone, bs) }, s)
    | (.bad st _, s) => ({ r with sent := true, q := q, res := (st, []) }, s)
  | some bs =>
    let undo := memRead s.dev q r.len
    let minor := mapGet 0 (q / 128) s.mix.minor
    match s.writeLine w r.p bs with
    | (.ok _, s) => ({ r with sent := true, q := q, undo := undo, minor := minor, res := (stDone, []) }, s)
    | (.bad st _, s) => ({ r with sent := true, q := q, res := (st, []) }, s)

/-- Latency of a completed request: the monitor, the window's maximum, the alarm. Of the alarms of one cycle the highest
master number stays (log 138). -/
def State.noteLatency (s : State) (g : Nat) (r : GateReq) : State :=
  let lat := s.now - r.since
  let n := r.m.number
  let cab : Option Nat := match r.m with | .cab k => some k | _ => none
  let s := s.setRfld (rSgLat g n) 31 0 (max (s.rfld (rSgLat g n) 31 0) (min lat (2 ^ 32 - 1)))
  let s := match cab with
    | some k => let c := s.cab k; s.setCab k { c with win := { c.win with memLat := max c.win.memLat lat } }
    | none => s
  let s := s.tally (uGate g) 9 cab lat
  let thr := s.rfld (rSgThr g n) 31 0
  if thr ≠ 0 ∧ thr < lat then
    let v := s.gate g
    let last := if v.alarm == some (s.now, v.cyc) then max n (s.rfld (rSgStat g) 8 0) else n
    let s := s.setGate g { v with alarm := some (s.now, v.cyc) }
    let s := ((s.bump (rSgLat g n) 63 48).bump (rSgStat g) 63 48).setRfld (rSgStat g) 8 0 last
    ((s.tally (uGate g) 0xA cab).trace 0x01 (uGate g) cab r.ctx n lat).stopTrigger 1
  else s

/-- Lines granted so far in the running interval. -/
def SgUnit.lines (v : SgUnit) : Nat := (v.served.map (·.2)).sum

/-- Grant a line to master `n`. One that fails check 1 or 2 by now ends without an access (R336). Metadata lines that the
line needs take slots too (R295). -/
def State.gateGrant (s : State) (g n : Nat) (floor : Bool) : State :=
  let v := s.gate g
  match v.head n floor with
  | none => s
  | some r =>
    let before := v.lines
    let x := s.gateServe r
    let ends := x.1.res.1 == stDenied || x.1.res.1 == stQuarantine
    let s := if ends || x.1.res.1 == stDone then x.2 else x.2.charge g { m := r.m, unit := r.unit, ctx := r.ctx } 1
    let v := s.gate g
    let reqs := if ends then v.reqs.filter (fun y => y.tag != r.tag) else updWhere (fun (y : GateReq) => y.tag == r.tag) (fun _ => x.1) v.reqs
    let v := { v with reqs := reqs, slots := v.slots + (v.lines - before), last := mapSet false n r.engine v.last }
    let more := v.waiting n != []
    let v := { v with pace := if more then v.pace else mapSet none n none v.pace,
                      waits := if more then v.waits else v.waits.filter (fun y => y != n) }
    let v := if floor then v else if s.urgent n then { v with rrUrg := n } else { v with rr := n }
    let s := s.setGate g v
    if ends then (s.noteLatency g r).gateAnswer g r.tag x.1.res.1 []
    else s.emit (.gateLine g r.tag ((s.gateOf x.1.q).2 / 128) r.data.isSome)

/-- Cycle `k` begins at a gate: eight lines fit in a cycle, and a run of waiting requests that has no pace yet takes this
cycle as its origin (R296). -/
def SgUnit.cycle (v : SgUnit) (k : Nat) : SgUnit :=
  let ms := ((List.range 0x102).filter (fun n => v.waiting n != [])).filter (fun n => (mapGet none n v.pace).isNone)
  let pace := if v.paused then v.pace else ms.foldl (fun p n => mapSet none n (some ({ k0 := k, g := 0 } : Pace)) p) v.pace
  { v with cyc := k, slots := v.slots - 8 * (k - v.cyc), pace := pace }

def gateCycle (g k : Nat) (s : State) : State :=
  let v := s.gate g
  if k < v.cyc then s
  else
    let v := v.cycle k
    let s := s.setGate g v
    if 8 ≤ v.slots then s
    else match s.gatePick g k with
      | some (n, floor) => s.gateGrant g n floor
      | none => s

/-- A slot of cycle `cycle` is filled: at most eight lines a cycle. -/
def execGateGrant (gate : GateId) (cycle : Nat) (s : State) : Host.Outcome State Fault Refusal :=
  .next (if s.coreUp && !s.resetting (uGate gate.val) then gateCycle gate.val cycle s else s)

/-! ### Responses (R309, R310, R323, R335) -/

/-- The damage a response shows; a whole-line write replaces a damaged data line. -/
def State.noteDamage (s : State) (r : GateReq) (err : MemErr) : State :=
  let whole := r.data.isSome && r.len == 128
  let n := match r.m with | .cab n => n | _ => 256
  let tags := n < 256 && (s.cab n).conf.integ
  let c := (s.cab n).conf
  let node (level status : Nat) : State :=
    match c.ranges.find? (fun x => inRange x.2.1 x.2.2 r.q) with
    | some x =>
      let size := 8192 * 8 ^ level
      let first := x.2.1 + (r.q - x.2.1) / size * size
      let b : BadNode := { cab := n, slot := x.1, level := level, first := first,
                           span := min (8 ^ level) ((x.2.1 + x.2.2 - first) / 8192), status := status }
      { s with mix := { s.mix with badNode := s.mix.badNode ++ [b] } }
    | none => s
  match err with
  | .none => s
  | .dataUe => if whole then s else { s with mix := { s.mix with badData := (r.q / 128) :: s.mix.badData.filter (fun l => l != r.q / 128) } }
  | .metaUe => if tags then { s with mix := { s.mix with badMeta := (r.q / 2048) :: s.mix.badMeta.filter (fun l => l != r.q / 2048) } } else s
  | .tagBad => if tags && !whole then { s with mix := { s.mix with badTag := (r.q / 128) :: s.mix.badTag.filter (fun l => l != r.q / 128) } } else s
  | .nodeUe l => if tags && l != 0 then node l stMemory else s
  | .nodeTag l => if tags && l != 0 then node l stIntegrity else s

/-- A write that fails after all leaves the line and its metadata as they were (R324). -/
def State.gateUndo (s : State) (r : GateReq) : State :=
  if r.data.isNone then s
  else
    let s := s.devPut r.q r.undo
    match r.m with
    | .cab n =>
      if (s.cab n).conf.integ then
        let remix := if r.minor = 127 then s.mix.remix.filter (fun x => x != r.q / 8192) else s.mix.remix
        { s with mix := { s.mix with minor := mapSet 0 (r.q / 128) r.minor s.mix.minor, remix := remix } }
      else s
    | _ => s

/-- A line's completion is handed to its requester. -/
def State.gateComplete (s : State) (g : Nat) (r : GateReq) (err : MemErr) : State :=
  let v := s.gate g
  let s := s.setGate g { v with reqs := v.reqs.filter (fun y => !(y.sent && y.tag == r.tag)) }
  let w : Who := { m := r.m, unit := r.unit, ctx := r.ctx }
  let s := (s.noteLatency g r).noteDamage r err
  if r.res.1 = stDone ∧ err ≠ .none then
    match s.gateFail r.m r.q (r.data.isSome && r.len == 128) with
    | some f =>
      let x := s.noteFail g w r.q f
      (x.2.gateUndo r).gateAnswer g r.tag x.1 []
    | none => s.gateAnswer g r.tag stDone r.res.2
  else s.gateAnswer g r.tag r.res.1 r.res.2

def gateResponse (g tag : Nat) (err : MemErr) (s : State) : State :=
  let v := s.gate g
  match v.reqs.find? (fun r => r.sent && r.tag == tag && r.held.isNone) with
  | none => s.faultOn (uGate g) 6 none
  | some r =>
    if s.ou.unitsStopped && r.m != .observe then
      s.setGate g { v with reqs := updWhere (fun (y : GateReq) => y.sent && y.tag == tag) (fun y => { y with held := some err }) v.reqs }
    else s.gateComplete g r err

/-- The controller answers a line; a tag that is not outstanding breaks the protocol (R473). In a stop the completion is
held (R462). -/
def execStackGateResponse (gate : GateId) (tag : Fin 4096) (err : MemErr) (s : State) : Host.Outcome State Fault Refusal :=
  .next (if s.coreUp && decide (gate.val < s.gateCount) then gateResponse gate.val tag.val err s else s)

/-- Held completions are delivered at the resume (R465). -/
def State.releaseHeld (s : State) : State :=
  (List.range 12).foldl (fun (s : State) g =>
    ((s.gate g).reqs.filter (fun r => r.held.isSome)).foldl (fun (s : State) r => s.gateComplete g r (r.held.getD .none)) s) s

/-! ### Intervals (R48, R296, R298, R305) -/

/-- The hold of a unit covers the interval. -/
def State.heldUnit (s : State) (u : Nat) : Bool := s.rcv.heldFrom.any (fun h => h.1 == u) || s.ou.unitsStopped

/-- A cabinet whose figures the interval judges. -/
def State.judged (s : State) (n : Nat) : Bool := (s.cab n).st == .live && (s.cab n).power == 0 && s.pln.power == 0 && !s.pln.waking

/-- Masters that waited at the gate for the whole interval and got less than their floor; not those that waited for an exit
from IDLE or SLEEP (R316). -/
def State.shortAt (s : State) (g : Nat) : List Nat :=
  let v := s.gate g
  if v.held || s.heldUnit (uGate g) then []
  else v.waits.filter (fun n =>
    v.waiting n != [] && !s.urg.rested.contains n && (decide (256 ≤ n) || s.judged n) &&
    decide (mapGet 0 n v.served * 128 < s.gateFloor g n * s.cycles))

/-- The interval ends at one gate, where some master was short or none: counts, floors of the next interval, paces. -/
def State.gateInterval (s : State) (g : Nat) (short refused : Bool) : State :=
  let held := s.heldUnit (uGate g)
  let s := if short then s.bump (rSgStat g) 47 32 else s
  let s := if refused && !held && !(s.gate g).held then s.bump (rSgStat g) 31 16 else s
  let v := s.gate g
  let ms := (List.range 0x102).filter (fun n => v.waiting n != [])
  s.setGate g { v with served := [], waits := ms, pace := [], paused := false, held := held,
                       plat := s.rfld (rSgNcfloor g) 10 0, obs := s.rfld (rSgNcfloor g) 26 16 }

/-- Masters that are not in RUN: every one of them while the block is not. -/
def State.restedNow (s : State) : List Nat :=
  if s.pln.power == 0 && !s.pln.waking then (s.cabs.filter (fun e => e.2.power != 0)).map (·.1) else List.range 0x102

/-- A packet of the cabinet waits for injection (R359). -/
def State.injectWaits (s : State) (n : Nat) : Bool := s.fr.waits.any (fun p => p.srcCab == n)

/-- The interval ends for one cabinet. -/
def State.cabInterval (s : State) (short : List Nat) (n : Nat) : State :=
  let c := s.cab n
  let fab := c.fabWait && s.injectWaits n && s.judged n && !s.urg.rested.contains n && !s.fr.held && !s.heldUnit uRouter && decide (mapGet 0 n s.fr.tx < s.injectFloor n)
  let w := c.win
  let w := { w with memShort := w.memShort + (if short.contains n then 1000 else 0),
                    fabShort := w.fabShort + (if fab then 1000 else 0) }
  let s := s.setCab n { c with win := w, fabWait := s.injectWaits n }
  if c.floorsAt ≤ s.now then s.floorsInForce n else s

def intervalEnd (refused : List Nat) (s : State) : State :=
  let t := s.now / 1000 * 1000
  if t ≤ s.urg.interval then s
  else
    let shorts := (List.range s.gateCount).map (fun g => (g, s.shortAt g))
    let s := (s.cabs.map (·.1)).foldl (fun s n => s.cabInterval (shorts.flatMap (·.2)) n) s
    let s := shorts.foldl (fun s x => s.gateInterval x.1 (x.2 != []) (refused.contains x.1)) s
    let owners : FMap (Option Nat) :=
      ((List.range 256).filter (fun t => (s.tile t).cab.isSome)).map (fun t => (t, (s.tile t).cab))
    ({ s with urg := { s.urg with interval := t, owners := owners, rested := s.restedNow },
              fr := { s.fr with tx := [], pace := [], floor := s.rfld rFrNcfloor 10 0, held := s.heldUnit uRouter } }).syncWires

/-- A 1,000 ns interval ends; `refused` names the gates whose controller refused them in at least 1 % of its cycles. -/
def execFloorIntervalEnd (refused : List Nat) (s : State) : Host.Outcome State Fault Refusal :=
  .next (if s.coreUp then intervalEnd refused s else s)

/-! ### The floors of R300 -/

/-- Σ of the cabinets' floors, and how many of them are not zero. -/
def State.memSum (s : State) : Nat := ((s.floorCabs none).map CabConf.memFloor).sum
def State.fabSum (s : State) : Nat := ((s.floorCabs none).map CabConf.fabFloor).sum

def ncFloor (g : Nat) (v : Word) (s : State) : State :=
  let p := fld v 10 0
  let o := fld v 26 16
  if p = 0 ∨ 1024 < p ∨ 1024 < o ∨ 1024 < s.memSum + p + o then s.setRfld (rSgStat g) 9 9 1
  else s.setReg (rSgNcfloor g) (pack [(0, p), (16, o)])

/-- A write of SG_NCFLOOR: refused whole, or in force from the next interval. -/
def execSgNcfloorWrite (func : Func) (gate : GateId) (value : Word) (s : State) : Host.Outcome State Fault Refusal :=
  .next (s.platform func.val (rSgNcfloor gate.val) (some value) fun s => ncFloor gate.val value s)

def frFloor (v : Word) (s : State) : State :=
  let f := fld v 10 0
  if 1024 < f ∨ 1024 < s.fabSum + f then s.setRfld rFrStat 2 2 1 else s.setReg rFrNcfloor (pack [(0, f)])

/-- A write of FR_NCFLOOR. -/
def execFrNcfloorWrite (func : Func) (value : Word) (s : State) : Host.Outcome State Fault Refusal :=
  .next (s.platform func.val rFrNcfloor (some value) fun s => frFloor value s)

/-! ### Re-mix and re-key (R319, R330, R331) -/

/-- A group's re-mix finishes. -/
def execGroupRemixComplete (group : Nat) (s : State) : Host.Outcome State Fault Refusal :=
  .next (if !s.frozen && s.mix.remix.contains group then s.remixGroup group else s)

/-- The address of byte `w` of a shelf, its ranges taken in slot order. -/
def shelfByte (w : Nat) : List (Nat × Nat) → Option Nat
  | [] => none
  | (a, n) :: r => if w < n then some (a + w) else shelfByte (w - n) r

/-- A group is converted: its counters start again, and a line that failed its check keeps failing. -/
def State.convertGroup (s : State) (grp : Nat) : State :=
  let bad := ((List.range 64).map (fun i => grp * 64 + i)).filter (fun l => s.mix.badData.contains l || s.mix.badTag.contains l)
  { s with mix := { s.mix with
      major := mapSet 0 grp 0 s.mix.major, minor := s.mix.minor.filter (fun e => e.1 / 64 != grp),
      badData := s.mix.badData.filter (fun l => l / 64 != grp), badTag := bad ++ s.mix.badTag.filter (fun l => l / 64 != grp),
      remix := s.mix.remix.filter (fun x => x != grp) } }

/-- Every dirty entry of a shelf is written back (R338). -/
def State.flushMeta (s : State) (n : Nat) : State := s.flushCache (fun e => s.metaCab e.key == some n)

/-- A node's coverage: its first byte and its length. -/
def State.nodeSpan (s : State) : MetaKey → Nat × Nat
  | .line l => (l * 2048, 2048)
  | .node n k l i => match (s.cab n).conf.rangeAt k with
    | some r => (r.1 + i * (8192 * 8 ^ l), min (8192 * 8 ^ l) (r.2 - i * (8192 * 8 ^ l)))
    | none => (0, 0)

/-- The whole coverage of a node is quarantined. -/
def State.nodeShut (s : State) (n : Nat) (k : MetaKey) : Bool :=
  let x := s.nodeSpan k
  (List.range (x.2 / 8192)).all (fun i => s.quarantined n (x.1 + i * 8192))

/-- The nodes whose whole coverage ends at or below `e`, of those on the path of `a`, are written under the new key with
their counters from 0; so starts their version (R331). -/
def State.renewNodes (s : State) (n a e : Nat) : State :=
  let done (k : MetaKey) : Bool := decide ((s.nodeSpan k).1 + (s.nodeSpan k).2 ≤ e) && !s.nodeShut n k
  let ks := (s.nodePath n a).filter done
  { s with mix := { s.mix with
      version := s.mix.version.filter (fun x => !ks.contains x.1),
      cache := updWhere (fun (x : MetaEntry) => ks.contains x.key) (fun x => { x with dirty := false }) s.mix.cache } }

/-- The next 64 KiB at the watermark are converted; quarantined groups are skipped. -/
def rekeyChunk (n : Nat) (s : State) : State :=
  match mapGet none n s.mix.rekey with
  | none => s
  | some r =>
    let c := (s.cab n).conf
    let s := match shelfByte r.wm c.spans with
      | some a =>
        let grps := ((List.range 8).map (fun i => a / 8192 + i)).filter (fun g => !s.quarantined n (g * 8192))
        let s := (grps.foldl State.convertGroup s).renewNodes n a (a + 65536)
        (grps.foldl (fun (s : State) x =>
          let g := (s.gateOf (x * 8192)).1
          s.charge g { m := .cab n, unit := uGate g } 136) s).charge (s.gateOf a).1 { m := .cab n, unit := uGate (s.gateOf a).1 } 2
      | none => s
    let wm := r.wm + 65536
    if c.size ≤ wm then
      let s := s.flushMeta n
      { s with mix := { s.mix with rekey := mapSet none n none s.mix.rekey } }
    else { s with mix := { s.mix with rekey := mapSet none n (some { r with wm := wm }) s.mix.rekey } }

/-- 64 KiB of a re-key are converted; at the shelf's end the old key is discarded. -/
def execRekeyChunkConverted (cab : CabId) (s : State) : Host.Outcome State Fault Refusal :=
  .next (if s.frozen then s else rekeyChunk cab.val s)

/-- The block key is drawn at a CHIP or TRAY start (R319). -/
def State.drawBlockKey (s : State) : State :=
  if s.mix.blockKey.isSome then s
  else if s.mix.healthy then
    let k := s.newKey
    { k.2 with mix := { k.2.mix with blockKey := some k.1 } }
  else s.bump rMixGstat 47 32

/-! ### Re-initialising a range (R337) -/

def execMixRiNop (func : Func) (s : State) : Host.Outcome State Fault Refusal :=
  .next (s.platform func.val 0x8D0020 (some (cmdWord 0)) fun s => nopCommand rRiResult s)

/-- A write of MIX_RI_CMD: NOP, REINIT, or ARG. -/
def State.mixCmd (s : State) (op : Nat) : State :=
  if op = 0 then nopCommand rRiResult s
  else match s.accept rRiResult with
    | none => s.overrun rRiResult
    | some s =>
      let n := s.rfld (rRiArg 0) 7 0
      let a := s.rfld (rRiArg 0) 43 13 * 8192
      let l := s.rfld (rRiArg 1) 43 13 * 8192
      let c := s.cab n
      if op ≠ 1 then s.result rRiResult errArg 0
      else if c.st != .live || (mapGet none n s.mix.rekey).isSome then s.result rRiResult errState 0
      else if l = 0 || !c.conf.ranges.any (fun r => decide (r.2.1 ≤ a) && decide (a + l ≤ r.2.1 + r.2.2)) then s.result rRiResult errArg 0
      else { s with mix := { s.mix with reinit := some (n, a, l) } }

def execMixReinit (func : Func) (s : State) : Host.Outcome State Fault Refusal :=
  .next (s.platform func.val 0x8D0020 (some (cmdWord 1)) fun s => s.mixCmd 1)

/-- The nodes of a range that lie wholly in `[a, a+l)`. -/
def nodesWithin (n a l : Nat) (r : Nat × Nat × Nat) : List MetaKey :=
  (List.range (treeDepth (r.2.2 / 8192) - 1)).flatMap (fun j =>
    let size := 8192 * 8 ^ (j + 1)
    let lo := (a - r.2.1 + size - 1) / size
    let hi := if a + l = r.2.1 + r.2.2 then (r.2.2 + size - 1) / size else (a + l - r.2.1) / size
    (List.range (hi - lo)).map (fun i => MetaKey.node n r.1 (j + 1) (lo + i)))

/-- Every node wholly in the range is rebuilt and written, so that its version rises; the other nodes above the range are
brought up to date (R337). -/
def State.rebuildNodes (s : State) (n a l : Nat) : State :=
  match (s.cab n).conf.ranges.find? (fun r => inRange r.2.1 r.2.2 a) with
  | none => s
  | some r =>
    let g := (s.gateOf a).1
    let ks := nodesWithin n a l r
    let mix := ks.foldl (fun (x : MixUnit) k => x.setVersion k (x.versionOf k + 1)) s.mix
    let s := { s with mix := { mix with
      cache := updWhere (fun (x : MetaEntry) => ks.contains x.key) (fun x => { x with dirty := false, bad := false }) mix.cache } }
    let s := (s.chargeSpan n a l 2048).charge g { m := .cab n, unit := uGate g } ks.length
    let up := ((s.nodePath n a ++ s.nodePath n (a + l - 1)).eraseDups).filter (fun k => !ks.contains k)
    up.foldl (fun (s : State) k => s.touchMeta g { m := .cab n, unit := uGate g } k true) s

/-- The range is zero and its counters are rebuilt: quarantine it covers whole is released, failures of settling on it end,
and a re-key that came due starts (R143, R333). -/
def reinitDone (s : State) : State :=
  match s.mix.reinit with
  | none => s
  | some (n, a, l) =>
    let s := s.reinitSpan (a, l)
    let s := if (s.cab n).conf.integ then s.rebuildNodes n a l else s
    let s := s.chargeSpan n a l 128
    let inside (b m : Nat) : Bool := decide (a ≤ b) && decide (b + m ≤ a + l)
    let quar := s.mix.quar.filter (fun e => match e.2 with | some q => !(q.cab == n && inside q.first (q.span * 8192)) | none => true)
    let cleared := (((s.cab n).conf.ranges.filter (fun r => r.2.1 == a && r.2.2 == l)).map (fun r => 2 ^ r.1)).sum
    let whole := mapGet 0 n s.mix.whole
    let mix := { s.mix with quar := quar, whole := mapSet 0 n (whole - (whole &&& cleared)) s.mix.whole, reinit := none }
    let grans := s.tu.grans.map (fun e => match e.2.cur with
      | some c => if inside (c * 8192) 8192 then (e.1, { e.2 with failed := false }) else e
      | none => e)
    let s := { s with mix := mix, tu := { s.tu with grans := grans } }
    ((s.touchDev a l).result rRiResult errNone 0).rekeyStart n

def execMixReinitComplete (s : State) : Host.Outcome State Fault Refusal := .next (if s.frozen then s else reinitDone s)

end Sys2Proof.Machine
end

