-- ==== Sys2Proof/Machine/Power.lean ====
section
/-! DEFINITION. Power states (R413 to R422): PWR_CMD, the quiesce handshake, automatic entry, wake events. -/
namespace Sys2Proof.Machine

/-! ### Answers of the block's units (R417) -/

/-- The LIVE cabinets an entry concerns. -/
def State.entryCabs (s : State) (e : Entry) : List Nat :=
  match e.cab with
  | some n => [n]
  | none => (s.cabs.filter (fun x => x.2.st == .live)).map (·.1)

/-- What a unit answers. -/
inductive QsAnswer where
  | ack
  | deny (reason : Nat)
  | wait
deriving DecidableEq, Repr

/-- R181: between steps only. -/
def State.qsBatcher (s : State) (cs : List Nat) : QsAnswer := if cs.any (fun n => (s.sbc n).st == .form || (s.sbc n).st == .run) then .wait else .ack

/-- The entry swaps resident contexts out first (R210). -/
def Entry.swaps (e : Entry) : Bool := (e.cab.isSome && e.target == 2) || (e.cab.isNone && e.target == 3)

/-- R210. -/
def State.qsSched (s : State) (e : Entry) (cs : List Nat) : QsAnswer :=
  let runs := s.ts.cmds.any (fun c => cs.contains c.cab && (c.live || c.onTiles))
  let held := cs.any (fun n => s.residents n != []) || s.ts.swaps.any (fun w => cs.contains w.cab)
  if runs || (e.swaps && held) then .wait else .ack

/-- R237. -/
def State.qsMove (s : State) (cs : List Nat) : QsAnswer :=
  if s.me.chans.any (fun x => cs.contains x.2.cab && (x.2.st == .run || x.2.st == .draining)) then .wait else .ack

/-- R266. -/
def State.qsDce (s : State) (e : Entry) (cs : List Nat) : QsAnswer :=
  if cs.all s.dceQuiet then .ack else if e.start + s.peerNs ≤ s.mono then .deny 3 else .wait

/-- R367. -/
def State.qsRouter (s : State) (e : Entry) : QsAnswer :=
  if 3 ≤ e.target && (List.range 256).any s.jobValid then .deny 2 else .ack

/-- R417 DUMP, R463. -/
def State.qsOu (s : State) : QsAnswer :=
  if s.rcv.dump.isSome then .deny 5 else if s.ou.stop != .idle then .deny 1 else .ack

/-- A unit in a reset or a search denies with RESET; otherwise it answers by its chapter. -/
def State.qsAnswer (s : State) (e : Entry) (u : Nat) : QsAnswer :=
  let cs := s.entryCabs e
  if s.resetting u || (s.unitSt u).phase == .search then .deny 4
  else if u = uBatcher then s.qsBatcher cs
  else if u = uTs then s.qsSched e cs
  else if u = uEngine 0 then s.qsMove cs
  else if u = uDce then s.qsDce e cs
  else if u = uRouter then s.qsRouter e
  else if u = uOu then s.qsOu
  else .ack

/-! ### The units and participants asked (R415) -/

/-- The units that hold a cabinet's work. -/
def State.workUnits (s : State) (n : Nat) : List Nat :=
  [uDrawer, uLatch, uTu, uBatcher, uTs] ++ (List.range 128).map uEngine ++ [uDce] ++ (List.range s.gateCount).map uGate ++
    [uRouter] ++ (s.tilesOf n).map uTile

/-- Every block unit. -/
def State.blockUnits (s : State) : List Nat :=
  [uHost, uDrawer, uLatch, uTu, uBatcher, uTs] ++ (List.range 128).map uEngine ++ [uDce] ++ (List.range s.gateCount).map uGate ++
    ((List.range 48).filter s.tie.ports.testBit).map uPort ++ [uRouter, uOu] ++ ((List.range 256).filter s.tie.tiles.testBit).map uTile

def State.qsUnit (s : State) (i : Nat) : Nat := s.rfld (rQsMap i) 11 0

/-- The quiesce-port participants asked. -/
def State.qsPorts (s : State) (cab : Option Nat) (target : Nat) : List Nat :=
  if target < 2 then []
  else (List.range 64).filter (fun i => s.rfld (rQsMap i) 15 15 == 1 && match cab with
    | some n => (s.tilesOf n).any (fun t => uTile t == s.qsUnit i)
    | none => true)

/-- The unit ID an answerer is known by. A participant mapped to an ID that the block never reports (R10) goes by the
Plinth's (log 136). -/
def State.answererUnit (s : State) (k : Nat) : Nat :=
  if 0x1000 ≤ k then (if s.unitExists (s.qsUnit (k - 0x1000)) then s.qsUnit (k - 0x1000) else uPlinth) else k

/-! ### The end of an entry -/

/-- Every port goes DOWN for DEEP and OFF (R367). -/
def State.portsDown (s : State) : State :=
  (List.range 48).foldl (fun (s : State) p =>
    let s := s.portDown p
    s.setPort p { s.port p with link := false, lanes := 0 }) s

/-- The Translation Unit loses its caches in DEEP (R155, R389), and the gates theirs, which they have written back (R338,
R489). -/
def State.deepEpochs (s : State) : State :=
  let v := s.unitSt uTu
  let s := s.setUnitSt uTu { v with epoch := (v.epoch + 1) % 2 ^ 32 }
  { s with mix := { s.mix with cache := [] } }

/-- Every shelf's key is lost (R320). -/
def State.loseKeys (s : State) : State :=
  let spans := (s.cabs.filter (fun e => e.2.holds)).flatMap (fun e => e.2.confs.flatMap CabConf.spans ++ e.2.oldReserve)
  let s := spans.foldl State.loseSpan s
  let s := s.loseBlock
  { s with mix := { s.mix with blockKey := none }, cabs := s.cabs.map (fun e => (e.1, { e.2 with key := none })) }

/-- Lower a state's first rung: mem for SLEEP, logic for DEEP and OFF. -/
def State.lowerFirst (s : State) : State :=
  let r := if s.pln.power = 2 then 2 else 3
  { s with pln := { s.pln with req := s.pln.ready - (s.pln.ready &&& 2 ^ r), rungAt := s.now } }

/-- The answers a completed entry gives. -/
def State.entryDone (s : State) (e : Entry) : State :=
  let s := { s with pln := { s.pln with entries := s.pln.entries.filter (fun x => x != e) } }
  let s := if e.byCmd then s.result rPwrResult errNone 0 else s
  if e.byTray then
    { s with pln := { s.pln with trayBusy := s.pln.trayBusy - 1 } }.emit (.tray 0x04 0 (toLe 1 0 ++ toLe 2 0 ++ toLe 1 0))
  else s

/-- An entry completes (R418). -/
def State.enterState (s : State) (e : Entry) : State :=
  let s := s.entryDone e
  match e.cab with
  | some n => (s.setCab n { s.cab n with power := e.target, idleAt := s.mono }).trace 0x06 uPlinth (some n) none e.target (256 + n)
  | none =>
    let s := if 3 ≤ e.target then s.portsDown else s
    let s := if e.target = 3 then s.deepEpochs else if e.target = 4 then s.loseKeys else s
    let s := if 3 ≤ e.target then { s with hg := { s.hg with release := false } } else s
    let s := s.blockState e.target
    if e.target = 1 then s else s.lowerFirst

/-- The quiesce request goes out: a unit that refuses ends the entry, the lowest unit ID first; those at rest acknowledge;
channels drain and contexts swap out where the state asks for it. -/
def State.askEntry (s : State) (e : Entry) : State :=
  let cs := s.entryCabs e
  let us := match e.cab with | some n => s.workUnits n | none => s.blockUnits
  let asks : Entry := { e with start := s.mono }
  let refusals := us.filterMap (fun u => match s.qsAnswer asks u with | .deny r => some (u, r) | _ => none)
  if s.lc.job.isSome then s.abortEntry e uPlinth 4
  else match refusals with
    | (u, r) :: _ => s.abortEntry e u r
    | [] =>
      let deep := (e.cab.isSome && e.target == 2) || (e.cab.isNone && e.target == 3)
      let quiet (c : Chan) : Chan := if c.st == .run then { c with st := .draining, quiet := true } else c
      let s := if deep then
          (s.me.chans.filter (fun x => cs.contains x.2.cab && x.2.st == .run)).foldl
            (fun (s : State) x => (s.setChan x.1 (quiet x.2)).dropChanReqs x.1 true) s
        else s
      let s := if e.swaps then cs.foldl 
        (fun (s : State) n => (s.residents n).foldl (fun s c => s.evict n c) s) s else s
      let s := if 2 ≤ e.target then cs.foldl (fun (s : State) n => s.flushMeta n) s else s
      let left := us.filter (fun u => s.qsAnswer asks u != .ack) ++ (s.qsPorts e.cab e.target).map (fun i => 0x1000 + i)
      let e' := { e with left := left, asked := true, start := s.mono }
      let s := { s with pln := { s.pln with entries := s.pln.entries.map (fun x => if x == e then e' else x) } }
      if left = [] then s.enterState e' else s

/-- Entries that waited for other transitions are asked once those have ended (R419). -/
def State.askWaiting (s : State) : State :=
  if s.pln.waking || s.pln.entries.any (·.asked) then s
  else match s.pln.entries with
    | e :: _ => s.askEntry e
    | [] => s

/-- Begin an entry. A block entry waits for cabinet entries, and every entry for a wake of the block that has begun. -/
def State.startEntry (s : State) (cab : Option Nat) (target : Nat) (byCmd byTray : Bool) : State :=
  let e : Entry := { cab := cab, target := target, left := [], asked := false, start := s.mono, byCmd := byCmd, byTray := byTray }
  let s := { s with pln := { s.pln with entries := s.pln.entries ++ [e] } }
  if s.pln.waking || (cab.isNone && s.pln.entries.any (fun x => x.cab.isSome)) then s else s.askEntry e

/-! ### PWR_CMD (R419, R430) -/

def pwrEnd (s : State) (err : Nat) : State := s.result rPwrResult err 0

def pwrEnter (v : Word) (s : State) : State :=
  let target := fld v 6 4
  let n := fld v 23 16
  let c := s.cab n
  if target = 0 ∨ 4 < target then pwrEnd s errArg
  else if fld v 8 8 = 1 then
    if 2 < target then pwrEnd s errArg
    else if c.st != .live ∨ target < c.power then pwrEnd s errState
    else if c.power = target then pwrEnd s errNone
    else s.startEntry (some n) target true false
  else s.startEntry none target true false

def pwrExit (v : Word) (s : State) : State :=
  let n := fld v 23 16
  if fld v 8 8 = 0 then pwrEnd s errArg
  else if (s.cab n).st != .live then pwrEnd s errState
  else pwrEnd (s.wakeCab n 1) errNone

/-- A write of PWR_CMD. While an entry is in progress it only sets OVERRUN (R419). -/
def State.pwrCmd (s : State) (v : Word) : State :=
  if s.pln.entries != [] then s.overrun rPwrResult
  else if fld v 3 0 = 0 then nopCommand rPwrResult s
  else match s.accept rPwrResult with
    | none => s.overrun rPwrResult
    | some s =>
      if fld v 3 0 = 1 then pwrEnter v s else if fld v 3 0 = 2 then pwrExit v s else pwrEnd s errArg

def execPwrNop (func : Func) (value : Word) (s : State) : Host.Outcome State Fault Refusal :=
  .next (s.platform func.val 0x10040 (some (setFld value 3 0 0)) fun s => s.pwrCmd (setFld value 3 0 0))
def execPwrEnter (func : Func) (value : Word) (s : State) : Host.Outcome State Fault Refusal :=
  .next (s.platform func.val 0x10040 (some (setFld value 3 0 1)) fun s => s.pwrCmd (setFld value 3 0 1))
def execPwrExit (func : Func) (value : Word) (s : State) : Host.Outcome State Fault Refusal :=
  .next (s.platform func.val 0x10040 (some (setFld value 3 0 2)) fun s => s.pwrCmd (setFld value 3 0 2))

/-! ### Automatic entry (R414) -/

/-- A cabinet without work. -/
def State.noWork (s : State) (n : Nat) : Bool :=
  s.drw.flights.all (fun f => f.cab != n || s.lat.waits.any (fun w => w.cab == n && w.drawer == f.drawer && w.seq == f.seq)) &&
  (s.sbc n).reqs == [] && !s.ts.swaps.any (fun w => w.cab == n) && s.dceQuiet n && (s.cab n).work == .none &&
  !s.me.chans.any (fun x => x.2.cab == n && (x.2.direct || x.2.cur.isSome))

/-- A cabinet may begin a transition: no entry of the block or of its own runs. -/
def State.mayEnter (s : State) (n : Nat) : Bool := !s.pln.entries.any (fun e => e.cab.isNone || e.cab == some n) && s.lc.job.isNone

def idleTimer (n : Nat) (s : State) : State :=
  let c := s.cab n
  let t := s.rfld (rPwrCab n) 15 0
  if c.st == .live && c.power == 0 && t != 0 && s.mayEnter n then
    if !s.noWork n then s.setCab n { c with idleAt := s.mono }
    else if c.idleAt + t * 1000 ≤ s.mono then s.startEntry (some n) 1 false false else s
  else s

/-- A LIVE cabinet has had no work for IDLE_AFTER_US. -/
def execCabinetIdleTimer (cab : CabId) (s : State) : Host.Outcome State Fault Refusal :=
  .next (if s.frozen then s else idleTimer cab.val s)

def sleepTimer (n : Nat) (s : State) : State :=
  let c := s.cab n
  let t := s.rfld (rPwrCab n) 31 16
  if c.st == .live && c.power == 1 && t != 0 && s.mayEnter n && decide (c.idleAt + t * 1000000 ≤ s.mono) then
    s.startEntry (some n) 2 false false
  else s

/-- A cabinet has been IDLE for SLEEP_AFTER_MS. -/
def execCabinetSleepTimer (cab : CabId) (s : State) : Host.Outcome State Fault Refusal :=
  .next (if s.frozen then s else sleepTimer cab.val s)

/-- No platform work runs. -/
def State.noPlatformWork (s : State) : Bool :=
  s.cabs.all (fun e => e.2.work == .none) && s.mix.reinit.isNone && s.rcv.dump.isNone && !s.me.chans.any (fun x => x.2.direct)

/-- Every LIVE cabinet is at least this deep at rest, and nothing stands in the way of a block entry. -/
def State.allAtRest (s : State) (power : Nat) : Bool :=
  s.cabs.all (fun e => e.2.st != .live || decide (power ≤ e.2.power)) && s.noPlatformWork && s.pln.entries == [] &&
  s.lc.job.isNone && !s.pln.waking

def execBlockAutoIdle (s : State) : Host.Outcome State Fault Refusal :=
  .next (if !s.frozen && s.pln.phase == .run && s.rfld rPwrCfg 32 32 == 1 && s.pln.power == 0 && s.allAtRest 1 then
    s.startEntry none 1 false false else s)

def execBlockAutoSleep (s : State) : Host.Outcome State Fault Refusal :=
  .next (if !s.frozen && s.pln.phase == .run && s.rfld rPwrCfg 33 33 == 1 && decide (s.pln.power < 2) && s.allAtRest 2 then
    s.startEntry none 2 false false else s)

/-! ### Answers (R416, R418, R473) -/

/-- The number an answerer goes by in an entry. -/
def answerer : Answerer → Nat
  | .unit u => u.val
  | .port i => 0x1000 + i.val

/-- The entry of a cabinet, or of the block, whose request is out. -/
def State.entryOf (s : State) (cab : Option Nat) : Option Entry := s.pln.entries.find? (fun e => e.cab == cab && e.asked)

/-- `qs_req` of a participant is 1: an entry asks it, or a state it was asked for lasts. -/
def State.qsReq (s : State) (i : Nat) (cab : Option Nat) : Bool :=
  let power := match cab with | some n => (s.cab n).power | none => s.pln.power
  (s.entryOf cab).any (fun e => (s.qsPorts e.cab e.target).contains i) || (s.qsPorts cab power).contains i

/-- A unit's own answer stands for its rest. -/
def State.mayAck (s : State) (e : Entry) : Answerer → Bool
  | .unit u => s.qsAnswer e u.val == .ack
  | .port _ => true

def qsAck (who : Answerer) (cab : Option Nat) (level deny : Bool) (s : State) : State :=
  let k := answerer who
  let breaks : State := match who with | .port _ => s.faultOn uPlinth 6 none | .unit _ => s
  match s.entryOf cab with
  | some e =>
    if e.left.contains k then
      if !level then s
      else if deny then breaks
      else if !s.mayAck e who then s
      else
        let left := e.left.filter (fun x => x != k)
        let e' := { e with left := left }
        let s := { s with pln := { s.pln with entries := s.pln.entries.map (fun x => if x == e then e' else x) } }
        if left = [] then (s.enterState e').askWaiting else s
    else match who with
      | .port i => if s.qsReq i.val cab && (!level || deny) then breaks else s
      | .unit _ => s
  | none => match who with
    | .port i => if s.qsReq i.val cab && (!level || deny) then breaks else s
    | .unit _ => s

/-- A participant raises or drops `qs_ack`; `deny` says that it holds `qs_deny` at 1 as well. -/
def execQsAck (who : Answerer) (cab : Option CabId) (level deny : Bool) (s : State) : Host.Outcome State Fault Refusal :=
  .next (if s.coreUp then qsAck who (cab.map (·.val)) level deny s.askWaiting else s)

def qsDeny (who : Answerer) (cab : Option Nat) (reason : Nat) (s : State) : State :=
  let k := answerer who
  match s.entryOf cab with
  | some e =>
    if e.left.contains k then
      match who with
      | .port _ => (s.abortEntry e (s.answererUnit k) reason).askWaiting
      | .unit u => if s.qsAnswer e u.val == .deny reason then (s.abortEntry e u.val reason).askWaiting else s
    else s
  | none => s

/-- A participant refuses. -/
def execQsDeny (who : Answerer) (cab : Option CabId) (reason : Fin 256) (s : State) : Host.Outcome State Fault Refusal :=
  .next (if s.coreUp then qsDeny who (cab.map (·.val)) reason.val s.askWaiting else s)

/-- A participant has held neither answer for QS_LIMIT_US; the lowest unit ID is reported. -/
def qsTimeout (cab : Option Nat) (s : State) : State :=
  match s.entryOf cab with
  | some e =>
    if e.start + max 1 (s.rfld rPwrCfg 31 0) * 1000 ≤ s.mono then
      match e.left.map s.answererUnit with
      | u :: us => (s.abortEntry e (us.foldl min u) 6).askWaiting
      | [] => s
    else s
  | none => s

def execQsTimeout (cab : Option CabId) (s : State) : Host.Outcome State Fault Refusal :=
  .next (if s.frozen then s else qsTimeout (cab.map (·.val)) s.askWaiting)

/-! ### Wake events (R421) -/

def execHgWake (s : State) : Host.Outcome State Fault Refusal :=
  .next (if s.pln.phase == .run && !s.pln.held then s.wakeBlock 7 else s)

/-- The timestamp has reached PWR_WAKE_AT. -/
def execPwrWakeAtExpiry (s : State) : Host.Outcome State Fault Refusal :=
  .next (let t := (s.reg rPwrWakeAt).toNat
    if t != 0 && decide (t ≤ s.now) && s.pln.phase == .run then (s.wakeBlock 5).setReg rPwrWakeAt 0 else s)

/-- Every table is delivered again to its tile ports (R293). -/
def State.retableAll (s : State) : State :=
  ((List.range 256).filter (fun t => s.tie.tiles.testBit t && !(s.tile t).retired)).foldl (fun (s : State) t => s.retable t) s

/-- The block is back in RUN: the source is noted, units resynchronise, the host is released again (R114, R155, R420). -/
def State.woken (s : State) : State :=
  let deep := s.pln.power == 3
  let s := s.setReg rPwrWake (s.reg rPwrWake ||| BitVec.ofNat 64 s.pln.wake)
  let s := { s with pln := { s.pln with waking := false, wake := 0 } }
  let s := s.blockState 0
  let s := s.resumeQuiet (fun n => (s.cab n).power != 2)
  let s := if deep then
      let s := s.cabs.foldl (fun (s : State) e => s.discardStep e.1) s.resyncTu
      { s with hg := { s.hg with release := true } }.resyncLatches.retableAll
    else s
  let k := s.pln.wakeReq
  ((List.range k).foldl (fun (s : State) _ => s.emit (.tray 0x04 0 (toLe 1 0 ++ toLe 2 0 ++ toLe 1 0)))
    { s with pln := { s.pln with wakeReq := 0, trayBusy := s.pln.trayBusy - k } }).askWaiting

/-! ### Cold starts (R402, R423) -/

/-- What a cold start leaves: the wires, the fuses, the host's memory; what device memory held is lost. -/
def State.unpowered (s : State) : State :=
  { pending := s.pending, out := s.out, tie := s.tie, free := s.free, fuse := s.fuse, hostMem := s.hostMem,
    lost := if s.installed = 0 then [] else [(0, s.installed)] }

/-- The phases run from FUSE, with the timestamp at 0. -/
def State.coldStart (s : State) : State :=
  let s := s.unpowered
  { s with pln := { phase := .fuse, cold := true } }

/-! ### Rungs (R420) -/

/-- A ready rises: the next rung is requested; after the last one start-up goes on, or the wake is complete. -/
def State.rungUp (s : State) (r : Nat) : State :=
  if s.pln.req.testBit r && !s.pln.ready.testBit r then
    let s := { s with pln := { s.pln with ready := s.pln.ready ||| 2 ^ r } }
    if s.pln.ready ≠ 15 then s.raiseRung
    else if s.pln.phase == .power then { s with pln := { s.pln with phase := .image, phaseAt := s.now } }
    else if s.pln.phase == .image then { s with pln := { s.pln with phaseAt := s.now } }
    else if s.pln.waking then s.woken
    else s
  else s

/-- The rung lowered after this one, for the state being entered. -/
def State.nextLower (s : State) (r : Nat) : Option Nat :=
  if s.pln.power = 2 then (if r = 2 then some 1 else none) else if r = 0 then none else some (r - 1)

/-- A ready falls after its request. -/
def State.rungDown (s : State) (r : Nat) : State :=
  if !s.pln.req.testBit r && s.pln.ready.testBit r then
    let s := { s with pln := { s.pln with ready := s.pln.ready - 2 ^ r } }
    match s.nextLower r with
    | some q => { s with pln := { s.pln with req := s.pln.req - (s.pln.req &&& 2 ^ q), rungAt := s.now } }
    | none => if s.pln.waking then (if s.pln.power = 4 then s.coldStart else s.raiseRung) else s
  else s

/-- A rung's ready signal changes. -/
def execRungReady (rung : Fin 4) (level : Bool) (s : State) : Host.Outcome State Fault Refusal :=
  .next (if s.pln.held then s else if level then s.rungUp rung.val else s.rungDown rung.val)

/-- A ready falls while its request is 1: a failure of that domain. -/
def execRungReadyLost (rung : Fin 4) (s : State) : Host.Outcome State Fault Refusal :=
  .next (if s.pln.req.testBit rung.val && s.pln.ready.testBit rung.val then
    { s with pln := { s.pln with ready := s.pln.ready - 2 ^ rung.val } }.powerCycle 4 uPlinth else s)

end Sys2Proof.Machine
end

