-- ==== Sys2Proof/Machine/LifeCycle.lean ====
section
/-! DEFINITION. The life-cycle engine (R431 to R444): state, burns and wipes, challenges, tokens, transitions, LC_CMD. -/
namespace Sys2Proof.Machine

/-! ### States and the debug level (R431, R434, R446) -/

/-- The two bits of pair `k`. -/
def pairBits (raw k : Nat) : Nat := raw / 2 ^ (2 * k - 2) % 4

/-- The highest pair with any bit at 1. -/
def highPair (raw : Nat) : Nat := ((List.range 5).map (· + 1)).foldl (fun h k => if pairBits raw k = 0 then h else k) 0

/-- Pairs up to the highest that are not taken, lowest first. -/
def openPairs (raw : Nat) : List Nat := ((List.range (highPair raw)).map (· + 1)).filter (fun k => pairBits raw k != 3)

/-- The state in force is known once LIFECYCLE has ended. -/
def State.lcKnown (s : State) : Bool := match s.pln.phase with | .por | .fuse | .lifecycle => false | _ => true

/-- The debug port's level; none is ID_ONLY. -/
def State.dbgLevel (s : State) : Option Nat :=
  if !s.lcKnown || s.lc.state == 5 then none
  else if s.lc.state = 2 then some 1
  else if s.lc.state = 3 then some (if s.lc.openField then 2 else 0)
  else some 3

/-! ### Registers and messages (R447, R448) -/

def State.lcState (s : State) : Word := pack [(32, s.lc.raw), (3, bit s.lc.completed), (0, s.lc.state)]
def State.lcStat (s : State) : Word :=
  pack [(8, s.lc.fails), (4, bit s.lc.erased), (3, bit s.lc.chal.isSome), (0, s.lc.scopeOk)]
def State.dbgStatus (s : State) : Word := pack [(0, s.dbgLevel.getD 0)]

/-- The response body of LC_GET. -/
def State.lcGet (s : State) : List Byte :=
  toLe 1 s.lc.state ++ toLe 2 s.lc.raw ++ toLe 1 s.lc.scopeOk ++ toLe 1 (bit s.lc.erased) ++ toLe 1 s.lc.fails ++
    toLe 1 (s.dbgLevel.getD 0)

def State.plnBoot (s : State) : Word :=
  let ph := match s.pln.phase with
    | .por => 0 | .fuse => 1 | .lifecycle => 2 | .power => 3 | .image => 4 | .memory => 5 | .run => 6 | .halted => 7
  pack [(16, s.pln.releaseMs), (8, s.pln.fail), (5, bit s.pln.cold), (4, bit s.pln.imageOk), (0, ph)]

/-- A start-up after a CHIP reset has not reached release: a TRAY reset is asked for (R382). -/
def State.startFails (s : State) : State :=
  ((s.faultEvent { unit := uPlinth, cls := 0x09, action := 5 }).bump rRcvStat 15 8).holdForTray 2 uPlinth

/-- A start-up fails (R403): HALTED, START_FAIL; after a CHIP reset the power must be removed. -/
def State.halt (s : State) (code : Nat) : State :=
  let s := { s with pln := { s.pln with phase := .halted, fail := code, image := none, init := [] } }
  let s := s.sendTray 0x11 (toLe 1 1 ++ toLe 8 s.plnBoot.toNat)
  if s.pln.afterChip then s.startFails else s

/-! ### Keys (R436) -/

/-- Every key the block holds, and the challenge, are discarded. -/
def State.discardKeys (s : State) : State :=
  let s := s.loseKeys
  { s with fr := { s.fr with keys := [], keyed := [] }, lc := { s.lc with chal := none } }

/-! ### Burning (R437) -/

/-- Whether a pair carries a wipe (R435). -/
def wiped (k : Nat) : Bool := k == 4 || k == 5

/-- Steps that have nothing to do are passed over: bits already at 1, pairs without a wipe, empty partitions. -/
def LcJob.skip (raw size : Nat) : Nat → LcJob → LcJob
  | 0, j => j
  | n + 1, j =>
    match j.pairs with
    | [] => j
    | k :: r => match j.step with
      | .first => if raw.testBit (2 * k - 2) then LcJob.skip raw size n { j with step := .wipe, sectors := if wiped k then size else 0 } else j
      | .wipe => if j.sectors = 0 then LcJob.skip raw size n { j with step := .second, tries := 0 } else j
      | .second => if raw.testBit (2 * k - 1) then LcJob.skip raw size n { j with pairs := r, step := .first, tries := 0 } else j

/-- A wipe discards the keys as it begins; in a start-up they are absent. -/
def State.lcWipes (s : State) (old j : LcJob) : State :=
  if j.step == .wipe && !j.boot && (old.step != .wipe || old.pairs != j.pairs) then s.discardKeys else s

/-- The job stands at `j`: go on, or end when no pair is left. -/
def State.lcAdvance (s : State) (j : LcJob) : State :=
  let old := j
  let j := LcJob.skip s.fuse.lc s.fuse.userSize 16 j
  let s := s.lcWipes old j
  if j.pairs = [] then
    let s := { s with lc := { s.lc with job := none } }
    if j.boot then s else s.holdForTray 5 uPlinth
  else { s with lc := { s.lc with job := some j } }

/-- The job fails (R439). -/
def State.lcFail (s : State) (j : LcJob) : State :=
  let s := { s with lc := { s.lc with job := none } }
  if j.boot then s.halt 2
  else if j.erase then s.startFails
  else s.holdForTray 5 uPlinth

/-- The bit being burned. -/
def LcJob.bitNo (j : LcJob) : Option Nat :=
  match j.pairs, j.step with
  | k :: _, .first => some (2 * k - 2)
  | k :: _, .second => some (2 * k - 1)
  | _, _ => none

def burnAck (ok : Bool) (s : State) : State :=
  match s.lc.job with
  | some j =>
    match j.bitNo with
    | some b =>
      if j.dump then s
      else if ok then { s with fuse := { s.fuse with lc := s.fuse.lc ||| 2 ^ b } }.lcAdvance j
      else if j.tries + 1 < 3 then { s with lc := { s.lc with job := some { j with tries := j.tries + 1 } } }
      else s.lcFail j
    | none => s
  | none => s

/-- A try at a bit ends; `ok` says that it reads back 1. -/
def execFuseBurnAck (ok : Bool) (s : State) : Host.Outcome State Fault Refusal := .next (burnAck ok s)

/-- The erase of R444 ends. -/
def State.eraseDone (s : State) : State :=
  { s with lc := { s.lc with job := none, erased := true }, pln := { s.pln with phaseAt := s.now } }

def sectorErased (ok : Bool) (s : State) : State :=
  match s.lc.job with
  | some j =>
    if j.dump || j.step != .wipe || j.sectors == 0 then s
    else if !ok then s.lcFail j
    else
      let j' := { j with sectors := j.sectors - 1 }
      if j.erase then (if j'.sectors = 0 then s.eraseDone else { s with lc := { s.lc with job := some j' } })
      else s.lcAdvance j'
  | none => s

/-- A sector has been erased; `ok` says that every byte reads back 0xFF. -/
def execFlashSectorErased (ok : Bool) (s : State) : Host.Outcome State Fault Refusal := .next (sectorErased ok s)

/-- The limit of R439, in ns. -/
def LcJob.limit (j : LcJob) : Nat := 10000000 + 2000000000 * j.total

/-- A job that wipes its pairs, begun now. -/
def State.lcJob (s : State) (pairs : List Nat) (boot dump : Bool) : LcJob :=
  { pairs := pairs, step := .first, boot := boot, dump := dump, began := s.now, total := s.fuse.userSize * (pairs.filter wiped).length }

/-- The LIFECYCLE phase ends once nothing is left to complete (R432). -/
def lifecycleDone (s : State) : State :=
  if s.pln.phase == .lifecycle && s.lc.job.isNone then
    let h := highPair s.fuse.lc
    let s := { s with lc := { s.lc with state := h, completed := s.lc.raw != s.fuse.lc } }
    if h = 5 then s.halt 0x0F
    else { s with pln := { s.pln with phase := .power, phaseAt := s.now } }.raiseRung
  else s

def execLifecyclePhaseComplete (s : State) : Host.Outcome State Fault Refusal := .next (lifecycleDone s)

def lifecycleLimit (s : State) : State :=
  match s.lc.job with
  | some j => if !j.dump && decide (j.began + j.limit ≤ s.now) then s.lcFail j else s
  | none => s

/-- Burns and wipes have missed their limit. -/
def execLifecycleLimitMiss (s : State) : Host.Outcome State Fault Refusal := .next (lifecycleLimit s)

/-! ### Transitions (R435, R437, R440) -/

/-- A transition R435 allows. -/
def lcTarget (cur target : Nat) : Bool := (target == cur + 1 && decide (target ≤ 5)) || (target == 5 && cur != 5)

/-- The SCOPE_OK bit a transition needs. -/
def lcScope (cur target : Nat) : Option Nat := if cur ≠ 3 then none else if target = 4 then some 1 else if target = 5 then some 2 else none

/-- A reset at any level is in progress. -/
def State.resetRuns (s : State) : Bool :=
  s.rcv.units.any (fun e => s.resetting e.1) || s.rcv.cabResets != [] || s.drw.ctxs.any (fun e => e.2.resetting) ||
  (match s.rcv.dump with | some d => d.next.isSome | none => false)

/-- The engine takes no request (R440). -/
def State.lcBusy (s : State) : Bool :=
  s.lc.job.isSome || s.pln.held || s.pln.phase != .run || s.pln.power != 0 || s.pln.waking || s.pln.entries != [] || s.resetRuns

/-- Steps 2 to 4: ABORTs leave, units are held, keys go, and the burning begins. The erase of R444 begins with a CHIP
reset. -/
def State.lcGo (s : State) (j : LcJob) : State :=
  let j := { j with dump := false, began := s.now }
  if j.erase then
    let s := s.chipReset
    if j.sectors = 0 then s.eraseDone else { s with lc := { s.lc with job := some j } }
  else
    let s := (s.abortAll 2).discardKeys
    { s with pln := { s.pln with held := true } }.lcAdvance j

/-- An accepted job waits for a dump being written, or begins. -/
def State.lcBegin (s : State) (j : LcJob) : State :=
  if j.dump then { s with lc := { s.lc with job := some j } } else s.lcGo j

/-- How a request for a transition is answered. -/
inductive LcAnswer where
  | accepted | badTarget | busy | noScope
deriving DecidableEq, Repr

def State.lcAnswer (s : State) (target : Nat) : LcAnswer :=
  if !lcTarget s.lc.state target then .badTarget
  else if s.lcBusy then .busy
  else match lcScope s.lc.state target with
    | some b => if s.lc.scopeOk.testBit b then .accepted else .noScope
    | none => .accepted

/-- Carry out an accepted transition; it waits for a dump being written. -/
def State.lcTransit (s : State) (target : Nat) : State :=
  let pairs := (List.range (target - s.lc.state)).map (fun i => s.lc.state + 1 + i)
  s.lcBegin (s.lcJob pairs false s.rcv.dump.isSome)

/-- The dump a transition waited for has ended, or its time is over. -/
def State.lcAfterDump (s : State) : State :=
  match s.lc.job with
  | some j => if j.dump then s.lcGo j else s
  | none => s

/-! ### Challenges and tokens (R441 to R444) -/

/-- Four draws of the random source. -/
def State.nonce (s : State) : List Byte × State :=
  let a := s.freeWord
  let b := a.2.freeWord
  let c := b.2.freeWord
  let d := c.2.freeWord
  (toLe 8 a.1.toNat ++ toLe 8 b.1.toNat ++ toLe 8 c.1.toNat ++ toLe 8 d.1.toNat, d.2)

/-- Issue a challenge; it replaces an outstanding one. -/
def State.challenge (s : State) : State :=
  let r := s.nonce
  let bs := toLe 4 0x4B584251 ++ toLe 2 1 ++ toLe 1 s.lc.state ++ toLe 1 0 ++ toLe 8 s.blkId.toNat ++ toLe 6 s.fuse.pid ++
    toLe 10 0 ++ r.1
  { r.2 with lc := { r.2.lc with chal := some bs } }

/-- Answer the asker of a challenge: 0 LC_CMD, 1 TAP, 2 MCTP. -/
def State.chalAnswer (s : State) (who : Nat) : State :=
  let s := s.challenge
  if who = 0 then s.result rLcResult errNone 0
  else if who = 2 then { s with pln := { s.pln with trayBusy := s.pln.trayBusy - 1 } }.emit (.tray 0x31 0 (s.lc.chal.getD []))
  else s

/-- A challenge is asked for; its draw waits while the random source fails its test (R319). -/
def State.askChallenge (s : State) (who : Nat) : State :=
  let s := if who = 2 then { s with pln := { s.pln with trayBusy := s.pln.trayBusy + 1 } } else s
  if s.mix.healthy then s.chalAnswer who
  else { s with lc := { s.lc with chalWait := s.lc.chalWait ++ [who] } }.bump rMixGstat 47 32

/-- The digest's 48 octets. -/
def digest (bs : List Byte) : List Byte := toLe 48 (Config.sha384 bs)

/-- The reason code of a token against the challenge consumed. -/
def State.tokenReason (s : State) (t : List Byte) : Nat :=
  if 8 ≤ s.lc.fails then 7
  else match s.lc.chal with
    | none => 1
    | some ch =>
        if leAt t 0 4 ≠ 0x4B58424F ∨ leAt t 4 2 ≠ 1 ∨ 8 ≤ leAt t 6 2 ∨ leAt t 56 8 ≠ 0 then 2
        else if leAt t 6 2 = 0 then 6
        else if s.fuse.bordom.all (fun b => b == 0) ∨ digest ((t.drop 64).take 96) ≠ s.fuse.bordom then 3
        else if (t.drop 8).take 48 ≠ digest ch then 5
        else if Config.ecdsaVerify ((t.drop 64).take 96) (t.take 160) ((t.drop 160).take 96) = false then 4
        else 0

/-- In FIELD, an accepted DEBUG token starts the erase that reopens debug (R444). -/
def State.reopen (s : State) (scope : Nat) : State :=
  if s.lc.state = 3 ∧ scope.testBit 0 = true ∧ s.lcBusy = false then
    let n := s.fuse.userSize
    s.lcBegin { pairs := [], step := .wipe, sectors := n, erase := true, dump := s.rcv.dump.isSome, began := s.now, total := n }
  else s

/-- Submit a token of 256 bytes: the challenge is consumed, the reason is kept and handed to `answer`, then the erase a
DEBUG token asks for begins. -/
def State.submit (s : State) (token : List Byte) (answer : Nat → State → State) : State :=
  let t := (token ++ List.replicate 256 0).take 256
  let r := s.tokenReason t
  let scope := leAt t 6 2
  let fails := if r = 0 then s.lc.fails else min 255 (s.lc.fails + 1)
  let ok := if r = 0 then s.lc.scopeOk ||| scope else s.lc.scopeOk
  let s := { s with lc := { s.lc with chal := none, reason := r, fails := fails, scopeOk := ok } }
  let s := answer r s
  if r = 0 then s.reopen scope else s

/-! ### The random source's draws (R319) -/

def keyDraw (healthy : Bool) (s : State) : State :=
  let s := { s with mix := { s.mix with healthy := healthy } }
  if !healthy then s
  else
    let s := s.drawBlockKey
    let s := ((s.cabs.filter (fun e => e.2.keyWait)).map (·.1)).foldl (fun s n => s.drawKey n) s
    let s := s.mix.rekeyWait.foldl (fun s n => s.beginRekey n) s
    s.lc.chalWait.foldl (fun (s : State) who => s.chalAnswer who) { s with lc := { s.lc with chalWait := [] } }

/-- The random source's health test passes or fails; the draws that waited go on. -/
def execKeyDraw (healthy : Bool) (s : State) : Host.Outcome State Fault Refusal :=
  .next (if s.coreUp then keyDraw healthy s else s)

/-! ### LC_CMD (R447) -/

/-- The token in LC_TOKEN0-31. -/
def State.tokenRegs (s : State) : List Byte := (List.range 32).flatMap (fun k => toLe 8 (s.reg (rLcToken k)).toNat)

def lcSubmit (s : State) : State :=
  s.submit s.tokenRegs (fun r s => s.result rLcResult (if r = 0 then errNone else errArg) r)

def lcTransition (target : Nat) (s : State) : State :=
  match s.lcAnswer target with
  | .badTarget => s.result rLcResult errArg 0
  | .busy | .noScope => s.result rLcResult errState 0
  | .accepted => s.lcTransit target

/-- A write of LC_CMD. -/
def State.lcCmd (s : State) (v : Word) : State :=
  if fld v 3 0 = 0 then nopCommand rLcResult s
  else match s.accept rLcResult with
    | none => s.overrun rLcResult
    | some s =>
      if fld v 3 0 = 1 then s.askChallenge 0
      else if fld v 3 0 = 2 then lcSubmit s
      else if fld v 3 0 = 3 then lcTransition (fld v 10 8) s
      else s.result rLcResult errArg 0

def execLcNop (func : Func) (value : Word) (s : State) : Host.Outcome State Fault Refusal :=
  .next (s.platform func.val 0xF00008 (some (setFld value 3 0 0)) fun s => s.lcCmd (setFld value 3 0 0))
def execLcChallenge (func : Func) (value : Word) (s : State) : Host.Outcome State Fault Refusal :=
  .next (s.platform func.val 0xF00008 (some (setFld value 3 0 1)) fun s => s.lcCmd (setFld value 3 0 1))
def execLcSubmit (func : Func) (value : Word) (s : State) : Host.Outcome State Fault Refusal :=
  .next (s.platform func.val 0xF00008 (some (setFld value 3 0 2)) fun s => s.lcCmd (setFld value 3 0 2))
def execLcTransition (func : Func) (value : Word) (s : State) : Host.Outcome State Fault Refusal :=
  .next (s.platform func.val 0xF00008 (some (setFld value 3 0 3)) fun s => s.lcCmd (setFld value 3 0 3))

end Sys2Proof.Machine
end

