-- ==== Sys2Proof/Machine/HostPorts.lean ====
section
/-! DEFINITION. The host gate's port (R474 to R477): BAR4 accesses, function configuration, function-level resets, and the
completions of translations, page requests and host reads. -/
namespace Sys2Proof.Machine

/-! ### BAR4 (R475) -/

/-- Device memory as a function sees it: PLATFORM's, or the cabinet's it is bound to. -/
def State.hostMaster (s : State) (func : Nat) : Option Master := if func = 0 then some .platform else (s.boundCab func).map Master.cab

/-- A denied or failing write is dropped; such a read has a completion with Completer Abort. -/
def State.hostAccess (s : State) (a : HostAccess) : State :=
  match s.hostMaster a.func, a.data with
  | none, some _ => s
  | none, none => s.emit .abort
  | some m, some bs => (s.devWrite { m := m, unit := uHost } a.addr bs).2
  | some m, none =>
    match s.devRead { m := m, unit := uHost } a.addr a.len with
    | (.ok bs, s) => s.emit (.bytes bs)
    | (.bad _ _, s) => s.emit .abort

/-- A stop serves reads of the observation shelf and the Chest (R462). -/
def State.stopLets (s : State) (a : HostAccess) : Bool :=
  !s.ou.unitsStopped || (a.data.isNone && (s.chest a.addr || s.obsShelf a.addr))

/-- An access through BAR4; it wakes the block, and waits while a stop or the Host Gate's reset holds it. -/
def hostMemory (a : HostAccess) (s : State) : State :=
  if !s.hostUp || a.len == 0 || decide (4096 < a.len) then s
  else if s.stopLets a && !s.resetting uHost then (s.wakeBlock 1).hostAccess a
  else { s with hg := { s.hg with held := s.hg.held ++ [a] } }

/-- An inbound access through BAR4: a posted write of `data`, or a read of `len` bytes. -/
def execHostMemoryAccess (func : Func) (addr : Fin 17592186044416) (len : Fin 4097) (data : Option (List Byte)) (s : State) :
    Host.Outcome State Fault Refusal :=
  .next (hostMemory { func := func.val, addr := addr.val, len := (data.map List.length).getD len.val, data := data } s)

/-- What a stop or a reset held is carried out at its end, oldest first. -/
def State.releaseHost (s : State) : State :=
  let l := s.hg.held
  l.foldl (fun (s : State) a => hostMemory a s) { s with hg := { s.hg with held := [] } }

/-! ### Completions of translations and page requests (R125, R127) -/

/-- A completion that grants the request fills a leaf of its size; another is a host fault. -/
def atsAnswer (q : Req) (present r w : Bool) (addr size : Nat) (s : State) : State :=
  if present && (if q.write then w else r) then
    let n := max 4096 size
    let s := s.fill { cab := q.cab, ctx := q.ctx, va := q.va / n * n, size := n, pa := addr, w := q.leafW, rm := false,
                      host := true, hw := w, hr := r }
    releaseReq q (if q.capped then s.capLook q.cab else s)
  else hostFault { q with since := s.mono } s

/-- A completion whose requester has gone changes nothing; one that answers no request breaks the protocol (R473). -/
def atsDone (req : Nat) (present r w : Bool) (addr size : Nat) (s : State) : State :=
  let mine := s.tu.atsOpen.contains req
  let s := { s with tu := { s.tu with atsOpen := s.tu.atsOpen.filter (fun x => x != req) } }
  match s.tu.reqs.find? (fun q => q.id == req && q.phase == .ats) with
  | some q => atsAnswer q present r w addr size s
  | none => if mine then s else s.faultOn uHost 6 none

/-- An ATS Translation Completion. -/
def execAtsCompletion (req : Nat) (present r w : Bool) (addr size : Nat) (s : State) :
    Host.Outcome State Fault Refusal :=
  .next (s.work uTu (atsDone req present r w addr size))

/-- 0 Success, 1 Invalid Request, 15 Response Failure (R127); one that answers no group breaks the protocol (R473). -/
def prgDone (group code : Nat) (s : State) : State :=
  let mine := s.tu.reqs.filter (fun r => r.phase == .pri group)
  if mine.isEmpty && !s.tu.priOpen.any (fun e => e.1 == group) then s.faultOn uHost 6 none
  else
    let stop := (s.tu.priOpen.filter (fun e => e.1 == group && code == 15)).map (·.2)
    let s := { s with tu := { s.tu with
      priOpen := s.tu.priOpen.filter (fun e => e.1 != group),
      priOff := (stop.filter (fun f => !s.tu.priOff.contains f)) ++ s.tu.priOff } }
    let s := mine.foldl (fun s r =>
      if code = 0 then (s.setReq { r with phase := .ats }).askAts r.id r.cab r.ctx r.va r.write
      else (s.failReq r stXlate uTu true).priFail) s
    priRefill s

/-- A PRG Response. -/
def execPrgResponse (group : Nat) (code : Fin 16) (s : State) : Host.Outcome State Fault Refusal :=
  .next (s.work uTu (prgDone group code.val))

/-! ### Function configuration (R476) -/

/-- PRI that is disabled may ask again once it is enabled (R127). -/
def functionConfig (func : Nat) (data : Word) (s : State) : State :=
  let w := setFld data 31 10 0
  let s := { s with hg := { s.hg with cfg := mapSet 0 func w s.hg.cfg } }
  let s := if fld w 8 8 = 0 then { s with tu := { s.tu with priOff := s.tu.priOff.filter (fun f => f != func) } } else s
  if s.frozen then s else priRefill s

def execFunctionConfig (func : Func) (data : Word) (s : State) : Host.Outcome State Fault Refusal :=
  .next (if s.hostUp then functionConfig func.val data s else s)

/-! ### Function-level reset (R40, R477) -/

/-- Every context of the function's cabinet is torn down; a function bound to none is answered at once. -/
def flr (func : Nat) (s : State) : State :=
  if s.hg.flr.any (fun f => f.1 == func) then s
  else match (if func = 0 then none else s.boundCab func) with
    | none => s.emit (.flrDone func)
    | some n =>
      let cs := (s.drw.ctxs.filter (fun e => e.1 / 16384 == n && e.2.st == .live)).map (fun e => e.1 % 16384)
      let s := cs.foldl (fun s x => s.beginTeardown n x false none) s
      { s with hg := { s.hg with flr := s.hg.flr ++ [(func, n)] } }.endFlrs

def execFlr (func : Func) (s : State) : Host.Outcome State Fault Refusal :=
  .next (if s.hostUp then flr func.val (s.wakeBlock 1) else s)

/-! ### Completions of host reads (R474) -/

/-- A completion tells what host memory holds, or that reads of these lines complete in error (log 9). -/
def hostCompletion (addr : Nat) (data : Option (List Byte)) (s : State) : State :=
  match data with
  | some bs =>
    let mine (l : Nat) : Bool := overlaps (l * 128) 128 addr bs.length
    { s with hostMem := memWrite addr bs s.hostMem, tu := { s.tu with badHost := s.tu.badHost.filter (fun l => !mine l) } }
  | none => if s.tu.badHost.contains (addr / 128) then s else { s with tu := { s.tu with badHost := (addr / 128) :: s.tu.badHost } }

def execHostReadCompletion (addr : Fin 18446744073709551616) (data : Option (List Byte)) (s : State) :
    Host.Outcome State Fault Refusal :=
  .next (if s.hostUp then hostCompletion addr.val data s else s)

end Sys2Proof.Machine
end

