-- ==== Sys2Proof/Machine/Observe.lean ====
section
/-! DEFINITION. The Observation Unit (chapter 16): the observation shelf's regions, the counter selections, the sampler,
the sensors, the trace mark, and the global stop but for its capture. -/
namespace Sys2Proof.Machine

/-! ### Regions of the observation shelf (R449) -/

/-- The sampler ring, the trace ring and the stop area: first byte from the shelf's base, and length. -/
def smpRegion (c : Word) : Nat × Nat := (fld c 63 40 * 65536, 2 ^ fld c 36 32 * 1024)
def trcRegion (c : Word) : Nat × Nat := (fld c 63 40 * 65536, 2 ^ fld c 36 32 * 64)
def stopRegion (c : Word) : Nat × Nat := (fld c 63 40 * 65536, fld c 23 0 * 65536)

/-- The regions enabled. -/
def State.ouRegions (s : State) : List (Nat × Nat) :=
  (if s.rfld rSmpCfg 31 31 = 1 then [smpRegion (s.reg rSmpCfg)] else []) ++
  (if s.rfld rTrcCfg 31 31 = 1 then [trcRegion (s.reg rTrcCfg)] else []) ++
  (if s.ou.stop != .idle then [stopRegion (s.reg rStopArea)] else [])

/-- A region may be enabled beside others. -/
def State.regionFits (s : State) (r : Nat × Nat) (others : List (Nat × Nat)) : Bool :=
  s.rfld rOuSize 27 0 != 0 && decide (r.1 + r.2 ≤ s.rfld rOuSize 27 0 * 65536) && others.all (fun o => !overlaps r.1 r.2 o.1 o.2)

/-- A write of a ring's configuration: EN is set only where the ring may stand; setting it clears the ring's counts. -/
def State.ringEnable (s : State) (cfg stat : Nat) (v : Word) (region : Word → Nat × Nat) (logMax : Nat) (clear : OuUnit → OuUnit) : State :=
  let was := s.rfld cfg 31 31
  let off := s.setReg cfg (setFld v 31 31 0)
  if fld v 31 31 = 0 then off
  else if 4 ≤ fld v 36 32 && decide (fld v 36 32 ≤ logMax) && off.regionFits (region v) off.ouRegions then
    let s := s.setReg cfg v
    if was = 1 then s else { s.setReg stat 0 with ou := clear s.ou }
  else off

/-- A write of OU_SMP_CFG; an interval out of range leaves the field as it was. -/
def smpWrite (v : Word) (s : State) : State :=
  let i := fld v 19 0
  let v := pack [(40, fld v 63 40), (32, fld v 36 32), (31, fld v 31 31), (30, fld v 30 30),
    (0, if 1 ≤ i ∧ i ≤ 1000000 then i else s.rfld rSmpCfg 19 0)]
  s.ringEnable rSmpCfg rSmpStat v smpRegion 20 (fun u => { u with smpCount := 0 })

/-- A write of OU_TRC_CFG. -/
def trcWrite (v : Word) (s : State) : State :=
  let v := pack [(40, fld v 63 40), (32, fld v 36 32), (31, fld v 31 31), (30, fld v 30 30), (24, fld v 24 24), (16, fld v 23 16),
    (0, fld v 8 0)]
  s.ringEnable rTrcCfg rTrcStat v trcRegion 24 (fun u => { u with trcCount := 0 })

def execOuSmpEnable (func : Func) (value : Word) (s : State) : Host.Outcome State Fault Refusal :=
  .next (s.platform func.val rSmpCfg (some (setFld value 31 31 1)) fun s => smpWrite (setFld value 31 31 1) s)
def execOuTrcEnable (func : Func) (value : Word) (s : State) : Host.Outcome State Fault Refusal :=
  .next (s.platform func.val rTrcCfg (some (setFld value 31 31 1)) fun s => trcWrite (setFld value 31 31 1) s)

/-! ### The counter bank (R453) -/

def rOuGen : Nat := 0xA00018

/-- A write of OU_CSEL(k). -/
def cselWrite (k : Nat) (v : Word) (s : State) : State :=
  let s := s.setReg (rCsel k) (pack [(20, fld v 31 20), (16, fld v 16 16), (8, fld v 15 8), (0, fld v 7 0)])
  (s.setReg (rCtr k) 0).setRfld rOuGen 31 0 (s.rfld rOuGen 31 0 + 1)

def execOuCselWrite (func : Func) (k : Fin 64) (value : Word) (s : State) : Host.Outcome State Fault Refusal :=
  .next (s.platform func.val (rCsel k.val) (some value) fun s => cselWrite k.val value s)

/-! ### Sensors (R456) -/

/-- OU_SNS_LAST(i). -/
def State.sensor (s : State) (i : Nat) : Word :=
  match mapFind i s.ou.sensors with
  | some (v, k, t) => pack [(0, v), (32, k), (40, i), (48, min ((s.now - t) / 1000) 65535)]
  | none => 0

def sensorReading (i kind value : Nat) (s : State) : State :=
  if 4 < kind then s else { s with ou := { s.ou with sensors := mapPut i (value, kind, s.now) s.ou.sensors } }

/-- A reading on the sensor port. -/
def execSensorReading (index : Fin 16) (kind : Byte) (value : BitVec 32) (s : State) : Host.Outcome State Fault Refusal :=
  .next (if s.coreUp then sensorReading index.val kind.toNat value.toNat s else s)

/-- The 16 entries. -/
def State.sensorBytes (s : State) : List Byte := (List.range 16).flatMap (fun i => toLe 8 (s.sensor i).toNat)

/-! ### The sampler (R454, R455) -/

/-- A CTXS entry. -/
def State.ctxEntry (s : State) (j : Nat) : List Byte :=
  let c := s.reg (0xA00140 + 8 * j)
  let n := fld c 21 14
  let x := s.ctx n (fld c 13 0)
  if fld c 31 31 = 0 then List.replicate 32 0
  else
    let ok := x.st == .live
    toLe 1 n ++ toLe 1 (bit ok) ++ toLe 2 (fld c 13 0) ++ toLe 4 0 ++
      if ok then toLe 8 (sat64 (x.busyNs + s.busyNow n (some (fld c 13 0)))) ++ toLe 8 (sat64 x.memBytes) ++ toLe 8 (sat64 x.completed)
      else List.replicate 24 0

/-- A sampler record of instant `t`. -/
def sampleRecord (s : State) (t ph : Nat) : List Byte :=
  toLe 8 (s.ou.smpCount % 2 ^ 32 * 2 ^ 32 + ph) ++ toLe 8 t ++ toLe 4 (s.rfld rSmpCfg 19 0) ++ toLe 4 (s.rfld rOuGen 31 0) ++
  toLe 2 (s.rfld rPlnClk 11 0) ++ toLe 1 s.pln.power ++ toLe 1 0 ++ toLe 4 s.ou.missed ++
  toLe 2 (bit s.ou.wasStopped + 2 * bit s.ou.resync) ++ toLe 30 0 ++ s.sensorBytes ++
  (List.range 64).flatMap (fun k => toLe 8 (s.reg (rCtr k)).toNat) ++ (List.range 8).flatMap s.ctxEntry ++ toLe 64 0

def sampleInstant (s : State) : State :=
  let i := s.rfld rSmpCfg 19 0 * 1000
  let t := s.now / i * i
  if s.rfld rSmpCfg 31 31 = 1 && s.pln.power == 0 && decide (s.now - t < 40) && s.ou.smpAt != some t then
    let r := if s.resetting uOu then (s.bump rSmpStat 63 48, false)
      else s.ouRecord rSmpCfg rSmpHead rSmpStat s.ou.smpCount 1024 (fun ph => sampleRecord s t ph)
    let u := r.1.ou
    { r.1 with ou :=
      if r.2 then { u with smpAt := some t, smpCount := u.smpCount + 1, missed := 0, wasStopped := false, resync := false }
      else { u with smpAt := some t, missed := min (u.missed + 1) (2 ^ 32 - 1) } }
  else s

/-- The timestamp reaches a multiple of INTERVAL_US; in a reset of the unit the sample is discarded (log 168). -/
def execSampleInstant (s : State) : Host.Outcome State Fault Refusal :=
  .next (if s.frozen then s else sampleInstant s)

/-! ### The trace mark (R457, R460) -/

def traceMark (v : Word) (s : State) : State :=
  (s.trace 0x09 uHost none none (fld v 31 0) 0).stopTrigger 2

def execOuTrcMarkWrite (func : Func) (value : Word) (s : State) : Host.Outcome State Fault Refusal :=
  .next (s.platform func.val 0xA00218 (some value) fun s => traceMark value s)

/-! ### The global stop (R460 to R465) -/

def stopSchedule (id : Nat) (s : State) : State :=
  let t := (s.reg 0xA00308).toNat
  if s.ou.stop != .idle then s.result rStopResult errState 0
  else if t < s.now + 2000 || !s.regionFits (stopRegion (s.reg rStopArea)) s.ouRegions then s.result rStopResult errArg 0
  else
    let ou := { s.ou with stop := .armed, cause := 1, stopId := id, t := t, tu := t, fabric := s.rfld rStopCfg 8 8 == 1 }
    ({ s with ou := ou }.traceStop).result rStopResult errNone 0

def stopCancel (s : State) : State :=
  match s.ou.stop with
  | .armed => ({ s with ou := { s.ou with stop := .idle } }.traceStop).result rStopResult errNone 0
  | _ => s.result rStopResult errState 0

/-- Paces start again, and the running interval judges nothing (R316, R463). -/
def State.restartPaces (s : State) : State :=
  let gates := s.sg.map (fun e => (e.1, { e.2 with pace := [], waits := [], served := [], paused := true, held := true }))
  { s with sg := gates, fr := { s.fr with tx := [], pace := [], held := true }, cabs := s.cabs.map (fun e => (e.1, { e.2 with fabWait := false })) }

/-- Every unit resumes: held completions first, then each port's ledger in its recorded order, then deferred faults. -/
def State.stopResume (s : State) : State :=
  let asked := s.ou.resume
  let ou := { s.ou with stop := .idle, unitsStopped := false, resume := false, wasStopped := true }
  let s := ({ s with ou := ou }.restartPaces).releaseHeld
  let s := ((List.range 48).filter (fun p => (s.port p).st != .held)).foldl (fun (s : State) p => s.releasePort p) s
  let s := ((s.traceStop).releaseHost).takeDeferred
  if asked then s.result rStopResult errNone 0 else s

/-- RESUME: at once when STOPPED; held while STOPPING. -/
def stopAskResume (s : State) : State :=
  let held := { s with ou := { s.ou with resume := true } }
  match s.ou.stop with
  | .stopped => held.stopResume
  | .stopping => held
  | _ => s.result rStopResult errState 0

/-- A write of OU_STOP_CMD. -/
def State.stopCmd (s : State) (v : Word) : State :=
  if fld v 3 0 = 0 then nopCommand rStopResult s
  else match s.accept rStopResult with
    | none => s.overrun rStopResult
    | some s =>
      if fld v 3 0 = 1 then stopSchedule (fld v 31 16) s
      else if fld v 3 0 = 2 then stopCancel s
      else if fld v 3 0 = 3 then stopAskResume s
      else s.result rStopResult errArg 0

def execOuStopNop (func : Func) (value : Word) (s : State) : Host.Outcome State Fault Refusal :=
  .next (s.platform func.val 0xA00300 (some (setFld value 3 0 0)) fun s => s.stopCmd (setFld value 3 0 0))
def execOuStopSchedule (func : Func) (value : Word) (s : State) : Host.Outcome State Fault Refusal :=
  .next (s.platform func.val 0xA00300 (some (setFld value 3 0 1)) fun s => s.stopCmd (setFld value 3 0 1))
def execOuStopCancel (func : Func) (value : Word) (s : State) : Host.Outcome State Fault Refusal :=
  .next (s.platform func.val 0xA00300 (some (setFld value 3 0 2)) fun s => s.stopCmd (setFld value 3 0 2))
def execOuStopResume (func : Func) (value : Word) (s : State) : Host.Outcome State Fault Refusal :=
  .next (s.platform func.val 0xA00300 (some (setFld value 3 0 3)) fun s => s.stopCmd (setFld value 3 0 3))

def stopTime (s : State) : State :=
  match s.ou.stop with
  | .armed => if s.ou.t ≤ s.now then s.enterStopping s.ou.cause s.ou.t s.ou.t s.ou.fabric else s
  | _ => s

/-- The timestamp reaches T: the fabric is cut. -/
def execStopTimeReached (s : State) : Host.Outcome State Fault Refusal := .next (if s.coreUp then stopTime s else s)

def unitsStop (s : State) : State :=
  match s.ou.stop with
  | .stopping => if s.ou.tu ≤ s.now then { s with ou := { s.ou with unitsStopped := true } } else s
  | _ => s

/-- The timestamp reaches T_u: no unit advances any longer. -/
def execUnitsStop (s : State) : Host.Outcome State Fault Refusal := .next (if s.coreUp then unitsStop s else s)

/-- 1 ms after T_u the port records are due with whatever their ledgers hold. -/
def execStopPortRecordTimer (s : State) : Host.Outcome State Fault Refusal :=
  .next (if s.ou.stop == .stopping && s.ou.unitsStopped && decide (s.ou.tu + 1000000 ≤ s.now) then
    { s with ou := { s.ou with portsDue := true } } else s)

def stopAuto (s : State) : State :=
  let m := s.rfld rStopCfg 47 16
  if s.ou.stop == .stopped && m != 0 && decide (s.ou.tu + m * 1000 ≤ s.now) then (s.bump rOuGstat 31 16).stopResume else s

/-- MAX_US have passed since T_u. -/
def execStopAutoResume (s : State) : Host.Outcome State Fault Refusal := .next (if s.coreUp then stopAuto s else s)

/-- OU_STOP_STAT. -/
def State.stopStat (s : State) : Word :=
  let st := match s.ou.stop with | .idle => 0 | .armed => 1 | .stopping => 2 | .stopped => 3
  pack [(48, s.ou.stopId), (7, bit s.ou.incomplete), (4, s.ou.cause), (0, st)]

end Sys2Proof.Machine
end

