-- ==== Sys2Proof/Machine/Views.lean ====
section
/-! DEFINITION. What every register reads (chapter 18): stored registers, and those that show a unit's state. -/
namespace Sys2Proof.Machine

/-! ### BLK and PLN -/

/-- RCV_EPVIEW, as RCV_EPSEL selects (R398). -/
def State.epView (s : State) : Word :=
  let sel := s.reg 0x1028
  if fld sel 12 12 = 1 then pack [(0, mapGet 1 (fld sel 7 0) s.rcv.cabEp)]
  else
    let v := s.unitSt (fld sel 11 0)
    pack [(32, v.phase.code), (0, v.epoch)]

/-- BLK_POPIO: populated gates, C, and whether their capacities differ (R483). -/
def State.popIo (s : State) : Word :=
  let c := if s.tie.gates = [] then 0 else s.capGib
  pack [(24, bit (s.tie.gates.any (fun g => g != c))), (16, c), (0, 2 ^ s.gateCount - 1)]

/-- PWR_CSTATEk. -/
def State.cstates (s : State) (k : Nat) : Word :=
  pack ((List.range 32).map (fun j =>
    let n := 32 * k + j
    (2 * j, if s.pln.entries.any (fun e => e.cab == some n) then 3 else (s.cab n).power)))

def State.viewBlk (s : State) (off : Nat) : Option Word :=
  if off = 0 then some s.blkId
  else if off = 0x108 then some s.popIo
  else if off = 0x110 then some (pack [(0, s.tie.ports)])
  else if 0x120 ≤ off ∧ off < 0x140 then some (BitVec.ofNat 64 (s.tie.tiles / 2 ^ (64 * ((off - 0x120) / 8))))
  else if off = 0x1030 then some s.epView
  else if off = 0x10000 then some s.plnBoot
  else if off = 0x10008 then some (pack [(41, s.pln.cabRecs), (32, s.pln.tables), (0, s.pln.svn)])
  else if off = 0x10010 then some (BitVec.ofNat 64 s.now)
  else if off = 0x10058 then some s.pwrState
  else if 0x10C00 ≤ off ∧ off < 0x10C40 then some (s.cstates ((off - 0x10C00) / 8))
  else none

/-! ### Cabinet windows -/

/-- CAB_STATUS (R25). -/
def State.cabStatus (s : State) (n : Nat) : Word :=
  let c := s.cab n
  pack [(16, c.gen), (12, bit c.dropped), (8, c.err), (4, bit (c.st == .live && s.request n != c.conf)), (3, bit (c.work != .none)),
    (0, c.st.code)]

def DrawerState.code : DrawerState → Nat
  | .free => 0 | .live => 1 | .stopping => 2 | .stopped => 3 | .error => 4 | .dying => 5

/-- Word `k` of DRW_VIEW0-7 (R62). -/
def State.drawerView (s : State) (n i k : Nat) : Word :=
  let d := s.drawer n i
  if d.st = .free then 0
  else match k with
    | 0 => pack [(0, d.ringBase)]
    | 1 => pack [(0, d.cqBase)]
    | 2 => pack [(48, d.st.code), (32, d.ctx), (0, d.cfg)]
    | 3 => pack [(32, d.head), (0, d.tail)]
    | 4 => pack [(32, s.doneLow n i % 2 ^ 32), (0, d.cqHead)]
    | 5 => pack [(0, d.nextSeq)]
    | 6 => pack [(32, d.dbCount), (0, s.inflight n i)]
    | _ => pack [(8, d.lastUnit), (0, d.lastErr)]

def LatchState.code : LatchState → Nat
  | .free => 0 | .watch => 1 | .armed => 2 | .spent => 3

/-- Word `k` of LAT_VIEW0-3 (R111). -/
def State.latchView (s : State) (i k : Nat) : Word :=
  let l := s.latch i
  if l.st = .free then 0
  else match k with
    | 0 => pack [(53, bit l.mirrorEn), (52, bit l.exportEn), (51, bit l.host), (48, l.st.code), (32, l.ctx), (0, l.fence)]
    | 1 => pack [(63, bit l.errored), (0, l.last % 2 ^ 63)]
    | 2 => pack [(0, if l.st = .watch then 0 else l.threshold)]
    | _ => pack [(48, l.exportId), (32, min l.regress 65535), (16, min l.lower 65535), (0, (s.waiters i).length)]

def State.viewWindow (s : State) (n o : Nat) : Option Word :=
  if o = 0x008 then some (s.cabStatus n)
  else if o = 0x058 then some (s.useA n)
  else if o = 0x060 then some (s.useB n)
  else if 0x400 ≤ o ∧ (s.cab n).st ≠ .live then some (regReset (rWin n + o))
  else if 0x480 ≤ o ∧ o < 0x4C0 then some (s.drawerView n (s.rfld (rWin n + 0x468) 12 0) ((o - 0x480) / 8))
  else if 0x840 ≤ o ∧ o < 0x860 then
    let i := s.rfld (rWin n + 0x838) 13 0
    some (if (s.latch i).cab = n then s.latchView i ((o - 0x840) / 8) else 0)
  else none

/-! ### Drawer Engine, Latch Unit, Translation Unit, Step Batcher -/

def State.viewDrwLat (s : State) (off : Nat) : Option Word :=
  if 0x200040 ≤ off ∧ off < 0x200080 then
    let g := s.rfld 0x200000 20 0
    some (s.drawerView (g / 8192) (g % 8192) ((off - 0x200040) / 8))
  else if off = 0x300008 then
    let l := s.latch (s.rfld 0x300000 13 0)
    some (pack [(8, bit (l.st != .free)), (0, l.cab)])
  else if 0x300040 ≤ off ∧ off < 0x300060 then some (s.latchView (s.rfld 0x300000 13 0) ((off - 0x300040) / 8))
  else none

/-- TU_FQ_STAT(n): PRODUCED is stored (R153). -/
def State.fqStat (s : State) (n : Nat) : Word :=
  let mine := s.tu.faults.filter (fun r => r.cab == n)
  pack [(48, bit (mine.any (fun r => !r.written && !s.fqRoom r))), (32, min 65535 (mine.filter (·.written)).length),
    (0, s.rfld (rFqStat n) 31 0)]

def State.viewTu (s : State) (off : Nat) : Option Word :=
  if 0x410000 ≤ off ∧ off < 0x412000 ∧ off % 0x20 = 0x18 then some (s.fqStat ((off - 0x410000) / 0x20)) else none

def State.sbStat (s : State) (n : Nat) : Word :=
  let c := s.sbc n
  pack [(48, if c.st == .off then 0 else s.windowSize n), (32, c.groups.length), (16, c.reqs.length), (4, c.err), (0, c.state)]

/-! ### Tile Scheduler (R209) -/

/-- Word `k` of TS_TVIEW0-1. -/
def State.tileView (s : State) (t k : Nat) : Word :=
  let x := s.tile t
  if k = 0 then
    pack [(32, x.lastStatus), (14, (x.resident.getD ((x.last.map (·.1)).getD 0))), (12, bit (x.last.any (fun l => x.resident.getD l.1 == l.1))), (11, bit x.killing),
      (10, bit x.resident.isSome), (9, bit x.busy), (8, bit x.cab.isSome), (0, x.cab.getD 0)]
  else pack (x.keys.zipIdx.map (fun e => (16 * e.2, e.1)))

def Resid.code : Resid → Nat
  | .unbound => 0 | .out => 1 | .inProgress => 2 | .resident => 3 | .outProgress => 4 | .lost => 5

/-- Word `k` of TS_CVIEW0-1. -/
def State.ctxView (s : State) (n c k : Nat) : Word :=
  let x := s.ctx n c
  if x.st = .free then 0
  else if k = 0 then pack [(0, x.saveVa)]
  else
    let blocked := match x.blockedAt with | some t => min ((s.mono - t) / 1000) 65535 | none => 0
    pack [(48, blocked), (32, x.lostUnit), (24, x.lostStatus), (8, x.stiles), (6, bit x.nosave), (5, bit x.pin),
      (3, s.activity n c), (0, x.resid.code)]

def State.tsStat (s : State) (n : Nat) : Word :=
  let ts := s.tilesOf n
  let free := ts.filter (fun t => !(s.tile t).busy && (s.tile t).resident.isNone)
  let res := s.drw.ctxs.filter (fun e => e.1 / 16384 == n && e.2.resid == .resident)
  pack [(48, ts.length), (32, free.length), (16, min res.length 511), (0, min (s.ts.cmds.filter (fun c => c.cab == n && s.ready c)).length 65535)]

def State.viewSbTs (s : State) (off : Nat) : Option Word :=
  if 0x510000 ≤ off ∧ off < 0x514000 then
    let n := (off - 0x510000) / 0x40
    let o := off % 0x40
    if o = 0x10 then some (s.sbStat n)
    else if o = 0x18 then some (pack [(0, (s.sbc n).step % 2 ^ 48)])
    else if o = 0x20 then some (s.sbc n).last
    else none
  else if off = 0x520108 ∨ off = 0x520110 then some (s.tileView (s.rfld 0x520100 7 0) ((off - 0x520108) / 8))
  else if off = 0x520208 ∨ off = 0x520210 then
    some (s.ctxView (s.rfld 0x520200 21 14) (s.rfld 0x520200 13 0) ((off - 0x520208) / 8))
  else if 0x530000 ≤ off ∧ off < 0x532000 ∧ off % 0x20 = 8 then some (s.tsStat ((off - 0x530000) / 0x20))
  else none

/-! ### Movement Engine (R227, R236) -/

/-- CH_CTRL.STATE. -/
def Chan.stateCode (c : Chan) : Nat :=
  if c.dying then 5
  else match c.st with
    | .free => 0 | .idle => 1 | .run => 2 | .draining => 3 | .paused | .pausedReady => 4

/-- A register of a channel's window. -/
def State.chanReg (s : State) (i o : Nat) : Word :=
  let c := s.chan i
  if o = 0 then pack [(0, c.srcNow % 2 ^ 57)]
  else if o = 8 then pack [(0, c.dstNow % 2 ^ 57)]
  else if o = 0x10 then pack [(0, c.countNow)]
  else if o = 0x18 then
    pack [(24, c.status), (20, c.dfmt), (16, c.sfmt), (10, c.stateCode), (9, bit c.anon), (8, bit c.sat), (5, bit c.done),
      (4, bit c.phys), (1, bit c.pause), (0, bit c.direct)]
  else if o = 0x20 then pack [(48, c.cab), (32, c.ctx), (0, if c.st = .free then 0 else chanHandle c.gen i)]
  else if o = 0x28 then match c.cur with
    | some (d, q) => pack [(63, 1), (48, d), (0, q)]
    | none => 0
  else if o = 0x30 then BitVec.ofNat 64 (sat64 c.bytes)
  else 0

def State.viewMe (s : State) (off : Nat) : Option Word :=
  if 0x600000 ≤ off ∧ off < 0x640000 then some (s.chanReg ((off - 0x600000) / 0x100) (off % 0x100))
  else if off = 0x640008 then some (pack [(32, 8192 - s.slotsUsed), (0, s.chansFree)])
  else none

/-! ### Dispatch-Combine Engine and function tables (R268, R292) -/

/-- Word `k` of DCE_LVIEW0-2. -/
def State.landView (s : State) (k : Nat) : Word :=
  match s.dce.landings.find? (fun l => l.cab == s.rfld rDceLsel 7 0 && l.group == s.rfld rDceLsel 11 8) with
  | none => 0
  | some l =>
    if k = 0 then pack [(32, l.handle), (16, l.ctx), (2, bit (match (s.arriveBad l).1 with | .ok b => b | _ => false)), (1, bit l.bufs2), (0, 1)]
    else if k = 1 then pack [(32, l.cap), (16, l.ranks), (0, l.lexperts)]
    else match l.last.filterMap id with
      | [] => pack [(63, 1)]
      | x :: r => pack [(0, r.foldl max x)]

def SlotState.code : SlotState → Nat
  | .free => 0 | .loading => 1 | .held => 2 | .replacing => 3 | .freeing => 4

/-- FT_VIEW0. -/
def State.slotView (s : State) (k : Nat) : Word :=
  let x := s.slot k
  let refs := (s.ft.refs.filter (fun r => r.slot == k)).length
  pack [(48, x.version % 65536), (32, min refs 65535), (16, x.st.code), (14, tblKind x.bytes), (13, bit (tblNeg x.bytes)),
    (12, bit (tblMono x.bytes)), (11, bit x.image), (0, if x.image then 0 else x.cab)]

def State.viewDce (s : State) (off : Nat) : Option Word :=
  if off = 0x700010 then
    some (pack [(32, 1024 - s.dce.tickets.length), (0, (s.dce.sets.filter (·.staged)).length)])
  else if 0x700108 ≤ off ∧ off < 0x700120 then some (s.landView ((off - 0x700108) / 8))
  else if off = 0x720000 then
    some (pack [(40, bit s.ft.exp.isSome), (32, s.ft.exp.getD 0), (16, s.imageSlots),
      (0, 256 - (s.ft.slots.filter (fun e => e.2.st != .free)).length)])
  else if off = 0x720010 then some (s.slotView (s.rfld 0x720008 7 0))
  else none

/-! ### Gates and mix (R313, R342) -/

/-- SG_FSUM: the floors in force at a gate, and how many masters hold one (R301). -/
def State.floorSum (s : State) (g : Nat) : Word :=
  let fs := (List.range 0x102).map (s.gateFloor g)
  pack [(16, (fs.filter (· != 0)).length), (0, fs.sum)]

/-- MIX_QVIEW. -/
def State.quarView (s : State) : Word :=
  match mapGet none (s.rfld 0x8D0040 5 0) s.mix.quar with
  | some q => pack [(63, 1), (59, q.level), (55, q.slot), (47, q.cab), (13, q.first / 8192)]
  | none => 0

/-- MIX_SHELF(n). -/
def State.mixShelf (s : State) (n : Nat) : Word :=
  let w := mapGet 0 n s.mix.whole
  match mapGet none n s.mix.rekey with
  | some r => pack [(63, 1), (47, w), (16, r.wm / 65536)]
  | none => pack [(47, w)]

def State.viewMix (s : State) (off : Nat) : Option Word :=
  if 0x800000 ≤ off ∧ off < 0x8C0000 ∧ off % 0x10000 = 0x20 then some (s.floorSum ((off - 0x800000) / 0x10000))
  else if off = 0x8D0048 then some s.quarView
  else if 0x8D1000 ≤ off ∧ off < 0x8D1800 then some (s.mixShelf ((off - 0x8D1000) / 8))
  else none

/-! ### Fabric (R366) -/

def PortState.code : PortState → Nat
  | .down => 0 | .disc => 1 | .up => 2 | .miswired => 3 | .held => 4

def LedgerState.code : LedgerState → Nat
  | .none => 0 | .opened => 1 | .closed => 2 | .unmarked => 3

/-- UP ports of eight lanes in the dimension that has fewest. -/
def State.minDimPorts (s : State) : Nat :=
  let per (d : Nat) : Nat := ((List.range 48).filter (fun p =>
    (s.port p).upHeld && (s.port p).lanes == 8 && s.portDim p == d)).length
  match (List.range s.dims).map per with
  | [] => 0
  | x :: r => r.foldl min x

/-- FR_STAT: FLOOR_REJ is stored. With no dimension in use nothing is degraded (log 90). -/
def State.frStat (s : State) : Word :=
  let on := s.rfld rFrCfg 8 8 == 1 && s.dims != 0
  let up := ((List.range 48).filter (fun p => (s.port p).upHeld)).length
  let v2 := (List.range 48).any (fun p => (s.port p).upHeld && (s.port p).ver == 2)
  let m := if on then s.minDimPorts else 0
  pack [(16, m), (8, up), (2, s.rfld rFrStat 2 2), (1, bit v2), (0, bit ((on && decide (m < 12)) || v2))]

/-- PG_STAT, PG_LEDGER, PG_LEDGER_B and PG_PEERLEDGER of a port. -/
def State.portReg (s : State) (p o : Nat) : Option Word :=
  let x := s.port p
  if o = 0x08 then
    some (pack [(32, x.nport), (16, x.node), (8, x.lanes), (4, if x.upHeld then x.ver else 0), (0, x.st.code)])
  else if o = 0x18 then some (pack [(62, x.lstate.code), (32, x.lstop), (0, x.lcount)])
  else if o = 0x20 then some (pack [(0, x.lbytes)])
  else if o = 0x28 then some (pack [(32, x.pstop), (0, x.ppkts)])
  else none

def State.viewFab (s : State) (off : Nat) : Option Word :=
  if off = 0x900010 then some s.frStat
  else if off = 0x900108 then
    some (BitVec.ofNat 64 ((s.route (s.rfld rFrRtsel 1 0) (s.rfld rFrRtsel 7 4)).map (fun p => 2 ^ p)).sum)
  else if 0x901000 ≤ off ∧ off < 0x931000 then s.portReg ((off - 0x901000) / 0x1000) (off % 0x1000)
  else if 0x940000 ≤ off ∧ off < 0x944000 ∧ off % 0x40 = 0x28 then
    some (pack [(0, mapGet 0 ((off - 0x940000) / 0x40) s.fr.pctr % 2 ^ 48)])
  else none

/-! ### Observation and life cycle -/

def State.viewOuLc (s : State) (off : Nat) : Option Word :=
  if off = 0xA00320 then some s.stopStat
  else if 0xA00400 ≤ off ∧ off < 0xA00480 then some (s.sensor ((off - 0xA00400) / 8))
  else if 0xA80000 ≤ off ∧ off < 0xB80000 then
    some (if off % 0x1000 = 8 then s.blkId else s.reg off)
  else if off = 0xF00000 then some s.lcState
  else if off = 0xF00020 then some s.lcStat
  else if off = 0xF00028 then some s.dbgStatus
  else if 0xF00040 ≤ off ∧ off < 0xF00080 then some (BitVec.ofNat 64 (leAt (s.lc.chal.getD []) (off - 0xF00040) 8))
  else none

/-! ### A register's value -/

/-- What the unit of a register shows in it, where it is not a stored one. -/
def State.view (s : State) (off : Nat) : Option Word :=
  let m := off / 0x100000
  if m = 0 then s.viewBlk off
  else if m = 1 then s.viewWindow ((off - 0x100000) / 0x1000) (off % 0x1000)
  else if m = 2 ∨ m = 3 then s.viewDrwLat off
  else if m = 4 then s.viewTu off
  else if m = 5 then s.viewSbTs off
  else if m = 6 then s.viewMe off
  else if m = 7 then s.viewDce off
  else if m = 8 then s.viewMix off
  else if m = 9 then s.viewFab off
  else s.viewOuLc off

/-- What a read of 8 bytes at an offset of the window returns (R13, R492): WO registers and offsets no register occupies
read 0. -/
def State.readReg (s : State) (off : Nat) : Word :=
  if off % 8 ≠ 0 then 0
  else match s.view off with
    | some w => w
    | none => if (regRow off).isSome then s.reg off else 0

/-- What the read leaves: RC fields are cleared (R493). -/
def State.afterRead (s : State) (off : Nat) : State :=
  match regRow off with
  | some r => if r.rc = 0 || (s.view off).isSome then s else s.setReg off (readClears r (s.reg off))
  | none => s

end Sys2Proof.Machine
end

