-- ==== Sys2Proof/Machine/Registers.lean ====
section
/-! DEFINITION. Register accesses (chapter 18): what a write of 8 bytes does at every offset, failing accesses, and the reads
that clear. -/
namespace Sys2Proof.Machine

/-! ### Writes by the access codes alone (R13) -/

/-- BLK_LOCK.LOCK. -/
def State.locked (s : State) : Bool := s.rfld rLock 0 0 == 1

/-- A write that only the access codes govern; offsets no register occupies ignore it. -/
def State.writePlain (s : State) (off : Nat) (v : Word) : State :=
  match regRow off with
  | some r => s.setReg off (writeMasked r s.locked (s.reg off) v)
  | none => s

/-- A write whose field [hi:lo] keeps its value when what is written is out of range. -/
def State.keepField (s : State) (off hi lo : Nat) (ok : Nat → Bool) (v : Word) : Word :=
  if ok (fld v hi lo) then v else setFld v hi lo (s.rfld off hi lo)

/-- A write that is ignored whole when its field is out of range. -/
def State.writeIf (s : State) (off : Nat) (v : Word) (ok : Bool) : State := if ok then s.writePlain off v else s

/-! ### BLK and PLN -/

/-- ACC clears ACC and OVER together (R494). -/
def State.writeErr (s : State) (v : Word) : State :=
  let w := s.reg 0x10
  let w := if fld v 62 62 = 1 ∨ fld v 63 63 = 1 then setFld w 62 62 0 else w
  s.setReg 0x10 (if fld v 63 63 = 1 then setFld w 63 63 0 else w)

/-- A load of the timestamp at the next edge of `clk_ao` (R425); the report windows close at the jump. -/
def State.loadTime (s : State) (v : Nat) : State :=
  if v < s.now + 40 then s.bump rPlnTsStat 15 0
  else
    let d := v - s.now
    let s := { s with now := v, mono := if s.ou.unitsStopped then s.mono else s.mono + d }
    s.closeWindows v

/-- The hang limits of RCV_CFG are 1 to 50 µs; other values leave them (R398). -/
def State.writeRcvCfg (s : State) (v : Word) : State :=
  let ok (x : Nat) : Bool := decide (1 ≤ x) && decide (x ≤ 50)
  s.writePlain rRcvCfg (s.keepField rRcvCfg 13 8 ok (s.keepField rRcvCfg 7 0 ok v))

def State.writeBlk (s : State) (off : Nat) (v : Word) : State :=
  if off = 0x10 then s.writeErr v
  else if off = 0x100 then s.writeIf off v (!s.cabs.any (fun e => e.2.st == .live || e.2.st == .clear))
  else if off = 0x1000 then s.rstCmd (fld v 3 0)
  else if off = rRcvCfg then s.writeRcvCfg v
  else if off = rFltCfg then s.fltWrite v
  else if off = 0x10018 then s.loadTime v.toNat
  else if off = 0x10040 then s.pwrCmd v
  else s.writePlain off v

/-! ### Cabinet windows (R22, R50, R109) -/

/-- An OP outside the table ends with ARG. -/
def State.badOp (s : State) (res : Nat) : State := s.command res (fun s => (errArg, 0, s))

def State.writeCtxCmd (s : State) (n : Nat) (v : Word) : State :=
  match fld v 3 0 with
  | 0 => nopCommand (rCtxResult n) s
  | 1 => s.command (rCtxResult n) (ctxAlloc n)
  | 2 => ctxFree n (fld v 29 16) s
  | _ => s.badOp (rCtxResult n)

def State.writeDrwCmd (s : State) (n : Nat) (v : Word) : State :=
  let i := fld v 28 16
  match fld v 3 0 with
  | 0 => nopCommand (rDrwResult n) s
  | 1 => s.command (rDrwResult n) (drwCreate n)
  | 2 => s.command (rDrwResult n) (drwStop n i)
  | 3 => s.command (rDrwResult n) (drwStart n i)
  | 4 => drwDestroy n i s
  | _ => s.badOp (rDrwResult n)

def State.writeMobjCmd (s : State) (n : Nat) (v : Word) : State :=
  match fld v 3 0 with
  | 0 => nopCommand (rMobjResult n) s
  | 1 => s.command (rMobjResult n) (mobjCreate n)
  | 2 => s.command (rMobjResult n) (mobjAlias n)
  | 3 => s.command (rMobjResult n) (mobjRelease n)
  | _ => s.badOp (rMobjResult n)

def State.writeLatCmd (s : State) (n : Nat) (v : Word) : State :=
  let l := fld v 29 16
  match fld v 3 0 with
  | 0 => nopCommand (rLatResult n) s
  | 1 => s.command (rLatResult n) (latArm n)
  | 2 => s.command (rLatResult n) (latRearm n l)
  | 3 => s.command (rLatResult n) (latDisarm n l)
  | 4 => s.command (rLatResult n) (latEval n l)
  | _ => s.badOp (rLatResult n)

/-- QRY_CMD has no NOP: KIND 0 is a context, 1 the cabinet, and any other ends with ARG (R86). -/
def State.writeQryCmd (s : State) (n : Nat) (v : Word) : State :=
  let k := fld v 23 16
  queryCommand n (fun s =>
    if k = 0 then s.queryCtx n (fld v 13 0)
    else if k = 1 then s.queryCabinet n
    else [2 ^ 63 + errArg * 2 ^ 56 + k * 2 ^ 24, 0, 0, 0, 0, 0, 0, 0]) s

/-- An operating register of a LIVE cabinet. -/
def State.writeOperating (s : State) (n o : Nat) (v : Word) : State :=
  if o = 0x400 then s.writeCtxCmd n v
  else if o = 0x440 then s.writeDrwCmd n v
  else if o = 0x4C0 then s.writeMobjCmd n v
  else if o = 0x500 then s.writeQryCmd n v
  else if o = 0x800 then s.writeLatCmd n v
  else s.writePlain (rWin n + o) v

def State.writeWindow (s : State) (n o : Nat) (v : Word) : State :=
  let c := s.cab n
  if o = 0 then s.cabCmd n (fld v 3 0)
  else if o = 8 then (if fld v 12 12 = 1 then s.setCab n { c with dropped := false } else s)
  else if o < 0x400 then s.writeIf (rWin n + o) v (c.st == .build || c.st == .live)
  else if c.st == .live then s.writeOperating n o v
  else s

/-! ### Chip-wide units -/

def State.writeTuSb (s : State) (off : Nat) (v : Word) : State :=
  if 0x410000 ≤ off ∧ off < 0x412000 ∧ off % 0x20 = 8 then fqWrite ((off - 0x410000) / 0x20) v s
  else if 0x410000 ≤ off ∧ off < 0x412000 ∧ off % 0x20 = 0 then s.writeIf off v (!s.fqOn ((off - 0x410000) / 0x20))
  else if 0x510000 ≤ off ∧ off < 0x514000 ∧ off % 0x40 = 0 then sbCfgWrite ((off - 0x510000) / 0x40) v s
  else if 0x510000 ≤ off ∧ off < 0x514000 ∧ off % 0x40 = 8 then s.writeIf off v ((s.sbc ((off - 0x510000) / 0x40)).st == .off)
  else if off = rTsGcfg then
    s.writePlain off (s.keepField off 14 0 (fun k => k % 64 == 0 && decide (64 ≤ k) && decide (k ≤ 16384)) v)
  else s.writePlain off v

def State.writeMeDce (s : State) (off : Nat) (v : Word) : State :=
  if 0x600000 ≤ off ∧ off < 0x640000 then
    let i := (off - 0x600000) / 0x100
    let o := off % 0x100
    if o = 0x18 then s.writeChCtrl i v else if o < 0x18 then s.writeChAddr i o v else s
  else if 0x650000 ≤ off ∧ off < 0x650800 then s.writeIf off v (decide (fld v 10 0 ≤ 960))
  else if 0x710000 ≤ off ∧ off < 0x711000 ∧ off % 0x10 = 0 then s.writeIf off v (decide (fld v 10 0 ≤ 1024))
  else s.writePlain off v

/-- Gates and mix (R313, R341, R342). -/
def State.writeMix (s : State) (off : Nat) (v : Word) : State :=
  let g := (off - 0x800000) / 0x10000
  let o := off % 0x10000
  if off = 0x8D0020 then s.mixCmd (fld v 3 0)
  else if off < 0x8C0000 then
    if o = 0 then s.writeIf off v (decide (1 ≤ fld v 10 0) && decide (fld v 10 0 ≤ 1024))
    else if o = 8 then ncFloor g v s
    else if o = 0x10 then s.writeIf off v (decide (16 ≤ fld v 8 0) && decide (fld v 8 0 ≤ 256))
    else if o = 0x3000 then s.writeIf off v (decide (fld v 55 48 ≤ 128))
    else s.writePlain off v
  else if off < 0x8C0100 then (s.writePlain off v).syncWires
  else s.writePlain off v

/-- Router, ports and jobs (R366). -/
def State.writeFab (s : State) (off : Nat) (v : Word) : State :=
  if off = rFrNode then s.writeIf off v (s.rfld rFrCfg 8 8 == 0)
  else if off = rFrCfg then s.frCfgWrite v
  else if off = rFrNcfloor then frFloor v s
  else if off = 0x900088 then s.abortJob (fld v 7 0) 5
  else if 0x901000 ≤ off ∧ off < 0x931000 ∧ off % 0x1000 = 0 then s.pgCfgWrite ((off - 0x901000) / 0x1000) v
  else if 0x940000 ≤ off ∧ off < 0x944000 then
    let n := (off - 0x940000) / 0x40
    let o := off % 0x40
    if o = 0 then s.jobWrite n v else if 8 ≤ o ∧ o < 0x28 then s.jobKeyWrite n ((o - 8) / 8) v else s
  else s.writePlain off v

/-- The Observation Unit, the Chest and the life cycle (R398, R447, R467). -/
def State.writeOuLc (s : State) (off : Nat) (v : Word) : State :=
  if off = rSmpCfg then smpWrite v s
  else if off = rTrcCfg then trcWrite v s
  else if off = 0xA00218 then traceMark v s
  else if off = 0xA00300 then s.stopCmd v
  else if off = rStopCfg then s.writePlain off (s.keepField off 63 48 (fun x => decide (2 ≤ x)) v)
  else if 0xA01000 ≤ off ∧ off < 0xA01200 then cselWrite ((off - 0xA01000) / 8) v s
  else if off = 0xF00008 then s.lcCmd v
  else s.writePlain off v

/-- A write of 8 bytes by the platform at an offset of the window (R492): one that is not aligned changes nothing. -/
def State.writeReg (s : State) (off : Nat) (v : Word) : State :=
  let m := off / 0x100000
  if off % 8 ≠ 0 then s
  else if m = 0 then s.writeBlk off v
  else if m = 1 then s.writeWindow ((off - 0x100000) / 0x1000) (off % 0x1000) v
  else if m = 4 ∨ m = 5 then s.writeTuSb off v
  else if m = 6 ∨ m = 7 then s.writeMeDce off v
  else if m = 8 then s.writeMix off v
  else if m = 9 then s.writeFab off v
  else if m = 0xA ∨ m = 0xF then s.writeOuLc off v
  else s.writePlain off v

/-! ### Accesses through the Host Gate (R494 to R496) -/

/-- An access wakes the cabinet whose operating registers it reaches, otherwise the block (R421, R495). -/
def State.wakeFor (s : State) (off : Nat) : State :=
  let n := (off - 0x100000) / 0x1000
  if off / 0x100000 = 1 ∧ 0x400 ≤ off % 0x1000 ∧ (s.cab n).st = .live then s.wakeCab n 1 else s.wakeBlock 1

/-- Record a failing access (R494). -/
def State.badAccess (s : State) (write : Bool) (func off : Nat) (aper : Bool) (len : Nat) : State :=
  if s.rfld 0x10 63 63 = 1 then s.setRfld 0x10 62 62 1
  else s.setReg 0x10 (pack [(63, 1), (61, bit write), (48, func), (24, off), (13, bit aper), (0, len)])

/-- The platform offset that an aperture offset of a tenant function bound to cabinet `n` reaches (R20). -/
def aperture (n off : Nat) : Nat := if off < 0x1000 then rWin n + off else rRep n + off % 0x1000

/-- A failing access of a function: a tenant reaches its aperture only. -/
def State.hostBad (s : State) (write : Bool) (func off len : Nat) : State :=
  if func = 0 then (s.wakeBlock 1).badAccess write 0 off false len
  else if 0x2000 ≤ off then s
  else match s.boundCab func with
    | some n => (s.wakeBlock 1).badAccess write func (aperture n off) false len
    | none => (s.wakeBlock 1).badAccess write func off true len

/-- An access that is not 8 bytes, 8 B aligned; its read returns zeros. -/
def badRegister (func off len : Nat) (write : Bool) (s : State) : State :=
  if !s.hostUp || len == 0 || decide (4096 < len) || (len == 8 && off % 8 == 0) then s
  else
    let s := s.hostBad write func off len
    if write then s else s.emit (.bytes (List.replicate len 0))

def execBadRegisterAccess (func : Func) (off : Fin 16777216) (len : Fin 4097) (write : Bool) (s : State) :
    Host.Outcome State Fault Refusal :=
  .next (badRegister func.val off.val len.val write s)

/-- A write of 8 bytes by a function: the platform writes anywhere in the window, a tenant in its aperture, where only the
operating registers of its LIVE cabinet take it. -/
def hostWriteReg (func off : Nat) (v : Word) (s : State) : State :=
  if !s.hostUp then s
  else if off % 8 ≠ 0 then s.hostBad true func off 8
  else
    let a : HeldAccess := { func := func, off := off, data := some v }
    if func = 0 then (s.wakeFor off).access off a (fun s => s.writeReg off v)
    else match s.boundCab func with
      | some n =>
        if 0x400 ≤ off ∧ off < 0x1000 then (s.wakeCab n 1).access (rWin n + off) a (fun s => s.writeReg (rWin n + off) v)
        else s.wakeBlock 1
      | none => s.wakeBlock 1

def execRegisterWrite (func : Func) (off : Fin 16777216) (value : Word) (s : State) : Host.Outcome State Fault Refusal :=
  .next (hostWriteReg func.val off.val value s)

/-- The driver of a block released without an image sets BLK_LOCK.LOCK (R411). -/
def execBlkLockSet (func : Func) (value : Word) (s : State) : Host.Outcome State Fault Refusal :=
  .next (s.platform func.val rLock (some value) fun s => s.writePlain rLock value)

def execPlnTsLoadWrite (func : Func) (value : Word) (s : State) : Host.Outcome State Fault Refusal :=
  .next (s.platform func.val 0x10018 (some value) fun s => s.loadTime value.toNat)

/-! ### Reads that clear (R13, R493) -/

/-- A read of 8 bytes: its data goes out, RC fields are cleared. -/
def State.takeReg (s : State) (off : Nat) : State := (s.emit (.read (s.readReg off))).afterRead off

/-- A read of a register that only the platform function reaches. -/
def readPlatform (func off : Nat) (s : State) : Host.Outcome State Fault Refusal :=
  .next (s.platform func off none fun s => s.takeReg off)

/-- What an aligned read of 8 bytes at an offset of a function's window returns: the platform reads every register; a tenant
its aperture's operating registers and report page, and zero elsewhere or when it is bound to no LIVE cabinet (R20, R21). -/
def State.readBy (s : State) (func off : Nat) : Word :=
  if func = 0 then s.readReg off
  else match s.boundCab func with
    | some n => if 0x400 ≤ off ∧ off < 0x2000 then s.readReg (aperture n off) else 0
    | none => 0

/-- A read of an operating register of cabinet `n`: 0 to a function that does not reach it, the reset value where the
cabinet is not LIVE (R20, R496). -/
def readOperating (func n o : Nat) (s : State) : Host.Outcome State Fault Refusal :=
  .next (
    if s.mayOperate func n then
      s.operate func n o none fun s => s.takeReg (rWin n + o)
    else if s.hostUp then (s.wakeBlock 1).emit (.read (if func = 0 then s.readReg (rWin n + o) else 0))
    else s)

def execDbDropsRead (func : Func) (cab : CabId) (s : State) : Host.Outcome State Fault Refusal :=
  readOperating func.val cab.val 0x580 s
def execLatStatRead (func : Func) (cab : CabId) (s : State) : Host.Outcome State Fault Refusal :=
  readOperating func.val cab.val 0x880 s
def execDbGdropsRead (func : Func) (s : State) : Host.Outcome State Fault Refusal := readPlatform func.val rDbGdrops s
def execLatGstatRead (func : Func) (s : State) : Host.Outcome State Fault Refusal := readPlatform func.val rLatGstat s
def execTuGstatRead (func : Func) (s : State) : Host.Outcome State Fault Refusal := readPlatform func.val rTuGstat s
def execTuCstatRead (func : Func) (cab : CabId) (s : State) : Host.Outcome State Fault Refusal :=
  readPlatform func.val (rTuCstat cab.val) s
def execSbGstatRead (func : Func) (s : State) : Host.Outcome State Fault Refusal := readPlatform func.val rSbGstat s
def execSbCntRead (func : Func) (cab : CabId) (s : State) : Host.Outcome State Fault Refusal :=
  readPlatform func.val (rSbCnt cab.val) s
def execTsGstatRead (func : Func) (s : State) : Host.Outcome State Fault Refusal := readPlatform func.val rTsGstat s
def execTsCntRead (func : Func) (cab : CabId) (s : State) : Host.Outcome State Fault Refusal :=
  readPlatform func.val (rTsCnt cab.val) s
def execTsCnt2Read (func : Func) (cab : CabId) (s : State) : Host.Outcome State Fault Refusal :=
  readPlatform func.val (rTsCnt2 cab.val) s
def execMeGstatRead (func : Func) (s : State) : Host.Outcome State Fault Refusal := readPlatform func.val rMeGstat s
def execMeCstatRead (func : Func) (cab : CabId) (s : State) : Host.Outcome State Fault Refusal :=
  readPlatform func.val (rMeCstat cab.val) s
def execDceGstatRead (func : Func) (s : State) : Host.Outcome State Fault Refusal := readPlatform func.val rDceGstat s
def execDceCstatRead (func : Func) (cab : CabId) (s : State) : Host.Outcome State Fault Refusal :=
  readPlatform func.val (rDceCstat cab.val) s
def execFtCstatRead (func : Func) (cab : CabId) (s : State) : Host.Outcome State Fault Refusal :=
  readPlatform func.val (rFtCstat cab.val) s
def execSgStatRead (func : Func) (gate : GateId) (s : State) : Host.Outcome State Fault Refusal :=
  readPlatform func.val (rSgStat gate.val) s
def execSgLatRead (func : Func) (gate : GateId) (m : Fin 258) (s : State) : Host.Outcome State Fault Refusal :=
  readPlatform func.val (rSgLat gate.val m.val) s
def execSgMixstatRead (func : Func) (gate : GateId) (s : State) : Host.Outcome State Fault Refusal :=
  readPlatform func.val (rMixStat gate.val) s
def execSgMdcRead (func : Func) (gate : GateId) (s : State) : Host.Outcome State Fault Refusal :=
  readPlatform func.val (rMdc gate.val) s
def execSgRemixRead (func : Func) (gate : GateId) (s : State) : Host.Outcome State Fault Refusal :=
  readPlatform func.val (rRemix gate.val) s
def execMixGstatRead (func : Func) (s : State) : Host.Outcome State Fault Refusal := readPlatform func.val rMixGstat s
def execFrCntRead (func : Func) (s : State) : Host.Outcome State Fault Refusal := readPlatform func.val rFrCnt s
def execFrCnt2Read (func : Func) (s : State) : Host.Outcome State Fault Refusal := readPlatform func.val rFrCnt2 s
def execPgCntRead (func : Func) (port : PortId) (s : State) : Host.Outcome State Fault Refusal :=
  readPlatform func.val (rPgCnt port.val) s
def execRcvStatRead (func : Func) (s : State) : Host.Outcome State Fault Refusal := readPlatform func.val rRcvStat s
def execChestStatRead (func : Func) (s : State) : Host.Outcome State Fault Refusal := readPlatform func.val rChestStat s
def execPwrRefuseCountRead (func : Func) (s : State) : Host.Outcome State Fault Refusal := readPlatform func.val rPwrRefuse s
def execPlnTsStatRead (func : Func) (s : State) : Host.Outcome State Fault Refusal := readPlatform func.val rPlnTsStat s
def execOuGstatRead (func : Func) (s : State) : Host.Outcome State Fault Refusal := readPlatform func.val rOuGstat s

/-! ### Accesses that a reset held (R380, R495) -/

/-- The 90 bits of DBG_REG (R445). -/
def dbgReg (data : Word) (off : Nat) (write err : Bool) : Nat :=
  data.toNat + off * 2 ^ 64 + bit write * 2 ^ 88 + bit err * 2 ^ 89

/-- A register access by DBG_REG: the platform function's, by every rule of its accesses (R446). -/
def tapAccess (off : Nat) (data : Option Word) (s : State) : State :=
  s.access off { func := 0, off := off, data := data, tap := true } fun s =>
    match data with
    | some v => (s.writeReg off v).emit (.tap (dbgReg v off true false))
    | none => (s.emit (.tap (dbgReg (s.readReg off) off false false))).afterRead off

/-- A held access to a register is carried out. -/
def retakeReg (a : HeldAccess) (s : State) : State :=
  if a.tap then tapAccess a.off a.data s
  else match a.data with
  | some v => hostWriteReg a.func a.off v s
  | none =>
    if !s.hostUp then s
    else
      let off := if a.func = 0 then a.off else match s.boundCab a.func with | some n => aperture n a.off | none => 0
      s.access off a (fun s => (s.emit (.read (s.readBy a.func a.off))).afterRead off)

/-- The accesses held for units that are back in service are carried out, oldest first. -/
def State.releaseRegs (s : State) : State :=
  let l := s.hg.regs
  l.foldl (fun (s : State) a => retakeReg a s) { s with hg := { s.hg with regs := [] } }

/-- The Host Gate's own traffic goes on. -/
def State.releaseBells (s : State) : State :=
  let l := s.hg.bells
  l.foldl (fun (s : State) b => doorbellWrite b.func b.off b.len b.pasid b.value s) { s with hg := { s.hg with bells := [] } }

/-- A unit that is released takes the accesses that its reset held. -/
def unitReleased (u : Nat) (s : State) : State :=
  let s := resyncDone u s
  if s.resetting u then s
  else if u = uHost then s.releaseHost.releaseBells.releaseRegs
  else s.releaseRegs

def execEngineResetResyncDone (unit : UnitId) (s : State) : Host.Outcome State Fault Refusal :=
  .next (if s.frozen then s else unitReleased unit.val s)

end Sys2Proof.Machine
end

