-- ==== Sys2Proof/Machine/Plinth.lean ====
section
/-! DEFINITION. The Plinth (chapter 14): cold starts, the configuration image, release, the clock measurement, and the tray
controller's messages, the life-cycle commands among them (chapter 15). -/
namespace Sys2Proof.Machine

/-! ### Power-on, wake-up and fuses (R402, R470, R486) -/

/-- `por_n` rises: a cold start. -/
def execPorRise (s : State) : Host.Outcome State Fault Refusal :=
  .next (if s.pln.phase == .por then { s with now := 0, pln := { s.pln with phase := .fuse, cold := true, startAt := 0, phaseAt := 0 } }
    else s)

/-- `por_n` falls: the whole block is held in reset. -/
def execPorAssert (s : State) : Host.Outcome State Fault Refusal := .next s.unpowered

def wakePin (s : State) : State :=
  if s.pln.phase != .run || s.pln.held then s
  else if s.pln.power = 4 then (if s.pln.ready = 0 then s.coldStart else { s with pln := { s.pln with waking := true } })
  else s.wakeBlock 0

/-- `wake_n` is asserted: a cold start out of OFF, a wake event in every other state. -/
def execWakeN (s : State) : Host.Outcome State Fault Refusal := .next (wakePin s)

/-- Fuses are one-time programmable: what was burned stays. -/
def Fuses.burned (old new : Fuses) : Fuses := { new with lc := (new.lc ||| old.lc) % 1024 }

def fuseLoad (words : Option Fuses) (s : State) : State :=
  if s.pln.phase != .fuse then s
  else match words with
    | none => s.halt 1
    | some f =>
      let f := Fuses.burned s.fuse f
      let open_ := openPairs f.lc
      let s := { s with fuse := f, lc := { s.lc with raw := f.lc }, pln := { s.pln with phase := .lifecycle, phaseAt := s.now } }
      if open_ = [] then s else s.lcAdvance (s.lcJob open_ true false)

/-- Every fuse word is read; none when a word fails its check. -/
def execFuseLoadComplete (words : Option Fuses) (s : State) : Host.Outcome State Fault Refusal := .next (fuseLoad words s)

/-! ### Limits of the phases -/

/-- A rung has not answered its request within 50 ms: the start-up fails with the rung's code, and in operation it is a
failure of the domain. -/
def rungTimeout (r : Nat) (s : State) : State :=
  if s.pln.req.testBit r == s.pln.ready.testBit r || s.now < s.pln.rungAt + 50000000 || s.pln.held then s
  else match s.pln.phase with
    | .power | .image => s.halt (3 + r)
    | .run => { s with pln := { s.pln with rungAt := s.now } }.powerCycle 4 uPlinth
    | _ => s

def execRungTimeout (rung : Fin 4) (s : State) : Host.Outcome State Fault Refusal := .next (rungTimeout rung.val s)

/-! ### Release (R404, R410, R411) -/

/-- The registers of a CABINET record's values, in its order, as offsets of the window. -/
def cabOffsets : List Nat := [0x10, 0x18, 0x20, 0x28, 0x30, 0x38, 0x40, 0x48, 0x50] ++ (List.range 16).map (fun k => 0x100 + 8 * k)

/-- BUILD, the register writes and ACTIVATE of one CABINET record's body. -/
def State.defaultCab (s : State) (b : List Byte) : State :=
  let n := leAt b 0 1
  let s := s.cabCmd n 1
  let s := cabOffsets.zipIdx.foldl (fun (s : State) e => s.writeReg (rWin n + e.1) (BitVec.ofNat 64 (leAt b (8 + 8 * e.2) 8))) s
  s.cabCmd n 2

/-- The block is released. -/
def State.release (s : State) : State :=
  let s := if s.pln.imageOk then s.setRfld rLock 0 0 1 else s
  let ms := min ((s.now - s.pln.startAt) / 1000000) 65535
  let open_ := s.lc.openField || (s.lc.state == 3 && s.lc.scopeOk.testBit 0 && s.lc.erased)
  let recs := s.pln.records
  let s := { s with pln := { s.pln with phase := .run, releaseMs := ms, records := [] }, hg := { s.hg with release := true },
                    lc := { s.lc with openField := open_ } }
  let s := (s.sendTray 0x11 (toLe 1 2 ++ toLe 8 s.plnBoot.toNat)).drawBlockKey
  (List.range 48).foldl (fun (s : State) p => s.startPort p) (recs.foldl (fun (s : State) b => s.defaultCab b) s)

/-- The memory-ready handshake begins. -/
def State.beginMemory (s : State) : State :=
  let s := { s with pln := { s.pln with phase := .memory, phaseAt := s.now, init := List.range s.gateCount } }
  if s.pln.init = [] then s.release else s

def memInitDone (g : Nat) (s : State) : State :=
  if s.pln.phase == .memory && s.pln.init.contains g then
    let left := s.pln.init.filter (fun x => x != g)
    let s := { s with pln := { s.pln with init := left } }
    if left = [] then s.release else s
  else s

/-- A gate's controller has initialised its stack; the last one's answer releases the block. -/
def execMemInitDone (gate : GateId) (s : State) : Host.Outcome State Fault Refusal := .next (memInitDone gate.val s)

/-- A controller cannot initialise its stack. -/
def execMemInitFail (gate : GateId) (s : State) : Host.Outcome State Fault Refusal :=
  .next (if s.pln.phase == .memory && s.pln.init.contains gate.val then s.halt 0xD else s)

/-! ### The configuration image (R405 to R409) -/

/-- IMAGE fails: in FIELD the block halts, otherwise it goes on without an image. -/
def State.imageFail (s : State) (code : Nat) : State :=
  if s.lc.state = 3 then s.halt code
  else { s with pln := { s.pln with fail := code, imageOk := false, image := none, records := [], svn := 0, tables := 0, cabRecs := 0 } }.beginMemory

/-- A failure after the records began: the logic rung undoes what was applied. -/
def State.imageUndo (s : State) (m : Image) (code : Nat) : State := (s.coreReset s.pln m.saved).imageFail code

/-- The loader reads: the block is in IMAGE with its rungs up, and no erase holds the flash. -/
def State.loading (s : State) : Bool := s.pln.phase == .image && s.pln.ready == 15 && s.lc.job.isNone && !s.pln.held

/-- The first step of R408 that a header fails. -/
def State.headerFails (s : State) (h : List Byte) : Option Nat :=
  let keyed := !s.fuse.imageKey.all (fun b => b == 0)
  let pub := (h.drop 112).take 96
  let sigOk := digest pub == s.fuse.imageKey && leAt h 6 2 == 1 && Config.ecdsaVerify pub (h.take 208) ((h.drop 208).take 96)
  if leAt h 0 4 = 0xFFFFFFFF then some 0x0E
  else if leAt h 0 4 ≠ 0x4B58494D ∨ leAt h 4 2 ≠ 3 ∨ 2 ≤ leAt h 6 2 ∨ leAt h 8 4 % 8 ≠ 0 ∨ 2096640 < leAt h 8 4 ∨
      zeroAt h 18 46 = false ∨ zeroAt h 304 208 = false then some 0x08
  else if leAt h 16 2 ≠ s.fuse.integId ∨ leAt h 12 4 < s.fuse.minSvn then some 0x0B
  else if keyed then (if sigOk then none else some 0x09)
  else if leAt h 6 2 = 0 ∧ s.lc.state < 2 then none
  else some 0x09

def imageHeader (h : List Byte) (s : State) : State :=
  if !s.loading || s.pln.image.isSome || h.length != 512 then s
  else match s.headerFails h with
    | some c => s.imageFail c
    | none =>
      let m : Image := { len := leAt h 8 4, digest := (h.drop 64).take 48, svn := leAt h 12 4, saved := s.regs }
      { s with pln := { s.pln with image := some m } }

/-- The 512 bytes of the header are read. -/
def execImageHeader (header : List Byte) (s : State) : Host.Outcome State Fault Refusal := .next (imageHeader header s)

/-- The record's header is in order: a type of R407, reserved bytes 0, its length. -/
def recordOk (r : List Byte) : Bool :=
  decide (8 ≤ r.length) && decide (leAt r 0 1 ≤ 4) && zeroAt r 1 3 && leAt r 4 4 % 8 == 0 && r.length == 8 + leAt r 4 4

/-- Take a record of one type. A malformed one, and one that leaves no room for END, fails the image. -/
def State.takeRecord (s : State) (ty : Nat) (r : List Byte) (f : Image → List Byte → State → State) : State :=
  match s.pln.image with
  | none => s
  | some m =>
    if !s.loading then s
    else if !recordOk r || decide (m.len < m.body.length + r.length + (if ty = 0 then 0 else 8)) then s.imageUndo m 0x08
    else if leAt r 0 1 ≠ ty then s
    else f { m with body := m.body ++ r } (r.drop 8) s

def State.setImage (s : State) (m : Image) : State := { s with pln := { s.pln with image := some m } }

/-- A register the image may write: RW or RWL, outside the ranges R407 names. -/
def imageReg (off : Nat) : Bool :=
  off / 0x100000 != 1 && off / 0x100000 != 2 && !(decide (0x600000 ≤ off) && decide (off < 0x640000)) && off != rLock &&
  match regRow off with | some r => r.rw + r.rwl != 0 | none => false

/-- A REG record: written as the platform, and read back. -/
def regRecord (m : Image) (b : List Byte) (s : State) : State :=
  let off := leAt b 0 8
  let v := BitVec.ofNat 64 (leAt b 8 8)
  if b.length ≠ 16 ∨ imageReg off = false then s.imageUndo m 0x08
  else
    let mask := match regRow off with | some r => BitVec.ofNat 64 (r.rw + r.rwl) | none => 0
    let s := (s.setImage m).writeReg off v
    if s.readReg off &&& mask = v &&& mask then s else s.imageUndo m 0x0C

def execImageRegRecord (record : List Byte) (s : State) : Host.Outcome State Fault Refusal :=
  .next (s.takeRecord 1 record regRecord)

/-- A TABLE record: installed in the next slot downward, delivered to every populated tile port (R283). -/
def tableRecord (m : Image) (b : List Byte) (s : State) : State :=
  let exp := (leAt b 0 4) == 1
  if b.length ≠ 1096 ∨ 1 < leAt b 0 4 ∨ zeroAt b 4 4 = false ∨ (exp = true ∧ m.exp = true) ∨ m.slot = 0 then s.imageUndo m 0x08
  else
    let k := m.slot - 1
    let m := { m with slot := k, exp := m.exp || exp }
    let img := b.drop 8
    if (loaderCheck img).isSome then s.setImage m
    else
      let v := (s.slot k).version
      let s := (s.setImage { m with tables := m.tables + 1 }).setSlot k { st := .held, image := true, version := (v + 1) % 65536, bytes := img }
      let s := if exp then { s with ft := { s.ft with exp := some k } } else s
      s.deliverSlot k ((List.range 256).filter s.tie.tiles.testBit)

def execImageTableRecord (record : List Byte) (s : State) : Host.Outcome State Fault Refusal :=
  .next (s.takeRecord 2 record tableRecord)

/-- A CABINET record is held for the release. -/
def cabinetRecord (m : Image) (b : List Byte) (s : State) : State :=
  if b.length ≠ 208 ∨ zeroAt b 1 7 = false then s.imageUndo m 0x08 else s.setImage { m with cabs := m.cabs ++ [b] }

def execImageCabinetRecord (record : List Byte) (s : State) : Host.Outcome State Fault Refusal :=
  .next (s.takeRecord 3 record cabinetRecord)

/-- A TRIM record: the part described here uses none. -/
def execImageTrimRecord (record : List Byte) (s : State) : Host.Outcome State Fault Refusal :=
  .next (s.takeRecord 4 record (fun m _ s => s.setImage m))

/-- The END record: it ends the body, whose digest must be the header's. -/
def endRecord (m : Image) (b : List Byte) (s : State) : State :=
  if b ≠ [] ∨ m.body.length ≠ m.len then s.imageUndo m 0x08
  else if digest m.body ≠ m.digest then s.imageUndo m 0x0A
  else
    let pln := { s.pln with imageOk := true, image := none, records := m.cabs, svn := m.svn, tables := m.tables, cabRecs := m.cabs.length }
    { s with pln := pln }.beginMemory

def execImageEndRecord (record : List Byte) (s : State) : Host.Outcome State Fault Refusal :=
  .next (s.takeRecord 0 record endRecord)

/-- A failure of the flash, whatever was applied before it. -/
def State.flashFail (s : State) : State :=
  match s.pln.image with
  | some m => s.imageUndo m 0x07
  | none => s.imageFail 0x07

/-- A read of the flash fails (`read`), or the flash is not ready within 10 ms. -/
def execImageFlashTimeout (read : Bool) (s : State) : Host.Outcome State Fault Refusal :=
  .next (if s.loading && (read || (s.pln.image.isNone && decide (s.pln.phaseAt + 10000000 ≤ s.now))) then s.flashFail else s)

/-- FUSE, IMAGE or MEMORY has run past its limit (R402). -/
def phaseTimeout (s : State) : State :=
  let past (ns : Nat) : Bool := decide (s.pln.phaseAt + ns ≤ s.now)
  match s.pln.phase with
  | .fuse => if past 100000 then s.halt 1 else s
  | .image => if s.loading && past 150000000 then s.flashFail else s
  | .memory => if past 100000000 then s.halt 0xD else s
  | _ => s

def execStartPhaseTimeout (s : State) : Host.Outcome State Fault Refusal := .next (phaseTimeout s)

/-! ### The clock measurement (R401) -/

/-- A measurement of `clk_core` in MHz, rounded down. -/
def clockMeasure (mhz : Nat) (s : State) : State :=
  if s.pln.phase == .por || !s.pln.ready.testBit 1 then s
  else
    let s := s.setRfld rPlnClk 11 0 mhz
    if mhz < 1150 ∨ 2250 < mhz then s.setRfld rPlnClk 16 16 1 else s

def execClockMeasure (mhz : Fin 4096) (s : State) : Host.Outcome State Fault Refusal := .next (clockMeasure mhz.val s)

/-! ### The tray controller (R426 to R428) -/

/-- The block takes its dynamic address, by the provisioned ID of the fuses. -/
def execI3cEntdaa (addr : Fin 128) (s : State) : Host.Outcome State Fault Refusal :=
  .next (match s.pln.phase with
    | .por | .fuse => s
    | _ => if s.pln.power = 4 then s else { s with pln := { s.pln with addr := some addr.val } })

/-- The endpoint is up and has its address. -/
def State.trayUp (s : State) : Bool :=
  s.pln.addr.isSome && s.pln.power != 4 && (match s.pln.phase with | .por | .fuse => false | _ => true)

/-- A request: BUSY beyond four held, UNSUPPORTED in SCRAP but for 0x01, 0x02 and 0x30, BAD_LENGTH for a wrong body. -/
def State.trayRequest (s : State) (code len : Nat) (body : List Byte) (f : State → State) : State :=
  if !s.trayUp then s
  else if 4 ≤ s.pln.trayBusy then s.emit (.tray code 3 [])
  else if s.lcKnown && s.lc.state == 5 && code != 1 && code != 2 && code != 0x30 then s.emit (.tray code 1 [])
  else if body.length ≠ len then s.emit (.tray code 2 [])
  else f s

/-- An answer with status OK. -/
def State.trayAnswer (s : State) (code : Nat) (body : List Byte) : State := s.emit (.tray code 0 body)

def execGetInfo (body : List Byte) (s : State) : Host.Outcome State Fault Refusal :=
  .next (s.trayRequest 0x01 0 body fun s => s.trayAnswer 0x01 (toLe 8 s.blkId.toNat ++ toLe 1 s.lc.state ++ toLe 1 s.pln.power ++
    toLe 1 (fld s.plnBoot 3 0) ++ toLe 1 s.pln.fail ++ toLe 4 s.pln.svn))

def execGetTime (body : List Byte) (s : State) : Host.Outcome State Fault Refusal :=
  .next (s.trayRequest 0x02 0 body fun s => s.trayAnswer 0x02 (toLe 8 s.now))

/-- Cabinets in a power state. -/
def State.cabsIn (s : State) (p : Nat) : Nat := (s.cabs.filter (fun e => e.2.power == p)).length

def execGetPower (body : List Byte) (s : State) : Host.Outcome State Fault Refusal :=
  .next (s.trayRequest 0x03 0 body fun s => s.trayAnswer 0x03 (toLe 1 s.pln.power ++ toLe 2 (s.cabsIn 1) ++ toLe 2 (s.cabsIn 2) ++
    toLe 4 (s.rfld rPwrRefuse 31 0) ++ toLe 8 (s.reg rPwrLast).toNat))

def execGetSensors (body : List Byte) (s : State) : Host.Outcome State Fault Refusal :=
  .next (s.trayRequest 0x05 0 body fun s => s.trayAnswer 0x05 (toLe 8 s.now ++ s.sensorBytes))

/-- The body of a SET_POWER answer. -/
def powerAnswer (outcome unit reason : Nat) : List Byte := toLe 1 outcome ++ toLe 2 unit ++ toLe 1 reason

/-- To RUN: a wake event; out of SLEEP and DEEP the answer waits. -/
def setRun (s : State) : State :=
  let s := s.wakeBlock 4
  if s.pln.power = 0 then s.trayAnswer 0x04 (powerAnswer 0 0 0)
  else { s with pln := { s.pln with wakeReq := s.pln.wakeReq + 1, trayBusy := s.pln.trayBusy + 1 } }

/-- To DEEP or OFF; refused while another block entry, an exit or a deeper state stands in the way. -/
def setDeep (target : Nat) (s : State) : State :=
  if s.pln.power = target then s.trayAnswer 0x04 (powerAnswer 0 0 0)
  else if 2 < s.pln.power || s.pln.waking || s.pln.entries.any (fun e => e.cab.isNone) then s.trayAnswer 0x04 (powerAnswer 1 0 1)
  else { s with pln := { s.pln with trayBusy := s.pln.trayBusy + 1 } }.startEntry none target false true

def setPower (body : List Byte) (s : State) : State :=
  let t := leAt body 0 1
  if t ≠ 0 ∧ t ≠ 3 ∧ t ≠ 4 then s.emit (.tray 0x04 4 [])
  else if s.pln.phase != .run || s.pln.held then s.trayAnswer 0x04 (powerAnswer 1 0 4)
  else if t = 0 then setRun s
  else setDeep t s

def execSetPower (body : List Byte) (s : State) : Host.Outcome State Fault Refusal :=
  .next (s.trayRequest 0x04 1 body (setPower body))

/-- A code that no command has is answered UNSUPPORTED, or BUSY beyond four held (R428). -/
def execMctpUnsupportedCommand (code : Byte) (s : State) : Host.Outcome State Fault Refusal :=
  .next (
    let c := code.toNat
    if (decide (1 ≤ c) && decide (c ≤ 5)) || (decide (0x30 ≤ c) && decide (c ≤ 0x33)) then s
    else if s.trayUp then s.emit (.tray c (if 4 ≤ s.pln.trayBusy then 3 else 1) [])
    else s)

/-- Drop the first message with a code. -/
def dropMsg (code : Nat) : List TrayMsg → List TrayMsg
  | [] => []
  | m :: r => if m.code = code then r else m :: dropMsg code r

/-- The tray controller acknowledges the oldest message with a code; POWER_CYCLE goes on until power is removed. -/
def execTcAcknowledge (code : Byte) (s : State) : Host.Outcome State Fault Refusal :=
  .next (if s.trayUp && code.toNat != 0x10 then { s with pln := { s.pln with msgs := dropMsg code.toNat s.pln.msgs } } else s)

/-- Every message whose time has come is sent again. -/
def repeatMsgs : List TrayMsg → State → State
  | [], s => s
  | m :: r, s =>
    let due := decide (m.sent + (if m.code = 0x10 then 1000000000 else 100000000) ≤ s.now)
    let m' := if due then { m with sent := s.now } else m
    let s := { s with pln := { s.pln with msgs := s.pln.msgs ++ [m'] } }
    repeatMsgs r (if due then s.emit (.trayMsg m.code m.body) else s)

def execMctpRepeatTimer (s : State) : Host.Outcome State Fault Refusal :=
  .next (if s.pln.power = 4 then s else repeatMsgs s.pln.msgs { s with pln := { s.pln with msgs := [] } })

/-! ### Life-cycle commands by MCTP (R448) -/

def execMctpLcGet (body : List Byte) (s : State) : Host.Outcome State Fault Refusal :=
  .next (s.trayRequest 0x30 0 body fun s => s.trayAnswer 0x30 s.lcGet)

def execMctpLcChallenge (body : List Byte) (s : State) : Host.Outcome State Fault Refusal :=
  .next (s.trayRequest 0x31 0 body fun s => s.askChallenge 2)

def execMctpLcToken (body : List Byte) (s : State) : Host.Outcome State Fault Refusal :=
  .next (s.trayRequest 0x32 256 body fun s => s.submit body (fun r s => s.trayAnswer 0x32 (toLe 1 r)))

/-- An accepted transition is answered before it begins; a refusal for want of a scope tells why it is not there. -/
def mctpTransition (target : Nat) (s : State) : State :=
  match s.lcAnswer target with
  | .accepted => (s.trayAnswer 0x33 [0, 0]).lcTransit target
  | .noScope => s.trayAnswer 0x33 (toLe 1 1 ++ toLe 1 s.lc.reason)
  | .badTarget | .busy => s.trayAnswer 0x33 [1, 0]

def execMctpLcTransition (body : List Byte) (s : State) : Host.Outcome State Fault Refusal :=
  .next (s.trayRequest 0x33 1 body (mctpTransition (leAt body 0 1)))

end Sys2Proof.Machine
end

