-- ==== Sys2Proof/Machine/Debug.lean ====
section
/-! DEFINITION. The debug port (R445, R446): the instructions of the test access port. One command is one pass through the
data register: what is shifted in takes effect at the update, and what the next capture holds goes out. -/
namespace Sys2Proof.Machine

/-- The port answers: the always-on domain has power and is out of its reset. -/
def State.tapUp (s : State) : Bool := s.pln.phase != .por && s.pln.power != 4

/-- BYPASS: one bit, captured as 0. -/
def State.tapBypass (s : State) : State := s.emit (.tap 0)

/-- An instruction that a level allows (R446); elsewhere it acts as BYPASS. -/
def State.tapAt (s : State) (need : Nat) (f : State → State) : State :=
  if !s.tapUp then s
  else match s.dbgLevel with
    | some l => if need ≤ l then f s else s.tapBypass
    | none => s.tapBypass

/-- BYPASS, and every unassigned code. -/
def execTapBypass (s : State) : Host.Outcome State Fault Refusal := .next (if s.tapUp then s.tapBypass else s)

/-- The 32 bits of IDCODE. -/
def State.idcode (s : State) : Nat := 0x3 * 2 ^ 28 + 0x0003 * 2 ^ 12 + s.fuse.tapMfr % 2048 * 2 + 1

def execTapIdcode (s : State) : Host.Outcome State Fault Refusal := .next (if s.tapUp then s.emit (.tap s.idcode) else s)

def execTapLcStatus (s : State) : Host.Outcome State Fault Refusal :=
  .next (s.tapAt 0 fun s => s.emit (.tap (leNat s.lcGet)))

/-- The outstanding challenge is captured; the update issues a new one. -/
def execTapLcChallenge (s : State) : Host.Outcome State Fault Refusal :=
  .next (s.tapAt 0 fun s => (s.emit (.tap (leNat (s.lc.chal.getD [])))).askChallenge 1)

def execTapLcToken (token : List Byte) (s : State) : Host.Outcome State Fault Refusal :=
  .next (s.tapAt 0 fun s => s.submit token (fun r s => s.emit (.tap r)))

def tapTransition (target : Nat) (s : State) : State :=
  let s := s.emit (.tap s.lc.tapOut)
  match s.lcAnswer target with
  | .accepted => { s with lc := { s.lc with tapOut := 0 } }.lcTransit target
  | .badTarget | .busy | .noScope => { s with lc := { s.lc with tapOut := 1 } }

/-- The outcome of the last request is captured, then the target is taken: 0 accepted, 1 refused. -/
def execTapLcTransition (target : Byte) (s : State) : Host.Outcome State Fault Refusal :=
  .next (s.tapAt 0 (tapTransition target.toNat))

/-- A register access by DBG_REG; a misaligned one reports itself in ERR and leaves BLK_ERR (R493). -/
def tapReg (data : Word) (off : Nat) (write : Bool) (s : State) : State :=
  if off % 8 ≠ 0 then s.emit (.tap (dbgReg 0 off write true))
  else if !s.coreUp then s.emit (.tap (dbgReg 0 off write false))
  else tapAccess off (if write then some data else none) (s.wakeFor off)

def execTapDbgReg (data : Word) (off : Fin 16777216) (write : Bool) (s : State) : Host.Outcome State Fault Refusal :=
  .next (s.tapAt 1 (tapReg data off.val write))

/-- The 111 bits of DBG_MEM. -/
def dbgMem (data : Word) (addr : Nat) (write : Bool) (status : Nat) : Nat :=
  data.toNat + addr * 2 ^ 64 + bit write * 2 ^ 108 + status * 2 ^ 109

/-- STATUS of an access: 0 DONE, 1 DENIED, 2 failed. -/
def memStatus (st : Nat) : Nat := if st = stDenied then 1 else 2

/-- A request of master PLATFORM, 8 bytes; it is busy while a stop keeps the gates from serving it. -/
def tapMem (data : Word) (addr : Nat) (write : Bool) (s : State) : State :=
  let w : Who := { m := .platform, unit := uPlinth }
  if addr % 8 ≠ 0 || !s.hostUp then s.emit (.tap (dbgMem data addr write 2))
  else if !s.stopServes .platform addr write then s.emit (.tap (dbgMem data addr write 3))
  else if write then
    match (s.wakeBlock 1).devWrite w addr (toLe 8 data.toNat) with
    | (.ok _, s) => s.emit (.tap (dbgMem data addr true 0))
    | (.bad st _, s) => s.emit (.tap (dbgMem data addr true (memStatus st)))
  else
    match (s.wakeBlock 1).devRead w addr 8 with
    | (.ok bs, s) => s.emit (.tap (dbgMem (BitVec.ofNat 64 (leNat bs)) addr false 0))
    | (.bad st _, s) => s.emit (.tap (dbgMem data addr false (memStatus st)))

def execTapDbgMem (data : Word) (addr : Fin 17592186044416) (write : Bool) (s : State) : Host.Outcome State Fault Refusal :=
  .next (s.tapAt 2 (tapMem data addr.val write))

/-- The private codes 0x30 to 0x3F reach scan chains that the spec does not describe; at every lower level they act as
BYPASS. -/
def execTapPrivate (_code : Fin 16) (s : State) : Host.Outcome State Fault Refusal :=
  if s.tapUp && s.dbgLevel == some 3 then .refused .scanChain
  else .next (if s.tapUp then s.tapBypass else s)

end Sys2Proof.Machine
end

