-- ==== Sys2Proof/Machine/Dumps.lean ====
section
/-! DEFINITION. Chest dumps (R393 to R396) and the capture of a global stop (R461, R464): unit records, the stop area. -/
namespace Sys2Proof.Machine

/-! ### The registers of a unit (R395) -/

/-- Registers that show a unit's state and are not stored. -/
def rowsView : List RegRow := [
  { base := 0x108, n2 := 2 }, { base := 0x120, n2 := 4 }, { base := 0x1030 },
  { base := 0x10000, n2 := 3 }, { base := 0x10058 }, { base := 0x10C00, n2 := 8 },
  { base := 0x100008, s1 := 0x1000, n1 := 256 }, { base := 0x100058, s1 := 0x1000, n1 := 256, n2 := 2 },
  { base := 0x100480, s1 := 0x1000, n1 := 256, n2 := 8 }, { base := 0x100840, s1 := 0x1000, n1 := 256, n2 := 4 },
  { base := 0x200040, n2 := 8 }, { base := 0x300008 }, { base := 0x300040, n2 := 4 },
  { base := 0x510010, s1 := 0x40, n1 := 256, n2 := 3 }, { base := 0x520108, n2 := 2 }, { base := 0x520208, n2 := 2 },
  { base := 0x530008, s1 := 0x20, n1 := 256 } ]

def rowsView2 : List RegRow := [
  { base := 0x600000, s1 := 0x100, n1 := 1024, n2 := 7 }, { base := 0x640008 },
  { base := 0x700010 }, { base := 0x700108, n2 := 3 }, { base := 0x720000 }, { base := 0x720010 },
  { base := 0x800020, s1 := 0x10000, n1 := 12 }, { base := 0x8D0048 }, { base := 0x8D1000, n2 := 256 },
  { base := 0x900108 }, { base := 0x901008, s1 := 0x1000, n1 := 48 }, { base := 0x901018, s1 := 0x1000, n1 := 48, n2 := 3 },
  { base := 0x940028, s1 := 0x40, n1 := 256 }, { base := 0xA00320 }, { base := 0xA80000, s1 := 0x1000, n1 := 256, n2 := 74 },
  { base := 0xF00000 }, { base := 0xF00020, n2 := 2 }, { base := 0xF00040, n2 := 8 } ]

/-- The register map lists a register at this offset that is not WO. -/
def listed (off : Nat) : Bool := (regRow off).isSome || (rowsView ++ rowsView2).any (fun r => r.has off)

/-- Where a unit's registers lie in the window: ranges of offsets that hold them all. -/
def unitSpans (u : Nat) : List (Nat × Nat) :=
  if u = uPlinth then [(0, 0x11000), (0x100000, 0x200000), (0xF00000, 0xF00200)]
  else if u = uDrawer then [(0x100000, 0x200108)]
  else if u = uLatch then [(0x100000, 0x200000), (0x300000, 0x300108)]
  else if u = uTu then [(0x400000, 0x420800)]
  else if u = uBatcher then [(0x500000, 0x514000)]
  else if u = uTs then [(0x520000, 0x532000)]
  else if u = uEngine 0 then [(0x600000, 0x660800)]
  else if u = uDce then [(0x700000, 0x721800)]
  else if u = uGate 0 then [(0x800000, 0x804000), (0x8C0000, 0x8D1800)]
  else if u / 256 = 9 then [(0x800000 + u % 256 * 0x10000, 0x804000 + u % 256 * 0x10000)]
  else if u / 256 = 0xA then [(0x901000 + u % 256 * 0x1000, 0x902000 + u % 256 * 0x1000)]
  else if u = uRouter then [(0x900000, 0x901000), (0x940000, 0x944000)]
  else if u = uOu then [(0xA00000, 0xA08020), (0xA80000, 0xB80000)]
  else []

/-- The offsets of a unit's registers, in offset order. -/
def unitRegs (u : Nat) : List Nat :=
  (unitSpans u).flatMap (fun e => ((List.range ((e.2 - e.1) / 8)).map (fun k => e.1 + 8 * k)).filter
    (fun off => regUnit off == u && listed off))

/-- Every unit of this integration, in ascending unit ID. -/
def State.allUnits (s : State) : List Nat := (List.range 4096).filter s.unitExists

/-! ### Unit records (R395, R396) -/

/-- Completions a stack gate holds for a stop. -/
def State.heldCompletions (s : State) (u : Nat) : Nat :=
  if u / 256 = 9 then ((s.gate (u % 256)).reqs.filter (fun r => r.held.isSome)).length else 0

/-- The record of one unit: `bad` names the read that timed out; `stop` adds the held completions. -/
def State.unitRecord (s : State) (u : Nat) (bad : Option Nat) (stop : Bool) : List Byte :=
  let v := s.unitSt u
  let away := s.resetting u || v.phase == .retired
  let regs := match bad with
    | some o => (unitRegs u).takeWhile (fun x => decide (x < o))
    | none => unitRegs u
  let vals := regs.flatMap (fun o => toLe 8 o ++ toLe 8 (s.readReg o).toNat)
  let held := if stop && u / 256 == 9 then toLe 8 (s.heldCompletions u) else []
  let body := if away then [] else if bad.isSome then vals else vals ++ held ++ Config.dumpInternal u s.free
  let rstate := if away then 3 else if bad.isSome then 2 else 1
  let fail := if away then 0xFFFFFFFF else bad.getD 0xFFFFFFFF
  toLe 2 u ++ toLe 1 rstate ++ toLe 1 0 ++ toLe 4 body.length ++ toLe 8 s.now ++ toLe 4 fail ++ toLe 4 v.epoch ++ toLe 40 0 ++ body

/-- Padding to a multiple of 64 bytes. -/
def pad64 (bs : List Byte) : List Byte := bs ++ List.replicate ((64 - bs.length % 64) % 64) 0

/-- The records that fit before `limit` from offset `off` on: they end before the first that does not. -/
def fitting (limit : Nat) : Nat → List (List Byte) → List (List Byte)
  | _, [] => []
  | off, r :: rs => if off + r.length ≤ limit then r :: fitting limit (off + (pad64 r).length) rs else []

/-! ### Dumps -/

/-- The units of a dump: the triggering one first. -/
def State.dumpUnits (s : State) (first : Nat) : List Nat := first :: s.allUnits.filter (fun u => u != first)

def State.unreadable (s : State) (d : Dump) (u : Nat) : Bool :=
  (mapFind u d.bad).isSome && !s.resetting u && (s.unitSt u).phase != .retired

/-- What follows a dump: the reset that waited, and the transition that waited. -/
def State.dumpEnded (s : State) (d : Dump) : State :=
  let s := { s with rcv := { s.rcv with dump := none } }.endRst .dump
  let s := match d.next with
    | some n => s.takeReset n.level n.reason n.unit
    | none => s
  s.lcAfterDump

def dumpReadTimeout (u off : Nat) (s : State) : State :=
  match s.rcv.dump with
  | some d =>
    if (unitRegs u).contains off && (mapFind u d.bad).isNone then
      { s with rcv := { s.rcv with dump := some { d with bad := mapPut u off d.bad } } }
    else s
  | none => s

/-- A read of the running dump has not ended within 2 µs. -/
def execDumpReadTimeout (unit : UnitId) (off : Fin 16777216) (s : State) : Host.Outcome State Fault Refusal :=
  .next (s.work uOu (dumpReadTimeout unit.val off.val))

/-- The header with its final STATE, and CHEST_STAT.STATE. -/
def State.endHeader (s : State) (d : Dump) (state records unreadable : Nat) : State :=
  (s.chestWrite d.host 0 (dumpHeader s.blkId d state s.now records unreadable)).setRfld rChestStat 1 0 state

def dumpComplete (s : State) : State :=
  match s.rcv.dump with
  | none => s
  | some d =>
    let us := s.dumpUnits d.first
    let recs := us.map (fun u => s.unitRecord u (mapFind u d.bad) false)
    let fit := fitting (2 ^ 28) 4096 recs
    let n := fit.length
    let bad := ((us.take n).filter (s.unreadable d)).length
    let state := if n = recs.length then 2 else 3
    let s := { s with free := s.free + 1 }.chestWrite d.host 4096 (fit.flatMap pad64)
    (s.endHeader d state n bad).dumpEnded d

/-- Every unit has been read: records, then the header again. -/
def execDumpComplete (s : State) : Host.Outcome State Fault Refusal := .next (s.work uOu dumpComplete)

/-- The wait for a dump is over: LIMIT_MS have passed since a reset or a transition began to wait. -/
def State.dumpLimit (s : State) (d : Dump) : Bool :=
  let ns := s.rfld rChestCfg 23 8 * 1000000
  (d.next.isSome && decide (d.since + ns ≤ s.mono)) ||
  (match s.lc.job with | some j => j.dump && decide (j.began + ns ≤ s.now) | none => false)

def dumpExpiry (s : State) : State :=
  match s.rcv.dump with
  | none => s
  | some d => if s.dumpLimit d then (s.endHeader d 3 0 0).dumpEnded d else s

/-- A dump that something waits for is cut short (R394, R437). -/
def execDumpLimitExpiry (s : State) : Host.Outcome State Fault Refusal := .next (if s.coreUp then dumpExpiry s else s)

/-! ### The capture of a stop (R464) -/

/-- A port's record: its ledger's headers follow. -/
def State.portRecord (s : State) (p : Nat) : List Byte :=
  let x := s.port p
  toLe 1 p ++ toLe 1 x.lstate.code ++ toLe 2 x.lstop ++ toLe 4 x.lcount ++ toLe 8 x.lbytes ++ toLe 4 x.ppkts ++ toLe 44 0 ++
    x.ledger.flatMap Packet.header

/-- Packets in the router's queues: each port's in port order, then the local turn's, then those that wait for a key. -/
def State.routerQueues (s : State) : List Packet :=
  (List.range 48).flatMap (fun p => (s.port p).queue) ++ s.fr.here ++ s.fr.waits

/-- The header of the stop area (log 135). -/
def State.stopHeader (s : State) (state units ports : Nat) : List Byte :=
  toLe 4 0x4B585354 ++ toLe 2 0x0301 ++ toLe 1 state ++ toLe 1 s.ou.cause ++ toLe 2 s.ou.stopId ++ toLe 2 s.node ++ toLe 4 0 ++
    toLe 8 s.ou.sAt ++ toLe 8 s.ou.tu ++ toLe 4 units ++ toLe 4 ports ++ toLe 4056 0

/-- Every port's record may be written. -/
def State.portsReady (s : State) : Bool :=
  s.ou.portsDue || (List.range 48).all (fun p =>
    let x := s.port p
    match x.st, x.lstate with
    | .down, _ => true
    | _, .opened => false
    | _, _ => true)

/-- Write the stop area, as far as it holds the records. -/
def State.writeStop (s : State) : State :=
  let us := s.allUnits
  let recs := us.map (fun u => s.unitRecord u none true) ++ (List.range 48).map s.portRecord ++ s.routerQueues.map Packet.header
  let region := stopRegion (s.reg rStopArea)
  let fits := s.regionFits region []
  -- port records and packet headers are multiples of 32 bytes and follow each other without a gap
  let parts := recs.zipIdx.map (fun e => if e.2 < us.length then pad64 e.1 else e.1)
  let fit := if fits then go region.2 4096 parts else []
  let units := min fit.length us.length
  let ports := min (fit.length - units) 48
  let whole := fits && fit.length == parts.length
  let base := s.rfld rOuBase 43 16 * 65536 + region.1
  let w : Who := { m := .observe, unit := uOu }
  let s := { s with free := s.free + 1, ou := { s.ou with incomplete := !whole, wrote := ports } }
  if fits && decide (4096 ≤ region.2) then
    let s := (s.devWrite w base (s.stopHeader 1 0 0)).2
    let s := (s.devWrite w (base + 4096) fit.flatten).2
    (s.devWrite w base (s.stopHeader (if whole then 2 else 3) units ports)).2
  else s
where
  go (limit : Nat) : Nat → List (List Byte) → List (List Byte)
    | _, [] => []
    | off, r :: rs => if off + r.length ≤ limit then r :: go limit (off + r.length) rs else []

def stopCapture (s : State) : State :=
  match s.ou.stop with
  | .stopping =>
    if s.ou.unitsStopped && s.portsReady then
      let s := s.writeStop
      let s := { s with ou := { s.ou with stop := .stopped } }.traceStop
      if s.ou.resume then s.stopResume else s
    else s
  | _ => s

/-- Every unit has stopped and the capture is written. -/
def execStopCaptureComplete (s : State) : Host.Outcome State Fault Refusal := .next (if s.coreUp then stopCapture s else s)

end Sys2Proof.Machine
end

