-- ==== Sys2Proof/Machine/TilePorts.lean ====
section
/-! DEFINITION. The tile ports (R193, R478 to R480): done, progress, fatal, kill and clear acknowledgements, requests. -/
namespace Sys2Proof.Machine

/-- The command that runs on a tile. -/
def State.runOn (s : State) (t : Nat) : Option Cmd :=
  match (s.tile t).cmd, (s.tile t).cab with
  | some n, some cab => (s.cmd cab n).bind (fun c => if c.phase == .running then some c else none)
  | _, _ => none

/-- A tile breaks the protocol of its port (R473). -/
def State.tileBreaks (s : State) (t : Nat) : State := s.faultOn (uTile t) 6 none

/-- An event at tile port `t`, while the block advances; in a stop the tiles stall (R462). -/
def State.atTile (s : State) (t : Nat) (f : State → State) : State :=
  if !s.frozen && s.tie.tiles.testBit t then f s else s

/-! ### The end of a run (R139, R140, R172, R479) -/

/-- Every tile has reported: the run's tiles are free; with an error (an abort's first, R363) the run fails, a committing one goes on to commit,
a DIRECT one is done. -/
def State.endRun (s : State) (c : Cmd) : State :=
  let bad := (c.fail.or (c.said.bind c.returned)).or c.deny
  let s := s.freeTiles c.tiles ((bad.map (·.1)).getD stDone)
  let s := match bad with
    | some (st, u) => (s.discardShadows (.cmd c.cab c.n)).endCmd c st (some u)
    | none =>
      if c.direct then s.endCmd c stDone none
      else (s.updCmd c.cab c.n (fun x => { x with phase := .committing, tiles := [] })).dropReqsOf (.cmd c.cab c.n)
  let x := s.ctx c.cab c.ctx
  let s := if c.direct && (x.resetting || x.st == .dying) then s.setCtx c.cab c.ctx { x with since := s.mono } else s
  s.noteActivity c.cab c.ctx

/-- `tp_done` (R473, R479, R480). -/
def tileDone (t status : Nat) (s : State) : State :=
  if (s.tile t).killing then s
  else match s.runOn t with
    | none => s.tileBreaks t
    | some c =>
      if c.done.contains t then s.tileBreaks t
      else
        if status ≠ stDone ∧ c.returned status = none then s.tileBreaks t
        else
          let c := { c with done := t :: c.done, said := c.said.or (if status = stDone then none else some status) }
          let s := (s.updCmd c.cab c.n (fun _ => c)).setTile t { s.tile t with progress := s.mono }
          if c.tiles.all c.done.contains then s.endRun c else s

/-- A tile's command has ended, with its status. -/
def execTileDone (tile : TileId) (status : Fin 256) (s : State) : Host.Outcome State Fault Refusal :=
  .next (s.atTile tile.val fun s => tileDone tile.val status.val s)

/-! ### Kills (R193, R480) -/

def killAcked (t : Nat) (s : State) : State := if (s.tile t).killing then s.ackKill t else s.tileBreaks t

/-- A tile acknowledges its kill. -/
def execKillAck (tile : TileId) (s : State) : Host.Outcome State Fault Refusal :=
  .next (s.atTile tile.val fun s => killAcked tile.val s)

/-- 2 µs have passed without an acknowledgement: counted, and the port is reset as hung. -/
def killLate (t : Nat) (s : State) : State :=
  let x := s.tile t
  if x.killing && decide (x.killAt + 2000 ≤ s.mono) then (s.bump rTsGstat 63 48).faultOn (uTile t) 4 none else s

def execKillAckLate (tile : TileId) (s : State) : Host.Outcome State Fault Refusal :=
  .next (s.atTile tile.val fun s => killLate tile.val s)

/-! ### Progress, fatal errors, clears -/

/-- The hang timer of the port restarts (R371, R479). -/
def execTileProgress (tile : TileId) (s : State) : Host.Outcome State Fault Refusal :=
  .next (s.atTile tile.val fun s => s.setTile tile.val { s.tile tile.val with progress := s.mono })

/-- The tile cannot continue (R370), also in a stop, which defers the event. During a kill it ends the kill (R480). -/
def execTileFatal (tile : TileId) (s : State) : Host.Outcome State Fault Refusal :=
  .next (if s.coreUp && s.tie.tiles.testBit tile.val then s.faultOn (uTile tile.val) 5 none else s)

/-- A command that waits for clears starts once its last tile is cleared (R191). -/
def State.clearedFor (s : State) (t : Nat) : State :=
  match (s.tile t).cmd, (s.tile t).cab with
  | some n, some cab => match s.cmd cab n with
    | some c => match c.phase with
      | .clearing left =>
        let left := left.filter (fun x => x != t)
        if left = [] then s.startRun c else s.updCmd cab n (fun x => { x with phase := .clearing left })
      | _ => s
    | none => s
  | _, _ => s

def clearAcked (t : Nat) (s : State) : State :=
  let x := s.tile t
  if x.clearing then ((s.setTile t { x with clearing := false, progress := s.mono }).clearedFor t).tileLeft t
  else s.tileBreaks t

/-- The tile's scratchpad and accumulators are zero (R35, R479). -/
def execTileClearAck (tile : TileId) (s : State) : Host.Outcome State Fault Refusal :=
  .next (s.atTile tile.val fun s => clearAcked tile.val s)

/-! ### Requests (R122, R135, R197, R478) -/

/-- A tile's local request: looked up, and carried out on a hit; a miss waits for its walk. -/
def State.tileAsks (s : State) (c : Cmd) (t va len tag : Nat) (write : Bool) (mask : List Bool) (data : List Byte) : State :=
  let r : Req := { id := s.tu.nextReq, src := .tile t write, unit := uTile t, cab := c.cab, ctx := c.ctx,
                   owner := some (.cmd c.cab c.n), tag := tag, va := va, write := write, len := len, data := data,
                   mask := mask, phase := .miss false, since := s.mono, ord := c.asks }
  retryTile r (s.addReq r)

/-- A remote request of a cabinet without a job tag. -/
def State.noTag (s : State) (c : Cmd) : State := s.noteErr (some (.cmd c.cab c.n)) c.asks stDenied uRouter

/-- A remote READ under the cabinet's tag, with the run's EPOCH. -/
def State.tileReadsFar (s : State) (c : Cmd) (t va len tag node : Nat) : State :=
  if s.jobValid c.cab then
    let r := s.remote c.cab node c.epoch (some (.cmd c.cab c.n)) (.read t tag) len c.asks
    r.2.inject { ty := ptRead, dst := node, job := s.jobTag c.cab, srcCab := c.cab, epoch := c.epoch,
                 payload := toLe 8 va ++ toLe 4 len ++ toLe 4 r.1 }
  else (s.noTag c).emit (.tileRead t tag stDenied [])

/-- A remote write: a WRITE for each run of the mask. -/
def sendRuns (c : Cmd) (t va tag node : Nat) : List (Nat × List Byte) → State → State
  | [], s => s
  | (o, bs) :: l, s =>
    let r := s.remote c.cab node c.epoch (some (.cmd c.cab c.n)) (.write t tag) bs.length c.asks
    sendRuns c t va tag node l (r.2.inject
      { ty := ptWrite, dst := node, job := s.jobTag c.cab, srcCab := c.cab, epoch := c.epoch,
        payload := toLe 8 (va + o) ++ toLe 4 bs.length ++ toLe 4 r.1 ++ bs })

def State.tileWritesFar (s : State) (c : Cmd) (t va tag node : Nat) (mask : List Bool) (data : List Byte) : State :=
  if s.jobValid c.cab then
    match maskRuns 0 mask data with
    | [] => s.emit (.tileWrite t tag stDone)
    | l => sendRuns c t va tag node l s
  else (s.noTag c).emit (.tileWrite t tag stDenied)

/-- A run issues one more request. -/
def State.asked (s : State) (c : Cmd) : State := s.updCmd c.cab c.n (fun x => { x with asks := x.asks + 1 })

/-- A request of a tile restarts its hang timer; one without a run, or one that crosses a line, breaks the protocol; one
offered during a kill is withdrawn (R371, R473, R480). -/
def State.tileRequest (s : State) (t : Nat) (inLine : Bool) (f : Cmd → State → State) : State :=
  if (s.tile t).killing || s.resetting (uTile t) then s
  else match s.runOn t with
    | none => s.tileBreaks t
    | some c =>
      if c.done.contains t || !inLine then s.tileBreaks t
      else f c ((s.asked c).setTile t { s.tile t with progress := s.mono })

def tileReads (t va len tag : Nat) (remote : Option Nat) (s : State) : State :=
  s.tileRequest t (decide (va % 128 + len ≤ 128)) fun c s => match remote with
    | some node => s.tileReadsFar c t va len tag node
    | none => s.tileAsks c t va len tag false [] []

def execTileReadRequest (tile : TileId) (va len : Nat) (tag : Fin 1024) (remote : Option (Fin 65536)) (s : State) :
    Host.Outcome State Fault Refusal :=
  if tileReadWf va len then
    .next (s.atTile tile.val fun s => tileReads tile.val va len tag.val (remote.map (·.val)) s)
  else .fault (.illFormed "TILE_READ_REQUEST")

def tileWrites (t va : Nat) (mask : List Bool) (data : List Byte) (tag : Nat) (remote : Option Nat) (s : State) : State :=
  s.tileRequest t true fun c s => match remote with
    | some node => s.tileWritesFar c t va tag node mask data
    | none => s.tileAsks c t va 128 tag true mask data

def execTileWriteRequest (tile : TileId) (va : Nat) (mask : List Bool) (data : List Byte) (tag : Fin 1024)
    (remote : Option (Fin 65536)) (s : State) : Host.Outcome State Fault Refusal :=
  if tileWriteWf va mask data then
    .next (s.atTile tile.val fun s => tileWrites tile.val va mask data tag.val (remote.map (·.val)) s)
  else .fault (.illFormed "TILE_WRITE_REQUEST")

end Sys2Proof.Machine
end

