-- ==== Sys2Proof/Machine/Dispatch.lean ====
section
/-! DEFINITION. The meaning of each command: one direct call per constructor. -/
namespace Sys2Proof.Machine

/-- The effect of a command on everything but the queue. -/
def exec (i : Instr) (s : State) : Host.Outcome State Fault Refusal :=
  match i with
  | .cabNop func cab => Sys2Proof.Machine.execCabNop func cab s
  | .cabBuild func cab => Sys2Proof.Machine.execCabBuild func cab s
  | .cabActivate func cab => Sys2Proof.Machine.execCabActivate func cab s
  | .cabApply func cab => Sys2Proof.Machine.execCabApply func cab s
  | .cabDestroy func cab => Sys2Proof.Machine.execCabDestroy func cab s
  | .activateComplete cab => Sys2Proof.Machine.execActivateComplete cab s
  | .applyComplete cab => Sys2Proof.Machine.execApplyComplete cab s
  | .cabinetTeardownComplete cab => Sys2Proof.Machine.execCabinetTeardownComplete cab s
  | .reportWindowClose => Sys2Proof.Machine.execReportWindowClose s
  | .floorIntervalEnd refused => Sys2Proof.Machine.execFloorIntervalEnd refused s
  | .ctxNop func cab => Sys2Proof.Machine.execCtxNop func cab s
  | .ctxAlloc func cab => Sys2Proof.Machine.execCtxAlloc func cab s
  | .ctxFree func cab ctx => Sys2Proof.Machine.execCtxFree func cab ctx s
  | .contextTeardownComplete cab ctx => Sys2Proof.Machine.execContextTeardownComplete cab ctx s
  | .mobjNop func cab => Sys2Proof.Machine.execMobjNop func cab s
  | .mobjCreate func cab => Sys2Proof.Machine.execMobjCreate func cab s
  | .mobjAlias func cab => Sys2Proof.Machine.execMobjAlias func cab s
  | .mobjRelease func cab => Sys2Proof.Machine.execMobjRelease func cab s
  | .drwNop func cab => Sys2Proof.Machine.execDrwNop func cab s
  | .drwCreate func cab => Sys2Proof.Machine.execDrwCreate func cab s
  | .drwStop func cab drawer => Sys2Proof.Machine.execDrwStop func cab drawer s
  | .drwStart func cab drawer => Sys2Proof.Machine.execDrwStart func cab drawer s
  | .drwDestroy func cab drawer => Sys2Proof.Machine.execDrwDestroy func cab drawer s
  | .qryContext func cab ctx => Sys2Proof.Machine.execQryContext func cab ctx s
  | .qryCabinet func cab => Sys2Proof.Machine.execQryCabinet func cab s
  | .doorbellWrite func off len pasid value => Sys2Proof.Machine.execDoorbellWrite func off len pasid value s
  | .descriptorFetch cab drawer => Sys2Proof.Machine.execDescriptorFetch cab drawer s
  | .descriptorIssue cab drawer seq => Sys2Proof.Machine.execDescriptorIssue cab drawer seq s
  | .descriptorComplete cab drawer seq => Sys2Proof.Machine.execDescriptorComplete cab drawer seq s
  | .kernelDesc cab drawer seq => Sys2Proof.Machine.execKernelDesc cab drawer seq s
  | .layerStep cab drawer seq => Sys2Proof.Machine.execLayerStep cab drawer seq s
  | .requestDesc cab drawer seq => Sys2Proof.Machine.execRequestDesc cab drawer seq s
  | .moveDesc cab drawer seq => Sys2Proof.Machine.execMoveDesc cab drawer seq s
  | .prefetchDesc cab drawer seq => Sys2Proof.Machine.execPrefetchDesc cab drawer seq s
  | .adviseWillneed cab drawer seq => Sys2Proof.Machine.execAdviseWillneed cab drawer seq s
  | .adviseDontneed cab drawer seq => Sys2Proof.Machine.execAdviseDontneed cab drawer seq s
  | .adviseSettle cab drawer seq => Sys2Proof.Machine.execAdviseSettle cab drawer seq s
  | .adviseInvalidate cab drawer seq => Sys2Proof.Machine.execAdviseInvalidate cab drawer seq s
  | .dispatchRoute cab drawer seq => Sys2Proof.Machine.execDispatchRoute cab drawer seq s
  | .dispatchReturn cab drawer seq => Sys2Proof.Machine.execDispatchReturn cab drawer seq s
  | .dispatchLand cab drawer seq => Sys2Proof.Machine.execDispatchLand cab drawer seq s
  | .dispatchUnland cab drawer seq => Sys2Proof.Machine.execDispatchUnland cab drawer seq s
  | .combineDesc cab drawer seq => Sys2Proof.Machine.execCombineDesc cab drawer seq s
  | .tableLoadLoad cab drawer seq => Sys2Proof.Machine.execTableLoadLoad cab drawer seq s
  | .tableLoadReplace cab drawer seq => Sys2Proof.Machine.execTableLoadReplace cab drawer seq s
  | .tableLoadFree cab drawer seq => Sys2Proof.Machine.execTableLoadFree cab drawer seq s
  | .signalLocal cab drawer seq => Sys2Proof.Machine.execSignalLocal cab drawer seq s
  | .signalRemote cab drawer seq => Sys2Proof.Machine.execSignalRemote cab drawer seq s
  | .waitDesc cab drawer seq => Sys2Proof.Machine.execWaitDesc cab drawer seq s
  | .queryContext cab drawer seq => Sys2Proof.Machine.execQueryContext cab drawer seq s
  | .queryCabinet cab drawer seq => Sys2Proof.Machine.execQueryCabinet cab drawer seq s
  | .swapIn cab drawer seq => Sys2Proof.Machine.execSwapIn cab drawer seq s
  | .swapOut cab drawer seq => Sys2Proof.Machine.execSwapOut cab drawer seq s
  | .channelCreate cab drawer seq => Sys2Proof.Machine.execChannelCreate cab drawer seq s
  | .channelDestroy cab drawer seq => Sys2Proof.Machine.execChannelDestroy cab drawer seq s
  | .latNop func cab => Sys2Proof.Machine.execLatNop func cab s
  | .latArm func cab => Sys2Proof.Machine.execLatArm func cab s
  | .latRearm func cab latch => Sys2Proof.Machine.execLatRearm func cab latch s
  | .latDisarm func cab latch => Sys2Proof.Machine.execLatDisarm func cab latch s
  | .latEval func cab latch => Sys2Proof.Machine.execLatEval func cab latch s
  | .latchEvaluate latch => Sys2Proof.Machine.execLatchEvaluate latch s
  | .hostFencePoll latch => Sys2Proof.Machine.execHostFencePoll latch s
  | .starvedWaitPoll cab => Sys2Proof.Machine.execStarvedWaitPoll cab s
  | .waitTimeout cab drawer seq => Sys2Proof.Machine.execWaitTimeout cab drawer seq s
  | .remoteSignalTimeout cab drawer seq => Sys2Proof.Machine.execRemoteSignalTimeout cab drawer seq s
  | .walkStart req => Sys2Proof.Machine.execWalkStart req s
  | .walkComplete cab ctx page => Sys2Proof.Machine.execWalkComplete cab ctx page s
  | .faultRecordWrite cab => Sys2Proof.Machine.execFaultRecordWrite cab s
  | .faultRetry cab record => Sys2Proof.Machine.execFaultRetry cab record s
  | .faultFail cab record => Sys2Proof.Machine.execFaultFail cab record s
  | .faultTimeout req => Sys2Proof.Machine.execFaultTimeout req s
  | .tuFqEnable func cab value => Sys2Proof.Machine.execTuFqEnable func cab value s
  | .tuFqDisable func cab value => Sys2Proof.Machine.execTuFqDisable func cab value s
  | .atsCompletion req present r w addr size => Sys2Proof.Machine.execAtsCompletion req present r w addr size s
  | .prgResponse group code => Sys2Proof.Machine.execPrgResponse group code s
  | .atsInvalidate func itag pasid addr len => Sys2Proof.Machine.execAtsInvalidate func itag pasid addr len s
  | .withdrawalComplete id => Sys2Proof.Machine.execWithdrawalComplete id s
  | .commitByRemap cab cmd => Sys2Proof.Machine.execCommitByRemap cab cmd s
  | .shadowStallResume req => Sys2Proof.Machine.execShadowStallResume req s
  | .shadowWaitExpiry cab => Sys2Proof.Machine.execShadowWaitExpiry cab s
  | .settleGranule cab home => Sys2Proof.Machine.execSettleGranule cab home s
  | .sbEnable func cab value => Sys2Proof.Machine.execSbEnable func cab value s
  | .sbDisable func cab value => Sys2Proof.Machine.execSbDisable func cab value s
  | .admissionPass cab drawer seq => Sys2Proof.Machine.execAdmissionPass cab drawer seq s
  | .stepBoundary cab => Sys2Proof.Machine.execStepBoundary cab s
  | .batchTablesWritten cab => Sys2Proof.Machine.execBatchTablesWritten cab s
  | .layerCommit cab cmd => Sys2Proof.Machine.execLayerCommit cab cmd s
  | .placement cab => Sys2Proof.Machine.execPlacement cab s
  | .bypassLimitExpiry cab => Sys2Proof.Machine.execBypassLimitExpiry cab s
  | .killAck tile => Sys2Proof.Machine.execKillAck tile s
  | .killAckLate tile => Sys2Proof.Machine.execKillAckLate tile s
  | .autoSwapIn cab ctx => Sys2Proof.Machine.execAutoSwapIn cab ctx s
  | .swapLoadComplete cab ctx => Sys2Proof.Machine.execSwapLoadComplete cab ctx s
  | .swapSaveComplete cab ctx data => Sys2Proof.Machine.execSwapSaveComplete cab ctx data s
  | .stallEviction cab => Sys2Proof.Machine.execStallEviction cab s
  | .tileDone tile status => Sys2Proof.Machine.execTileDone tile status s
  | .tileProgress tile => Sys2Proof.Machine.execTileProgress tile s
  | .tileFatal tile => Sys2Proof.Machine.execTileFatal tile s
  | .tileClearAck tile => Sys2Proof.Machine.execTileClearAck tile s
  | .tileReadRequest tile va len tag remote => Sys2Proof.Machine.execTileReadRequest tile va len tag remote s
  | .tileWriteRequest tile va mask data tag remote => Sys2Proof.Machine.execTileWriteRequest tile va mask data tag remote s
  | .moveStart cab drawer seq => Sys2Proof.Machine.execMoveStart cab drawer seq s
  | .segmentRead engine chan => Sys2Proof.Machine.execSegmentRead engine chan s
  | .segmentWrite engine chan seg => Sys2Proof.Machine.execSegmentWrite engine chan seg s
  | .moveComplete chan => Sys2Proof.Machine.execMoveComplete chan s
  | .prefetchComplete chan => Sys2Proof.Machine.execPrefetchComplete chan s
  | .chPause func chan value => Sys2Proof.Machine.execChPause func chan value s
  | .chUnpause func chan value => Sys2Proof.Machine.execChUnpause func chan value s
  | .channelDrained chan => Sys2Proof.Machine.execChannelDrained chan s
  | .chStart func chan value => Sys2Proof.Machine.execChStart func chan value s
  | .directTransferEnd chan => Sys2Proof.Machine.execDirectTransferEnd chan s
  | .channelFree chan => Sys2Proof.Machine.execChannelFree chan s
  | .setPacket port pkt => Sys2Proof.Machine.execSetPacket port pkt s
  | .sealPacket port pkt => Sys2Proof.Machine.execSealPacket port pkt s
  | .commitPacket port pkt => Sys2Proof.Machine.execCommitPacket port pkt s
  | .landingCommit cab id => Sys2Proof.Machine.execLandingCommit cab id s
  | .discardPacket port pkt => Sys2Proof.Machine.execDiscardPacket port pkt s
  | .setrspStaged port pkt => Sys2Proof.Machine.execSetrspStaged port pkt s
  | .setrspCommitted port pkt => Sys2Proof.Machine.execSetrspCommitted port pkt s
  | .setrspRefused port pkt => Sys2Proof.Machine.execSetrspRefused port pkt s
  | .setrspDiscarded port pkt => Sys2Proof.Machine.execSetrspDiscarded port pkt s
  | .combineCompute cab drawer seq => Sys2Proof.Machine.execCombineCompute cab drawer seq s
  | .dcePeerTimeout cab drawer seq => Sys2Proof.Machine.execDcePeerTimeout cab drawer seq s
  | .tableLoaderCheck cab drawer seq => Sys2Proof.Machine.execTableLoaderCheck cab drawer seq s
  | .tableReplaceComplete cab drawer seq => Sys2Proof.Machine.execTableReplaceComplete cab drawer seq s
  | .tableFreeComplete cab drawer seq => Sys2Proof.Machine.execTableFreeComplete cab drawer seq s
  | .stackGateRequest gate m unit ctx addr len data => Sys2Proof.Machine.execStackGateRequest gate m unit ctx addr len data s
  | .gateGrant gate cycle => Sys2Proof.Machine.execGateGrant gate cycle s
  | .stackGateResponse gate tag err => Sys2Proof.Machine.execStackGateResponse gate tag err s
  | .groupRemixComplete group => Sys2Proof.Machine.execGroupRemixComplete group s
  | .rekeyChunkConverted cab => Sys2Proof.Machine.execRekeyChunkConverted cab s
  | .keyDraw healthy => Sys2Proof.Machine.execKeyDraw healthy s
  | .urgencyWireChange wire level => Sys2Proof.Machine.execUrgencyWireChange wire level s
  | .urgencyStuck wire => Sys2Proof.Machine.execUrgencyStuck wire s
  | .sgNcfloorWrite func gate value => Sys2Proof.Machine.execSgNcfloorWrite func gate value s
  | .frNcfloorWrite func value => Sys2Proof.Machine.execFrNcfloorWrite func value s
  | .mixRiNop func => Sys2Proof.Machine.execMixRiNop func s
  | .mixReinit func => Sys2Proof.Machine.execMixReinit func s
  | .mixReinitComplete => Sys2Proof.Machine.execMixReinitComplete s
  | .fabricEnable func value => Sys2Proof.Machine.execFabricEnable func value s
  | .portEnable func port value => Sys2Proof.Machine.execPortEnable func port value s
  | .portDisable func port value => Sys2Proof.Machine.execPortDisable func port value s
  | .linkUp port lanes => Sys2Proof.Machine.execLinkUp port lanes s
  | .phyLossOfLink port => Sys2Proof.Machine.execPhyLossOfLink port s
  | .controlWordTimeout port => Sys2Proof.Machine.execControlWordTimeout port s
  | .flitCrcError port retried => Sys2Proof.Machine.execFlitCrcError port retried s
  | .flitRetryLimit port => Sys2Proof.Machine.execFlitRetryLimit port s
  | .discPacket port pkt => Sys2Proof.Machine.execDiscPacket port pkt s
  | .discTimer port => Sys2Proof.Machine.execDiscTimer port s
  | .fabricTransit port pkt => Sys2Proof.Machine.execFabricTransit port pkt s
  | .unreachPacket port pkt => Sys2Proof.Machine.execUnreachPacket port pkt s
  | .writePacket port pkt => Sys2Proof.Machine.execWritePacket port pkt s
  | .wackPacket port pkt => Sys2Proof.Machine.execWackPacket port pkt s
  | .readPacket port pkt => Sys2Proof.Machine.execReadPacket port pkt s
  | .rdataPacket port pkt => Sys2Proof.Machine.execRdataPacket port pkt s
  | .signalPacket port pkt => Sys2Proof.Machine.execSignalPacket port pkt s
  | .sackPacket port pkt => Sys2Proof.Machine.execSackPacket port pkt s
  | .abortPacket port pkt => Sys2Proof.Machine.execAbortPacket port pkt s
  | .abortCacheExpiry => Sys2Proof.Machine.execAbortCacheExpiry s
  | .markerPacket port pkt => Sys2Proof.Machine.execMarkerPacket port pkt s
  | .ledgerPacket port pkt => Sys2Proof.Machine.execLedgerPacket port pkt s
  | .jobTagSet func cab value => Sys2Proof.Machine.execJobTagSet func cab value s
  | .jobTagClear func cab value => Sys2Proof.Machine.execJobTagClear func cab value s
  | .jobTxkeyFlip func cab value => Sys2Proof.Machine.execJobTxkeyFlip func cab value s
  | .frJobkeyWrite func cab k value => Sys2Proof.Machine.execFrJobkeyWrite func cab k value s
  | .frAbortWrite func value => Sys2Proof.Machine.execFrAbortWrite func value s
  | .hangDetected unit chan => Sys2Proof.Machine.execHangDetected unit chan s
  | .sramError unit lost => Sys2Proof.Machine.execSramError unit lost s
  | .engineResetHoldDone unit => Sys2Proof.Machine.execEngineResetHoldDone unit s
  | .engineResetLogicDone unit => Sys2Proof.Machine.execEngineResetLogicDone unit s
  | .engineResetResyncDone unit => Sys2Proof.Machine.execEngineResetResyncDone unit s
  | .searchReplayComplete unit => Sys2Proof.Machine.execSearchReplayComplete unit s
  | .searchClearTimer unit => Sys2Proof.Machine.execSearchClearTimer unit s
  | .engineResetLimitMiss unit => Sys2Proof.Machine.execEngineResetLimitMiss unit s
  | .rstNop func => Sys2Proof.Machine.execRstNop func s
  | .rstContext func => Sys2Proof.Machine.execRstContext func s
  | .rstEngine func => Sys2Proof.Machine.execRstEngine func s
  | .rstCabinet func => Sys2Proof.Machine.execRstCabinet func s
  | .rstChip func => Sys2Proof.Machine.execRstChip func s
  | .rstTray func => Sys2Proof.Machine.execRstTray func s
  | .rstDump func => Sys2Proof.Machine.execRstDump func s
  | .rstUnretire func => Sys2Proof.Machine.execRstUnretire func s
  | .contextResetComplete cab ctx => Sys2Proof.Machine.execContextResetComplete cab ctx s
  | .contextResetLimitMiss cab ctx => Sys2Proof.Machine.execContextResetLimitMiss cab ctx s
  | .cabinetResetDirectLimit cab => Sys2Proof.Machine.execCabinetResetDirectLimit cab s
  | .cabinetResetComplete cab => Sys2Proof.Machine.execCabinetResetComplete cab s
  | .cabinetResetLimitMiss cab => Sys2Proof.Machine.execCabinetResetLimitMiss cab s
  | .fltEnable func value => Sys2Proof.Machine.execFltEnable func value s
  | .dumpReadTimeout unit off => Sys2Proof.Machine.execDumpReadTimeout unit off s
  | .dumpComplete => Sys2Proof.Machine.execDumpComplete s
  | .dumpLimitExpiry => Sys2Proof.Machine.execDumpLimitExpiry s
  | .plinthWatchdogExpiry => Sys2Proof.Machine.execPlinthWatchdogExpiry s
  | .porRise => Sys2Proof.Machine.execPorRise s
  | .wakeN => Sys2Proof.Machine.execWakeN s
  | .fuseLoadComplete words => Sys2Proof.Machine.execFuseLoadComplete words s
  | .lifecyclePhaseComplete => Sys2Proof.Machine.execLifecyclePhaseComplete s
  | .lifecycleLimitMiss => Sys2Proof.Machine.execLifecycleLimitMiss s
  | .rungReady rung level => Sys2Proof.Machine.execRungReady rung level s
  | .rungReadyLost rung => Sys2Proof.Machine.execRungReadyLost rung s
  | .rungTimeout rung => Sys2Proof.Machine.execRungTimeout rung s
  | .imageHeader header => Sys2Proof.Machine.execImageHeader header s
  | .imageRegRecord record => Sys2Proof.Machine.execImageRegRecord record s
  | .imageTableRecord record => Sys2Proof.Machine.execImageTableRecord record s
  | .imageCabinetRecord record => Sys2Proof.Machine.execImageCabinetRecord record s
  | .imageTrimRecord record => Sys2Proof.Machine.execImageTrimRecord record s
  | .imageEndRecord record => Sys2Proof.Machine.execImageEndRecord record s
  | .imageFlashTimeout read => Sys2Proof.Machine.execImageFlashTimeout read s
  | .startPhaseTimeout => Sys2Proof.Machine.execStartPhaseTimeout s
  | .memInitDone gate => Sys2Proof.Machine.execMemInitDone gate s
  | .memInitFail gate => Sys2Proof.Machine.execMemInitFail gate s
  | .blkLockSet func value => Sys2Proof.Machine.execBlkLockSet func value s
  | .clockMeasure mhz => Sys2Proof.Machine.execClockMeasure mhz s
  | .plnTsLoadWrite func value => Sys2Proof.Machine.execPlnTsLoadWrite func value s
  | .pwrNop func value => Sys2Proof.Machine.execPwrNop func value s
  | .pwrEnter func value => Sys2Proof.Machine.execPwrEnter func value s
  | .pwrExit func value => Sys2Proof.Machine.execPwrExit func value s
  | .cabinetIdleTimer cab => Sys2Proof.Machine.execCabinetIdleTimer cab s
  | .cabinetSleepTimer cab => Sys2Proof.Machine.execCabinetSleepTimer cab s
  | .blockAutoIdle => Sys2Proof.Machine.execBlockAutoIdle s
  | .blockAutoSleep => Sys2Proof.Machine.execBlockAutoSleep s
  | .qsAck who cab level deny => Sys2Proof.Machine.execQsAck who cab level deny s
  | .qsDeny who cab reason => Sys2Proof.Machine.execQsDeny who cab reason s
  | .qsTimeout cab => Sys2Proof.Machine.execQsTimeout cab s
  | .hgWake => Sys2Proof.Machine.execHgWake s
  | .pwrWakeAtExpiry => Sys2Proof.Machine.execPwrWakeAtExpiry s
  | .i3cEntdaa addr => Sys2Proof.Machine.execI3cEntdaa addr s
  | .getInfo body => Sys2Proof.Machine.execGetInfo body s
  | .getTime body => Sys2Proof.Machine.execGetTime body s
  | .getPower body => Sys2Proof.Machine.execGetPower body s
  | .setPower body => Sys2Proof.Machine.execSetPower body s
  | .getSensors body => Sys2Proof.Machine.execGetSensors body s
  | .mctpUnsupportedCommand code => Sys2Proof.Machine.execMctpUnsupportedCommand code s
  | .tcAcknowledge code => Sys2Proof.Machine.execTcAcknowledge code s
  | .mctpRepeatTimer => Sys2Proof.Machine.execMctpRepeatTimer s
  | .lcNop func value => Sys2Proof.Machine.execLcNop func value s
  | .lcChallenge func value => Sys2Proof.Machine.execLcChallenge func value s
  | .lcSubmit func value => Sys2Proof.Machine.execLcSubmit func value s
  | .lcTransition func value => Sys2Proof.Machine.execLcTransition func value s
  | .fuseBurnAck ok => Sys2Proof.Machine.execFuseBurnAck ok s
  | .flashSectorErased ok => Sys2Proof.Machine.execFlashSectorErased ok s
  | .tapBypass => Sys2Proof.Machine.execTapBypass s
  | .tapIdcode => Sys2Proof.Machine.execTapIdcode s
  | .tapLcStatus => Sys2Proof.Machine.execTapLcStatus s
  | .tapLcChallenge => Sys2Proof.Machine.execTapLcChallenge s
  | .tapLcToken token => Sys2Proof.Machine.execTapLcToken token s
  | .tapLcTransition target => Sys2Proof.Machine.execTapLcTransition target s
  | .tapDbgReg data off write => Sys2Proof.Machine.execTapDbgReg data off write s
  | .tapDbgMem data addr write => Sys2Proof.Machine.execTapDbgMem data addr write s
  | .tapPrivate code => Sys2Proof.Machine.execTapPrivate code s
  | .mctpLcGet body => Sys2Proof.Machine.execMctpLcGet body s
  | .mctpLcChallenge body => Sys2Proof.Machine.execMctpLcChallenge body s
  | .mctpLcToken body => Sys2Proof.Machine.execMctpLcToken body s
  | .mctpLcTransition body => Sys2Proof.Machine.execMctpLcTransition body s
  | .sampleInstant => Sys2Proof.Machine.execSampleInstant s
  | .sensorReading index kind value => Sys2Proof.Machine.execSensorReading index kind value s
  | .ouSmpEnable func value => Sys2Proof.Machine.execOuSmpEnable func value s
  | .ouTrcEnable func value => Sys2Proof.Machine.execOuTrcEnable func value s
  | .ouCselWrite func k value => Sys2Proof.Machine.execOuCselWrite func k value s
  | .ouTrcMarkWrite func value => Sys2Proof.Machine.execOuTrcMarkWrite func value s
  | .ouStopNop func value => Sys2Proof.Machine.execOuStopNop func value s
  | .ouStopSchedule func value => Sys2Proof.Machine.execOuStopSchedule func value s
  | .ouStopCancel func value => Sys2Proof.Machine.execOuStopCancel func value s
  | .ouStopResume func value => Sys2Proof.Machine.execOuStopResume func value s
  | .stopTimeReached => Sys2Proof.Machine.execStopTimeReached s
  | .unitsStop => Sys2Proof.Machine.execUnitsStop s
  | .stopCaptureComplete => Sys2Proof.Machine.execStopCaptureComplete s
  | .stopPortRecordTimer => Sys2Proof.Machine.execStopPortRecordTimer s
  | .stopAutoResume => Sys2Proof.Machine.execStopAutoResume s
  | .badRegisterAccess func off len write => Sys2Proof.Machine.execBadRegisterAccess func off len write s
  | .registerWrite func off value => Sys2Proof.Machine.execRegisterWrite func off value s
  | .hostMemoryAccess func addr len data => Sys2Proof.Machine.execHostMemoryAccess func addr len data s
  | .hostReadCompletion addr data => Sys2Proof.Machine.execHostReadCompletion addr data s
  | .functionConfig func data => Sys2Proof.Machine.execFunctionConfig func data s
  | .flr func => Sys2Proof.Machine.execFlr func s
  | .dbDropsRead func cab => Sys2Proof.Machine.execDbDropsRead func cab s
  | .dbGdropsRead func => Sys2Proof.Machine.execDbGdropsRead func s
  | .latStatRead func cab => Sys2Proof.Machine.execLatStatRead func cab s
  | .latGstatRead func => Sys2Proof.Machine.execLatGstatRead func s
  | .tuGstatRead func => Sys2Proof.Machine.execTuGstatRead func s
  | .tuCstatRead func cab => Sys2Proof.Machine.execTuCstatRead func cab s
  | .sbGstatRead func => Sys2Proof.Machine.execSbGstatRead func s
  | .sbCntRead func cab => Sys2Proof.Machine.execSbCntRead func cab s
  | .tsGstatRead func => Sys2Proof.Machine.execTsGstatRead func s
  | .tsCntRead func cab => Sys2Proof.Machine.execTsCntRead func cab s
  | .tsCnt2Read func cab => Sys2Proof.Machine.execTsCnt2Read func cab s
  | .meGstatRead func => Sys2Proof.Machine.execMeGstatRead func s
  | .meCstatRead func cab => Sys2Proof.Machine.execMeCstatRead func cab s
  | .dceGstatRead func => Sys2Proof.Machine.execDceGstatRead func s
  | .dceCstatRead func cab => Sys2Proof.Machine.execDceCstatRead func cab s
  | .ftCstatRead func cab => Sys2Proof.Machine.execFtCstatRead func cab s
  | .sgStatRead func gate => Sys2Proof.Machine.execSgStatRead func gate s
  | .sgLatRead func gate m => Sys2Proof.Machine.execSgLatRead func gate m s
  | .sgMixstatRead func gate => Sys2Proof.Machine.execSgMixstatRead func gate s
  | .sgMdcRead func gate => Sys2Proof.Machine.execSgMdcRead func gate s
  | .sgRemixRead func gate => Sys2Proof.Machine.execSgRemixRead func gate s
  | .mixGstatRead func => Sys2Proof.Machine.execMixGstatRead func s
  | .frCntRead func => Sys2Proof.Machine.execFrCntRead func s
  | .frCnt2Read func => Sys2Proof.Machine.execFrCnt2Read func s
  | .pgCntRead func port => Sys2Proof.Machine.execPgCntRead func port s
  | .rcvStatRead func => Sys2Proof.Machine.execRcvStatRead func s
  | .chestStatRead func => Sys2Proof.Machine.execChestStatRead func s
  | .pwrRefuseCountRead func => Sys2Proof.Machine.execPwrRefuseCountRead func s
  | .plnTsStatRead func => Sys2Proof.Machine.execPlnTsStatRead func s
  | .ouGstatRead func => Sys2Proof.Machine.execOuGstatRead func s
  | .porAssert => Sys2Proof.Machine.execPorAssert s

end Sys2Proof.Machine
end

