-- ==== Sys2Proof/Safety.lean ====
section
/-! DEFINITION. The terms the claims use: when a unit does its work, both memories in canonical form, and the pieces of State
that each command may change. -/
namespace Sys2Proof.Machine

/-- Device and host memory are in canonical form. -/
def State.memWf (s : State) : Bool := Memory.wf s.dev && Memory.wf s.hostMem

/-- Unit `u` does its work: the block is up and not stopped, and the unit is in no reset (R402, R462, R380). -/
def State.serves (s : State) (u : Nat) : Prop := s.frozen = false ∧ s.resetting u = false

/-- A register access that a reset holds waits at the end of the Host Gate's queue; nothing else changes (R495; log 150). -/
def State.hold (s : State) (func off : Nat) (v : Option Word) : State :=
  { s with hg := { s.hg with regs := s.hg.regs ++ [{ func := func, off := off, data := v }] } }

/-- `c` takes a counter register: from the platform function its data goes out and its bits `rc` are cleared, or the read waits
where a reset holds it; from another function, or before release, nothing happens (R13, R493, R495, R496). -/
def TakesCounter (c : Sys2Proof.Func → Sys2Proof.Instr) (off rc : Nat) : Prop :=
  ∀ s : State,
    let u := s.wakeBlock 1
    (s.hostUp = true → u.regHeld off = false → exec (c 0) s = .next ((u.emit (.read (u.reg off))).setReg off
      (u.reg off &&& ~~~(BitVec.ofNat 64 rc)))) ∧
    (s.hostUp = true → u.regHeld off = true → exec (c 0) s = .next (u.hold 0 off none)) ∧
    (∀ f, f ≠ 0 ∨ s.hostUp = false → exec (c f) s = .next s)

/-- As `TakesCounter`, for the operating register at `o` of cabinet `n`'s window: a function that reaches the LIVE cabinet takes
it; another reads 0, and the platform function the reset value `rv` (R20, R496). -/
def TakesOperating (c : Sys2Proof.Func → Sys2Proof.Instr) (n o rc : Nat) (rv : Word) : Prop :=
  ∀ (s : State) (f : Sys2Proof.Func),
    let u := s.wakeCab n 1
    (s.mayOperate f.val n = true → u.regHeld (rWin n + o) = false →
      exec (c f) s = .next ((u.emit (.read (u.reg (rWin n + o)))).setReg (rWin n + o)
        (u.reg (rWin n + o) &&& ~~~(BitVec.ofNat 64 rc)))) ∧
    (s.mayOperate f.val n = true → u.regHeld (rWin n + o) = true → exec (c f) s = .next (u.hold f.val (winOff f.val n o) none)) ∧
    (s.hostUp = true → s.mayOperate f.val n = false →
      exec (c f) s = .next ((s.wakeBlock 1).emit (.read (if f = 0 then rv else 0)))) ∧
    (s.hostUp = false → exec (c f) s = .next s)

/-- The command answers a next state that has a property. -/
def Answers (c : Sys2Proof.Instr) (s : State) (p : State → Prop) : Prop := ∃ t, exec c s = .next t ∧ p t

/-- The command register at `o` of cabinet `n`'s window takes a write: the function reaches the LIVE cabinet, and no reset holds
the access (R20, R421, R495). -/
def State.mayCommand (s : State) (f n o : Nat) : Prop :=
  s.mayOperate f n = true ∧ (s.wakeCab n 1).regHeld (rWin n + o) = false

/-- A command of the register at `o` of a cabinet's window is taken up: the register takes the write, and READY of the result
register is 1; the command then acts on `u` (R53). -/
def State.takes (s : State) (f n o res : Nat) (u : State) : Prop :=
  s.mayCommand f n o ∧ (s.wakeCab n 1).accept res = some u

/-- The platform function's access to the register at `off` acts at once: the block is released, and no reset holds the access
(R495, R496). -/
def State.mayReach (s : State) (off : Nat) : Prop := s.hostUp = true ∧ (s.wakeBlock 1).regHeld off = false

/-- A command of the chip-wide command register at `off` is taken up: the register takes the write, and READY of the result
register is 1; the command then acts on `u` (R496, R53, R421). -/
def State.takesChip (s : State) (off res : Nat) (u : State) : Prop :=
  s.mayReach off ∧ (s.wakeBlock 1).accept res = some u

/-- The command leaves exactly the state it found. -/
def Idles (c : Sys2Proof.Instr) (s : State) : Prop := exec c s = .next s

/-- A packet for this chip comes to be handled: one of the local turn, or one that arrives at a port that is UP while no stop
holds the ports; the handler then acts on `u` (R240, R353, R462). -/
def State.reaches (s : State) (port : Option Sys2Proof.PortId) (p : Sys2Proof.Packet) (u : State) : Prop :=
  p.dst = s.node ∧ s.resetting uRouter = false ∧
  match port with
  | none => s.frozen = false ∧ s.fr.here.contains p = true ∧ u = { s with fr := { s.fr with here := s.fr.here.erase p } }
  | some q => (s.port q.val).st = .up ∧ s.portsStopped = false ∧
    u = s.carry (uPort q.val) (if p.job = 0 then none else s.jobCab p.job) p.size

/-- A tagged packet comes to be handled, its tag is held by cabinet `n`, and the handler acts on `u` (R360). -/
def State.hears (s : State) (port : Option Sys2Proof.PortId) (p : Sys2Proof.Packet) (n : Nat) (u : State) : Prop :=
  ∃ v, s.reaches port p v ∧ v.arrives (port.map (·.val)) p = (some n, u)

/-- A piece of State: one of its fields. -/
inductive Piece where
  | pending | out | now | tie | free | regs | dev | hostMem | lost | cabs | drw | lat | tu | ts | mix | hg | rcv | ou | mono | ft | me | dce | fr | sb | pln | lc | fuse | sg | urg
deriving DecidableEq, Repr

/-- A piece is the same in two states. -/
def Piece.same (s t : State) : Piece → Prop
  | .pending => t.pending = s.pending
  | .out => t.out = s.out
  | .now => t.now = s.now
  | .tie => t.tie = s.tie
  | .free => t.free = s.free
  | .regs => t.regs = s.regs
  | .dev => t.dev = s.dev
  | .hostMem => t.hostMem = s.hostMem
  | .lost => t.lost = s.lost
  | .cabs => t.cabs = s.cabs
  | .drw => t.drw = s.drw
  | .lat => t.lat = s.lat
  | .tu => t.tu = s.tu
  | .ts => t.ts = s.ts
  | .mix => t.mix = s.mix
  | .hg => t.hg = s.hg
  | .rcv => t.rcv = s.rcv
  | .ou => t.ou = s.ou
  | .mono => t.mono = s.mono
  | .ft => t.ft = s.ft
  | .me => t.me = s.me
  | .dce => t.dce = s.dce
  | .fr => t.fr = s.fr
  | .sb => t.sb = s.sb
  | .pln => t.pln = s.pln
  | .lc => t.lc = s.lc
  | .fuse => t.fuse = s.fuse
  | .sg => t.sg = s.sg
  | .urg => t.urg = s.urg

/-- The pieces a command may change; every other piece is as before whenever the command answers a next state. -/
def mayChange : Sys2Proof.Instr → List Piece
  | .cabNop .. | .cabBuild .. | .cabActivate .. | .cabApply .. | .cabDestroy .. | .killAck .. | .killAckLate ..
  | .tileDone .. | .tileFatal .. | .tileClearAck .. | .tileReadRequest .. | .tileWriteRequest ..
  | .stackGateResponse .. | .hangDetected .. | .sramError .. | .engineResetLimitMiss .. | .rstNop .. | .rstContext ..
  | .rstEngine .. | .rstCabinet .. | .rstChip .. | .rstTray .. | .rstDump .. | .rstUnretire ..
  | .contextResetLimitMiss .. | .cabinetResetDirectLimit .. | .cabinetResetLimitMiss .. | .qsAck .. | .ouStopNop ..
  | .ouStopSchedule .. | .ouStopCancel .. | .ouStopResume .. | .stopCaptureComplete .. | .stopAutoResume .. =>
    [.out, .free, .regs, .dev, .hostMem, .lost, .cabs, .drw, .lat, .tu, .ts, .mix, .hg, .rcv, .ou, .ft, .me, .dce,
     .fr, .sb, .pln, .sg, .urg]
  | .activateComplete .. =>
    [.regs, .dev, .lost, .cabs, .mix, .urg]
  | .applyComplete .. | .walkComplete .. | .faultRetry .. | .atsCompletion .. | .shadowStallResume ..
  | .landingCommit .. =>
    [.out, .free, .regs, .dev, .hostMem, .lost, .cabs, .drw, .lat, .tu, .ts, .mix, .rcv, .ou, .dce, .fr, .sg]
  | .cabinetTeardownComplete .. =>
    [.out, .regs, .dev, .lost, .cabs, .lat, .tu, .ts, .mix, .ft, .fr, .sb]
  | .reportWindowClose .. =>
    [.regs, .cabs, .drw, .ts]
  | .floorIntervalEnd .. =>
    [.regs, .cabs, .fr, .sg, .urg]
  | .ctxNop .. | .ctxAlloc .. | .mobjNop .. | .mobjCreate .. | .mobjAlias .. | .mobjRelease .. | .drwNop ..
  | .drwCreate .. | .drwStart .. | .qryContext .. | .qryCabinet .. | .doorbellWrite .. | .latNop .. | .latDisarm ..
  | .sgNcfloorWrite .. | .frNcfloorWrite .. | .mixRiNop .. | .mixReinit .. | .fabricEnable .. | .fltEnable ..
  | .blkLockSet .. | .ouSmpEnable .. | .ouTrcEnable .. | .ouCselWrite .. | .ouTrcMarkWrite .. =>
    [.out, .regs, .dev, .hostMem, .lost, .cabs, .drw, .lat, .mix, .hg, .rcv, .ou, .me, .pln, .sg]
  | .ctxFree .. | .flr .. =>
    [.out, .free, .regs, .dev, .hostMem, .lost, .cabs, .drw, .lat, .tu, .ts, .mix, .hg, .rcv, .ou, .ft, .me, .dce,
     .fr, .sb, .pln, .sg]
  | .contextTeardownComplete .. =>
    [.out, .free, .regs, .dev, .hostMem, .lost, .cabs, .drw, .lat, .tu, .ts, .mix, .hg, .rcv, .ou, .me, .dce, .fr,
     .sg]
  | .drwStop .. | .chPause .. | .chUnpause .. | .chStart .. =>
    [.out, .regs, .dev, .hostMem, .lost, .cabs, .drw, .lat, .tu, .mix, .hg, .rcv, .ou, .me, .pln, .sg]
  | .drwDestroy .. =>
    [.out, .regs, .dev, .hostMem, .lost, .cabs, .drw, .lat, .tu, .ts, .mix, .hg, .rcv, .ou, .ft, .me, .dce, .fr, .sb,
     .pln, .sg]
  | .descriptorFetch .. | .channelCreate .. | .segmentRead .. | .segmentWrite .. =>
    [.out, .free, .regs, .dev, .hostMem, .lost, .cabs, .drw, .lat, .tu, .mix, .rcv, .ou, .me, .sg]
  | .descriptorIssue .. =>
    [.drw]
  | .descriptorComplete .. | .signalLocal .. | .queryContext .. | .queryCabinet .. | .gateGrant .. =>
    [.out, .free, .regs, .dev, .hostMem, .lost, .cabs, .drw, .lat, .tu, .mix, .rcv, .ou, .sg]
  | .kernelDesc .. | .layerStep .. | .swapOut .. | .stallEviction .. =>
    [.regs, .drw, .ts]
  | .requestDesc .. | .admissionPass .. =>
    [.out, .free, .regs, .dev, .hostMem, .lost, .cabs, .drw, .lat, .tu, .mix, .rcv, .ou, .me, .sb, .pln, .sg]
  | .moveDesc .. | .prefetchDesc .. | .moveStart .. =>
    [.regs, .drw, .me]
  | .adviseWillneed .. | .withdrawalComplete .. =>
    [.out, .regs, .drw, .tu]
  | .adviseDontneed .. =>
    [.regs, .drw, .tu]
  | .adviseSettle .. | .faultRecordWrite .. =>
    [.free, .regs, .dev, .hostMem, .lost, .cabs, .drw, .lat, .tu, .mix, .rcv, .ou, .sg]
  | .adviseInvalidate .. | .swapIn .. | .atsInvalidate .. | .shadowWaitExpiry .. | .placement .. | .autoSwapIn .. =>
    [.out, .regs, .dev, .hostMem, .lost, .cabs, .drw, .lat, .tu, .ts, .mix, .rcv, .ou, .dce, .fr, .sg]
  | .dispatchRoute .. | .dispatchReturn .. | .combineCompute .. | .abortPacket .. =>
    [.out, .free, .regs, .dev, .hostMem, .lost, .cabs, .drw, .lat, .tu, .ts, .mix, .rcv, .ou, .ft, .dce, .fr, .sg]
  | .dispatchLand .. | .combineDesc .. =>
    [.regs, .drw, .tu, .dce]
  | .dispatchUnland .. =>
    [.out, .regs, .cabs, .drw, .tu, .ts, .dce, .fr]
  | .tableLoadLoad .. | .tableLoadReplace .. =>
    [.out, .free, .regs, .dev, .hostMem, .lost, .cabs, .drw, .lat, .tu, .mix, .rcv, .ou, .ft, .sg]
  | .tableLoadFree .. =>
    [.regs, .drw, .ft]
  | .signalRemote .. =>
    [.out, .regs, .cabs, .drw, .fr]
  | .waitDesc .. | .latchEvaluate .. | .hostFencePoll .. | .starvedWaitPoll .. | .tapDbgMem .. =>
    [.out, .free, .regs, .dev, .hostMem, .lost, .cabs, .drw, .lat, .tu, .mix, .rcv, .ou, .me, .pln, .sg]
  | .channelDestroy .. | .moveComplete .. | .prefetchComplete .. | .directTransferEnd .. | .channelFree .. =>
    [.regs, .drw, .tu, .me]
  | .latArm .. | .latRearm .. | .latEval .. | .hostMemoryAccess .. =>
    [.out, .free, .regs, .dev, .hostMem, .lost, .cabs, .drw, .lat, .tu, .mix, .hg, .rcv, .ou, .me, .pln, .sg]
  | .waitTimeout .. | .hgWake .. | .pwrWakeAtExpiry .. | .badRegisterAccess .. =>
    [.out, .regs, .dev, .hostMem, .lost, .cabs, .drw, .lat, .mix, .rcv, .ou, .me, .pln, .sg]
  | .remoteSignalTimeout .. =>
    [.out, .regs, .drw, .ts, .fr]
  | .walkStart .. =>
    [.regs, .tu]
  | .faultFail .. =>
    [.out, .tu, .ts]
  | .faultTimeout .. | .prgResponse .. =>
    [.out, .regs, .tu, .ts]
  | .tuFqEnable .. | .tuFqDisable .. =>
    [.out, .regs, .dev, .hostMem, .lost, .cabs, .drw, .lat, .tu, .ts, .mix, .hg, .rcv, .ou, .me, .pln, .sg]
  | .commitByRemap .. =>
    [.free, .regs, .dev, .hostMem, .lost, .cabs, .drw, .lat, .tu, .ts, .mix, .rcv, .ou, .dce, .fr, .sg]
  | .settleGranule .. =>
    [.free, .regs, .dev, .hostMem, .lost, .cabs, .drw, .lat, .tu, .ts, .mix, .rcv, .ou, .sg]
  | .sbEnable .. | .sbDisable .. =>
    [.out, .regs, .dev, .hostMem, .lost, .cabs, .drw, .lat, .mix, .hg, .rcv, .ou, .me, .sb, .pln, .sg]
  | .stepBoundary .. =>
    [.out, .free, .regs, .dev, .hostMem, .lost, .cabs, .drw, .lat, .tu, .mix, .rcv, .ou, .sb, .sg]
  | .batchTablesWritten .. =>
    [.out, .free, .regs, .dev, .hostMem, .lost, .cabs, .drw, .lat, .tu, .ts, .mix, .rcv, .ou, .sb, .sg]
  | .layerCommit .. =>
    [.drw, .ts, .sb]
  | .bypassLimitExpiry .. =>
    [.drw, .ts]
  | .swapLoadComplete .. | .swapSaveComplete .. =>
    [.out, .free, .regs, .dev, .hostMem, .lost, .cabs, .drw, .lat, .tu, .ts, .mix, .rcv, .ou, .fr, .sg]
  | .tileProgress .. =>
    [.ts]
  | .channelDrained .. =>
    [.regs, .me]
  | .setPacket .. | .sealPacket .. | .engineResetLogicDone .. =>
    [.out, .free, .regs, .dev, .hostMem, .lost, .cabs, .drw, .lat, .tu, .ts, .mix, .rcv, .ou, .me, .dce, .fr, .pln,
     .sg]
  | .commitPacket .. =>
    [.out, .regs, .dev, .hostMem, .lost, .cabs, .drw, .lat, .mix, .rcv, .ou, .me, .dce, .fr, .pln, .sg]
  | .discardPacket .. =>
    [.out, .regs, .dev, .hostMem, .lost, .cabs, .drw, .lat, .tu, .ts, .mix, .rcv, .ou, .me, .dce, .fr, .pln, .sg]
  | .setrspStaged .. | .setrspCommitted .. | .setrspRefused .. | .setrspDiscarded .. =>
    [.out, .free, .regs, .dev, .hostMem, .lost, .cabs, .drw, .lat, .tu, .ts, .mix, .rcv, .ou, .ft, .me, .dce, .fr,
     .pln, .sg]
  | .dcePeerTimeout .. =>
    [.out, .regs, .cabs, .drw, .tu, .ts, .ft, .dce, .fr]
  | .tableLoaderCheck .. =>
    [.out, .free, .regs, .dev, .hostMem, .lost, .cabs, .drw, .lat, .tu, .ts, .mix, .rcv, .ou, .ft, .sg]
  | .tableReplaceComplete .. | .tableFreeComplete .. =>
    [.out, .regs, .drw, .ts, .ft]
  | .stackGateRequest .. =>
    [.out, .regs, .dev, .hostMem, .lost, .cabs, .drw, .lat, .mix, .rcv, .ou, .sg]
  | .groupRemixComplete .. | .rekeyChunkConverted .. =>
    [.free, .regs, .cabs, .drw, .mix, .sg]
  | .keyDraw .. =>
    [.out, .free, .regs, .cabs, .mix, .pln, .lc]
  | .urgencyWireChange .. | .urgencyStuck .. =>
    [.regs, .urg]
  | .mixReinitComplete .. =>
    [.free, .regs, .dev, .lost, .cabs, .drw, .lat, .tu, .mix, .sg]
  | .portEnable .. | .portDisable .. =>
    [.out, .regs, .dev, .hostMem, .lost, .cabs, .drw, .lat, .tu, .ts, .mix, .hg, .rcv, .ou, .ft, .me, .dce, .fr,
     .pln, .sg]
  | .linkUp .. | .abortCacheExpiry .. | .ledgerPacket .. =>
    [.fr]
  | .phyLossOfLink .. | .controlWordTimeout .. | .flitRetryLimit .. =>
    [.out, .regs, .dev, .hostMem, .lost, .cabs, .drw, .lat, .tu, .ts, .mix, .rcv, .ou, .ft, .dce, .fr, .sg]
  | .flitCrcError .. | .clockMeasure .. =>
    [.regs]
  | .discPacket .. | .discTimer .. | .fabricTransit .. =>
    [.out, .regs, .fr]
  | .unreachPacket .. =>
    [.out, .regs, .drw, .tu, .ts, .ft, .dce, .fr]
  | .writePacket .. | .readPacket .. | .signalPacket .. =>
    [.out, .free, .regs, .dev, .hostMem, .lost, .cabs, .drw, .lat, .tu, .mix, .rcv, .ou, .me, .fr, .pln, .sg]
  | .wackPacket .. | .rdataPacket .. =>
    [.out, .regs, .dev, .hostMem, .lost, .cabs, .drw, .lat, .ts, .mix, .rcv, .ou, .me, .fr, .pln, .sg]
  | .sackPacket .. =>
    [.out, .regs, .dev, .hostMem, .lost, .cabs, .drw, .lat, .mix, .rcv, .ou, .me, .fr, .pln, .sg]
  | .markerPacket .. | .stopTimeReached .. =>
    [.out, .regs, .dev, .hostMem, .lost, .cabs, .drw, .lat, .mix, .rcv, .ou, .fr, .sg]
  | .jobTagSet .. | .jobTagClear .. | .jobTxkeyFlip .. | .frAbortWrite .. | .pwrNop .. | .pwrEnter .. | .pwrExit ..
  | .cabinetIdleTimer .. | .cabinetSleepTimer .. | .blockAutoIdle .. | .blockAutoSleep .. | .qsDeny ..
  | .qsTimeout .. | .setPower .. =>
    [.out, .free, .regs, .dev, .hostMem, .lost, .cabs, .drw, .lat, .tu, .ts, .mix, .hg, .rcv, .ou, .ft, .me, .dce,
     .fr, .pln, .sg]
  | .frJobkeyWrite .. =>
    [.out, .regs, .dev, .hostMem, .lost, .cabs, .drw, .lat, .mix, .hg, .rcv, .ou, .me, .fr, .pln, .sg]
  | .engineResetHoldDone .. | .sampleInstant .. =>
    [.regs, .dev, .hostMem, .lost, .cabs, .drw, .lat, .mix, .rcv, .ou, .sg]
  | .engineResetResyncDone .. | .rungReady .. | .imageHeader .. | .imageRegRecord .. | .imageTableRecord ..
  | .imageCabinetRecord .. | .imageTrimRecord .. | .imageEndRecord .. | .imageFlashTimeout .. | .startPhaseTimeout ..
  | .memInitDone .. | .tapDbgReg .. | .registerWrite .. =>
    [.out, .now, .free, .regs, .dev, .hostMem, .lost, .cabs, .drw, .lat, .tu, .ts, .mix, .hg, .rcv, .ou, .mono, .ft,
     .me, .dce, .fr, .sb, .pln, .lc, .sg, .urg]
  | .searchReplayComplete .. | .searchClearTimer .. =>
    [.regs, .dev, .hostMem, .lost, .cabs, .drw, .lat, .ts, .mix, .rcv, .ou, .me, .dce, .sg]
  | .contextResetComplete .. =>
    [.regs, .drw, .rcv]
  | .cabinetResetComplete .. =>
    [.out, .free, .regs, .dev, .hostMem, .lost, .cabs, .drw, .lat, .tu, .ts, .mix, .rcv, .ou, .ft, .me, .dce, .fr,
     .sb, .pln, .sg]
  | .dumpReadTimeout .. =>
    [.rcv]
  | .dumpComplete .. | .dumpLimitExpiry .. | .lcNop .. | .lcChallenge .. | .lcSubmit .. | .lcTransition .. =>
    [.out, .free, .regs, .dev, .hostMem, .lost, .cabs, .drw, .lat, .tu, .ts, .mix, .hg, .rcv, .ou, .ft, .me, .dce,
     .fr, .sb, .pln, .lc, .sg, .urg]
  | .plinthWatchdogExpiry .. | .rungReadyLost .. | .mctpRepeatTimer .. =>
    [.out, .pln]
  | .porRise .. =>
    [.now, .pln]
  | .wakeN .. =>
    [.out, .now, .regs, .dev, .hostMem, .lost, .cabs, .drw, .lat, .tu, .ts, .mix, .hg, .rcv, .ou, .mono, .ft, .me,
     .dce, .fr, .sb, .pln, .lc, .sg, .urg]
  | .fuseLoadComplete .. | .fuseBurnAck .. =>
    [.out, .regs, .dev, .hostMem, .lost, .cabs, .drw, .lat, .mix, .rcv, .ou, .fr, .pln, .lc, .fuse, .sg]
  | .lifecyclePhaseComplete .. | .lifecycleLimitMiss .. =>
    [.out, .regs, .dev, .hostMem, .lost, .cabs, .drw, .lat, .mix, .rcv, .ou, .pln, .lc, .sg]
  | .rungTimeout .. | .memInitFail .. =>
    [.out, .regs, .dev, .hostMem, .lost, .cabs, .drw, .lat, .mix, .rcv, .ou, .pln, .sg]
  | .plnTsLoadWrite .. =>
    [.out, .now, .regs, .dev, .hostMem, .lost, .cabs, .drw, .lat, .ts, .mix, .hg, .rcv, .ou, .mono, .me, .pln, .sg]
  | .i3cEntdaa .. | .tcAcknowledge .. =>
    [.pln]
  | .getInfo .. | .getTime .. | .getPower .. | .getSensors .. | .mctpUnsupportedCommand .. | .tapBypass ..
  | .tapIdcode .. | .tapLcStatus .. | .tapPrivate .. | .mctpLcGet .. =>
    [.out]
  | .flashSectorErased .. =>
    [.out, .regs, .dev, .hostMem, .lost, .cabs, .drw, .lat, .mix, .rcv, .ou, .fr, .pln, .lc, .sg]
  | .tapLcChallenge .. | .mctpLcChallenge .. =>
    [.out, .free, .regs, .pln, .lc]
  | .tapLcToken .. | .tapLcTransition .. | .mctpLcToken .. | .mctpLcTransition .. =>
    [.out, .regs, .dev, .lost, .cabs, .drw, .lat, .tu, .ts, .mix, .hg, .rcv, .ou, .ft, .me, .dce, .fr, .sb, .pln,
     .lc, .sg, .urg]
  | .sensorReading .. | .unitsStop .. | .stopPortRecordTimer .. =>
    [.ou]
  | .hostReadCompletion .. =>
    [.hostMem, .tu]
  | .functionConfig .. =>
    [.out, .tu, .hg]
  | .dbDropsRead .. | .dbGdropsRead .. | .latStatRead .. | .latGstatRead .. | .tuGstatRead .. | .tuCstatRead ..
  | .sbGstatRead .. | .sbCntRead .. | .tsGstatRead .. | .tsCntRead .. | .tsCnt2Read .. | .meGstatRead ..
  | .meCstatRead .. | .dceGstatRead .. | .dceCstatRead .. | .ftCstatRead .. | .sgStatRead .. | .sgLatRead ..
  | .sgMixstatRead .. | .sgMdcRead .. | .sgRemixRead .. | .mixGstatRead .. | .frCntRead .. | .frCnt2Read ..
  | .pgCntRead .. | .rcvStatRead .. | .chestStatRead .. | .pwrRefuseCountRead .. | .plnTsStatRead ..
  | .ouGstatRead .. =>
    [.out, .free, .regs, .dev, .hostMem, .lost, .cabs, .drw, .lat, .tu, .mix, .hg, .rcv, .ou, .me, .dce, .pln, .sg]
  | .porAssert .. =>
    [.now, .regs, .dev, .lost, .cabs, .drw, .lat, .tu, .ts, .mix, .hg, .rcv, .ou, .mono, .ft, .me, .dce, .fr, .sb,
     .pln, .lc, .sg, .urg]

end Sys2Proof.Machine
end

