-- ==== Sys2Proof/Certificates/Slice0/Obligations.lean ====
section
/-! DEFINITION. The statements for the provers. A statement that rests on a choice of the model names its log entry. -/
open Sys2Proof Sys2Proof.Machine

/-- One step is the command at the front of the queue, run with the queue's rest; with none waiting, one period of `clk_ao`
passes: the timestamp counts 40 ns in every power state but OFF (R423), and nothing else changes (log 2). The queue, the idle
step and the second clock are the model's (log 1, 2, 16). -/
def Obligations.StepRunsTheFrontCommand : Prop :=
  (∀ (c : Instr) (r : List Instr) (s : State), s.pending = c :: r → step s = exec c { s with pending := r }) ∧
  (∀ s : State, s.pending = [] → step s = .next (
    if s.pln.power = 4 then s
    else { s with now := (s.now + 40) % 2 ^ 64, mono := if s.ou.unitsStopped = true then s.mono else s.mono + 40 }))

/-- Device and host memory stay lists of rising addresses without a default byte, whatever command runs. -/
def Obligations.MemoryStaysCanonical : Prop :=
  ∀ s t : State, Memory.wf s.dev = true → Memory.wf s.hostMem = true → step s = .next t →
    Memory.wf t.dev = true ∧ Memory.wf t.hostMem = true

/-- A burned life-cycle fuse bit never returns to 0, whatever command runs and whatever is reset. (After R431.) -/
def Obligations.BurnedLifeCycleBitsStayBurned : Prop :=
  ∀ (s t : State) (b : Nat), b < 1024 → s.fuse.lc &&& b = b → step s = .next t → t.fuse.lc &&& b = b

/-- The frame of every command: what it leaves as it was whenever it answers a next state. `mayChange` lists the rest. A command
that may not change device memory or host memory leaves every byte of it reading as before. A command has its effect on
everything but the queue, and no command moves a tie-off pin (R483). -/
def Obligations.CommandsChangeOnlyTheirPieces : Prop :=
  (∀ (c : Instr) (s t : State), exec c s = .next t → ∀ p : Piece, p ∉ mayChange c → p.same s t) ∧
  (∀ (c : Instr) (s t : State), exec c s = .next t →
     (Piece.dev ∉ mayChange c → ∀ a, memByte t.dev a = memByte s.dev a) ∧
     (Piece.hostMem ∉ mayChange c → ∀ a, memByte t.hostMem a = memByte s.hostMem a)) ∧
  (∀ (c : Instr) (s t : State), exec c s = .next t → t.pending = s.pending ∧ t.tie = s.tie)

/-- Power-on reset. Nothing waits, no cabinet is built, no memory is listed, the block stands before its FUSE phase; every
register reads its reset value, and every result register is READY. (After R16, R29, R52, R402, R497.) What memory, the
tie-offs and the fuses hold at reset is the model's choice (log 3, 6, 72). -/
def Obligations.ResetLeavesTheBlockEmpty : Prop :=
  State.reset.memWf = true ∧ State.reset.pending = [] ∧ State.reset.out = [] ∧ State.reset.pln.phase = .por ∧ State.reset.now = 0 ∧
  State.reset.dev = [] ∧ State.reset.hostMem = [] ∧ (∀ n, (State.reset.cab n).st = .free ∧ (State.reset.cab n).work = .none) ∧
  (∀ off, State.reset.reg off = regReset off) ∧ regReset 0x1018 = 0x033E80C806401432 ∧ State.reset.hostUp = false ∧
  (∀ r ∈ [rRstResult, rLcResult, rStopResult, rPwrResult, rRiResult], State.reset.rfld r 63 63 = 1)

/-- Every command that a port of the block can carry answers a next state, in every state; only a private TAP code at debug level
OPEN_ALL is refused (R445), and only the operand lists of R296 and R478 decide what a port can carry. The stops of the model:
an operand list that no port carries faults by name (R296, R478), and the scan chains behind a private TAP code at OPEN_ALL
are refused by name (R445); nothing else stops. That an event whose condition does not hold changes nothing is the model's
choice (log 10), and what no port carries is read in log 96. -/
def Obligations.EveryWellFormedCommandCompletes : Prop :=
  (∀ (c : Instr) (s : State), c.wf = true → (∀ k, c = .tapPrivate k → (s.tapUp && s.dbgLevel == some 3) = false) →
     ∃ t, exec c s = .next t) ∧
  ((∀ (t : TileId) (va len : Nat) (g : Fin 1024) (r : Option (Fin 65536)) (s : State), tileReadWf va len = false →
     exec (.tileReadRequest t va len g r) s = .fault (.illFormed "TILE_READ_REQUEST")) ∧
   (∀ (t : TileId) (va : Nat) (m : List Bool) (d : List Byte) (g : Fin 1024) (r : Option (Fin 65536)) (s : State),
     tileWriteWf va m d = false → exec (.tileWriteRequest t va m d g r) s = .fault (.illFormed "TILE_WRITE_REQUEST")) ∧
   (∀ (g : GateId) (m : Master) (u : UnitId) (x : Option CtxId) (a len : Nat) (d : Option (List Byte)) (s : State),
     gateReqWf m a len d = false → exec (.stackGateRequest g m u x a len d) s = .fault (.illFormed "STACK_GATE_REQUEST")) ∧
   (∀ (k : Fin 16) (s : State), s.tapUp = true → s.dbgLevel = some 3 → exec (.tapPrivate k) s = .refused .scanChain) ∧
   (∀ (c : Instr) (s : State) (f : Fault), exec c s = .fault f → c.wf = false))

/-- A chip-wide command of another function than the platform's, or before release, has no effect at all. A command of a cabinet's
window has none from a function that does not reach the LIVE cabinet; from the platform function it then only wakes the block
(R421). (After R12, R20, R496.) That such an access acts, or wakes, at once is the model's choice (log 71); what a function
does not reach is read in log 128. -/
def Obligations.OnlyTheReachingFunctionCommands : Prop :=
  (∀ (f : Func) (s : State) (n : CabId) (v : Word) (i : ChanId) (g : GateId) (p : PortId) (k : Fin 4) (j : Fin 64),
    f ≠ 0 ∨ s.hostUp = false → ∀ c ∈ ([.cabNop f n, .cabBuild f n, .cabActivate f n, .cabApply f n, .cabDestroy f n,
      .tuFqEnable f n v, .tuFqDisable f n v, .sbEnable f n v, .sbDisable f n v, .chPause f i v, .chUnpause f i v, .chStart f i v,
      .sgNcfloorWrite f g v, .frNcfloorWrite f v, .mixRiNop f, .mixReinit f, .fabricEnable f v, .portEnable f p v,
      .portDisable f p v, .jobTagSet f n v, .jobTagClear f n v, .jobTxkeyFlip f n v, .frJobkeyWrite f n k v, .frAbortWrite f v,
      .rstNop f, .rstContext f, .rstEngine f, .rstCabinet f, .rstChip f, .rstTray f, .rstDump f, .rstUnretire f, .fltEnable f v,
      .blkLockSet f v, .plnTsLoadWrite f v, .pwrNop f v, .pwrEnter f v, .pwrExit f v, .lcNop f v, .lcChallenge f v, .lcSubmit f v,
      .lcTransition f v, .ouSmpEnable f v, .ouTrcEnable f v, .ouCselWrite f j v, .ouTrcMarkWrite f v, .ouStopNop f v,
      .ouStopSchedule f v, .ouStopCancel f v, .ouStopResume f v] : List Instr), Idles c s) ∧
  (∀ (f : Func) (s : State) (n : CabId) (x : CtxId) (i : DrawerId) (l : LatchId), s.mayOperate f.val n.val = false →
    ∀ c ∈ ([.ctxNop f n, .ctxAlloc f n, .ctxFree f n x, .mobjNop f n, .mobjCreate f n, .mobjAlias f n, .mobjRelease f n,
      .drwNop f n, .drwCreate f n, .drwStop f n i, .drwStart f n i, .drwDestroy f n i, .qryContext f n x, .qryCabinet f n,
      .latNop f n, .latArm f n, .latRearm f n l, .latDisarm f n l, .latEval f n l] : List Instr),
    exec c s = .next (if s.hostUp = true ∧ f = 0 then s.wakeBlock 1 else s))

/-- A read of an RC register by the platform function puts its data out and clears its RC bits, and changes nothing else but what
waking the block changes; the registers and their RC bits are those of chapters 02 to 16. A read that a reset of the
register's unit holds waits. (After R13, R493, R495.) Reads of registers a function does not reach follow log 128, held
accesses log 150. -/
def Obligations.CounterReadsReturnAndClear : Prop :=
  TakesCounter .dbGdropsRead 0x200100 all64 ∧ TakesCounter .latGstatRead 0x300100 all64 ∧
  TakesCounter .tuGstatRead 0x400008 all64 ∧
  (∀ n, TakesCounter (.tuCstatRead · n) (0x420000 + 8 * n.val) all64) ∧
  TakesCounter .sbGstatRead 0x500000 (mk 63 16) ∧
  (∀ n, TakesCounter (.sbCntRead · n) (0x510028 + 0x40 * n.val) all64) ∧
  TakesCounter .tsGstatRead 0x520008 (mk 63 32) ∧
  (∀ n, TakesCounter (.tsCntRead · n) (0x530010 + 0x20 * n.val) all64) ∧
  (∀ n, TakesCounter (.tsCnt2Read · n) (0x530018 + 0x20 * n.val) all64) ∧
  TakesCounter .meGstatRead 0x640000 all64 ∧
  (∀ n, TakesCounter (.meCstatRead · n) (0x660000 + 8 * n.val) all64) ∧
  TakesCounter .dceGstatRead 0x700008 (mk 63 16) ∧
  (∀ n, TakesCounter (.dceCstatRead · n) (0x710008 + 0x10 * n.val) all64) ∧
  (∀ n, TakesCounter (.ftCstatRead · n) (0x721000 + 8 * n.val) (mk 63 32)) ∧
  (∀ g, TakesCounter (.sgStatRead · g) (0x800018 + 0x10000 * g.val) (mk 63 16)) ∧
  (∀ g m, TakesCounter (.sgLatRead · g m) (0x802000 + 0x10000 * g.val + 8 * m.val) (mk 63 48 + mk 31 0)) ∧
  (∀ g, TakesCounter (.sgMixstatRead · g) (0x803008 + 0x10000 * g.val) all64) ∧
  (∀ g, TakesCounter (.sgMdcRead · g) (0x803018 + 0x10000 * g.val) all64) ∧
  (∀ g, TakesCounter (.sgRemixRead · g) (0x803020 + 0x10000 * g.val) all64) ∧
  TakesCounter .mixGstatRead 0x8D0010 all64 ∧
  TakesCounter .frCntRead 0x900018 all64 ∧ TakesCounter .frCnt2Read 0x900020 (mk 63 16) ∧
  (∀ p, TakesCounter (.pgCntRead · p) (0x901010 + 0x1000 * p.val) all64) ∧
  TakesCounter .rcvStatRead 0x1020 all64 ∧ TakesCounter .chestStatRead 0xA08018 (mk 15 8) ∧
  TakesCounter .pwrRefuseCountRead 0x10060 (mk 31 0) ∧ TakesCounter .plnTsStatRead 0x10020 (mk 15 0) ∧
  TakesCounter .ouGstatRead 0xA00010 (mk 47 0) ∧
  (∀ n : CabId, TakesOperating (.dbDropsRead · n) n.val 0x580 all64 0) ∧
  (∀ n : CabId, TakesOperating (.latStatRead · n) n.val 0x880 all64 0)

/-- NOP of a command register is a command like another: accepted while READY is 1, it ends at once with ERR 0 and VALUE 0 and
READY 1, and OVERRUN cleared; while READY is 0 it only sets OVERRUN (log 13). CAB_CMD NOP only sets DROPPED while BUSY is 1
(R24, R29), and a PWR_CMD that meets an entry in progress only sets OVERRUN (R419). (After R53, R109, R397, R419, R447 and
their like.) A command of a window's command register written while READY is 0 is ignored and sets OVERRUN; nothing else
changes but what waking the cabinet changes (R421). (After R53.) -/
def Obligations.NopsAndCommandsWhileBusy : Prop :=
  (let nop (u : State) (res : Nat) : State := match u.accept res with
     | some v => v.result res errNone 0
     | none => u.setRfld res 62 62 1
   (∀ (f : Func) (n : CabId) (s : State),
     (s.mayCommand f.val n.val 0x400 → exec (.ctxNop f n) s = .next (nop (s.wakeCab n.val 1) (rCtxResult n.val))) ∧
     (s.mayCommand f.val n.val 0x4C0 → exec (.mobjNop f n) s = .next (nop (s.wakeCab n.val 1) (rMobjResult n.val))) ∧
     (s.mayCommand f.val n.val 0x440 → exec (.drwNop f n) s = .next (nop (s.wakeCab n.val 1) (rDrwResult n.val))) ∧
     (s.mayCommand f.val n.val 0x800 → exec (.latNop f n) s = .next (nop (s.wakeCab n.val 1) (rLatResult n.val)))) ∧
   (∀ (v : Word) (s : State),
     (s.hostUp = true → exec (.rstNop 0) s = .next (nop (s.wakeBlock 1) rRstResult)) ∧
     (s.mayReach 0x8D0020 → exec (.mixRiNop 0) s = .next (nop (s.wakeBlock 1) rRiResult)) ∧
     (s.hostUp = true → exec (.lcNop 0 v) s = .next (nop (s.wakeBlock 1) rLcResult)) ∧
     (s.mayReach 0xA00300 → exec (.ouStopNop 0 v) s = .next (nop (s.wakeBlock 1) rStopResult)) ∧
     (s.hostUp = true → exec (.pwrNop 0 v) s = .next (if (s.wakeBlock 1).pln.entries = [] then nop (s.wakeBlock 1) rPwrResult
       else (s.wakeBlock 1).setRfld rPwrResult 62 62 1))) ∧
   (∀ (n : CabId) (s : State), s.mayReach (rWin n.val) →
     exec (.cabNop 0 n) s = .next (if ((s.wakeBlock 1).cab n.val).work = .none then s.wakeBlock 1
       else (s.wakeBlock 1).setCab n.val { (s.wakeBlock 1).cab n.val with dropped := true }))) ∧
  (∀ (f : Func) (n : CabId) (x : CtxId) (i : DrawerId) (l : LatchId) (s : State),
     let w := s.wakeCab n.val 1
     (s.mayCommand f.val n.val 0x400 → w.rfld (rCtxResult n.val) 63 63 = 0 → ∀ c ∈ ([.ctxNop f n, .ctxAlloc f n, .ctxFree f n x] : List Instr),
       exec c s = .next (w.setRfld (rCtxResult n.val) 62 62 1)) ∧
     (s.mayCommand f.val n.val 0x4C0 → w.rfld (rMobjResult n.val) 63 63 = 0 →
       ∀ c ∈ ([.mobjNop f n, .mobjCreate f n, .mobjAlias f n, .mobjRelease f n] : List Instr),
       exec c s = .next (w.setRfld (rMobjResult n.val) 62 62 1)) ∧
     (s.mayCommand f.val n.val 0x440 → w.rfld (rDrwResult n.val) 63 63 = 0 →
       ∀ c ∈ ([.drwNop f n, .drwCreate f n, .drwStop f n i, .drwStart f n i, .drwDestroy f n i] : List Instr),
       exec c s = .next (w.setRfld (rDrwResult n.val) 62 62 1)) ∧
     (s.mayCommand f.val n.val 0x800 → w.rfld (rLatResult n.val) 63 63 = 0 →
       ∀ c ∈ ([.latNop f n, .latArm f n, .latRearm f n l, .latDisarm f n l, .latEval f n l] : List Instr),
       exec c s = .next (w.setRfld (rLatResult n.val) 62 62 1)) ∧
     (s.mayCommand f.val n.val 0x500 → w.rfld (rQry n.val 0) 63 63 = 0 → ∀ c ∈ ([.qryContext f n x, .qryCabinet f n] : List Instr),
       exec c s = .next (w.setRfld (rQry n.val 0) 62 62 1)))

/-- The cabinet commands by the state table. While BUSY is 1 every command is dropped and only DROPPED is set; a command the
state does not list ends with ERR STATE and changes nothing else; BUILD and DESTROY act as the table says. (After R29.) An
ACTIVATE or APPLY whose checks fail sets ERR to the first failing check's code and changes nothing in force. An ACTIVATE that
passes holds its reservation and its tiles and sets BUSY; an APPLY that removes no tile and leaves the shadow reserve where it
is has its configuration in force at once and BUSY set. (After R29, R30, R31, R298.) The order of checks that overlap and an
APPLY that removes a quarantined range are read in log 85 and 146. -/
def Obligations.CabinetCommandsAndTheirChecks : Prop :=
  (∀ (n : CabId) (s : State), s.mayReach (rWin n.val) →
     let u := s.wakeBlock 1
     let c := u.cab n.val
     (c.work ≠ .none → ∀ i ∈ ([.cabNop 0 n, .cabBuild 0 n, .cabActivate 0 n, .cabApply 0 n, .cabDestroy 0 n] : List Instr),
       exec i s = .next (u.setCab n.val { c with dropped := true })) ∧
     (c.work = .none →
       exec (.cabBuild 0 n) s = .next (u.setCab n.val (if c.st = .free then { c with st := .build, err := 0 } else { c with err := 1 })) ∧
       (c.st ≠ .build → exec (.cabActivate 0 n) s = .next (u.setCab n.val { c with err := 1 })) ∧
       (c.st ≠ .live ∨ (u.request n.val).fn ≠ c.conf.fn ∨ (u.request n.val).integ ≠ c.conf.integ →
         exec (.cabApply 0 n) s = .next (u.setCab n.val { c with err := 1 })) ∧
       (c.st = .free ∨ c.st = .clear → exec (.cabDestroy 0 n) s = .next (u.setCab n.val { c with err := 1 })) ∧
       (c.st = .build → exec (.cabDestroy 0 n) s = .next ((u.setCab n.val { gen := c.gen }).resetPartition n.val)))) ∧
  (∀ (n : CabId) (s : State), s.mayReach (rWin n.val) →
     let u := s.wakeBlock 1
     let c := u.cab n.val
     let q := u.request n.val
     let r := u.cabChecks n.val q
     c.work = .none →
     (c.st = .build → r.1 ≠ .none → exec (.cabActivate 0 n) s = .next (r.2.setCab n.val { r.2.cab n.val with err := r.1.code })) ∧
     (c.st = .build → r.1 = .none → Answers (.cabActivate 0 n) s fun t =>
       (t.cab n.val).work = .activating ∧ (t.cab n.val).err = 0 ∧ (t.cab n.val).conf = q ∧
       (t.cab n.val).st = (r.2.cab n.val).st ∧ (t.cab n.val).gen = (r.2.cab n.val).gen ∧
       (t.cab n.val).floorsAt = (s.now / 1000 + 1) * 1000 ∧ ∀ k ∈ q.tileList, (t.tile k).cab = some n.val) ∧
     (c.st = .live → q.fn = c.conf.fn → q.integ = c.conf.integ → r.1 ≠ .none →
       exec (.cabApply 0 n) s = .next (r.2.setCab n.val { r.2.cab n.val with err := r.1.code })) ∧
     (c.st = .live → q.fn = c.conf.fn → q.integ = c.conf.integ → r.1 = .none → (∀ k ∈ c.conf.tileList, k ∈ q.tileList) →
       q.reservePieces = ({ q with shelf := c.conf.shelf, cfg := c.conf.cfg } : CabConf).reservePieces →
       mapGet none n.val r.2.mix.rekey = none → r.2.mix.reinit = none →
       Answers (.cabApply 0 n) s fun t => (t.cab n.val).work = .applying ∧ (t.cab n.val).err = 0 ∧ (t.cab n.val).conf = q ∧
         (t.cab n.val).next = none ∧ (t.cab n.val).removing = []))

/-- The ends of the cabinet commands. An ACTIVATE whose key is drawn and whose interval has begun makes the cabinet LIVE under its
next generation with its floors in force; an APPLY with nothing left to change ends; a DESTROY whose contexts, tiles and
re-initialisation are gone leaves the cabinet FREE. At a window's end every LIVE or CLEAR cabinet's window is reported and
starts again. (After R31, R34, R41, R44, R45.) What an APPLY waits for, what FREE clears and when a page is written are read
in log 28, 83 and 84. -/
def Obligations.CabinetCommandsEndAndWindowsClose : Prop :=
  (∀ (n : CabId) (s : State), s.serves uPlinth →
    let c := s.cab n.val
    (c.work = .activating → c.keyWait = false → c.floorsAt ≤ s.now → Answers (.activateComplete n) s fun t =>
      (t.cab n.val).st = .live ∧ (t.cab n.val).work = .none ∧ (t.cab n.val).gen = (c.gen + 1) % 65536 ∧ (t.cab n.val).conf = c.conf ∧
      (t.cab n.val).power = 0 ∧ (t.cab n.val).memFloor = c.conf.memFloor ∧ (t.cab n.val).fabFloor = c.conf.fabFloor) ∧
    (c.work ≠ .activating ∨ c.keyWait = true ∨ s.now < c.floorsAt → Idles (.activateComplete n) s) ∧
    (c.work ≠ .applying → Idles (.applyComplete n) s) ∧
    (c.work = .applying → c.next = none → c.oldReserve = [] → c.removing = [] → c.floorsAt ≤ s.now →
      exec (.applyComplete n) s = .next
        (((((s.setCab n.val { c with work := .none }).floorsInForce n.val).reportConf n.val).rekeyStart n.val).renewWaits n.val)) ∧
    (c.work = .destroying → c.removing = [] → s.useContexts n.val = 0 → s.mix.reinit = none →
      Answers (.cabinetTeardownComplete n) s fun t => t.cab n.val = { gen := c.gen } ∧ t.sbc n.val = {}) ∧
    (c.work ≠ .destroying → Idles (.cabinetTeardownComplete n) s)) ∧
  (∀ s : State, Answers .reportWindowClose s fun t => ∀ n < 256, ((s.cab n).st = .live ∨ (s.cab n).st = .clear) →
    (s.cab n).winAt < s.now / 1000000 * 1000000 → (t.cab n).winAt = s.now / 1000000 * 1000000 ∧ (t.cab n).win = {})

/-- CTX_CMD ALLOC ends with QUOTA at the quota, with ARG when PT_ROOT is not in the shelf outside the shadow reserve, and
otherwise makes the lowest free number LIVE with the root and the PASID of its arguments. (After R54, R55.) CTX_CMD FREE of a
free context ends with STALE and of a DYING one with STATE; of a LIVE one it begins the teardown, READY stays 0, and the
register takes its result when the teardown ends (R378 step 6). (After R55, R379.) Steps 3 to 6: CONTEXT_TEARDOWN_COMPLETE
ends the teardown of a DYING context that has left every unit: its slot is free, and a FREE that asked for it takes its
result; then tiles of a cabinet under DESTROY may be cleared and function-level resets be answered (R41, R477). Otherwise the
context stays. (After R378.) The order of error conditions and VALUE where none is named are read in log 34 and 147. -/
def Obligations.ContextsAreAllocatedAndTornDown : Prop :=
  (∀ (f : Func) (n : CabId) (s u : State), s.takes f.val n.val 0x400 (rCtxResult n.val) u →
     let root := u.rfld (rCtxArg0 n.val) 43 12 * 4096
     (quotaContexts (u.cab n.val).conf ≤ u.useContexts n.val →
       exec (.ctxAlloc f n) s = .next (u.result (rCtxResult n.val) errQuota 0)) ∧
     (u.useContexts n.val < quotaContexts (u.cab n.val).conf → u.inShelfFree n.val root 4096 = false →
       exec (.ctxAlloc f n) s = .next (u.result (rCtxResult n.val) errArg 0)) ∧
     (u.useContexts n.val < quotaContexts (u.cab n.val).conf → u.inShelfFree n.val root 4096 = true → u.useContexts n.val < 16384 →
       ∃ x, (u.ctx n.val x).st = .free ∧ (∀ y, y < x → (u.ctx n.val y).st ≠ .free) ∧
         exec (.ctxAlloc f n) s = .next ((({ u with drw := { u.drw with allocs := u.drw.allocs + 1 } }).setCtx n.val x
           { st := .live, alloc := u.drw.allocs, root := root, pasidEn := u.rfld (rCtxArg1 n.val) 20 20 == 1,
             pasid := u.rfld (rCtxArg1 n.val) 19 0 }).result (rCtxResult n.val) errNone x))) ∧
  (∀ (f : Func) (n : CabId) (x : CtxId) (s u : State), s.takes f.val n.val 0x400 (rCtxResult n.val) u →
     ((u.ctx n.val x.val).st = .free → exec (.ctxFree f n x) s = .next (u.result (rCtxResult n.val) errStale 0)) ∧
     ((u.ctx n.val x.val).st = .dying → exec (.ctxFree f n x) s = .next (u.result (rCtxResult n.val) errState 0)) ∧
     ((u.ctx n.val x.val).st = .live → exec (.ctxFree f n x) s = .next
       (({ u with drw := { u.drw with ctxBusy := n.val :: u.drw.ctxBusy } }).beginTeardown n.val x.val true none))) ∧
  (∀ (n : CabId) (x : CtxId) (s : State), s.serves uDrawer →
     exec (.contextTeardownComplete n x) s = .next (((contextTeardown n.val x.val s).pushDestroy n.val).endFlrs) ∧
     ((s.ctx n.val x.val).st ≠ .dying ∨ s.contextGone n.val x.val = false → contextTeardown n.val x.val s = s) ∧
     (∀ v, (s.ctx n.val x.val).st = .dying → s.contextGone n.val x.val = true →
       attachAll n.val x.val (match (s.ctx n.val x.val).guilty with
         | some (u, q) => fenceWord stGuilty u q
         | none => fenceWord stAbandoned uDrawer (2 ^ 48 - 1)) (s.fencesOf n.val x.val) s = (true, v) →
       ((contextTeardown n.val x.val s).ctx n.val x.val = {} ∧
         ((s.ctx n.val x.val).byCmd = true → (contextTeardown n.val x.val s).reg (rCtxResult n.val) &&& 0x8F000000FFFFFFFF =
           pack [(63, 1), (0, x.val)]))))

/-- MOBJ_CMD CREATE, ALIAS and RELEASE end with the first failing check's code, or with a handle of the entry's generation and
index; CREATE's entry is its own original, an ALIAS names the original of its target, and RELEASE withdraws the handle and
frees what may be freed (R58). (After R56 to R58.) QRY_CMD stores words 0 to 7 of a query of a LIVE context, of one that is
not (NO_CTX and zero counters), or of the whole cabinet, in QRY_RESULT0-7 and answers at once. (After R84 to R86.) DRW_CMD
CREATE ends with the first failing check's code, or makes the lowest free local index LIVE with its rings, configuration and
context. (After R60, R61.) DRW_CMD STOP, START and DESTROY of an index not in use end with STALE, in a state that does not
take them with STATE. STOP takes a LIVE drawer to STOPPING, and at once to STOPPED with nothing in flight; START takes a
STOPPED or ERROR one to LIVE; DESTROY makes it DYING and cancels its descriptors, and ends when the drawer is empty. (After
R61, R63.) The handle index taken, the order of error conditions, a QRY_CMD of another KIND, where the reserve is kept out of
reach and VALUE where none is named are the model's readings (log 12, 34, 30, 141, 147). -/
def Obligations.ObjectsDrawersAndQueriesOverRegisters : Prop :=
  (∀ (f : Func) (n : CabId) (s u : State), s.takes f.val n.val 0x4C0 (rMobjResult n.val) u →
     let res := rMobjResult n.val
     let base := u.rfld (rMobjArg n.val 0) 56 0
     let len := u.rfld (rMobjArg n.val 1) 56 0
     let fence := u.rfld (rMobjArg n.val 2) 16 16 == 1
     let host := u.rfld (rMobjArg n.val 2) 17 17 == 1
     let ctx := u.rfld (rMobjArg n.val 2) 13 0
     let h := u.rfld (rMobjArg n.val 2) 63 32
     let bad := len = 0 ∨ 2 ^ 57 < base + len ∨ (fence = true ∧ (len < 16 ∨ base % 16 ≠ 0))
     let full := quotaObjs (u.cab n.val).conf ≤ u.useObjs n.val
     let take := u.objTake
     let orig := (u.obj (handleIdx h)).orig
     (bad → exec (.mobjCreate f n) s = .next (u.result res errArg 0)) ∧
     (¬ bad → (u.ctx n.val ctx).st ≠ .live → exec (.mobjCreate f n) s = .next (u.result res errNoCtx 0)) ∧
     (¬ bad → (u.ctx n.val ctx).st = .live → full → exec (.mobjCreate f n) s = .next (u.result res errQuota 0)) ∧
     (¬ bad → (u.ctx n.val ctx).st = .live → ¬ full → exec (.mobjCreate f n) s = .next ((take.2.setObj take.1
       { gen := (take.2.obj take.1).gen, used := true, orig := take.1, cab := n.val, ctx := ctx, base := base, len := len,
         host := host, fence := fence }).result res errNone (mkHandle (take.2.obj take.1).gen take.1))) ∧
     ((u.ctx n.val ctx).st ≠ .live → exec (.mobjAlias f n) s = .next (u.result res errNoCtx 0)) ∧
     ((u.ctx n.val ctx).st = .live → u.named n.val h = false ∨ (u.obj orig).withdrawn = true →
       exec (.mobjAlias f n) s = .next (u.result res errStale 0)) ∧
     ((u.ctx n.val ctx).st = .live → u.named n.val h = true → (u.obj orig).withdrawn = false → full →
       exec (.mobjAlias f n) s = .next (u.result res errQuota 0)) ∧
     ((u.ctx n.val ctx).st = .live → u.named n.val h = true → (u.obj orig).withdrawn = false → ¬ full →
       exec (.mobjAlias f n) s = .next ((take.2.setObj take.1
         { take.2.obj orig with gen := (take.2.obj take.1).gen, withdrawn := false, orig := orig, ctx := ctx, refs := 0 }).result
           res errNone (mkHandle (take.2.obj take.1).gen take.1))) ∧
     (u.named n.val h = false → exec (.mobjRelease f n) s = .next (u.result res errStale 0)) ∧
     (u.named n.val h = true → exec (.mobjRelease f n) s = .next ((u.objRelease (handleIdx h)).result res errNone h))) ∧
  (∀ (f : Func) (n : CabId) (x : CtxId) (s u : State), s.takes f.val n.val 0x500 (rQry n.val 0) u →
     ((u.ctx n.val x.val).st = .live → exec (.qryContext f n x) s = .next (u.putQuery n.val (u.queryContext n.val x.val))) ∧
     ((u.ctx n.val x.val).st ≠ .live → exec (.qryContext f n x) s = .next (u.putQuery n.val
       [2 ^ 63 + 3 * 2 ^ 56 + x.val, u.now, 0, 0, 0, 0, 0, 0])) ∧
     exec (.qryCabinet f n) s = .next (u.putQuery n.val (u.queryCabinet n.val)) ∧
     (∀ ws : List Nat, ws.length = 8 → ∀ k, k < 8 → (u.putQuery n.val ws).reg (rQry n.val k) = BitVec.ofNat 64 (ws.getD k 0))) ∧
  (∀ (f : Func) (n : CabId) (s u : State), s.takes f.val n.val 0x440 (rDrwResult n.val) u →
     let a := u.reg (rDrwArg n.val 2)
     let x := u.ctx n.val (fld a 45 32)
     let ring := u.rfld (rDrwArg n.val 0) 56 0
     let cq := u.rfld (rDrwArg n.val 1) 56 0
     let full := quotaDrawers (u.cab n.val).conf ≤ u.useDrawers n.val
     let legal := (4 ≤ fld a 4 0 ∧ fld a 4 0 ≤ 20) ∧ (4 ≤ fld a 12 8 ∧ fld a 12 8 ≤ 20) ∧ fld a 17 16 ≠ 0 ∧ fld a 19 18 ≠ 3 ∧
       ¬ (fld a 19 18 = 1 ∧ fld a 17 16 = 1) ∧ ¬ (fld a 20 20 = 1 ∧ x.pasidEn = false) ∧ ring % 64 = 0 ∧ cq % 64 = 0
     (full → exec (.drwCreate f n) s = .next (u.result (rDrwResult n.val) errQuota 0)) ∧
     (¬ full → x.st ≠ .live → exec (.drwCreate f n) s = .next (u.result (rDrwResult n.val) errNoCtx 0)) ∧
     (¬ full → x.st = .live → ¬ legal → exec (.drwCreate f n) s = .next (u.result (rDrwResult n.val) errArg 0)) ∧
     (¬ full → x.st = .live → legal → u.useDrawers n.val < 8192 →
       ∃ i, (u.drawer n.val i).st = .free ∧ (∀ j, j < i → (u.drawer n.val j).st ≠ .free) ∧
         exec (.drwCreate f n) s = .next ((u.setDrawer n.val i
           { st := .live, ringBase := ring, cqBase := cq, cfg := fld a 27 0, ctx := fld a 45 32 }).result
             (rDrwResult n.val) errNone i))) ∧
  (∀ (f : Func) (n : CabId) (i : DrawerId) (s u : State), s.takes f.val n.val 0x440 (rDrwResult n.val) u →
     let res := rDrwResult n.val
     let d := u.drawer n.val i.val
     (d.st = .free → ∀ c ∈ ([.drwStop f n i, .drwStart f n i, .drwDestroy f n i] : List Instr),
       exec c s = .next (u.result res errStale 0)) ∧
     (d.st ≠ .free → d.st ≠ .live → exec (.drwStop f n i) s = .next (u.result res errState 0)) ∧
     (d.st = .live → u.inflight n.val i.val ≠ 0 →
       exec (.drwStop f n i) s = .next ((u.setDrawer n.val i.val { d with st := .stopping }).result res errNone i.val)) ∧
     (d.st = .live → u.inflight n.val i.val = 0 →
       Answers (.drwStop f n i) s fun t => (t.drawer n.val i.val) = { d with st := .stopped }) ∧
     (d.st = .stopped ∨ d.st = .error →
       exec (.drwStart f n i) s = .next ((u.setDrawer n.val i.val { d with st := .live }).result res errNone i.val)) ∧
     (d.st = .live ∨ d.st = .stopping ∨ d.st = .dying → exec (.drwStart f n i) s = .next (u.result res errState 0)) ∧
     (d.st = .dying → exec (.drwDestroy f n i) s = .next (u.result res errState 0)) ∧
     (d.st ≠ .free → d.st ≠ .dying → u.inflight n.val i.val ≠ 0 → exec (.drwDestroy f n i) s = .next
       (((({ u with drw := { u.drw with drwBusy := n.val :: u.drw.drwBusy } }).setDrawer n.val i.val
         { d with st := .dying, byCmd := true }).cancelFlights (u.drw.flights.filter (fun g => g.cab == n.val && g.drawer == i.val))).settleDrawer
           n.val i.val)) ∧
     (d.st ≠ .free → d.st ≠ .dying → u.inflight n.val i.val = 0 →
       Answers (.drwDestroy f n i) s fun t => t.drawer n.val i.val = {} ∧
         t.reg res = pack [(63, 1), (62, u.rfld res 62 62), (0, i.val)]))

/-- LAT_CMD ARM ends with the first failing check's code; otherwise the latch that watches the fence in WATCH, or the lowest free
latch of the quota, takes the fields of the arguments and is evaluated. (After R104, R110.) REARM, DISARM and EVAL of a latch
that is not the cabinet's end with STALE; REARM and DISARM of one in WATCH with STATE. REARM arms it at LAT_ARG1 and evaluates
it; DISARM clears its threshold and options and lets it go when no WAIT is at it; EVAL reads its fence. (After R104, R110.)
The order of error conditions and the latch taken are the model's readings (log 34, 26). -/
def Obligations.LatchesArmRearmAndDisarm : Prop :=
  (∀ (f : Func) (n : CabId) (s u : State), s.takes f.val n.val 0x800 (rLatResult n.val) u →
     let res := rLatResult n.val
     let ctx := u.rfld (rLatArg n.val 0) 45 32
     let h := u.rfld (rLatArg n.val 0) 31 0
     let o := u.obj (handleIdx h)
     let cur := u.latchOf n.val o.orig
     let badMirror := u.rfld (rLatArg n.val 3) 0 0 = 1 ∧ u.rfld (rLatArg n.val 2) 56 0 % 8 ≠ 0
     let badExport := u.rfld (rLatArg n.val 3) 8 8 = 1 ∧ u.exporter n.val (u.rfld (rLatArg n.val 3) 27 16) ≠ none
     let full := quotaLatches (u.cab n.val).conf ≤ u.useLatches n.val
     ((u.ctx n.val ctx).st ≠ .live → exec (.latArm f n) s = .next (u.result res errNoCtx 0)) ∧
     ((u.ctx n.val ctx).st = .live → u.owns n.val ctx h = false → exec (.latArm f n) s = .next (u.result res errStale 0)) ∧
     ((u.ctx n.val ctx).st = .live → u.owns n.val ctx h = true → o.fence = false →
       exec (.latArm f n) s = .next (u.result res errArg 0)) ∧
     (∀ k, (u.ctx n.val ctx).st = .live → u.owns n.val ctx h = true → o.fence = true → cur = some k → (u.latch k).st ≠ .watch →
       exec (.latArm f n) s = .next (u.result res errState 0)) ∧
     ((u.ctx n.val ctx).st = .live → u.owns n.val ctx h = true → o.fence = true → (∀ k, cur = some k → (u.latch k).st = .watch) →
       badMirror ∨ badExport → exec (.latArm f n) s = .next (u.result res errArg 0)) ∧
     (∀ k, (u.ctx n.val ctx).st = .live → u.owns n.val ctx h = true → o.fence = true → cur = some k → (u.latch k).st = .watch →
       ¬ badMirror → ¬ badExport →
       exec (.latArm f n) s = .next (((u.setLatch k (armFields u n.val (u.latch k))).evalLatch k).result res errNone k)) ∧
     ((u.ctx n.val ctx).st = .live → u.owns n.val ctx h = true → o.fence = true → cur = none → ¬ badMirror → ¬ badExport → full →
       exec (.latArm f n) s = .next (u.result res errQuota 0)) ∧
     ((u.ctx n.val ctx).st = .live → u.owns n.val ctx h = true → o.fence = true → cur = none → ¬ badMirror → ¬ badExport → ¬ full →
       let k := u.freeLatch
       exec (.latArm f n) s = .next ((((u.setLatch k (armFields u n.val
         { watchLatch u n.val ctx h o.orig with fence := h })).shareLatch k).evalLatch k).result res errNone k))) ∧
  (∀ (f : Func) (n : CabId) (l : LatchId) (s u : State), s.takes f.val n.val 0x800 (rLatResult n.val) u →
     let res := rLatResult n.val
     let x := u.latch l.val
     (x.st = .free ∨ x.cab ≠ n.val → ∀ c ∈ ([.latRearm f n l, .latDisarm f n l, .latEval f n l] : List Instr),
       exec c s = .next (u.result res errStale 0)) ∧
     (x.st = .watch → x.cab = n.val → exec (.latRearm f n l) s = .next (u.result res errState 0) ∧
       exec (.latDisarm f n l) s = .next (u.result res errState 0)) ∧
     (x.st = .armed ∨ x.st = .spent → x.cab = n.val →
       exec (.latRearm f n l) s = .next (((u.setLatch l.val { x with st := .armed, threshold := u.rfld (rLatArg n.val 1) 62 0 }).evalLatch
         l.val).result res errNone l.val) ∧
       (u.waiters l.val ≠ [] → exec (.latDisarm f n l) s = .next ((u.setLatch l.val
         { x with st := .watch, threshold := 0, mirrorEn := false, mirrorVa := 0, exportEn := false, exportId := 0, pollUs := 0 }).result
           res errNone l.val)) ∧
       (u.waiters l.val = [] → (∀ w ∈ u.lat.waits, w.cab = n.val → w.latch ≠ none) →
         Answers (.latDisarm f n l) s fun t => t.latch l.val = {} ∧ t.rfld res 31 0 = l.val)) ∧
     (x.st ≠ .free → x.cab = n.val → exec (.latEval f n l) s = .next ((u.evalLatch l.val).result res errNone l.val)))

/-- A visible write makes the latch read its fence. With an armed latch whose fence holds at least the threshold, and no
mirror and no WAIT at it, the latch is SPENT and keeps what it read; below the threshold it stays ARMED; a lower value than
before counts a regression. A latch without a visible write is not read; a read that stalls leaves the latch to be read again,
and one that fails ends its WAITs with the failure. (After R101, R104, R506.) HOST_FENCE_POLL reads a latch on a host fence
whose poll is due, and no other; the next poll is one interval later, stretched only where the latches together ask for more
than the poll budget, and a poll that the budget delayed counts in POLL_LATE. STARVED_WAIT_POLL reads no fence before its
interval has passed, and sets the next one after it. (After R103, R108.) SIGNAL_LOCAL raises its fence to the value and ends
DONE, ends with the status of an access that fails, and stays issued while the access waits for a page. (After R91 to R93,
R96.) Which starved WAITs attach, when a mirrored latch is SPENT what a late poll is and which writes a latch sees before its
fence's place is known are read in log 38, 39, 37 and 139. -/
def Obligations.LatchesEvaluatePollAndSignal : Prop :=
  (∀ (l : LatchId) (s v w : State) (host rm : Bool) (p : Nat) (bs : List Byte), s.serves uLatch →
     let x := s.latch l.val
     let a := latAsker x.cab x.ctx
     let val := leAt bs 0 8
     let err := decide (2 ^ 63 ≤ val ∨ val = fenceError)
     (x.dirty = false → Idles (.latchEvaluate l) s) ∧
     (x.dirty = true → x.st = .armed → s.xlate a (s.obj x.obj).base false = (.ok host p rm, v) →
       v.readAt a host p 16 = (.ok bs, w) → w.waiters l.val = [] → x.mirrorEn = false →
       Answers (.latchEvaluate l) s fun t =>
         t.latch l.val = { x with dirty := false, known := true, host := host, pa := p, errored := err, last := val % 2 ^ 63,
                                  regress := if val % 2 ^ 63 < x.last then min (x.regress + 1) 65535 else x.regress,
                                  st := if err = true ∨ x.threshold ≤ val then .spent else .armed }) ∧
     (x.dirty = true → x.st ≠ .free → s.readFence x.cab x.ctx x.obj = (.wait, v) →
       exec (.latchEvaluate l) s = .next (v.setLatch l.val { v.latch l.val with dirty := true })) ∧
     (∀ st u k, x.dirty = true → x.st ≠ .free → s.readFence x.cab x.ctx x.obj = (.bad st u k, v) →
       exec (.latchEvaluate l) s = .next (v.latchFails l.val st u k))) ∧
  ((∀ (l : LatchId) (s : State), s.serves uLatch →
     let x := s.latch l.val
     (x.st = .free ∨ x.host = false ∨ s.mono < x.nextPoll → Idles (.hostFencePoll l) s) ∧
     (x.st ≠ .free → x.host = true → x.nextPoll ≤ s.mono → x.nextPoll ≤ x.pollDue → exec (.hostFencePoll l) s = .next
       ((s.setLatch l.val (s.schedulePoll x)).evalLatch l.val)) ∧
     (x.st ≠ .free → x.host = true → x.nextPoll ≤ s.mono → x.pollDue < x.nextPoll → exec (.hostFencePoll l) s = .next
       (((s.bump rLatGstat 31 16).setLatch l.val (s.schedulePoll x)).evalLatch l.val)) ∧
     (s.schedulePoll x).pollDue = s.mono + s.pollUs x * 1000 ∧
     (8 * s.pollDemand ≤ 2 ^ 32 * s.cycles → (s.schedulePoll x).nextPoll = s.mono + s.pollUs x * 1000)) ∧
   (∀ (n : CabId) (s : State), s.serves uLatch →
     (s.mono < mapGet 0 n.val s.lat.starveAt → Idles (.starvedWaitPoll n) s) ∧
     (mapGet 0 n.val s.lat.starveAt ≤ s.mono → (∀ w ∈ s.lat.waits, w.cab = n.val → w.latch ≠ none) →
       Answers (.starvedWaitPoll n) s fun t =>
         mapGet 0 n.val t.lat.starveAt = s.mono + max 1 (s.rfld (rLatCfg n.val) 47 32) * 1000))) ∧
  (∀ (n : CabId) (d : DrawerId) (q : Seq) (s v : State) (f : Flight), s.serves uLatch →
     s.issuedOp n.val d.val q.val 0x30 = some f → leAt f.body 0 1 = 0 →
     let a := latAsker f.cab f.ctx
     let base := (s.obj (handleIdx (leAt f.body 4 4))).base
     let value := leAt f.body 8 8
     (s.signalFence a base value = (.ok (), v) →
       exec (.signalLocal n d q) s = .next (v.endFlight f.cab f.drawer f.seq { status := stDone })) ∧
     (∀ st u, s.signalFence a base value = (.bad st u, v) →
       exec (.signalLocal n d q) s = .next (v.endFlight f.cab f.drawer f.seq { status := st, unit := some u })) ∧
     (s.signalFence a base value = (.wait, v) → exec (.signalLocal n d q) s = .next v))

/-- A WAIT whose fence already holds its value, or an error, ends at once; otherwise it is at the latch that watches the
fence, or starves when the latch quota is used up, with its deadline TIMEOUT_US after its issue. (After R98, R99, R104, R108.)
A WAIT is satisfied by a value at or above its own, ends with the code of an error word, and with FORMAT where a fence that
shows an error carries no code of R89; any other value leaves it waiting. (After R99.) WAIT_TIMEOUT ends a WAIT whose deadline
has passed with TIMEOUT and counts it, one whose read at issue still stalls included; a WAIT that starves leaves no latch
behind. A WAIT without a deadline, or before it, stays. (After R99.) The latch taken is the lowest free one (log 26); starved
WAITs follow log 38. -/
def Obligations.WaitsAttachAndEnd : Prop :=
  (∀ (n : CabId) (d : DrawerId) (q : Seq) (s v : State) (f : Flight) (x w1 p : Nat) (host : Bool), s.serves uLatch →
     s.issuedOp n.val d.val q.val 0x31 = some f →
     let obj := (s.obj (handleIdx (leAt f.body 0 4))).orig
     let us := leAt f.body 4 4
     let due : Option Nat := if us = 0 then none else some (f.issuedAt + us * 1000)
     let w (k : Option Nat) : Waiting :=
       { cab := f.cab, drawer := f.drawer, seq := f.seq, obj := obj, fence := leAt f.body 0 4, value := leAt f.body 8 8, latch := k,
         deadline := due }
     s.readFence f.cab f.ctx obj = (.ok x w1 host p, v) →
     (∀ e, fenceVerdict x w1 (leAt f.body 8 8) = some e →
       exec (.waitDesc n d q) s = .next ((v.endFlight f.cab f.drawer f.seq e).noteActivity f.cab f.ctx)) ∧
     (∀ k, fenceVerdict x w1 (leAt f.body 8 8) = none → v.latchOf f.cab obj = some k →
       Answers (.waitDesc n d q) s fun t => t.lat = { v.lat with waits := v.lat.waits ++ [w (some k)] }) ∧
     (fenceVerdict x w1 (leAt f.body 8 8) = none → v.latchOf f.cab obj = none →
       quotaLatches (v.cab f.cab).conf ≤ v.useLatches f.cab →
       Answers (.waitDesc n d q) s fun t => t.lat = { v.lat with waits := v.lat.waits ++ [w none] })) ∧
  (∀ v w1 value : Nat, v < 2 ^ 64 → w1 < 2 ^ 64 →
     (v < 2 ^ 63 - 1 → value ≤ v → fenceVerdict v w1 value = some { status := stDone }) ∧
     (v < 2 ^ 63 - 1 → v < value → fenceVerdict v w1 value = none) ∧
     (2 ^ 63 - 1 ≤ v → 1 ≤ w1 / 2 ^ 60 → w1 / 2 ^ 60 ≤ 11 → fenceVerdict v w1 value =
       some { status := w1 / 2 ^ 60, unit := some (w1 / 2 ^ 48 % 4096), relay := some (BitVec.ofNat 64 w1) }) ∧
     (2 ^ 63 - 1 ≤ v → w1 / 2 ^ 60 = 0 ∨ 11 < w1 / 2 ^ 60 →
       fenceVerdict v w1 value = some { status := stFormat, unit := some uLatch })) ∧
  (∀ (n : CabId) (d : DrawerId) (q : Seq) (s : State) (w : Waiting), s.serves uLatch →
     s.lat.waits.find? (fun w => w.cab == n.val && w.drawer == d.val && w.seq == q.val) = some w →
     (∀ at', w.deadline = some at' → s.mono < at' → Idles (.waitTimeout n d q) s) ∧
     (w.deadline = none → Idles (.waitTimeout n d q) s) ∧
     (∀ at', w.deadline = some at' → at' ≤ s.mono → w.latch = none → exec (.waitTimeout n d q) s = .next
       ((s.endWait w { status := stTimeout, unit := some uLatch }).bump (rLatStat n.val) 31 24)) ∧
     (∀ at' k, w.deadline = some at' → at' ≤ s.mono → w.latch = some k → exec (.waitTimeout n d q) s = .next
       (((s.endWait w { status := stTimeout, unit := some uLatch }).bump (rLatStat n.val) 31 24).settleLatch k))) ∧
  (∀ (n : CabId) (d : DrawerId) (q : Seq) (s : State) (f : Flight), s.serves uLatch →
     s.lat.waits.find? (fun w => w.cab == n.val && w.drawer == d.val && w.seq == q.val) = none →
     s.issuedOp n.val d.val q.val 0x31 = some f →
     let us := leAt f.body 4 4
     (us = 0 ∨ s.mono < f.issuedAt + us * 1000 → Idles (.waitTimeout n d q) s) ∧
     (us ≠ 0 → f.issuedAt + us * 1000 ≤ s.mono → exec (.waitTimeout n d q) s = .next
       ((s.endFlight n.val d.val q.val { status := stTimeout, unit := some uLatch }).bump (rLatStat n.val) 31 24)))

/-- R69: a doorbell that meets the six conditions replaces TAIL and CQ_HEAD and increments DB_COUNT (and wakes its cabinet); the
first condition that fails drops the write whole and counts in its field of DB_DROPS and DB_GDROPS. A function bound to no
LIVE cabinet reaches no page and counts in OWNER of DB_GDROPS; beyond a tenant's 64 KiB page there is no doorbell. (A write
that the Host Gate's own reset holds waits: the access statement below.) -/
def Obligations.DoorbellsMoveOrAreCounted : Prop :=
  ∀ (f : Func) (n o : Nat) (off : Fin 16777216) (pasid : Option Pasid) (v : Word) (s : State), s.hostUp = true →
    s.resetting uHost = false →
    (f ≠ 0 → s.boundCab f.val = none → ∀ len, exec (.doorbellWrite f off len pasid v) s = .next (s.bump rDbGdrops 15 0)) ∧
    (f ≠ 0 → s.boundCab f.val = some n → 65536 ≤ off.val → ∀ len, Idles (.doorbellWrite f off len pasid v) s) ∧
    ((f = 0 ∧ off.val = 65536 * n + o) ∨ (f ≠ 0 ∧ s.boundCab f.val = some n ∧ off.val = o) → o < 65536 →
    let i := o / 8
    let d := s.drawer n i
    let x := s.ctx n d.ctx
    let tail := fld v 31 0
    let cq := fld v 63 32
    let drop (lo : Nat) : State := (s.bump (rDbDrops n) (lo + 15) lo).bump rDbGdrops (lo + 15) lo
    let own := (s.cab n).st = .live ∧ s.funcOf n = f.val
    let free := d.st = .free ∨ d.st = .dying
    let named := d.cfg.testBit 20 = true → pasid.map (·.val) = some x.pasid
    let room := sub32 tail d.tail ≤ 2 ^ d.ringLog2 - sub32 d.tail d.head
    let done := sub32 cq d.cqHead ≤ sub32 (s.doneLow n i % 2 ^ 32) d.cqHead
    (∀ len, len ≠ 8 ∨ o % 8 ≠ 0 → exec (.doorbellWrite f off len pasid v) s = .next (drop 48)) ∧
    (o % 8 = 0 → ¬ own → exec (.doorbellWrite f off 8 pasid v) s = .next (drop 0)) ∧
    (o % 8 = 0 → own → free → exec (.doorbellWrite f off 8 pasid v) s = .next (drop 16)) ∧
    (o % 8 = 0 → own → ¬ free → ¬ named → exec (.doorbellWrite f off 8 pasid v) s = .next (drop 0)) ∧
    (o % 8 = 0 → own → ¬ free → named → ¬ room ∨ ¬ done → exec (.doorbellWrite f off 8 pasid v) s = .next (drop 32)) ∧
    (o % 8 = 0 → own → ¬ free → named → room → done → exec (.doorbellWrite f off 8 pasid v) s = .next ((s.setDrawer n i
      { d with tail := tail, cqHead := cq, dbCount := (d.dbCount + 1) % 2 ^ 32 }).wakeCab n 1)))

/-- DESCRIPTOR_FETCH of a drawer that may fetch and whose turn it is takes the descriptor at HEAD once all its slots are before
TAIL: HEAD moves past them, NEXT_SEQ counts, and the descriptor is in flight, validated or ended by its check. The turn of its
arbitration group passes on. A ring read that fails puts the drawer in ERROR with HEAD where it was. Otherwise nothing
happens. (After R64, R77, R81, R83, R87; log 151.) DESCRIPTOR_ISSUE issues a
validated descriptor of a drawer that is not DYING once no earlier one holds the drawer and, with ORDERED set, none is before
it; otherwise nothing happens. (After R65, R99, R162, R217.) DESCRIPTOR_COMPLETE of an ended descriptor without a fence writes
its record, counts it at the cabinet, and the descriptor leaves its drawer. A descriptor that has not ended stays. (After R78,
R80 to R82.) A QUERY descriptor writes words 0 to 7 of its scope at OFFSET of its object and ends DONE, ends with the status
of a write that fails, and stays issued while the write waits for a page. (After R84, R85.) The unit a failing check names and
a fence that cannot be written follow log 19 and 35. -/
def Obligations.DescriptorsAreFetchedIssuedAndRecorded : Prop :=
  (∀ (n : CabId) (i : DrawerId) (s t v : State) (bases exts : List (List Byte)), s.serves uDrawer →
     let d := s.drawer n.val i.val
     let k := 1 + extOf d.gen (bases.getD 0 [])
     let may := s.mayFetch n.val i.val = true ∧ s.turnWaits n.val i.val = false
     let u := s.passTurn n.val i.val
     (¬ may → Idles (.descriptorFetch n i) s) ∧
     (may → readSlots n.val i.val d 1 d.head u = (.ok bases, t) → sub32 d.tail d.head < k →
       exec (.descriptorFetch n i) s = .next u) ∧
     (may → readSlots n.val i.val d 1 d.head u = (.ok bases, t) → k ≤ sub32 d.tail d.head →
       readSlots n.val i.val d (k - 1) (d.head + 1) t = (.ok exts, v) →
       Answers (.descriptorFetch n i) s fun z =>
         (z.drawer n.val i.val).head = ((v.drawer n.val i.val).head + k) % 2 ^ 32 ∧
         (z.drawer n.val i.val).nextSeq = ((v.drawer n.val i.val).nextSeq + 1) % 2 ^ 48 ∧
         ∃ g, z.drw.flights = v.drw.flights ++ [g] ∧ z.me = (v.queueMove g).me ∧ g.cab = n.val ∧ g.drawer = i.val ∧ g.seq = d.nextSeq ∧ g.slots = k ∧
           g.op = (parse d.gen (bases.getD 0 []) exts).op ∧
           (g.stage = .validated ∨ ∃ st, g.stage = .ended { status := st, unit := some uDrawer })) ∧
     (∀ st x, may → readSlots n.val i.val d 1 d.head u = (.bad st x, t) →
       Answers (.descriptorFetch n i) s fun z =>
         (z.drawer n.val i.val).st = .error ∧ (z.drawer n.val i.val).head = (t.drawer n.val i.val).head % 2 ^ 32)) ∧
  (∀ (n : CabId) (i : DrawerId) (q : Seq) (s : State), s.serves uDrawer →
     (s.flight n.val i.val q.val = none → Idles (.descriptorIssue n i q) s) ∧
     ∀ f, s.flight n.val i.val q.val = some f →
       let ok := f.stage = .validated ∧ (s.drawer n.val i.val).st ≠ .dying ∧ (∀ g ∈ s.earlierFlights f, s.holdsDrawer g = false) ∧
         (f.flags.testBit 1 = true → s.earlierFlights f = [])
       (¬ ok → Idles (.descriptorIssue n i q) s) ∧
       (ok → exec (.descriptorIssue n i q) s = .next
         (s.updFlight n.val i.val q.val fun g => { g with stage := .issued, issuedAt := s.mono }))) ∧
  (∀ (n : CabId) (i : DrawerId) (q : Seq) (s v : State), s.serves uDrawer →
     (s.flight n.val i.val q.val = none → Idles (.descriptorComplete n i q) s) ∧
     ∀ f, s.flight n.val i.val q.val = some f →
       ((∀ e, f.stage ≠ .ended e) → Idles (.descriptorComplete n i q) s) ∧
       (∀ e, f.stage = .ended e → (s.drawer n.val i.val).st ≠ .dying → f.recorded = false → f.fenced = false →
         writeRecord f e s = (.ok (), v) → Answers (.descriptorComplete n i q) s fun z =>
           z.flight n.val i.val q.val = none ∧
           (z.cab n.val).tot.completed = (v.cab n.val).tot.completed + 1) ∧
       (∀ e, f.stage = .ended e → (s.drawer n.val i.val).st = .dying → f.fenced = false →
         exec (.descriptorComplete n i q) s = .next (s.leave f))) ∧
  (∀ (n : CabId) (i : DrawerId) (q : Seq) (s v : State) (f : Flight), s.serves uDrawer →
     s.issuedOp n.val i.val q.val 0x40 = some f →
     let a : Asker := { src := .drw false, unit := uDrawer, cab := f.cab, ctx := f.ctx, tag := drwKey f.cab f.drawer + 1 }
     let va := (s.obj (handleIdx (leAt f.body 0 4))).base + leAt f.body 4 4
     ∀ c ws, (c = .queryContext n i q ∧ leAt f.body 8 1 = 0 ∧ ws = s.queryContext f.cab f.ctx) ∨
         (c = .queryCabinet n i q ∧ leAt f.body 8 1 = 1 ∧ ws = s.queryCabinet f.cab) →
       (s.vaWrite a va (ws.flatMap (toLe 8)) = (.ok (), v) →
         exec c s = .next (v.endFlight f.cab f.drawer f.seq { status := stDone })) ∧
       (∀ st u, s.vaWrite a va (ws.flatMap (toLe 8)) = (.bad st u, v) →
         exec c s = .next (v.endFlight f.cab f.drawer f.seq { status := st, unit := some u })) ∧
       (s.vaWrite a va (ws.flatMap (toLe 8)) = (.wait, v) → exec c s = .next v))

/-- KERNEL and LAYER_STEP, when issued, end with DENIED where TILES is above the tiles in force or the declared outputs do not fit
the shadow pool, end with the recorded status where the context's state is LOST, and otherwise become a command of the
scheduler under the cabinet's next number. (After R182, R184, R135, R204.) PLACEMENT places the head of the ready order when
it can be placed: its tiles are busy with it, and it runs, or waits for the clears they need. A head that cannot be placed lets
the first placeable command behind it pass unless its bypass limit is over, and then may preempt. With nothing ready it places
nothing. (After R186, R188 to R191, R198.) BYPASS_LIMIT_EXPIRY marks the head that has waited BYPASS_US since it last entered the
order; before that, and with nothing ready, it changes nothing. (After R188.) The first command number and EPOCH are 0 (log
20). -/
def Obligations.TileCommandsReachTilesInOrder : Prop :=
  (∀ (n : CabId) (d : DrawerId) (q : Seq) (s : State), s.serves uTs →
     ∀ e ∈ [(Instr.kernelDesc n d q, 0x01), (Instr.layerStep n d q, 0x02)], ∀ f, s.issuedOp n.val d.val q.val e.2 = some f →
       let c := tileCommand s f
       let many := (s.cab c.cab).conf.tileList.length < c.tilesN
       let fits := c.direct = true ∨ s.shadowFits c.cab c.outs = true
       (many → exec e.1 s = .next (s.endFlight n.val d.val q.val { status := stDenied, unit := some uTs })) ∧
       (¬ many → ¬ fits → exec e.1 s = .next (s.endFlight n.val d.val q.val { status := stDenied, unit := some uTu })) ∧
       (¬ many → fits → (s.ctx n.val f.ctx).resid = .lost →
         exec e.1 s = .next (s.endFlight n.val d.val q.val (s.lostEnding n.val f.ctx))) ∧
       (¬ many → fits → (s.ctx n.val f.ctx).resid ≠ .lost → Answers e.1 s fun t =>
         t.ts.cmds = s.ts.cmds ++ [{ c with n := mapGet 0 c.cab s.ts.ids }] ∧
         t.drw.flights = updWhere (fun g => g.is f.cab f.drawer f.seq) (fun g => { g with stage := .running }) s.drw.flights)) ∧
  (∀ (n : CabId) (s : State), s.serves uTs →
     let u := (s.renewWaits n.val).endHopeless n.val
     (u.readyOrder n.val = [] → exec (.placement n) s = .next u) ∧
     ∀ h r, u.readyOrder n.val = h :: r →
       (u.placeable h = true →
         exec (.placement n) s = .next ((u.placeOn h (u.cheapest h)).noteActivity n.val h.ctx) ∧
         (∀ t ∈ u.cheapest h, ((u.placeOn h (u.cheapest h)).tile t).busy = true ∧
           ((u.placeOn h (u.cheapest h)).tile t).cmd = some h.n)) ∧
       (let w := (h :: r).foldl (fun s c => s.countWait c) u
        (u.placeable h = false → w.bypassOver h = true → exec (.placement n) s = .next (w.preempt h)) ∧
        (u.placeable h = false → w.bypassOver h = false → r.find? w.placeable = none →
          exec (.placement n) s = .next (w.preempt h)) ∧
        (∀ c, u.placeable h = false → w.bypassOver h = false → r.find? w.placeable = some c →
          exec (.placement n) s = .next (((w.placeOn c (w.cheapest c)).preempt h).noteActivity n.val c.ctx)))) ∧
  (∀ (n : CabId) (s : State), s.serves uTs →
     (s.readyOrder n.val = [] → Idles (.bypassLimitExpiry n) s) ∧
     ∀ h r, s.readyOrder n.val = h :: r →
       (s.mono < h.waitFrom + s.rfld (rTsCfg n.val) 47 32 * 1000 → Idles (.bypassLimitExpiry n) s) ∧
       (h.waitFrom + s.rfld (rTsCfg n.val) 47 32 * 1000 ≤ s.mono → exec (.bypassLimitExpiry n) s = .next
         (s.updCmd n.val h.n fun x => { x with stuck := true })))

/-- The head of a cabinet's ready order is one of its ready commands, and none of them comes before it by PRIO, ready time, drawer
and sequence number. (After R188.) A placement takes TILES of the eligible tiles, in ascending port order; no tile it leaves
costs less than one it takes, and at equal cost it takes the lower port. (After R190.) -/
def Obligations.PlacementOrderAndCost : Prop :=
  (∀ (s : State) (n : Nat) (h : Cmd) (r : List Cmd), s.readyOrder n = h :: r →
     h ∈ s.ts.cmds ∧ h.cab = n ∧ s.ready h = true ∧ ∀ c ∈ s.ts.cmds, c.cab = n → s.ready c = true → c.before h = false) ∧
  (∀ (s : State) (c : Cmd), c.tilesN ≤ (s.eligible c).length →
     (s.cheapest c).length = c.tilesN ∧ (s.cheapest c).Pairwise (· < ·) ∧ (∀ t ∈ s.cheapest c, t ∈ s.eligible c) ∧
     ∀ a ∈ s.cheapest c, ∀ b ∈ s.eligible c, b ∉ s.cheapest c →
       s.placeCost c a < s.placeCost c b ∨ (s.placeCost c a = s.placeCost c b ∧ a < b))

/-- KILL_ACK takes one tile of a killed command; at the last one the run is over, and a command that neither failed nor lost its
context waits again as a replay, with no tiles. A tile that is not being killed breaks the protocol (R473). KILL_ACK_LATE, 2
µs after the kill, counts and resets the port as hung. (After R192 to R194.) TILE_DONE is ignored during a kill, and breaks
the protocol without a run, after the tile has reported, or with a status no request of the run returned. The last report
frees the tiles, and a committing run without error goes on to its commit; an earlier one is noted. (After R139, R140, R473,
R479, R480.) TILE_PROGRESS restarts the port's hang timer. TILE_FATAL resets the port with verdict FATAL, also in a stop.
TILE_CLEAR_ACK ends a clear, which may start the command that waits for it or let a leaving tile go; without a clear it breaks
the protocol. (After R371, R479.) When the tiles of a placement are freed, which status a run ends with and the cause of a
kill are read in log 24, 98 and 25. -/
def Obligations.KillsReplayAndReportsEndRuns : Prop :=
  (∀ (t : TileId) (s : State), s.frozen = false → s.tie.tiles.testBit t.val = true →
     let x := s.tile t.val
     (x.killing = false → exec (.killAck t) s = .next (s.faultOn (uTile t.val) 6 none)) ∧
     (∀ k m c left, x.killing = true → x.cmd = some k → x.cab = some m → s.cmd m k = some c → c.phase = .killing left →
       (left.filter (fun y => y != t.val) ≠ [] → exec (.killAck t) s = .next
         ((s.setTile t.val { x with killing := false }).updCmd m k
           fun y => { y with phase := .killing (left.filter (fun y => y != t.val)) })) ∧
       (left.filter (fun y => y != t.val) = [] → c.gone = false → c.fail = none → Answers (.killAck t) s fun z =>
         ∃ c', z.cmd m k = some c' ∧ c'.phase = .waiting ∧ c'.replay = true ∧ c'.tiles = [] ∧ c'.waitFrom = s.mono)) ∧
     (x.killing = true → x.killAt + 2000 ≤ s.mono → exec (.killAckLate t) s = .next
       ((s.bump rTsGstat 63 48).faultOn (uTile t.val) 4 none)) ∧
     (x.killing = false ∨ s.mono < x.killAt + 2000 → Idles (.killAckLate t) s)) ∧
  (∀ (t : TileId) (st : Fin 256) (s : State), s.frozen = false → s.tie.tiles.testBit t.val = true →
     ((s.tile t.val).killing = true → Idles (.tileDone t st) s) ∧
     ((s.tile t.val).killing = false → s.runOn t.val = none → exec (.tileDone t st) s = .next (s.faultOn (uTile t.val) 6 none)) ∧
     ∀ c, (s.tile t.val).killing = false → s.runOn t.val = some c →
       let err := c.returned st.val
       let c' : Cmd := { c with done := t.val :: c.done, said := c.said.or (if st.val = stDone then none else some st.val) }
       let u := (s.updCmd c.cab c.n fun _ => c').setTile t.val { s.tile t.val with progress := s.mono }
       (t.val ∈ c.done ∨ (st.val ≠ stDone ∧ err = none) → exec (.tileDone t st) s = .next (s.faultOn (uTile t.val) 6 none)) ∧
       (t.val ∉ c.done → st.val = stDone ∨ err ≠ none → (∃ y ∈ c.tiles, y ∉ t.val :: c.done) →
         exec (.tileDone t st) s = .next u) ∧
       (t.val ∉ c.done → st.val = stDone ∨ err ≠ none → (∀ y ∈ c.tiles, y ∈ t.val :: c.done) →
         exec (.tileDone t st) s = .next (u.endRun c') ∧
         (c'.said = none → c.fail = none → c.deny = none → c.direct = false →
           ∃ z, (u.endRun c').cmd c.cab c.n = some z ∧ z.phase = .committing ∧ z.tiles = []))) ∧
  (∀ (t : TileId) (s : State), s.tie.tiles.testBit t.val = true →
     let x := s.tile t.val
     (s.frozen = false → exec (.tileProgress t) s = .next (s.setTile t.val { x with progress := s.mono })) ∧
     (s.coreUp = true → exec (.tileFatal t) s = .next (s.faultOn (uTile t.val) 5 none)) ∧
     (s.frozen = false → x.clearing = true → exec (.tileClearAck t) s = .next
       (((s.setTile t.val { x with clearing := false, progress := s.mono }).clearedFor t.val).tileLeft t.val)) ∧
     (s.frozen = false → x.clearing = true → x.leaving = false → x.cmd = none → x.cab ≠ none → exec (.tileClearAck t) s = .next
       (s.setTile t.val { x with clearing := false, progress := s.mono })) ∧
     (s.frozen = false → x.clearing = false → exec (.tileClearAck t) s = .next (s.faultOn (uTile t.val) 6 none)))

/-- A local request of a running tile, within a line, takes the next request number. A miss, and any request while the
translation unit resets, waits for its walk; a look-aside hit on a page that permits it is carried out: a read gives the tile
its bytes, an ordinary write of a DIRECT command stores and answers DONE. (After R122, R133, R155, R478.) Breaches of the port
protocol are read in log 96, partial writes over the fabric in log 62, a full miss queue in log 158. -/
def Obligations.TileRequestsAreServed : Prop :=
  ∀ (t : TileId) (va : Nat) (tag : Fin 1024) (s : State) (c : Cmd), s.frozen = false → s.tie.tiles.testBit t.val = true →
    (s.tile t.val).killing = false → s.resetting (uTile t.val) = false → s.runOn t.val = some c → t.val ∉ c.done → va < 2 ^ 57 →
    let s1 := (s.asked c).setTile t.val { s.tile t.val with progress := s.mono }
    let q (write : Bool) (len : Nat) (mask : List Bool) (data : List Byte) : Req :=
      { id := s.tu.nextReq, src := .tile t.val write, unit := uTile t.val, cab := c.cab, ctx := c.ctx, owner := some (.cmd c.cab c.n),
        tag := tag.val, va := va, write := write, len := len, data := data, mask := mask, phase := .miss false, since := s.mono,
        ord := c.asks }
    (∀ len, 1 ≤ len → va % 128 + len ≤ 128 → s.lookup c.cab c.ctx va = none ∨ s.resetting uTu = true →
      Answers (.tileReadRequest t va len tag none) s fun z => z.tu.nextReq = s.tu.nextReq + 1 ∧ ∃ r ∈ z.tu.reqs,
        r = q false len [] []) ∧
    (∀ len e v bs, 1 ≤ len → va % 128 + len ≤ 128 → s.resetting uTu = false → s.lookup c.cab c.ctx va = some e → e.host = false → s.cmd c.cab c.n = some c →
      ((s1.addReq (q false len [] [])).resolve (e.pa + (va - e.va)) len).readLoc { m := .cab c.cab, unit := uTile t.val, ctx := some c.ctx } (e.pa + (va - e.va))
        (if c.direct then s1.locate (e.pa + (va - e.va)) else s1.ownPlace (.cmd c.cab c.n) (e.pa + (va - e.va))) len = (.ok bs, v) →
      exec (.tileReadRequest t va len tag none) s =
        .next ((v.dropReq s.tu.nextReq).emit (.tileRead t.val tag.val stDone bs))) ∧
    (∀ mask data e v, va % 128 = 0 → mask.length = 128 → data.length = 128 → s.resetting uTu = false → s.lookup c.cab c.ctx va = some e → e.host = false →
      e.w = true → c.direct = true → s.cmd c.cab c.n = some c →
      placeRuns { src := .tile t.val true, unit := uTile t.val, cab := c.cab, ctx := c.ctx } false (e.pa + (va - e.va))
        (maskRuns 0 mask data) (s1.addReq (q true 128 mask data)) = (.ok (), v) →
      exec (.tileWriteRequest t va mask data tag none) s =
        .next ((v.dropReq s.tu.nextReq).emit (.tileWrite t.val tag.val stDone)))

/-- SWAP_IN ends with DENIED where STILES is above the tiles in force; it waits behind a swap of its context; a context resident
under the same binding is DONE, under another DENIED; a LOST one under its own binding without ZERO ends with the recorded
status. Otherwise its load begins, and takes tiles as it can. (After R200, R201, R204.) SWAP_OUT of a resident context begins
a save of its tiles (which moves nothing with DISCARD or under NOSAVE), and they are BUSY; of one that is not resident it only
changes or releases the binding and is DONE; it ends with DENIED or waits as SWAP_IN does. (After R187, R202, R204.) SWAP_OUT
with NOSAVE, the rebinding of a LOST context, and what SWAP_OUT does beyond the rule's cases are read in log 49, 58 and 143. -/
def Obligations.SwapDescriptorsBindAndSave : Prop :=
  (∀ (n : CabId) (d : DrawerId) (q : Seq) (s : State) (f : Flight), s.serves uTs → s.issuedOp n.val d.val q.val 0x50 = some f →
     let stiles := bitsOf (leAt f.body 16 2) 8 0
     let flags := leAt f.body 18 1
     let va := (s.obj (handleIdx (leAt f.body 0 4))).base + leAt f.body 8 8
     let x := s.ctx f.cab f.ctx
     let own := x.resid ≠ .unbound ∧ x.saveVa = va ∧ x.stiles = stiles
     let many := (s.cab f.cab).conf.tileList.length < stiles
     let w : Swap := { cab := f.cab, ctx := f.ctx, load := true, desc := some (f.drawer, f.seq), va := va, zero := flags.testBit 0,
                       pin := flags.testBit 1, nosave := flags.testBit 2, stiles := stiles, prior := x.resid }
     (many → exec (.swapIn n d q) s = .next (s.endFlight f.cab f.drawer f.seq { status := stDenied, unit := some uTs })) ∧
     (¬ many → s.swapOf f.cab f.ctx ≠ none → Idles (.swapIn n d q) s) ∧
     (¬ many → s.swapOf f.cab f.ctx = none → x.resid = .resident → own →
       exec (.swapIn n d q) s = .next (s.endFlight f.cab f.drawer f.seq { status := stDone })) ∧
     (¬ many → s.swapOf f.cab f.ctx = none → x.resid = .resident → ¬ own →
       exec (.swapIn n d q) s = .next (s.endFlight f.cab f.drawer f.seq { status := stDenied, unit := some uTs })) ∧
     (¬ many → s.swapOf f.cab f.ctx = none → x.resid = .lost → own → flags.testBit 0 = false →
       exec (.swapIn n d q) s = .next (s.endFlight f.cab f.drawer f.seq (s.lostEnding f.cab f.ctx))) ∧
     (¬ many → s.swapOf f.cab f.ctx = none → x.resid ≠ .resident → ¬ (x.resid = .lost ∧ own ∧ flags.testBit 0 = false) →
       exec (.swapIn n d q) s = .next
         (({ s.startFlight f with ts := { s.ts with swaps := s.ts.swaps ++ [w] } }).gather w))) ∧
  (∀ (n : CabId) (d : DrawerId) (q : Seq) (s : State) (f : Flight), s.serves uTs → s.issuedOp n.val d.val q.val 0x51 = some f →
     let h := leAt f.body 0 4
     let stiles := bitsOf (leAt f.body 16 2) 8 0
     let flags := leAt f.body 18 1
     let x := s.ctx f.cab f.ctx
     let va := if h = 0 then x.saveVa else (s.obj (handleIdx h)).base + leAt f.body 8 8
     let many := (s.cab f.cab).conf.tileList.length < stiles
     (many → exec (.swapOut n d q) s = .next (s.endFlight f.cab f.drawer f.seq { status := stDenied, unit := some uTs })) ∧
     (¬ many → s.swapOf f.cab f.ctx ≠ none → Idles (.swapOut n d q) s) ∧
     (¬ many → s.swapOf f.cab f.ctx = none → x.resid = .resident → Answers (.swapOut n d q) s fun t =>
       (t.ctx f.cab f.ctx).resid = .outProgress ∧ (t.ctx f.cab f.ctx).saveVa = va ∧ t.ts.swaps = s.ts.swaps ++
         [{ cab := f.cab, ctx := f.ctx, load := false, desc := some (f.drawer, f.seq), va := va, tiles := x.tiles,
            discard := flags.testBit 0 || x.nosave, unbind := flags.testBit 1, stiles := x.stiles, prior := .resident }] ∧
       ∀ k ∈ x.tiles, (t.tile k).busy = true) ∧
     (¬ many → s.swapOf f.cab f.ctx = none → x.resid ≠ .resident → flags.testBit 1 = true → exec (.swapOut n d q) s = .next
       ((s.setCtx f.cab f.ctx { x with resid := .unbound, saveVa := 0, stiles := 0, pin := false, nosave := false,
                                       lostStatus := 0, lostUnit := 0 }).endFlight f.cab f.drawer f.seq { status := stDone })) ∧
     (¬ many → s.swapOf f.cab f.ctx = none → x.resid ≠ .resident → flags.testBit 1 = false → h = 0 ∨ x.resid = .unbound →
       exec (.swapOut n d q) s = .next (s.endFlight f.cab f.drawer f.seq { status := stDone })) ∧
     (¬ many → s.swapOf f.cab f.ctx = none → x.resid ≠ .resident → flags.testBit 1 = false → h ≠ 0 → x.resid ≠ .unbound →
       exec (.swapOut n d q) s = .next ((s.setCtx f.cab f.ctx { x with saveVa := va, stiles := stiles }).endFlight f.cab f.drawer f.seq
         { status := stDone })))

/-- SWAP_LOAD_COMPLETE of a load whose tiles are ready, with ZERO or with an image that can be read, makes the context
resident on its tiles, and on the way to SLEEP or DEEP it goes out again (R210); SWAP_SAVE_COMPLETE of a save whose runs have
ended leaves it bound and swapped out, or unbound. Without such a swap nothing happens; a failing save loses the state. (After
R204, R205.) AUTO_SWAP_IN of a swapped-out context with a ready command begins its load, unless its cabinet is on the way to
SLEEP or DEEP (log 152); without one it does nothing. STALL_EVICTION evicts the context blocked longest when every resident
one is blocked past its limit and another waits to come in that neither free tiles nor evictions under way suffice for;
otherwise it does nothing. (After R203 to R206.) SWAP_OUT with NOSAVE is read in log 49. -/
def Obligations.SwapsEndAndFollowTheRules : Prop :=
  (∀ (n : CabId) (x : CtxId) (data : List Byte) (s v : State), s.serves uTs →
     (s.swapOf n.val x.val = none → Idles (.swapLoadComplete n x) s ∧ Idles (.swapSaveComplete n x data) s) ∧
     ∀ w, s.swapOf n.val x.val = some w →
       (s.loadReady w = false → Idles (.swapLoadComplete n x) s) ∧
       (∀ bs, s.loadReady w = true → w.zero = true ∨ s.vaRead w.asker w.va (w.tiles.length * s.stateBytes) = (.ok bs, v) →
         Answers (.swapLoadComplete n x) s fun t =>
           (t.ctx n.val x.val).resid = (if s.swapsOut n.val = true then Resid.outProgress else Resid.resident) ∧
           (t.ctx n.val x.val).tiles = w.tiles ∧ (t.ctx n.val x.val).saveVa = w.va) ∧
       (∀ st u, s.loadReady w = true → w.zero = false → s.vaRead w.asker w.va (w.tiles.length * s.stateBytes) = (.bad st u, v) →
         exec (.swapLoadComplete n x) s = .next (loadFails w st u v)) ∧
       (w.load = true ∨ s.runningOf n.val x.val ≠ [] → Idles (.swapSaveComplete n x data) s) ∧
       (w.load = false → s.runningOf n.val x.val = [] →
         w.discard = true ∨ (data.length = w.tiles.length * s.stateBytes ∧ s.vaWrite w.asker w.va data = (.ok (), v)) →
         Answers (.swapSaveComplete n x data) s fun t =>
           (t.ctx n.val x.val).resid = (if w.unbind then Resid.unbound else Resid.out) ∧ (t.ctx n.val x.val).tiles = []) ∧
       (∀ st u, w.load = false → s.runningOf n.val x.val = [] → w.discard = false →
         data.length = w.tiles.length * s.stateBytes → s.vaWrite w.asker w.va data = (.bad st u, v) →
         exec (.swapSaveComplete n x data) s = .next (saveFails w st u v))) ∧
  (∀ (n : CabId) (x : CtxId) (s : State), s.serves uTs →
     let y := s.ctx n.val x.val
     let head := (s.readyOrder n.val).find? (fun c => c.ctx == x.val)
     (s.swapOf n.val x.val = none →
       head = none ∨ y.resid ≠ .out ∨ s.swapHolds n.val x.val = true ∨ s.swapsOut n.val = true → Idles (.autoSwapIn n x) s) ∧
     (∀ c, s.swapOf n.val x.val = none → head = some c → y.resid = .out → s.swapHolds n.val x.val = false →
       s.swapsOut n.val = false →
       let w : Swap := { cab := n.val, ctx := x.val, load := true, desc := none, va := y.saveVa, pin := y.pin, nosave := y.nosave,
                         stiles := y.stiles, prior := .out, trig := some c.n }
       exec (.autoSwapIn n x) s = .next (({ s with ts := { s.ts with swaps := s.ts.swaps ++ [w] } }).gather w)) ∧
     (∀ w, s.swapOf n.val x.val = some w → w.load = true → exec (.autoSwapIn n x) s = .next (s.gather w)) ∧
     (let limit := max 1 (s.rfld (rTsCfg n.val) 15 0) * 1000
      let rs := s.residents n.val
      let stalled := (∀ c ∈ rs, s.activity n.val c = 1 ∧ ∃ t, (s.ctx n.val c).blockedAt = some t ∧ t + limit < s.mono) ∧
        ∃ e ∈ s.drw.ctxs, e.1 / 16384 = n.val ∧ e.2.resid = .out ∧ s.readyCmd n.val (e.1 % 16384) = true ∧
          s.shortOfTiles n.val (e.1 % 16384) = true
      (¬ stalled ∨ rs = [] → Idles (.stallEviction n) s) ∧
      (stalled → rs ≠ [] → ∃ c ∈ rs, (∀ d ∈ rs, (s.ctx n.val c).blockedAt.getD 0 ≤ (s.ctx n.val d).blockedAt.getD 0) ∧
         exec (.stallEviction n) s = .next ((s.evict n.val c).bump (rTsCnt2 n.val) 63 48))))

/-- WALK_START of a waiting miss attaches it to the walk of its context and page, else takes one of the 512 slots where its
cabinet may have one, else counts the refusal once. Of a request that waits for no walk it changes nothing. (After R123.)
WALK_COMPLETE frees the walk's slot; a malformed entry or a failed read fails every attached request, with XLATE or with the
read's status, and a leaf or an absent entry lets each of them go on. Without the walk nothing happens. (After R118, R124.)
Which requests pass through these two events is the model's choice (log 41); what full caches drop and when leaves are merged
are read in log 157 and 160. -/
def Obligations.WalksStartAndEnd : Prop :=
  (∀ (id : Nat) (s : State), s.serves uTu →
     (s.tu.reqs.find? (fun r => r.id == id) = none → Idles (.walkStart id) s) ∧
     ∀ r, s.tu.reqs.find? (fun r => r.id == id) = some r →
       ((∀ k, r.phase ≠ .miss k) → Idles (.walkStart id) s) ∧
       ∀ k, r.phase = .miss k →
         let here := ∃ w ∈ s.tu.walks, w.cab = r.cab ∧ w.ctx = r.ctx ∧ w.page = r.va / 65536
         let mine := (s.tu.walks.filter (fun w => w.cab == r.cab)).length
         let others := ∃ q ∈ s.tu.reqs, q.cab ≠ r.cab ∧ ∃ j, q.phase = .miss j
         let full := 512 ≤ s.tu.walks.length ∨ (others ∧ max 16 (512 * (s.cab r.cab).memFloor / 1024) ≤ mine)
         (here → exec (.walkStart id) s = .next ((s.setReq { r with phase := .walk }).bump (rTuCstat r.cab) 47 32)) ∧
         (¬ here → full → k = true → Idles (.walkStart id) s) ∧
         (¬ here → full → k = false → exec (.walkStart id) s = .next ((s.setReq { r with phase := .miss true }).bump rTuGstat 63 48)) ∧
         (¬ here → ¬ full → Answers (.walkStart id) s fun t =>
           t.tu.walks = s.tu.walks ++ [{ cab := r.cab, ctx := r.ctx, page := r.va / 65536 }])) ∧
  (∀ (n : CabId) (x : CtxId) (page : Nat) (s : State), s.serves uTu →
     let here := ∃ w ∈ s.tu.walks, w.cab = n.val ∧ w.ctx = x.val ∧ w.page = page
     let u : State := { s with tu := { s.tu with
       walks := s.tu.walks.filter (fun w => !(w.cab == n.val && w.ctx == x.val && w.page == page)) } }
     let mine := s.tu.reqs.filter (fun r => r.cab == n.val && r.ctx == x.val && r.va / 65536 == page && r.phase == .walk)
     let w := u.walk n.val x.val (page * 65536)
     (¬ here → Idles (.walkComplete n x page) s) ∧
     (here → w.1 = .malformed → exec (.walkComplete n x page) s = .next
       (mine.foldl (fun s r => s.failReq r stXlate uTu true) (w.2.bump rTuGstat 47 32))) ∧
     (∀ st v, here → w.1 = .fail st v → exec (.walkComplete n x page) s = .next
       (mine.foldl (fun s r => s.failReq r st v true) w.2)) ∧
     (here → w.1 ≠ .malformed → (∀ st v, w.1 ≠ .fail st v) → exec (.walkComplete n x page) s = .next
       (mine.foldl (fun s r => tileGoes r (s.afterWalk r.asker r.va r.write w.1)) w.2)))

/-- FAULT_RECORD_WRITE writes the oldest unwritten record of a cabinet whose queue is enabled and whose slot is free: bytes 8
on before byte 0, PRODUCED one higher, the record written, the limits of its requests restarted. Otherwise nothing. (After
R130, R132.) An accepted RETRY drops the record and the cached translations of its page and lets its requests translate
afresh; an accepted FAIL drops it and fails each with XLATE, and its command with it. An answer that is not this one changes
nothing. (After R129, R131.) FAULT_TIMEOUT fails a request that has waited FAULT_US for a device response, or for a page
request, with TIMEOUT; a page request also counts. Before its limit, or in another phase, nothing happens. (After R127, R132.)
TU_FQ_CFG.EN 1 takes with a queue that meets R154 and starts its records at 0; else the other fields are stored with EN 0.
While EN is 1, only NOTIFY_HOST changes; EN 0 then fails every pending record of the cabinet. (After R132, R153, R154.) How
FAULT_US runs, what RETRY drops and a record that cannot be written are read in log 43, 27 and 45. -/
def Obligations.FaultsAreRecordedAndAnswered : Prop :=
  (∀ (n : CabId) (s : State), s.serves uTu →
     let next := s.tu.faults.find? (fun r => r.cab == n.val && !r.written)
     (next = none ∨ s.fqOn n.val = false → Idles (.faultRecordWrite n) s) ∧
     (∀ r, next = some r → s.fqRoom r = false → Idles (.faultRecordWrite n) s) ∧
     (∀ r, next = some r → s.fqOn n.val = true → s.fqRoom r = true → s.reg (rFqNotify n.val) = 0 → s.rfld (rFqCfg n.val) 1 1 = 1 →
       s.funcBme (s.funcOf n.val) = true → Answers (.faultRecordWrite n) s fun t =>
         (∃ q ∈ t.tu.faults, q = { r with written := true, writtenAt := s.mono }) ∧
         memRead t.hostMem (s.fqSlot n.val r.f) 64 = tuRecord r (ringSlot r.f (s.rfld (rFqCfg n.val) 12 8)).2 s.now)) ∧
  (∀ (n : CabId) (f : Nat) (s : State), s.serves uTu →
     (s.answered n.val f 1 = false → Idles (.faultRetry n f) s) ∧ (s.answered n.val f 2 = false → Idles (.faultFail n f) s) ∧
     (s.answered n.val f 2 = true → exec (.faultFail n f) s = .next
       ((attached s n.val f).foldl (fun s q => s.failReq q stXlate uTu true) (dropFault s n.val f))) ∧
     (∀ r, s.answered n.val f 1 = true → s.tu.faults.find? (fun r => r.cab == n.val && r.f == f) = some r →
       exec (.faultRetry n f) s = .next ((attached s n.val f).foldl (fun s q => releaseReq q s)
         ((dropFault s n.val f).dropLook n.val r.ctx (r.page * 65536) (r.page * 65536 + 65536))))) ∧
  (∀ (id : Nat) (s : State) (r : Req), s.serves uTu → s.tu.reqs.find? (fun r => r.id == id) = some r →
     (s.mono < r.since + s.faultNs → Idles (.faultTimeout id) s) ∧
     (∀ f, r.since + s.faultNs ≤ s.mono → r.phase = .fault f → exec (.faultTimeout id) s = .next (s.failReq r stTimeout uTu true)) ∧
     ((∀ f, r.phase ≠ .fault f) → (∀ g, r.phase ≠ .pri g) → r.phase ≠ .priWait → Idles (.faultTimeout id) s) ∧
     (r.since + s.faultNs ≤ s.mono → (∃ g, r.phase = .pri g) ∨ r.phase = .priWait →
       exec (.faultTimeout id) s = .next ((s.failReq r stTimeout uTu true).bump rTuGstat 15 0))) ∧
  (∀ (n : CabId) (v : Word) (s : State), s.mayReach (rFqCfg n.val) →
     let u := s.wakeBlock 1
     let old := u.reg (rFqCfg n.val)
     let asked := pack [(8, fld v 12 8), (2, fld v 2 2), (1, fld v 1 1)]
     (fld old 0 0 = 0 → u.fqReady n.val asked = true → Answers (.tuFqEnable 0 n v) s fun t =>
       t.reg (rFqCfg n.val) = setFld asked 0 0 1 ∧ mapGet 0 n.val t.tu.fq = 0 ∧ t.rfld (rFqStat n.val) 31 0 = 0) ∧
     (fld old 0 0 = 0 → u.fqReady n.val asked = false → exec (.tuFqEnable 0 n v) s = .next (u.setReg (rFqCfg n.val) asked)) ∧
     (fld old 0 0 = 1 → exec (.tuFqEnable 0 n v) s = .next (u.setReg (rFqCfg n.val) (setFld old 2 2 (fld v 2 2)))) ∧
     (fld old 0 0 = 0 → exec (.tuFqDisable 0 n v) s = .next (u.setReg (rFqCfg n.val) asked)) ∧
     (fld old 0 0 = 1 → exec (.tuFqDisable 0 n v) s = .next
       (((u.tu.faults.filter (fun r => r.cab == n.val)).foldl (fun s r => faultFail n.val r.f s) u).setReg (rFqCfg n.val)
         (setFld (setFld old 2 2 (fld v 2 2)) 0 0 0))))

/-- An ATS completion that grants the request fills a leaf of its size, 4 KiB at least, and the request goes on; one that does
not is a host fault: DENIED without bus mastering, XLATE without page requests, else a page request or a wait for the
allocation. PRG_RESPONSE frees its group's place in the allocation, asks again on success and fails the requests of its group
otherwise, and a Response Failure stops the function's page requests; a completion or a response to nothing outstanding breaks
the port's protocol. (After R125, R127, R473.) An ATS Invalidate Request, fewer than 32 of its function outstanding, drops the
cached host leaves of its range and waits as a withdrawal; WITHDRAWAL_COMPLETE lets it pass the sequence point once no earlier
one of its function and no kill it caused is left, and answers the function and the descriptor that asked. (After R126, R147.)
What a page request names, what disables PRI, how long it takes up its allocation, a completion without read permission and one
whose requester has gone are read in log 29, 132, 161, 163 and 172; a completion writes host memory (log 9). -/
def Obligations.HostPagesAndWithdrawals : Prop :=
  ((∀ (id : Nat) (pr r w : Bool) (addr size : Nat) (s : State) (q : Req), s.serves uTu →
     s.tu.reqs.find? (fun q => q.id == id) = some q → q.phase = .ats →
     let n := max 4096 size
     let granted := pr = true ∧ (if q.write = true then w = true else r = true)
     let f := s.funcOf q.cab
     let q' : Req := { q with since := s.mono }
     let s' : State := { s with tu := { s.tu with atsOpen := s.tu.atsOpen.filter (fun x => x != id) } }
     let e : Lookaside :=
       { cab := q.cab, ctx := q.ctx, va := q.va / n * n, size := n, pa := addr, w := q.leafW, rm := false, host := true, hw := w,
         hr := r }
     (granted → exec (.atsCompletion id pr r w addr size) s = .next
       (releaseReq q (if q.capped then (s'.fill e).capLook q.cab else s'.fill e))) ∧
     (¬ granted → s.funcBme f = false → exec (.atsCompletion id pr r w addr size) s = .next (s'.failReq q' stDenied uHost true)) ∧
     (¬ granted → s.funcBme f = true → q.service = false ∨ fld (mapGet 0 f s.hg.cfg) 8 8 = 0 ∨ f ∈ s.tu.priOff →
       exec (.atsCompletion id pr r w addr size) s = .next ((s'.failReq q' stXlate uTu true).bump rTuGstat 15 0)) ∧
     (¬ granted → s.funcBme f = true → q.service = true → fld (mapGet 0 f s.hg.cfg) 8 8 = 1 → f ∉ s.tu.priOff →
       exec (.atsCompletion id pr r w addr size) s = .next (pageRequest q' { s' with tu := { s'.tu with
         reqs := updWhere (fun x => x.id == q.id) (fun x => { x with since := s.mono }) s.tu.reqs } }))) ∧
   (∀ (g : Nat) (code : Fin 16) (s : State) (r : Req), s.serves uTu →
     s.tu.reqs.filter (fun r => r.phase == .pri g) = [r] → (∀ q ∈ s.tu.reqs, q.phase ≠ .priWait) →
     (code.val = 0 → exec (.prgResponse g code) s = .next
       ((({ s with tu := { s.tu with priOpen := s.tu.priOpen.filter (fun e => e.1 != g) } } : State).setReq { r with phase := .ats }).askAts
         r.id r.cab r.ctx r.va r.write)) ∧
     (code.val = 1 → Answers (.prgResponse g code) s fun t => t.tu.priOff = s.tu.priOff ∧ ¬ (∃ q ∈ t.tu.reqs, q.phase = .pri g)) ∧
     (∀ fn, code.val = 15 → (g, fn) ∈ s.tu.priOpen → Answers (.prgResponse g code) s fun t =>
       fn ∈ t.tu.priOff ∧ (∀ e ∈ t.tu.priOpen, e.1 ≠ g) ∧ ¬ (∃ q ∈ t.tu.reqs, q.phase = .pri g))) ∧
   (∀ (id g : Nat) (pr r w : Bool) (addr size : Nat) (code : Fin 16) (s : State), s.serves uTu →
     (id ∉ s.tu.atsOpen → (∀ q ∈ s.tu.reqs, q.id ≠ id) →
       exec (.atsCompletion id pr r w addr size) s = .next (s.faultOn uHost 6 none)) ∧
     (id ∈ s.tu.atsOpen → (∀ q ∈ s.tu.reqs, q.id ≠ id) → exec (.atsCompletion id pr r w addr size) s = .next
       { s with tu := { s.tu with atsOpen := s.tu.atsOpen.filter (fun x => x != id) } }) ∧
     ((∀ e ∈ s.tu.priOpen, e.1 ≠ g) → (∀ q ∈ s.tu.reqs, q.phase ≠ .pri g) →
       exec (.prgResponse g code) s = .next (s.faultOn uHost 6 none)))) ∧
  ((∀ (f : Func) (tag : Fin 32) (p : Option Pasid) (addr len : Nat) (s : State), s.serves uTu →
     let open_ := (s.tu.withdraws.filter (fun w => w.host.any (fun h => h.1 == f.val))).length
     (32 ≤ open_ → Idles (.atsInvalidate f tag p addr len) s) ∧
     (open_ < 32 → Answers (.atsInvalidate f tag p addr len) s fun t =>
       t.tu.withdraws = s.tu.withdraws ++ [{ id := s.tu.nextWd, ctxs := s.ctxsOfFunc f.val (p.map (·.val)), lo := addr,
                                             hi := addr + len, host := some (f.val, tag.val), desc := none }] ∧
       ∀ e ∈ t.tu.look, e.host = true → (e.cab, e.ctx) ∈ s.ctxsOfFunc f.val (p.map (·.val)) → ¬ (overlaps e.va e.size addr len = true))) ∧
   (∀ (id : Nat) (s : State), s.serves uTu →
     (s.tu.withdraws.find? (fun w => w.id == id) = none → Idles (.withdrawalComplete id) s) ∧
     ∀ w, s.tu.withdraws.find? (fun w => w.id == id) = some w →
       let earlier := ∃ v ∈ s.tu.withdraws, v.id < id ∧ v.host ≠ none ∧ v.host.map (·.1) = w.host.map (·.1)
       let killing := ∃ c ∈ w.ctxs, ∃ x ∈ s.ts.cmds, x.cab = c.1 ∧ x.ctx = c.2 ∧ ∃ l, x.phase = .killing l
       (earlier ∨ killing → Idles (.withdrawalComplete id) s) ∧
       (¬ earlier → ¬ killing → Answers (.withdrawalComplete id) s fun t =>
         t.reg rTuSeq = BitVec.ofNat 64 (((s.reg rTuSeq).toNat + 1) % 2 ^ 48) ∧
         (∀ v ∈ t.tu.withdraws, v.id ≠ id) ∧ (∀ f g, w.host = some (f, g) → t.out = .invalidated f g :: s.out))))

/-- COMMIT_BY_REMAP of a command whose run has ended fills its shadows, passes the sequence point once, makes every shadow
current, and ends the command DONE; a fill that fails discards them and ends it with the failure. (After R138 to R140, R146.)
A shadow that becomes current is where its home's bytes are read from then on; a home used as its own shadow is simply at home
again. (After R137, R139.) -/
def Obligations.CommittedShadowsBecomeCurrent : Prop :=
  (∀ (n : CabId) (k : Nat) (s : State), s.serves uTu →
     (∀ c, s.cmd n.val k = some c → c.phase ≠ .committing → Idles (.commitByRemap n k) s) ∧
     (s.cmd n.val k = none → Idles (.commitByRemap n k) s) ∧
     ∀ c, s.cmd n.val k = some c → c.phase = .committing →
       let who : Who := { m := .cab c.cab, unit := uTu, ctx := some c.ctx }
       let o := Owner.cmd c.cab c.n
       (∀ v, State.fillAll who (s.shadowsOf o) s = (.ok (), v) →
         let t := ((s.shadowsOf o).foldl State.makeCurrent v.passSeq).endHold o
         exec (.commitByRemap n k) s = .next ((({ t with tu := { t.tu with commits := t.tu.commits + 1 } }).endCmd c stDone none).noteActivity
           c.cab c.ctx)) ∧
       (∀ v st u, State.fillAll who (s.shadowsOf o) s = (.bad st u, v) →
         exec (.commitByRemap n k) s = .next (((v.discardShadows o).endCmd c st (some u)).noteActivity c.cab c.ctx))) ∧
  (∀ (s : State) (h x : Nat) (o : Owner) (p : Nat), (s.gran h).shadow = some (o, x) → p / 8192 = h →
     (s.makeCurrent h).locate p = x * 8192 + p % 8192)

/-- A stalled write goes on once a granule is FREE and no re-placement holds the cabinet; otherwise it stays. SHADOW_WAIT_EXPIRY
of a cabinet with no write past its limit does nothing; with one, and only tile commands or only dispatch commands holding
shadows, it kills the holder that started latest until as many pool granules as it held are free. (After R142.) SETTLE_GRANULE
of a current granule that no shadow holds, which is the oldest of a settling job or of the low threshold, copies it home; done,
its entry is gone, the sequence point is passed and the job goes on. A granule whose turn it is not stays; held commands whose
wait is over enter the order afresh (R188). (After R143.) The granule taken is the lowest FREE one (log 44). -/
def Obligations.ShadowStallsAndSettling : Prop :=
  ((∀ (id : Nat) (s : State) (r : Req), s.serves uTu → s.tu.reqs.find? (fun r => r.id == id) = some r →
     (r.phase ≠ .shadow ∨ s.freeFor r = 0 ∨ r.cab ∈ s.tu.frozen → Idles (.shadowStallResume id) s) ∧
     (r.phase = .shadow → 0 < s.freeFor r → r.cab ∉ s.tu.frozen →
       exec (.shadowStallResume id) s = .next (releaseReq r s))) ∧
   (∀ (n : CabId) (s : State), s.serves uTu →
     let limit := max 1 (s.rfld rTuCfg 31 16) * 1000
     let late := ∃ r ∈ s.tu.reqs, r.cab = n.val ∧ r.phase = .shadow ∧ r.since + limit ≤ s.mono
     (¬ late ∨ n.val ∈ s.tu.frozen → Idles (.shadowWaitExpiry n) s) ∧
     (late → n.val ∉ s.tu.frozen → s.dceHolders n.val = [] → s.shadowHolders n.val ≠ [] →
       ∃ c ∈ s.shadowHolders n.val, (∀ d ∈ s.shadowHolders n.val, d.start ≤ c.start) ∧
         Answers (.shadowWaitExpiry n) s fun t =>
           let u := (s.killCmd n.val c.n 3 [.granules (s.poolShadows (.cmd n.val c.n))]).bump (rTuCstat n.val) 31 16
           t = { u with tu := { u.tu with reqs := updWhere (fun r => r.cab == n.val && r.phase == .shadow)
                                           (fun r => { r with since := u.mono }) u.tu.reqs } }) ∧
     (late → n.val ∉ s.tu.frozen → s.dceHolders n.val ≠ [] → s.shadowHolders n.val = [] →
       ∃ c ∈ s.dceHolders n.val, (∀ d ∈ s.dceHolders n.val, d.start ≤ c.start) ∧
         Answers (.shadowWaitExpiry n) s fun t =>
           let u := (s.killDce c 3 [.granules (s.poolShadows c.owner)]).bump (rTuCstat n.val) 31 16
           t = { u with tu := { u.tu with reqs := updWhere (fun r => r.cab == n.val && r.phase == .shadow)
                                           (fun r => { r with since := u.mono }) u.tu.reqs } }))) ∧
  (∀ (n : CabId) (h : Nat) (s : State), s.serves uTu →
     let inJob := ∃ j ∈ s.tu.settles, j.cab = n.val ∧ s.jobTakes h j = true
     let low := s.settleLow n.val = true ∧ s.oldestCurrent n.val = some h
     (¬ inJob → ¬ low → exec (.settleGranule n h) s = .next (s.renewWaits n.val)) ∧
     (∀ c v, inJob ∨ low → s.homeOf n.val h = true → (s.gran h).cur = some c → (s.gran h).shadow = none →
       s.copyHome { m := .cab n.val, unit := uTu } h c = (.ok (), v) →
       exec (.settleGranule n h) s = .next (let u := ((v.setGran h {}).passSeq).bump (rTuCstat n.val) 15 0
         (endJobs { u with tu := { u.tu with
           settles := u.tu.settles.map (fun j => if j.cab == n.val then jobAfter h (.ok ()) j else j) } }).renewWaits n.val)) ∧
     (∀ c v st u, inJob ∨ low → s.homeOf n.val h = true → (s.gran h).cur = some c → (s.gran h).shadow = none →
       s.copyHome { m := .cab n.val, unit := uTu } h c = (.bad st u, v) →
       Answers (.settleGranule n h) s fun t => t.gran h = { s.gran h with failed := true }))

/-- The ADVICE of an issued ADVISE. WILLNEED translates its range from where it last waited and is DONE, ends with the status
of a page that fails, or waits; DONTNEED drops the cached translations of its range and is DONE; SETTLE is DONE with no
current granule in its range and otherwise settles those, ends with the status of a walk that fails, and waits while no walk
slot is free; INVALIDATE of no bytes is DONE and otherwise withdraws the range. (After R118, R123, R150, R151.) How a leaf
group is cached, walks inside one command and the share of WILLNEED are read in log 41, 42, 162 and 165. -/
def Obligations.AdviceActsOnItsRange : Prop :=
  ∀ (n : CabId) (d : DrawerId) (q : Seq) (s v : State) (f : Flight), s.serves uTu →
    let r := adviseRange s f
    let lo := leAt f.body 8 8
    (s.advise n.val d.val q.val 1 = some f →
      let pages := pagesFrom (adviseAsker f) r.1 r.2 (r.2 / 65536 + 2) f.prog s
      (∀ k, pages = ((.ok (), k), v) →
        exec (.adviseWillneed n d q) s = .next (v.endFlight f.cab f.drawer f.seq { status := stDone })) ∧
      (∀ k, pages = ((.wait, k), v) →
        exec (.adviseWillneed n d q) s = .next (v.updFlight f.cab f.drawer f.seq fun x => { x with prog := k })) ∧
      (∀ k st u, pages = ((.bad st u, k), v) →
        exec (.adviseWillneed n d q) s = .next (v.endFlight f.cab f.drawer f.seq { status := st, unit := some u }))) ∧
    (s.advise n.val d.val q.val 2 = some f → exec (.adviseDontneed n d q) s = .next
      ((s.dropLook f.cab f.ctx r.1 (r.1 + r.2)).endFlight f.cab f.drawer f.seq { status := stDone })) ∧
    (s.advise n.val d.val q.val 3 = some f →
      let reached := reachedGrans f.cab f.ctx r.1 r.2 ((r.1 % 65536 + r.2 + 65535) / 65536) (r.1 / 65536 * 65536) s
      (s.walkRoom f.cab = false → Idles (.adviseSettle n d q) s) ∧
      (∀ st u, s.walkRoom f.cab = true → reached = (.bad st u, v) →
        exec (.adviseSettle n d q) s = .next (v.endFlight f.cab f.drawer f.seq { status := st, unit := some u })) ∧
      (∀ hs, s.walkRoom f.cab = true → reached = (.ok hs, v) →
        let gs := hs.filter (fun h => (v.gran h).cur.isSome)
        (gs = [] → exec (.adviseSettle n d q) s = .next (v.endFlight f.cab f.drawer f.seq { status := stDone })) ∧
        (gs ≠ [] → Answers (.adviseSettle n d q) s fun t => t.tu.settles = v.tu.settles ++
          [{ desc := some (f.cab, f.drawer, f.seq), cab := f.cab, grans := gs, bad := none }]))) ∧
    (s.advise n.val d.val q.val 4 = some f →
      (f.count = 0 → exec (.adviseInvalidate n d q) s = .next (s.endFlight f.cab f.drawer f.seq { status := stDone })) ∧
      (f.count ≠ 0 → leAt f.body 5 1 = 0 → exec (.adviseInvalidate n d q) s = .next
        ((s.startFlight f).withdraw [(f.cab, f.ctx)] lo (lo + f.count) none (some (f.cab, f.drawer, f.seq)))) ∧
      (f.count ≠ 0 → leAt f.body 5 1 ≠ 0 → exec (.adviseInvalidate n d q) s = .next
        ((s.startFlight f).withdraw ((s.drw.ctxs.filter (fun e => e.1 / 16384 == f.cab && e.2.st != .free)).map
          (fun e => (f.cab, e.1 % 16384))) lo (lo + f.count) none (some (f.cab, f.drawer, f.seq)))))

/-- SB_ENABLE in OFF stores BUDGET and MAX_LIVE, and then the first failing check shows in CFG_ERR with the batcher OFF, or the
batcher is IDLE with EN 1; in another state it only ends DRAIN. SB_DISABLE in OFF stores the fields; otherwise it begins
DRAIN, and with no request at admission nothing else. (After R165, R179.) The checks of an enable in order: BUDGET a multiple
of 64 from 128 to 16,384; MAX_LIVE from 1 to BUDGET less 128; the area in the shelf outside the shadow reserve; the cabinet
LIVE. (After R179.) Which slots are taken is the model's choice (log 26). -/
def Obligations.TheBatcherTurnsOnAndOff : Prop :=
  (∀ (n : CabId) (v : Word) (s : State), s.mayReach (rSbCfg n.val) →
     let u := s.wakeBlock 1
     let c := u.sbc n.val
     let w := u.setReg (rSbCfg n.val) (pack [(48, fld v 62 48), (32, fld v 45 32)])
     (c.st = .off → w.sbCheck n.val ≠ 0 → exec (.sbEnable 0 n v) s = .next (w.setSbc n.val { c with err := w.sbCheck n.val })) ∧
     (c.st = .off → w.sbCheck n.val = 0 → exec (.sbEnable 0 n v) s = .next
       ((w.setRfld (rSbCfg n.val) 0 0 1).setSbc n.val { nextId := c.nextId, last := c.last, st := .idle })) ∧
     (c.st ≠ .off → exec (.sbEnable 0 n v) s = .next ((u.setRfld (rSbCfg n.val) 0 0 1).setSbc n.val { c with drain := false })) ∧
     (c.st = .off → exec (.sbDisable 0 n v) s = .next w) ∧
     (c.st ≠ .off → c.waits = [] → Answers (.sbDisable 0 n v) s fun t =>
       t.sbc n.val = { c with drain := true } ∧ t.rfld (rSbCfg n.val) 0 0 = 0)) ∧
  (∀ (s : State) (n : Nat),
     let b := s.budget n
     let m := s.maxLive n
     let area := s.inShelfFree n (s.reg (rSbArea n)).toNat (64 * m + 65536) = true
     let budget := b % 64 = 0 ∧ 128 ≤ b ∧ b ≤ 16384
     let live := 1 ≤ m ∧ m ≤ b - 128
     (¬ budget → s.sbCheck n = 1) ∧ (budget → ¬ live → s.sbCheck n = 2) ∧ (budget → live → ¬ area → s.sbCheck n = 3) ∧
     (budget → live → area → (s.cab n).st ≠ .live → s.sbCheck n = 4) ∧
     (budget → live → area → (s.cab n).st = .live → s.sbCheck n = 0))

/-- An issued REQUEST that is not already at admission ends with the status of the first sub-check that fails, becomes live
when its checks and admission pass, and waits, counted once, when only admission does not. ADMISSION_PASS admits a waiting one
once admission passes, its sub-checks run again where a group it names was created or has ended since, and otherwise leaves it
waiting. (After R158, R161, R162.) STEP_BOUNDARY in IDLE forms a step from the requests that are not torn down, or, with none
and a DRAIN asked for, turns the batcher OFF; without work, or with its cabinet going to or out of RUN, it does nothing. In
RUN it waits until every group has finished, then closes the step, and forms the next unless a quiesce request waits. In FORM
and OFF there is no boundary. (After R165, R166, R181; log 153.) BATCH_TABLES_WRITTEN in FORM writes each group's table and
starts its first layer: the batcher runs; a write that waits for a page leaves it in FORM; in another state it does nothing.
LAYER_COMMIT takes a finished layer command: a failed one fails its group, another lets the next layer be issued. (After R171,
R172.) Exact costs, the group of a switched request, the slot taken, the request area and BAD_MODEL are read in log 50, 61,
26, 144 and 145. -/
def Obligations.RequestsBoundariesAndSteps : Prop :=
  (∀ (n : CabId) (d : DrawerId) (q : Seq) (s v : State) (f : Flight), s.serves uBatcher →
     s.issuedOp n.val d.val q.val 0x03 = some f →
     let at' (w : SbWait) : Bool := w.drawer == d.val && w.seq == q.val
     ((∃ w ∈ (s.sbc n.val).waits, at' w = true) → Idles (.requestDesc n d q) s) ∧
     ((∀ w ∈ (s.sbc n.val).waits, at' w = false) →
       (∀ e, requestCheck f s = (.no e, v) → Answers (.requestDesc n d q) s fun t =>
         t.drw.flights = (v.endFlight f.cab f.drawer f.seq e).drw.flights) ∧
       (∀ news, requestCheck f s = (.ok news, v) → v.admits f = true →
         exec (.requestDesc n d q) s = .next (v.admitRequest f news) ∧
         ∃ r, ((v.admitRequest f news).sbc f.cab).reqs = (v.sbc f.cab).reqs ++ [r] ∧ r.drawer = f.drawer ∧ r.seq = f.seq ∧
           r.stage = .pending ∧ r.arrived = false) ∧
       (∀ news, requestCheck f s = (.ok news, v) → v.admits f = false → Answers (.requestDesc n d q) s fun t =>
         ∃ w ∈ (t.sbc f.cab).waits, w.drawer = f.drawer ∧ w.seq = f.seq ∧ w.news = news) ∧
       (requestCheck f s = (.wait, v) → exec (.requestDesc n d q) s = .next (s.keepStall v f.cab))) ∧
     ((∀ w ∈ (s.sbc n.val).waits, at' w = false) → Idles (.admissionPass n d q) s) ∧
     (∀ w, (s.sbc n.val).waits.find? at' = some w →
       (s.admits f = true → w.stale = false → exec (.admissionPass n d q) s = .next (s.admitRequest f w.news)) ∧
       (∀ news, s.admits f = true → w.stale = true → requestCheck f s = (.ok news, v) → v.admits f = true →
         exec (.admissionPass n d q) s = .next (v.admitRequest f news)) ∧
       (∀ e, s.admits f = true → w.stale = true → requestCheck f s = (.no e, v) → Answers (.admissionPass n d q) s fun t =>
         t.drw.flights = (v.endFlight f.cab f.drawer f.seq e).drw.flights ∧ ∀ x ∈ (t.sbc f.cab).waits, at' x = false) ∧
       (s.admits f = true → w.stale = true → requestCheck f s = (.wait, v) →
         exec (.admissionPass n d q) s = .next (s.keepStall v f.cab)) ∧
       (s.admits f = false → Idles (.admissionPass n d q) s))) ∧
  (∀ (n : CabId) (s : State), s.serves uBatcher →
     let b := s.sbc n.val
     (b.st = .off ∨ b.st = .form → Idles (.stepBoundary n) s) ∧
     let quiet := s.quiesces n.val = true ∨ (s.cab n.val).power ≠ 0
     (b.st = .idle → (b.reqs = [] ∧ b.drain = false) ∨ quiet → Idles (.stepBoundary n) s) ∧
     (b.st = .run → s.stepDone n.val b = false → Idles (.stepBoundary n) s) ∧
     (b.st = .idle → ¬ quiet → b.reqs = [] → b.drain = true → Answers (.stepBoundary n) s fun t =>
       (t.sbc n.val).st = .off ∧ (t.sbc n.val).drain = false ∧ (t.sbc n.val).groups = []) ∧
     (b.st = .idle → ¬ quiet → b.reqs ≠ [] → (∀ q ∈ b.reqs, s.reqGone n.val q = false) →
       b.fresh = false ∨ (∀ q ∈ b.reqs, q.cancel = 0) → Answers (.stepBoundary n) s fun t =>
       (t.sbc n.val).st = .form ∧ (t.sbc n.val).at_ = s.now ∧ (t.sbc n.val).window = 0 ∧
       (t.sbc n.val).reqs.map (fun q => (q.drawer, q.seq)) = b.reqs.map (fun q => (q.drawer, q.seq))) ∧
     (let x := closeStep n.val { b with groups := b.groups.map SbGroup.settled } s
      (b.st = .run → s.stepDone n.val b = true → x.1.wait = true →
        exec (.stepBoundary n) s = .next (s.keepStall x.1.s n.val)) ∧
      (b.st = .run → s.stepDone n.val b = true → x.1.wait = false → Answers (.stepBoundary n) s fun t =>
        (t.sbc n.val).step = (b.step + 1) % 2 ^ 48 ∧ (x.1.stay ≠ [] → s.quiesces n.val = true → (t.sbc n.val).st = .idle) ∧
        (x.1.stay ≠ [] → s.quiesces n.val = false → (t.sbc n.val).st = .form)))) ∧
  (∀ (n : CabId) (s v : State), s.serves uBatcher →
     let b := s.sbc n.val
     (b.st ≠ .form → Idles (.batchTablesWritten n) s) ∧
     (∀ gs, b.st = .form → writeTables n.val b.step b.at_ (s.budget n.val) b.groups s = (.ok gs, v) →
       (∀ g ∈ gs, g.run ≠ .running) → Answers (.batchTablesWritten n) s fun t =>
         (t.sbc n.val).st = .run ∧ (t.sbc n.val).groups = gs) ∧
     (∀ g, b.st = .form → writeTables n.val b.step b.at_ (s.budget n.val) b.groups s = (.ok [g], v) → g.run = .running →
       (v.ctx n.val g.ctx).st = .live → exec (.batchTablesWritten n) s = .next
         (issueLayer n.val g (v.setSbc n.val { v.sbc n.val with groups := [g], st := .run }))) ∧
     (b.st = .form → writeTables n.val b.step b.at_ (s.budget n.val) b.groups s = (.wait, v) →
       exec (.batchTablesWritten n) s = .next (s.keepStall v n.val)) ∧
     (∀ k, s.cmd n.val k = none → Idles (.layerCommit n k) s) ∧
     (∀ k c g st u, s.cmd n.val k = some c → b.groups.find? (fun g => g.cmd == some k) = some g → c.phase = .finished st u →
       (st ≠ stDone → exec (.layerCommit n k) s = .next
         ((s.dropCmd n.val k).setSbc n.val (b.updGroup { g with run := .failed st u, cmd := none }))) ∧
       (st = stDone → exec (.layerCommit n k) s = .next (issueLayer n.val
         { g with tau := g.tau + (c.endAt - c.first.getD g.since), layer := g.layer + 1, cmd := none } (s.dropCmd n.val k)))))

/-- Where the decoding requests and 64 tokens for each pending one fit the budget, a batch charges no more than the budget;
decoding requests get no chunk, and no other chunk exceeds what is left of its prompt or its group's limit. (After R169.)
Costs are compared exactly (log 50). -/
def Obligations.BatchesStayWithinTheBudget : Prop :=
  ∀ (budget : Nat) (chunkMax : SbReq → Nat) (qs : List SbReq),
    (qs.filter (fun q => q.stage == .decode)).length + 64 * (qs.filter (fun q => q.stage == .pending)).length ≤ budget →
    (∀ q ∈ qs, 64 ≤ chunkMax q ∧ chunkMax q % 64 = 0 ∧ ∀ k, chunkMax { q with chunk := k } = chunkMax q) →
    let r := formBatch budget chunkMax qs
    r.2 ≤ budget ∧ r.1.length = qs.length ∧
    (qs.filter (fun q => q.stage == .decode)).length + ((r.1.filter (fun q => q.stage != .decode)).map (fun q => up64 q.chunk)).sum ≤ r.2 ∧
    (∀ q ∈ r.1, q.stage = .decode → q.chunk = 0) ∧ (∀ q ∈ r.1, q.chunk ≤ q.left) ∧
    (∀ q ∈ r.1, q.stage ≠ .decode → q.chunk ≤ chunkMax q)

/-- MOVE of COUNT 0 is DONE at once; with a channel handle it joins that live channel's queue when it is validated, and when
issued it waits there for its turn; without one it starts on the lowest free channel, or waits for one, counted once. PREFETCH
is the same without a channel handle. (After R217, R218, R219, R221, R223.) MOVE_START starts the head of a channel's queue
once the channel is IDLE and the descriptor issued, and lets one that waits for a free channel try again; otherwise, and for a
descriptor that heads no queue and waits for no channel, nothing happens. (After R217, R221.) -/
def Obligations.MovesFindTheirChannelAndStart : Prop :=
  (∀ (n : CabId) (d : DrawerId) (q : Seq) (s : State), s.serves uDrawer →
     ∀ e ∈ [(Instr.moveDesc n d q, 0x10), (Instr.prefetchDesc n d q, 0x11)], ∀ f, s.issuedOp n.val d.val q.val e.2 = some f →
       let h := if e.2 = 0x11 ∨ f.gen = 1 then 0 else leAt f.body 24 4
       (f.count = 0 → exec e.1 s = .next (s.endFlight f.cab f.drawer f.seq { status := stDone })) ∧
       (∀ i, f.count ≠ 0 → h = 0 → s.freeChan = some i → Answers e.1 s fun t =>
         (t.chan i).cur = some (f.drawer, f.seq) ∧ (t.chan i).st = .run ∧ (t.chan i).anon = true ∧ (t.chan i).cab = f.cab ∧
         (t.chan i).count = f.count) ∧
       (f.count ≠ 0 → h = 0 → s.freeChan = none → (f.cab, f.drawer, f.seq) ∈ s.me.waits → Idles e.1 s) ∧
       (f.count ≠ 0 → h = 0 → s.freeChan = none → (f.cab, f.drawer, f.seq) ∉ s.me.waits → exec e.1 s = .next
         ((({ s with me := { s.me with waits := s.me.waits ++ [(f.cab, f.drawer, f.seq)] } }).bump (rMeCstat f.cab) 63 48).bump
           rMeGstat 47 32)) ∧
       (f.count ≠ 0 → h ≠ 0 → exec e.1 s = .next (s.startFlight f))) ∧
  (∀ (s : State) (f : Flight),
     let h := leAt f.body 24 4
     let joins := f.op = 0x10 ∧ f.gen ≠ 1 ∧ f.stage = .validated ∧ f.count ≠ 0 ∧ h ≠ 0
     (∀ i, joins → s.liveChan f.cab f.ctx h = some i →
       (s.queueMove f).me = (s.setChan i { s.chan i with queue := (s.chan i).queue ++ [(f.drawer, f.seq)] }).me) ∧
     (¬ joins ∨ s.liveChan f.cab f.ctx h = none → s.queueMove f = s)) ∧
  (∀ (n : CabId) (d : DrawerId) (q : Seq) (s : State), s.serves uDrawer →
     (s.flight n.val d.val q.val = none → Idles (.moveStart n d q) s) ∧
     ∀ f, s.flight n.val d.val q.val = some f →
       ((n.val, d.val, q.val) ∈ s.me.waits → exec (.moveStart n d q) s = .next (s.anonMove f)) ∧
       let head := s.me.chans.find? (fun e => e.2.cab == n.val && e.2.queue.head? == some (d.val, q.val))
       (head = none → (n.val, d.val, q.val) ∉ s.me.waits → Idles (.moveStart n d q) s) ∧
       ∀ i c, head = some (i, c) → (n.val, d.val, q.val) ∉ s.me.waits →
         (c.st ≠ .idle ∨ f.stage ≠ .running → Idles (.moveStart n d q) s) ∧
         (c.st = .idle → f.stage = .running → exec (.moveStart n d q) s = .next ((s.setChan i { c with queue := c.queue.tail }).loadMove i f) ∧
           (((s.setChan i { c with queue := c.queue.tail }).loadMove i f).chan i).cur = some (f.drawer, f.seq) ∧
           (((s.setChan i { c with queue := c.queue.tail }).loadMove i f).chan i).st = (if c.pause && !c.dying then .pausedReady else .run) ∧
           (((s.setChan i { c with queue := c.queue.tail }).loadMove i f).chan i).queue = c.queue.tail))

/-- SEGMENT_READ by a read engine of a running channel with a segment left, a slot for its cabinet and its grant reads that
segment, converts it, and stages it; without a slot it counts the wait, once; a read that waits keeps the engine on its
segment, and the engine goes on with that one alone; a read that fails ends the transfer with the status and the engine. A
write engine reads nothing. (After R212, R213, R225.) SEGMENT_WRITE by a write engine with its grant writes one staged segment
of a running or draining channel to its place in the destination, and frees its slot; one that waits keeps the engine on its
segment; a write that fails ends the transfer with the status and the engine. A read engine, or a segment that is not staged,
writes nothing. (After R212, R213, R224, R225.) A running transfer whose every segment is written ends: MOVE_COMPLETE and
PREFETCH_COMPLETE end the descriptor DONE, DIRECT_TRANSFER_END sets DONE; a named channel is IDLE with its registers past the
last byte. Otherwise nothing happens. CHANNEL_FREE takes a DYING channel with nothing left to FREE under its next generation,
and its destroy completes. (After R219, R220, R224, R229.) -/
def Obligations.SegmentsAreStagedAndWritten : Prop :=
  (∀ (e : EngineId) (i : ChanId) (s v : State), e.val < 64 → s.serves (uEngine e.val) →
     let c := s.chan i.val
     let k := s.nextSeg i.val
     let u := s.granted false i.val
     let none_ := s.readWaits i.val = false ∨ (i.val, e.val) ∈ s.me.avoid
     (s.jobOf e.val = none →
       (none_ → Idles (.segmentRead e i) s) ∧
       (¬ none_ → s.slotFor c.cab = false → c.short = false → exec (.segmentRead e i) s = .next
         ((s.setChan i.val { c with short := true }).bump rMeGstat 63 48)) ∧
       (¬ none_ → s.slotFor c.cab = false → c.short = true → Idles (.segmentRead e i) s) ∧
       (¬ none_ → s.slotFor c.cab = true → s.grants false i.val = false → Idles (.segmentRead e i) s) ∧
       (¬ none_ → s.slotFor c.cab = true → s.grants false i.val = true →
         (∀ bs, c.pre = false → c.sfmt = c.dfmt →
           u.chanRead c i.val e.val (c.src + k * 4096) (min 4096 (c.count - k * 4096)) = (.ok bs, v) →
           Answers (.segmentRead e i) s fun t => (t.chan i.val).staged = (v.chan i.val).staged ++ [{ k := k, bs := bs }] ∧
             t.jobOf e.val = none) ∧
         (c.pre = false → u.chanRead c i.val e.val (c.src + k * c.segSrc) (c.segLen k) = (.wait, v) →
           exec (.segmentRead e i) s = .next (v.setJob e.val i.val k)) ∧
         (∀ st x, c.pre = false → u.chanRead c i.val e.val (c.src + k * c.segSrc) (c.segLen k) = (.bad st x, v) →
           exec (.segmentRead e i) s = .next (v.moveFails i.val e.val st)) ∧
         exec (.segmentRead e i) s = .next (u.readSeg i.val e.val k))) ∧
     (∀ j m, s.jobOf e.val = some (j, m) →
       (j ≠ i.val ∨ c.st ≠ .run ∨ c.suspect = true → Idles (.segmentRead e i) s) ∧
       (j = i.val → c.st = .run → c.suspect = false → exec (.segmentRead e i) s = .next (s.readSeg i.val e.val m))) ∧
     (∀ e' : EngineId, 64 ≤ e'.val → Idles (.segmentRead e' i) s)) ∧
  (∀ (e : EngineId) (i : ChanId) (k : Nat) (s v : State), 64 ≤ e.val → s.serves (uEngine e.val) →
     let c := s.chan i.val
     let u := s.granted true i.val
     let runs := (c.st = .run ∨ c.st = .draining) ∧ c.suspect = false
     let stop := s.carried true i.val k = true ∨ (i.val, e.val) ∈ s.me.avoid ∨ (c.pre = true ∧ k ≠ c.low) ∨ s.grants true i.val = false
     ((∀ g ∈ c.staged, g.k ≠ k) → Idles (.segmentWrite e i k) s) ∧
     (s.jobOf e.val = none → ¬ runs ∨ stop → Idles (.segmentWrite e i k) s) ∧
     (∀ g, runs → s.jobOf e.val = none → ¬ stop → c.staged.find? (fun g => g.k == k) = some g →
       (u.chanWrite c i.val e.val (c.dst + k * c.segDst) g.bs = (.ok (), v) →
         Answers (.segmentWrite e i k) s fun t => (t.chan i.val).wrote = k :: (v.chan i.val).wrote ∧
           (t.chan i.val).staged = (v.chan i.val).staged.filter (fun g => g.k != k) ∧
           (t.chan i.val).bytes = min ((v.chan i.val).bytes + g.bs.length) (2 ^ 64 - 1)) ∧
       (u.chanWrite c i.val e.val (c.dst + k * c.segDst) g.bs = (.wait, v) →
         exec (.segmentWrite e i k) s = .next (v.setJob e.val i.val k)) ∧
       (∀ st x, u.chanWrite c i.val e.val (c.dst + k * c.segDst) g.bs = (.bad st x, v) →
         exec (.segmentWrite e i k) s = .next (v.moveFails i.val e.val st))) ∧
     (∀ j m, s.jobOf e.val = some (j, m) → (j ≠ i.val ∨ m ≠ k ∨ ¬ runs → Idles (.segmentWrite e i k) s) ∧
       (∀ g, j = i.val → m = k → runs → c.staged.find? (fun g => g.k == k) = some g →
         exec (.segmentWrite e i k) s = .next (s.writeSeg i.val e.val g))) ∧
     (∀ e' : EngineId, e'.val < 64 → Idles (.segmentWrite e' i k) s)) ∧
  (∀ (i : ChanId) (s : State), s.serves uDrawer →
     let c := s.chan i.val
     let ready := c.finished = true ∧ c.st = .run
     (¬ ready → Idles (.moveComplete i) s ∧ Idles (.prefetchComplete i) s ∧ Idles (.directTransferEnd i) s) ∧
     (ready → c.cur ≠ none → c.pre = false → exec (.moveComplete i) s = .next (s.endTransfer i.val { status := stDone })) ∧
     (ready → c.cur ≠ none → c.pre = true → c.drop = false →
       exec (.prefetchComplete i) s = .next (s.endTransfer i.val { status := stDone })) ∧
     (ready → c.direct = true → c.anon = false → exec (.directTransferEnd i) s = .next (s.endTransfer i.val { status := stDone }) ∧
       ((s.endTransfer i.val { status := stDone }).chan i.val).done = true) ∧
     (c.anon = false → ((s.endTransfer i.val { status := stDone }).chan i.val).st = .idle ∧
       ((s.endTransfer i.val { status := stDone }).chan i.val).src = c.srcNow ∧
       ((s.endTransfer i.val { status := stDone }).chan i.val).count = c.countNow) ∧
     (c.dying = false ∨ c.st ≠ .idle ∨ c.queue ≠ [] → Idles (.channelFree i) s) ∧
     (c.dying = true → c.st = .idle → c.queue = [] → Answers (.channelFree i) s fun t =>
       (t.chan i.val).st = .free ∧ (t.chan i.val).gen = if c.gen = 4095 then 1 else c.gen + 1))

/-- CH_CTRL of a channel that is not FREE. PAUSE 1 stops a running transfer's reads (not in DYING): it drains, and
CHANNEL_DRAINED makes it PAUSED with exact registers once every staged segment is written. PAUSE 0 lets a paused one run. A
FREE channel ignores the writes. (After R227, R228.) START on an idle named channel with an empty queue runs a direct transfer
of its registers: with COUNT 0 it is DONE at once, with a format or a count that R223 does not allow, or an address beyond
2^44 under PHYS, it ends with FORMAT. (After R227, R229.) CHANNEL_CREATE ends with DENIED at the cabinet's limit or with 64
channels free, counted; otherwise the lowest free channel is the context's, its handle is written, and the descriptor is DONE.
CHANNEL_DESTROY makes its channel DYING and waits: with ABORT it cancels what the channel does, without it the channel
finishes first; one validated before another destroy made the channel FREE is DONE. (After R218, R219; log 154.) START beyond
the address space and PAUSE of a DYING channel are read in log 52 and 55. -/
def Obligations.ChannelsAndDirectTransfers : Prop :=
  (∀ (i : ChanId) (v : Word) (s : State),
     (s.mayReach (0x600018 + i.val * 0x100) →
       let u := s.wakeBlock 1
       let c := u.chan i.val
       (c.st = .free → exec (.chPause 0 i v) s = .next u ∧ exec (.chUnpause 0 i v) s = .next u ∧ exec (.chStart 0 i v) s = .next u) ∧
       (c.st = .run → fld v 5 5 = 0 → fld v 0 0 = 0 → Answers (.chPause 0 i v) s fun t =>
         t.chan i.val = { c with pause := true, st := if c.dying then .run else .draining }) ∧
       (c.st = .paused ∨ c.st = .pausedReady ∨ c.st = .draining → c.quiet = false → fld v 5 5 = 0 → fld v 0 0 = 0 →
         Answers (.chUnpause 0 i v) s fun t => t.chan i.val = { c with pause := false, st := .run })) ∧
     (s.serves uDrawer →
       let c := s.chan i.val
       (c.st = .draining → c.staged = [] → exec (.channelDrained i) s = .next
         ((s.setChan i.val { c.rebase with st := .paused }).bump rMeGstat 31 16)) ∧
       (c.st ≠ .draining ∨ c.staged ≠ [] → Idles (.channelDrained i) s))) ∧
  (∀ (i : ChanId) (v : Word) (s : State), s.mayReach (0x600018 + i.val * 0x100) → fld v 5 5 = 0 → fld v 1 1 = 0 →
     let u := s.wakeBlock 1
     let c := u.chan i.val
     let c' : Chan := { c with dfmt := fld v 23 20, sfmt := fld v 19 16, sat := fld v 8 8 == 1, phys := fld v 4 4 == 1, pause := false }
     let bad := 11 ≤ c'.sfmt ∨ 11 ≤ c'.dfmt ∨ moveCounts c'.sfmt c'.dfmt c'.count = none ∨
       (c'.phys = true ∧ (2 ^ 44 ≤ c'.src ∨ 2 ^ 44 ≤ c'.dst))
     c.st = .idle → c.anon = false → c.dying = false → c.queue = [] →
       Answers (.chStart 0 i v) s fun t =>
         (c.count = 0 → t.chan i.val = { c' with status := stDone, done := true }) ∧
         (c.count ≠ 0 → bad → t.chan i.val = { c' with status := stFormat, done := true }) ∧
         (c.count ≠ 0 → ¬ bad → (t.chan i.val).st = .run ∧ (t.chan i.val).direct = true ∧ (t.chan i.val).src = c.src ∧
           (t.chan i.val).dst = c.dst ∧ (t.chan i.val).count = c.count)) ∧
  (∀ (n : CabId) (d : DrawerId) (q : Seq) (s v : State) (f : Flight), s.serves uDrawer →
     (s.issuedOp n.val d.val q.val 0x60 = some f →
       let named := (s.me.chans.filter (fun e => e.2.st != .free && !e.2.anon && e.2.cab == f.cab)).length
       let full := s.rfld (rMeClim f.cab) 10 0 ≤ named ∨ s.chansFree ≤ 64
       let a : Asker := { src := .drw false, unit := uDrawer, cab := f.cab, ctx := f.ctx, tag := drwKey f.cab f.drawer + 1 }
       let va := (s.obj (handleIdx (leAt f.body 0 4))).base + leAt f.body 8 8
       (full → exec (.channelCreate n d q) s = .next ((s.bump (rMeCstat f.cab) 47 32).endFlight f.cab f.drawer f.seq
         { status := stDenied, unit := some uDrawer })) ∧
       (∀ i, ¬ full → s.freeChan = some i →
         (s.takeChan i f.cab f.ctx false).vaWrite a va (toLe 8 (chanHandle (s.chan i).gen i)) = (.ok (), v) →
         exec (.channelCreate n d q) s = .next (v.endFlight f.cab f.drawer f.seq { status := stDone }))) ∧
     (s.issuedOp n.val d.val q.val 0x61 = some f →
       (s.namedChan f.cab f.ctx (leAt f.body 0 4) = none → exec (.channelDestroy n d q) s = .next
         (s.endFlight f.cab f.drawer f.seq { status := stDone })) ∧
       (∀ i, s.namedChan f.cab f.ctx (leAt f.body 0 4) = some i →
         let c := s.chan i
         ((leAt f.body 4 1).testBit 0 = true → exec (.channelDestroy n d q) s = .next
           (((s.startFlight f).setChan i { c with dying := true, destroys := c.destroys ++ [(f.drawer, f.seq)] }).abortChan i abandoned)) ∧
         ((leAt f.body 4 1).testBit 0 = false → exec (.channelDestroy n d q) s = .next
           ((s.startFlight f).setChan i { c with dying := true, destroys := c.destroys ++ [(f.drawer, f.seq)], pause := false,
                                                 st := if (c.st == .draining || c.st == .paused || c.st == .pausedReady) && !c.quiet then .run
                                                   else c.st })))))

/-- LAND of a bound group, or one whose granules the cabinet cannot reserve, ends DENIED; another binds the landing with its
reservation and ends DONE. UNLAND of a group not bound for its context, or unbinding already, ends DENIED; another begins the
unbinding. (After R244, R246.) A ROUTE whose home table does not fit its object ends with BOUND; an admitted one that is ready
reads its logits and rows, writes the routing records, and sends one set to each rank under a new EPOCH. A RETURN whose checks
fail ends with the failing check's status; an admitted one reads the step's slices and sends one set to each rank. Neither
starts while 4,096 committing commands run. (After R145, R247, R250 to R253, R257.) What counts as an item and the ticket of a
failed ROUTE are read in log 56 and 59. -/
def Obligations.LandingsRoutesAndReturns : Prop :=
  (∀ (n : CabId) (d : DrawerId) (q : Seq) (s : State), s.serves uDce →
     (∀ f, s.dispatch n.val d.val q.val 2 = some f →
       let l := landingOf s f
       let need := touched l.base (l.nparts * l.partBytes)
       (s.landing f.cab l.group ≠ none → exec (.dispatchLand n d q) s = .next (s.endFlight f.cab f.drawer f.seq dceDenied)) ∧
       (s.landing f.cab l.group = none → s.reserve f.cab need = none →
         exec (.dispatchLand n d q) s = .next (s.endFlight f.cab f.drawer f.seq dceDenied)) ∧
       (∀ u, s.landing f.cab l.group = none → s.reserve f.cab need = some u →
         exec (.dispatchLand n d q) s = .next
           (({ u with dce := { u.dce with landings := u.dce.landings ++ [{ l with resv := need }] } } : State).endFlight
             f.cab f.drawer f.seq { status := stDone }))) ∧
     (∀ f, s.dispatch n.val d.val q.val 3 = some f →
       (s.landing f.cab (leAt f.body 1 1 % 16) = none →
         exec (.dispatchUnland n d q) s = .next (s.endFlight f.cab f.drawer f.seq dceDenied)) ∧
       (∀ l, s.landing f.cab (leAt f.body 1 1 % 16) = some l →
         (l.ctx ≠ f.ctx ∨ l.unland = true → exec (.dispatchUnland n d q) s = .next (s.endFlight f.cab f.drawer f.seq dceDenied)) ∧
         (l.ctx = f.ctx → l.unland = false →
           exec (.dispatchUnland n d q) s = .next ((s.startFlight f).unbind { l with desc := some (f.drawer, f.seq) })))) ∧
     (s.dispatch n.val d.val q.val 2 = none → Idles (.dispatchLand n d q) s) ∧
     (s.dispatch n.val d.val q.val 3 = none → Idles (.dispatchUnland n d q) s)) ∧
  (∀ (n : CabId) (d : DrawerId) (q : Seq) (s : State), s.serves uDce →
     (∀ f, s.dispatch n.val d.val q.val 0 = some f → s.dceCmd n.val d.val q.val = none →
       (s.endFlight f.cab f.drawer f.seq { status := stBound, unit := some uDce }).dceCmd n.val d.val q.val = none →
       (s.obj (handleIdx (leAt f.body 4 4))).len < 64 →
       exec (.dispatchRoute n d q) s = .next (s.endFlight f.cab f.drawer f.seq { status := stBound, unit := some uDce })) ∧
     (∀ c f u v w lg xs, s.dispatch n.val d.val q.val 0 = none → s.dceCmd n.val d.val q.val = some c →
       s.flight n.val d.val q.val = some f → c.kind = .route → s.routeReady c = true →
       let xb := rowBytes (routeX f) (routeH f)
       let ls := logitStride f (homeExperts c.homes)
       let r := s.updDce c (fun x => { x with started := true })
       r.vaRead c.asker (r.extVa f 12) (routeRows f * ls) = (.ok lg, u) →
       u.vaRead c.asker (u.extVa f 0) (routeRows f * up64 xb) = (.ok xs, v) →
       let placed := assignRows (homeCap c.homes) [] ((rowsOf (routeRows f) ls ls lg).map (fun b =>
         routeRow (v.slot (c.slot.getD 0)).bytes (routeK f) ((leAt f.body 3 1).testBit 0) (validLogits f c.homes b)))
       let sets := c.peers.zipIdx.map (fun e => (e.1, setTo c.homes e.2 placed (rowsOf (routeRows f) (up64 xb) xb xs)))
       v.dceWrite { c with started := true } (v.extVa f 24) (placed.flatMap (fun p => routingRecord (routeK f) p.1 p.2)) = (.ok, w) →
       exec (.dispatchRoute n d q) s = .next
         ((((w.bump (rDceCstat c.cab) 63 48 (placed.map (fun p => (p.2.filter (fun x => x.flags == 2)).length)).sum).bump
           (rDceCstat c.cab) 47 32 (placed.filter (fun p => p.1 == 1 || p.1 == 4)).length).updTicket c.cab c.ticket
             (fun t => { t with sent := sets.map (fun x => x.2.length) })).startSets { c with started := true } sets
           { step := leAt f.body 8 8, count := 0, xb := xb, cap := homeCap c.homes, rank := routeRank f, ret := false })) ∧
     (∀ c f, s.dispatch n.val d.val q.val 0 = none → s.dceCmd n.val d.val q.val = some c → s.flight n.val d.val q.val = some f →
       s.routeReady c = false → Idles (.dispatchRoute n d q) s) ∧
     (∀ f e, s.dispatch n.val d.val q.val 1 = some f → returnCheck f s = some e →
       exec (.dispatchReturn n d q) s = .next (s.endFlight f.cab f.drawer f.seq e)) ∧
     (∀ c f l sets u, s.dispatch n.val d.val q.val 1 = none → s.dceCmd n.val d.val q.val = some c →
       s.flight n.val d.val q.val = some f → c.kind = .ret → c.phase = .queued → s.dceHeld c = false → s.dceMayStart c = true →
       s.landing f.cab (leAt f.body 1 1 % 16) = some l →
       readRanks c.asker l (retStep f) (retBytes f) ((s.obj (handleIdx (leAt f.body 4 4))).base + leAt f.body 32 8)
         (List.range l.ranks) (s.updDce c (fun x => { x with started := true })) = (.ok sets, u) →
       exec (.dispatchReturn n d q) s = .next (u.startSets { c with started := true } sets
         { step := retStep f, count := 0, xb := retBytes f, cap := l.cap, rank := 0, ret := true })) ∧
     (∀ c f, s.dispatch n.val d.val q.val 1 = none → s.dceCmd n.val d.val q.val = some c → s.flight n.val d.val q.val = some f →
       c.phase ≠ .queued ∨ s.dceHeld c = true ∨ s.dceMayStart c = false → Idles (.dispatchReturn n d q) s))

/-- A SET or SEAL packet joins the set of its sender, ticket and EPOCH, or begins one, and the set stages once all has
arrived; one of an older EPOCH is counted late. COMMIT marks a staged set, DISCARD discards one without COMMIT. A marked set
becomes current when CONSUMED allows its step. (After R245, R253, R254, R256.) The replies to a sender's sets. STAGED of the
last rank passes the sequence point and sends COMMIT to every rank; COMMITTED of the last ends the command DONE; REFUSED ends
it with the reply's status; DISCARDED kills it; a reply no command awaits is counted. (After R253, R254, R256, R265.) The
landings a set counts at are read in log 22, which EPOCHs are late in log 148, where a CAB that does not match is found in log
149; payloads stand unmixed (log 21). -/
def Obligations.SetsAndReplies : Prop :=
  ((∀ (port : Option PortId) (p : Packet) (n : Nat) (s u : State), s.hears port p n u →
     ∀ e ∈ [(ptSet, Instr.setPacket port p), (ptSeal, Instr.sealPacket port p)], p.ty = e.1 →
       let join (i : InSet) : InSet := if p.ty = ptSet then { i with parts := i.parts ++ [setPart p] } else { i with fin := some (sealInfo p) }
       (∀ i, u.setOf n p = some i → exec e.2 s = .next (stageSet (join i) (u.updSet (join i)))) ∧
       (u.setOf n p = none → u.lateSet n p = true → exec e.2 s = .next (u.bump rDceGstat 63 48)) ∧
       (u.setOf n p = none → u.lateSet n p = false →
         let i := join { id := u.dce.nextSet, cab := n, job := p.job, g := p.g, node := p.src, scab := p.srcCab, epoch := p.epoch,
                         ticket := p.arg1 }
         exec e.2 s = .next (stageSet i { u with dce := { u.dce with nextSet := u.dce.nextSet + 1, sets := u.dce.sets ++ [i] } }))) ∧
   (∀ (port : Option PortId) (p : Packet) (n : Nat) (s u : State), s.hears port p n u → p.ty = ptCommit →
     (∀ i, u.setOf n p = some i → i.staged = true → exec (.commitPacket port p) s = .next (u.updSet { i with commit := true })) ∧
     (∀ i, u.setOf n p = some i → i.staged = false → exec (.commitPacket port p) s = .next u) ∧
     (u.setOf n p = none → exec (.commitPacket port p) s = .next (u.bump rDceGstat 63 48))) ∧
   (∀ (port : Option PortId) (p : Packet) (n : Nat) (s u : State), s.hears port p n u → p.ty = ptDiscard →
     (∀ i, u.setOf n p = some i → i.commit = true → exec (.discardPacket port p) s = .next u) ∧
     (∀ i, u.setOf n p = some i → i.commit = false → exec (.discardPacket port p) s = .next
       ((u.discardSet i).endEpoch n p.src p.srcCab p.epoch)) ∧
     (u.setOf n p = none → u.lateSet n p = true → exec (.discardPacket port p) s = .next (u.bump rDceGstat 63 48)) ∧
     (u.setOf n p = none → u.lateSet n p = false → exec (.discardPacket port p) s = .next (u.endEpoch n p.src p.srcCab p.epoch))) ∧
   (∀ (n : CabId) (id : Nat) (s : State), s.serves uDce → (∀ l ∈ s.dce.landings, l.cab ≠ n.val) →
     ∀ i f, s.inSet n.val id = some i → i.fin = some f →
       (i.staged = false → exec (.landingCommit n id) s = .next (stageSet i s)) ∧
       (i.staged = true → i.commit = false → Idles (.landingCommit n id) s) ∧
       (i.staged = true → i.commit = true → f.ret = true → exec (.landingCommit n id) s = .next (commitSet i f s)))) ∧
  (∀ (port : Option PortId) (p : Packet) (n : Nat) (s u : State), s.hears port p n u → p.ty = ptSetrsp →
     ∀ e ∈ [(1, Instr.setrspStaged port p), (2, Instr.setrspCommitted port p), (3, Instr.setrspRefused port p),
            (4, Instr.setrspDiscarded port p)], p.arg0 % 256 = e.1 →
       (u.answeredBy n p = none → exec e.2 s = .next (u.bump rDceGstat 63 48)) ∧
       (∀ c, u.answeredBy n p = some (c, none) → exec e.2 s = .next (u.refused c none stDenied)) ∧
       (∀ c r, u.answeredBy n p = some (c, some r) →
         (e.1 = 1 → c.phase = .staging → r ∉ c.staged →
           let c' := { c with staged := r :: c.staged }
           exec e.2 s = .next (if c.staged.length + 1 = c.peers.length then (u.updDce c' (fun _ => c')).allStaged c'
             else u.updDce c' (fun _ => c'))) ∧
         (e.1 = 2 → c.phase = .committing → r ∉ c.committed →
           let c' := { c with committed := r :: c.committed }
           exec e.2 s = .next (if c.committed.length + 1 = c.peers.length then (u.updDce c' (fun _ => c')).endDce c' { status := stDone }
             else u.updDce c' (fun _ => c'))) ∧
         (e.1 = 3 → exec e.2 s = .next (u.refused c (some r) p.status)) ∧
         (e.1 = 4 → exec e.2 s = .next (u.killDce c 8))))

/-- A COMBINE whose checks fail ends with the failing check's status, one on an aborted ticket closes it with ABORTED_PEER,
another gathers until its deadline, once fewer than 4,096 committing commands run. Once every rank has returned it reads the
records and the returned rows, writes its rows and commits. A command past its deadline (a COMBINE: while a rank is missing)
ends with TIMEOUT, and discards its sets. (After R259, R260, R263.) The ticket of a failed ROUTE is read in log 59. -/
def Obligations.CombinesGatherAndTimeOut : Prop :=
  ∀ (n : CabId) (d : DrawerId) (q : Seq) (s : State), s.serves uDce →
    (∀ f, s.issuedOp n.val d.val q.val 0x21 = some f →
      (∀ e, combineCheck f s = some e → exec (.combineDesc n d q) s = .next (s.endFlight f.cab f.drawer f.seq e)) ∧
      (∀ t, combineCheck f s = none → s.ticket f.cab (combineTicket f) = some t →
        (t.aborted = true → exec (.combineDesc n d q) s = .next
          ((s.closeTicket f.cab (combineTicket f)).endFlight f.cab f.drawer f.seq { status := stAbortedPeer, unit := some uDce })) ∧
        (t.aborted = false → Answers (.combineDesc n d q) s fun r => r.dce.cmds = s.dce.cmds ++
          [{ cab := f.cab, drawer := f.drawer, seq := f.seq, ctx := f.ctx, kind := .combine, direct := s.runsDirect f,
             ticket := combineTicket f, phase := if s.runsDirect f || s.mayCommit then .gathering else .queued,
             deadline := s.mono + s.peerNs, start := s.mono, outs := combineOuts s f t }]))) ∧
    (∀ c f t, s.dceCmd n.val d.val q.val = some c → s.flight n.val d.val q.val = some f → c.kind = .combine → c.phase = .queued →
      s.ticket n.val c.ticket = some t →
      (s.dceHeld c = true ∨ s.dceMayStart c = false → Idles (.combineCompute n d q) s) ∧
      (s.dceHeld c = false → s.dceMayStart c = true → exec (.combineCompute n d q) s = .next
        (s.updDce c (fun x => { x with phase := .gathering, deadline := s.mono + s.peerNs, start := s.mono })))) ∧
    (∀ c f t recs area u v w z, s.dceCmd n.val d.val q.val = some c → s.flight n.val d.val q.val = some f → c.kind = .combine →
      c.phase = .gathering → s.ticket n.val c.ticket = some t → s.dceHeld c = false → t.returned.length = t.ranks.length →
      s.vaRead c.asker t.routVa (t.rows * (8 + 8 * t.k)) = (.ok recs, u) →
      u.vaRead c.asker t.retVa (t.rows * t.k * up64 (rowBytes t.rfmt t.h)) = (.ok area, v) →
      combineStats f = false → c.direct = false →
      let taken := (((List.range t.rows).map (fun i => leAt recs (i * (8 + 8 * t.k) + 2) 2)).sum) * rowBytes t.rfmt t.h
      let x := v.freeWord.2.carryRows c.cab t.rows taken (t.rows * combineOb f t)
      writeRows c (up64 (combineOb f t)) (combineOb f t) t.rows ((x.obj (handleIdx (leAt f.body 4 4))).base + leAt f.body 8 8)
        (combineRows f t v.freeWord.1 recs area).1 x = (.ok, w) →
      w.commitOwner c.owner { m := .cab c.cab, unit := uTu, ctx := some c.ctx } = (.ok (), z) →
      exec (.combineCompute n d q) s = .next (z.endDce c { status := stDone })) ∧
    (∀ c f t, s.dceCmd n.val d.val q.val = some c → s.flight n.val d.val q.val = some f → c.kind = .combine → c.phase ≠ .queued →
      s.ticket n.val c.ticket = some t → t.returned.length ≠ t.ranks.length → Idles (.combineCompute n d q) s) ∧
    (∀ c, s.dceCmd n.val d.val q.val = some c →
      let back := c.kind = .combine ∧ ∃ t, s.ticket n.val c.ticket = some t ∧ t.returned.length = t.ranks.length
      (c.phase = .queued ∨ s.mono < c.deadline ∨ back → Idles (.dcePeerTimeout n d q) s) ∧
      (c.phase ≠ .queued → c.deadline ≤ s.mono → ¬ back → exec (.dcePeerTimeout n d q) s = .next
        ((if c.kind = .combine then s else s.discardPeers c none).endDce c { status := stTimeout, unit := some uDce })))

/-- The issue of a TABLE_LOAD. LOAD past the quota, or with no slot FREE, and REPLACE or FREE of a slot the cabinet does not hold,
end DENIED; an image that cannot be read ends with the access's status, and a LOAD's slot returns. LOAD takes its slot to
LOADING before it reads its image, REPLACE queues behind its slot, FREE of a HELD slot with nothing before it begins FREEING.
(After R279 to R281.) The first operation of a slot is checked; a failing check is recorded with its segment and ends FORMAT;
a LOAD that passes writes its slot number and is installed; a REPLACE that passes waits in REPLACING until no reference to the
old version is left and no tile of the cabinet is busy, as a FREE waits in FREEING. (After R279 to R283.) MEAN of a row whose
steps overflow is a free value (log 23). -/
def Obligations.TablesLoadAndTableOperations : Prop :=
  (∀ (n : CabId) (d : DrawerId) (q : Seq) (s : State), s.serves uDce →
     (∀ f, s.tableFlight n.val d.val q.val 0 = some f → s.opOf f.cab f.drawer f.seq = none →
       (quotaTables (s.cab f.cab).conf ≤ s.useTables f.cab ∨ s.freeSlot = none →
         exec (.tableLoadLoad n d q) s = .next (s.tableFails f stDenied uDce)) ∧
       (∀ k, s.useTables f.cab < quotaTables (s.cab f.cab).conf → s.freeSlot = some k →
         let o : TableOp := { cab := f.cab, drawer := f.drawer, seq := f.seq, op := 0, slot := k }
         let r := s.setSlot k { s.slot k with st := .loading, cab := f.cab }
         let r : State := { r with ft := { r.ft with ops := r.ft.ops ++ [o] } }
         (r.slot k).st = .loading ∧
         (∀ st u v, r.readImage f = (.bad st u, v) → exec (.tableLoadLoad n d q) s = .next
           (((v.setSlot k { version := (v.slot k).version }).dropOp o).tableFails f st uDce)) ∧
         (∀ bs v, r.readImage f = (.ok bs, v) → exec (.tableLoadLoad n d q) s = .next
           ((v.startFlight f).setOp { o with bytes := bs })))) ∧
     (∀ f, s.tableFlight n.val d.val q.val 1 = some f →
       (s.slotTakes f.cab (leAt f.body 16 2) = false → exec (.tableLoadReplace n d q) s = .next (s.tableFails f stDenied uDce)) ∧
       (s.slotTakes f.cab (leAt f.body 16 2) = true →
         (∀ st u v, s.readImage f = (.bad st u, v) → exec (.tableLoadReplace n d q) s = .next (v.tableFails f st uDce)) ∧
         (∀ bs v, s.readImage f = (.ok bs, v) → Answers (.tableLoadReplace n d q) s fun t => t.ft.slots = v.ft.slots ∧
           t.ft.ops = v.ft.ops ++
             [{ cab := f.cab, drawer := f.drawer, seq := f.seq, op := 1, slot := leAt f.body 16 2, bytes := bs }]))) ∧
     (∀ f, s.tableFlight n.val d.val q.val 2 = some f →
       let k := leAt f.body 16 2
       (s.slotTakes f.cab k = false → exec (.tableLoadFree n d q) s = .next (s.tableFails f stDenied uDce)) ∧
       (s.slotHeld f.cab k = true → (∀ o ∈ s.ft.ops, o.slot ≠ k) → Answers (.tableLoadFree n d q) s fun t =>
         (t.slot k).st = .freeing ∧ ∃ o ∈ t.ft.ops, o.slot = k ∧ o.op = 2 ∧ o.checked = true))) ∧
  (∀ (n : CabId) (d : DrawerId) (q : Seq) (s : State), s.serves uDce →
     (∀ o f, s.opOf n.val d.val q.val = some o → s.flight n.val d.val q.val = some f → o.op ≠ 2 → o.checked = false →
       (s.opFirst o = false ∨ o.bytes = [] → Idles (.tableLoaderCheck n d q) s) ∧
       (s.opFirst o = true → o.bytes ≠ [] →
         (∀ e, loaderCheck o.bytes = some e → exec (.tableLoaderCheck n d q) s = .next (s.loaderFails o e.1 e.2)) ∧
         (∀ v, loaderCheck o.bytes = none → o.op = 0 →
           s.vaWrite (tableAsker f) ((s.obj (handleIdx (leAt f.body 20 4))).base + leAt f.body 24 8) (toLe 8 o.slot) = (.ok (), v) →
           exec (.tableLoaderCheck n d q) s = .next (v.installTable o)) ∧
         (loaderCheck o.bytes = none → o.op = 1 → s.slotHeld n.val o.slot = true →
           exec (.tableLoaderCheck n d q) s = .next ((s.setSlot o.slot { s.slot o.slot with st := .replacing }).setOp { o with checked := true })) ∧
         (loaderCheck o.bytes = none → 1 ≤ o.op → s.slotHeld n.val o.slot = false →
           exec (.tableLoaderCheck n d q) s = .next (((s.dropOp o).tableFails f stDenied uDce).nextOp o.slot)))) ∧
     (∀ o r, s.ft.ops.find? (fun x => x.slot == o.slot) = some r → o ∈ s.ft.ops → r.op = 2 → r.checked = false →
       (s.slotHeld r.cab o.slot = true → s.nextOp o.slot =
         (s.setSlot o.slot { s.slot o.slot with st := .freeing }).setOp { r with checked := true }) ∧
       (s.slotHeld r.cab o.slot = false → s.ft.ops.length = 1 → s.nextOp o.slot =
         ((s.dropOp r).bump (rFtCstat r.cab) 47 32).endFlight r.cab r.drawer r.seq dceDenied)) ∧
     (∀ o, s.opOf n.val d.val q.val = some o → s.slotQuiet o = true → o.checked = true →
       (o.op = 1 → exec (.tableReplaceComplete n d q) s = .next ((s.installTable o).nextOp o.slot)) ∧
       (o.op = 2 → exec (.tableFreeComplete n d q) s = .next
         ((((((s.withdrawSlot o.slot (s.cabTiles o.cab)).setSlot o.slot { version := (s.slot o.slot).version }).dropOp o).endFlight
           o.cab o.drawer o.seq { status := stDone }).nextOp o.slot)))) ∧
     (∀ o, s.opOf n.val d.val q.val = some o → s.slotQuiet o = false →
       Idles (.tableReplaceComplete n d q) s ∧ Idles (.tableFreeComplete n d q) s))

/-- A request beyond its master's queue limit, or outside the gate's memory, waits outside the gate; one the master does not
reach is answered DENIED, one into quarantine QUARANTINE; another joins the queue. A cycle fills its slot with the master the
arbitration picks, at most eight a cycle, and a master's run of waiting counts from the first cycle it waits in. The
controller's response completes a line; a tag not outstanding is a fault of the gate. (After R296, R297, R307, R310, R323.) A
group's re-mix, a re-key's chunk, a draw of keys and a re-initialised range take effect when they complete, and change nothing
where none is under way; MIX_REINIT checks its cabinet and its range first. (After R319, R329 to R331, R337, R338.) The gate's
cycles, the moment of a write, what a gate ignores, the caches and the node versions are read in log 100, 101, 107, 99 and 57;
MIX_REINIT in log 105. -/
def Obligations.GatesAndMixing : Prop :=
  ((∀ (g : GateId) (m : Master) (u : UnitId) (c : Option CtxId) (p len : Nat) (data : Option (List Byte)) (s : State),
     gateReqWf m p len data = true → s.coreUp = true → g.val < s.gateCount → s.resetting (uGate g.val) = false →
     s.stopServes m p data.isSome = true →
     let v := s.gate g.val
     let out := s.installed < p + len ∨ (s.gateOf (s.place m p)).1 ≠ g.val ∨
       s.rfld (rSgQlim g.val) 8 0 ≤ (v.reqs.filter (fun r => r.m.number == m.number)).length
     (out → Idles (.stackGateRequest g m u c p len data) s) ∧
     (¬ out → s.reach m p = false → exec (.stackGateRequest g m u c p len data) s = .next
       (((s.setGate g.val { v with next := (v.next + 1) % 4096 }).noteDenied g.val m data.isSome p).gateAnswer g.val v.next stDenied [])) ∧
     (∀ k, ¬ out → s.reach m p = true → m = .cab k → s.quarantined k (s.place m p) = true →
       let r := (s.setGate g.val { v with next := (v.next + 1) % 4096 }).noteFail g.val { m := m, unit := u.val, ctx := c.map (·.val) }
         (s.place m p) .quarantined
       exec (.stackGateRequest g m u c p len data) s = .next (r.2.gateAnswer g.val v.next r.1 [])) ∧
     (¬ out → s.reach m p = true → (∀ k, m = .cab k → s.quarantined k (s.place m p) = false) →
       Answers (.stackGateRequest g m u c p len data) s fun t => (t.gate g.val).next = (v.next + 1) % 4096 ∧
         (t.gate g.val).reqs = v.reqs ++ [{ tag := v.next, m := m, unit := u.val, ctx := c.map (·.val), p := p, len := len, data := data,
                                            since := s.now }])) ∧
   (∀ (g : GateId) (k : Nat) (s : State), s.coreUp = true → s.resetting (uGate g.val) = false →
     let v := s.gate g.val
     let w := v.cycle k
     let u := s.setGate g.val w
     w.cyc = k ∧ w.slots = v.slots - 8 * (k - v.cyc) ∧
     (∀ m, v.paused = false → m < 0x102 → v.waiting m ≠ [] → mapGet none m v.pace = none →
       mapGet none m w.pace = some { k0 := k, g := 0 }) ∧
     (k < v.cyc → Idles (.gateGrant g k) s) ∧
     (v.cyc ≤ k → 8 ≤ w.slots → exec (.gateGrant g k) s = .next u) ∧
     (v.cyc ≤ k → w.slots < 8 → u.gatePick g.val k = none → exec (.gateGrant g k) s = .next u) ∧
     (∀ n floor, v.cyc ≤ k → w.slots < 8 → u.gatePick g.val k = some (n, floor) →
       exec (.gateGrant g k) s = .next (u.gateGrant g.val n floor))) ∧
   (∀ (g : GateId) (tag : Fin 4096) (err : MemErr) (s : State), s.coreUp = true → g.val < s.gateCount →
     let found := (s.gate g.val).reqs.find? (fun r => r.sent && r.tag == tag.val && r.held.isNone)
     (found = none → exec (.stackGateResponse g tag err) s = .next (s.faultOn (uGate g.val) 6 none)) ∧
     (∀ r, found = some r → s.ou.unitsStopped = false → exec (.stackGateResponse g tag err) s = .next (s.gateComplete g.val r err))) ∧
   (∀ (l : List Nat) (s : State), s.coreUp = true →
     (s.now / 1000 * 1000 ≤ s.urg.interval → Idles (.floorIntervalEnd l) s) ∧
     (s.urg.interval < s.now / 1000 * 1000 → Answers (.floorIntervalEnd l) s fun t =>
       t.urg.interval = s.now / 1000 * 1000 ∧ t.fr.tx = [] ∧ t.fr.pace = []))) ∧
  (∀ (s : State),
     (s.frozen = false →
       (∀ grp, grp ∈ s.mix.remix → Answers (.groupRemixComplete grp) s fun t => grp ∉ t.mix.remix ∧
         mapGet 0 grp t.mix.major = mapGet 0 grp s.mix.major + 1) ∧
       (∀ grp, grp ∉ s.mix.remix → Idles (.groupRemixComplete grp) s) ∧
       (∀ n : CabId, mapGet none n.val s.mix.rekey = none → Idles (.rekeyChunkConverted n) s) ∧
       (∀ (n : CabId) r, mapGet none n.val s.mix.rekey = some r → Answers (.rekeyChunkConverted n) s fun t =>
         mapGet none n.val t.mix.rekey = if (s.cab n.val).conf.size ≤ r.wm + 65536 then none else some { r with wm := r.wm + 65536 }) ∧
       (s.mix.reinit = none → Idles .mixReinitComplete s) ∧
       (∀ n a l, s.mix.reinit = some (n, a, l) → Answers .mixReinitComplete s fun t => t.mix.reinit = none ∧
         t.rfld rRiResult 63 63 = 1 ∧ t.rfld rRiResult 59 56 = 0)) ∧
     (∀ h, s.coreUp = true → Answers (.keyDraw h) s fun t => t.mix.healthy = h ∧
       (h = true → t.mix.blockKey.isSome = true) ∧ (h = false → t.mix.blockKey = s.mix.blockKey)) ∧
     (∀ u, s.takesChip 0x8D0020 rRiResult u →
       let n := u.rfld (rRiArg 0) 7 0
       let a := u.rfld (rRiArg 0) 43 13 * 8192
       let l := u.rfld (rRiArg 1) 43 13 * 8192
       let bad := (u.cab n).st ≠ .live ∨ mapGet none n u.mix.rekey ≠ none
       let out := l = 0 ∨ ∀ r ∈ (u.cab n).conf.ranges, ¬ (r.2.1 ≤ a ∧ a + l ≤ r.2.1 + r.2.2)
       (bad → exec (.mixReinit 0) s = .next (u.result rRiResult errState 0)) ∧
       (¬ bad → out → exec (.mixReinit 0) s = .next (u.result rRiResult errArg 0)) ∧
       (¬ bad → ¬ out → exec (.mixReinit 0) s = .next { u with mix := { u.mix with reinit := some (n, a, l) } })))

/-- R300: a write of SG_NCFLOOR or FR_NCFLOOR that sets a floor field above 1,024, makes its sum exceed 1,024, or (SG_NCFLOOR)
sets PLATFORM 0 is ignored whole and sets its FLOOR_REJ; any other write is stored, per gate. A cabinet's FLOOR check passes
exactly where its floors fit beside the non-cabinet floors of every gate. -/
def Obligations.FloorWritesAreCheckedWhole : Prop :=
  (∀ (g : GateId) (v : Word) (s : State), s.mayReach (rSgNcfloor g.val) → s.mayReach rFrNcfloor →
    let u := s.wakeBlock 1
    exec (.sgNcfloorWrite 0 g v) s = .next (if fld v 10 0 = 0 ∨ 1024 < fld v 10 0 ∨ 1024 < fld v 26 16 ∨
        1024 < u.memSum + fld v 10 0 + fld v 26 16 then u.setRfld (rSgStat g.val) 9 9 1
      else u.setReg (rSgNcfloor g.val) (pack [(0, fld v 10 0), (16, fld v 26 16)])) ∧
    exec (.frNcfloorWrite 0 v) s = .next (if 1024 < fld v 10 0 ∨ 1024 < u.fabSum + fld v 10 0 then u.setRfld rFrStat 2 2 1
      else u.setReg rFrNcfloor (pack [(0, fld v 10 0)])) ∧
    ∀ f : Func, f ≠ 0 → Idles (.sgNcfloorWrite f g v) s ∧ Idles (.frNcfloorWrite f v) s) ∧
  ∀ (s : State) (n : Nat) (q : CabConf),
    let mem := q.memFloor + ((s.floorCabs (some n)).map CabConf.memFloor).sum
    let fab := q.fabFloor + ((s.floorCabs (some n)).map CabConf.fabFloor).sum
    s.failsFloor n q = false ↔ q.memFloor ≤ 1024 ∧ q.fabFloor ≤ 1024 ∧ mem ≤ 1024 ∧ fab + s.rfld rFrNcfloor 10 0 ≤ 1024 ∧
      ∀ g, g < s.gateCount → mem + (s.rfld (rSgNcfloor g) 10 0 + s.rfld (rSgNcfloor g) 26 16) ≤ 1024

/-- R304: a wire in force for LIMIT_US µs, counted from the moment it came in force, without falling is treated as deasserted,
and its STUCK bit set, and stays so until it is sampled at 0; with LIMIT_US 0, before the limit, or with the wire not in
force, URGENCY_STUCK does nothing. LEVEL shows each sampled level, whether or not the wire is in force. -/
def Obligations.UrgencyWiresGetStuckAfterTheLimit : Prop :=
  ∀ (i : Fin 32) (s : State),
    (∀ b, s.coreUp = true → Answers (.urgencyWireChange i b) s fun t =>
      mapGet none i.val t.urg.since = (if b then some ((mapGet none i.val s.urg.since).getD s.mono) else none) ∧
      t.urg.dead = (if b then s.urg.dead else s.urg.dead.filter (fun j => j != i.val)) ∧
      (t.rfld rUrgStat 31 0).testBit i.val = b ∧
      mapGet none i.val t.urg.force = (if t.wireOn i.val then some ((mapGet none i.val s.urg.force).getD s.mono) else none)) ∧
    (∀ b, s.coreUp = false → Idles (.urgencyWireChange i b) s) ∧
    (s.frozen = false → mapGet none i.val s.urg.force = none → Idles (.urgencyStuck i) s) ∧
    (∀ r, s.frozen = false → mapGet none i.val s.urg.force = some r →
      let limit := s.rfld rUrgCfg 15 0
      (s.wireOn i.val = false ∨ limit = 0 ∨ s.mono < r + limit * 1000 → Idles (.urgencyStuck i) s) ∧
      (s.wireOn i.val = true → limit ≠ 0 → r + limit * 1000 ≤ s.mono → Answers (.urgencyStuck i) s fun t =>
        t.urg.dead = i.val :: s.urg.dead ∧ t.wireOn i.val = false ∧ t.rfld rUrgStat 63 32 = s.rfld rUrgStat 63 32 ||| 2 ^ i.val))

/-- Ports. FABRIC_ENABLE sets EN only with a valid NODE, and DIMS and the sizes only while EN is 0. A port that is enabled
with its link up enters DISC; one disabled goes DOWN; a loss of link, a control-word timeout and a retry limit declare
link-down, counted and recorded. (After R349 to R352, R350, R370.) A DISC records the neighbour's version, port and node; a
port in DISC checks it then and one in MISWIRED at its timer, and comes UP where the neighbour is the right one (HELD while
the Router resets); in those states a port sends its own DISC every 100 µs. (After R349, R351.) The DST of CTRL packets, what
EN gates what a port that goes DOWN does with its queue, how it leaves DOWN and what it does in a reset are read in log 74,
76, 77, 170 and 164. -/
def Obligations.PortsAndDiscovery : Prop :=
  ((∀ (v : Word) (s : State), s.mayReach rFrCfg →
     let u := s.wakeBlock 1
     let kept := if fld (u.reg rFrCfg) 8 8 = 1 then u.reg rFrCfg else v
     let w := u.setReg rFrCfg (pack [(32, fld v 47 32), (16, fld kept 31 16), (8, 0), (4, fld v 5 4), (0, fld kept 2 0)])
     exec (.fabricEnable 0 v) s = .next (if fld v 8 8 = 1 ∧ w.nodeValid w.node = true then w.setRfld rFrCfg 8 8 1 else w)) ∧
   (∀ (p : PortId) (v : Word) (s : State), s.mayReach (rPgCfg p.val) →
     let u := s.wakeBlock 1
     ((u.port p.val).st = .down → (u.port p.val).link = true → Answers (.portEnable 0 p v) s fun t =>
       (t.port p.val).st = .disc ∧ (t.port p.val).discAt = s.mono ∧ t.rfld (rPgCfg p.val) 0 0 = 1) ∧
     ((u.port p.val).st = .down → (u.port p.val).link = false → Answers (.portEnable 0 p v) s fun t =>
       t.port p.val = u.port p.val ∧ t.rfld (rPgCfg p.val) 0 0 = 1) ∧
     ((u.port p.val).st = .down → Answers (.portDisable 0 p v) s fun t =>
       t.port p.val = u.port p.val ∧ t.rfld (rPgCfg p.val) 0 0 = 0) ∧
     ((u.port p.val).st = .disc ∨ (u.port p.val).st = .miswired → (u.port p.val).queue = [] → Answers (.portDisable 0 p v) s fun t =>
       (t.port p.val).st = .down ∧ t.rfld (rPgCfg p.val) 0 0 = 0)) ∧
   (∀ (p : PortId) (s : State), s.coreUp = true →
     (∀ n : Fin 16, s.tie.ports.testBit p.val = true → n.val ∈ [8, 4, 2] → (s.port p.val).st = .down →
       Answers (.linkUp p n) s fun t => (t.port p.val).link = true ∧ (t.port p.val).lanes = n.val ∧
         (t.port p.val).st = (if s.portEn p.val then .disc else .down)) ∧
     (∀ n : Fin 16, s.tie.ports.testBit p.val = false ∨ n.val ∉ [8, 4, 2] → Idles (.linkUp p n) s) ∧
     Answers (.phyLossOfLink p) s (fun t => (t.port p.val).link = false ∧ (t.port p.val).lanes = 0) ∧
     ((s.port p.val).st = .down → ∀ i ∈ [Instr.controlWordTimeout p, .flitRetryLimit p], Idles i s) ∧
     ((s.port p.val).st ≠ .down → ∀ i ∈ [Instr.controlWordTimeout p, .flitRetryLimit p], exec i s = .next
       (((s.portDown p.val).bump (rPgCnt p.val) 31 16).faultEvent
         { unit := uPort p.val, cls := 0x07, detail := (((s.portDown p.val).bump (rPgCnt p.val) 31 16).port p.val).node })) ∧
     ((s.port p.val).st ≠ .down → s.resetting (uPort p.val) = false →
       exec (.flitCrcError p none) s = .next (s.bump (rPgCnt p.val) 47 32) ∧
       ∀ n, exec (.flitCrcError p (some n)) s = .next (s.bump (rPgCnt p.val) 63 48 (n + 1))))) ∧
  (∀ (p : PortId) (s : State), s.coreUp = true → s.resetting (uPort p.val) = false →
     (∀ k : Packet, k.ty = ptDisc → (s.port p.val).st ≠ .down →
       let u := s.setPort p.val { s.port p.val with nver := leAt k.payload 0 1, nport := leAt k.payload 1 1, node := leAt k.payload 2 2 }
       ((s.port p.val).st = .disc → exec (.discPacket (some p) k) s = .next (u.checkPort p.val)) ∧
       ((s.port p.val).st ∈ [PortState.miswired, .up, .held] → exec (.discPacket (some p) k) s = .next u)) ∧
     (∀ k : Packet, (s.port p.val).st = .down ∨ k.ty ≠ ptDisc → Idles (.discPacket (some p) k) s) ∧
     ((s.port p.val).discAt ≤ s.mono →
       ((s.port p.val).st = .disc → exec (.discTimer p) s = .next (s.sendDisc p.val)) ∧
       ((s.port p.val).st = .miswired → exec (.discTimer p) s = .next ((s.sendDisc p.val).checkPort p.val)) ∧
       ((s.port p.val).st ∈ [PortState.up, .held, .down] → Idles (.discTimer p) s)) ∧
     (s.mono < (s.port p.val).discAt → Idles (.discTimer p) s)) ∧
  (∀ (p : Nat) (s : State), s.nodeValid s.node = true → s.nodeValid (s.port p).node = true →
    let ver := min (s.rfld (rPgCfg p) 11 8) (s.port p).nver
    (s.neighbourOk p = false → s.checkPort p = s.setPort p { s.port p with st := .miswired, ver := 0 }) ∧
    (s.neighbourOk p = true → s.resetting uRouter = true →
      s.checkPort p = s.setPort p { s.port p with st := .held, ver := ver }) ∧
    (s.neighbourOk p = true → s.resetting uRouter = false →
      s.checkPort p = (s.setPort p { s.port p with st := .up, ver := ver }).flushPort p))

/-- A packet for another chip takes the route the fabric gives it: out of a port, dropped after 15 hops and counted, or dropped
for want of a route with an UNREACH to the requester. An UNREACH for this chip ends what waits on the chip it names. (After
R353, R355.) An ABORT whose triple was seen within 1 ms is dropped; a new one is kept, acts on the cabinet that holds its tag,
counted, and goes out of every other UP port. Triples older than 1 ms leave the cache. (After R361 to R363.) A MARKER on an
idle chip starts the stop it names; the stop under way closes the port's ledger; another stop's is counted. A LEDGER's figures
are kept at its port. (After R364, R365, R461.) The originating chip's own abort, UNREACH, a MARKER that meets an armed stop
and the hop limit are read in log 51, 78, 81 and 82; packets held over a port's reset in log 173. -/
def Obligations.TransitAbortsAndMarkers : Prop :=
  (∀ (p : PortId) (k : Packet) (s : State), s.resetting uRouter = false → (s.port p.val).st = .up → s.portsStopped = false →
     let cab (x : State) (k : Packet) : Option Nat := if k.job = 0 then none else x.jobCab k.job
     let u := s.carry (uPort p.val) (cab s k) k.size
     let l := u.bump rFrCnt 63 48
     (linkLocal k = false → k.dst ≠ s.node →
       (∀ q j d, u.routeOf k = .via q j d → exec (.fabricTransit (some p) k) s = .next
         (((if d then u.bump rFrCnt2 47 32 else u).carry uRouter (cab u j) j.size).portSend q j)) ∧
       (u.routeOf k = .hopDrop → exec (.fabricTransit (some p) k) s = .next (u.bump rFrCnt 31 16)) ∧
       (u.routeOf k = .lost → k.req = false → exec (.fabricTransit (some p) k) s = .next l) ∧
       (∀ q j d, u.routeOf k = .lost → k.req = true → l.routeOf (unreachOf l.node k) = .via q j d →
         exec (.fabricTransit (some p) k) s = .next (l.portSend q j))) ∧
     (linkLocal k = true ∨ k.dst = s.node → Idles (.fabricTransit (some p) k) s) ∧
     (k.ty = ptUnreach → k.dst = s.node → exec (.unreachPacket (some p) k) s = .next
       (u.endPeers (some (leAt k.payload (if k.v2 then 8 else 10) 2)) (fun n => n == leAt k.payload 4 2)))) ∧
  ((∀ (q : PortId) (p : Packet) (s : State), p.ty = ptAbort → s.resetting uRouter = false → (s.port q.val).st = .up →
     s.portsStopped = false →
     let job := leAt p.payload 0 2
     let c := s.carry (uPort q.val) (if p.job = 0 then none else s.jobCab p.job) p.size
     let seen : AbortSeen := { job := job, origin := leAt p.payload 2 2, serial := leAt p.payload 4 2, time := c.mono }
     let known := ∃ a ∈ c.fr.cache, a.job = job ∧ a.origin = seen.origin ∧ a.serial = seen.serial ∧ c.mono < a.time + 1000000
     let u : State := { c with fr := { c.fr with cache := (seen :: c.fr.cache).take 1024 } }
     (known → exec (.abortPacket (some q) p) s = .next c) ∧
     (¬ known → u.jobCab job = none → exec (.abortPacket (some q) p) s = .next (u.flood p (some q.val))) ∧
     (∀ n, ¬ known → u.jobCab job = some n →
       exec (.abortPacket (some q) p) s = .next (((u.applyAbort n).bump rFrCnt 15 0).flood p (some q.val)))) ∧
   (∀ s : State, s.serves uRouter → exec .abortCacheExpiry s = .next
     { s with fr := { s.fr with cache := s.fr.cache.filter (fun a => decide (s.mono < a.time + 1000000)) } })) ∧
  (∀ (q : PortId) (k : Packet) (s : State), s.coreUp = true → (s.port q.val).st = .up →
     let id := leAt k.payload 0 2
     (k.ty = ptMarker →
       (s.ou.stop = .idle → exec (.markerPacket (some q) k) s = .next
         ((({ s with ou := { s.ou with stopId := id, t := s.now } } : State).enterStopping 2 s.now (s.now + 2000)
           true).closeLedger q.val)) ∧
       (s.ou.stop = .armed → s.ou.stopId = id → exec (.markerPacket (some q) k) s = .next
         ((s.enterStopping 2 s.now (min (s.now + 2000) s.ou.t) true).closeLedger q.val)) ∧
       (s.ou.stop = .stopping ∨ s.ou.stop = .stopped → s.ou.stopId = id →
         exec (.markerPacket (some q) k) s = .next (s.closeLedger q.val)) ∧
       (s.ou.stop ≠ .idle → s.ou.stopId ≠ id → exec (.markerPacket (some q) k) s = .next (s.bump rOuGstat 47 32))) ∧
     (k.ty = ptLedger → exec (.ledgerPacket (some q) k) s = .next
       (s.setPort q.val { s.port q.val with pstop := leAt k.payload 0 2, ppkts := leAt k.payload 4 4 })))

/-- An inbound WRITE or READ acts in its job's context and is answered with WACK or RDATA and the access's status; an address
past 57 bits is answered XLATE. (After R345, R356, R360.) A WACK or RDATA that answers no outstanding request is dropped; one
that answers a tile's request restarts its hang timer and is answered at the tile port; a status other than DONE is noted
against the command. (After R197, R345, R479.) A REMOTE SIGNAL without a valid tag ends DENIED; with one it goes to the
export's node and waits. At the far chip a signal of an export raises its fence, has its latch read the fence again, and is
acknowledged, one of no export is DENIED and counted. The SACK ends it with its status; no reply within 100 µs ends it with
TIMEOUT. (After R97, R105, R106.) Ranges beyond 57 bits, refused signals, runs of a mask, the unit of a remote error and
stalled host pages are read in log 53, 54, 62, 79 and 80. -/
def Obligations.RemoteAccessesAndSignals : Prop :=
  (∀ (port : Option PortId) (p : Packet) (n : Nat) (s u v : State), s.hears port p n u →
     let va := leAt p.payload 0 8
     let len := leAt p.payload 8 4
     let data := (p.payload.drop 16).take len
     let id := toLe 12 0 ++ toLe 4 (reqId p)
     (p.ty = ptWrite →
       (2 ^ 57 < va + data.length → exec (.writePacket port p) s = .next (u.reply n p ptWack stXlate id)) ∧
       (va + data.length ≤ 2 ^ 57 → u.vaWrite (inboundAsker n (u.jobCtx n) p true) va data = (.ok (), v) →
         exec (.writePacket port p) s = .next (v.reply n p ptWack stDone id)) ∧
       (∀ st w, va + data.length ≤ 2 ^ 57 → u.vaWrite (inboundAsker n (u.jobCtx n) p true) va data = (.bad st w, v) →
         exec (.writePacket port p) s = .next (v.reply n p ptWack st id))) ∧
     (p.ty = ptRead →
       (2 ^ 57 < va + len → exec (.readPacket port p) s = .next (u.reply n p ptRdata stXlate id)) ∧
       (∀ bs, va + len ≤ 2 ^ 57 → u.vaRead (inboundAsker n (u.jobCtx n) p false) va len = (.ok bs, v) →
         exec (.readPacket port p) s = .next (v.reply n p ptRdata stDone (id ++ bs))) ∧
       (∀ st w, va + len ≤ 2 ^ 57 → u.vaRead (inboundAsker n (u.jobCtx n) p false) va len = (.bad st w, v) →
         exec (.readPacket port p) s = .next (v.reply n p ptRdata st id)))) ∧
  (∀ (port : Option PortId) (p : Packet) (n : Nat) (s u : State), s.hears port p n u →
     (p.ty ∈ [ptWack, ptRdata] → u.repliedTo n p (reqId p) = none →
       exec (if p.ty = ptWack then .wackPacket port p else .rdataPacket port p) s = .next u) ∧
     (∀ r t tag, u.repliedTo n p (reqId p) = some r →
       (p.ty = ptWack → r.work = .write t tag → p.status = stDone → ((u.dropRemote r.id).tileMoves t).sameWrite r = [] →
         exec (.wackPacket port p) s = .next (((u.dropRemote r.id).tileMoves t).emit (.tileWrite t tag stDone))) ∧
       (p.ty = ptWack → r.work = .write t tag → p.status ≠ stDone → exec (.wackPacket port p) s = .next
         ((((u.dropWrite r).tileMoves t).noteErr r.owner r.ord p.status uRouter).emit (.tileWrite t tag p.status))) ∧
       (p.ty = ptRdata → r.work = .read t tag → p.status = stDone → exec (.rdataPacket port p) s = .next
         (((u.dropRemote r.id).tileMoves t).emit (.tileRead t tag stDone ((p.payload.drop 16).take r.len)))) ∧
       (p.ty = ptRdata → r.work = .read t tag → p.status ≠ stDone → exec (.rdataPacket port p) s = .next
         ((((u.dropRemote r.id).tileMoves t).noteErr r.owner r.ord p.status uRouter).emit (.tileRead t tag p.status []))))) ∧
  ((∀ (n : CabId) (d : DrawerId) (q : Seq) (s : State), s.serves uLatch →
     (∀ f, s.issuedOp n.val d.val q.val 0x30 = some f → leAt f.body 0 1 = 1 →
       (s.jobValid f.cab = false → exec (.signalRemote n d q) s = .next
         (s.endFlight f.cab f.drawer f.seq { status := stDenied, unit := some uRouter })) ∧
       (s.jobValid f.cab = true →
         let target := leAt f.body 4 4
         let r := s.remote f.cab (target % 65536) 0 none (.signal f.drawer f.seq) 0
         exec (.signalRemote n d q) s = .next ((r.2.startFlight f).inject
           { ty := ptSignal, dst := target % 65536, job := s.jobTag f.cab, srcCab := f.cab,
             payload := toLe 4 (target / 65536 % 4096) ++ toLe 4 r.1 ++ toLe 8 (leAt f.body 8 8) }))) ∧
     (∀ r, s.fr.reqs.find? (fun r => r.cab == n.val && r.work == .signal d.val q.val) = some r →
       (s.mono < r.deadline → Idles (.remoteSignalTimeout n d q) s) ∧
       (r.deadline ≤ s.mono → exec (.remoteSignalTimeout n d q) s = .next (s.endRemote r stTimeout uRouter)))) ∧
   (∀ (port : Option PortId) (p : Packet) (n : Nat) (s u v : State), s.hears port p n u →
     let k := u.exporter n (leAt p.payload 0 4 % 4096)
     let body := toLe 4 0 ++ toLe 4 (signalId p) ++ toLe 8 0
     let denied := ((u.bump (rLatStat n) 15 0).bump rLatGstat 15 0).reply n p ptSack stDenied body
     (p.ty = ptSignal →
       (k = none → exec (.signalPacket port p) s = .next denied) ∧
       (∀ e, k = some e → 2 ^ 63 - 2 < leAt p.payload 8 8 → exec (.signalPacket port p) s = .next denied) ∧
       (∀ e, k = some e → leAt p.payload 8 8 ≤ 2 ^ 63 - 2 →
         u.signalFence (latAsker n (u.latch e).ctx) (u.obj (u.latch e).obj).base (leAt p.payload 8 8) = (.ok (), v) →
         exec (.signalPacket port p) s = .next ((v.setLatch e { v.latch e with dirty := true }).reply n p ptSack stDone body))) ∧
     (p.ty = ptSack →
       (u.repliedTo n p (signalId p) = none → exec (.sackPacket port p) s = .next u) ∧
       (∀ r d q, u.repliedTo n p (signalId p) = some r → r.work = .signal d q →
         exec (.sackPacket port p) s = .next ((u.dropRemote r.id).endFlight n d q
           (if p.status = stDone then { status := stDone } else { status := p.status, unit := some uRouter }))))))

/-- Job tags. VALID is set only for a LIVE cabinet and context, a tag of its own and a key written for it; clearing it sends the
ABORT first; a flip of TXKEY sends on what waited; the slot in use takes no key; FR_ABORT aborts a cabinet's tag. (After R358
to R361.) Key slots and the flip of TXKEY are read in log 75, the originating chip's own abort in log 51. -/
def Obligations.JobTagsKeysAndAborts : Prop :=
  ∀ (n : CabId) (v : Word) (s : State), s.mayReach (rFrJob n.val) → s.mayReach 0x900088 →
    let u := s.wakeBlock 1
    let flip (w : Word) : Prop := fld w 33 33 ≠ u.rfld (rFrJob n.val) 33 33
    (u.jobValid n.val = true → u.rfld (rFrJob n.val) 33 33 = fld v 33 33 → Answers (.jobTagSet 0 n v) s fun t =>
      t.reg (rFrJob n.val) = u.reg (rFrJob n.val) ∧ t.fr = u.fr) ∧
    (u.jobValid n.val = false → ¬ flip v → fld v 15 0 = u.jobTag n.val →
      let w := u.setReg (rFrJob n.val) (pack [(33, fld v 33 33), (16, fld v 29 16), (0, fld v 15 0)])
      exec (.jobTagSet 0 n v) s = .next (if w.tagAllowed n.val then w.setRfld (rFrJob n.val) 32 32 1 else w) ∧
      exec (.jobTagClear 0 n v) s = .next w) ∧
    (u.jobValid n.val = true → ¬ flip v → exec (.jobTagClear 0 n v) s = .next ((u.clearTag n.val).setRfld (rFrJob n.val) 33 33 (fld v 33 33))) ∧
    (u.jobValid n.val = true → fld v 32 32 = 1 → exec (.jobTxkeyFlip 0 n v) s = .next
      ((u.setRfld (rFrJob n.val) 33 33 (1 - u.rfld (rFrJob n.val) 33 33)).flipKey n.val)) ∧
    (∀ k : Fin 4, s.mayReach (rFrJob n.val + 8 + 8 * k.val) →
      (u.jobValid n.val = true → u.rfld (rFrJob n.val) 33 33 = k.val / 2 → exec (.frJobkeyWrite 0 n k v) s = .next u) ∧
      (u.jobValid n.val = false ∨ u.rfld (rFrJob n.val) 33 33 ≠ k.val / 2 → exec (.frJobkeyWrite 0 n k v) s = .next
        { u with fr := { u.fr with keys := mapSet 0 (n.val * 4 + k.val) v.toNat u.fr.keys,
                                   keyed := (n.val, k.val / 2) :: u.fr.keyed.filter (fun e => e != (n.val, k.val / 2)) } })) ∧
    (u.jobValid (fld v 7 0) = true → exec (.frAbortWrite 0 v) s = .next ((u.originateAbort (fld v 7 0) 5).applyAbort (fld v 7 0))) ∧
    (u.jobValid (fld v 7 0) = false → exec (.frAbortWrite 0 v) s = .next u)

/-- A fault event of a unit in service: the record, then an ENGINE reset in phase HOLD with its suspects held; in a global
stop the event is deferred; the Plinth's fault is a TRAY reset's; a unit whose resets repeat is escalated: a tile port is
RETIRED, any other unit takes a CHIP reset. HANG_DETECTED and SRAM_ERROR raise such events. (After R370, R371, R374, R375,
R380, R382, R386.) The phases of an ENGINE reset follow each other: HOLD, RESET, RESYNC with the unit's epoch one higher, then
RETIRED, SEARCH, or service with its held traffic (the Tile Scheduler after it has confirmed every bound tile's state). Out of
its phase a report changes nothing. A phase past its limit escalates. (After R380, R386, R390.) When the epoch rises, what a
tile port's reset does to a swap, the unit of an ESCALATION record and which tiles are confirmed are read in log 86, 88, 89
and 95. -/
def Obligations.FaultsBeginEngineResets : Prop :=
  (∀ (u : UnitId) (s : State),
     (∀ chan : Option ChanId, s.frozen = false → s.ou.stop = .idle →
       (s.unitExists u.val = false ∨ s.hangSeen u.val = false → Idles (.hangDetected u chan) s) ∧
       (s.unitExists u.val = true → s.hangSeen u.val = true → exec (.hangDetected u chan) s = .next (s.engineFault u.val 4 (chan.map (·.val))))) ∧
     (∀ chan : Option ChanId, s.ou.stop ≠ .idle → s.unitExists u.val = true → s.hangSeen u.val = true →
       exec (.hangDetected u chan) s = .next
         { s with rcv := { s.rcv with deferred := s.rcv.deferred ++ [(u.val, 4, chan.map (·.val))] } }) ∧
     (∀ lost : List Nat, s.coreUp = true → s.unitExists u.val = true → (s.loseArrays u.val lost).ou.stop = .idle →
       exec (.sramError u lost) s = .next ((s.loseArrays u.val lost).engineFault u.val 3 none)) ∧
     (∀ lost : List Nat, s.unitExists u.val = false → Idles (.sramError u lost) s)) ∧
  (∀ (u : UnitId) (s : State), s.frozen = false →
     let v := s.unitSt u.val
     (v.phase ≠ .hold → Idles (.engineResetHoldDone u) s) ∧
     (v.phase = .hold → exec (.engineResetHoldDone u) s = .next
       ((s.setUnitSt u.val { v with phase := .reset }).trace 0x07 u.val none none 2 v.epoch)) ∧
     (v.phase ≠ .reset → Idles (.engineResetLogicDone u) s) ∧
     (v.phase = .reset → u.val / 256 ∉ [3, 4, 9, 0xC] → exec (.engineResetLogicDone u) s = .next
       ((s.setUnitSt u.val { v with epoch := (v.epoch + 1) % 2 ^ 32 }).enterPhase u.val .resync)) ∧
     (v.phase ≠ .resync → Idles (.engineResetResyncDone u) s) ∧
     (v.phase = .resync → v.wait = [] → (∀ r ∈ s.rcv.searches, r.unit ≠ u.val) → u.val / 256 ≠ 0xD →
       let r := ((s.enterPhase u.val .service).releaseTraffic u.val).freePorts
       (u.val ≠ uTs → exec (.engineResetResyncDone u) s = .next (r.endRst (.engine u.val))) ∧
       (u.val = uTs → exec (.engineResetResyncDone u) s = .next
         ((r.confirmTiles ((List.range 256).filter (fun t => (r.tile t).cab.isSome))).endRst (.engine u.val)))) ∧
     (s.resetting u.val = false ∨ s.mono < v.began + v.phase.limit → Idles (.engineResetLimitMiss u) s) ∧
     (s.resetting u.val = true → v.began + v.phase.limit ≤ s.mono → u.val / 256 ≠ 0xD →
       exec (.engineResetLimitMiss u) s = .next (s.escalate u.val 4 none)) ∧
     (∀ r x l, s.rcv.searches.find? (fun r => r.unit == u.val) = some r → r.left = x :: l → s.resetting u.val = false →
       (s.replayDone x = true → exec (.searchReplayComplete u) s = .next (s.clearHead u.val)) ∧
       (s.replayDone x = false → Idles (.searchReplayComplete u) s) ∧
       (r.began + max 1 (s.rfld rRcvCfg 43 32) * 1000 ≤ s.mono → exec (.searchClearTimer u) s = .next (s.clearHead u.val)) ∧
       (s.mono < r.began + max 1 (s.rfld rRcvCfg 43 32) * 1000 → Idles (.searchClearTimer u) s)) ∧
     (s.rcv.searches.find? (fun r => r.unit == u.val) = none → Idles (.searchReplayComplete u) s ∧ Idles (.searchClearTimer u) s))

/-- RST_CMD. A reset is refused with STATE while a transition is accepted, outside block RUN, in a global stop, and for a target
that is not there; a
wrong unit is ARG. CONTEXT, ENGINE and CABINET begin theirs and wait for its end; CHIP and TRAY are taken at once unless a
dump is being written; DUMP starts one; UNRETIRE returns a tile port at once. (After R374, R379, R397, R398, R419,
R440.) RST_CMD for targets that cannot be reset, beside a life-cycle job, with a dump, or outside block RUN are read in log 94,
48, 93 and 167. -/
def Obligations.ResetCommandsAct : Prop :=
  ∀ (s u : State), s.takesChip 0x1000 rRstResult u →
    let a := u.reg rRstArg
    let n := fld a 23 16
    let c := fld a 45 32
    let e := u.rfld rRstArg 11 0
    (u.lc.job ≠ none → ∀ i ∈ ([.rstContext 0, .rstEngine 0, .rstCabinet 0, .rstChip 0, .rstTray 0, .rstDump 0, .rstUnretire 0] : List Instr),
      exec i s = .next (u.result rRstResult errState (4 * 65536))) ∧
    (u.lc.job = none → u.pln.power ≠ 0 →
      ∀ i ∈ ([.rstContext 0, .rstEngine 0, .rstCabinet 0, .rstChip 0, .rstTray 0, .rstDump 0, .rstUnretire 0] : List Instr),
        exec i s = .next (u.result rRstResult errState 0)) ∧
    (u.lc.job = none → u.pln.power = 0 →
      (u.ou.stop ≠ .idle → exec (.rstContext 0) s = .next (u.result rRstResult errState 0) ∧
        exec (.rstCabinet 0) s = .next (u.result rRstResult errState 0) ∧
        (u.unitExists e = true → e ≠ uPlinth → exec (.rstEngine 0) s = .next (u.result rRstResult errState 0))) ∧
      (u.ou.stop = .idle →
        ((u.ctx n c).st = .live → (∃ r ∈ u.rcv.cabResets, r.cab = n) →
          exec (.rstContext 0) s = .next ((u.requested uPlinth 1 (some n) (some c)).rstWait (.cabinet n))) ∧
        ((u.ctx n c).st = .live → (∀ r ∈ u.rcv.cabResets, r.cab ≠ n) → (u.ctx n c).resetting = true →
          exec (.rstContext 0) s = .next ((u.requested uPlinth 1 (some n) (some c)).rstWait (.context n c))) ∧
        ((u.ctx n c).st = .free → exec (.rstContext 0) s = .next (u.result rRstResult errNoCtx 0)) ∧
        ((u.ctx n c).st = .dying → exec (.rstContext 0) s = .next (u.result rRstResult errState 0)) ∧
        ((u.ctx n c).st = .live → (∀ r ∈ u.rcv.cabResets, r.cab ≠ n) → (u.ctx n c).resetting = false →
          exec (.rstContext 0) s = .next ((((u.requested uPlinth 1 (some n) (some c)).countReset n).resetContext n c).rstWait (.context n c)))) ∧
      (u.unitExists e = false ∨ e = uPlinth → exec (.rstEngine 0) s = .next (u.result rRstResult errArg 0)) ∧
      (u.unitExists e = true → e ≠ uPlinth → u.ou.stop = .idle →
        exec (.rstEngine 0) s = .next ((u.rstWait (.engine e)).engineFault e 0x0A none)) ∧
      (u.ou.stop = .idle → (u.cab n).st ≠ .live → (u.cab n).work = .none →
        exec (.rstCabinet 0) s = .next (u.result rRstResult errState 0)) ∧
      (u.ou.stop = .idle → (u.cab n).st = .live →
        exec (.rstCabinet 0) s = .next (((u.requested uPlinth 3 (some n) none).rstWait (.cabinet n)).startCabReset n)) ∧
      ((u.requested uPlinth 4 none none).rcv.dump = none → exec (.rstChip 0) s = .next ((u.requested uPlinth 4 none none).chipReset)) ∧
      (((u.requested uPlinth 5 none none).abortAll 3).rcv.dump = none →
        exec (.rstTray 0) s = .next (((u.requested uPlinth 5 none none).abortAll 3).holdForTray 3 uPlinth)) ∧
      (∀ t, (u.requested uPlinth 0 none none).startDump 1 uPlinth (List.replicate 64 0) none = (true, t) →
        exec (.rstDump 0) s = .next (t.rstWait .dump)) ∧
      (∀ t, (u.requested uPlinth 0 none none).startDump 1 uPlinth (List.replicate 64 0) none = (false, t) →
        exec (.rstDump 0) s = .next (t.result rRstResult errNone 0)) ∧
      (e / 256 ≠ 0xD ∨ u.unitExists e = false → exec (.rstUnretire 0) s = .next (u.result rRstResult errArg 0)) ∧
      (e / 256 = 0xD → u.unitExists e = true → Answers (.rstUnretire 0) s fun t =>
        (t.tile (e % 256)).retired = false ∧ (t.unitSt e).resets = [] ∧ (t.unitSt e).phase ≠ .retired ∧
        (t.reg (rRetired (e % 256 / 64))).getLsbD (e % 64) = false))

/-- A context reset ends once its work has left, a cabinet's once no command of it is on its tiles, its epoch one higher; a
context past 100 µs resets its cabinet, a DIRECT command past 1 ms resets its tile ports, a cabinet past 2 ms the chip. (After
R377, R382, R391.) Setting FLT_CFG.EN needs a ring in reserved memory, and clears the counts; a dump's read that times out
marks its unit; a complete dump writes its header with STATE 2 or 3 and ends; one that something waits for is cut short with
STATE 3 at its limit; the watchdog asks for a power cycle. (After R372, R384, R393 to R395.) What a dump holds when it is cut
short, dumps around resets, and a second write of EN are read in log 68, 69, 93 and 171. -/
def Obligations.ContextAndCabinetResetsAndDumps : Prop :=
  ((∀ (n : CabId) (c : CtxId) (s : State), s.frozen = false →
     let x := s.ctx n.val c.val
     (x.resetting = true → s.contextClear n.val c.val = true → exec (.contextResetComplete n c) s = .next
       ((s.setCtx n.val c.val { x with resetting := false }).endRst (.context n.val c.val))) ∧
     (x.resetting = false ∨ s.contextClear n.val c.val = false → Idles (.contextResetComplete n c) s) ∧
     (s.mono < x.since + 100000 ∨ (x.resetting = false ∧ x.st ≠ .dying) → Idles (.contextResetLimitMiss n c) s) ∧
     (x.since + 100000 ≤ s.mono → (x.resetting = true ∨ x.st = .dying) → (∀ k ∈ s.ts.cmds, k.direct = false) →
       (∀ k ∈ s.dce.cmds, k.direct = false) → (s.escalate uPlinth 3 (some n.val)).rcv.wait ≠ .context n.val c.val →
       exec (.contextResetLimitMiss n c) s = .next ((s.escalate uPlinth 3 (some n.val)).startCabReset n.val))) ∧
   (∀ (n : CabId) (s : State), s.frozen = false →
     (s.rcv.cabResets.find? (fun r => r.cab == n.val) = none → Idles (.cabinetResetComplete n) s ∧
       Idles (.cabinetResetDirectLimit n) s ∧ Idles (.cabinetResetLimitMiss n) s) ∧
     (∀ r b, s.rcv.cabResets.find? (fun r => r.cab == n.val) = some r → r.began = some b →
       ((∃ c ∈ s.ts.cmds, c.cab = n.val ∧ c.onTiles = true) → Idles (.cabinetResetComplete n) s) ∧
       ((∀ c ∈ s.ts.cmds, c.cab = n.val → c.onTiles = false) → Answers (.cabinetResetComplete n) s fun t =>
         (∀ r ∈ t.rcv.cabResets, r.cab ≠ n.val) ∧ mapGet 1 n.val t.rcv.cabEp = (mapGet 1 n.val s.rcv.cabEp + 1) % 2 ^ 32 ∧
         (t.cab n.val).tot.resets = (s.cab n.val).tot.resets + 1) ∧
       (b + 1000000 ≤ s.mono → exec (.cabinetResetDirectLimit n) s = .next
         (((s.ts.cmds.filter (fun c => c.cab == n.val && c.direct && c.onTiles)).flatMap (·.tiles)).foldl
           (fun s t => s.faultOn (uTile t) 4 none) s)) ∧
       (b + 2000000 ≤ s.mono → exec (.cabinetResetLimitMiss n) s = .next (s.escalate uPlinth 4 (some n.val)))))) ∧
  ((∀ (v : Word) (s : State), s.hostUp = true →
     let u := s.wakeBlock 1
     let w := pack [(8, fld v 12 8), (2, fld v 2 2), (1, fld v 1 1)]
     (u.rfld rFltCfg 0 0 = 1 → u.fltReady w = true → exec (.fltEnable 0 v) s = .next (u.setReg rFltCfg (setFld w 0 0 1))) ∧
     (u.fltReady w = false → exec (.fltEnable 0 v) s = .next (u.setReg rFltCfg w)) ∧
     (u.rfld rFltCfg 0 0 = 0 → u.fltReady w = true → Answers (.fltEnable 0 v) s fun t =>
       t.reg rFltCfg = setFld w 0 0 1 ∧ t.reg rFltStat = 0 ∧ t.rcv.faults = 0)) ∧
   (∀ (u : UnitId) (o : Fin 16777216) (s : State), s.serves uOu →
     (s.rcv.dump = none → Idles (.dumpReadTimeout u o) s ∧ Idles .dumpComplete s) ∧
     (∀ d, s.rcv.dump = some d → o.val ∈ unitRegs u.val → mapFind u.val d.bad = none →
       exec (.dumpReadTimeout u o) s = .next { s with rcv := { s.rcv with dump := some { d with bad := mapPut u.val o.val d.bad } } }) ∧
     (∀ d, s.rcv.dump = some d →
       let us := s.dumpUnits d.first
       let recs := us.map (fun u => s.unitRecord u (mapFind u d.bad) false)
       let fit := fitting (2 ^ 28) 4096 recs
       exec .dumpComplete s = .next (((({ s with free := s.free + 1 } : State).chestWrite d.host 4096 (fit.flatMap pad64)).endHeader d
         (if fit.length = recs.length then 2 else 3) fit.length ((us.take fit.length).filter (s.unreadable d)).length).dumpEnded d))) ∧
   (∀ s : State, s.coreUp = true →
     (s.rcv.dump = none → Idles .dumpLimitExpiry s) ∧
     (∀ d, s.rcv.dump = some d → s.dumpLimit d = false → Idles .dumpLimitExpiry s) ∧
     (∀ d, s.rcv.dump = some d → s.dumpLimit d = true → exec .dumpLimitExpiry s = .next ((s.endHeader d 3 0 0).dumpEnded d))) ∧
   (∀ s : State, (s.pln.phase = .por → Idles .plinthWatchdogExpiry s) ∧
     (s.pln.phase ≠ .por → exec .plinthWatchdogExpiry s = .next (s.powerCycle 1 uPlinth))))

/-- A cold start. `por_n` rising begins FUSE at timestamp 0, and falling leaves only what has no power; the fuse words begin
LIFECYCLE, a failed word halts with code 1; LIFECYCLE ends in POWER with a rung requested, or in SCRAP halts; `wake_n` starts
a block in OFF again. (After R402, R423, R431, R432, R470, R486.) The memory controllers' answers, and the phases' limits. The
last gate's answer releases the block; a failure halts with code 0x0D; FUSE, IMAGE and MEMORY past their limits halt or fail
the image. (After R402, R404.) What a cold start leaves and the pin in OFF are read in log 130 and 133, the fuses in log 72. -/
def Obligations.ColdStartsAndMemoryRelease : Prop :=
  (∀ s : State,
     (s.pln.phase = .por → exec .porRise s = .next
       { s with now := 0, pln := { s.pln with phase := .fuse, cold := true, startAt := 0, phaseAt := 0 } }) ∧
     (s.pln.phase ≠ .por → Idles .porRise s) ∧
     exec .porAssert s = .next { pending := s.pending, out := s.out, tie := s.tie, free := s.free, fuse := s.fuse, hostMem := s.hostMem,
                                 lost := if s.installed = 0 then [] else [(0, s.installed)] } ∧
     (s.pln.phase ≠ .fuse → ∀ f, Idles (.fuseLoadComplete f) s) ∧
     (s.pln.phase = .fuse → exec (.fuseLoadComplete none) s = .next (s.halt 1)) ∧
     (∀ f, s.pln.phase = .fuse → openPairs (Fuses.burned s.fuse f).lc = [] → Answers (.fuseLoadComplete (some f)) s fun t =>
       t.fuse = Fuses.burned s.fuse f ∧ t.lc.raw = (f.lc ||| s.fuse.lc) % 1024 ∧ t.pln.phase = .lifecycle ∧ t.pln.phaseAt = s.now) ∧
     (s.pln.phase = .lifecycle → s.lc.job = none →
       (highPair s.fuse.lc ≠ 5 → Answers .lifecyclePhaseComplete s fun t => t.lc.state = highPair s.fuse.lc ∧
         t.lc.completed = (s.lc.raw != s.fuse.lc) ∧ t.pln.phase = .power) ∧
       (highPair s.fuse.lc = 5 → s.pln.afterChip = false → Answers .lifecyclePhaseComplete s fun t => t.lc.state = 5 ∧
         t.pln.phase = .halted ∧ t.pln.fail = 0x0F)) ∧
     (s.pln.phase ≠ .lifecycle ∨ s.lc.job ≠ none → Idles .lifecyclePhaseComplete s) ∧
     (s.pln.phase = .run → s.pln.held = false →
       (s.pln.power = 4 → s.pln.ready = 0 → Answers .wakeN s fun t => t.pln.phase = .fuse ∧ t.now = 0 ∧ t.fuse = s.fuse ∧ t.regs = []) ∧
       (s.pln.power ≠ 4 → exec .wakeN s = .next (s.wakeBlock 0))) ∧
     (s.pln.phase ≠ .run ∨ s.pln.held = true → Idles .wakeN s)) ∧
  (∀ s : State,
     (∀ g : GateId, s.pln.phase = .memory → g.val ∈ s.pln.init →
       let u : State := { s with pln := { s.pln with init := s.pln.init.filter (fun x => x != g.val) } }
       (u.pln.init ≠ [] → exec (.memInitDone g) s = .next u) ∧
       (u.pln.init = [] → exec (.memInitDone g) s = .next u.release) ∧
       exec (.memInitFail g) s = .next (s.halt 0xD)) ∧
     (∀ g : GateId, s.pln.phase ≠ .memory ∨ g.val ∉ s.pln.init → Idles (.memInitDone g) s ∧ Idles (.memInitFail g) s) ∧
     (s.pln.phase = .fuse → exec .startPhaseTimeout s = .next (if s.pln.phaseAt + 100000 ≤ s.now then s.halt 1 else s)) ∧
     (s.pln.phase = .image → exec .startPhaseTimeout s = .next
       (if s.loading = true ∧ s.pln.phaseAt + 150000000 ≤ s.now then s.flashFail else s)) ∧
     (s.pln.phase = .memory → exec .startPhaseTimeout s = .next (if s.pln.phaseAt + 100000000 ≤ s.now then s.halt 0xD else s)))

/-- A rung that is ready has the next one requested; the last ends POWER, and restarts IMAGE's time after a CHIP reset; a rung
that falls on request lets the next lower one be lowered; one that falls unasked asks for a power cycle; one that does not
answer for 50 ms halts a start-up, or asks for a power cycle in operation. (After R402, R420.) The measured clock shows in
PLN_CLK with its flag past 1,150 to 2,250 MHz; BLK_LOCK takes LOCK as a register write does; PLN_TS_LOAD below now + 40 is
refused and counted, and otherwise sets the timestamp. (After R401, R411, R424.) A timestamp load stands at its edge (log 73);
a rung that fails is read in log 114. -/
def Obligations.RungsClockAndTimestamp : Prop :=
  (∀ (r : Fin 4) (s : State),
     (s.pln.held = false →
       let up : State := { s with pln := { s.pln with ready := s.pln.ready ||| 2 ^ r.val } }
       let down : State := { s with pln := { s.pln with ready := s.pln.ready - 2 ^ r.val } }
       (s.pln.req.testBit r.val = true → s.pln.ready.testBit r.val = false →
         (up.pln.ready ≠ 15 → exec (.rungReady r true) s = .next up.raiseRung) ∧
         (up.pln.ready = 15 → s.pln.phase = .power → exec (.rungReady r true) s = .next
           { up with pln := { up.pln with phase := .image, phaseAt := s.now } }) ∧
         (up.pln.ready = 15 → s.pln.phase = .image → exec (.rungReady r true) s = .next { up with pln := { up.pln with phaseAt := s.now } }) ∧
         (up.pln.ready = 15 → s.pln.phase = .run → s.pln.waking = true → exec (.rungReady r true) s = .next up.woken)) ∧
       (s.pln.req.testBit r.val = false → s.pln.ready.testBit r.val = true →
         (∀ q, down.nextLower r.val = some q → exec (.rungReady r false) s = .next
           { down with pln := { down.pln with req := down.pln.req - (down.pln.req &&& 2 ^ q), rungAt := s.now } }) ∧
         (down.nextLower r.val = none → s.pln.waking = false → exec (.rungReady r false) s = .next down))) ∧
     (s.pln.held = true → ∀ b, Idles (.rungReady r b) s) ∧
     (s.pln.req.testBit r.val = true → s.pln.ready.testBit r.val = true → exec (.rungReadyLost r) s = .next
       (({ s with pln := { s.pln with ready := s.pln.ready - 2 ^ r.val } } : State).powerCycle 4 uPlinth)) ∧
     (s.pln.req.testBit r.val = false ∨ s.pln.ready.testBit r.val = false → Idles (.rungReadyLost r) s) ∧
     (s.pln.req.testBit r.val ≠ s.pln.ready.testBit r.val → s.pln.rungAt + 50000000 ≤ s.now → s.pln.held = false →
       (s.pln.phase = .power ∨ s.pln.phase = .image → exec (.rungTimeout r) s = .next (s.halt (3 + r.val))) ∧
       (s.pln.phase = .run → exec (.rungTimeout r) s = .next
         (({ s with pln := { s.pln with rungAt := s.now } } : State).powerCycle 4 uPlinth))) ∧
     (s.pln.req.testBit r.val = s.pln.ready.testBit r.val ∨ s.now < s.pln.rungAt + 50000000 → Idles (.rungTimeout r) s)) ∧
  (∀ s : State,
     (∀ mhz : Fin 4096,
       (s.pln.phase = .por ∨ s.pln.ready.testBit 1 = false → Idles (.clockMeasure mhz) s) ∧
       (s.pln.phase ≠ .por → s.pln.ready.testBit 1 = true → Answers (.clockMeasure mhz) s fun t =>
         t.rfld rPlnClk 11 0 = mhz.val ∧
         t.rfld rPlnClk 16 16 = if mhz.val < 1150 ∨ 2250 < mhz.val then 1 else s.rfld rPlnClk 16 16)) ∧
     (∀ v : Word, s.hostUp = true → exec (.blkLockSet 0 v) s = .next ((s.wakeBlock 1).writePlain rLock v)) ∧
     (∀ v : Word, s.hostUp = true → let u := s.wakeBlock 1
       (v.toNat < u.now + 40 → exec (.plnTsLoadWrite 0 v) s = .next (u.bump rPlnTsStat 15 0)) ∧
       (u.now + 40 ≤ v.toNat → Answers (.plnTsLoadWrite 0 v) s fun t => t.now = v.toNat)) ∧
     (∀ (f : Func) (v : Word), f ≠ 0 → Idles (.blkLockSet f v) s ∧ Idles (.plnTsLoadWrite f v) s))

/-- The image loader. A header that fails a step of R408 fails the image with its code; another begins the body. A record that is
malformed, or leaves no room for END, undoes the image; a REG record writes and reads back its register; a TABLE record
installs the next slot downward unless a check skips it; CABINET records are kept for release; TRIM changes nothing; END with
the header's digest ends IMAGE. A failing flash undoes the image with code 7. (After R405 to R409.) How bytes are handed to
SHA-384 and ECDSA is read in log 47. -/
def Obligations.TheImageIsLoadedRecordByRecord : Prop :=
  (∀ (h : List Byte) (s : State), s.loading = true → s.pln.image = none → h.length = 512 →
    (∀ c, s.headerFails h = some c → exec (.imageHeader h) s = .next (s.imageFail c)) ∧
    (s.headerFails h = none →
      let m : Image := { len := leAt h 8 4, digest := (h.drop 64).take 48, svn := leAt h 12 4, saved := s.regs }
      exec (.imageHeader h) s = .next { s with pln := { s.pln with image := some m } })) ∧
  (∀ (r : List Byte) (s : State) (m : Image), s.loading = true → s.pln.image = some m →
    let fits (ty : Nat) : Prop := recordOk r = true ∧ m.body.length + r.length + (if ty = 0 then 0 else 8) ≤ m.len
    let m' : Image := { m with body := m.body ++ r }
    let b := r.drop 8
    (∀ e ∈ [(0, Instr.imageEndRecord r), (1, .imageRegRecord r), (2, .imageTableRecord r), (3, .imageCabinetRecord r), (4, .imageTrimRecord r)],
      ¬ fits e.1 → exec e.2 s = .next (s.imageUndo m 0x08)) ∧
    (fits 1 → leAt r 0 1 = 1 →
      (b.length ≠ 16 ∨ imageReg (leAt b 0 8) = false → exec (.imageRegRecord r) s = .next (s.imageUndo m' 0x08)) ∧
      (∀ row, b.length = 16 → imageReg (leAt b 0 8) = true → regRow (leAt b 0 8) = some row →
        let t := (s.setImage m').writeReg (leAt b 0 8) (BitVec.ofNat 64 (leAt b 8 8))
        let mask := BitVec.ofNat 64 (row.rw + row.rwl)
        exec (.imageRegRecord r) s = .next
          (if t.readReg (leAt b 0 8) &&& mask = BitVec.ofNat 64 (leAt b 8 8) &&& mask then t else t.imageUndo m' 0x0C))) ∧
    (fits 2 → leAt r 0 1 = 2 → b.length = 1096 → leAt b 0 4 = 0 → zeroAt b 4 4 = true → m.slot ≠ 0 →
      (loaderCheck (b.drop 8) ≠ none → exec (.imageTableRecord r) s = .next (s.setImage { m' with slot := m.slot - 1 })) ∧
      (loaderCheck (b.drop 8) = none → exec (.imageTableRecord r) s = .next
        (((s.setImage { m' with slot := m.slot - 1, tables := m.tables + 1 }).setSlot (m.slot - 1)
          { st := .held, image := true, version := ((s.slot (m.slot - 1)).version + 1) % 65536, bytes := b.drop 8 }).deliverSlot (m.slot - 1)
            ((List.range 256).filter s.tie.tiles.testBit)))) ∧
    (fits 3 → leAt r 0 1 = 3 → b.length = 208 → zeroAt b 1 7 = true →
      exec (.imageCabinetRecord r) s = .next (s.setImage { m' with cabs := m.cabs ++ [b] })) ∧
    (fits 4 → leAt r 0 1 = 4 → exec (.imageTrimRecord r) s = .next (s.setImage m')) ∧
    (fits 0 → leAt r 0 1 = 0 → b = [] → m'.body.length = m.len →
      (digest m'.body ≠ m.digest → exec (.imageEndRecord r) s = .next (s.imageUndo m' 0x0A)) ∧
      (digest m'.body = m.digest → exec (.imageEndRecord r) s = .next
        (({ s with pln := { s.pln with imageOk := true, image := none, records := m.cabs, svn := m.svn, tables := m.tables,
                                       cabRecs := m.cabs.length } } : State).beginMemory))) ∧
    exec (.imageFlashTimeout true) s = .next (s.imageUndo m 0x07)) ∧
  (∀ (b : Bool) (s : State), s.loading = false → Idles (.imageFlashTimeout b) s)

/-- PWR_CMD while an entry is in progress only sets OVERRUN. ENTER of a target out of range is ARG, for a cabinet that is not LIVE
or is deeper already STATE, for one already there done; otherwise the entry starts. EXIT wakes a LIVE cabinet. (After R414,
R419, R430.) Automatic entry. A LIVE cabinet without work for IDLE_AFTER_US enters IDLE, one in IDLE for SLEEP_AFTER_MS enters
SLEEP; with every LIVE cabinet at rest and its enable set, the block enters IDLE or SLEEP. (After R414.) The answers of a
quiesce. An acknowledgement of an asked participant leaves its name, and the last one enters the state; both answers at once
break the protocol; a denial ends the entry with its unit and reason, and a participant silent for QS_LIMIT_US does with
reason 6. (After R416 to R419, R473.) `hg_wake` wakes the block in RUN; the timestamp at PWR_WAKE_AT wakes it and clears the
register. (After R421.) When a unit answers, how participants are named and PWR_CMD for a state that is not deeper are read in
log 108, 109, 110, 111, 112 and 115, the unit of a participant whose PLN_QS_MAP names none in log 136. -/
def Obligations.PowerEntriesExitsAndWakes : Prop :=
  ((∀ (v : Word) (s : State), s.hostUp = true → (s.wakeBlock 1).pln.entries ≠ [] →
     ∀ i ∈ ([.pwrNop 0 v, .pwrEnter 0 v, .pwrExit 0 v] : List Instr), exec i s = .next ((s.wakeBlock 1).overrun rPwrResult)) ∧
   ∀ (v : Word) (s u : State), (s.wakeBlock 1).pln.entries = [] → s.takesChip 0x10040 rPwrResult u →
     let target := fld v 6 4
     let n := fld v 23 16
     (target = 0 ∨ 4 < target → exec (.pwrEnter 0 v) s = .next (u.result rPwrResult errArg 0)) ∧
     (target ∈ [1, 2, 3, 4] → fld v 8 8 = 0 → exec (.pwrEnter 0 v) s = .next (u.startEntry none target true false)) ∧
     (fld v 8 8 = 1 →
       (target ∈ [3, 4] → exec (.pwrEnter 0 v) s = .next (u.result rPwrResult errArg 0)) ∧
       (target ∈ [1, 2] → (u.cab n).st ≠ .live ∨ target < (u.cab n).power →
         exec (.pwrEnter 0 v) s = .next (u.result rPwrResult errState 0)) ∧
       (target ∈ [1, 2] → (u.cab n).st = .live → (u.cab n).power = target →
         exec (.pwrEnter 0 v) s = .next (u.result rPwrResult errNone 0)) ∧
       (target ∈ [1, 2] → (u.cab n).st = .live → (u.cab n).power < target →
         exec (.pwrEnter 0 v) s = .next (u.startEntry (some n) target true false)) ∧
       ((u.cab n).st ≠ .live → exec (.pwrExit 0 v) s = .next (u.result rPwrResult errState 0)) ∧
       ((u.cab n).st = .live → exec (.pwrExit 0 v) s = .next ((u.wakeCab n 1).result rPwrResult errNone 0))) ∧
     (fld v 8 8 = 0 → exec (.pwrExit 0 v) s = .next (u.result rPwrResult errArg 0))) ∧
  (∀ s : State, s.frozen = false →
     (∀ n : CabId, (s.cab n.val).st = .live → s.mayEnter n.val = true →
       let t := s.rfld (rPwrCab n.val) 15 0
       let m := s.rfld (rPwrCab n.val) 31 16
       ((s.cab n.val).power = 0 → t ≠ 0 → s.noWork n.val = false →
         exec (.cabinetIdleTimer n) s = .next (s.setCab n.val { s.cab n.val with idleAt := s.mono })) ∧
       ((s.cab n.val).power = 0 → t ≠ 0 → s.noWork n.val = true → (s.cab n.val).idleAt + t * 1000 ≤ s.mono →
         exec (.cabinetIdleTimer n) s = .next (s.startEntry (some n.val) 1 false false)) ∧
       ((s.cab n.val).power = 1 → m ≠ 0 → (s.cab n.val).idleAt + m * 1000000 ≤ s.mono →
         exec (.cabinetSleepTimer n) s = .next (s.startEntry (some n.val) 2 false false)) ∧
       ((s.cab n.val).power ≠ 0 ∨ t = 0 → Idles (.cabinetIdleTimer n) s) ∧
       ((s.cab n.val).power ≠ 1 ∨ m = 0 → Idles (.cabinetSleepTimer n) s)) ∧
     (s.pln.phase = .run →
       (s.rfld rPwrCfg 32 32 = 1 → s.pln.power = 0 → s.allAtRest 1 = true → exec .blockAutoIdle s = .next (s.startEntry none 1 false false)) ∧
       (s.rfld rPwrCfg 33 33 = 1 → s.pln.power < 2 → s.allAtRest 2 = true → exec .blockAutoSleep s = .next (s.startEntry none 2 false false))) ∧
     (s.rfld rPwrCfg 32 32 = 0 ∨ s.allAtRest 1 = false → Idles .blockAutoIdle s) ∧
     (s.rfld rPwrCfg 33 33 = 0 ∨ s.allAtRest 2 = false → Idles .blockAutoSleep s)) ∧
  (∀ (who : Answerer) (cab : Option CabId) (e : Entry) (s : State), s.coreUp = true → s.entryOf (cab.map (·.val)) = some e →
     answerer who ∈ e.left →
     (∀ deny, Idles (.qsAck who cab false deny) s) ∧
     (∀ i, who = .port i → exec (.qsAck who cab true true) s = .next (s.faultOn uPlinth 6 none)) ∧
     (s.mayAck e who = true →
       let e' := { e with left := e.left.filter (fun x => x != answerer who) }
       let u : State := { s with pln := { s.pln with entries := s.pln.entries.map (fun x => if x == e then e' else x) } }
       exec (.qsAck who cab true false) s = .next (if e'.left = [] then (u.enterState e').askWaiting else u)) ∧
     (∀ (i : Fin 64) (r : Fin 256), who = .port i → exec (.qsDeny who cab r) s = .next
       ((s.abortEntry e (if s.unitExists (s.qsUnit i.val) = true then s.qsUnit i.val else uPlinth) r.val).askWaiting)) ∧
     (∀ (u : UnitId) (r : Fin 256), who = .unit u → s.qsAnswer e u.val = .deny r.val →
       exec (.qsDeny who cab r) s = .next ((s.abortEntry e u.val r.val).askWaiting)) ∧
     (∀ u us, s.frozen = false → e.left.map s.answererUnit = u :: us → e.start + max 1 (s.rfld rPwrCfg 31 0) * 1000 ≤ s.mono →
       exec (.qsTimeout cab) s = .next ((s.abortEntry e (us.foldl min u) 6).askWaiting)) ∧
     (s.mono < e.start + max 1 (s.rfld rPwrCfg 31 0) * 1000 → Idles (.qsTimeout cab) s)) ∧
  (∀ s : State,
     (s.pln.phase = .run → s.pln.held = false → exec .hgWake s = .next (s.wakeBlock 7)) ∧
     (s.pln.phase ≠ .run ∨ s.pln.held = true → Idles .hgWake s) ∧
     (s.reg rPwrWakeAt ≠ 0 → (s.reg rPwrWakeAt).toNat ≤ s.now → s.pln.phase = .run →
       exec .pwrWakeAtExpiry s = .next ((s.wakeBlock 5).setReg rPwrWakeAt 0)) ∧
     (s.reg rPwrWakeAt = 0 ∨ s.now < (s.reg rPwrWakeAt).toNat ∨ s.pln.phase ≠ .run → Idles .pwrWakeAtExpiry s))

/-- The tray controller's requests. The fifth held is BUSY, in SCRAP only 0x01, 0x02 and 0x30 are answered, a body of the wrong
length is BAD_LENGTH; a good one is answered with its status and body. Codes without a command are UNSUPPORTED; a message
stays until acknowledged, but for POWER_CYCLE. (After R426 to R428.) The reason of a refused transition is read in log 117. -/
def Obligations.TrayRequestsAreAnswered : Prop :=
  (∀ (s : State) (b : List Byte), s.trayUp = true →
    let row : List (Nat × Nat × Instr) := [(0x01, 0, .getInfo b), (0x02, 0, .getTime b), (0x03, 0, .getPower b), (0x04, 1, .setPower b),
      (0x05, 0, .getSensors b), (0x30, 0, .mctpLcGet b), (0x31, 0, .mctpLcChallenge b), (0x32, 256, .mctpLcToken b),
      (0x33, 1, .mctpLcTransition b)]
    let scrap := s.lcKnown = true ∧ s.lc.state = 5
    (∀ e ∈ row, 4 ≤ s.pln.trayBusy → exec e.2.2 s = .next (s.emit (.tray e.1 3 []))) ∧
    (∀ e ∈ row, s.pln.trayBusy < 4 → scrap → e.1 ∉ [0x01, 0x02, 0x30] → exec e.2.2 s = .next (s.emit (.tray e.1 1 []))) ∧
    (∀ e ∈ row, s.pln.trayBusy < 4 → ¬ scrap ∨ e.1 ∈ [0x01, 0x02, 0x30] → b.length ≠ e.2.1 → exec e.2.2 s = .next (s.emit (.tray e.1 2 []))) ∧
    (s.pln.trayBusy < 4 → ¬ scrap →
      (b = [] →
        exec (.getInfo b) s = .next (s.emit (.tray 0x01 0 (toLe 8 (regReset 0).toNat ++ toLe 1 s.lc.state ++ toLe 1 s.pln.power ++
          toLe 1 (fld s.plnBoot 3 0) ++ toLe 1 s.pln.fail ++ toLe 4 s.pln.svn))) ∧
        exec (.getTime b) s = .next (s.emit (.tray 0x02 0 (toLe 8 s.now))) ∧
        exec (.getPower b) s = .next (s.emit (.tray 0x03 0 (toLe 1 s.pln.power ++ toLe 2 (s.cabsIn 1) ++ toLe 2 (s.cabsIn 2) ++
          toLe 4 (s.rfld rPwrRefuse 31 0) ++ toLe 8 (s.reg rPwrLast).toNat))) ∧
        exec (.getSensors b) s = .next (s.emit (.tray 0x05 0 (toLe 8 s.now ++ s.sensorBytes))) ∧
        exec (.mctpLcGet b) s = .next (s.emit (.tray 0x30 0 s.lcGet))) ∧
      (b.length = 1 →
        (leAt b 0 1 ∉ [0, 3, 4] → exec (.setPower b) s = .next (s.emit (.tray 0x04 4 []))) ∧
        (leAt b 0 1 ∈ [0, 3, 4] → s.pln.phase ≠ .run ∨ s.pln.held = true →
          exec (.setPower b) s = .next (s.emit (.tray 0x04 0 (powerAnswer 1 0 4)))) ∧
        (s.pln.phase = .run → s.pln.held = false → leAt b 0 1 = 0 → (s.wakeBlock 4).pln.power = 0 →
          exec (.setPower b) s = .next ((s.wakeBlock 4).emit (.tray 0x04 0 (powerAnswer 0 0 0)))) ∧
        (s.pln.phase = .run → s.pln.held = false → leAt b 0 1 ∈ [3, 4] → s.pln.power ≤ 2 → s.pln.waking = false →
          (∀ e ∈ s.pln.entries, e.cab ≠ none) → exec (.setPower b) s = .next
            (({ s with pln := { s.pln with trayBusy := s.pln.trayBusy + 1 } } : State).startEntry none (leAt b 0 1) false true))))) ∧
  (∀ (c : Byte) (s : State), s.trayUp = true → c.toNat ∉ [1, 2, 3, 4, 5, 0x30, 0x31, 0x32, 0x33] →
    exec (.mctpUnsupportedCommand c) s = .next (s.emit (.tray c.toNat (if 4 ≤ s.pln.trayBusy then 3 else 1) []))) ∧
  (∀ (c : Byte) (s : State), s.trayUp = true →
    (c.toNat ≠ 0x10 → exec (.tcAcknowledge c) s = .next { s with pln := { s.pln with msgs := dropMsg c.toNat s.pln.msgs } }) ∧
    (c.toNat = 0x10 → Idles (.tcAcknowledge c) s)) ∧
  (∀ (a : Fin 128) (s : State), s.pln.phase ∉ [Phase.por, .fuse] → s.pln.power ≠ 4 →
    exec (.i3cEntdaa a) s = .next { s with pln := { s.pln with addr := some a.val } }) ∧
  (∀ s : State, (s.pln.power = 4 → Idles .mctpRepeatTimer s) ∧
    (s.pln.power ≠ 4 → Answers .mctpRepeatTimer s fun t => t.pln.msgs = s.pln.msgs.map (fun m =>
      if m.sent + (if m.code = 0x10 then 1000000000 else 100000000) ≤ s.now then { m with sent := s.now } else m)))

/-- A challenge is drawn at once from a healthy random source, or waits; a token is judged and its reason told; a transition of a
wrong target is ARG, one the engine cannot take or without its scope STATE, another is accepted and begins, or waits for a
dump. The same by LC_CMD, MCTP and the test port. (After R435, R437, R440 to R444, R447, R448.) A burned bit is kept in the
fuses; a bit that does not read back is tried three times in all; a sector that is not erased, and a job past its limit, fail
the job; the erase for debug ends when its last sector is erased. (After R437, R439.) Refusals of a transition, the
challenge's bytes, a draw that fails and the moments of wiping are read in log 116, 118, 119, 120 and 121. -/
def Obligations.LifeCycleTransitionsAndBurns : Prop :=
  ((∀ (v : Word) (s u : State), s.takesChip 0xF00008 rLcResult u →
     exec (.lcChallenge 0 v) s = .next (u.askChallenge 0) ∧
     (u.mix.healthy = true → Answers (.lcChallenge 0 v) s fun t => t.lc.chal.isSome = true ∧ t.rfld rLcResult 63 63 = 1) ∧
     exec (.lcSubmit 0 v) s = .next (u.submit u.tokenRegs (fun r s => s.result rLcResult (if r = 0 then errNone else errArg) r)) ∧
     (u.tokenReason ((u.tokenRegs ++ List.replicate 256 0).take 256) ≠ 0 → Answers (.lcSubmit 0 v) s fun t => t.lc.chal = none ∧
       t.lc.reason = u.tokenReason ((u.tokenRegs ++ List.replicate 256 0).take 256) ∧ t.lc.fails = min 255 (u.lc.fails + 1) ∧
       t.lc.scopeOk = u.lc.scopeOk) ∧
     (let target := fld v 10 8
      (lcTarget u.lc.state target = false → exec (.lcTransition 0 v) s = .next (u.result rLcResult errArg 0)) ∧
      (lcTarget u.lc.state target = true → u.lcBusy = true → exec (.lcTransition 0 v) s = .next (u.result rLcResult errState 0)) ∧
      (∀ b, lcTarget u.lc.state target = true → u.lcBusy = false → lcScope u.lc.state target = some b → u.lc.scopeOk.testBit b = false →
        exec (.lcTransition 0 v) s = .next (u.result rLcResult errState 0)) ∧
      (lcTarget u.lc.state target = true → u.lcBusy = false → lcScope u.lc.state target = none →
        exec (.lcTransition 0 v) s = .next (u.lcTransit target)))) ∧
   (∀ (b : List Byte) (s : State), s.trayUp = true → s.pln.trayBusy < 4 → ¬ (s.lcKnown = true ∧ s.lc.state = 5) →
     (b = [] → exec (.mctpLcChallenge b) s = .next (s.askChallenge 2)) ∧
     (b.length = 256 → exec (.mctpLcToken b) s = .next (s.submit b (fun r s => s.emit (.tray 0x32 0 (toLe 1 r))))) ∧
     (b.length = 1 → exec (.mctpLcTransition b) s = .next (match s.lcAnswer (leAt b 0 1) with
       | .accepted => (s.emit (.tray 0x33 0 [0, 0])).lcTransit (leAt b 0 1)
       | .noScope => s.emit (.tray 0x33 0 (toLe 1 1 ++ toLe 1 s.lc.reason))
       | _ => s.emit (.tray 0x33 0 [1, 0])))) ∧
   (∀ (s : State) (k : Nat), s.tapUp = true → s.dbgLevel = some k →
     exec .tapLcChallenge s = .next ((s.emit (.tap (leNat (s.lc.chal.getD [])))).askChallenge 1) ∧
     (∀ b, exec (.tapLcToken b) s = .next (s.submit b (fun r s => s.emit (.tap r)))) ∧
     (∀ target : Byte,
       ((s.emit (.tap s.lc.tapOut)).lcAnswer target.toNat ≠ .accepted → Answers (.tapLcTransition target) s fun t => t.lc.tapOut = 1 ∧
         t.out = .tap s.lc.tapOut :: s.out) ∧
       (∀ u, u = s.emit (.tap s.lc.tapOut) → u.lcAnswer target.toNat = .accepted → exec (.tapLcTransition target) s = .next
         (({ u with lc := { u.lc with tapOut := 0 } } : State).lcTransit target.toNat))))) ∧
  (∀ (s : State),
     (s.lc.job = none → ∀ ok, Idles (.fuseBurnAck ok) s ∧ Idles (.flashSectorErased ok) s) ∧
     (s.lc.job = none → Idles .lifecycleLimitMiss s) ∧
     (∀ j, s.lc.job = some j →
       (∀ b, j.bitNo = some b → j.dump = false →
         exec (.fuseBurnAck true) s = .next (({ s with fuse := { s.fuse with lc := s.fuse.lc ||| 2 ^ b } } : State).lcAdvance j) ∧
         (j.tries + 1 < 3 → exec (.fuseBurnAck false) s = .next { s with lc := { s.lc with job := some { j with tries := j.tries + 1 } } }) ∧
         (3 ≤ j.tries + 1 → exec (.fuseBurnAck false) s = .next (s.lcFail j))) ∧
       (j.bitNo = none → ∀ ok, Idles (.fuseBurnAck ok) s) ∧
       (j.dump = false → j.step = .wipe → j.sectors ≠ 0 →
         exec (.flashSectorErased false) s = .next (s.lcFail j) ∧
         (j.erase = false → exec (.flashSectorErased true) s = .next (s.lcAdvance { j with sectors := j.sectors - 1 })) ∧
         (j.erase = true → j.sectors ≠ 1 →
           exec (.flashSectorErased true) s = .next { s with lc := { s.lc with job := some { j with sectors := j.sectors - 1 } } }) ∧
         (j.erase = true → j.sectors = 1 → Answers (.flashSectorErased true) s fun t => t.lc.job = none ∧ t.lc.erased = true ∧
           t.pln.phaseAt = s.now)) ∧
       (j.step ≠ .wipe → ∀ ok, Idles (.flashSectorErased ok) s) ∧
       (j.dump = false → j.began + j.limit ≤ s.now → exec .lifecycleLimitMiss s = .next (s.lcFail j)) ∧
       (j.dump = true ∨ s.now < j.began + j.limit → Idles .lifecycleLimitMiss s)))

/-- The test port. IDCODE is the part's; an instruction above the level acts as BYPASS; DBG_REG writes and reads the window as
the platform, a misaligned access with ERR, and waits where a reset holds its unit; DBG_MEM reads and writes 8 bytes as
PLATFORM, with the access's status; a private code below OPEN_ALL is BYPASS, and its scan chain at OPEN_ALL is not described.
(After R445, R446.) One command is a whole scan, and its captures, levels and failing accesses are read in log 63, 64, 65, 66
and 67. -/
def Obligations.TheTestPortFollowsItsLevel : Prop :=
  ∀ s : State,
    (s.tapUp = true →
      exec .tapBypass s = .next (s.emit (.tap 0)) ∧ exec .tapIdcode s = .next (s.emit (.tap s.idcode)) ∧
      (s.dbgLevel ≠ none → exec .tapLcStatus s = .next (s.emit (.tap (leNat s.lcGet)))) ∧
      (s.dbgLevel = none → ∀ i ∈ ([.tapLcStatus, .tapLcChallenge, .tapLcToken [], .tapLcTransition 0, .tapDbgReg 0 0 false, .tapDbgMem 0 0 false] :
        List Instr), exec i s = .next (s.emit (.tap 0))) ∧
      (∀ (d : Word) (o : Fin 16777216) (w : Bool), s.dbgLevel = some 0 → exec (.tapDbgReg d o w) s = .next (s.emit (.tap 0))) ∧
      (∀ (d : Word) (o : Fin 16777216) (k : Nat), s.dbgLevel = some k → 1 ≤ k → s.coreUp = true →
        (o.val % 8 ≠ 0 → ∀ w, exec (.tapDbgReg d o w) s = .next (s.emit (.tap (dbgReg 0 o.val w true)))) ∧
        (o.val % 8 = 0 → (s.wakeFor o.val).regHeld o.val = true → ∀ w, Answers (.tapDbgReg d o w) s fun t => t.out = (s.wakeFor o.val).out ∧
          t.hg.regs = (s.wakeFor o.val).hg.regs ++ [{ func := 0, off := o.val, data := if w then some d else none, tap := true }]) ∧
        (o.val % 8 = 0 → (s.wakeFor o.val).regHeld o.val = false →
          exec (.tapDbgReg d o true) s = .next (((s.wakeFor o.val).writeReg o.val d).emit (.tap (dbgReg d o.val true false))) ∧
          exec (.tapDbgReg d o false) s = .next
            (((s.wakeFor o.val).emit (.tap (dbgReg ((s.wakeFor o.val).readReg o.val) o.val false false))).afterRead o.val))) ∧
      (∀ (d : Word) (a : Fin 17592186044416) (w : Bool) (k : Nat), s.dbgLevel = some k → k ≤ 1 →
        exec (.tapDbgMem d a w) s = .next (s.emit (.tap 0))) ∧
      (∀ (d : Word) (a : Fin 17592186044416) (k : Nat), s.dbgLevel = some k → 2 ≤ k → s.hostUp = true → a.val % 8 = 0 →
        let m : Who := { m := .platform, unit := uPlinth }
        (∀ w, s.stopServes .platform a.val w = false → exec (.tapDbgMem d a w) s = .next (s.emit (.tap (dbgMem d a.val w 3)))) ∧
        (∀ u, s.stopServes .platform a.val true = true → (s.wakeBlock 1).devWrite m a.val (toLe 8 d.toNat) = (.ok (), u) →
          exec (.tapDbgMem d a true) s = .next (u.emit (.tap (dbgMem d a.val true 0)))) ∧
        (∀ bs u, s.stopServes .platform a.val false = true → (s.wakeBlock 1).devRead m a.val 8 = (.ok bs, u) →
          exec (.tapDbgMem d a false) s = .next (u.emit (.tap (dbgMem (BitVec.ofNat 64 (leNat bs)) a.val false 0)))) ∧
        (∀ st x u, s.stopServes .platform a.val false = true → (s.wakeBlock 1).devRead m a.val 8 = (.bad st x, u) →
          exec (.tapDbgMem d a false) s = .next (u.emit (.tap (dbgMem d a.val false (if st = stDenied then 1 else 2)))))) ∧
      (∀ c : Fin 16, s.dbgLevel ≠ some 3 → exec (.tapPrivate c) s = .next (s.emit (.tap 0)))) ∧
    (s.tapUp = false → ∀ i ∈ ([.tapBypass, .tapIdcode, .tapLcStatus, .tapLcChallenge] : List Instr), Idles i s)

/-- At a multiple of the interval the sampler writes one record, once; a record that does not reach its ring is counted as
missed. In a stop, and at other times, it writes none; in a reset of the unit the sample is discarded and counted (log 168). A sensor reading is kept with its time; a counter's selection clears
it. (After R453, R455.) The sampler's and the trace's ring are enabled where they fit the observation shelf beside each other,
with their counts cleared, and are disabled otherwise; a mark is traced and may trigger the stop. (After R449, R454, R457,
R460.) The global stop. SCHEDULE arms an idle stop for a time at least 2,000 ns ahead with a stop area that fits; CANCEL idles
an armed one; RESUME resumes a stopped one at once and is held while stopping. At T the fabric is cut, at T_u no unit
advances, the capture ends in STOPPED, and after MAX_US the stop resumes by itself. (After R460 to R465.) Sample instants,
enabling a ring, the checks of SCHEDULE, tile events in a stop and the resume are read in log 123, 124, 126, 97 and 127; the
stop area in log 70 and 135, a record that fails in log 137. -/
def Obligations.ObservationAndTheGlobalStop : Prop :=
  ((∀ s : State, s.serves uOu →
     let i := s.rfld rSmpCfg 19 0 * 1000
     let t := s.now / i * i
     let r := s.ouRecord rSmpCfg rSmpHead rSmpStat s.ou.smpCount 1024 (fun ph => sampleRecord s t ph)
     let due := s.rfld rSmpCfg 31 31 = 1 ∧ s.pln.power = 0 ∧ s.now - t < 40 ∧ s.ou.smpAt ≠ some t
     (¬ due → Idles .sampleInstant s) ∧
     (due → Answers .sampleInstant s fun u => u.ou.smpAt = some t ∧ u.dev = r.1.dev ∧
       (r.2 = true → u.ou.smpCount = r.1.ou.smpCount + 1 ∧ u.ou.missed = 0) ∧
       (r.2 = false → u.ou.smpCount = r.1.ou.smpCount ∧ u.ou.missed = min (r.1.ou.missed + 1) (2 ^ 32 - 1)))) ∧
   (∀ s : State, s.frozen = false → s.resetting uOu = true →
     let i := s.rfld rSmpCfg 19 0 * 1000
     let t := s.now / i * i
     s.rfld rSmpCfg 31 31 = 1 → s.pln.power = 0 → s.now - t < 40 → s.ou.smpAt ≠ some t → Answers .sampleInstant s fun u =>
       u.reg rSmpStat = (s.bump rSmpStat 63 48).reg rSmpStat ∧ u.ou.missed = min (s.ou.missed + 1) (2 ^ 32 - 1) ∧
       u.ou.smpAt = some t ∧ u.ou.smpCount = s.ou.smpCount) ∧
   (∀ (i : Fin 16) (k : Byte) (v : BitVec 32) (s : State),
     (s.coreUp = true → k.toNat ≤ 4 → exec (.sensorReading i k v) s = .next
       { s with ou := { s.ou with sensors := mapPut i.val (v.toNat, k.toNat, s.now) s.ou.sensors } }) ∧
     (s.coreUp = false ∨ 4 < k.toNat → Idles (.sensorReading i k v) s)) ∧
   (∀ (k : Fin 64) (v : Word) (s : State), s.mayReach (rCsel k.val) →
     let u := s.wakeBlock 1
     let w := u.setReg (rCsel k.val) (pack [(20, fld v 31 20), (16, fld v 16 16), (8, fld v 15 8), (0, fld v 7 0)])
     exec (.ouCselWrite 0 k v) s = .next ((w.setReg (rCtr k.val) 0).setRfld rOuGen 31 0 (w.rfld rOuGen 31 0 + 1)))) ∧
  (∀ (v : Word) (s : State), s.mayReach rSmpCfg → s.mayReach rTrcCfg → s.mayReach 0xA00218 →
     let u := s.wakeBlock 1
     let i := fld v 19 0
     let sv := pack [(40, fld v 63 40), (32, fld v 36 32), (31, 1), (30, fld v 30 30),
       (0, if 1 ≤ i ∧ i ≤ 1000000 then i else u.rfld rSmpCfg 19 0)]
     let so := u.setReg rSmpCfg (setFld sv 31 31 0)
     let tv := pack [(40, fld v 63 40), (32, fld v 36 32), (31, 1), (30, fld v 30 30), (24, fld v 24 24), (16, fld v 23 16), (0, fld v 8 0)]
     let t0 := u.setReg rTrcCfg (setFld tv 31 31 0)
     let okS := 4 ≤ fld v 36 32 ∧ fld v 36 32 ≤ 20 ∧ so.regionFits (smpRegion sv) so.ouRegions = true
     let okT := 4 ≤ fld v 36 32 ∧ fld v 36 32 ≤ 24 ∧ t0.regionFits (trcRegion tv) t0.ouRegions = true
     (¬ okS → exec (.ouSmpEnable 0 v) s = .next so) ∧
     (okS → u.rfld rSmpCfg 31 31 = 1 → exec (.ouSmpEnable 0 v) s = .next (u.setReg rSmpCfg sv)) ∧
     (okS → u.rfld rSmpCfg 31 31 = 0 → Answers (.ouSmpEnable 0 v) s fun t =>
       t.reg rSmpCfg = sv ∧ t.reg rSmpStat = 0 ∧ t.ou.smpCount = 0) ∧
     (¬ okT → exec (.ouTrcEnable 0 v) s = .next t0) ∧
     (okT → u.rfld rTrcCfg 31 31 = 1 → exec (.ouTrcEnable 0 v) s = .next (u.setReg rTrcCfg tv)) ∧
     (okT → u.rfld rTrcCfg 31 31 = 0 → Answers (.ouTrcEnable 0 v) s fun t =>
       t.reg rTrcCfg = tv ∧ t.reg rTrcStat = 0 ∧ t.ou.trcCount = 0) ∧
     exec (.ouTrcMarkWrite 0 v) s = .next ((u.trace 0x09 uHost none none (fld v 31 0) 0).stopTrigger 2)) ∧
  ((∀ (v : Word) (s u : State), s.takesChip 0xA00300 rStopResult u →
     let t := (u.reg 0xA00308).toNat
     (u.ou.stop ≠ .idle → exec (.ouStopSchedule 0 v) s = .next (u.result rStopResult errState 0)) ∧
     (u.ou.stop = .idle → t < u.now + 2000 → exec (.ouStopSchedule 0 v) s = .next (u.result rStopResult errArg 0)) ∧
     (u.ou.stop = .idle → u.now + 2000 ≤ t → u.regionFits (stopRegion (u.reg rStopArea)) u.ouRegions = true →
       let ou := { u.ou with stop := .armed, cause := 1, stopId := fld v 31 16, t := t, tu := t, fabric := u.rfld rStopCfg 8 8 == 1 }
       exec (.ouStopSchedule 0 v) s = .next ((({ u with ou := ou } : State).traceStop).result rStopResult errNone 0)) ∧
     (u.ou.stop = .armed → exec (.ouStopCancel 0 v) s = .next
       ((({ u with ou := { u.ou with stop := .idle } } : State).traceStop).result rStopResult errNone 0)) ∧
     (u.ou.stop ≠ .armed → exec (.ouStopCancel 0 v) s = .next (u.result rStopResult errState 0)) ∧
     (u.ou.stop = .stopped → exec (.ouStopResume 0 v) s = .next (({ u with ou := { u.ou with resume := true } } : State).stopResume)) ∧
     (u.ou.stop = .stopping → exec (.ouStopResume 0 v) s = .next { u with ou := { u.ou with resume := true } }) ∧
     (u.ou.stop = .idle ∨ u.ou.stop = .armed → exec (.ouStopResume 0 v) s = .next (u.result rStopResult errState 0))) ∧
   (∀ s : State, s.coreUp = true →
     (s.ou.stop = .armed → s.ou.t ≤ s.now → exec .stopTimeReached s = .next (s.enterStopping s.ou.cause s.ou.t s.ou.t s.ou.fabric)) ∧
     (s.ou.stop ≠ .armed ∨ s.now < s.ou.t → Idles .stopTimeReached s) ∧
     (s.ou.stop = .stopping → s.ou.tu ≤ s.now → exec .unitsStop s = .next { s with ou := { s.ou with unitsStopped := true } }) ∧
     (s.ou.stop ≠ .stopping ∨ s.now < s.ou.tu → Idles .unitsStop s) ∧
     (s.ou.stop = .stopping → s.ou.unitsStopped = true → s.ou.tu + 1000000 ≤ s.now →
       exec .stopPortRecordTimer s = .next { s with ou := { s.ou with portsDue := true } }) ∧
     (s.ou.stop ≠ .stopping ∨ s.ou.unitsStopped = false ∨ s.now < s.ou.tu + 1000000 → Idles .stopPortRecordTimer s) ∧
     (s.ou.stop = .stopping → s.ou.unitsStopped = true → s.portsReady = true →
       let u := ({ s.writeStop with ou := { s.writeStop.ou with stop := .stopped } } : State).traceStop
       exec .stopCaptureComplete s = .next (if u.ou.resume then u.stopResume else u)) ∧
     (s.ou.stop ≠ .stopping ∨ s.ou.unitsStopped = false ∨ s.portsReady = false → Idles .stopCaptureComplete s) ∧
     (let m := s.rfld rStopCfg 47 16
      (s.ou.stop = .stopped → m ≠ 0 → s.ou.tu + m * 1000 ≤ s.now → exec .stopAutoResume s = .next ((s.bump rOuGstat 31 16).stopResume)) ∧
      (s.ou.stop ≠ .stopped ∨ m = 0 ∨ s.now < s.ou.tu + m * 1000 → Idles .stopAutoResume s))))

/-- An access that is not 8 bytes, 8 B aligned, changes no register but BLK_ERR, and a read of it returns zeros: the first
such access is recorded whole, a later one only sets OVER. A write of 8 bytes acts at the platform's offset; a tenant
function's acts on its LIVE cabinet's operating registers only; one whose unit a reset holds waits (log 150). (After R20,
R492, R494, R495.) An access through BAR4 is the platform's or the bound cabinet's: a write is stored or dropped, a read
answers its bytes or aborts; one of an unbound function reaches nothing; one that a stop does not serve, or that meets the
Host Gate's own reset, is held. (After R380, R462, R474, R475.) A function's configuration is kept as given; a function-level
reset tears down every context of its cabinet and is answered when none is left; a completion tells what host memory holds, or
that its lines are in error. (After R40, R127, R474, R476, R477.) A field out of range, reads a function does not reach,
accesses beyond an aperture, FLR and PASID are read in log 125, 128, 129, 131 and 132. -/
def Obligations.RegisterHostAndFunctionAccesses : Prop :=
  ((∀ (o : Fin 16777216) (l : Fin 4097) (w : Bool) (s : State), s.hostUp = true → 0 < l.val → (l.val ≠ 8 ∨ o.val % 8 ≠ 0) →
     let u := s.wakeBlock 1
     let read (t : State) : State := if w then t else t.emit (.bytes (List.replicate l.val 0))
     (u.rfld 0x10 63 63 = 0 → exec (.badRegisterAccess 0 o l w) s = .next
       (read (u.setReg 0x10 (pack [(63, 1), (61, bit w), (48, 0), (24, o.val), (13, 0), (0, l.val)])))) ∧
     (u.rfld 0x10 63 63 = 1 → exec (.badRegisterAccess 0 o l w) s = .next (read (u.setRfld 0x10 62 62 1))) ∧
     (∀ (f : Func) (n : Nat), f ≠ 0 → o.val < 0x2000 → s.boundCab f.val = some n → u.rfld 0x10 63 63 = 0 →
       exec (.badRegisterAccess f o l w) s = .next (read (u.setReg 0x10
         (pack [(63, 1), (61, bit w), (48, f.val), (24, aperture n o.val), (13, 0), (0, l.val)])))) ∧
     (∀ f : Func, f ≠ 0 → o.val < 0x2000 → s.boundCab f.val = none → u.rfld 0x10 63 63 = 0 →
       exec (.badRegisterAccess f o l w) s = .next (read (u.setReg 0x10
         (pack [(63, 1), (61, bit w), (48, f.val), (24, o.val), (13, 1), (0, l.val)])))) ∧
     (∀ f : Func, f ≠ 0 → o.val < 0x2000 → u.rfld 0x10 63 63 = 1 →
       exec (.badRegisterAccess f o l w) s = .next (read (u.setRfld 0x10 62 62 1))) ∧
     (∀ f : Func, f ≠ 0 → 0x2000 ≤ o.val → exec (.badRegisterAccess f o l w) s = .next (read s))) ∧
   (∀ (f : Func) (o : Fin 16777216) (l : Fin 4097) (w : Bool) (s : State), l.val = 0 ∨ (l.val = 8 ∧ o.val % 8 = 0) →
     Idles (.badRegisterAccess f o l w) s) ∧
   (∀ (f : Func) (o : Fin 16777216) (v : Word) (s : State), s.hostUp = true → o.val % 8 ≠ 0 →
     exec (.registerWrite f o v) s = exec (.badRegisterAccess f o 8 true) s) ∧
   (∀ (o : Fin 16777216) (v : Word) (s : State), s.hostUp = true → o.val % 8 = 0 →
     ((s.wakeFor o.val).regHeld o.val = false → exec (.registerWrite 0 o v) s = .next ((s.wakeFor o.val).writeReg o.val v)) ∧
     ((s.wakeFor o.val).regHeld o.val = true → exec (.registerWrite 0 o v) s = .next ((s.wakeFor o.val).hold 0 o.val (some v))) ∧
     (∀ (f : Func) (n : Nat), f ≠ 0 → s.boundCab f.val = some n → 0x400 ≤ o.val → o.val < 0x1000 →
       ((s.wakeCab n 1).regHeld (rWin n + o.val) = false →
         exec (.registerWrite f o v) s = .next ((s.wakeCab n 1).writeReg (rWin n + o.val) v)) ∧
       ((s.wakeCab n 1).regHeld (rWin n + o.val) = true →
         exec (.registerWrite f o v) s = .next ((s.wakeCab n 1).hold f.val o.val (some v)))) ∧
     (∀ (f : Func), f ≠ 0 → s.boundCab f.val = none ∨ o.val < 0x400 ∨ 0x1000 ≤ o.val →
       exec (.registerWrite f o v) s = .next (s.wakeBlock 1))) ∧
   (∀ (f : Func) (o : Fin 16777216) (l : Fin 4097) (w : Bool) (v : Word) (s : State), s.hostUp = false →
     Idles (.badRegisterAccess f o l w) s ∧ Idles (.registerWrite f o v) s)) ∧
  (∀ (f : Func) (a : Fin 17592186044416) (l : Fin 4097) (s : State), s.hostUp = true → 0 < l.val →
     let u := s.wakeBlock 1
     let h : HostAccess := { func := f.val, addr := a.val, len := l.val, data := none }
     (s.stopLets h = false ∨ s.resetting uHost = true →
       exec (.hostMemoryAccess f a l none) s = .next { s with hg := { s.hg with held := s.hg.held ++ [h] } }) ∧
     (s.resetting uHost = false → s.stopLets h = true → u.hostMaster f.val = none → exec (.hostMemoryAccess f a l none) s = .next (u.emit .abort)) ∧
     (∀ m, s.resetting uHost = false → s.stopLets h = true → u.hostMaster f.val = some m →
       (∀ bs t, u.devRead { m := m, unit := uHost } a.val l.val = (.ok bs, t) →
         exec (.hostMemoryAccess f a l none) s = .next (t.emit (.bytes bs))) ∧
       (∀ st x t, u.devRead { m := m, unit := uHost } a.val l.val = (.bad st x, t) →
         exec (.hostMemoryAccess f a l none) s = .next (t.emit .abort))) ∧
     (∀ bs, bs.length = l.val → s.ou.unitsStopped = true ∨ s.resetting uHost = true → exec (.hostMemoryAccess f a l (some bs)) s = .next
       { s with hg := { s.hg with held := s.hg.held ++ [{ func := f.val, addr := a.val, len := l.val, data := some bs }] } }) ∧
     (∀ bs m, bs.length = l.val → s.ou.unitsStopped = false → s.resetting uHost = false →
       (u.hostMaster f.val = some m → exec (.hostMemoryAccess f a l (some bs)) s = .next (u.devWrite { m := m, unit := uHost } a.val bs).2) ∧
       (u.hostMaster f.val = none → exec (.hostMemoryAccess f a l (some bs)) s = .next u))) ∧
  (∀ (s : State), s.hostUp = true →
     (∀ (f : Func) (d : Word), Answers (.functionConfig f d) s fun t => mapGet 0 f.val t.hg.cfg = setFld d 31 10 0) ∧
     (∀ f : Func, (∀ e ∈ (s.wakeBlock 1).hg.flr, e.1 ≠ f.val) →
       (f = 0 ∨ (s.wakeBlock 1).boundCab f.val = none → exec (.flr f) s = .next ((s.wakeBlock 1).emit (.flrDone f.val))) ∧
       (∀ n, f ≠ 0 → (s.wakeBlock 1).boundCab f.val = some n →
         let u := s.wakeBlock 1
         let t := ((u.drw.ctxs.filter (fun e => e.1 / 16384 == n && e.2.st == .live)).map (fun e => e.1 % 16384)).foldl
           (fun s x => s.beginTeardown n x false none) u
         exec (.flr f) s = .next (({ t with hg := { t.hg with flr := t.hg.flr ++ [(f.val, n)] } } : State).endFlrs))) ∧
     (∀ (a : Fin 18446744073709551616) (bs : List Byte), Answers (.hostReadCompletion a (some bs)) s fun t =>
       t.hostMem = memWrite a.val bs s.hostMem ∧ ∀ l ∈ t.tu.badHost, overlaps (l * 128) 128 a.val bs.length = false) ∧
     (∀ a : Fin 18446744073709551616, Answers (.hostReadCompletion a none) s fun t => a.val / 128 ∈ t.tu.badHost ∧ t.hostMem = s.hostMem))

/-- Accesses from outside that complete, and those that wait. A misplaced access is reported, a register write acts, an access
through BAR4 is done, a completion, a function's configuration and a function-level reset take effect, each at once, where the
block is released and neither a stop nor a reset holds the access. A register write whose unit a reset holds waits at the Host
Gate, as a doorbell does that meets the Host Gate's own reset, and changes nothing else. A read through an aperture answers the
LIVE cabinet's operating registers and its report page, and 0 elsewhere; a read of a doorbell answers what was last accepted,
and 0 for a drawer FREE or DYING. (After R20, R21, R70, R380, R474, R475, R476, R477, R492, R495.) The order of held accesses
is read in log 150. -/
def Obligations.OutsideAccessesCompleteOrWait : Prop :=
  (∀ (f : Func) (o : Fin 16777216) (l : Fin 4097) (w : Bool) (s : State), s.hostUp = true → 0 < l.val → l.val ≠ 8 ∨ o.val % 8 ≠ 0 →
     exec (.badRegisterAccess f o l w) s = .next
       (if w then s.hostBad w f.val o.val l.val else (s.hostBad w f.val o.val l.val).emit (.bytes (List.replicate l.val 0)))) ∧
  (∀ (o : Fin 16777216) (v : Word) (s : State), s.hostUp = true → o.val % 8 = 0 → (s.wakeFor o.val).regHeld o.val = false →
     exec (.registerWrite 0 o v) s = .next ((s.wakeFor o.val).writeReg o.val v)) ∧
  (∀ (f : Func) (a : Fin 17592186044416) (l : Fin 4097) (s : State), s.hostUp = true → 0 < l.val → s.ou.unitsStopped = false →
     s.resetting uHost = false →
     exec (.hostMemoryAccess f a l none) s = .next
       ((s.wakeBlock 1).hostAccess { func := f.val, addr := a.val, len := l.val, data := none }) ∧
     ∀ bs : List Byte, 0 < bs.length → bs.length ≤ 4096 → exec (.hostMemoryAccess f a l (some bs)) s = .next
       ((s.wakeBlock 1).hostAccess { func := f.val, addr := a.val, len := bs.length, data := some bs })) ∧
  (∀ (a : Fin 18446744073709551616) (d : Option (List Byte)) (s : State), s.hostUp = true →
     exec (.hostReadCompletion a d) s = .next (hostCompletion a.val d s)) ∧
  (∀ (f : Func) (d : Word) (s : State), s.hostUp = true → exec (.functionConfig f d) s = .next (functionConfig f.val d s) ∧
     exec (.flr f) s = .next (flr f.val (s.wakeBlock 1))) ∧
  (∀ (g : GateId) (p : PortId) (n : CabId) (k : Fin 4) (c : Fin 64) (v : Word) (s : State), s.hostUp = true →
     let u := s.wakeBlock 1
     ∀ e ∈ ([(rSgNcfloor g.val, v, .sgNcfloorWrite 0 g v), (rFrNcfloor, v, .frNcfloorWrite 0 v), (rFrCfg, v, .fabricEnable 0 v),
         (rPgCfg p.val, setFld v 0 0 1, .portEnable 0 p v), (rPgCfg p.val, setFld v 0 0 0, .portDisable 0 p v),
         (rFrJob n.val, setFld v 32 32 1, .jobTagSet 0 n v), (rFrJob n.val, setFld v 32 32 0, .jobTagClear 0 n v),
         (rFrJob n.val + 8 + 8 * k.val, v, .frJobkeyWrite 0 n k v), (0x900088, v, .frAbortWrite 0 v), (rCsel c.val, v, .ouCselWrite 0 c v),
         (rSmpCfg, setFld v 31 31 1, .ouSmpEnable 0 v), (rTrcCfg, setFld v 31 31 1, .ouTrcEnable 0 v)] : List (Nat × Word × Instr)),
       u.regHeld e.1 = true → exec e.2.2 s = .next (u.hold 0 e.1 (some e.2.1))) ∧
  (∀ (f : Func) (o : Fin 16777216) (l : Nat) (x : Option Pasid) (v : Word) (s : State), s.hostUp = true → s.resetting uHost = true →
     exec (.doorbellWrite f o l x v) s = .next
       { s with hg := { s.hg with bells := s.hg.bells ++ [{ func := f.val, off := o.val, len := l, pasid := x.map (·.val), value := v }] } }) ∧
  (∀ (f : Nat) (s : State),
     (∀ o, s.readBy 0 o = s.readReg o) ∧
     (∀ n o, f ≠ 0 → s.boundCab f = some n → 0x400 ≤ o → o < 0x1000 → s.readBy f o = s.readReg (rWin n + o)) ∧
     (∀ n o, f ≠ 0 → s.boundCab f = some n → 0x1000 ≤ o → o < 0x2000 → s.readBy f o = s.readReg (rRep n + o % 0x1000)) ∧
     (∀ o, f ≠ 0 → s.boundCab f = none ∨ o < 0x400 ∨ 0x2000 ≤ o → s.readBy f o = 0) ∧
     (∀ n i, f ≠ 0 → s.boundCab f = some n → i < 8192 →
       s.readDoorbell f (8 * i) = if (s.drawer n i).st = .free ∨ (s.drawer n i).st = .dying then 0
         else pack [(32, (s.drawer n i).cqHead), (0, (s.drawer n i).tail)]) ∧
     (∀ n i, n < 256 → i < 8192 →
       s.readDoorbell 0 (65536 * n + 8 * i) = if (s.drawer n i).st = .free ∨ (s.drawer n i).st = .dying then 0
         else pack [(32, (s.drawer n i).cqHead), (0, (s.drawer n i).tail)]) ∧
     (∀ o, f ≠ 0 → s.boundCab f = none ∨ 65536 ≤ o → s.readDoorbell f o = 0))
end

