-- ==== Sys2Proof/Laws/Memory.lean ====
section
/-! SUPPORT. The sparse maps and memory: a read after a write, and every operation keeps the canonical form. -/

namespace Sys2Proof.Machine

/-- What a put answers to a look-up. -/
theorem mapFind_put {α : Type} (k j : Nat) (v : α) : ∀ {m : FMap α},
    mapFind j (mapPut k v m) = if j = k then some v else mapFind j m
  | [] => by simp [mapPut, mapFind, eq_comm]
  | (i, w) :: r => by
    simp only [mapPut]
    by_cases h1 : k < i
    · simp [h1, mapFind, eq_comm]
    · by_cases h2 : k = i
      · subst h2; by_cases hj : k = j <;> simp [mapFind, hj, eq_comm]
      · simp only [h1, h2, if_false, mapFind, mapFind_put k j v (m := r)]
        by_cases hj : i = j
        · have : ¬ j = k := by omega
          simp [hj, this]
        · simp [hj]

/-- A deleted key is unlisted; the others keep what they hold. -/
theorem mapFind_del {α : Type} (k j : Nat) : ∀ {m : FMap α},
    mapFind j (mapDel k m) = if j = k then none else mapFind j m
  | [] => by simp [mapDel, mapFind]
  | (i, w) :: r => by
    have ih := mapFind_del k j (m := r)
    by_cases hi : i = k
    · have e : mapDel k ((i, w) :: r) = mapDel k r := by simp [mapDel, hi]
      rw [e, ih]
      by_cases hj : j = k
      · simp [hj]
      · have : ¬ i = j := by omega
        simp [hj, mapFind, this]
    · have e : mapDel k ((i, w) :: r) = (i, w) :: mapDel k r := by simp [mapDel, hi]
      rw [e]
      by_cases hj : i = j
      · have : ¬ j = k := by omega
        simp [mapFind, hj, this]
      · simp [mapFind, hj, ih]

/-- A look-up after a set: the value written at its key, what stood there elsewhere. -/
theorem mapGet_set {α : Type} [DecidableEq α] (d : α) (k j : Nat) (v : α) (m : FMap α) :
    mapGet d j (mapSet d k v m) = if j = k then v else mapGet d j m := by
  unfold mapGet mapSet
  split
  · rw [mapFind_del]; split <;> simp_all
  · rw [mapFind_put]; split <;> simp_all

@[simp] theorem mapGet_set_same {α : Type} [DecidableEq α] (d : α) (k : Nat) (v : α) (m : FMap α) :
    mapGet d k (mapSet d k v m) = v := by simp [mapGet_set]

/-- A byte after a store of one byte. -/
theorem memByte_put (a b : Nat) (x : Byte) (m : Mem) :
    memByte (memPut a x m) b = if b = a then x else memByte m b := mapGet_set _ _ _ _ _

/-- A byte outside a store reads as before. -/
theorem memByte_write_outside (bs : List Byte) : ∀ (a : Nat) (m : Mem) {b : Nat}, b < a ∨ a + bs.length ≤ b →
    memByte (memWrite a bs m) b = memByte m b := by
  induction bs with
  | nil => intros; rfl
  | cons x r ih =>
    intro a m b h
    simp only [List.length_cons] at h
    rw [memWrite, ih _ _ (by omega), memByte_put, if_neg (by omega)]

/-- A byte inside a store is the byte stored. -/
theorem memByte_write_inside (bs : List Byte) : ∀ (a : Nat) (m : Mem) {i : Nat} (h : i < bs.length),
    memByte (memWrite a bs m) (a + i) = bs[i] := by
  induction bs with
  | nil => intro a m i h; simp at h
  | cons x r ih =>
    intro a m i h
    cases i with
    | zero =>
      rw [memWrite, memByte_write_outside _ _ _ (by omega), memByte_put]; simp
    | succ i =>
      have := ih (a + 1) (memPut a x m) (i := i) (by simpa using h)
      rw [memWrite, show a + (i + 1) = a + 1 + i by omega, this]; rfl

/-- Reading back what was stored. -/
theorem memRead_write (bs : List Byte) : ∀ (a : Nat) (m : Mem), memRead (memWrite a bs m) a bs.length = bs := by
  induction bs with
  | nil => intros; rfl
  | cons x r ih =>
    intro a m
    simp only [List.length_cons, memRead, memWrite]
    rw [ih, memByte_write_outside _ _ _ (by omega), memByte_put]; simp

theorem mapRising_mono {α : Type} {m : FMap α} : ∀ {lo hi : Nat}, lo ≤ hi → mapRising hi m = true → mapRising lo m = true := by
  cases m with
  | nil => intros; rfl
  | cons e r =>
    intro lo hi h k
    simp only [mapRising, Bool.and_eq_true, decide_eq_true_eq] at k ⊢
    exact ⟨by omega, k.2⟩

theorem mapRising_filter {α : Type} (p : Nat × α → Bool) : ∀ {m : FMap α} {lo : Nat}, mapRising lo m = true → mapRising lo (m.filter p) = true := by
  intro m
  induction m with
  | nil => intro lo _; rfl
  | cons e r ih =>
    intro lo h
    simp only [mapRising, Bool.and_eq_true, decide_eq_true_eq] at h
    simp only [List.filter]
    split
    · simp only [mapRising, Bool.and_eq_true, decide_eq_true_eq]
      exact ⟨h.1, ih h.2⟩
    · exact mapRising_mono (by omega) (ih h.2)

theorem mapRising_put {α : Type} (k : Nat) (v : α) : ∀ {m : FMap α} {lo : Nat}, mapRising lo m = true → lo ≤ k →
    mapRising lo (mapPut k v m) = true := by
  intro m
  induction m with
  | nil => intro lo _ h; simp [mapPut, mapRising, h]
  | cons e r ih =>
    intro lo h hk
    simp only [mapRising, Bool.and_eq_true, decide_eq_true_eq] at h
    simp only [mapPut]
    split
    · simp only [mapRising, Bool.and_eq_true, decide_eq_true_eq]
      exact ⟨hk, by omega, h.2⟩
    · split
      · simp only [mapRising, Bool.and_eq_true, decide_eq_true_eq]
        subst_vars
        exact ⟨hk, h.2⟩
      · simp only [mapRising, Bool.and_eq_true, decide_eq_true_eq]
        exact ⟨h.1, ih h.2 (by omega)⟩

theorem mem_mapPut {α : Type} {k : Nat} {v : α} {e : Nat × α} : ∀ {m : FMap α}, e ∈ mapPut k v m → e = (k, v) ∨ e ∈ m := by
  intro m
  induction m with
  | nil => intro h; simpa [mapPut] using h
  | cons x r ih =>
    intro h
    simp only [mapPut] at h
    split at h
    · simpa using h
    · split at h
      · simp only [List.mem_cons] at h ⊢
        rcases h with h | h
        · exact .inl h
        · exact .inr (.inr h)
      · simp only [List.mem_cons] at h ⊢
        rcases h with h | h
        · exact .inr (.inl h)
        · rcases ih h with h | h
          · exact .inl h
          · exact .inr (.inr h)

theorem mapSet_wf {α : Type} [DecidableEq α] {d : α} {m : FMap α} (k : Nat) (v : α) (h : mapWf d m = true) :
    mapWf d (mapSet d k v m) = true := by
  simp only [mapWf, Bool.and_eq_true, List.all_eq_true, bne_iff_ne, ne_eq] at h ⊢
  unfold mapSet
  split
  · exact ⟨mapRising_filter _ h.1, fun e he => h.2 e (List.mem_filter.mp he).1⟩
  · refine ⟨mapRising_put k v h.1 (Nat.zero_le _), fun e he => ?_⟩
    rcases mem_mapPut he with rfl | he
    · assumption
    · exact h.2 e he

theorem memPut_wf {m : Mem} (a : Nat) (x : Byte) (h : Memory.wf m = true) : Memory.wf (memPut a x m) = true := mapSet_wf a x h

theorem memWrite_wf (bs : List Byte) : ∀ (a : Nat) {m : Mem}, Memory.wf m = true → Memory.wf (memWrite a bs m) = true := by
  induction bs with
  | nil => exact fun _ _ h => h
  | cons x r ih => exact fun a _ h => ih (a + 1) (memPut_wf a x h)

theorem memZero_wf {m : Mem} (a n : Nat) (h : Memory.wf m = true) : Memory.wf (memZero a n m) = true := by
  simp only [Memory.wf, mapWf, Bool.and_eq_true, List.all_eq_true, bne_iff_ne, ne_eq] at h ⊢
  exact ⟨mapRising_filter _ h.1, fun e he => h.2 e (List.mem_filter.mp he).1⟩

end Sys2Proof.Machine
end

