-- ==== Sys2Proof/Laws/Kept.lean ====
section
/-! SUPPORT. What every operation keeps, said once. `Kept m o s`: from `o` to `s`, every field of State that is a bit of the
mask `m` is unchanged, a burned life-cycle fuse bit stays burned (R431), and device and host memory stay in canonical form.
One lemma per shape of a definition's body; the files Kept<File>.lean apply them to each operation, whose own mask names the
fields it may change. -/

namespace Sys2Proof.Machine

/-- The fields of `m` are the same in both states; what always holds of memory and the fuses is kept. -/
structure Kept (m : Nat) (o s : State) : Prop where
  pending : m.testBit 0 = true → s.pending = o.pending
  out : m.testBit 1 = true → s.out = o.out
  now : m.testBit 2 = true → s.now = o.now
  tie : m.testBit 3 = true → s.tie = o.tie
  free : m.testBit 4 = true → s.free = o.free
  regs : m.testBit 5 = true → s.regs = o.regs
  dev : m.testBit 6 = true → s.dev = o.dev
  hostMem : m.testBit 7 = true → s.hostMem = o.hostMem
  lost : m.testBit 8 = true → s.lost = o.lost
  cabs : m.testBit 9 = true → s.cabs = o.cabs
  drw : m.testBit 10 = true → s.drw = o.drw
  lat : m.testBit 11 = true → s.lat = o.lat
  tu : m.testBit 12 = true → s.tu = o.tu
  ts : m.testBit 13 = true → s.ts = o.ts
  mix : m.testBit 14 = true → s.mix = o.mix
  hg : m.testBit 15 = true → s.hg = o.hg
  rcv : m.testBit 16 = true → s.rcv = o.rcv
  ou : m.testBit 17 = true → s.ou = o.ou
  mono : m.testBit 18 = true → s.mono = o.mono
  ft : m.testBit 19 = true → s.ft = o.ft
  me : m.testBit 20 = true → s.me = o.me
  dce : m.testBit 21 = true → s.dce = o.dce
  fr : m.testBit 22 = true → s.fr = o.fr
  sb : m.testBit 23 = true → s.sb = o.sb
  pln : m.testBit 24 = true → s.pln = o.pln
  lc : m.testBit 25 = true → s.lc = o.lc
  fuse : m.testBit 26 = true → s.fuse = o.fuse
  sg : m.testBit 27 = true → s.sg = o.sg
  urg : m.testBit 28 = true → s.urg = o.urg
  burned : ∀ b, b < 1024 → o.fuse.lc &&& b = b → s.fuse.lc &&& b = b
  devWf : Memory.wf o.dev = true → Memory.wf s.dev = true
  hostWf : Memory.wf o.hostMem = true → Memory.wf s.hostMem = true

/-- `u` differs from `s` at most in the fields of `w`. -/
structure Upd (w : Nat) (s u : State) : Prop where
  pending : w.testBit 0 = true ∨ u.pending = s.pending
  out : w.testBit 1 = true ∨ u.out = s.out
  now : w.testBit 2 = true ∨ u.now = s.now
  tie : w.testBit 3 = true ∨ u.tie = s.tie
  free : w.testBit 4 = true ∨ u.free = s.free
  regs : w.testBit 5 = true ∨ u.regs = s.regs
  dev : w.testBit 6 = true ∨ u.dev = s.dev
  hostMem : w.testBit 7 = true ∨ u.hostMem = s.hostMem
  lost : w.testBit 8 = true ∨ u.lost = s.lost
  cabs : w.testBit 9 = true ∨ u.cabs = s.cabs
  drw : w.testBit 10 = true ∨ u.drw = s.drw
  lat : w.testBit 11 = true ∨ u.lat = s.lat
  tu : w.testBit 12 = true ∨ u.tu = s.tu
  ts : w.testBit 13 = true ∨ u.ts = s.ts
  mix : w.testBit 14 = true ∨ u.mix = s.mix
  hg : w.testBit 15 = true ∨ u.hg = s.hg
  rcv : w.testBit 16 = true ∨ u.rcv = s.rcv
  ou : w.testBit 17 = true ∨ u.ou = s.ou
  mono : w.testBit 18 = true ∨ u.mono = s.mono
  ft : w.testBit 19 = true ∨ u.ft = s.ft
  me : w.testBit 20 = true ∨ u.me = s.me
  dce : w.testBit 21 = true ∨ u.dce = s.dce
  fr : w.testBit 22 = true ∨ u.fr = s.fr
  sb : w.testBit 23 = true ∨ u.sb = s.sb
  pln : w.testBit 24 = true ∨ u.pln = s.pln
  lc : w.testBit 25 = true ∨ u.lc = s.lc
  fuse : w.testBit 26 = true ∨ u.fuse = s.fuse
  sg : w.testBit 27 = true ∨ u.sg = s.sg
  urg : w.testBit 28 = true ∨ u.urg = s.urg

theorem Kept.refl (m : Nat) (s : State) : Kept m s s := by constructor <;> intros <;> first | rfl | assumption

theorem Kept.trans {m : Nat} {o s u : State} (h : Kept m o s) (k : Kept m s u) : Kept m o u := by
  constructor
  · exact fun e => (k.pending e).trans (h.pending e)
  · exact fun e => (k.out e).trans (h.out e)
  · exact fun e => (k.now e).trans (h.now e)
  · exact fun e => (k.tie e).trans (h.tie e)
  · exact fun e => (k.free e).trans (h.free e)
  · exact fun e => (k.regs e).trans (h.regs e)
  · exact fun e => (k.dev e).trans (h.dev e)
  · exact fun e => (k.hostMem e).trans (h.hostMem e)
  · exact fun e => (k.lost e).trans (h.lost e)
  · exact fun e => (k.cabs e).trans (h.cabs e)
  · exact fun e => (k.drw e).trans (h.drw e)
  · exact fun e => (k.lat e).trans (h.lat e)
  · exact fun e => (k.tu e).trans (h.tu e)
  · exact fun e => (k.ts e).trans (h.ts e)
  · exact fun e => (k.mix e).trans (h.mix e)
  · exact fun e => (k.hg e).trans (h.hg e)
  · exact fun e => (k.rcv e).trans (h.rcv e)
  · exact fun e => (k.ou e).trans (h.ou e)
  · exact fun e => (k.mono e).trans (h.mono e)
  · exact fun e => (k.ft e).trans (h.ft e)
  · exact fun e => (k.me e).trans (h.me e)
  · exact fun e => (k.dce e).trans (h.dce e)
  · exact fun e => (k.fr e).trans (h.fr e)
  · exact fun e => (k.sb e).trans (h.sb e)
  · exact fun e => (k.pln e).trans (h.pln e)
  · exact fun e => (k.lc e).trans (h.lc e)
  · exact fun e => (k.fuse e).trans (h.fuse e)
  · exact fun e => (k.sg e).trans (h.sg e)
  · exact fun e => (k.urg e).trans (h.urg e)
  · exact fun b hb e => k.burned b hb (h.burned b hb e)
  · exact fun e => k.devWf (h.devWf e)
  · exact fun e => k.hostWf (h.hostWf e)

theorem sub {m w v : Nat} (h : m &&& w = 0) (e : v &&& w = v := by decide) : m &&& v = 0 := by
  rw [← e, ← Nat.and_assoc, Nat.and_comm m v, Nat.and_assoc, h, Nat.and_zero]

theorem sameOf {α : Type} {m w i : Nat} {x y z : α} (hm : m &&& w = 0) (c : w.testBit i = true ∨ x = y)
    (h : m.testBit i = true → y = z) (e : m.testBit i = true) : x = z := by
  rcases c with c | c
  · have := congrArg (Nat.testBit · i) hm
    simp [e, c] at this
  · exact c.trans (h e)

variable {m w : Nat} {o s u : State}

theorem keptFuse (hm : m &&& w = 0) (c : Upd w s u)
    (h3 : ∀ b, b < 1024 → s.fuse.lc &&& b = b → u.fuse.lc &&& b = b) (h4 : u.dev = s.dev) (h5 : u.hostMem = s.hostMem)
    (h : Kept m o s) : Kept m o u := by
  constructor
  · exact sameOf hm c.pending h.pending
  · exact sameOf hm c.out h.out
  · exact sameOf hm c.now h.now
  · exact sameOf hm c.tie h.tie
  · exact sameOf hm c.free h.free
  · exact sameOf hm c.regs h.regs
  · exact sameOf hm c.dev h.dev
  · exact sameOf hm c.hostMem h.hostMem
  · exact sameOf hm c.lost h.lost
  · exact sameOf hm c.cabs h.cabs
  · exact sameOf hm c.drw h.drw
  · exact sameOf hm c.lat h.lat
  · exact sameOf hm c.tu h.tu
  · exact sameOf hm c.ts h.ts
  · exact sameOf hm c.mix h.mix
  · exact sameOf hm c.hg h.hg
  · exact sameOf hm c.rcv h.rcv
  · exact sameOf hm c.ou h.ou
  · exact sameOf hm c.mono h.mono
  · exact sameOf hm c.ft h.ft
  · exact sameOf hm c.me h.me
  · exact sameOf hm c.dce h.dce
  · exact sameOf hm c.fr h.fr
  · exact sameOf hm c.sb h.sb
  · exact sameOf hm c.pln h.pln
  · exact sameOf hm c.lc h.lc
  · exact sameOf hm c.fuse h.fuse
  · exact sameOf hm c.sg h.sg
  · exact sameOf hm c.urg h.urg
  · exact fun b hb e => h3 b hb (h.burned b hb e)
  · rw [h4]; exact h.devWf
  · rw [h5]; exact h.hostWf

theorem keptMem (hm : m &&& w = 0) (c : Upd w s u) (h3 : u.fuse = s.fuse)
    (h4 : Memory.wf s.dev = true → Memory.wf u.dev = true) (h5 : Memory.wf s.hostMem = true → Memory.wf u.hostMem = true)
    (h : Kept m o s) : Kept m o u := by
  constructor
  · exact sameOf hm c.pending h.pending
  · exact sameOf hm c.out h.out
  · exact sameOf hm c.now h.now
  · exact sameOf hm c.tie h.tie
  · exact sameOf hm c.free h.free
  · exact sameOf hm c.regs h.regs
  · exact sameOf hm c.dev h.dev
  · exact sameOf hm c.hostMem h.hostMem
  · exact sameOf hm c.lost h.lost
  · exact sameOf hm c.cabs h.cabs
  · exact sameOf hm c.drw h.drw
  · exact sameOf hm c.lat h.lat
  · exact sameOf hm c.tu h.tu
  · exact sameOf hm c.ts h.ts
  · exact sameOf hm c.mix h.mix
  · exact sameOf hm c.hg h.hg
  · exact sameOf hm c.rcv h.rcv
  · exact sameOf hm c.ou h.ou
  · exact sameOf hm c.mono h.mono
  · exact sameOf hm c.ft h.ft
  · exact sameOf hm c.me h.me
  · exact sameOf hm c.dce h.dce
  · exact sameOf hm c.fr h.fr
  · exact sameOf hm c.sb h.sb
  · exact sameOf hm c.pln h.pln
  · exact sameOf hm c.lc h.lc
  · exact sameOf hm c.fuse h.fuse
  · exact sameOf hm c.sg h.sg
  · exact sameOf hm c.urg h.urg
  · rw [h3]; exact h.burned
  · exact fun e => h4 (h.devWf e)
  · exact fun e => h5 (h.hostWf e)

theorem keptUpd (hm : m &&& w = 0) (c : Upd w s u) (h3 : u.fuse = s.fuse) (h4 : u.dev = s.dev) (h5 : u.hostMem = s.hostMem)
    (h : Kept m o s) : Kept m o u := keptMem hm c h3 (fun e => h4 ▸ e) (fun e => h5 ▸ e) h

theorem and_or_keeps {x y b : Nat} (h : x &&& b = b) : (x ||| y) &&& b = b := by
  apply Nat.eq_of_testBit_eq
  intro i
  have := congrArg (Nat.testBit · i) h
  simp only [Nat.testBit_and, Nat.testBit_or] at this ⊢
  cases hx : x.testBit i <;> cases hb : b.testBit i <;> simp_all

theorem and_mod_keeps {x b : Nat} (hb : b < 1024) (h : x &&& b = b) : x % 1024 &&& b = b := by
  apply Nat.eq_of_testBit_eq
  intro i
  have := congrArg (Nat.testBit · i) h
  have e : (1024 : Nat) = 2 ^ 10 := by decide
  simp only [Nat.testBit_and] at this ⊢
  rw [e, Nat.testBit_mod_two_pow]
  by_cases hi : i < 10
  · simpa [hi] using this
  · have : b.testBit i = false := Nat.testBit_lt_two_pow (Nat.lt_of_lt_of_le hb (by rw [e]; exact Nat.pow_le_pow_right (by decide) (by omega)))
    simp [this]

theorem keptNext {s : State} (h : Kept m o s) (s' : State) (e : (.next s : Host.Outcome State Fault Refusal) = .next s') :
    Kept m o s' := by cases e; exact h

theorem keptNextIte {c : Prop} [Decidable c] {x y : Host.Outcome State Fault Refusal} (hx : ∀ s', x = .next s' → Kept m o s')
    (hy : ∀ s', y = .next s' → Kept m o s') (s' : State) (e : (if c then x else y) = .next s') : Kept m o s' := by
  split at e
  · exact hx s' e
  · exact hy s' e

theorem keptFault {f : Fault} (s' : State) (e : (.fault f : Host.Outcome State Fault Refusal) = .next s') : Kept m o s' := by cases e

theorem keptRefused {f : Refusal} (s' : State) (e : (.refused f : Host.Outcome State Fault Refusal) = .next s') : Kept m o s' := by cases e

theorem keptIte {c : Prop} [Decidable c] {s u : State} (h : Kept m o s) (k : Kept m o u) :
    Kept m o (if c then s else u) := by split <;> assumption

theorem foldlKept {γ : Type} {g : State → γ → State} (hg : ∀ s x, Kept m o s → Kept m o (g s x)) {l : List γ} :
    ∀ {s : State}, Kept m o s → Kept m o (l.foldl g s) := by
  induction l with
  | nil => exact fun h => h
  | cons x r ih => exact fun h => ih (hg _ _ h)

theorem keptIte1 {α : Type} {c : Prop} [Decidable c] {s u : State × α} (h : Kept m o s.1) (k : Kept m o u.1) :
    Kept m o (if c then s else u).1 := by split <;> assumption

theorem foldlKept1 {α : Type} {γ : Type} {g : State × α → γ → State × α} (hg : ∀ s x, Kept m o s.1 → Kept m o (g s x).1) {l : List γ} :
    ∀ {s : State × α}, Kept m o s.1 → Kept m o (l.foldl g s).1 := by
  induction l with
  | nil => exact fun h => h
  | cons x r ih => exact fun h => ih (hg _ _ h)

theorem keptIte2 {α : Type} {c : Prop} [Decidable c] {s u : α × State} (h : Kept m o s.2) (k : Kept m o u.2) :
    Kept m o (if c then s else u).2 := by split <;> assumption

theorem foldlKept2 {α : Type} {γ : Type} {g : α × State → γ → α × State} (hg : ∀ s x, Kept m o s.2 → Kept m o (g s x).2) {l : List γ} :
    ∀ {s : α × State}, Kept m o s.2 → Kept m o (l.foldl g s).2 := by
  induction l with
  | nil => exact fun h => h
  | cons x r ih => exact fun h => ih (hg _ _ h)

theorem keptIte22 {α : Type} {α2 : Type} {c : Prop} [Decidable c] {s u : α × α2 × State} (h : Kept m o s.2.2) (k : Kept m o u.2.2) :
    Kept m o (if c then s else u).2.2 := by split <;> assumption

theorem foldlKept22 {α : Type} {α2 : Type} {γ : Type} {g : α × α2 × State → γ → α × α2 × State} (hg : ∀ s x, Kept m o s.2.2 → Kept m o (g s x).2.2) {l : List γ} :
    ∀ {s : α × α2 × State}, Kept m o s.2.2 → Kept m o (l.foldl g s).2.2 := by
  induction l with
  | nil => exact fun h => h
  | cons x r ih => exact fun h => ih (hg _ _ h)

theorem keptPair2 {α : Type} {x : α × State} {a : α} {s : State} (e : x = (a, s)) (h : Kept m o x.2) : Kept m o s := by
  subst e; exact h

theorem keptPair1 {α : Type} {x : State × α} {a : α} {s : State} (e : x = (s, a)) (h : Kept m o x.1) : Kept m o s := by
  subst e; exact h

theorem keptPair22 {α β : Type} {x : α × β × State} {a : α} {c : β} {s : State} (e : x = (a, c, s)) (h : Kept m o x.2.2) : Kept m o s := by
  subst e; exact h

end Sys2Proof.Machine
end

