-- ==== Sys2Proof/Laws/Frame.lean ====
section
/-! SUPPORT. The pieces of State as bits of the masks that the Kept lemmas use. -/

namespace Sys2Proof.Machine

/-- The bit of a piece in a mask. -/
def Piece.bit : Piece → Nat
  | .pending => 0 | .out => 1 | .now => 2 | .tie => 3 | .free => 4 | .regs => 5 | .dev => 6 | .hostMem => 7
  | .lost => 8 | .cabs => 9 | .drw => 10 | .lat => 11 | .tu => 12 | .ts => 13 | .mix => 14 | .hg => 15 | .rcv => 16
  | .ou => 17 | .mono => 18 | .ft => 19 | .me => 20 | .dce => 21 | .fr => 22 | .sb => 23 | .pln => 24 | .lc => 25
  | .fuse => 26 | .sg => 27 | .urg => 28

/-- A piece of the mask is unchanged. -/
theorem Kept.piece {m : Nat} {o s : State} (h : Kept m o s) (p : Piece) (e : m.testBit p.bit = true) : p.same o s := by
  cases p
  · exact h.pending e
  · exact h.out e
  · exact h.now e
  · exact h.tie e
  · exact h.free e
  · exact h.regs e
  · exact h.dev e
  · exact h.hostMem e
  · exact h.lost e
  · exact h.cabs e
  · exact h.drw e
  · exact h.lat e
  · exact h.tu e
  · exact h.ts e
  · exact h.mix e
  · exact h.hg e
  · exact h.rcv e
  · exact h.ou e
  · exact h.mono e
  · exact h.ft e
  · exact h.me e
  · exact h.dce e
  · exact h.fr e
  · exact h.sb e
  · exact h.pln e
  · exact h.lc e
  · exact h.fuse e
  · exact h.sg e
  · exact h.urg e

end Sys2Proof.Machine
end

