-- ==== Sys2Proof/Laws/KeptFlags.lean ====
section
/-! SUPPORT. For each operation of Machine/Flags.lean, and for each command meaning there: the fields of State it
    never changes (the bits not set in its mask), and that it keeps what Laws/Kept.lean names. -/

namespace Sys2Proof.Machine
set_option Elab.async false
variable {m : Nat} {o : State}

theorem kept_State_setReg {v0 : State} {v1 : Nat} {v2 : Word} (hm : m &&& 32 = 0) (g0 : Kept m o v0) :
    Kept m o (State.setReg v0 v1 v2) := by
  unfold State.setReg
  exact keptUpd hm (s := v0) (by constructor <;> first | exact .inl rfl | exact .inr rfl) rfl rfl rfl g0

theorem kept_State_setRfld {v0 : State} {v1 : Nat} {v2 : Nat} {v3 : Nat} {v4 : Nat} (hm : m &&& 32 = 0) (g0 : Kept m o v0) :
    Kept m o (State.setRfld v0 v1 v2 v3 v4) := by
  unfold State.setRfld
  exact kept_State_setReg (sub hm) g0

theorem kept_State_bump {v0 : State} {v1 : Nat} {v2 : Nat} {v3 : Nat} {v4 : optParam Nat 1} (hm : m &&& 32 = 0) (g0 : Kept m o v0) :
    Kept m o (State.bump v0 v1 v2 v3 v4) := by
  unfold State.bump
  exact kept_State_setRfld (sub hm) g0

theorem kept_State_emit {v0 : State} {v1 : Out} (hm : m &&& 2 = 0) (g0 : Kept m o v0) :
    Kept m o (State.emit v0 v1) := by
  unfold State.emit
  exact keptUpd hm (s := v0) (by constructor <;> first | exact .inl rfl | exact .inr rfl) rfl rfl rfl g0

end Sys2Proof.Machine
end

