-- ==== Sys2Proof/Laws/KeptOps.lean ====
section
/-! SUPPORT. For each operation of Machine/Ops.lean, and for each command meaning there: the fields of State it
    never changes (the bits not set in its mask), and that it keeps what Laws/Kept.lean names. -/

namespace Sys2Proof.Machine
set_option Elab.async false
variable {m : Nat} {o : State}

theorem kept_State_setCab {v0 : State} {v1 : Nat} {v2 : Cab} (hm : m &&& 512 = 0) (g0 : Kept m o v0) :
    Kept m o (State.setCab v0 v1 v2) := by
  unfold State.setCab
  exact keptUpd hm (s := v0) (by constructor <;> first | exact .inl rfl | exact .inr rfl) rfl rfl rfl g0

theorem kept_State_setCtx {v0 : State} {v1 : Nat} {v2 : Nat} {v3 : Ctx} (hm : m &&& 1024 = 0) (g0 : Kept m o v0) :
    Kept m o (State.setCtx v0 v1 v2 v3) := by
  unfold State.setCtx
  exact keptUpd hm (s := v0) (by constructor <;> first | exact .inl rfl | exact .inr rfl) rfl rfl rfl g0

theorem kept_State_setDrawer {v0 : State} {v1 : Nat} {v2 : Nat} {v3 : Drawer} (hm : m &&& 1024 = 0) (g0 : Kept m o v0) :
    Kept m o (State.setDrawer v0 v1 v2 v3) := by
  unfold State.setDrawer
  exact keptUpd hm (s := v0) (by constructor <;> first | exact .inl rfl | exact .inr rfl) rfl rfl rfl g0

theorem kept_State_setObj {v0 : State} {v1 : Nat} {v2 : MObj} (hm : m &&& 1024 = 0) (g0 : Kept m o v0) :
    Kept m o (State.setObj v0 v1 v2) := by
  unfold State.setObj
  exact keptUpd hm (s := v0) (by constructor <;> first | exact .inl rfl | exact .inr rfl) rfl rfl rfl g0

theorem kept_State_setLatch {v0 : State} {v1 : Nat} {v2 : Latch} (hm : m &&& 2048 = 0) (g0 : Kept m o v0) :
    Kept m o (State.setLatch v0 v1 v2) := by
  unfold State.setLatch
  exact keptUpd hm (s := v0) (by constructor <;> first | exact .inl rfl | exact .inr rfl) rfl rfl rfl g0

theorem kept_State_setTile {v0 : State} {v1 : Nat} {v2 : Tile} (hm : m &&& 8192 = 0) (g0 : Kept m o v0) :
    Kept m o (State.setTile v0 v1 v2) := by
  unfold State.setTile
  exact keptUpd hm (s := v0) (by constructor <;> first | exact .inl rfl | exact .inr rfl) rfl rfl rfl g0

theorem kept_State_setGran {v0 : State} {v1 : Nat} {v2 : Gran} (hm : m &&& 4096 = 0) (g0 : Kept m o v0) :
    Kept m o (State.setGran v0 v1 v2) := by
  unfold State.setGran
  exact keptUpd hm (s := v0) (by constructor <;> first | exact .inl rfl | exact .inr rfl) rfl rfl rfl g0

theorem kept_State_setUnitSt {v0 : State} {v1 : Nat} {v2 : UnitSt} (hm : m &&& 65536 = 0) (g0 : Kept m o v0) :
    Kept m o (State.setUnitSt v0 v1 v2) := by
  unfold State.setUnitSt
  exact keptUpd hm (s := v0) (by constructor <;> first | exact .inl rfl | exact .inr rfl) rfl rfl rfl g0

theorem kept_State_work {v0 : State} {v1 : Nat} {v2 : State → State} (hm : m &&& 0 = 0) (g0 : Kept m o v0) (g2 : ∀ a0, Kept m o a0 → Kept m o (v2 a0)) :
    Kept m o (State.work v0 v1 v2) := by
  unfold State.work
  exact keptIte g0 (g2 _ g0)

theorem kept_State_tick {v0 : State} (hm : m &&& 262148 = 0) (g0 : Kept m o v0) :
    Kept m o (State.tick v0) := by
  unfold State.tick
  exact keptIte g0 (keptUpd hm (s := v0) (by constructor <;> first | exact .inl rfl | exact .inr rfl) rfl rfl rfl g0)

theorem kept_State_tally {v0 : State} {v1 : Nat} {v2 : Nat} {v3 : Option Nat} {v4 : optParam Nat 1} (hm : m &&& 32 = 0) (g0 : Kept m o v0) :
    Kept m o (State.tally v0 v1 v2 v3 v4) := by
  unfold State.tally
  refine keptIte ?_ ?_
  · exact g0
  · refine foldlKept ?_ ?_
    · intro a0 a1 a2
      extract_lets +onlyGivenNames -merge -underBinder x3
      clear_value x3
      exact keptIte (kept_State_setReg (sub hm) a2) a2
    · exact g0

theorem kept_State_carry {v0 : State} {v1 : Nat} {v2 : Option Nat} {v3 : Nat} (hm : m &&& 32 = 0) (g0 : Kept m o v0) :
    Kept m o (State.carry v0 v1 v2 v3) := by
  unfold State.carry
  refine keptIte ?_ ?_
  · exact g0
  · refine foldlKept ?_ ?_
    · intro a0 a1 a2
      extract_lets +onlyGivenNames -merge -underBinder x3
      clear_value x3
      exact keptIte (kept_State_setReg (sub hm) a2) a2
    · exact g0

theorem kept_State_freeWord {v0 : State} (hm : m &&& 16 = 0) (g0 : Kept m o v0) :
    Kept m o (State.freeWord v0).2 := by
  unfold State.freeWord
  dsimp only [id]
  exact keptUpd hm (s := v0) (by constructor <;> first | exact .inl rfl | exact .inr rfl) rfl rfl rfl g0

theorem kept_State_devPut {v0 : State} {v1 : Nat} {v2 : List Byte} (hm : m &&& 320 = 0) (g0 : Kept m o v0) :
    Kept m o (State.devPut v0 v1 v2) := by
  unfold State.devPut
  exact keptMem hm (s := v0) (by constructor <;> first | exact .inl rfl | exact .inr rfl) rfl (memWrite_wf _ _) (fun h => h) g0

theorem kept_State_setGate {v0 : State} {v1 : Nat} {v2 : SgUnit} (hm : m &&& 134217728 = 0) (g0 : Kept m o v0) :
    Kept m o (State.setGate v0 v1 v2) := by
  unfold State.setGate
  exact keptUpd hm (s := v0) (by constructor <;> first | exact .inl rfl | exact .inr rfl) rfl rfl rfl g0

theorem kept_State_charge {v0 : State} {v1 : Nat} {v2 : Who} {v3 : Nat} (hm : m &&& 134219264 = 0) (g0 : Kept m o v0) :
    Kept m o (State.charge v0 v1 v2 v3) := by
  unfold State.charge
  extract_lets +onlyGivenNames -merge -underBinder x0 x1 x2
  clear_value x0 x1 x2
  extract_lets +onlyGivenNames -merge -underBinder x3
  have h4 : Kept m o x3 := by
    unfold x3
    exact kept_State_setGate (sub hm) g0
  clear_value x3
  split
  · extract_lets +onlyGivenNames -merge -underBinder x5 x6 x7
    clear_value x5 x6 x7
    extract_lets +onlyGivenNames -merge -underBinder x8
    have h9 : Kept m o x8 := by
      unfold x8
      exact kept_State_setCab (sub hm) h4
    clear_value x8
    split
    · extract_lets +onlyGivenNames -merge -underBinder x10
      clear_value x10
      exact kept_State_setCtx (sub hm) h9
    · exact h9
  · exact h4

theorem kept_State_noteDenied {v0 : State} {v1 : Nat} {v2 : Master} {v3 : Bool} {v4 : Nat} (hm : m &&& 544 = 0) (g0 : Kept m o v0) :
    Kept m o (State.noteDenied v0 v1 v2 v3 v4) := by
  unfold State.noteDenied
  extract_lets +onlyGivenNames -merge -underBinder x0
  have h1 : Kept m o x0 := by
    unfold x0
    exact kept_State_bump (sub hm) g0
  clear_value x0
  extract_lets +onlyGivenNames -merge -underBinder x2
  have h3 : Kept m o x2 := by
    unfold x2
    exact keptIte h1 (kept_State_setReg (sub hm) h1)
  clear_value x2
  split
  · extract_lets +onlyGivenNames -merge -underBinder x4
    clear_value x4
    exact kept_State_setCab (sub hm) h3
  · exact h3

theorem kept_State_touchHost {v0 : State} {v1 : Nat} {v2 : Nat} (hm : m &&& 2048 = 0) (g0 : Kept m o v0) :
    Kept m o (State.touchHost v0 v1 v2) := by
  unfold State.touchHost
  exact keptUpd hm (s := v0) (by constructor <;> first | exact .inl rfl | exact .inr rfl) rfl rfl rfl g0

theorem kept_State_hostWrite {v0 : State} {v1 : Nat} {v2 : Nat} {v3 : List Byte} (hm : m &&& 2176 = 0) (g0 : Kept m o v0) :
    Kept m o (State.hostWrite v0 v1 v2 v3).2 := by
  unfold State.hostWrite
  refine keptIte2 ?_ ?_
  · dsimp only [id]
    exact kept_State_touchHost (sub hm) (keptMem hm (s := v0) (by constructor <;> first | exact .inl rfl | exact .inr rfl) rfl (fun h => h) (memWrite_wf _ _) g0)
  · exact g0

theorem kept_State_touchDev {v0 : State} {v1 : Nat} {v2 : Nat} (hm : m &&& 2048 = 0) (g0 : Kept m o v0) :
    Kept m o (State.touchDev v0 v1 v2) := by
  unfold State.touchDev
  exact keptUpd hm (s := v0) (by constructor <;> first | exact .inl rfl | exact .inr rfl) rfl rfl rfl g0

theorem kept_State_ownWrite {v0 : State} {v1 : Master} {v2 : Nat} {v3 : Nat} {v4 : List Byte} (hm : m &&& 134236000 = 0) (g0 : Kept m o v0) :
    Kept m o (State.ownWrite v0 v1 v2 v3 v4).2.2 := by
  unfold State.ownWrite
  refine keptIte22 ?_ ?_
  · exact g0
  · split
    · dsimp only [id]
      exact kept_State_noteDenied (sub hm) g0
    · extract_lets +onlyGivenNames -merge -underBinder x0
      clear_value x0
      dsimp only [id]
      exact kept_State_bump (sub hm) (kept_State_tally (sub hm) g0)
    · extract_lets +onlyGivenNames -merge -underBinder x1
      have h2 : Kept m o x1 := by
        unfold x1
        refine foldlKept ?_ ?_
        · intro a3 a4 a5
          exact kept_State_charge (sub hm) a5
        · exact g0
      clear_value x1
      extract_lets +onlyGivenNames -merge -underBinder x6
      clear_value x6
      dsimp only [id]
      exact kept_State_devPut (sub hm) (keptUpd hm (s := x1) (by constructor <;> first | exact .inl rfl | exact .inr rfl) rfl rfl rfl h2)

theorem kept_State_ringPut {v0 : State} {v1 : Bool} {v2 : Nat} {v3 : List Byte} (hm : m &&& 134238176 = 0) (g0 : Kept m o v0) :
    Kept m o (State.ringPut v0 v1 v2 v3).2 := by
  unfold State.ringPut
  refine keptIte2 ?_ ?_
  · split
    · rename_i y0 y1
      dsimp only [id]
      exact keptPair2 y1 (kept_State_hostWrite (sub hm) g0)
    · rename_i y2 y3
      dsimp only [id]
      exact keptPair2 y3 (kept_State_hostWrite (sub hm) g0)
  · extract_lets +onlyGivenNames -merge -underBinder x4
    have h5 : Kept m o x4.2.2 := by
      unfold x4
      exact kept_State_ownWrite (sub hm) g0
    clear_value x4
    dsimp only [id]
    exact keptIte (kept_State_touchDev (sub hm) h5) h5

theorem kept_State_ringRecord {v0 : State} {v1 : FaultEv} (hm : m &&& 134303712 = 0) (g0 : Kept m o v0) :
    Kept m o (State.ringRecord v0 v1) := by
  unfold State.ringRecord
  extract_lets +onlyGivenNames -merge -underBinder x0 x1 x2
  clear_value x0 x1 x2
  refine keptIte ?_ ?_
  · exact g0
  · refine keptIte ?_ ?_
    · exact kept_State_bump (sub hm) g0
    · split
      · rename_i y3 y4
        exact kept_State_bump (sub hm) (keptPair2 y4 (kept_State_ringPut (sub hm) g0))
      · rename_i y5 y6
        extract_lets +onlyGivenNames -merge -underBinder x7
        clear_value x7
        extract_lets +onlyGivenNames -merge -underBinder x8
        have h9 : Kept m o x8 := by
          unfold x8
          exact kept_State_setRfld (sub hm) (keptUpd hm (s := y5) (by constructor <;> first | exact .inl rfl | exact .inr rfl) rfl rfl rfl (keptPair2 y6 (kept_State_ringPut (sub hm) g0)))
        clear_value x8
        refine keptIte ?_ ?_
        · exact h9
        · split
          · rename_i y10 y11
            exact keptPair2 y11 (kept_State_ringPut (sub hm) h9)
          · rename_i y12 y13
            exact kept_State_bump (sub hm) (keptPair2 y13 (kept_State_ringPut (sub hm) h9))

theorem kept_State_ouRecord {v0 : State} {v1 : Nat} {v2 : Nat} {v3 : Nat} {v4 : Nat} {v5 : Nat} {v6 : Nat → List Byte} (hm : m &&& 134303712 = 0) (g0 : Kept m o v0) :
    Kept m o (State.ouRecord v0 v1 v2 v3 v4 v5 v6).1 := by
  unfold State.ouRecord
  extract_lets +onlyGivenNames -merge -underBinder x0 x1 x2
  clear_value x0 x1 x2
  refine keptIte1 ?_ ?_
  · dsimp only [id]
    exact kept_State_bump (sub hm) g0
  · extract_lets +onlyGivenNames -merge -underBinder x3
    clear_value x3
    split
    · rename_i y4 y5
      extract_lets +onlyGivenNames -merge -underBinder x6
      have h7 : Kept m o x6 := by
        unfold x6
        exact keptIte (kept_State_bump (sub hm) (keptPair22 y5 (kept_State_ownWrite (sub hm) g0))) (keptPair22 y5 (kept_State_ownWrite (sub hm) g0))
      clear_value x6
      dsimp only [id]
      exact kept_State_setRfld (sub hm) h7
    · rename_i y8 y9
      dsimp only [id]
      exact kept_State_bump (sub hm) (kept_State_ringRecord (sub hm) (keptPair22 y9 (kept_State_ownWrite (sub hm) g0)))
    · rename_i y10 y11
      dsimp only [id]
      exact kept_State_bump (sub hm) (keptPair22 y11 (kept_State_ownWrite (sub hm) g0))

theorem kept_State_trace {v0 : State} {v1 : Nat} {v2 : Nat} {v3 : Option Nat} {v4 : Option Nat} {v5 : Nat} {v6 : Nat} (hm : m &&& 134434784 = 0) (g0 : Kept m o v0) :
    Kept m o (State.trace v0 v1 v2 v3 v4 v5 v6) := by
  unfold State.trace
  extract_lets +onlyGivenNames -merge -underBinder x0
  clear_value x0
  refine keptIte ?_ ?_
  · refine keptIte ?_ ?_
    · exact kept_State_bump (sub hm) g0
    · extract_lets +onlyGivenNames -merge -underBinder x1
      clear_value x1
      extract_lets +onlyGivenNames -merge -underBinder x2
      have h3 : Kept m o x2.1 := by
        unfold x2
        exact kept_State_ouRecord (sub hm) g0
      clear_value x2
      refine keptIte ?_ ?_
      · extract_lets +onlyGivenNames -merge -underBinder x4
        have h5 : Kept m o x4 := by
          exact h3
        clear_value x4
        exact keptUpd hm (s := x4) (by constructor <;> first | exact .inl rfl | exact .inr rfl) rfl rfl rfl h5
      · exact h3
  · exact g0

theorem kept_State_traceStop {v0 : State} (hm : m &&& 134434784 = 0) (g0 : Kept m o v0) :
    Kept m o (State.traceStop v0) := by
  unfold State.traceStop
  extract_lets +onlyGivenNames -merge -underBinder x0
  clear_value x0
  exact kept_State_trace (sub hm) g0

theorem kept_State_stopTrigger {v0 : State} {v1 : Nat} (hm : m &&& 134434784 = 0) (g0 : Kept m o v0) :
    Kept m o (State.stopTrigger v0 v1) := by
  unfold State.stopTrigger
  refine keptIte ?_ ?_
  · split
    · extract_lets +onlyGivenNames -merge -underBinder x0
      clear_value x0
      exact kept_State_traceStop (sub hm) (keptUpd hm (s := v0) (by constructor <;> first | exact .inl rfl | exact .inr rfl) rfl rfl rfl g0)
    · exact kept_State_bump (sub hm) g0
  · exact g0

theorem kept_State_faultEvent {v0 : State} {v1 : FaultEv} (hm : m &&& 134434784 = 0) (g0 : Kept m o v0) :
    Kept m o (State.faultEvent v0 v1) := by
  unfold State.faultEvent
  extract_lets +onlyGivenNames -merge -underBinder x0
  have h1 : Kept m o x0 := by
    unfold x0
    exact kept_State_ringRecord (sub hm) g0
  clear_value x0
  extract_lets +onlyGivenNames -merge -underBinder x2
  have h3 : Kept m o x2 := by
    unfold x2
    exact kept_State_trace (sub hm) h1
  clear_value x2
  exact keptIte (kept_State_stopTrigger (sub hm) h3) h3

theorem kept_bumpQuarFull {v0 : State} (hm : m &&& 32 = 0) (g0 : Kept m o v0) :
    Kept m o (bumpQuarFull v0) := by
  unfold bumpQuarFull
  exact kept_State_bump (sub hm) g0

theorem kept_State_raiseQuar {v0 : State} {v1 : Nat} {v2 : Quar} (hm : m &&& 134434784 = 0) (g0 : Kept m o v0) :
    Kept m o (State.raiseQuar v0 v1 v2) := by
  unfold State.raiseQuar
  refine keptIte ?_ ?_
  · exact g0
  · extract_lets +onlyGivenNames -merge -underBinder x0
    have h1 : Kept m o x0 := by
      unfold x0
      split
      · exact keptUpd hm (s := v0) (by constructor <;> first | exact .inl rfl | exact .inr rfl) rfl rfl rfl g0
      · exact kept_bumpQuarFull (sub hm) (keptUpd hm (s := v0) (by constructor <;> first | exact .inl rfl | exact .inr rfl) rfl rfl rfl g0)
    clear_value x0
    exact kept_State_faultEvent (sub hm) h1

theorem kept_State_sendTray {v0 : State} {v1 : Nat} {v2 : List Byte} (hm : m &&& 16777218 = 0) (g0 : Kept m o v0) :
    Kept m o (State.sendTray v0 v1 v2) := by
  unfold State.sendTray
  exact kept_State_emit (sub hm) (keptUpd hm (s := v0) (by constructor <;> first | exact .inl rfl | exact .inr rfl) rfl rfl rfl g0)

theorem kept_State_blockState {v0 : State} {v1 : Nat} (hm : m &&& 151212002 = 0) (g0 : Kept m o v0) :
    Kept m o (State.blockState v0 v1) := by
  unfold State.blockState
  extract_lets +onlyGivenNames -merge -underBinder x0
  clear_value x0
  extract_lets +onlyGivenNames -merge -underBinder x1
  have h2 : Kept m o x1 := by
    unfold x1
    exact keptUpd hm (s := v0) (by constructor <;> first | exact .inl rfl | exact .inr rfl) rfl rfl rfl g0
  clear_value x1
  exact kept_State_sendTray (sub hm) (kept_State_trace (sub hm) h2)

theorem kept_State_raiseRung {v0 : State} (hm : m &&& 16777216 = 0) (g0 : Kept m o v0) :
    Kept m o (State.raiseRung v0) := by
  unfold State.raiseRung
  split
  · exact keptUpd hm (s := v0) (by constructor <;> first | exact .inl rfl | exact .inr rfl) rfl rfl rfl g0
  · exact g0

theorem kept_State_resumeQuiet {v0 : State} {v1 : Nat → Bool} (hm : m &&& 1048576 = 0) (g0 : Kept m o v0) :
    Kept m o (State.resumeQuiet v0 v1) := by
  unfold State.resumeQuiet
  extract_lets +onlyGivenNames -merge -underBinder x0
  clear_value x0
  exact keptUpd hm (s := v0) (by constructor <;> first | exact .inl rfl | exact .inr rfl) rfl rfl rfl g0

theorem kept_State_dropEntry {v0 : State} {v1 : Entry} {v2 : Nat} {v3 : Nat} (hm : m &&& 17825826 = 0) (g0 : Kept m o v0) :
    Kept m o (State.dropEntry v0 v1 v2 v3) := by
  unfold State.dropEntry
  extract_lets +onlyGivenNames -merge -underBinder x0
  clear_value x0
  extract_lets +onlyGivenNames -merge -underBinder x1
  have h2 : Kept m o x1 := by
    unfold x1
    exact keptUpd hm (s := v0) (by constructor <;> first | exact .inl rfl | exact .inr rfl) rfl rfl rfl g0
  clear_value x1
  extract_lets +onlyGivenNames -merge -underBinder x3
  have h4 : Kept m o x3 := by
    unfold x3
    exact kept_State_resumeQuiet (sub hm) h2
  clear_value x3
  extract_lets +onlyGivenNames -merge -underBinder x5
  clear_value x5
  extract_lets +onlyGivenNames -merge -underBinder x6
  have h7 : Kept m o x6 := by
    unfold x6
    exact keptIte (kept_State_emit (sub hm) (keptUpd hm (s := x3) (by constructor <;> first | exact .inl rfl | exact .inr rfl) rfl rfl rfl h4)) h4
  clear_value x6
  exact keptIte (kept_State_setReg (sub hm) h7) h7

theorem kept_State_abortEntry {v0 : State} {v1 : Entry} {v2 : Nat} {v3 : Nat} (hm : m &&& 17825826 = 0) (g0 : Kept m o v0) :
    Kept m o (State.abortEntry v0 v1 v2 v3) := by
  unfold State.abortEntry
  extract_lets +onlyGivenNames -merge -underBinder x0
  have h1 : Kept m o x0 := by
    unfold x0
    exact kept_State_bump (sub hm) g0
  clear_value x0
  exact kept_State_dropEntry (sub hm) (kept_State_setReg (sub hm) h1)

theorem kept_State_wakeBlock {v0 : State} {v1 : Nat} (hm : m &&& 152260578 = 0) (g0 : Kept m o v0) :
    Kept m o (State.wakeBlock v0 v1) := by
  unfold State.wakeBlock
  extract_lets +onlyGivenNames -merge -underBinder x0
  have h1 : Kept m o x0 := by
    unfold x0
    refine foldlKept ?_ ?_
    · intro a2 a3 a4
      exact kept_State_abortEntry (sub hm) a4
    · exact g0
  clear_value x0
  refine keptIte ?_ ?_
  · exact kept_State_blockState (sub hm) h1
  · refine keptIte ?_ ?_
    · extract_lets +onlyGivenNames -merge -underBinder x5
      clear_value x5
      extract_lets +onlyGivenNames -merge -underBinder x6
      have h7 : Kept m o x6 := by
        unfold x6
        exact keptUpd hm (s := x0) (by constructor <;> first | exact .inl rfl | exact .inr rfl) rfl rfl rfl h1
      clear_value x6
      exact keptIte (kept_State_raiseRung (sub hm) h7) h7
    · exact h1

theorem kept_State_wakeCab {v0 : State} {v1 : Nat} {v2 : Nat} (hm : m &&& 152260578 = 0) (g0 : Kept m o v0) :
    Kept m o (State.wakeCab v0 v1 v2) := by
  unfold State.wakeCab
  extract_lets +onlyGivenNames -merge -underBinder x0
  have h1 : Kept m o x0 := by
    unfold x0
    refine foldlKept ?_ ?_
    · intro a2 a3 a4
      exact kept_State_abortEntry (sub hm) a4
    · exact g0
  clear_value x0
  extract_lets +onlyGivenNames -merge -underBinder x5
  clear_value x5
  extract_lets +onlyGivenNames -merge -underBinder x6
  have h7 : Kept m o x6 := by
    unfold x6
    exact kept_State_wakeBlock (sub hm) (kept_State_setCab (sub hm) h1)
  clear_value x6
  exact keptIte h7 (kept_State_trace (sub hm) (kept_State_resumeQuiet (sub hm) h7))

theorem kept_State_syncWires {v0 : State} (hm : m &&& 268435456 = 0) (g0 : Kept m o v0) :
    Kept m o (State.syncWires v0) := by
  unfold State.syncWires
  extract_lets +onlyGivenNames -merge -underBinder x0
  clear_value x0
  exact keptUpd hm (s := v0) (by constructor <;> first | exact .inl rfl | exact .inr rfl) rfl rfl rfl g0

theorem kept_State_noteFail {v0 : State} {v1 : Nat} {v2 : Who} {v3 : Nat} {v4 : GateFail} (hm : m &&& 134434784 = 0) (g0 : Kept m o v0) :
    Kept m o (State.noteFail v0 v1 v2 v3 v4).2 := by
  unfold State.noteFail
  extract_lets +onlyGivenNames -merge -underBinder x0
  have h1 : Kept m o x0 := by
    unfold x0
    exact kept_State_tally (sub hm) g0
  clear_value x0
  extract_lets +onlyGivenNames -merge -underBinder x2
  clear_value x2
  split
  · dsimp only [id]
    exact kept_State_bump (sub hm) h1
  · extract_lets +onlyGivenNames -merge -underBinder x3
    have h4 : Kept m o x3 := by
      unfold x3
      exact keptIte (kept_State_bump (sub hm) h1) (kept_State_bump (sub hm) h1)
    clear_value x3
    dsimp only [id]
    exact kept_State_raiseQuar (sub hm) h4
  · extract_lets +onlyGivenNames -merge -underBinder x5
    have h6 : Kept m o x5 := by
      unfold x5
      exact kept_State_bump (sub hm) h1
    clear_value x5
    split
    · dsimp only [id]
      exact kept_State_raiseQuar (sub hm) h6
    · exact h6
  · dsimp only [id]
    exact kept_State_faultEvent (sub hm) (kept_State_bump (sub hm) h1)
  · dsimp only [id]
    exact kept_State_faultEvent (sub hm) (kept_State_bump (sub hm) h1)

theorem kept_State_chargeSpan {v0 : State} {v1 : Nat} {v2 : Nat} {v3 : Nat} {v4 : Nat} (hm : m &&& 134219264 = 0) (g0 : Kept m o v0) :
    Kept m o (State.chargeSpan v0 v1 v2 v3 v4) := by
  unfold State.chargeSpan
  refine foldlKept ?_ ?_
  · intro a0 a1 a2
    exact kept_State_charge (sub hm) a2
  · exact g0

theorem kept_State_newKey {v0 : State} (hm : m &&& 16400 = 0) (g0 : Kept m o v0) :
    Kept m o (State.newKey v0).2 := by
  unfold State.newKey
  extract_lets +onlyGivenNames -merge -underBinder x0
  clear_value x0
  dsimp only [id]
  exact keptUpd hm (s := v0) (by constructor <;> first | exact .inl rfl | exact .inr rfl) rfl rfl rfl g0

theorem kept_State_beginRekey {v0 : State} {v1 : Nat} (hm : m &&& 16944 = 0) (g0 : Kept m o v0) :
    Kept m o (State.beginRekey v0 v1) := by
  unfold State.beginRekey
  refine keptIte ?_ ?_
  · extract_lets +onlyGivenNames -merge -underBinder x0
    clear_value x0
    extract_lets +onlyGivenNames -merge -underBinder x1
    have h2 : Kept m o x1 := by
      unfold x1
      exact kept_State_bump (sub hm) g0
    clear_value x1
    extract_lets +onlyGivenNames -merge -underBinder x3
    clear_value x3
    extract_lets +onlyGivenNames -merge -underBinder x4
    have h5 : Kept m o x4.2 := by
      unfold x4
      exact kept_State_newKey (sub hm) h2
    clear_value x4
    extract_lets +onlyGivenNames -merge -underBinder x6
    have h7 : Kept m o x6 := by
      exact h5
    clear_value x6
    exact kept_State_setCab (sub hm) (keptUpd hm (s := x6) (by constructor <;> first | exact .inl rfl | exact .inr rfl) rfl rfl rfl h7)
  · exact kept_State_bump (sub hm) (keptUpd hm (s := v0) (by constructor <;> first | exact .inl rfl | exact .inr rfl) rfl rfl rfl g0)

theorem kept_State_rekeyCheck {v0 : State} {v1 : Nat} {v2 : Nat} (hm : m &&& 16944 = 0) (g0 : Kept m o v0) :
    Kept m o (State.rekeyCheck v0 v1 v2) := by
  unfold State.rekeyCheck
  exact keptIte (keptIte (keptUpd hm (s := v0) (by constructor <;> first | exact .inl rfl | exact .inr rfl) rfl rfl rfl g0) (kept_State_beginRekey (sub hm) g0)) g0

theorem kept_State_rekeyStart {v0 : State} {v1 : Nat} (hm : m &&& 16944 = 0) (g0 : Kept m o v0) :
    Kept m o (State.rekeyStart v0 v1) := by
  unfold State.rekeyStart
  exact keptIte (kept_State_beginRekey (sub hm) (keptUpd hm (s := v0) (by constructor <;> first | exact .inl rfl | exact .inr rfl) rfl rfl rfl g0)) g0

theorem kept_State_touchMeta {v0 : State} {v1 : Nat} {v2 : Who} {v3 : MetaKey} {v4 : Bool} (hm : m &&& 134235680 = 0) (g0 : Kept m o v0) :
    Kept m o (State.touchMeta v0 v1 v2 v3 v4) := by
  unfold State.touchMeta
  extract_lets +onlyGivenNames -merge -underBinder x0
  have h1 : Kept m o x0 := by
    unfold x0
    exact kept_State_bump (sub hm) g0
  clear_value x0
  extract_lets +onlyGivenNames -merge -underBinder x2
  clear_value x2
  split
  · exact keptUpd hm (s := x0) (by constructor <;> first | exact .inl rfl | exact .inr rfl) rfl rfl rfl h1
  · extract_lets +onlyGivenNames -merge -underBinder x3
    clear_value x3
    exact kept_State_charge (sub hm) (kept_State_bump (sub hm) (keptUpd hm (s := x0) (by constructor <;> first | exact .inl rfl | exact .inr rfl) rfl rfl rfl h1))

theorem kept_State_writeMeta {v0 : State} {v1 : Nat} {v2 : MetaKey} (hm : m &&& 134235696 = 0) (g0 : Kept m o v0) :
    Kept m o (State.writeMeta v0 v1 v2) := by
  unfold State.writeMeta
  extract_lets +onlyGivenNames -merge -underBinder x0 y0
  clear_value x0 y0
  extract_lets +onlyGivenNames -merge -underBinder x1
  have h2 : Kept m o x1 := by
    unfold x1
    exact kept_State_bump (sub hm) (keptUpd hm (s := v0) (by constructor <;> first | exact .inl rfl | exact .inr rfl) rfl rfl rfl g0)
  clear_value x1
  split
  · exact h2
  · extract_lets +onlyGivenNames -merge -underBinder x3 x4
    have h5 : Kept m o x4 := by
      unfold x4
      exact kept_State_charge (sub hm) h2
    clear_value x4
    refine keptIte h5 ?_
    extract_lets +onlyGivenNames -merge -underBinder x6 x7
    have h8 : Kept m o x7 := by
      unfold x7
      exact keptUpd hm (s := x4) (by constructor <;> first | exact .inl rfl | exact .inr rfl) rfl rfl rfl h5
    clear_value x7
    extract_lets +onlyGivenNames -merge -underBinder x9
    have h10 : Kept m o x9 := by
      unfold x9
      split
      · exact kept_State_touchMeta (sub hm) h8
      · exact h8
    clear_value x9
    exact kept_State_rekeyCheck (sub hm) h10

theorem kept_State_dropMeta {v0 : State} {v1 : MetaEntry} (hm : m &&& 134235696 = 0) (g0 : Kept m o v0) :
    Kept m o (State.dropMeta v0 v1) := by
  unfold State.dropMeta
  extract_lets +onlyGivenNames -merge -underBinder y0
  clear_value y0
  extract_lets +onlyGivenNames -merge -underBinder x0
  have h1 : Kept m o x0 := by
    unfold x0
    exact keptUpd hm (s := v0) (by constructor <;> first | exact .inl rfl | exact .inr rfl) rfl rfl rfl g0
  clear_value x0
  exact keptIte (kept_State_writeMeta (sub hm) h1) h1

theorem kept_State_evictMeta_go {v0 : Nat} {v1 : Nat} {v2 : State} (hm : m &&& 134235696 = 0) (g2 : Kept m o v2) :
    Kept m o (State.evictMeta.go v0 v1 v2) := by
  induction v1 generalizing v2 with
  | zero => exact g2
  | succ k ih =>
    unfold State.evictMeta.go
    split
    · exact ih (kept_State_dropMeta (sub hm) g2)
    · exact g2

theorem kept_State_evictMeta {v0 : State} {v1 : Nat} (hm : m &&& 134235696 = 0) (g0 : Kept m o v0) :
    Kept m o (State.evictMeta v0 v1) := by
  unfold State.evictMeta
  exact kept_State_evictMeta_go (sub hm) g0

theorem kept_climbNodes {v0 : Nat} {v1 : Who} {v2 : List MetaKey} {v3 : State} (hm : m &&& 134235680 = 0) (g3 : Kept m o v3) :
    Kept m o (climbNodes v0 v1 v2 v3) := by
  induction v2 generalizing v3 with
  | nil => exact g3
  | cons k r ih =>
    unfold climbNodes
    exact keptIte (kept_State_touchMeta (sub hm) g3) (ih (kept_State_touchMeta (sub hm) g3))

theorem kept_State_metaLookup {v0 : State} {v1 : Nat} {v2 : Who} {v3 : Nat} (hm : m &&& 134235696 = 0) (g0 : Kept m o v0) :
    Kept m o (State.metaLookup v0 v1 v2 v3) := by
  unfold State.metaLookup
  split
  · exact keptIte (kept_State_evictMeta (sub hm) (kept_climbNodes (sub hm) (kept_State_touchMeta (sub hm) g0))) g0
  · exact g0

theorem kept_State_flushCache {v0 : State} {v1 : MetaEntry → Bool} (hm : m &&& 134235696 = 0) (g0 : Kept m o v0) :
    Kept m o (State.flushCache v0 v1) := by
  unfold State.flushCache
  refine foldlKept ?_ g0
  intro a0 a1 a2
  refine foldlKept ?_ a2
  intro a3 a4 a5
  exact kept_State_writeMeta (sub hm) a5

theorem kept_State_remixGroup {v0 : State} {v1 : Nat} (hm : m &&& 134235696 = 0) (g0 : Kept m o v0) :
    Kept m o (State.remixGroup v0 v1) := by
  unfold State.remixGroup
  extract_lets +onlyGivenNames -merge -underBinder x0 x1 x2
  clear_value x0 x1 x2
  extract_lets +onlyGivenNames -merge -underBinder x3
  have h4 : Kept m o x3 := by
    unfold x3
    split
    · extract_lets +onlyGivenNames -merge -underBinder x5 x6
      have h7 : Kept m o x6 := by
        unfold x6
        exact kept_State_charge (sub hm) g0
      clear_value x6
      split
      · exact kept_State_evictMeta (sub hm) (kept_State_touchMeta (sub hm) h7)
      · exact h7
    · exact g0
  clear_value x3
  exact keptUpd hm (s := x3) (by constructor <;> first | exact .inl rfl | exact .inr rfl) rfl rfl rfl h4

theorem kept_State_countWrite {v0 : State} {v1 : Nat} {v2 : Nat} {v3 : Nat} (hm : m &&& 134235696 = 0) (g0 : Kept m o v0) :
    Kept m o (State.countWrite v0 v1 v2 v3) := by
  unfold State.countWrite
  extract_lets +onlyGivenNames -merge -underBinder x0
  clear_value x0
  extract_lets +onlyGivenNames -merge -underBinder x1
  have h2 : Kept m o x1 := by
    unfold x1
    exact keptIte (kept_State_remixGroup (sub hm) g0) g0
  clear_value x1
  extract_lets +onlyGivenNames -merge -underBinder x3 x4 y0
  clear_value x3 x4 y0
  extract_lets +onlyGivenNames -merge -underBinder x5
  have h6 : Kept m o x5 := by
    unfold x5
    exact keptUpd hm (s := x1) (by constructor <;> first | exact .inl rfl | exact .inr rfl) rfl rfl rfl h2
  clear_value x5
  exact keptIte (kept_State_rekeyCheck (sub hm) (kept_State_bump (sub hm) (keptUpd hm (s := x5) (by constructor <;> first | exact .inl rfl | exact .inr rfl) rfl rfl rfl h6))) (keptUpd hm (s := x5) (by constructor <;> first | exact .inl rfl | exact .inr rfl) rfl rfl rfl h6)

theorem kept_State_readLoc {v0 : State} {v1 : Who} {v2 : Nat} {v3 : Nat} {v4 : Nat} (hm : m &&& 134434800 = 0) (g0 : Kept m o v0) :
    Kept m o (State.readLoc v0 v1 v2 v3 v4).2 := by
  unfold State.readLoc
  refine keptIte2 ?_ ?_
  · exact g0
  · extract_lets +onlyGivenNames -merge -underBinder x0
    clear_value x0
    refine keptIte2 ?_ ?_
    · dsimp only [id]
      exact kept_State_noteDenied (sub hm) g0
    · split
      · extract_lets +onlyGivenNames -merge -underBinder x1
        have h2 : Kept m o x1.2 := by
          unfold x1
          exact kept_State_noteFail (sub hm) g0
        clear_value x1
        exact h2
      · extract_lets +onlyGivenNames -merge -underBinder x3
        have h4 : Kept m o x3 := by
          unfold x3
          exact kept_State_carry (sub hm) (kept_State_metaLookup (sub hm) (kept_State_charge (sub hm) g0))
        clear_value x3
        dsimp only [id]
        exact keptUpd hm (s := x3) (by constructor <;> first | exact .inl rfl | exact .inr rfl) rfl rfl rfl h4

theorem kept_State_writeLoc {v0 : State} {v1 : Who} {v2 : Nat} {v3 : Nat} {v4 : List Byte} (hm : m &&& 134434800 = 0) (g0 : Kept m o v0) :
    Kept m o (State.writeLoc v0 v1 v2 v3 v4).2 := by
  unfold State.writeLoc
  refine keptIte2 ?_ ?_
  · exact g0
  · extract_lets +onlyGivenNames -merge -underBinder x0 x1
    clear_value x0 x1
    refine keptIte2 ?_ ?_
    · dsimp only [id]
      exact kept_State_noteDenied (sub hm) g0
    · split
      · extract_lets +onlyGivenNames -merge -underBinder x2
        have h3 : Kept m o x2.2 := by
          unfold x2
          exact kept_State_noteFail (sub hm) g0
        clear_value x2
        exact h3
      · extract_lets +onlyGivenNames -merge -underBinder x4
        have h5 : Kept m o x4 := by
          unfold x4
          exact kept_State_carry (sub hm) (kept_State_metaLookup (sub hm) (kept_State_charge (sub hm) g0))
        clear_value x4
        extract_lets +onlyGivenNames -merge -underBinder x6
        have h7 : Kept m o x6 := by
          unfold x6
          split
          · exact keptIte (kept_State_countWrite (sub hm) h5) h5
          · exact h5
        clear_value x6
        extract_lets +onlyGivenNames -merge -underBinder x8
        have h9 : Kept m o x8 := by
          unfold x8
          exact kept_State_devPut (sub hm) h7
        clear_value x8
        dsimp only [id]
        exact keptIte (keptUpd hm (s := x8) (by constructor <;> first | exact .inl rfl | exact .inr rfl) rfl rfl rfl h9) h9

theorem kept_State_readLine {v0 : State} {v1 : Who} {v2 : Nat} {v3 : Nat} (hm : m &&& 134434800 = 0) (g0 : Kept m o v0) :
    Kept m o (State.readLine v0 v1 v2 v3).2 := by
  unfold State.readLine
  split
  · rename_i y0 y1
    dsimp only [id]
    exact keptPair2 y1 (kept_State_readLoc (sub hm) g0)
  · exact kept_State_readLoc (sub hm) g0

theorem kept_State_writeLine {v0 : State} {v1 : Who} {v2 : Nat} {v3 : List Byte} (hm : m &&& 134438896 = 0) (g0 : Kept m o v0) :
    Kept m o (State.writeLine v0 v1 v2 v3).2 := by
  unfold State.writeLine
  split
  · rename_i y0 y1
    extract_lets +onlyGivenNames -merge -underBinder x2
    clear_value x2
    extract_lets +onlyGivenNames -merge -underBinder x3
    have h4 : Kept m o x3 := by
      unfold x3
      exact keptIte (kept_State_setGran (sub hm) (keptPair2 y1 (kept_State_writeLoc (sub hm) g0))) (keptPair2 y1 (kept_State_writeLoc (sub hm) g0))
    clear_value x3
    dsimp only [id]
    exact kept_State_touchDev (sub hm) h4
  · exact kept_State_writeLoc (sub hm) g0

theorem kept_State_devRead_go {v0 : Who} {v1 : Nat} {v2 : State} {v3 : Nat} {v4 : Nat} (hm : m &&& 134434800 = 0) (g2 : Kept m o v2) :
    Kept m o (State.devRead.go v0 v1 v2 v3 v4).2 := by
  induction v1 generalizing v2 v3 v4 with
  | zero => exact g2
  | succ k ih =>
    cases v4 with
    | zero => exact g2
    | succ n =>
      simp only [State.devRead.go]
      split
      · rename_i e
        exact keptPair2 e (kept_State_readLine (sub hm) g2)
      · rename_i s1 e
        have h1 := keptPair2 e (kept_State_readLine (sub hm) g2)
        split
        · rename_i s2 e2
          exact keptPair2 e2 (ih h1)
        · exact ih h1

theorem kept_State_devRead {v0 : State} {v1 : Who} {v2 : Nat} {v3 : Nat} (hm : m &&& 134434800 = 0) (g0 : Kept m o v0) :
    Kept m o (State.devRead v0 v1 v2 v3).2 := by
  unfold State.devRead
  exact kept_State_devRead_go (sub hm) g0

theorem kept_State_devWrite_go {v0 : Who} {v1 : Nat} {v2 : State} {v3 : Nat} {v4 : List Byte} (hm : m &&& 134438896 = 0) (g2 : Kept m o v2) :
    Kept m o (State.devWrite.go v0 v1 v2 v3 v4).2 := by
  induction v1 generalizing v2 v3 v4 with
  | zero => exact g2
  | succ k ih =>
    cases v4 with
    | nil => exact g2
    | cons x r =>
      unfold State.devWrite.go
      extract_lets c
      have h1 := kept_State_writeLine (sub hm) (v1 := v0) (v2 := v3) (v3 := (x :: r).take c) g2
      split
      · rename_i e
        exact keptPair2 e h1
      · rename_i s1 e
        exact ih (keptPair2 e h1)

theorem kept_State_devWrite {v0 : State} {v1 : Who} {v2 : Nat} {v3 : List Byte} (hm : m &&& 134438896 = 0) (g0 : Kept m o v0) :
    Kept m o (State.devWrite v0 v1 v2 v3).2 := by
  unfold State.devWrite
  exact kept_State_devWrite_go (sub hm) g0

end Sys2Proof.Machine
end

