-- ==== Sys2Proof/Laws/KeptTranslate.lean ====
section
/-! SUPPORT. For each operation of Machine/Translate.lean, and for each command meaning there: the fields of State it
    never changes (the bits not set in its mask), and that it keeps what Laws/Kept.lean names. -/

namespace Sys2Proof.Machine
set_option Elab.async false
variable {m : Nat} {o : State}

theorem kept_State_mergedLeaf {v0 : State} {v1 : Who} {v2 : Nat} {v3 : Nat} {v4 : Nat} {v5 : Nat} {v6 : Nat} (hm : m &&& 134434800 = 0) (g0 : Kept m o v0) :
    Kept m o (State.mergedLeaf v0 v1 v2 v3 v4 v5 v6).2 := by
  unfold State.mergedLeaf
  refine keptIte2 ?_ ?_
  · split
    · rename_i y0 y1
      dsimp only [id]
      exact keptPair2 y1 (kept_State_devRead (sub hm) g0)
    · rename_i y2 y3 y4
      dsimp only [id]
      exact keptPair2 y4 (kept_State_devRead (sub hm) g0)
  · exact g0

theorem kept_walkFrom {v0 : Who} {v1 : Nat} {v2 : Nat} {v3 : Nat} {v4 : Nat} {v5 : Nat} {v6 : State} (hm : m &&& 134438896 = 0) (g6 : Kept m o v6) :
    Kept m o (walkFrom v0 v1 v2 v3 v4 v5 v6).2 := by
  induction v4 generalizing v5 v6 with
  | zero =>
    unfold walkFrom
    extract_lets i
    have h1 := kept_State_devRead (sub hm) (v1 := v0) (v2 := v5 + i * 8) (v3 := 8) g6
    split
    · rename_i e
      exact keptPair2 e h1
    · rename_i s1 e
      have h2 := keptPair2 e h1
      extract_lets x
      split
      · exact h2
      · split
        · exact h2
        · split
          · exact kept_State_mergedLeaf (sub hm) h2
          · exact h2
  | succ l ih =>
    unfold walkFrom
    extract_lets i
    have h1 := kept_State_devRead (sub hm) (v1 := v0) (v2 := v5 + i * 8) (v3 := 8) g6
    split
    · rename_i e
      exact keptPair2 e h1
    · rename_i s1 e
      have h2 := keptPair2 e h1
      extract_lets x
      split
      · exact h2
      · split
        · exact h2
        · split
          · exact kept_State_mergedLeaf (sub hm) h2
          · exact ih (keptUpd hm (s := s1) (by constructor <;> first | exact .inl rfl | exact .inr rfl) rfl rfl rfl h2)

theorem kept_State_walk {v0 : State} {v1 : Nat} {v2 : Nat} {v3 : Nat} (hm : m &&& 134438896 = 0) (g0 : Kept m o v0) :
    Kept m o (State.walk v0 v1 v2 v3).2 := by
  unfold State.walk
  extract_lets +onlyGivenNames -merge -underBinder x0
  clear_value x0
  extract_lets +onlyGivenNames -merge -underBinder x1
  have h2 : Kept m o x1.2 := by
    unfold x1
    exact kept_walkFrom (sub hm) g0
  clear_value x1
  dsimp only [id]
  exact kept_State_tally (sub hm) h2

theorem kept_State_fill {v0 : State} {v1 : Lookaside} (hm : m &&& 4096 = 0) (g0 : Kept m o v0) :
    Kept m o (State.fill v0 v1) := by
  unfold State.fill
  extract_lets +onlyGivenNames -merge -underBinder x0
  clear_value x0
  exact keptUpd hm (s := v0) (by constructor <;> first | exact .inl rfl | exact .inr rfl) rfl rfl rfl g0

theorem kept_State_capLook {v0 : State} {v1 : Nat} (hm : m &&& 4096 = 0) (g0 : Kept m o v0) :
    Kept m o (State.capLook v0 v1) := by
  unfold State.capLook
  extract_lets +onlyGivenNames -merge -underBinder x0
  clear_value x0
  refine keptIte ?_ ?_
  · split
    · exact keptUpd hm (s := v0) (by constructor <;> first | exact .inl rfl | exact .inr rfl) rfl rfl rfl g0
    · exact g0
  · exact g0

theorem kept_State_dropLook {v0 : State} {v1 : Nat} {v2 : Nat} {v3 : Nat} {v4 : Nat} (hm : m &&& 4096 = 0) (g0 : Kept m o v0) :
    Kept m o (State.dropLook v0 v1 v2 v3 v4) := by
  unfold State.dropLook
  exact keptUpd hm (s := v0) (by constructor <;> first | exact .inl rfl | exact .inr rfl) rfl rfl rfl g0

theorem kept_State_addReq {v0 : State} {v1 : Req} (hm : m &&& 4096 = 0) (g0 : Kept m o v0) :
    Kept m o (State.addReq v0 v1) := by
  unfold State.addReq
  exact keptUpd hm (s := v0) (by constructor <;> first | exact .inl rfl | exact .inr rfl) rfl rfl rfl g0

theorem kept_State_setReq {v0 : State} {v1 : Req} (hm : m &&& 4096 = 0) (g0 : Kept m o v0) :
    Kept m o (State.setReq v0 v1) := by
  unfold State.setReq
  exact keptUpd hm (s := v0) (by constructor <;> first | exact .inl rfl | exact .inr rfl) rfl rfl rfl g0

theorem kept_State_dropReq {v0 : State} {v1 : Nat} (hm : m &&& 4096 = 0) (g0 : Kept m o v0) :
    Kept m o (State.dropReq v0 v1) := by
  unfold State.dropReq
  exact keptUpd hm (s := v0) (by constructor <;> first | exact .inl rfl | exact .inr rfl) rfl rfl rfl g0

theorem kept_State_queueFault {v0 : State} {v1 : Nat} {v2 : Nat} {v3 : Nat} {v4 : Nat} {v5 : Nat} {v6 : Nat} {v7 : Bool} (hm : m &&& 4128 = 0) (g0 : Kept m o v0) :
    Kept m o (State.queueFault v0 v1 v2 v3 v4 v5 v6 v7).2 := by
  unfold State.queueFault
  extract_lets +onlyGivenNames -merge -underBinder x0
  clear_value x0
  split
  · dsimp only [id]
    exact kept_State_bump (sub hm) g0
  · extract_lets +onlyGivenNames -merge -underBinder x1 x2
    clear_value x1 x2
    dsimp only [id]
    exact kept_State_bump (sub hm) (keptUpd hm (s := v0) (by constructor <;> first | exact .inl rfl | exact .inr rfl) rfl rfl rfl g0)

theorem kept_State_priFail {v0 : State} (hm : m &&& 32 = 0) (g0 : Kept m o v0) :
    Kept m o (State.priFail v0) := by
  unfold State.priFail
  exact kept_State_bump (sub hm) g0

theorem kept_State_askAts {v0 : State} {v1 : Nat} {v2 : Nat} {v3 : Nat} {v4 : Nat} {v5 : Bool} (hm : m &&& 4098 = 0) (g0 : Kept m o v0) :
    Kept m o (State.askAts v0 v1 v2 v3 v4 v5) := by
  unfold State.askAts
  exact kept_State_emit (sub hm) (keptUpd hm (s := v0) (by constructor <;> first | exact .inl rfl | exact .inr rfl) rfl rfl rfl g0)

theorem kept_State_askHost {v0 : State} {v1 : Asker} {v2 : Nat} {v3 : Bool} {v4 : Bool} (hm : m &&& 4130 = 0) (g0 : Kept m o v0) :
    Kept m o (State.askHost v0 v1 v2 v3 v4).2 := by
  unfold State.askHost
  extract_lets +onlyGivenNames -merge -underBinder x0 x1
  clear_value x0 x1
  refine keptIte2 ?_ ?_
  · exact g0
  · refine keptIte2 ?_ ?_
    · dsimp only [id]
      exact kept_State_priFail (sub hm) g0
    · refine keptIte2 ?_ ?_
      · exact g0
      · dsimp only [id]
        exact kept_State_askAts (sub hm) g0

theorem kept_State_devFault {v0 : State} {v1 : Asker} {v2 : Nat} {v3 : Nat} {v4 : Nat} {v5 : Bool} (hm : m &&& 4128 = 0) (g0 : Kept m o v0) :
    Kept m o (State.devFault v0 v1 v2 v3 v4 v5).2 := by
  unfold State.devFault
  refine keptIte2 ?_ ?_
  · extract_lets +onlyGivenNames -merge -underBinder x0
    have h1 : Kept m o x0.2 := by
      unfold x0
      exact kept_State_queueFault (sub hm) g0
    clear_value x0
    exact h1
  · exact g0

theorem kept_State_useLook {v0 : State} {v1 : Asker} {v2 : Lookaside} {v3 : Nat} {v4 : Bool} (hm : m &&& 4130 = 0) (g0 : Kept m o v0) :
    Kept m o (State.useLook v0 v1 v2 v3 v4).2 := by
  unfold State.useLook
  exact keptIte2 (keptIte2 (kept_State_askHost (sub hm) g0) g0) (keptIte2 (kept_State_devFault (sub hm) g0) g0)

theorem kept_State_afterWalk {v0 : State} {v1 : Asker} {v2 : Nat} {v3 : Bool} {v4 : WalkEnd} (hm : m &&& 4130 = 0) (g0 : Kept m o v0) :
    Kept m o (State.afterWalk v0 v1 v2 v3 v4).2 := by
  unfold State.afterWalk
  split
  · refine keptIte2 ?_ ?_
    · exact kept_State_askHost (sub hm) g0
    · extract_lets +onlyGivenNames -merge -underBinder x0 x1 x2 x3
      clear_value x0 x1 x2 x3
      extract_lets +onlyGivenNames -merge -underBinder x4
      have h5 : Kept m o x4 := by
        unfold x4
        exact kept_State_fill (sub hm) g0
      clear_value x4
      exact kept_State_useLook (sub hm) (keptIte (kept_State_capLook (sub hm) h5) h5)
  · exact kept_State_devFault (sub hm) g0
  · dsimp only [id]
    exact kept_State_bump (sub hm) g0
  · exact g0

theorem kept_State_xlate {v0 : State} {v1 : Asker} {v2 : Nat} {v3 : Bool} (hm : m &&& 4130 = 0) (g0 : Kept m o v0) :
    Kept m o (State.xlate v0 v1 v2 v3).2 := by
  unfold State.xlate
  split
  · split
    · dsimp only [id]
      exact kept_State_dropReq (sub hm) g0
    · exact g0
  · extract_lets +onlyGivenNames -merge -underBinder x0
    clear_value x0
    refine keptIte2 ?_ ?_
    · exact g0
    · split
      · split
        · rename_i y1 y2
          dsimp only [id]
          exact kept_State_addReq (sub hm) (keptPair2 y2 (kept_State_useLook (sub hm) g0))
        · exact kept_State_useLook (sub hm) g0
      · dsimp only [id]
        exact kept_State_addReq (sub hm) g0

theorem kept_State_resolve {v0 : State} {v1 : Nat} {v2 : Nat} (hm : m &&& 4096 = 0) (g0 : Kept m o v0) :
    Kept m o (State.resolve v0 v1 v2) := by
  unfold State.resolve
  extract_lets +onlyGivenNames -merge -underBinder x0
  clear_value x0
  exact keptUpd hm (s := v0) (by constructor <;> first | exact .inl rfl | exact .inr rfl) rfl rfl rfl g0

theorem kept_State_readAt {v0 : State} {v1 : Asker} {v2 : Bool} {v3 : Nat} {v4 : Nat} (hm : m &&& 134438896 = 0) (g0 : Kept m o v0) :
    Kept m o (State.readAt v0 v1 v2 v3 v4).2 := by
  unfold State.readAt
  exact keptIte2 g0 (kept_State_devRead (sub hm) (kept_State_resolve (sub hm) g0))

theorem kept_State_writeAt {v0 : State} {v1 : Asker} {v2 : Bool} {v3 : Nat} {v4 : List Byte} (hm : m &&& 134438896 = 0) (g0 : Kept m o v0) :
    Kept m o (State.writeAt v0 v1 v2 v3 v4).2 := by
  unfold State.writeAt
  exact keptIte2 (kept_State_hostWrite (sub hm) g0) (kept_State_devWrite (sub hm) (kept_State_resolve (sub hm) g0))

theorem kept_State_xlateAll_go {v0 : Asker} {v1 : Bool} {v2 : Nat} {v3 : State} {v4 : Nat} {v5 : Nat} (hm : m &&& 4130 = 0) (g3 : Kept m o v3) :
    Kept m o (State.xlateAll.go v0 v1 v2 v3 v4 v5).2 := by
  induction v2 generalizing v3 v4 v5 with
  | zero => exact g3
  | succ k ih =>
    cases v5 with
    | zero => exact g3
    | succ n =>
      simp only [State.xlateAll.go]
      split
      · rename_i e
        exact keptPair2 e (kept_State_xlate (sub hm) g3)
      · rename_i e
        exact keptPair2 e (kept_State_xlate (sub hm) g3)
      · rename_i s1 e
        exact ih (keptPair2 e (kept_State_xlate (sub hm) g3))

theorem kept_State_xlateAll {v0 : State} {v1 : Asker} {v2 : Nat} {v3 : Nat} {v4 : Bool} (hm : m &&& 4130 = 0) (g0 : Kept m o v0) :
    Kept m o (State.xlateAll v0 v1 v2 v3 v4).2 := by
  unfold State.xlateAll
  exact kept_State_xlateAll_go (sub hm) g0

theorem kept_State_vaRead_go {v0 : Asker} {v1 : Nat} {v2 : State} {v3 : Nat} {v4 : Nat} (hm : m &&& 134438898 = 0) (g2 : Kept m o v2) :
    Kept m o (State.vaRead.go v0 v1 v2 v3 v4).2 := by
  induction v1 generalizing v2 v3 v4 with
  | zero => exact g2
  | succ k ih =>
    cases v4 with
    | zero => exact g2
    | succ n =>
      simp only [State.vaRead.go]
      split
      · rename_i e
        exact keptPair2 e (kept_State_xlate (sub hm) g2)
      · rename_i e
        exact keptPair2 e (kept_State_xlate (sub hm) g2)
      · rename_i s1 e
        have h1 := keptPair2 e (kept_State_xlate (sub hm) g2)
        split
        · rename_i e2
          exact keptPair2 e2 (kept_State_readAt (sub hm) h1)
        · rename_i s2 e2
          have h2 := keptPair2 e2 (kept_State_readAt (sub hm) h1)
          split
          · rename_i e3
            exact keptPair2 e3 (ih h2)
          · exact ih h2

theorem kept_State_vaRead {v0 : State} {v1 : Asker} {v2 : Nat} {v3 : Nat} (hm : m &&& 134438898 = 0) (g0 : Kept m o v0) :
    Kept m o (State.vaRead v0 v1 v2 v3).2 := by
  unfold State.vaRead
  exact kept_State_vaRead_go (sub hm) g0

theorem kept_State_vaWrite_go {v0 : Asker} {v1 : Nat} {v2 : State} {v3 : Nat} {v4 : List Byte} (hm : m &&& 134438898 = 0) (g2 : Kept m o v2) :
    Kept m o (State.vaWrite.go v0 v1 v2 v3 v4).2 := by
  induction v1 generalizing v2 v3 v4 with
  | zero => exact g2
  | succ k ih =>
    cases v4 with
    | nil => exact g2
    | cons y r =>
      unfold State.vaWrite.go
      extract_lets c
      have h1 := kept_State_xlate (sub hm) (v1 := v0) (v2 := v3) (v3 := true) g2
      split
      · rename_i e
        exact keptPair2 e h1
      · rename_i e
        exact keptPair2 e h1
      · rename_i host p m s1 e
        have h2 := kept_State_writeAt (sub hm) (v1 := v0) (v2 := host) (v3 := p) (v4 := (y :: r).take c) (keptPair2 e h1)
        split
        · rename_i e2
          exact keptPair2 e2 h2
        · rename_i x s2 e2
          exact ih (keptPair2 e2 h2)

theorem kept_State_vaWrite {v0 : State} {v1 : Asker} {v2 : Nat} {v3 : List Byte} (hm : m &&& 134438898 = 0) (g0 : Kept m o v0) :
    Kept m o (State.vaWrite v0 v1 v2 v3).2 := by
  unfold State.vaWrite
  split
  · rename_i y0 y1
    exact kept_State_vaWrite_go (sub hm) (keptPair2 y1 (kept_State_xlateAll (sub hm) g0))
  · exact kept_State_xlateAll (sub hm) g0

end Sys2Proof.Machine
end

