-- ==== Sys2Proof/Laws/KeptObjects.lean ====
section
/-! SUPPORT. For each operation of Machine/Objects.lean, and for each command meaning there: the fields of State it
    never changes (the bits not set in its mask), and that it keeps what Laws/Kept.lean names. -/

namespace Sys2Proof.Machine
set_option Elab.async false
variable {m : Nat} {o : State}

theorem kept_State_accept {v0 : State} {v1 : Nat} (hm : m &&& 32 = 0) (g0 : Kept m o v0) :
    ∀ s', (State.accept v0 v1) = some s' → Kept m o s' := by
  intro s' e
  unfold State.accept at e
  split at e
  · exact absurd e (by simp)
  · cases e
    exact kept_State_setReg (sub hm) g0

theorem kept_State_overrun {v0 : State} {v1 : Nat} (hm : m &&& 32 = 0) (g0 : Kept m o v0) :
    Kept m o (State.overrun v0 v1) := by
  unfold State.overrun
  exact kept_State_setRfld (sub hm) g0

theorem kept_State_result {v0 : State} {v1 : Nat} {v2 : Nat} {v3 : Nat} (hm : m &&& 32 = 0) (g0 : Kept m o v0) :
    Kept m o (State.result v0 v1 v2 v3) := by
  unfold State.result
  exact kept_State_setReg (sub hm) g0

theorem kept_State_command {v0 : State} {v1 : Nat} {v2 : State → Nat × Nat × State} (hm : m &&& 32 = 0) (g0 : Kept m o v0) (g2 : ∀ a0, Kept m o a0 → Kept m o (v2 a0).2.2) :
    Kept m o (State.command v0 v1 v2) := by
  unfold State.command
  split
  · exact kept_State_overrun (sub hm) g0
  · rename_i y0 y1
    extract_lets +onlyGivenNames -merge -underBinder x2
    have h3 : Kept m o x2.2.2 := by
      unfold x2
      exact g2 _ (kept_State_accept (sub hm) g0 _ y1)
    clear_value x2
    exact kept_State_result (sub hm) h3

theorem kept_State_access {v0 : State} {v1 : Nat} {v2 : HeldAccess} {v3 : State → State} (hm : m &&& 32768 = 0) (g0 : Kept m o v0) (g3 : ∀ a0, Kept m o a0 → Kept m o (v3 a0)) :
    Kept m o (State.access v0 v1 v2 v3) := by
  unfold State.access
  exact keptIte (keptUpd hm (s := v0) (by constructor <;> first | exact .inl rfl | exact .inr rfl) rfl rfl rfl g0) (g3 _ g0)

theorem kept_State_operate {v0 : State} {v1 : Nat} {v2 : Nat} {v3 : Nat} {v4 : Option Word} {v5 : State → State} (hm : m &&& 152293346 = 0) (g0 : Kept m o v0) (g5 : ∀ a0, Kept m o a0 → Kept m o (v5 a0)) :
    Kept m o (State.operate v0 v1 v2 v3 v4 v5) := by
  unfold State.operate
  refine keptIte ?_ ?_
  · refine kept_State_access (sub hm) ?_ ?_
    · exact kept_State_wakeCab (sub hm) g0
    · intro a0 a1
      exact g5 _ a1
  · exact keptIte (kept_State_wakeBlock (sub hm) g0) g0

theorem kept_State_platform {v0 : State} {v1 : Nat} {v2 : Nat} {v3 : Option Word} {v4 : State → State} (hm : m &&& 152293346 = 0) (g0 : Kept m o v0) (g4 : ∀ a0, Kept m o a0 → Kept m o (v4 a0)) :
    Kept m o (State.platform v0 v1 v2 v3 v4) := by
  unfold State.platform
  refine keptIte ?_ ?_
  · refine kept_State_access (sub hm) ?_ ?_
    · exact kept_State_wakeBlock (sub hm) g0
    · intro a0 a1
      exact g4 _ a1
  · exact g0

theorem kept_State_objFree {v0 : State} {v1 : Nat} (hm : m &&& 1024 = 0) (g0 : Kept m o v0) :
    Kept m o (State.objFree v0 v1) := by
  unfold State.objFree
  extract_lets +onlyGivenNames -merge -underBinder x0 x1
  clear_value x0 x1
  refine keptIte ?_ ?_
  · extract_lets +onlyGivenNames -merge -underBinder x2
    have h3 : Kept m o x2 := by
      unfold x2
      exact kept_State_setObj (sub hm) g0
    clear_value x2
    exact keptUpd hm (s := x2) (by constructor <;> first | exact .inl rfl | exact .inr rfl) rfl rfl rfl h3
  · exact g0

theorem kept_State_objSettle {v0 : State} {v1 : Nat} (hm : m &&& 1024 = 0) (g0 : Kept m o v0) :
    Kept m o (State.objSettle v0 v1) := by
  unfold State.objSettle
  extract_lets +onlyGivenNames -merge -underBinder x0
  clear_value x0
  extract_lets +onlyGivenNames -merge -underBinder x1
  have h2 : Kept m o x1 := by
    unfold x1
    exact kept_State_objFree (sub hm) g0
  clear_value x1
  exact keptIte (kept_State_objFree (sub hm) h2) h2

theorem kept_State_objTake {v0 : State} (hm : m &&& 1024 = 0) (g0 : Kept m o v0) :
    Kept m o (State.objTake v0).2 := by
  unfold State.objTake
  refine keptIte2 ?_ ?_
  · dsimp only [id]
    exact keptUpd hm (s := v0) (by constructor <;> first | exact .inl rfl | exact .inr rfl) rfl rfl rfl g0
  · split
    · dsimp only [id]
      exact keptUpd hm (s := v0) (by constructor <;> first | exact .inl rfl | exact .inr rfl) rfl rfl rfl g0
    · exact g0

theorem kept_State_objRelease {v0 : State} {v1 : Nat} (hm : m &&& 1024 = 0) (g0 : Kept m o v0) :
    Kept m o (State.objRelease v0 v1) := by
  unfold State.objRelease
  exact kept_State_objSettle (sub hm) (kept_State_setObj (sub hm) g0)

theorem kept_State_holdRefs {v0 : State} {v1 : List Nat} (hm : m &&& 1024 = 0) (g0 : Kept m o v0) :
    Kept m o (State.holdRefs v0 v1) := by
  unfold State.holdRefs
  refine foldlKept ?_ ?_
  · intro a0 a1 a2
    extract_lets +onlyGivenNames -merge -underBinder x3
    clear_value x3
    exact kept_State_setObj (sub hm) a2
  · exact g0

theorem kept_State_dropRefs {v0 : State} {v1 : List Nat} (hm : m &&& 1024 = 0) (g0 : Kept m o v0) :
    Kept m o (State.dropRefs v0 v1) := by
  unfold State.dropRefs
  refine foldlKept ?_ ?_
  · intro a0 a1 a2
    extract_lets +onlyGivenNames -merge -underBinder x3
    clear_value x3
    exact kept_State_objSettle (sub hm) (kept_State_setObj (sub hm) a2)
  · exact g0

theorem kept_State_updFlight {v0 : State} {v1 : Nat} {v2 : Nat} {v3 : Nat} {v4 : Flight → Flight} (hm : m &&& 1024 = 0) (g0 : Kept m o v0) :
    Kept m o (State.updFlight v0 v1 v2 v3 v4) := by
  unfold State.updFlight
  exact keptUpd hm (s := v0) (by constructor <;> first | exact .inl rfl | exact .inr rfl) rfl rfl rfl g0

theorem kept_State_endFlight {v0 : State} {v1 : Nat} {v2 : Nat} {v3 : Nat} {v4 : Ending} (hm : m &&& 1056 = 0) (g0 : Kept m o v0) :
    Kept m o (State.endFlight v0 v1 v2 v3 v4) := by
  unfold State.endFlight
  extract_lets +onlyGivenNames -merge -underBinder x0
  have h1 : Kept m o x0 := by
    unfold x0
    refine keptIte ?_ ?_
    · split
      · exact kept_State_tally (sub hm) g0
      · exact g0
    · exact g0
  clear_value x0
  exact kept_State_updFlight (sub hm) h1

theorem kept_State_startFlight {v0 : State} {v1 : Flight} (hm : m &&& 1024 = 0) (g0 : Kept m o v0) :
    Kept m o (State.startFlight v0 v1) := by
  unfold State.startFlight
  exact kept_State_updFlight (sub hm) g0

theorem kept_State_lowerSignal {v0 : State} {v1 : Nat} {v2 : Nat} {v3 : Bool} {v4 : Nat} (hm : m &&& 2080 = 0) (g0 : Kept m o v0) :
    Kept m o (State.lowerSignal v0 v1 v2 v3 v4) := by
  unfold State.lowerSignal
  extract_lets +onlyGivenNames -merge -underBinder x0
  have h1 : Kept m o x0 := by
    unfold x0
    exact kept_State_bump (sub hm) (kept_State_bump (sub hm) g0)
  clear_value x0
  extract_lets +onlyGivenNames -merge -underBinder x2
  clear_value x2
  exact keptUpd hm (s := x0) (by constructor <;> first | exact .inl rfl | exact .inr rfl) rfl rfl rfl h1

theorem kept_State_signalFence {v0 : State} {v1 : Asker} {v2 : Nat} {v3 : Nat} (hm : m &&& 134438898 = 0) (g0 : Kept m o v0) :
    Kept m o (State.signalFence v0 v1 v2 v3).2 := by
  unfold State.signalFence
  split
  · rename_i y0 y1
    dsimp only [id]
    exact keptPair2 y1 (kept_State_xlate (sub hm) g0)
  · rename_i y2 y3
    dsimp only [id]
    exact keptPair2 y3 (kept_State_xlate (sub hm) g0)
  · rename_i y4 y5
    split
    · rename_i y6 y7
      dsimp only [id]
      exact keptPair2 y7 (kept_State_readAt (sub hm) (keptPair2 y5 (kept_State_xlate (sub hm) g0)))
    · rename_i y8 y9
      refine keptIte2 ?_ ?_
      · split
        · rename_i y10 y11
          dsimp only [id]
          exact keptPair2 y11 (kept_State_writeAt (sub hm) (keptPair2 y9 (kept_State_readAt (sub hm) (keptPair2 y5 (kept_State_xlate (sub hm) g0)))))
        · rename_i y12 y13
          dsimp only [id]
          exact keptPair2 y13 (kept_State_writeAt (sub hm) (keptPair2 y9 (kept_State_readAt (sub hm) (keptPair2 y5 (kept_State_xlate (sub hm) g0)))))
      · refine keptIte2 ?_ ?_
        · dsimp only [id]
          exact keptPair2 y9 (kept_State_readAt (sub hm) (keptPair2 y5 (kept_State_xlate (sub hm) g0)))
        · dsimp only [id]
          exact kept_State_lowerSignal (sub hm) (keptPair2 y9 (kept_State_readAt (sub hm) (keptPair2 y5 (kept_State_xlate (sub hm) g0))))

theorem kept_State_attachError {v0 : State} {v1 : Asker} {v2 : Nat} {v3 : Word} {v4 : optParam Bool false} (hm : m &&& 134438898 = 0) (g0 : Kept m o v0) :
    Kept m o (State.attachError v0 v1 v2 v3 v4).2 := by
  unfold State.attachError
  split
  · rename_i y0 y1
    dsimp only [id]
    exact keptPair2 y1 (kept_State_xlate (sub hm) g0)
  · rename_i y2 y3
    dsimp only [id]
    exact keptPair2 y3 (kept_State_xlate (sub hm) g0)
  · rename_i y4 y5
    split
    · rename_i y6 y7
      dsimp only [id]
      exact keptPair2 y7 (kept_State_readAt (sub hm) (keptPair2 y5 (kept_State_xlate (sub hm) g0)))
    · rename_i y8 y9
      refine keptIte2 ?_ ?_
      · dsimp only [id]
        exact keptPair2 y9 (kept_State_readAt (sub hm) (keptPair2 y5 (kept_State_xlate (sub hm) g0)))
      · split
        · rename_i y10 y11
          dsimp only [id]
          exact keptPair2 y11 (kept_State_writeAt (sub hm) (keptPair2 y9 (kept_State_readAt (sub hm) (keptPair2 y5 (kept_State_xlate (sub hm) g0)))))
        · rename_i y12 y13
          split
          · rename_i y14 y15
            dsimp only [id]
            exact keptPair2 y15 (kept_State_writeAt (sub hm) (keptPair2 y13 (kept_State_writeAt (sub hm) (keptPair2 y9 (kept_State_readAt (sub hm) (keptPair2 y5 (kept_State_xlate (sub hm) g0)))))))
          · rename_i y16 y17
            dsimp only [id]
            exact keptPair2 y17 (kept_State_writeAt (sub hm) (keptPair2 y13 (kept_State_writeAt (sub hm) (keptPair2 y9 (kept_State_readAt (sub hm) (keptPair2 y5 (kept_State_xlate (sub hm) g0)))))))

end Sys2Proof.Machine
end

