-- ==== Sys2Proof/Laws/KeptCommit.lean ====
section
/-! SUPPORT. For each operation of Machine/Commit.lean, and for each command meaning there: the fields of State it
    never changes (the bits not set in its mask), and that it keeps what Laws/Kept.lean names. -/

namespace Sys2Proof.Machine
set_option Elab.async false
variable {m : Nat} {o : State}

theorem kept_State_shadowFor {v0 : State} {v1 : Owner} {v2 : Nat} {v3 : Nat} {v4 : Nat} {v5 : Nat} {v6 : Bool} (hm : m &&& 4096 = 0) (g0 : Kept m o v0) :
    Kept m o (State.shadowFor v0 v1 v2 v3 v4 v5 v6).2 := by
  unfold State.shadowFor
  extract_lets +onlyGivenNames -merge -underBinder x0
  clear_value x0
  split
  · refine keptIte2 ?_ ?_
    · dsimp only [id]
      exact kept_State_setGran (sub hm) g0
    · exact g0
  · refine keptIte2 ?_ ?_
    · exact g0
    · split
      · dsimp only [id]
        exact kept_State_setGran (sub hm) g0
      · refine keptIte2 ?_ ?_
        · exact g0
        · dsimp only [id]
          exact kept_State_setGran (sub hm) g0

theorem kept_State_shadowWrite {v0 : State} {v1 : Owner} {v2 : Who} {v3 : Nat} {v4 : Nat} {v5 : Nat} {v6 : Nat} {v7 : List Byte} {v8 : optParam Bool false} (hm : m &&& 134438896 = 0) (g0 : Kept m o v0) :
    Kept m o (State.shadowWrite v0 v1 v2 v3 v4 v5 v6 v7 v8).2 := by
  unfold State.shadowWrite
  extract_lets +onlyGivenNames -merge -underBinder x0 x1
  clear_value x0 x1
  split
  · rename_i y2 y3
    extract_lets +onlyGivenNames -merge -underBinder x4
    clear_value x4
    split
    · dsimp only [id]
      exact keptPair2 y3 (kept_State_shadowFor (sub hm) (kept_State_resolve (sub hm) g0))
    · extract_lets +onlyGivenNames -merge -underBinder x5
      clear_value x5
      extract_lets +onlyGivenNames -merge -underBinder x6
      have h7 : ∀ a0 a1 a2, Kept m o a0 → Kept m o (x6 a0 a1 a2).2 := by
        intro a8 a9 a10 a11
        unfold x6
        split
        · rename_i y12 y13
          dsimp only [id]
          exact kept_State_setGran (sub hm) (keptPair2 y13 (kept_State_writeLoc (sub hm) a11))
        · rename_i y14 y15
          dsimp only [id]
          exact keptPair2 y15 (kept_State_writeLoc (sub hm) a11)
      clear_value x6
      refine keptIte2 ?_ ?_
      · exact h7 _ _ _ (keptPair2 y3 (kept_State_shadowFor (sub hm) (kept_State_resolve (sub hm) g0)))
      · split
        · rename_i y16 y17
          dsimp only [id]
          exact keptPair2 y17 (kept_State_readLine (sub hm) (keptPair2 y3 (kept_State_shadowFor (sub hm) (kept_State_resolve (sub hm) g0))))
        · rename_i y18 y19
          exact h7 _ _ _ (keptPair2 y19 (kept_State_readLine (sub hm) (keptPair2 y3 (kept_State_shadowFor (sub hm) (kept_State_resolve (sub hm) g0)))))
  · exact kept_State_shadowFor (sub hm) (kept_State_resolve (sub hm) g0)

theorem kept_State_passSeq {v0 : State} (hm : m &&& 32 = 0) (g0 : Kept m o v0) :
    Kept m o (State.passSeq v0) := by
  unfold State.passSeq
  exact kept_State_setReg (sub hm) g0

theorem kept_State_fillGran_go {v0 : Who} {v1 : Nat} {v2 : Nat} {v3 : State} (hm : m &&& 134434800 = 0) (g3 : Kept m o v3) :
    Kept m o (State.fillGran.go v0 v1 v2 v3).2 := by
  induction v2 generalizing v0 v1 v3
  · unfold State.fillGran.go
    exact g3
  · rename_i ih
    unfold State.fillGran.go
    extract_lets +onlyGivenNames -merge -underBinder x0 x1
    clear_value x0 x1
    split
    · exact g3
    · refine keptIte2 ?_ ?_
      · apply ih
        exact g3
      · split
        · rename_i y2 y3
          dsimp only [id]
          exact keptPair2 y3 (kept_State_readLine (sub hm) g3)
        · rename_i y4 y5
          split
          · rename_i y6 y7
            dsimp only [id]
            exact keptPair2 y7 (kept_State_writeLoc (sub hm) (keptPair2 y5 (kept_State_readLine (sub hm) g3)))
          · rename_i y8 y9
            apply ih
            exact keptPair2 y9 (kept_State_writeLoc (sub hm) (keptPair2 y5 (kept_State_readLine (sub hm) g3)))

theorem kept_State_fillGran {v0 : State} {v1 : Who} {v2 : Nat} (hm : m &&& 134434800 = 0) (g0 : Kept m o v0) :
    Kept m o (State.fillGran v0 v1 v2).2 := by
  unfold State.fillGran
  exact kept_State_fillGran_go (sub hm) g0

theorem kept_State_fillAll {v0 : Who} {v1 : List Nat} {v2 : State} (hm : m &&& 134434800 = 0) (g2 : Kept m o v2) :
    Kept m o (State.fillAll v0 v1 v2).2 := by
  induction v1 generalizing v0 v2
  · unfold State.fillAll
    exact g2
  · rename_i ih
    unfold State.fillAll
    split
    · rename_i y0 y1
      apply ih
      exact keptPair2 y1 (kept_State_fillGran (sub hm) g2)
    · exact kept_State_fillGran (sub hm) g2

theorem kept_State_makeCurrent {v0 : State} {v1 : Nat} (hm : m &&& 6144 = 0) (g0 : Kept m o v0) :
    Kept m o (State.makeCurrent v0 v1) := by
  unfold State.makeCurrent
  extract_lets +onlyGivenNames -merge -underBinder x0
  clear_value x0
  split
  · exact g0
  · extract_lets +onlyGivenNames -merge -underBinder x1
    have h2 : Kept m o x1 := by
      unfold x1
      exact keptIte (kept_State_setGran (sub hm) g0) (kept_State_setGran (sub hm) g0)
    clear_value x1
    exact kept_State_touchDev (sub hm) h2

theorem kept_State_endHold {v0 : State} {v1 : Owner} (hm : m &&& 2105344 = 0) (g0 : Kept m o v0) :
    Kept m o (State.endHold v0 v1) := by
  unfold State.endHold
  extract_lets +onlyGivenNames -merge -underBinder x0
  clear_value x0
  exact keptUpd hm (s := v0) (by constructor <;> first | exact .inl rfl | exact .inr rfl) rfl rfl rfl g0

theorem kept_State_discardShadows {v0 : State} {v1 : Owner} (hm : m &&& 2109440 = 0) (g0 : Kept m o v0) :
    Kept m o (State.discardShadows v0 v1) := by
  unfold State.discardShadows
  refine foldlKept ?_ ?_
  · intro a0 a1 a2
    extract_lets +onlyGivenNames -merge -underBinder x3
    clear_value x3
    exact kept_State_setGran (sub hm) a2
  · exact kept_State_endHold (sub hm) g0

theorem kept_State_commitOwner {v0 : State} {v1 : Owner} {v2 : Who} (hm : m &&& 136544240 = 0) (g0 : Kept m o v0) :
    Kept m o (State.commitOwner v0 v1 v2).2 := by
  unfold State.commitOwner
  extract_lets +onlyGivenNames -merge -underBinder x0
  clear_value x0
  split
  · rename_i y1 y2
    dsimp only [id]
    exact kept_State_discardShadows (sub hm) (keptPair2 y2 (kept_State_fillAll (sub hm) g0))
  · rename_i y3 y4
    extract_lets +onlyGivenNames -merge -underBinder x5
    have h6 : Kept m o x5 := by
      unfold x5
      refine kept_State_endHold (sub hm) (foldlKept ?_ ?_)
      · intro a7 a8 a9
        exact kept_State_makeCurrent (sub hm) a9
      · exact kept_State_passSeq (sub hm) (keptPair2 y4 (kept_State_fillAll (sub hm) g0))
    clear_value x5
    dsimp only [id]
    exact keptUpd hm (s := x5) (by constructor <;> first | exact .inl rfl | exact .inr rfl) rfl rfl rfl h6

theorem kept_State_copyHome_go {v0 : Who} {v1 : Nat} {v2 : Nat} {v3 : Nat} {v4 : State} (hm : m &&& 134434800 = 0) (g4 : Kept m o v4) :
    Kept m o (State.copyHome.go v0 v1 v2 v3 v4).2 := by
  induction v3 generalizing v0 v1 v2 v4
  · unfold State.copyHome.go
    exact g4
  · rename_i ih
    unfold State.copyHome.go
    extract_lets +onlyGivenNames -merge -underBinder x0
    clear_value x0
    split
    · rename_i y1 y2
      dsimp only [id]
      exact keptPair2 y2 (kept_State_readLoc (sub hm) g4)
    · rename_i y3 y4
      split
      · rename_i y5 y6
        dsimp only [id]
        exact keptPair2 y6 (kept_State_writeLoc (sub hm) (keptPair2 y4 (kept_State_readLoc (sub hm) g4)))
      · rename_i y7 y8
        apply ih
        exact keptPair2 y8 (kept_State_writeLoc (sub hm) (keptPair2 y4 (kept_State_readLoc (sub hm) g4)))

theorem kept_State_copyHome {v0 : State} {v1 : Who} {v2 : Nat} {v3 : Nat} (hm : m &&& 134434800 = 0) (g0 : Kept m o v0) :
    Kept m o (State.copyHome v0 v1 v2 v3).2 := by
  unfold State.copyHome
  exact kept_State_copyHome_go (sub hm) g0

theorem kept_State_settleGran {v0 : State} {v1 : Nat} {v2 : Nat} (hm : m &&& 134438896 = 0) (g0 : Kept m o v0) :
    Kept m o (State.settleGran v0 v1 v2).2 := by
  unfold State.settleGran
  extract_lets +onlyGivenNames -merge -underBinder x0
  clear_value x0
  split
  · exact g0
  · refine keptIte2 ?_ ?_
    · exact g0
    · split
      · rename_i y1 y2
        dsimp only [id]
        exact kept_State_setGran (sub hm) (keptPair2 y2 (kept_State_copyHome (sub hm) g0))
      · rename_i y3 y4
        dsimp only [id]
        exact kept_State_bump (sub hm) (kept_State_passSeq (sub hm) (kept_State_setGran (sub hm) (keptPair2 y4 (kept_State_copyHome (sub hm) g0))))

end Sys2Proof.Machine
end

