-- ==== Sys2Proof/Laws/KeptTileOps.lean ====
section
/-! SUPPORT. For each operation of Machine/TileOps.lean, and for each command meaning there: the fields of State it
    never changes (the bits not set in its mask), and that it keeps what Laws/Kept.lean names. -/

namespace Sys2Proof.Machine
set_option Elab.async false
variable {m : Nat} {o : State}

theorem kept_State_updCmd {v0 : State} {v1 : Nat} {v2 : Nat} {v3 : Cmd → Cmd} (hm : m &&& 8192 = 0) (g0 : Kept m o v0) :
    Kept m o (State.updCmd v0 v1 v2 v3) := by
  unfold State.updCmd
  exact keptUpd hm (s := v0) (by constructor <;> first | exact .inl rfl | exact .inr rfl) rfl rfl rfl g0

theorem kept_State_noteErr {v0 : State} {v1 : Option Owner} {v2 : Nat} {v3 : Nat} {v4 : Nat} {v5 : optParam Bool false} (hm : m &&& 8192 = 0) (g0 : Kept m o v0) :
    Kept m o (State.noteErr v0 v1 v2 v3 v4 v5) := by
  unfold State.noteErr
  split
  · exact kept_State_updCmd (sub hm) g0
  · exact g0

theorem kept_State_dropCmd {v0 : State} {v1 : Nat} {v2 : Nat} (hm : m &&& 8192 = 0) (g0 : Kept m o v0) :
    Kept m o (State.dropCmd v0 v1 v2) := by
  unfold State.dropCmd
  exact keptUpd hm (s := v0) (by constructor <;> first | exact .inl rfl | exact .inr rfl) rfl rfl rfl g0

theorem kept_State_chargeBusy {v0 : State} {v1 : Nat} {v2 : Nat} {v3 : Nat} (hm : m &&& 1536 = 0) (g0 : Kept m o v0) :
    Kept m o (State.chargeBusy v0 v1 v2 v3) := by
  unfold State.chargeBusy
  extract_lets +onlyGivenNames -merge -underBinder x0 x1 x2
  clear_value x0 x1 x2
  extract_lets +onlyGivenNames -merge -underBinder x3
  have h4 : Kept m o x3 := by
    unfold x3
    exact kept_State_setCab (sub hm) g0
  clear_value x3
  extract_lets +onlyGivenNames -merge -underBinder x5
  clear_value x5
  exact keptIte h4 (kept_State_setCtx (sub hm) h4)

theorem kept_State_deliverTables {v0 : State} {v1 : Nat} (hm : m &&& 8194 = 0) (g0 : Kept m o v0) :
    Kept m o (State.deliverTables v0 v1) := by
  unfold State.deliverTables
  extract_lets +onlyGivenNames -merge -underBinder x0
  clear_value x0
  extract_lets +onlyGivenNames -merge -underBinder x1
  have h2 : Kept m o x1 := by
    unfold x1
    refine foldlKept ?_ ?_
    · intro a3 a4 a5
      exact kept_State_emit (sub hm) a5
    · exact g0
  clear_value x1
  exact kept_State_setTile (sub hm) h2

theorem kept_State_clearTile {v0 : State} {v1 : Nat} (hm : m &&& 8194 = 0) (g0 : Kept m o v0) :
    Kept m o (State.clearTile v0 v1) := by
  unfold State.clearTile
  extract_lets +onlyGivenNames -merge -underBinder x0
  clear_value x0
  exact kept_State_emit (sub hm) (kept_State_setTile (sub hm) g0)

theorem kept_State_pushLeaving {v0 : State} {v1 : Nat} (hm : m &&& 8194 = 0) (g0 : Kept m o v0) :
    Kept m o (State.pushLeaving v0 v1) := by
  unfold State.pushLeaving
  extract_lets +onlyGivenNames -merge -underBinder x0
  clear_value x0
  exact keptIte (kept_State_clearTile (sub hm) g0) g0

theorem kept_State_freeTile {v0 : State} {v1 : Nat} {v2 : Nat} (hm : m &&& 9762 = 0) (g0 : Kept m o v0) :
    Kept m o (State.freeTile v0 v1 v2) := by
  unfold State.freeTile
  extract_lets +onlyGivenNames -merge -underBinder x0
  clear_value x0
  extract_lets +onlyGivenNames -merge -underBinder x1
  have h2 : Kept m o x1 := by
    unfold x1
    split
    · split
      · exact kept_State_chargeBusy (sub hm) g0
      · exact g0
    · exact g0
  clear_value x1
  extract_lets +onlyGivenNames -merge -underBinder x3
  clear_value x3
  exact kept_State_pushLeaving (sub hm) (kept_State_deliverTables (sub hm) (kept_State_tally (sub hm) (kept_State_setTile (sub hm) h2)))

theorem kept_State_freeTiles {v0 : State} {v1 : List Nat} {v2 : Nat} (hm : m &&& 9762 = 0) (g0 : Kept m o v0) :
    Kept m o (State.freeTiles v0 v1 v2) := by
  unfold State.freeTiles
  refine foldlKept ?_ ?_
  · intro a0 a1 a2
    exact kept_State_freeTile (sub hm) a2
  · exact g0

theorem kept_State_dropReqsOf {v0 : State} {v1 : Owner} (hm : m &&& 4198400 = 0) (g0 : Kept m o v0) :
    Kept m o (State.dropReqsOf v0 v1) := by
  unfold State.dropReqsOf
  exact keptUpd hm (s := v0) (by constructor <;> first | exact .inl rfl | exact .inr rfl) rfl rfl rfl g0

theorem kept_State_noteActivity {v0 : State} {v1 : Nat} {v2 : Nat} (hm : m &&& 1024 = 0) (g0 : Kept m o v0) :
    Kept m o (State.noteActivity v0 v1 v2) := by
  unfold State.noteActivity
  extract_lets +onlyGivenNames -merge -underBinder x0
  clear_value x0
  exact keptIte g0 (keptIte (keptIte (kept_State_setCtx (sub hm) g0) g0) (keptIte (kept_State_setCtx (sub hm) g0) g0))

theorem kept_State_renewWaits {v0 : State} {v1 : Nat} (hm : m &&& 9216 = 0) (g0 : Kept m o v0) :
    Kept m o (State.renewWaits v0 v1) := by
  unfold State.renewWaits
  extract_lets +onlyGivenNames -merge -underBinder x0
  clear_value x0
  refine foldlKept ?_ ?_
  · intro a1 a2 a3
    exact kept_State_noteActivity (sub hm) (kept_State_updCmd (sub hm) a3)
  · exact g0

theorem kept_State_endCmd {v0 : State} {v1 : Cmd} {v2 : Nat} {v3 : Option Nat} (hm : m &&& 4207648 = 0) (g0 : Kept m o v0) :
    Kept m o (State.endCmd v0 v1 v2 v3) := by
  unfold State.endCmd
  extract_lets +onlyGivenNames -merge -underBinder x0
  have h1 : Kept m o x0 := by
    unfold x0
    exact kept_State_tally (sub hm) (kept_State_dropReqsOf (sub hm) g0)
  clear_value x0
  extract_lets +onlyGivenNames -merge -underBinder x2
  have h3 : Kept m o x2 := by
    unfold x2
    split
    · exact kept_State_endFlight (sub hm) (kept_State_dropCmd (sub hm) h1)
    · exact kept_State_updCmd (sub hm) h1
  clear_value x2
  exact kept_State_renewWaits (sub hm) (kept_State_noteActivity (sub hm) h3)

theorem kept_State_countKill {v0 : State} {v1 : Cmd} {v2 : Nat} (hm : m &&& 134434784 = 0) (g0 : Kept m o v0) :
    Kept m o (State.countKill v0 v1 v2) := by
  unfold State.countKill
  extract_lets +onlyGivenNames -merge -underBinder x0 x1
  clear_value x0 x1
  extract_lets +onlyGivenNames -merge -underBinder x2
  have h3 : Kept m o x2 := by
    unfold x2
    exact kept_State_setCab (sub hm) g0
  clear_value x2
  extract_lets +onlyGivenNames -merge -underBinder x4
  clear_value x4
  extract_lets +onlyGivenNames -merge -underBinder x5
  have h6 : Kept m o x5 := by
    unfold x5
    exact keptIte (kept_State_setCtx (sub hm) h3) h3
  clear_value x5
  refine foldlKept ?_ ?_
  · intro a7 a8 a9
    exact kept_State_tally (sub hm) a9
  · exact kept_State_tally (sub hm) (kept_State_trace (sub hm) h6)

theorem kept_State_countCause {v0 : State} {v1 : Nat} {v2 : Nat} (hm : m &&& 32 = 0) (g0 : Kept m o v0) :
    Kept m o (State.countCause v0 v1 v2) := by
  unfold State.countCause
  exact keptIte (kept_State_bump (sub hm) g0) (kept_State_bump (sub hm) g0)

theorem kept_State_finishKill {v0 : State} {v1 : Cmd} (hm : m &&& 6305314 = 0) (g0 : Kept m o v0) :
    Kept m o (State.finishKill v0 v1) := by
  unfold State.finishKill
  extract_lets +onlyGivenNames -merge -underBinder x0
  clear_value x0
  extract_lets +onlyGivenNames -merge -underBinder x1
  have h2 : Kept m o x1 := by
    unfold x1
    exact kept_State_freeTiles (sub hm) (kept_State_dropReqsOf (sub hm) (kept_State_discardShadows (sub hm) g0))
  clear_value x1
  refine keptIte ?_ ?_
  · split
    · exact kept_State_endFlight (sub hm) (kept_State_dropCmd (sub hm) h2)
    · exact kept_State_dropCmd (sub hm) h2
  · split
    · exact kept_State_endCmd (sub hm) h2
    · extract_lets +onlyGivenNames -merge -underBinder x3
      have h4 : Kept m o x3 := by
        unfold x3
        exact kept_State_updCmd (sub hm) h2
      clear_value x3
      exact kept_State_renewWaits (sub hm) (kept_State_noteActivity (sub hm) h4)

theorem kept_State_killCmd {v0 : State} {v1 : Nat} {v2 : Nat} {v3 : Nat} {v4 : optParam (List Hold) []} (hm : m &&& 140738530 = 0) (g0 : Kept m o v0) :
    Kept m o (State.killCmd v0 v1 v2 v3 v4) := by
  unfold State.killCmd
  split
  · exact g0
  · refine keptIte ?_ ?_
    · exact g0
    · split
      · extract_lets +onlyGivenNames -merge -underBinder x0
        have h1 : Kept m o x0 := by
          unfold x0
          exact kept_State_countCause (sub hm) (kept_State_countKill (sub hm) g0)
        clear_value x0
        extract_lets +onlyGivenNames -merge -underBinder x2
        have h3 : Kept m o x2 := by
          unfold x2
          refine foldlKept ?_ ?_
          · intro a4 a5 a6
            exact kept_State_emit (sub hm) (kept_State_setTile (sub hm) a6)
          · exact h1
        clear_value x2
        exact kept_State_dropReqsOf (sub hm) (kept_State_updCmd (sub hm) h3)
      · extract_lets +onlyGivenNames -merge -underBinder x7
        have h8 : Kept m o x7 := by
          unfold x7
          exact kept_State_countCause (sub hm) (kept_State_countKill (sub hm) g0)
        clear_value x7
        extract_lets +onlyGivenNames -merge -underBinder x9
        have h10 : Kept m o x9 := by
          unfold x9
          refine foldlKept ?_ ?_
          · intro a11 a12 a13
            exact kept_State_emit (sub hm) (kept_State_setTile (sub hm) a13)
          · exact h8
        clear_value x9
        exact kept_State_dropReqsOf (sub hm) (kept_State_updCmd (sub hm) h10)
      · extract_lets +onlyGivenNames -merge -underBinder x14
        have h15 : Kept m o x14 := by
          unfold x14
          exact kept_State_countCause (sub hm) (kept_State_countKill (sub hm) g0)
        clear_value x14
        extract_lets +onlyGivenNames -merge -underBinder x16
        clear_value x16
        exact kept_State_finishKill (sub hm) (kept_State_updCmd (sub hm) h15)
      · exact kept_State_updCmd (sub hm) (kept_State_countCause (sub hm) g0)
      · exact g0

theorem kept_State_ackKill {v0 : State} {v1 : Nat} (hm : m &&& 6305314 = 0) (g0 : Kept m o v0) :
    Kept m o (State.ackKill v0 v1) := by
  unfold State.ackKill
  extract_lets +onlyGivenNames -merge -underBinder x0
  clear_value x0
  split
  · split
    · split
      · extract_lets +onlyGivenNames -merge -underBinder x1
        clear_value x1
        extract_lets +onlyGivenNames -merge -underBinder x2
        have h3 : Kept m o x2 := by
          unfold x2
          exact kept_State_setTile (sub hm) g0
        clear_value x2
        exact keptIte (kept_State_finishKill (sub hm) h3) (kept_State_updCmd (sub hm) h3)
      · exact kept_State_setTile (sub hm) g0
    · exact kept_State_setTile (sub hm) g0
  · exact g0

end Sys2Proof.Machine
end

