-- ==== Sys2Proof/Laws/KeptFabric.lean ====
section
/-! SUPPORT. For each operation of Machine/Fabric.lean, and for each command meaning there: the fields of State it
    never changes (the bits not set in its mask), and that it keeps what Laws/Kept.lean names. -/

namespace Sys2Proof.Machine
set_option Elab.async false
variable {m : Nat} {o : State}

theorem kept_State_setPort {v0 : State} {v1 : Nat} {v2 : Port} (hm : m &&& 4194304 = 0) (g0 : Kept m o v0) :
    Kept m o (State.setPort v0 v1 v2) := by
  unfold State.setPort
  exact keptUpd hm (s := v0) (by constructor <;> first | exact .inl rfl | exact .inr rfl) rfl rfl rfl g0

theorem kept_State_portOut {v0 : State} {v1 : Nat} {v2 : Packet} (hm : m &&& 34 = 0) (g0 : Kept m o v0) :
    Kept m o (State.portOut v0 v1 v2) := by
  unfold State.portOut
  exact kept_State_emit (sub hm) (kept_State_carry (sub hm) g0)

theorem kept_State_portSend {v0 : State} {v1 : Nat} {v2 : Packet} (hm : m &&& 4194338 = 0) (g0 : Kept m o v0) :
    Kept m o (State.portSend v0 v1 v2) := by
  unfold State.portSend
  extract_lets +onlyGivenNames -merge -underBinder x0 x1 x2
  clear_value x0 x1 x2
  exact keptIte (kept_State_setPort (sub hm) g0) (kept_State_portOut (sub hm) g0)

theorem kept_State_flushPort {v0 : State} {v1 : Nat} (hm : m &&& 4194338 = 0) (g0 : Kept m o v0) :
    Kept m o (State.flushPort v0 v1) := by
  unfold State.flushPort
  extract_lets +onlyGivenNames -merge -underBinder x0 x1 x2
  clear_value x0 x1 x2
  refine keptIte ?_ ?_
  · refine foldlKept ?_ ?_
    · intro a3 a4 a5
      exact kept_State_portOut (sub hm) a5
    · exact kept_State_setPort (sub hm) g0
  · exact g0

theorem kept_State_injectPace {v0 : State} {v1 : Nat} {v2 : Nat} (hm : m &&& 4194304 = 0) (g0 : Kept m o v0) :
    Kept m o (State.injectPace v0 v1 v2).2 := by
  unfold State.injectPace
  extract_lets +onlyGivenNames -merge -underBinder x0 x1 x2 x3 x4
  clear_value x0 x1 x2 x3 x4
  dsimp only [id]
  exact keptUpd hm (s := v0) (by constructor <;> first | exact .inl rfl | exact .inr rfl) rfl rfl rfl g0

theorem kept_State_portOwn {v0 : State} {v1 : Nat} {v2 : Packet} (hm : m &&& 4194338 = 0) (g0 : Kept m o v0) :
    Kept m o (State.portOwn v0 v1 v2) := by
  unfold State.portOwn
  exact kept_State_portSend (sub hm) (kept_State_injectPace (sub hm) g0)

theorem kept_State_dropUnreach {v0 : State} {v1 : Packet} (hm : m &&& 4194338 = 0) (g0 : Kept m o v0) :
    Kept m o (State.dropUnreach v0 v1) := by
  unfold State.dropUnreach
  extract_lets +onlyGivenNames -merge -underBinder x0
  have h1 : Kept m o x0 := by
    unfold x0
    exact kept_State_bump (sub hm) g0
  clear_value x0
  refine keptIte ?_ ?_
  · split
    · exact keptUpd hm (s := x0) (by constructor <;> first | exact .inl rfl | exact .inr rfl) rfl rfl rfl h1
    · exact kept_State_portOwn (sub hm) h1
    · exact h1
  · exact h1

theorem kept_State_forward {v0 : State} {v1 : Packet} (hm : m &&& 4194338 = 0) (g0 : Kept m o v0) :
    Kept m o (State.forward v0 v1) := by
  unfold State.forward
  split
  · exact keptUpd hm (s := v0) (by constructor <;> first | exact .inl rfl | exact .inr rfl) rfl rfl rfl g0
  · exact kept_State_portSend (sub hm) (kept_State_carry (sub hm) (keptIte (kept_State_bump (sub hm) g0) g0))
  · exact kept_State_bump (sub hm) g0
  · exact kept_State_dropUnreach (sub hm) g0

theorem kept_State_rotate {v0 : State} (hm : m &&& 4194304 = 0) (g0 : Kept m o v0) :
    Kept m o (State.rotate v0).2 := by
  unfold State.rotate
  extract_lets +onlyGivenNames -merge -underBinder x0
  clear_value x0
  dsimp only [id]
  exact keptUpd hm (s := v0) (by constructor <;> first | exact .inl rfl | exact .inr rfl) rfl rfl rfl g0

theorem kept_State_chooseRoute {v0 : State} {v1 : Packet} (hm : m &&& 4194304 = 0) (g0 : Kept m o v0) :
    Kept m o (State.chooseRoute v0 v1).2 := by
  unfold State.chooseRoute
  extract_lets +onlyGivenNames -merge -underBinder x0 x1
  clear_value x0 x1
  refine keptIte2 ?_ ?_
  · exact g0
  · extract_lets +onlyGivenNames -merge -underBinder x2
    have h3 : Kept m o x2.2 := by
      unfold x2
      exact kept_State_rotate (sub hm) g0
    clear_value x2
    exact h3

theorem kept_State_inject {v0 : State} {v1 : Packet} {v2 : optParam (Option Bool) none} (hm : m &&& 4194850 = 0) (g0 : Kept m o v0) :
    Kept m o (State.inject v0 v1 v2) := by
  unfold State.inject
  extract_lets +onlyGivenNames -merge -underBinder x0
  clear_value x0
  refine keptIte ?_ ?_
  · exact keptUpd hm (s := v0) (by constructor <;> first | exact .inl rfl | exact .inr rfl) rfl rfl rfl g0
  · extract_lets +onlyGivenNames -merge -underBinder x1 x2 x3
    clear_value x1 x2 x3
    extract_lets +onlyGivenNames -merge -underBinder x4
    have h5 : Kept m o x4.2 := by
      unfold x4
      exact kept_State_chooseRoute (sub hm) g0
    clear_value x4
    extract_lets +onlyGivenNames -merge -underBinder x6
    clear_value x6
    extract_lets +onlyGivenNames -merge -underBinder x7
    have h8 : Kept m o x7 := by
      exact h5
    clear_value x7
    refine keptIte ?_ ?_
    · extract_lets +onlyGivenNames -merge -underBinder x9
      have h10 : Kept m o x9 := by
        unfold x9
        exact kept_State_bump (sub hm) h8
      clear_value x9
      exact keptUpd hm (s := x9) (by constructor <;> first | exact .inl rfl | exact .inr rfl) rfl rfl rfl h10
    · extract_lets +onlyGivenNames -merge -underBinder x11
      have h12 : Kept m o x11 := by
        unfold x11
        exact kept_State_injectPace (sub hm) h8
      clear_value x11
      extract_lets +onlyGivenNames -merge -underBinder x13 x14
      clear_value x13 x14
      extract_lets +onlyGivenNames -merge -underBinder x15
      have h16 : Kept m o x15 := by
        unfold x15
        exact keptIte h12 (keptUpd hm (s := x11) (by constructor <;> first | exact .inl rfl | exact .inr rfl) rfl rfl rfl h12)
      clear_value x15
      extract_lets +onlyGivenNames -merge -underBinder x17 x18
      clear_value x17 x18
      extract_lets +onlyGivenNames -merge -underBinder x19
      have h20 : Kept m o x19 := by
        unfold x19
        exact keptIte h16 (kept_State_setCab (sub hm) h16)
      clear_value x19
      exact kept_State_forward (sub hm) h20

theorem kept_State_reply {v0 : State} {v1 : Nat} {v2 : Packet} {v3 : Nat} {v4 : Nat} {v5 : List Byte} {v6 : optParam Nat 0} (hm : m &&& 4194850 = 0) (g0 : Kept m o v0) :
    Kept m o (State.reply v0 v1 v2 v3 v4 v5 v6) := by
  unfold State.reply
  exact kept_State_inject (sub hm) g0

theorem kept_State_arrives {v0 : State} {v1 : Option Nat} {v2 : Packet} (hm : m &&& 152260578 = 0) (g0 : Kept m o v0) :
    Kept m o (State.arrives v0 v1 v2).2 := by
  unfold State.arrives
  split
  · extract_lets +onlyGivenNames -merge -underBinder x0 x1
    clear_value x0 x1
    extract_lets +onlyGivenNames -merge -underBinder x2
    have h3 : Kept m o x2 := by
      unfold x2
      exact keptIte (kept_State_setCab (sub hm) g0) g0
    clear_value x2
    dsimp only [id]
    exact kept_State_carry (sub hm) (kept_State_wakeCab (sub hm) h3)
  · extract_lets +onlyGivenNames -merge -underBinder x4
    have h5 : Kept m o x4 := by
      unfold x4
      exact kept_State_bump (sub hm) g0
    clear_value x4
    dsimp only [id]
    split
    · exact kept_State_bump (sub hm) h5
    · exact h5

theorem kept_State_holdArrival {v0 : State} {v1 : Nat} {v2 : Packet} (hm : m &&& 4194304 = 0) (g0 : Kept m o v0) :
    Kept m o (State.holdArrival v0 v1 v2) := by
  unfold State.holdArrival
  extract_lets +onlyGivenNames -merge -underBinder x0 x1
  clear_value x0 x1
  exact kept_State_setPort (sub hm) g0

theorem kept_State_receive {v0 : State} {v1 : Option PortId} {v2 : Packet} {v3 : State → State} (hm : m &&& 4194336 = 0) (g0 : Kept m o v0) (g3 : ∀ a0, Kept m o a0 → Kept m o (v3 a0)) :
    Kept m o (State.receive v0 v1 v2 v3) := by
  unfold State.receive
  refine keptIte ?_ ?_
  · exact g0
  · split
    · exact keptIte g0 (keptIte (g3 _ (keptUpd hm (s := v0) (by constructor <;> first | exact .inl rfl | exact .inr rfl) rfl rfl rfl g0)) g0)
    · extract_lets +onlyGivenNames -merge -underBinder x0
      clear_value x0
      refine keptIte ?_ ?_
      · extract_lets +onlyGivenNames -merge -underBinder x1
        have h2 : Kept m o x1 := by
          unfold x1
          exact kept_State_carry (sub hm) g0
        clear_value x1
        exact keptIte (kept_State_holdArrival (sub hm) h2) (g3 _ h2)
      · exact g0

theorem kept_State_remote {v0 : State} {v1 : Nat} {v2 : Nat} {v3 : Nat} {v4 : Option Owner} {v5 : RemoteWork} {v6 : Nat} {v7 : optParam Nat 0} (hm : m &&& 4194304 = 0) (g0 : Kept m o v0) :
    Kept m o (State.remote v0 v1 v2 v3 v4 v5 v6 v7).2 := by
  unfold State.remote
  extract_lets +onlyGivenNames -merge -underBinder x0
  clear_value x0
  dsimp only [id]
  exact keptUpd hm (s := v0) (by constructor <;> first | exact .inl rfl | exact .inr rfl) rfl rfl rfl g0

theorem kept_State_dropRemote {v0 : State} {v1 : Nat} (hm : m &&& 4194304 = 0) (g0 : Kept m o v0) :
    Kept m o (State.dropRemote v0 v1) := by
  unfold State.dropRemote
  exact keptUpd hm (s := v0) (by constructor <;> first | exact .inl rfl | exact .inr rfl) rfl rfl rfl g0

theorem kept_State_failOwner {v0 : State} {v1 : Option Owner} {v2 : Nat} {v3 : Nat} {v4 : Nat} (hm : m &&& 8192 = 0) (g0 : Kept m o v0) :
    Kept m o (State.failOwner v0 v1 v2 v3 v4) := by
  unfold State.failOwner
  split
  · exact kept_State_updCmd (sub hm) (kept_State_noteErr (sub hm) g0)
  · exact g0

theorem kept_State_dropWrite {v0 : State} {v1 : RemoteReq} (hm : m &&& 4194304 = 0) (g0 : Kept m o v0) :
    Kept m o (State.dropWrite v0 v1) := by
  unfold State.dropWrite
  refine foldlKept ?_ ?_
  · intro a0 a1 a2
    exact kept_State_dropRemote (sub hm) a2
  · exact g0

theorem kept_State_endRemote {v0 : State} {v1 : RemoteReq} {v2 : Nat} {v3 : Nat} (hm : m &&& 4203554 = 0) (g0 : Kept m o v0) :
    Kept m o (State.endRemote v0 v1 v2 v3) := by
  unfold State.endRemote
  refine keptIte ?_ ?_
  · exact g0
  · extract_lets +onlyGivenNames -merge -underBinder x0
    have h1 : Kept m o x0 := by
      unfold x0
      split
      · exact kept_State_dropWrite (sub hm) g0
      · exact kept_State_dropRemote (sub hm) g0
    clear_value x0
    split
    · exact kept_State_emit (sub hm) (kept_State_failOwner (sub hm) h1)
    · exact kept_State_emit (sub hm) (kept_State_failOwner (sub hm) h1)
    · exact kept_State_endFlight (sub hm) h1

theorem kept_State_flood {v0 : State} {v1 : Packet} {v2 : Option Nat} (hm : m &&& 4194338 = 0) (g0 : Kept m o v0) :
    Kept m o (State.flood v0 v1 v2) := by
  unfold State.flood
  refine foldlKept ?_ ?_
  · intro a0 a1 a2
    exact kept_State_portOwn (sub hm) a2
  · exact g0

theorem kept_State_originateAbort {v0 : State} {v1 : Nat} {v2 : Nat} (hm : m &&& 4194338 = 0) (g0 : Kept m o v0) :
    Kept m o (State.originateAbort v0 v1 v2) := by
  unfold State.originateAbort
  refine keptIte ?_ ?_
  · extract_lets +onlyGivenNames -merge -underBinder x0 x1 x2
    clear_value x0 x1 x2
    extract_lets +onlyGivenNames -merge -underBinder x3
    have h4 : Kept m o x3 := by
      unfold x3
      exact keptUpd hm (s := v0) (by constructor <;> first | exact .inl rfl | exact .inr rfl) rfl rfl rfl g0
    clear_value x3
    exact kept_State_flood (sub hm) (kept_State_bump (sub hm) h4)
  · exact g0

end Sys2Proof.Machine
end

