-- ==== Sys2Proof/Laws/KeptDceOps.lean ====
section
/-! SUPPORT. For each operation of Machine/DceOps.lean, and for each command meaning there: the fields of State it
    never changes (the bits not set in its mask), and that it keeps what Laws/Kept.lean names. -/

namespace Sys2Proof.Machine
set_option Elab.async false
variable {m : Nat} {o : State}

theorem kept_State_updDce {v0 : State} {v1 : DceCmd} {v2 : DceCmd → DceCmd} (hm : m &&& 2097152 = 0) (g0 : Kept m o v0) :
    Kept m o (State.updDce v0 v1 v2) := by
  unfold State.updDce
  exact keptUpd hm (s := v0) (by constructor <;> first | exact .inl rfl | exact .inr rfl) rfl rfl rfl g0

theorem kept_State_dropDce {v0 : State} {v1 : DceCmd} (hm : m &&& 2097152 = 0) (g0 : Kept m o v0) :
    Kept m o (State.dropDce v0 v1) := by
  unfold State.dropDce
  exact keptUpd hm (s := v0) (by constructor <;> first | exact .inl rfl | exact .inr rfl) rfl rfl rfl g0

theorem kept_State_toPeer {v0 : State} {v1 : DceCmd} {v2 : Peer} {v3 : Nat} {v4 : List Byte} {v5 : optParam Nat 0} (hm : m &&& 4194850 = 0) (g0 : Kept m o v0) :
    Kept m o (State.toPeer v0 v1 v2 v3 v4 v5) := by
  unfold State.toPeer
  exact kept_State_inject (sub hm) g0

theorem kept_State_discardPeers {v0 : State} {v1 : DceCmd} {v2 : Option Nat} (hm : m &&& 4194850 = 0) (g0 : Kept m o v0) :
    Kept m o (State.discardPeers v0 v1 v2) := by
  unfold State.discardPeers
  refine foldlKept ?_ ?_
  · intro a0 a1 a2
    exact kept_State_toPeer (sub hm) a2
  · exact g0

theorem kept_State_updTicket {v0 : State} {v1 : Nat} {v2 : Nat} {v3 : Ticket → Ticket} (hm : m &&& 2097152 = 0) (g0 : Kept m o v0) :
    Kept m o (State.updTicket v0 v1 v2 v3) := by
  unfold State.updTicket
  exact keptUpd hm (s := v0) (by constructor <;> first | exact .inl rfl | exact .inr rfl) rfl rfl rfl g0

theorem kept_State_carryRows {v0 : State} {v1 : Nat} {v2 : Nat} {v3 : Nat} {v4 : Nat} (hm : m &&& 32 = 0) (g0 : Kept m o v0) :
    Kept m o (State.carryRows v0 v1 v2 v3 v4) := by
  unfold State.carryRows
  exact kept_State_tally (sub hm) (kept_State_tally (sub hm) (kept_State_tally (sub hm) g0))

theorem kept_State_setReserved {v0 : State} {v1 : Nat} {v2 : Nat} (hm : m &&& 4096 = 0) (g0 : Kept m o v0) :
    Kept m o (State.setReserved v0 v1 v2) := by
  unfold State.setReserved
  exact keptUpd hm (s := v0) (by constructor <;> first | exact .inl rfl | exact .inr rfl) rfl rfl rfl g0

theorem kept_State_closeTicket {v0 : State} {v1 : Nat} {v2 : Nat} (hm : m &&& 2101248 = 0) (g0 : Kept m o v0) :
    Kept m o (State.closeTicket v0 v1 v2) := by
  unfold State.closeTicket
  split
  · extract_lets +onlyGivenNames -merge -underBinder x0
    have h1 : Kept m o x0 := by
      unfold x0
      exact kept_State_setReserved (sub hm) g0
    clear_value x0
    exact keptUpd hm (s := x0) (by constructor <;> first | exact .inl rfl | exact .inr rfl) rfl rfl rfl h1
  · exact g0

theorem kept_State_leaveDce {v0 : State} {v1 : DceCmd} (hm : m &&& 6828032 = 0) (g0 : Kept m o v0) :
    Kept m o (State.leaveDce v0 v1) := by
  unfold State.leaveDce
  extract_lets +onlyGivenNames -merge -underBinder x0
  have h1 : Kept m o x0 := by
    unfold x0
    exact kept_State_dropDce (sub hm) (kept_State_dropReqsOf (sub hm) (kept_State_discardShadows (sub hm) g0))
  clear_value x0
  exact keptUpd hm (s := x0) (by constructor <;> first | exact .inl rfl | exact .inr rfl) rfl rfl rfl h1

theorem kept_State_endDce {v0 : State} {v1 : DceCmd} {v2 : Ending} (hm : m &&& 6829088 = 0) (g0 : Kept m o v0) :
    Kept m o (State.endDce v0 v1 v2) := by
  unfold State.endDce
  extract_lets +onlyGivenNames -merge -underBinder x0
  have h1 : Kept m o x0 := by
    unfold x0
    exact kept_State_leaveDce (sub hm) g0
  clear_value x0
  extract_lets +onlyGivenNames -merge -underBinder x2
  have h3 : Kept m o x2 := by
    unfold x2
    exact keptIte (kept_State_closeTicket (sub hm) h1) h1
  clear_value x2
  extract_lets +onlyGivenNames -merge -underBinder x4
  clear_value x4
  extract_lets +onlyGivenNames -merge -underBinder x5
  have h6 : Kept m o x5 := by
    unfold x5
    exact keptIte (kept_State_setCtx (sub hm) h3) h3
  clear_value x5
  exact kept_State_endFlight (sub hm) h6

theorem kept_State_countDceKill {v0 : State} {v1 : DceCmd} {v2 : Nat} (hm : m &&& 134434784 = 0) (g0 : Kept m o v0) :
    Kept m o (State.countDceKill v0 v1 v2) := by
  unfold State.countDceKill
  extract_lets +onlyGivenNames -merge -underBinder x0 x1
  clear_value x0 x1
  extract_lets +onlyGivenNames -merge -underBinder x2
  have h3 : Kept m o x2 := by
    unfold x2
    exact kept_State_setCab (sub hm) g0
  clear_value x2
  extract_lets +onlyGivenNames -merge -underBinder x4
  clear_value x4
  extract_lets +onlyGivenNames -merge -underBinder x5
  have h6 : Kept m o x5 := by
    unfold x5
    exact keptIte (kept_State_setCtx (sub hm) h3) h3
  clear_value x5
  exact kept_State_countCause (sub hm) (kept_State_tally (sub hm) (kept_State_trace (sub hm) h6))

theorem kept_State_killDce {v0 : State} {v1 : DceCmd} {v2 : Nat} {v3 : optParam (List Hold) []} (hm : m &&& 140738530 = 0) (g0 : Kept m o v0) :
    Kept m o (State.killDce v0 v1 v2 v3) := by
  unfold State.killDce
  refine keptIte ?_ ?_
  · exact g0
  · split
    · extract_lets +onlyGivenNames -merge -underBinder x0
      have h1 : Kept m o x0 := by
        unfold x0
        exact kept_State_discardShadows (sub hm) (kept_State_discardPeers (sub hm) (kept_State_countDceKill (sub hm) g0))
      clear_value x0
      exact kept_State_updDce (sub hm) (kept_State_dropReqsOf (sub hm) h1)
    · refine keptIte ?_ ?_
      · exact g0
      · extract_lets +onlyGivenNames -merge -underBinder x2
        have h3 : Kept m o x2 := by
          unfold x2
          exact kept_State_discardShadows (sub hm) (kept_State_countDceKill (sub hm) g0)
        clear_value x2
        exact kept_State_updDce (sub hm) (kept_State_dropReqsOf (sub hm) h3)
    · extract_lets +onlyGivenNames -merge -underBinder x4
      have h5 : Kept m o x4 := by
        unfold x4
        exact kept_State_discardShadows (sub hm) (kept_State_countDceKill (sub hm) g0)
      clear_value x4
      exact kept_State_updDce (sub hm) (kept_State_dropReqsOf (sub hm) h5)
    · exact g0

theorem kept_State_killOwner {v0 : State} {v1 : Owner} {v2 : Nat} (hm : m &&& 140738530 = 0) (g0 : Kept m o v0) :
    Kept m o (State.killOwner v0 v1 v2) := by
  unfold State.killOwner
  split
  · exact kept_State_killCmd (sub hm) g0
  · split
    · exact kept_State_killDce (sub hm) g0
    · exact kept_State_discardShadows (sub hm) g0
  · exact g0

theorem kept_State_shadowStall {v0 : State} {v1 : Asker} {v2 : Nat} (hm : m &&& 4096 = 0) (g0 : Kept m o v0) :
    Kept m o (State.shadowStall v0 v1 v2) := by
  unfold State.shadowStall
  exact kept_State_addReq (sub hm) g0

theorem kept_State_shadowVa_go {v0 : Owner} {v1 : Asker} {v2 : Bool} {v3 : Nat} {v4 : State} {v5 : Nat} {v6 : List Byte} (hm : m &&& 134438898 = 0) (g4 : Kept m o v4) :
    Kept m o (State.shadowVa.go v0 v1 v2 v3 v4 v5 v6).2 := by
  induction v3 generalizing v4 v5 v6 with
  | zero => exact g4
  | succ k ih =>
    cases v6 with
    | nil => exact g4
    | cons y r =>
      unfold State.shadowVa.go
      extract_lets c
      have h1 := kept_State_xlate (sub hm) (v1 := v1) (v2 := v5) (v3 := true) g4
      split
      · rename_i e
        exact keptPair2 e h1
      · rename_i e
        exact keptPair2 e h1
      · rename_i host p m s1 e
        split
        · exact keptPair2 e h1
        · have h2 := kept_State_shadowWrite (sub hm) (v1 := v0) (v2 := v1.who) (v3 := v1.cab) (v4 := v1.ctx) (v5 := v5) (v6 := p)
            (v7 := (y :: r).take c) (v8 := v2) (keptPair2 e h1)
          split
          · rename_i s2 e2
            exact ih (keptPair2 e2 h2)
          · rename_i e2
            exact keptPair2 e2 h2
          · rename_i e2
            exact keptPair2 e2 h2
          · rename_i e2
            exact keptPair2 e2 h2
          · rename_i s2 e2
            exact kept_State_shadowStall (sub hm) (keptPair2 e2 h2)

theorem kept_State_shadowVa {v0 : State} {v1 : Owner} {v2 : Asker} {v3 : Nat} {v4 : List Byte} {v5 : Bool} (hm : m &&& 134438898 = 0) (g0 : Kept m o v0) :
    Kept m o (State.shadowVa v0 v1 v2 v3 v4 v5).2 := by
  unfold State.shadowVa
  split
  · rename_i y0 y1
    dsimp only [id]
    exact keptPair2 y1 (kept_State_xlateAll (sub hm) g0)
  · rename_i y2 y3
    dsimp only [id]
    exact keptPair2 y3 (kept_State_xlateAll (sub hm) g0)
  · rename_i y4 y5
    exact kept_State_shadowVa_go (sub hm) (keptPair2 y5 (kept_State_xlateAll (sub hm) g0))

theorem kept_State_dceWrite {v0 : State} {v1 : DceCmd} {v2 : Nat} {v3 : List Byte} (hm : m &&& 134438898 = 0) (g0 : Kept m o v0) :
    Kept m o (State.dceWrite v0 v1 v2 v3).2 := by
  unfold State.dceWrite
  refine keptIte2 ?_ ?_
  · split
    · rename_i y0 y1
      dsimp only [id]
      exact keptPair2 y1 (kept_State_vaWrite (sub hm) g0)
    · rename_i y2 y3
      dsimp only [id]
      exact keptPair2 y3 (kept_State_vaWrite (sub hm) g0)
    · rename_i y4 y5
      dsimp only [id]
      exact keptPair2 y5 (kept_State_vaWrite (sub hm) g0)
  · exact kept_State_shadowVa (sub hm) g0

end Sys2Proof.Machine
end

