-- ==== Sys2Proof/Laws/KeptTables.lean ====
section
/-! SUPPORT. For each operation of Machine/Tables.lean, and for each command meaning there: the fields of State it
    never changes (the bits not set in its mask), and that it keeps what Laws/Kept.lean names. -/

namespace Sys2Proof.Machine
set_option Elab.async false
variable {m : Nat} {o : State}

theorem kept_State_setSlot {v0 : State} {v1 : Nat} {v2 : Slot} (hm : m &&& 524288 = 0) (g0 : Kept m o v0) :
    Kept m o (State.setSlot v0 v1 v2) := by
  unfold State.setSlot
  exact keptUpd hm (s := v0) (by constructor <;> first | exact .inl rfl | exact .inr rfl) rfl rfl rfl g0

theorem kept_State_dropOp {v0 : State} {v1 : TableOp} (hm : m &&& 524288 = 0) (g0 : Kept m o v0) :
    Kept m o (State.dropOp v0 v1) := by
  unfold State.dropOp
  exact keptUpd hm (s := v0) (by constructor <;> first | exact .inl rfl | exact .inr rfl) rfl rfl rfl g0

theorem kept_State_setOp {v0 : State} {v1 : TableOp} (hm : m &&& 524288 = 0) (g0 : Kept m o v0) :
    Kept m o (State.setOp v0 v1) := by
  unfold State.setOp
  exact keptUpd hm (s := v0) (by constructor <;> first | exact .inl rfl | exact .inr rfl) rfl rfl rfl g0

theorem kept_State_deliverSlot {v0 : State} {v1 : Nat} {v2 : List Nat} (hm : m &&& 8194 = 0) (g0 : Kept m o v0) :
    Kept m o (State.deliverSlot v0 v1 v2) := by
  unfold State.deliverSlot
  refine foldlKept ?_ ?_
  · intro a0 a1 a2
    extract_lets +onlyGivenNames -merge -underBinder x3
    clear_value x3
    exact keptIte (kept_State_setTile (sub hm) a2) (kept_State_deliverTables (sub hm) (kept_State_setTile (sub hm) a2))
  · exact g0

theorem kept_State_withdrawSlot {v0 : State} {v1 : Nat} {v2 : List Nat} (hm : m &&& 8194 = 0) (g0 : Kept m o v0) :
    Kept m o (State.withdrawSlot v0 v1 v2) := by
  unfold State.withdrawSlot
  refine foldlKept ?_ ?_
  · intro a0 a1 a2
    extract_lets +onlyGivenNames -merge -underBinder x3
    clear_value x3
    extract_lets +onlyGivenNames -merge -underBinder x4
    have h5 : Kept m o x4 := by
      unfold x4
      exact kept_State_setTile (sub hm) a2
    clear_value x4
    exact keptIte (kept_State_emit (sub hm) h5) h5
  · exact g0

theorem kept_State_retable {v0 : State} {v1 : Nat} (hm : m &&& 8194 = 0) (g0 : Kept m o v0) :
    Kept m o (State.retable v0 v1) := by
  unfold State.retable
  extract_lets +onlyGivenNames -merge -underBinder x0 x1
  clear_value x0 x1
  extract_lets +onlyGivenNames -merge -underBinder x2
  have h3 : Kept m o x2 := by
    unfold x2
    exact kept_State_setTile (sub hm) g0
  clear_value x2
  refine foldlKept ?_ ?_
  · intro a4 a5 a6
    exact kept_State_deliverSlot (sub hm) a6
  · exact h3

theorem kept_State_nextOp_go {v0 : Nat} {v1 : Nat} {v2 : State} (hm : m &&& 525344 = 0) (g2 : Kept m o v2) :
    Kept m o (State.nextOp.go v0 v1 v2) := by
  induction v1 generalizing v0 v2
  · unfold State.nextOp.go
    exact g2
  · rename_i ih
    unfold State.nextOp.go
    split
    · refine keptIte ?_ ?_
      · exact g2
      · refine keptIte ?_ ?_
        · exact kept_State_setOp (sub hm) (kept_State_setSlot (sub hm) g2)
        · apply ih
          exact kept_State_endFlight (sub hm) (kept_State_bump (sub hm) (kept_State_dropOp (sub hm) g2))
    · exact g2

theorem kept_State_nextOp {v0 : State} {v1 : Nat} (hm : m &&& 525344 = 0) (g0 : Kept m o v0) :
    Kept m o (State.nextOp v0 v1) := by
  unfold State.nextOp
  exact kept_State_nextOp_go (sub hm) g0

theorem kept_State_tableFails {v0 : State} {v1 : Flight} {v2 : Nat} {v3 : Nat} (hm : m &&& 1056 = 0) (g0 : Kept m o v0) :
    Kept m o (State.tableFails v0 v1 v2 v3) := by
  unfold State.tableFails
  exact kept_State_endFlight (sub hm) (kept_State_bump (sub hm) g0)

theorem kept_State_readImage {v0 : State} {v1 : Flight} (hm : m &&& 134438898 = 0) (g0 : Kept m o v0) :
    Kept m o (State.readImage v0 v1).2 := by
  unfold State.readImage
  exact kept_State_vaRead (sub hm) g0

theorem kept_loadRead {v0 : Flight} {v1 : TableOp} {v2 : State} (hm : m &&& 134963186 = 0) (g2 : Kept m o v2) :
    Kept m o (loadRead v0 v1 v2) := by
  unfold loadRead
  split
  · rename_i y0 y1
    exact keptPair2 y1 (kept_State_readImage (sub hm) g2)
  · rename_i y2 y3
    exact kept_State_tableFails (sub hm) (kept_State_dropOp (sub hm) (kept_State_setSlot (sub hm) (keptPair2 y3 (kept_State_readImage (sub hm) g2))))
  · rename_i y4 y5
    exact kept_State_setOp (sub hm) (kept_State_startFlight (sub hm) (keptPair2 y5 (kept_State_readImage (sub hm) g2)))

theorem kept_loadTable {v0 : Flight} {v1 : State} (hm : m &&& 134963186 = 0) (g1 : Kept m o v1) :
    Kept m o (loadTable v0 v1) := by
  unfold loadTable
  split
  · exact kept_loadRead (sub hm) g1
  · refine keptIte ?_ ?_
    · exact kept_State_tableFails (sub hm) g1
    · split
      · exact kept_State_tableFails (sub hm) g1
      · extract_lets +onlyGivenNames -merge -underBinder x0 x1
        clear_value x0 x1
        extract_lets +onlyGivenNames -merge -underBinder x2
        have h3 : Kept m o x2 := by
          unfold x2
          exact kept_State_setSlot (sub hm) g1
        clear_value x2
        exact kept_loadRead (sub hm) (keptUpd hm (s := x2) (by constructor <;> first | exact .inl rfl | exact .inr rfl) rfl rfl rfl h3)

theorem kept_execTableLoadLoad {v0 : CabId} {v1 : DrawerId} {v2 : Seq} {v3 : State} (hm : m &&& 134963186 = 0) (g3 : Kept m o v3) :
    ∀ s', (execTableLoadLoad v0 v1 v2 v3) = .next s' → Kept m o s' := by
  unfold execTableLoadLoad
  refine keptNext (kept_State_work (sub hm) ?_ ?_)
  · exact g3
  · intro a0 a1
    split
    · exact kept_loadTable (sub hm) a1
    · exact a1

theorem kept_replaceTable {v0 : Flight} {v1 : State} (hm : m &&& 134963186 = 0) (g1 : Kept m o v1) :
    Kept m o (replaceTable v0 v1) := by
  unfold replaceTable
  extract_lets +onlyGivenNames -merge -underBinder x0
  clear_value x0
  refine keptIte ?_ ?_
  · exact kept_State_tableFails (sub hm) g1
  · split
    · rename_i y1 y2
      exact keptPair2 y2 (kept_State_readImage (sub hm) g1)
    · rename_i y3 y4
      exact kept_State_tableFails (sub hm) (keptPair2 y4 (kept_State_readImage (sub hm) g1))
    · rename_i y5 y6
      extract_lets +onlyGivenNames -merge -underBinder x7
      have h8 : Kept m o x7 := by
        unfold x7
        exact kept_State_startFlight (sub hm) (keptPair2 y6 (kept_State_readImage (sub hm) g1))
      clear_value x7
      exact keptUpd hm (s := x7) (by constructor <;> first | exact .inl rfl | exact .inr rfl) rfl rfl rfl h8

theorem kept_execTableLoadReplace {v0 : CabId} {v1 : DrawerId} {v2 : Seq} {v3 : State} (hm : m &&& 134963186 = 0) (g3 : Kept m o v3) :
    ∀ s', (execTableLoadReplace v0 v1 v2 v3) = .next s' → Kept m o s' := by
  unfold execTableLoadReplace
  refine keptNext (kept_State_work (sub hm) ?_ ?_)
  · exact g3
  · intro a0 a1
    split
    · exact kept_replaceTable (sub hm) a1
    · exact a1

theorem kept_freeTable {v0 : Flight} {v1 : State} (hm : m &&& 525344 = 0) (g1 : Kept m o v1) :
    Kept m o (freeTable v0 v1) := by
  unfold freeTable
  extract_lets +onlyGivenNames -merge -underBinder x0
  refine keptIte ?_ ?_
  · exact kept_State_tableFails (sub hm) g1
  · extract_lets +onlyGivenNames -merge -underBinder x1
    have h2 : Kept m o x1 := by
      unfold x1
      exact kept_State_startFlight (sub hm) g1
    extract_lets +onlyGivenNames -merge -underBinder x3
    clear_value x3
    extract_lets +onlyGivenNames -merge -underBinder x4
    have h5 : Kept m o x4 := by
      unfold x4
      exact keptUpd hm (s := x1) (by constructor <;> first | exact .inl rfl | exact .inr rfl) rfl rfl rfl h2
    exact keptIte (kept_State_nextOp (sub hm) h5) h5

theorem kept_execTableLoadFree {v0 : CabId} {v1 : DrawerId} {v2 : Seq} {v3 : State} (hm : m &&& 525344 = 0) (g3 : Kept m o v3) :
    ∀ s', (execTableLoadFree v0 v1 v2 v3) = .next s' → Kept m o s' := by
  unfold execTableLoadFree
  refine keptNext (kept_State_work (sub hm) ?_ ?_)
  · exact g3
  · intro a0 a1
    split
    · exact kept_freeTable (sub hm) a1
    · exact a1

theorem kept_State_loaderFails {v0 : State} {v1 : TableOp} {v2 : Nat} {v3 : Nat} (hm : m &&& 525344 = 0) (g0 : Kept m o v0) :
    Kept m o (State.loaderFails v0 v1 v2 v3) := by
  unfold State.loaderFails
  extract_lets +onlyGivenNames -merge -underBinder x0
  have h1 : Kept m o x0 := by
    unfold x0
    exact kept_State_setRfld (sub hm) (kept_State_setRfld (sub hm) g0)
  clear_value x0
  extract_lets +onlyGivenNames -merge -underBinder x2
  have h3 : Kept m o x2 := by
    unfold x2
    exact keptIte (kept_State_setSlot (sub hm) h1) h1
  clear_value x2
  extract_lets +onlyGivenNames -merge -underBinder x4
  have h5 : Kept m o x4 := by
    unfold x4
    exact kept_State_endFlight (sub hm) (kept_State_bump (sub hm) (kept_State_dropOp (sub hm) h3))
  clear_value x4
  exact kept_State_nextOp (sub hm) h5

theorem kept_loaderStep {v0 : Nat} {v1 : Nat} {v2 : Nat} {v3 : State} (hm : m &&& 134971378 = 0) (g3 : Kept m o v3) :
    Kept m o (loaderStep v0 v1 v2 v3) := by
  unfold loaderStep
  split
  · refine keptIte ?_ ?_
    · exact g3
    · split
      · exact kept_State_loaderFails (sub hm) g3
      · refine keptIte ?_ ?_
        · split
          · rename_i y0 y1
            exact keptPair2 y1 (kept_State_vaWrite (sub hm) g3)
          · rename_i y2 y3
            exact kept_State_endFlight (sub hm) (kept_State_dropOp (sub hm) (kept_State_setSlot (sub hm) (keptPair2 y3 (kept_State_vaWrite (sub hm) g3))))
          · rename_i y4 y5
            unfold State.installTable
            extract_lets +onlyGivenNames -merge -underBinder x6
            clear_value x6
            extract_lets +onlyGivenNames -merge -underBinder x7
            have h8 : Kept m o x7 := by
              unfold x7
              exact kept_State_setSlot (sub hm) (keptPair2 y5 (kept_State_vaWrite (sub hm) g3))
            clear_value x7
            extract_lets +onlyGivenNames -merge -underBinder x9
            have h10 : Kept m o x9 := by
              unfold x9
              exact kept_State_bump (sub hm) (kept_State_dropOp (sub hm) (kept_State_deliverSlot (sub hm) h8))
            clear_value x9
            exact kept_State_endFlight (sub hm) h10
        · exact keptIte (kept_State_setOp (sub hm) (kept_State_setSlot (sub hm) g3)) (kept_State_nextOp (sub hm) (kept_State_tableFails (sub hm) (kept_State_dropOp (sub hm) g3)))
  · exact g3

theorem kept_execTableLoaderCheck {v0 : CabId} {v1 : DrawerId} {v2 : Seq} {v3 : State} (hm : m &&& 134971378 = 0) (g3 : Kept m o v3) :
    ∀ s', (execTableLoaderCheck v0 v1 v2 v3) = .next s' → Kept m o s' := by
  unfold execTableLoaderCheck
  refine keptNext (kept_State_work (sub hm) ?_ ?_)
  · exact g3
  · intro a0 a1
    exact kept_loaderStep (sub hm) a1

theorem kept_execTableReplaceComplete {v0 : CabId} {v1 : DrawerId} {v2 : Seq} {v3 : State} (hm : m &&& 533538 = 0) (g3 : Kept m o v3) :
    ∀ s', (execTableReplaceComplete v0 v1 v2 v3) = .next s' → Kept m o s' := by
  unfold execTableReplaceComplete
  refine keptNext (kept_State_work (sub hm) ?_ ?_)
  · exact g3
  · intro a0 a1
    split
    · refine keptIte ?_ ?_
      · refine kept_State_nextOp (sub hm) ?_
        unfold State.installTable
        extract_lets +onlyGivenNames -merge -underBinder x2
        clear_value x2
        extract_lets +onlyGivenNames -merge -underBinder x3
        have h4 : Kept m o x3 := by
          unfold x3
          exact kept_State_setSlot (sub hm) a1
        clear_value x3
        extract_lets +onlyGivenNames -merge -underBinder x5
        have h6 : Kept m o x5 := by
          unfold x5
          exact kept_State_bump (sub hm) (kept_State_dropOp (sub hm) (kept_State_deliverSlot (sub hm) h4))
        clear_value x5
        exact kept_State_endFlight (sub hm) h6
      · exact a1
    · exact a1

theorem kept_freeDone {v0 : TableOp} {v1 : State} (hm : m &&& 533538 = 0) (g1 : Kept m o v1) :
    Kept m o (freeDone v0 v1) := by
  unfold freeDone
  extract_lets +onlyGivenNames -merge -underBinder x0
  have h1 : Kept m o x0 := by
    unfold x0
    exact kept_State_setSlot (sub hm) (kept_State_withdrawSlot (sub hm) g1)
  clear_value x0
  exact kept_State_nextOp (sub hm) (kept_State_endFlight (sub hm) (kept_State_dropOp (sub hm) h1))

theorem kept_execTableFreeComplete {v0 : CabId} {v1 : DrawerId} {v2 : Seq} {v3 : State} (hm : m &&& 533538 = 0) (g3 : Kept m o v3) :
    ∀ s', (execTableFreeComplete v0 v1 v2 v3) = .next s' → Kept m o s' := by
  unfold execTableFreeComplete
  refine keptNext (kept_State_work (sub hm) ?_ ?_)
  · exact g3
  · intro a0 a1
    split
    · exact keptIte (kept_freeDone (sub hm) a1) a1
    · exact a1

theorem kept_State_cancelOp {v0 : State} {v1 : TableOp} (hm : m &&& 525344 = 0) (g0 : Kept m o v0) :
    Kept m o (State.cancelOp v0 v1) := by
  unfold State.cancelOp
  extract_lets +onlyGivenNames -merge -underBinder x0
  clear_value x0
  extract_lets +onlyGivenNames -merge -underBinder x1
  have h2 : Kept m o x1 := by
    unfold x1
    exact kept_State_dropOp (sub hm) g0
  clear_value x1
  extract_lets +onlyGivenNames -merge -underBinder x3
  have h4 : Kept m o x3 := by
    unfold x3
    exact keptIte (kept_State_setSlot (sub hm) h2) (keptIte (kept_State_setSlot (sub hm) h2) h2)
  clear_value x3
  exact kept_State_nextOp (sub hm) h4

theorem kept_State_resetTables {v0 : State} {v1 : Nat} {v2 : Nat} (hm : m &&& 525344 = 0) (g0 : Kept m o v0) :
    Kept m o (State.resetTables v0 v1 v2) := by
  unfold State.resetTables
  refine foldlKept ?_ ?_
  · intro a0 a1 a2
    exact kept_State_endFlight (sub hm) (kept_State_cancelOp (sub hm) a2)
  · exact g0

theorem kept_State_dropTables {v0 : State} {v1 : Nat} (hm : m &&& 532482 = 0) (g0 : Kept m o v0) :
    Kept m o (State.dropTables v0 v1) := by
  unfold State.dropTables
  refine foldlKept ?_ ?_
  · intro a0 a1 a2
    exact kept_State_setSlot (sub hm) (kept_State_withdrawSlot (sub hm) a2)
  · exact keptUpd hm (s := v0) (by constructor <;> first | exact .inl rfl | exact .inr rfl) rfl rfl rfl g0

end Sys2Proof.Machine
end

