-- ==== Sys2Proof/Laws/KeptDce.lean ====
section
/-! SUPPORT. For each operation of Machine/Dce.lean, and for each command meaning there: the fields of State it
    never changes (the bits not set in its mask), and that it keeps what Laws/Kept.lean names. -/

namespace Sys2Proof.Machine
set_option Elab.async false
variable {m : Nat} {o : State}

theorem kept_State_setLanding {v0 : State} {v1 : Landing} (hm : m &&& 2097152 = 0) (g0 : Kept m o v0) :
    Kept m o (State.setLanding v0 v1) := by
  unfold State.setLanding
  exact keptUpd hm (s := v0) (by constructor <;> first | exact .inl rfl | exact .inr rfl) rfl rfl rfl g0

theorem kept_State_dropLanding {v0 : State} {v1 : Landing} (hm : m &&& 2097152 = 0) (g0 : Kept m o v0) :
    Kept m o (State.dropLanding v0 v1) := by
  unfold State.dropLanding
  exact keptUpd hm (s := v0) (by constructor <;> first | exact .inl rfl | exact .inr rfl) rfl rfl rfl g0

theorem kept_State_reserve {v0 : State} {v1 : Nat} {v2 : Nat} (hm : m &&& 4096 = 0) (g0 : Kept m o v0) :
    ∀ s', (State.reserve v0 v1 v2) = some s' → Kept m o s' := by
  intro s' e
  unfold State.reserve at e
  split at e
  · cases e
    exact kept_State_setReserved (sub hm) g0
  · exact absurd e (by simp)

theorem kept_land {v0 : Flight} {v1 : State} (hm : m &&& 2102304 = 0) (g1 : Kept m o v1) :
    Kept m o (land v0 v1) := by
  unfold land
  extract_lets +onlyGivenNames -merge -underBinder x0
  clear_value x0
  refine keptIte ?_ ?_
  · exact kept_State_endFlight (sub hm) g1
  · extract_lets +onlyGivenNames -merge -underBinder x1
    clear_value x1
    split
    · exact kept_State_endFlight (sub hm) g1
    · rename_i y2 y3
      extract_lets +onlyGivenNames -merge -underBinder x4
      clear_value x4
      extract_lets +onlyGivenNames -merge -underBinder x5
      have h6 : Kept m o x5 := by
        unfold x5
        exact keptUpd hm (s := y2) (by constructor <;> first | exact .inl rfl | exact .inr rfl) rfl rfl rfl (kept_State_reserve (sub hm) g1 _ y3)
      clear_value x5
      exact kept_State_endFlight (sub hm) h6

theorem kept_execDispatchLand {v0 : CabId} {v1 : DrawerId} {v2 : Seq} {v3 : State} (hm : m &&& 2102304 = 0) (g3 : Kept m o v3) :
    ∀ s', (execDispatchLand v0 v1 v2 v3) = .next s' → Kept m o s' := by
  unfold execDispatchLand
  refine keptNext (kept_State_work (sub hm) ?_ ?_)
  · exact g3
  · intro a0 a1
    split
    · exact kept_land (sub hm) a1
    · exact a1

theorem kept_State_updSet {v0 : State} {v1 : InSet} (hm : m &&& 2097152 = 0) (g0 : Kept m o v0) :
    Kept m o (State.updSet v0 v1) := by
  unfold State.updSet
  exact keptUpd hm (s := v0) (by constructor <;> first | exact .inl rfl | exact .inr rfl) rfl rfl rfl g0

theorem kept_State_discardSet {v0 : State} {v1 : InSet} (hm : m &&& 6303744 = 0) (g0 : Kept m o v0) :
    Kept m o (State.discardSet v0 v1) := by
  unfold State.discardSet
  extract_lets +onlyGivenNames -merge -underBinder x0
  have h1 : Kept m o x0 := by
    unfold x0
    exact kept_State_dropReqsOf (sub hm) (kept_State_discardShadows (sub hm) g0)
  clear_value x0
  exact keptUpd hm (s := x0) (by constructor <;> first | exact .inl rfl | exact .inr rfl) rfl rfl rfl h1

theorem kept_State_setReply {v0 : State} {v1 : InSet} {v2 : Nat} {v3 : Nat} (hm : m &&& 4194850 = 0) (g0 : Kept m o v0) :
    Kept m o (State.setReply v0 v1 v2 v3) := by
  unfold State.setReply
  exact kept_State_inject (sub hm) g0

theorem kept_State_refuseSet {v0 : State} {v1 : InSet} {v2 : Nat} (hm : m &&& 6304290 = 0) (g0 : Kept m o v0) :
    Kept m o (State.refuseSet v0 v1 v2) := by
  unfold State.refuseSet
  exact kept_State_setReply (sub hm) (kept_State_bump (sub hm) (kept_State_discardSet (sub hm) g0))

theorem kept_State_settleUnland {v0 : State} {v1 : Landing} (hm : m &&& 2102304 = 0) (g0 : Kept m o v0) :
    Kept m o (State.settleUnland v0 v1) := by
  unfold State.settleUnland
  refine keptIte ?_ ?_
  · exact g0
  · extract_lets +onlyGivenNames -merge -underBinder x0
    have h1 : Kept m o x0 := by
      unfold x0
      exact kept_State_dropLanding (sub hm) (kept_State_setReserved (sub hm) g0)
    clear_value x0
    split
    · exact kept_State_endFlight (sub hm) h1
    · exact h1

theorem kept_State_unbind {v0 : State} {v1 : Landing} (hm : m &&& 6305314 = 0) (g0 : Kept m o v0) :
    Kept m o (State.unbind v0 v1) := by
  unfold State.unbind
  extract_lets +onlyGivenNames -merge -underBinder x0
  clear_value x0
  extract_lets +onlyGivenNames -merge -underBinder x1
  have h2 : Kept m o x1 := by
    unfold x1
    exact kept_State_setLanding (sub hm) g0
  clear_value x1
  refine kept_State_settleUnland (sub hm) (foldlKept ?_ ?_)
  · intro a3 a4 a5
    exact kept_State_refuseSet (sub hm) a5
  · exact h2

theorem kept_unlandIssue {v0 : Flight} {v1 : State} (hm : m &&& 6305314 = 0) (g1 : Kept m o v1) :
    Kept m o (unlandIssue v0 v1) := by
  unfold unlandIssue
  split
  · exact keptIte (kept_State_endFlight (sub hm) g1) (kept_State_unbind (sub hm) (kept_State_startFlight (sub hm) g1))
  · exact kept_State_endFlight (sub hm) g1

theorem kept_execDispatchUnland {v0 : CabId} {v1 : DrawerId} {v2 : Seq} {v3 : State} (hm : m &&& 6305314 = 0) (g3 : Kept m o v3) :
    ∀ s', (execDispatchUnland v0 v1 v2 v3) = .next s' → Kept m o s' := by
  unfold execDispatchUnland
  refine keptNext (kept_State_work (sub hm) ?_ ?_)
  · exact g3
  · intro a0 a1
    split
    · exact kept_unlandIssue (sub hm) a1
    · exact a1

theorem kept_routeAdmit {v0 : Flight} {v1 : List Byte} {v2 : State} (hm : m &&& 2626592 = 0) (g2 : Kept m o v2) :
    Kept m o (routeAdmit v0 v1 v2) := by
  unfold routeAdmit
  extract_lets +onlyGivenNames -merge -underBinder x0
  clear_value x0
  extract_lets +onlyGivenNames -merge -underBinder x1
  have h2 : ∀ a0 a1, Kept m o a1 → Kept m o (x1 a0 a1) := by
    intro a3 a4 a5
    unfold x1
    exact kept_State_endFlight (sub hm) a5
  clear_value x1
  extract_lets +onlyGivenNames -merge -underBinder x6 x7 x8 x9 x10 x11
  clear_value x6 x7 x8 x9 x10 x11
  refine keptIte ?_ ?_
  · exact h2 _ _ g2
  · refine keptIte ?_ ?_
    · exact h2 _ _ g2
    · refine keptIte ?_ ?_
      · exact h2 _ _ g2
      · refine keptIte ?_ ?_
        · exact h2 _ _ (kept_State_bump (sub hm) g2)
        · extract_lets +onlyGivenNames -merge -underBinder x12 x13
          clear_value x12 x13
          split
          · exact h2 _ _ g2
          · rename_i y14 y15
            refine keptIte ?_ ?_
            · exact h2 _ _ g2
            · split
              · exact h2 _ _ g2
              · extract_lets +onlyGivenNames -merge -underBinder x16 x17
                clear_value x16 x17
                extract_lets +onlyGivenNames -merge -underBinder x18
                have h19 : Kept m o x18 := by
                  unfold x18
                  exact kept_State_startFlight (sub hm) (kept_State_reserve (sub hm) g2 _ y15)
                clear_value x18
                exact keptUpd hm (s := x18) (by constructor <;> first | exact .inl rfl | exact .inr rfl) rfl rfl rfl h19

theorem kept_routeCheck {v0 : Flight} {v1 : State} (hm : m &&& 137060338 = 0) (g1 : Kept m o v1) :
    Kept m o (routeCheck v0 v1) := by
  unfold routeCheck
  extract_lets +onlyGivenNames -merge -underBinder x0
  clear_value x0
  extract_lets +onlyGivenNames -merge -underBinder x1
  have h2 : ∀ a0, Kept m o a0 → Kept m o (x1 a0) := by
    intro a3 a4
    unfold x1
    exact kept_State_endFlight (sub hm) a4
  clear_value x1
  refine keptIte ?_ ?_
  · exact h2 _ g1
  · split
    · rename_i y5 y6
      exact keptPair2 y6 (kept_State_vaRead (sub hm) g1)
    · rename_i y7 y8
      exact kept_State_endFlight (sub hm) (keptPair2 y8 (kept_State_vaRead (sub hm) g1))
    · rename_i y9 y10
      extract_lets +onlyGivenNames -merge -underBinder x11
      clear_value x11
      refine keptIte ?_ ?_
      · exact h2 _ (keptPair2 y10 (kept_State_vaRead (sub hm) g1))
      · split
        · rename_i y12 y13
          exact keptPair2 y13 (kept_State_vaRead (sub hm) (keptPair2 y10 (kept_State_vaRead (sub hm) g1)))
        · rename_i y14 y15
          exact kept_State_endFlight (sub hm) (keptPair2 y15 (kept_State_vaRead (sub hm) (keptPair2 y10 (kept_State_vaRead (sub hm) g1))))
        · rename_i y16 y17
          exact kept_routeAdmit (sub hm) (keptPair2 y17 (kept_State_vaRead (sub hm) (keptPair2 y10 (kept_State_vaRead (sub hm) g1))))

theorem kept_State_sendSet {v0 : State} {v1 : DceCmd} {v2 : Peer} {v3 : List SetRow} {v4 : SealInfo} (hm : m &&& 4194850 = 0) (g0 : Kept m o v0) :
    Kept m o (State.sendSet v0 v1 v2 v3 v4) := by
  unfold State.sendSet
  extract_lets +onlyGivenNames -merge -underBinder x0
  clear_value x0
  extract_lets +onlyGivenNames -merge -underBinder x1
  have h2 : Kept m o x1 := by
    unfold x1
    refine foldlKept ?_ ?_
    · intro a3 a4 a5
      exact kept_State_toPeer (sub hm) a5
    · exact g0
  clear_value x1
  exact kept_State_toPeer (sub hm) h2

theorem kept_State_nextEpoch {v0 : State} {v1 : Nat} (hm : m &&& 8192 = 0) (g0 : Kept m o v0) :
    Kept m o (State.nextEpoch v0 v1).2 := by
  unfold State.nextEpoch
  extract_lets +onlyGivenNames -merge -underBinder x0
  clear_value x0
  dsimp only [id]
  exact keptUpd hm (s := v0) (by constructor <;> first | exact .inl rfl | exact .inr rfl) rfl rfl rfl g0

theorem kept_State_startSets {v0 : State} {v1 : DceCmd} {v2 : List (Peer × List SetRow)} {v3 : SealInfo} (hm : m &&& 6300194 = 0) (g0 : Kept m o v0) :
    Kept m o (State.startSets v0 v1 v2 v3) := by
  unfold State.startSets
  extract_lets +onlyGivenNames -merge -underBinder x0
  have h1 : Kept m o x0.2 := by
    unfold x0
    exact kept_State_nextEpoch (sub hm) g0
  clear_value x0
  extract_lets +onlyGivenNames -merge -underBinder x2 x3
  clear_value x2 x3
  refine foldlKept ?_ ?_
  · intro a4 a5 a6
    exact kept_State_sendSet (sub hm) a6
  · exact kept_State_carryRows (sub hm) (kept_State_updDce (sub hm) h1)

theorem kept_State_dceMeets {v0 : State} {v1 : DceCmd} {v2 : VaRes} (hm : m &&& 141262816 = 0) (g0 : Kept m o v0) :
    Kept m o (State.dceMeets v0 v1 v2) := by
  unfold State.dceMeets
  split
  · exact kept_State_endDce (sub hm) g0
  · exact kept_State_bump (sub hm) (kept_State_updDce (sub hm) (kept_State_discardShadows (sub hm) (kept_State_countDceKill (sub hm) g0)))
  · exact g0

theorem kept_State_startDce {v0 : State} {v1 : DceCmd} (hm : m &&& 2097152 = 0) (g0 : Kept m o v0) :
    Kept m o (State.startDce v0 v1) := by
  unfold State.startDce
  exact kept_State_updDce (sub hm) g0

theorem kept_routeRun {v0 : DceCmd} {v1 : Flight} {v2 : State} (hm : m &&& 141262834 = 0) (g2 : Kept m o v2) :
    Kept m o (routeRun v0 v1 v2) := by
  unfold routeRun
  extract_lets +onlyGivenNames -merge -underBinder x0 x1 x2
  clear_value x0 x1 x2
  split
  · rename_i y3 y4
    exact keptPair2 y4 (kept_State_vaRead (sub hm) g2)
  · rename_i y5 y6
    exact kept_State_endDce (sub hm) (keptPair2 y6 (kept_State_vaRead (sub hm) g2))
  · rename_i y7 y8
    split
    · rename_i y9 y10
      exact keptPair2 y10 (kept_State_vaRead (sub hm) (keptPair2 y8 (kept_State_vaRead (sub hm) g2)))
    · rename_i y11 y12
      exact kept_State_endDce (sub hm) (keptPair2 y12 (kept_State_vaRead (sub hm) (keptPair2 y8 (kept_State_vaRead (sub hm) g2))))
    · rename_i y13 y14
      extract_lets +onlyGivenNames -merge -underBinder x15 x16 x17 x18
      clear_value x15 x16 x17 x18
      split
      · rename_i y19 y20
        extract_lets +onlyGivenNames -merge -underBinder x21 x22
        clear_value x21 x22
        extract_lets +onlyGivenNames -merge -underBinder x23
        have h24 : Kept m o x23 := by
          unfold x23
          exact kept_State_bump (sub hm) (kept_State_bump (sub hm) (keptPair2 y20 (kept_State_dceWrite (sub hm) (keptPair2 y14 (kept_State_vaRead (sub hm) (keptPair2 y8 (kept_State_vaRead (sub hm) g2)))))))
        clear_value x23
        extract_lets +onlyGivenNames -merge -underBinder x25 x26
        clear_value x25 x26
        extract_lets +onlyGivenNames -merge -underBinder x27
        have h28 : Kept m o x27 := by
          unfold x27
          exact kept_State_updTicket (sub hm) h24
        clear_value x27
        exact kept_State_startSets (sub hm) h28
      · rename_i y29 y30 y31
        exact kept_State_dceMeets (sub hm) (keptPair2 y31 (kept_State_dceWrite (sub hm) (keptPair2 y14 (kept_State_vaRead (sub hm) (keptPair2 y8 (kept_State_vaRead (sub hm) g2))))))

theorem kept_routeGo {v0 : Nat} {v1 : Nat} {v2 : Nat} {v3 : State} (hm : m &&& 141262834 = 0) (g3 : Kept m o v3) :
    Kept m o (routeGo v0 v1 v2 v3) := by
  unfold routeGo
  split
  · exact keptIte (kept_routeRun (sub hm) (kept_State_startDce (sub hm) g3)) g3
  · exact g3

theorem kept_execDispatchRoute {v0 : CabId} {v1 : DrawerId} {v2 : Seq} {v3 : State} (hm : m &&& 141262834 = 0) (g3 : Kept m o v3) :
    ∀ s', (execDispatchRoute v0 v1 v2 v3) = .next s' → Kept m o s' := by
  unfold execDispatchRoute
  refine keptNext (kept_State_work (sub hm) ?_ ?_)
  · exact g3
  · intro a0 a1
    split
    · exact kept_routeGo (sub hm) (kept_routeCheck (sub hm) a1)
    · exact kept_routeGo (sub hm) a1

theorem kept_readSlices {v0 : Asker} {v1 : Landing} {v2 : Nat} {v3 : Nat} {v4 : Nat} {v5 : Nat} {v6 : List Nat} {v7 : State} (hm : m &&& 134438898 = 0) (g7 : Kept m o v7) :
    Kept m o (readSlices v0 v1 v2 v3 v4 v5 v6 v7).2 := by
  induction v6 generalizing v0 v1 v2 v3 v4 v5 v7
  · unfold readSlices
    exact g7
  · rename_i ih
    unfold readSlices
    split
    · rename_i y0 y1
      dsimp only [id]
      exact keptPair2 y1 (kept_State_vaRead (sub hm) g7)
    · rename_i y2 y3
      dsimp only [id]
      exact keptPair2 y3 (kept_State_vaRead (sub hm) g7)
    · rename_i y4 y5
      extract_lets +onlyGivenNames -merge -underBinder x6
      clear_value x6
      split
      · rename_i y7 y8
        dsimp only [id]
        exact keptPair2 y8 (kept_State_vaRead (sub hm) (keptPair2 y5 (kept_State_vaRead (sub hm) g7)))
      · rename_i y9 y10
        dsimp only [id]
        exact keptPair2 y10 (kept_State_vaRead (sub hm) (keptPair2 y5 (kept_State_vaRead (sub hm) g7)))
      · rename_i y11 y12
        split
        · rename_i y13 y14
          dsimp only [id]
          exact keptPair2 y14 (kept_State_vaRead (sub hm) (keptPair2 y12 (kept_State_vaRead (sub hm) (keptPair2 y5 (kept_State_vaRead (sub hm) g7)))))
        · rename_i y15 y16
          dsimp only [id]
          exact keptPair2 y16 (kept_State_vaRead (sub hm) (keptPair2 y12 (kept_State_vaRead (sub hm) (keptPair2 y5 (kept_State_vaRead (sub hm) g7)))))
        · rename_i y17 y18
          extract_lets +onlyGivenNames -merge -underBinder x19
          clear_value x19
          split
          · rename_i y20 y21
            dsimp only [id]
            refine keptPair2 y21 ?_
            apply ih
            exact keptPair2 y18 (kept_State_vaRead (sub hm) (keptPair2 y12 (kept_State_vaRead (sub hm) (keptPair2 y5 (kept_State_vaRead (sub hm) g7)))))
          · apply ih
            exact keptPair2 y18 (kept_State_vaRead (sub hm) (keptPair2 y12 (kept_State_vaRead (sub hm) (keptPair2 y5 (kept_State_vaRead (sub hm) g7)))))

theorem kept_readRanks {v0 : Asker} {v1 : Landing} {v2 : Nat} {v3 : Nat} {v4 : Nat} {v5 : List Nat} {v6 : State} (hm : m &&& 134438898 = 0) (g6 : Kept m o v6) :
    Kept m o (readRanks v0 v1 v2 v3 v4 v5 v6).2 := by
  induction v5 generalizing v0 v1 v2 v3 v4 v6
  · unfold readRanks
    exact g6
  · rename_i ih
    unfold readRanks
    split
    · rename_i y0 y1
      dsimp only [id]
      exact keptPair2 y1 (kept_readSlices (sub hm) g6)
    · rename_i y2 y3
      dsimp only [id]
      exact keptPair2 y3 (kept_readSlices (sub hm) g6)
    · rename_i y4 y5
      split
      · rename_i y6 y7
        dsimp only [id]
        refine keptPair2 y7 ?_
        apply ih
        exact keptPair2 y5 (kept_readSlices (sub hm) g6)
      · apply ih
        exact keptPair2 y5 (kept_readSlices (sub hm) g6)

theorem kept_returnRun {v0 : DceCmd} {v1 : Flight} {v2 : State} (hm : m &&& 141262834 = 0) (g2 : Kept m o v2) :
    Kept m o (returnRun v0 v1 v2) := by
  unfold returnRun
  split
  · exact kept_State_endDce (sub hm) g2
  · extract_lets +onlyGivenNames -merge -underBinder x0
    clear_value x0
    split
    · rename_i y1 y2
      exact keptPair2 y2 (kept_readRanks (sub hm) g2)
    · rename_i y3 y4
      exact kept_State_endDce (sub hm) (keptPair2 y4 (kept_readRanks (sub hm) g2))
    · rename_i y5 y6
      exact kept_State_startSets (sub hm) (keptPair2 y6 (kept_readRanks (sub hm) g2))

theorem kept_returnGo {v0 : Nat} {v1 : Nat} {v2 : Nat} {v3 : State} (hm : m &&& 141262834 = 0) (g3 : Kept m o v3) :
    Kept m o (returnGo v0 v1 v2 v3) := by
  unfold returnGo
  split
  · exact keptIte (kept_returnRun (sub hm) (kept_State_startDce (sub hm) g3)) g3
  · exact g3

theorem kept_execDispatchReturn {v0 : CabId} {v1 : DrawerId} {v2 : Seq} {v3 : State} (hm : m &&& 141262834 = 0) (g3 : Kept m o v3) :
    ∀ s', (execDispatchReturn v0 v1 v2 v3) = .next s' → Kept m o s' := by
  unfold execDispatchReturn
  refine keptNext (kept_State_work (sub hm) ?_ ?_)
  · exact g3
  · intro a0 a1
    split
    · split
      · exact kept_State_endFlight (sub hm) a1
      · extract_lets +onlyGivenNames -merge -underBinder x2
        clear_value x2
        extract_lets +onlyGivenNames -merge -underBinder x3
        have h4 : Kept m o x3 := by
          unfold x3
          exact kept_State_startFlight (sub hm) a1
        clear_value x3
        exact kept_returnGo (sub hm) (keptUpd hm (s := x3) (by constructor <;> first | exact .inl rfl | exact .inr rfl) rfl rfl rfl h4)
    · exact kept_returnGo (sub hm) a1

theorem kept_State_allStaged {v0 : State} {v1 : DceCmd} (hm : m &&& 141262834 = 0) (g0 : Kept m o v0) :
    Kept m o (State.allStaged v0 v1) := by
  unfold State.allStaged
  extract_lets +onlyGivenNames -merge -underBinder x0
  have h1 : ∀ a0, Kept m o a0 → Kept m o (x0 a0) := by
    intro a2 a3
    unfold x0
    extract_lets +onlyGivenNames -merge -underBinder x4
    have h5 : Kept m o x4 := by
      unfold x4
      exact kept_State_updDce (sub hm) a3
    clear_value x4
    refine foldlKept ?_ ?_
    · intro a6 a7 a8
      exact kept_State_toPeer (sub hm) a8
    · exact h5
  clear_value x0
  refine keptIte ?_ ?_
  · exact h1 _ g0
  · split
    · rename_i y9 y10
      exact h1 _ (keptPair2 y10 (kept_State_commitOwner (sub hm) g0))
    · rename_i y11 y12
      exact kept_State_endDce (sub hm) (kept_State_discardPeers (sub hm) (keptPair2 y12 (kept_State_commitOwner (sub hm) g0)))

theorem kept_State_refused {v0 : State} {v1 : DceCmd} {v2 : Option Nat} {v3 : Nat} (hm : m &&& 6829602 = 0) (g0 : Kept m o v0) :
    Kept m o (State.refused v0 v1 v2 v3) := by
  unfold State.refused
  extract_lets +onlyGivenNames -merge -underBinder x0
  have h1 : Kept m o x0 := by
    unfold x0
    exact kept_State_discardPeers (sub hm) (kept_State_bump (sub hm) g0)
  clear_value x0
  extract_lets +onlyGivenNames -merge -underBinder x2
  have h3 : Kept m o x2 := by
    unfold x2
    exact keptIte (kept_State_closeTicket (sub hm) h1) h1
  clear_value x2
  exact kept_State_endDce (sub hm) h3

theorem kept_setrsp {v0 : Nat} {v1 : Nat} {v2 : Packet} {v3 : State} (hm : m &&& 141262834 = 0) (g3 : Kept m o v3) :
    Kept m o (setrsp v0 v1 v2 v3) := by
  unfold setrsp
  split
  · exact kept_State_bump (sub hm) g3
  · exact kept_State_refused (sub hm) g3
  · refine keptIte ?_ ?_
    · refine keptIte ?_ ?_
      · extract_lets +onlyGivenNames -merge -underBinder x0
        clear_value x0
        extract_lets +onlyGivenNames -merge -underBinder x1
        have h2 : Kept m o x1 := by
          unfold x1
          exact kept_State_updDce (sub hm) g3
        clear_value x1
        exact keptIte (kept_State_allStaged (sub hm) h2) h2
      · exact g3
    · refine keptIte ?_ ?_
      · refine keptIte ?_ ?_
        · extract_lets +onlyGivenNames -merge -underBinder x3
          clear_value x3
          extract_lets +onlyGivenNames -merge -underBinder x4
          have h5 : Kept m o x4 := by
            unfold x4
            exact kept_State_updDce (sub hm) g3
          clear_value x4
          exact keptIte (kept_State_endDce (sub hm) h5) h5
        · exact g3
      · exact keptIte (kept_State_refused (sub hm) g3) (kept_State_killDce (sub hm) g3)

theorem kept_combineIssue {v0 : Flight} {v1 : State} (hm : m &&& 2102304 = 0) (g1 : Kept m o v1) :
    Kept m o (combineIssue v0 v1) := by
  unfold combineIssue
  split
  · exact kept_State_endFlight (sub hm) g1
  · extract_lets +onlyGivenNames -merge -underBinder x0
    clear_value x0
    split
    · exact g1
    · refine keptIte ?_ ?_
      · exact kept_State_endFlight (sub hm) (kept_State_closeTicket (sub hm) g1)
      · extract_lets +onlyGivenNames -merge -underBinder x1
        clear_value x1
        extract_lets +onlyGivenNames -merge -underBinder x2
        have h3 : Kept m o x2 := by
          unfold x2
          exact kept_State_startFlight (sub hm) g1
        clear_value x2
        exact keptUpd hm (s := x2) (by constructor <;> first | exact .inl rfl | exact .inr rfl) rfl rfl rfl h3

theorem kept_execCombineDesc {v0 : CabId} {v1 : DrawerId} {v2 : Seq} {v3 : State} (hm : m &&& 2102304 = 0) (g3 : Kept m o v3) :
    ∀ s', (execCombineDesc v0 v1 v2 v3) = .next s' → Kept m o s' := by
  unfold execCombineDesc
  refine keptNext (kept_State_work (sub hm) ?_ ?_)
  · exact g3
  · intro a0 a1
    split
    · exact kept_combineIssue (sub hm) a1
    · exact a1

theorem kept_writeRows {v0 : DceCmd} {v1 : Nat} {v2 : Nat} {v3 : Nat} {v4 : Nat} {v5 : List Byte} {v6 : State} (hm : m &&& 134438898 = 0) (g6 : Kept m o v6) :
    Kept m o (writeRows v0 v1 v2 v3 v4 v5 v6).2 := by
  induction v3 generalizing v0 v1 v2 v4 v5 v6
  · unfold writeRows
    exact g6
  · rename_i ih
    unfold writeRows
    split
    · rename_i y0 y1
      apply ih
      exact keptPair2 y1 (kept_State_dceWrite (sub hm) g6)
    · exact kept_State_dceWrite (sub hm) g6

theorem kept_combineGo {v0 : Nat} {v1 : Nat} {v2 : Nat} {v3 : State} (hm : m &&& 141262834 = 0) (g3 : Kept m o v3) :
    Kept m o (combineGo v0 v1 v2 v3) := by
  unfold combineGo
  split
  · split
    · exact keptIte g3 (kept_State_updDce (sub hm) g3)
    · refine keptIte ?_ ?_
      · exact g3
      · split
        · rename_i y0 y1
          exact keptPair2 y1 (kept_State_vaRead (sub hm) g3)
        · rename_i y2 y3
          exact kept_State_endDce (sub hm) (keptPair2 y3 (kept_State_vaRead (sub hm) g3))
        · rename_i y4 y5
          split
          · rename_i y6 y7
            exact keptPair2 y7 (kept_State_vaRead (sub hm) (keptPair2 y5 (kept_State_vaRead (sub hm) g3)))
          · rename_i y8 y9
            exact kept_State_endDce (sub hm) (keptPair2 y9 (kept_State_vaRead (sub hm) (keptPair2 y5 (kept_State_vaRead (sub hm) g3))))
          · rename_i y10 y11
            extract_lets +onlyGivenNames -merge -underBinder x12
            have h13 : Kept m o x12.2 := by
              unfold x12
              exact kept_State_freeWord (sub hm) (keptPair2 y11 (kept_State_vaRead (sub hm) (keptPair2 y5 (kept_State_vaRead (sub hm) g3))))
            clear_value x12
            extract_lets +onlyGivenNames -merge -underBinder x14
            have h15 : Kept m o x14 := by
              exact h13
            clear_value x14
            extract_lets +onlyGivenNames -merge -underBinder x16 x17 x18
            clear_value x16 x17 x18
            extract_lets +onlyGivenNames -merge -underBinder x19
            have h20 : Kept m o x19 := by
              unfold x19
              exact kept_State_carryRows (sub hm) h15
            clear_value x19
            split
            · rename_i y21 y22
              extract_lets +onlyGivenNames -merge -underBinder x23
              have h24 : Kept m o x23.2 := by
                unfold x23
                refine keptIte2 ?_ ?_
                · exact kept_State_dceWrite (sub hm) (keptPair2 y22 (kept_writeRows (sub hm) h20))
                · dsimp only [id]
                  exact keptPair2 y22 (kept_writeRows (sub hm) h20)
              clear_value x23
              split
              · rename_i y25
                refine keptIte ?_ ?_
                · exact kept_State_endDce (sub hm) h24
                · split
                  · rename_i y26 y27
                    exact kept_State_endDce (sub hm) (keptPair2 y27 (kept_State_commitOwner (sub hm) h24))
                  · rename_i y28 y29
                    exact kept_State_endDce (sub hm) (keptPair2 y29 (kept_State_commitOwner (sub hm) h24))
              · rename_i y30 y31
                exact kept_State_dceMeets (sub hm) h24
            · rename_i y32 y33 y34
              exact kept_State_dceMeets (sub hm) (keptPair2 y34 (kept_writeRows (sub hm) h20))
    · exact g3
  · exact g3

theorem kept_execCombineCompute {v0 : CabId} {v1 : DrawerId} {v2 : Seq} {v3 : State} (hm : m &&& 141262834 = 0) (g3 : Kept m o v3) :
    ∀ s', (execCombineCompute v0 v1 v2 v3) = .next s' → Kept m o s' := by
  unfold execCombineCompute
  refine keptNext (kept_State_work (sub hm) ?_ ?_)
  · exact g3
  · intro a0 a1
    exact kept_combineGo (sub hm) a1

theorem kept_peerTimeout {v0 : Nat} {v1 : Nat} {v2 : Nat} {v3 : State} (hm : m &&& 6829602 = 0) (g3 : Kept m o v3) :
    Kept m o (peerTimeout v0 v1 v2 v3) := by
  unfold peerTimeout
  split
  · extract_lets +onlyGivenNames -merge -underBinder x0
    clear_value x0
    exact keptIte (kept_State_endDce (sub hm) (keptIte g3 (kept_State_discardPeers (sub hm) g3))) g3
  · exact g3

theorem kept_execDcePeerTimeout {v0 : CabId} {v1 : DrawerId} {v2 : Seq} {v3 : State} (hm : m &&& 6829602 = 0) (g3 : Kept m o v3) :
    ∀ s', (execDcePeerTimeout v0 v1 v2 v3) = .next s' → Kept m o s' := by
  unfold execDcePeerTimeout
  refine keptNext (kept_State_work (sub hm) ?_ ?_)
  · exact g3
  · intro a0 a1
    exact kept_peerTimeout (sub hm) a1

end Sys2Proof.Machine
end

