-- ==== Sys2Proof/Laws/KeptMovement.lean ====
section
/-! SUPPORT. For each operation of Machine/Movement.lean, and for each command meaning there: the fields of State it
    never changes (the bits not set in its mask), and that it keeps what Laws/Kept.lean names. -/

namespace Sys2Proof.Machine
set_option Elab.async false
variable {m : Nat} {o : State}

theorem kept_State_setChan {v0 : State} {v1 : Nat} {v2 : Chan} (hm : m &&& 1048576 = 0) (g0 : Kept m o v0) :
    Kept m o (State.setChan v0 v1 v2) := by
  unfold State.setChan
  exact keptUpd hm (s := v0) (by constructor <;> first | exact .inl rfl | exact .inr rfl) rfl rfl rfl g0

theorem kept_State_takeChan {v0 : State} {v1 : Nat} {v2 : Nat} {v3 : Nat} {v4 : Bool} (hm : m &&& 1048576 = 0) (g0 : Kept m o v0) :
    Kept m o (State.takeChan v0 v1 v2 v3 v4) := by
  unfold State.takeChan
  exact kept_State_setChan (sub hm) g0

theorem kept_State_releaseChan {v0 : State} {v1 : Nat} (hm : m &&& 1052672 = 0) (g0 : Kept m o v0) :
    Kept m o (State.releaseChan v0 v1) := by
  unfold State.releaseChan
  extract_lets +onlyGivenNames -merge -underBinder x0
  clear_value x0
  extract_lets +onlyGivenNames -merge -underBinder x1
  have h2 : Kept m o x1 := by
    unfold x1
    exact kept_State_setChan (sub hm) g0
  clear_value x1
  exact keptUpd hm (s := x1) (by constructor <;> first | exact .inl rfl | exact .inr rfl) rfl rfl rfl h2

theorem kept_State_dropChanReqs {v0 : State} {v1 : Nat} {v2 : optParam Bool false} (hm : m &&& 1052672 = 0) (g0 : Kept m o v0) :
    Kept m o (State.dropChanReqs v0 v1 v2) := by
  unfold State.dropChanReqs
  exact keptUpd hm (s := v0) (by constructor <;> first | exact .inl rfl | exact .inr rfl) rfl rfl rfl g0

theorem kept_State_dropJob {v0 : State} {v1 : Nat} (hm : m &&& 1048576 = 0) (g0 : Kept m o v0) :
    Kept m o (State.dropJob v0 v1) := by
  unfold State.dropJob
  exact keptUpd hm (s := v0) (by constructor <;> first | exact .inl rfl | exact .inr rfl) rfl rfl rfl g0

theorem kept_State_setJob {v0 : State} {v1 : Nat} {v2 : Nat} {v3 : Nat} (hm : m &&& 1048576 = 0) (g0 : Kept m o v0) :
    Kept m o (State.setJob v0 v1 v2 v3) := by
  unfold State.setJob
  exact keptUpd hm (s := v0) (by constructor <;> first | exact .inl rfl | exact .inr rfl) rfl rfl rfl g0

theorem kept_State_queueMove {v0 : State} {v1 : Flight} (hm : m &&& 1048576 = 0) (g0 : Kept m o v0) :
    Kept m o (State.queueMove v0 v1) := by
  unfold State.queueMove
  extract_lets +onlyGivenNames -merge -underBinder x0
  clear_value x0
  refine keptIte ?_ ?_
  · split
    · exact kept_State_setChan (sub hm) g0
    · exact g0
  · exact g0

theorem kept_State_loadMove {v0 : State} {v1 : Nat} {v2 : Flight} (hm : m &&& 1049600 = 0) (g0 : Kept m o v0) :
    Kept m o (State.loadMove v0 v1 v2) := by
  unfold State.loadMove
  extract_lets +onlyGivenNames -merge -underBinder x0 x1 x2 x3 x4 x5 x6 x7 x8
  clear_value x0 x1 x2 x3 x4 x5 x6 x7 x8
  exact kept_State_updFlight (sub hm) (kept_State_setChan (sub hm) g0)

theorem kept_State_endTransfer {v0 : State} {v1 : Nat} {v2 : Ending} (hm : m &&& 1053728 = 0) (g0 : Kept m o v0) :
    Kept m o (State.endTransfer v0 v1 v2) := by
  unfold State.endTransfer
  extract_lets +onlyGivenNames -merge -underBinder x0
  clear_value x0
  extract_lets +onlyGivenNames -merge -underBinder x1
  have h2 : Kept m o x1 := by
    unfold x1
    exact kept_State_dropChanReqs (sub hm) g0
  clear_value x1
  extract_lets +onlyGivenNames -merge -underBinder x3
  have h4 : Kept m o x3 := by
    unfold x3
    split
    · exact kept_State_endFlight (sub hm) h2
    · exact h2
  clear_value x3
  extract_lets +onlyGivenNames -merge -underBinder x5 x6
  clear_value x5 x6
  exact keptIte (kept_State_releaseChan (sub hm) (kept_State_setChan (sub hm) h4)) (kept_State_setChan (sub hm) h4)

theorem kept_State_abortChan {v0 : State} {v1 : Nat} {v2 : Ending} (hm : m &&& 1053728 = 0) (g0 : Kept m o v0) :
    Kept m o (State.abortChan v0 v1 v2) := by
  unfold State.abortChan
  extract_lets +onlyGivenNames -merge -underBinder x0
  clear_value x0
  extract_lets +onlyGivenNames -merge -underBinder x1
  have h2 : Kept m o x1 := by
    unfold x1
    refine foldlKept ?_ ?_
    · intro a3 a4 a5
      exact kept_State_endFlight (sub hm) a5
    · exact g0
  clear_value x1
  extract_lets +onlyGivenNames -merge -underBinder x6
  have h7 : Kept m o x6 := by
    unfold x6
    exact kept_State_setChan (sub hm) h2
  clear_value x6
  exact keptIte h7 (kept_State_endTransfer (sub hm) h7)

theorem kept_State_anonMove {v0 : State} {v1 : Flight} (hm : m &&& 1049632 = 0) (g0 : Kept m o v0) :
    Kept m o (State.anonMove v0 v1) := by
  unfold State.anonMove
  extract_lets +onlyGivenNames -merge -underBinder x0
  clear_value x0
  split
  · extract_lets +onlyGivenNames -merge -underBinder x1
    clear_value x1
    extract_lets +onlyGivenNames -merge -underBinder x2
    have h3 : Kept m o x2 := by
      unfold x2
      exact keptUpd hm (s := v0) (by constructor <;> first | exact .inl rfl | exact .inr rfl) rfl rfl rfl g0
    clear_value x2
    exact kept_State_loadMove (sub hm) (kept_State_takeChan (sub hm) h3)
  · exact keptIte g0 (kept_State_bump (sub hm) (kept_State_bump (sub hm) (keptUpd hm (s := v0) (by constructor <;> first | exact .inl rfl | exact .inr rfl) rfl rfl rfl g0)))

theorem kept_moveIssue {v0 : Flight} {v1 : State} (hm : m &&& 1049632 = 0) (g1 : Kept m o v1) :
    Kept m o (moveIssue v0 v1) := by
  unfold moveIssue
  refine keptIte ?_ ?_
  · exact kept_State_endFlight (sub hm) g1
  · extract_lets +onlyGivenNames -merge -underBinder x0
    clear_value x0
    exact keptIte (kept_State_anonMove (sub hm) g1) (kept_State_startFlight (sub hm) g1)

theorem kept_execMoveDesc {v0 : CabId} {v1 : DrawerId} {v2 : Seq} {v3 : State} (hm : m &&& 1049632 = 0) (g3 : Kept m o v3) :
    ∀ s', (execMoveDesc v0 v1 v2 v3) = .next s' → Kept m o s' := by
  unfold execMoveDesc
  refine keptNext (kept_State_work (sub hm) ?_ ?_)
  · exact g3
  · intro a0 a1
    split
    · exact kept_moveIssue (sub hm) a1
    · exact a1

theorem kept_execPrefetchDesc {v0 : CabId} {v1 : DrawerId} {v2 : Seq} {v3 : State} (hm : m &&& 1049632 = 0) (g3 : Kept m o v3) :
    ∀ s', (execPrefetchDesc v0 v1 v2 v3) = .next s' → Kept m o s' := by
  unfold execPrefetchDesc
  refine keptNext (kept_State_work (sub hm) ?_ ?_)
  · exact g3
  · intro a0 a1
    split
    · exact keptIte (kept_State_endFlight (sub hm) a1) (kept_State_anonMove (sub hm) a1)
    · exact a1

theorem kept_moveStart {v0 : Nat} {v1 : Nat} {v2 : Nat} {v3 : State} (hm : m &&& 1049632 = 0) (g3 : Kept m o v3) :
    Kept m o (moveStart v0 v1 v2 v3) := by
  unfold moveStart
  split
  · refine keptIte ?_ ?_
    · exact kept_State_anonMove (sub hm) g3
    · split
      · exact keptIte (kept_State_loadMove (sub hm) (kept_State_setChan (sub hm) g3)) g3
      · exact g3
  · exact g3

theorem kept_execMoveStart {v0 : CabId} {v1 : DrawerId} {v2 : Seq} {v3 : State} (hm : m &&& 1049632 = 0) (g3 : Kept m o v3) :
    ∀ s', (execMoveStart v0 v1 v2 v3) = .next s' → Kept m o s' := by
  unfold execMoveStart
  refine keptNext (kept_State_work (sub hm) ?_ ?_)
  · exact g3
  · intro a0 a1
    exact kept_moveStart (sub hm) a1

theorem kept_State_granted {v0 : State} {v1 : Bool} {v2 : Nat} (hm : m &&& 1048576 = 0) (g0 : Kept m o v0) :
    Kept m o (State.granted v0 v1 v2) := by
  unfold State.granted
  extract_lets +onlyGivenNames -merge -underBinder x0
  clear_value x0
  exact keptUpd hm (s := v0) (by constructor <;> first | exact .inl rfl | exact .inr rfl) rfl rfl rfl g0

theorem kept_State_chanRead {v0 : State} {v1 : Chan} {v2 : Nat} {v3 : Nat} {v4 : Nat} {v5 : Nat} (hm : m &&& 134438898 = 0) (g0 : Kept m o v0) :
    Kept m o (State.chanRead v0 v1 v2 v3 v4 v5).2 := by
  unfold State.chanRead
  refine keptIte2 ?_ ?_
  · split
    · rename_i y0 y1
      dsimp only [id]
      exact keptPair2 y1 (kept_State_devRead (sub hm) g0)
    · rename_i y2 y3
      dsimp only [id]
      exact keptPair2 y3 (kept_State_devRead (sub hm) g0)
  · exact kept_State_vaRead (sub hm) g0

theorem kept_State_chanWrite {v0 : State} {v1 : Chan} {v2 : Nat} {v3 : Nat} {v4 : Nat} {v5 : List Byte} (hm : m &&& 134438898 = 0) (g0 : Kept m o v0) :
    Kept m o (State.chanWrite v0 v1 v2 v3 v4 v5).2 := by
  unfold State.chanWrite
  refine keptIte2 ?_ ?_
  · split
    · rename_i y0 y1
      dsimp only [id]
      exact keptPair2 y1 (kept_State_devWrite (sub hm) g0)
    · rename_i y2 y3
      dsimp only [id]
      exact keptPair2 y3 (kept_State_devWrite (sub hm) g0)
  · exact kept_State_vaWrite (sub hm) g0

theorem kept_State_moveFails {v0 : State} {v1 : Nat} {v2 : Nat} {v3 : Nat} (hm : m &&& 1053728 = 0) (g0 : Kept m o v0) :
    Kept m o (State.moveFails v0 v1 v2 v3) := by
  unfold State.moveFails
  exact kept_State_endTransfer (sub hm) (kept_State_tally (sub hm) g0)

theorem kept_State_prefetchMap {v0 : State} {v1 : Chan} {v2 : Nat} {v3 : Nat} (hm : m &&& 4130 = 0) (g0 : Kept m o v0) :
    Kept m o (State.prefetchMap v0 v1 v2 v3).2 := by
  unfold State.prefetchMap
  split
  · rename_i y0 y1
    exact kept_State_xlateAll (sub hm) (keptPair2 y1 (kept_State_xlateAll (sub hm) g0))
  · exact kept_State_xlateAll (sub hm) g0

theorem kept_State_unavoid {v0 : State} {v1 : Nat} (hm : m &&& 1048576 = 0) (g0 : Kept m o v0) :
    Kept m o (State.unavoid v0 v1) := by
  unfold State.unavoid
  exact keptUpd hm (s := v0) (by constructor <;> first | exact .inl rfl | exact .inr rfl) rfl rfl rfl g0

theorem kept_State_stage {v0 : State} {v1 : Nat} {v2 : Nat} {v3 : Nat} (hm : m &&& 135487474 = 0) (g0 : Kept m o v0) :
    Kept m o (State.stage v0 v1 v2 v3) := by
  unfold State.stage
  extract_lets +onlyGivenNames -merge -underBinder x0
  clear_value x0
  split
  · rename_i y1 y2
    exact kept_State_setJob (sub hm) (keptPair2 y2 (kept_State_chanRead (sub hm) g0))
  · rename_i y3 y4
    exact kept_State_moveFails (sub hm) (keptPair2 y4 (kept_State_chanRead (sub hm) g0))
  · rename_i y5 y6
    extract_lets +onlyGivenNames -merge -underBinder x7
    clear_value x7
    extract_lets +onlyGivenNames -merge -underBinder x8
    have h9 : Kept m o x8 := by
      unfold x8
      exact kept_State_bump (sub hm) (kept_State_bump (sub hm) (keptPair2 y6 (kept_State_chanRead (sub hm) g0)))
    clear_value x8
    extract_lets +onlyGivenNames -merge -underBinder x10
    clear_value x10
    exact kept_State_unavoid (sub hm) (kept_State_carry (sub hm) (kept_State_setChan (sub hm) (kept_State_dropJob (sub hm) h9)))

theorem kept_State_readSeg {v0 : State} {v1 : Nat} {v2 : Nat} {v3 : Nat} (hm : m &&& 135487474 = 0) (g0 : Kept m o v0) :
    Kept m o (State.readSeg v0 v1 v2 v3) := by
  unfold State.readSeg
  extract_lets +onlyGivenNames -merge -underBinder x0
  clear_value x0
  refine keptIte ?_ ?_
  · split
    · rename_i y1 y2
      exact kept_State_setJob (sub hm) (keptPair2 y2 (kept_State_prefetchMap (sub hm) g0))
    · rename_i y3 y4
      exact kept_State_moveFails (sub hm) (keptPair2 y4 (kept_State_prefetchMap (sub hm) g0))
    · rename_i y5 y6
      exact kept_State_stage (sub hm) (kept_State_setChan (sub hm) (keptPair2 y6 (kept_State_prefetchMap (sub hm) g0)))
  · exact kept_State_stage (sub hm) g0

theorem kept_segmentRead {v0 : Nat} {v1 : Nat} {v2 : State} (hm : m &&& 135487474 = 0) (g2 : Kept m o v2) :
    Kept m o (segmentRead v0 v1 v2) := by
  unfold segmentRead
  extract_lets +onlyGivenNames -merge -underBinder x0
  clear_value x0
  split
  · exact keptIte (kept_State_readSeg (sub hm) g2) g2
  · exact keptIte g2 (keptIte (keptIte g2 (kept_State_bump (sub hm) (kept_State_setChan (sub hm) g2))) (keptIte g2 (kept_State_readSeg (sub hm) (kept_State_granted (sub hm) g2))))

theorem kept_execSegmentRead {v0 : EngineId} {v1 : ChanId} {v2 : State} (hm : m &&& 135487474 = 0) (g2 : Kept m o v2) :
    ∀ s', (execSegmentRead v0 v1 v2) = .next s' → Kept m o s' := by
  unfold execSegmentRead
  refine keptNext (keptIte ?_ ?_)
  · refine kept_State_work (sub hm) ?_ ?_
    · exact g2
    · intro a0 a1
      exact kept_segmentRead (sub hm) a1
  · exact g2

theorem kept_State_writeSeg {v0 : State} {v1 : Nat} {v2 : Nat} {v3 : Seg} (hm : m &&& 135487474 = 0) (g0 : Kept m o v0) :
    Kept m o (State.writeSeg v0 v1 v2 v3) := by
  unfold State.writeSeg
  extract_lets +onlyGivenNames -merge -underBinder x0
  clear_value x0
  split
  · rename_i y1 y2
    exact kept_State_setJob (sub hm) (keptPair2 y2 (kept_State_chanWrite (sub hm) g0))
  · rename_i y3 y4
    exact kept_State_moveFails (sub hm) (keptPair2 y4 (kept_State_chanWrite (sub hm) g0))
  · rename_i y5 y6
    extract_lets +onlyGivenNames -merge -underBinder x7 x8
    clear_value x7 x8
    exact kept_State_unavoid (sub hm) (kept_State_carry (sub hm) (kept_State_setChan (sub hm) (kept_State_dropJob (sub hm) (keptPair2 y6 (kept_State_chanWrite (sub hm) g0)))))

theorem kept_segmentWrite {v0 : Nat} {v1 : Nat} {v2 : Nat} {v3 : State} (hm : m &&& 135487474 = 0) (g3 : Kept m o v3) :
    Kept m o (segmentWrite v0 v1 v2 v3) := by
  unfold segmentWrite
  extract_lets +onlyGivenNames -merge -underBinder x0 x1
  clear_value x0 x1
  split
  · exact keptIte (kept_State_writeSeg (sub hm) g3) g3
  · exact keptIte g3 (kept_State_writeSeg (sub hm) (kept_State_granted (sub hm) g3))
  · exact g3

theorem kept_execSegmentWrite {v0 : EngineId} {v1 : ChanId} {v2 : Nat} {v3 : State} (hm : m &&& 135487474 = 0) (g3 : Kept m o v3) :
    ∀ s', (execSegmentWrite v0 v1 v2 v3) = .next s' → Kept m o s' := by
  unfold execSegmentWrite
  refine keptNext (keptIte ?_ ?_)
  · refine kept_State_work (sub hm) ?_ ?_
    · exact g3
    · intro a0 a1
      exact kept_segmentWrite (sub hm) a1
  · exact g3

theorem kept_moveComplete {v0 : Nat} {v1 : Bool} {v2 : State} (hm : m &&& 1053728 = 0) (g2 : Kept m o v2) :
    Kept m o (moveComplete v0 v1 v2) := by
  unfold moveComplete
  extract_lets +onlyGivenNames -merge -underBinder x0
  clear_value x0
  refine keptIte ?_ ?_
  · extract_lets +onlyGivenNames -merge -underBinder x1
    have h2 : Kept m o x1 := by
      unfold x1
      exact keptIte (kept_State_dropLook (sub hm) g2) g2
    clear_value x1
    exact kept_State_endTransfer (sub hm) h2
  · exact g2

theorem kept_execMoveComplete {v0 : ChanId} {v1 : State} (hm : m &&& 1053728 = 0) (g1 : Kept m o v1) :
    ∀ s', (execMoveComplete v0 v1) = .next s' → Kept m o s' := by
  unfold execMoveComplete
  refine keptNext (kept_State_work (sub hm) ?_ ?_)
  · exact g1
  · intro a0 a1
    exact kept_moveComplete (sub hm) a1

theorem kept_execPrefetchComplete {v0 : ChanId} {v1 : State} (hm : m &&& 1053728 = 0) (g1 : Kept m o v1) :
    ∀ s', (execPrefetchComplete v0 v1) = .next s' → Kept m o s' := by
  unfold execPrefetchComplete
  refine keptNext (kept_State_work (sub hm) ?_ ?_)
  · exact g1
  · intro a0 a1
    exact kept_moveComplete (sub hm) a1

theorem kept_channelCreate {v0 : Flight} {v1 : State} (hm : m &&& 135487474 = 0) (g1 : Kept m o v1) :
    Kept m o (channelCreate v0 v1) := by
  unfold channelCreate
  extract_lets +onlyGivenNames -merge -underBinder x0
  clear_value x0
  refine keptIte ?_ ?_
  · exact kept_State_endFlight (sub hm) (kept_State_bump (sub hm) g1)
  · split
    · exact g1
    · extract_lets +onlyGivenNames -merge -underBinder x1
      clear_value x1
      extract_lets +onlyGivenNames -merge -underBinder x2
      have h3 : Kept m o x2 := by
        unfold x2
        exact kept_State_takeChan (sub hm) g1
      clear_value x2
      extract_lets +onlyGivenNames -merge -underBinder x4 x5
      clear_value x4 x5
      split
      · rename_i y6 y7
        exact keptUpd hm (s := y6) (by constructor <;> first | exact .inl rfl | exact .inr rfl) rfl rfl rfl (keptPair2 y7 (kept_State_vaWrite (sub hm) h3))
      · rename_i y8 y9
        exact kept_State_endFlight (sub hm) (kept_State_releaseChan (sub hm) (keptPair2 y9 (kept_State_vaWrite (sub hm) h3)))
      · rename_i y10 y11
        exact kept_State_endFlight (sub hm) (keptPair2 y11 (kept_State_vaWrite (sub hm) h3))

theorem kept_execChannelCreate {v0 : CabId} {v1 : DrawerId} {v2 : Seq} {v3 : State} (hm : m &&& 135487474 = 0) (g3 : Kept m o v3) :
    ∀ s', (execChannelCreate v0 v1 v2 v3) = .next s' → Kept m o s' := by
  unfold execChannelCreate
  refine keptNext (kept_State_work (sub hm) ?_ ?_)
  · exact g3
  · intro a0 a1
    split
    · exact kept_channelCreate (sub hm) a1
    · exact a1

theorem kept_channelDestroy {v0 : Flight} {v1 : State} (hm : m &&& 1053728 = 0) (g1 : Kept m o v1) :
    Kept m o (channelDestroy v0 v1) := by
  unfold channelDestroy
  split
  · exact kept_State_endFlight (sub hm) g1
  · extract_lets +onlyGivenNames -merge -underBinder x0
    clear_value x0
    extract_lets +onlyGivenNames -merge -underBinder x1
    have h2 : Kept m o x1 := by
      unfold x1
      exact kept_State_startFlight (sub hm) g1
    clear_value x1
    extract_lets +onlyGivenNames -merge -underBinder x3
    clear_value x3
    exact keptIte (kept_State_abortChan (sub hm) (kept_State_setChan (sub hm) h2)) (kept_State_setChan (sub hm) h2)

theorem kept_execChannelDestroy {v0 : CabId} {v1 : DrawerId} {v2 : Seq} {v3 : State} (hm : m &&& 1053728 = 0) (g3 : Kept m o v3) :
    ∀ s', (execChannelDestroy v0 v1 v2 v3) = .next s' → Kept m o s' := by
  unfold execChannelDestroy
  refine keptNext (kept_State_work (sub hm) ?_ ?_)
  · exact g3
  · intro a0 a1
    split
    · exact kept_channelDestroy (sub hm) a1
    · exact a1

theorem kept_channelFree {v0 : Nat} {v1 : State} (hm : m &&& 1053728 = 0) (g1 : Kept m o v1) :
    Kept m o (channelFree v0 v1) := by
  unfold channelFree
  extract_lets +onlyGivenNames -merge -underBinder x0
  clear_value x0
  refine keptIte ?_ ?_
  · refine foldlKept ?_ ?_
    · intro a1 a2 a3
      exact kept_State_endFlight (sub hm) a3
    · exact kept_State_releaseChan (sub hm) g1
  · exact g1

theorem kept_execChannelFree {v0 : ChanId} {v1 : State} (hm : m &&& 1053728 = 0) (g1 : Kept m o v1) :
    ∀ s', (execChannelFree v0 v1) = .next s' → Kept m o s' := by
  unfold execChannelFree
  refine keptNext (kept_State_work (sub hm) ?_ ?_)
  · exact g1
  · intro a0 a1
    exact kept_channelFree (sub hm) a1

theorem kept_State_pauseChan {v0 : State} {v1 : Nat} (hm : m &&& 1052672 = 0) (g0 : Kept m o v0) :
    Kept m o (State.pauseChan v0 v1) := by
  unfold State.pauseChan
  extract_lets +onlyGivenNames -merge -underBinder x0
  clear_value x0
  exact keptIte g0 (keptIte (kept_State_setChan (sub hm) g0) (kept_State_dropChanReqs (sub hm) (kept_State_setChan (sub hm) g0)))

theorem kept_State_unpauseChan {v0 : State} {v1 : Nat} (hm : m &&& 1048576 = 0) (g0 : Kept m o v0) :
    Kept m o (State.unpauseChan v0 v1) := by
  unfold State.unpauseChan
  extract_lets +onlyGivenNames -merge -underBinder x0
  clear_value x0
  refine keptIte ?_ ?_
  · exact g0
  · extract_lets +onlyGivenNames -merge -underBinder x1
    clear_value x1
    exact kept_State_setChan (sub hm) g0

theorem kept_State_startDirect {v0 : State} {v1 : Nat} (hm : m &&& 1048576 = 0) (g0 : Kept m o v0) :
    Kept m o (State.startDirect v0 v1) := by
  unfold State.startDirect
  extract_lets +onlyGivenNames -merge -underBinder x0
  clear_value x0
  exact keptIte g0 (keptIte (kept_State_setChan (sub hm) g0) (keptIte (kept_State_setChan (sub hm) g0) (kept_State_setChan (sub hm) g0)))

theorem kept_State_writeChCtrl {v0 : State} {v1 : Nat} {v2 : Word} (hm : m &&& 1052672 = 0) (g0 : Kept m o v0) :
    Kept m o (State.writeChCtrl v0 v1 v2) := by
  unfold State.writeChCtrl
  extract_lets +onlyGivenNames -merge -underBinder x0
  clear_value x0
  refine keptIte ?_ ?_
  · exact g0
  · extract_lets +onlyGivenNames -merge -underBinder x1 x2
    clear_value x1 x2
    extract_lets +onlyGivenNames -merge -underBinder x3
    have h4 : Kept m o x3 := by
      unfold x3
      exact kept_State_setChan (sub hm) g0
    clear_value x3
    extract_lets +onlyGivenNames -merge -underBinder x5
    have h6 : Kept m o x5 := by
      unfold x5
      exact keptIte (kept_State_pauseChan (sub hm) h4) (kept_State_unpauseChan (sub hm) h4)
    clear_value x5
    exact keptIte (kept_State_startDirect (sub hm) h6) h6

theorem kept_State_writeChAddr {v0 : State} {v1 : Nat} {v2 : Nat} {v3 : Word} (hm : m &&& 1048576 = 0) (g0 : Kept m o v0) :
    Kept m o (State.writeChAddr v0 v1 v2 v3) := by
  unfold State.writeChAddr
  extract_lets +onlyGivenNames -merge -underBinder x0
  clear_value x0
  exact keptIte g0 (keptIte (kept_State_setChan (sub hm) g0) (keptIte (kept_State_setChan (sub hm) g0) (kept_State_setChan (sub hm) g0)))

theorem kept_execChPause {v0 : Func} {v1 : ChanId} {v2 : Word} {v3 : State} (hm : m &&& 152297442 = 0) (g3 : Kept m o v3) :
    ∀ s', (execChPause v0 v1 v2 v3) = .next s' → Kept m o s' := by
  unfold execChPause
  refine keptNext (kept_State_platform (sub hm) ?_ ?_)
  · exact g3
  · intro a0 a1
    exact kept_State_writeChCtrl (sub hm) a1

theorem kept_execChUnpause {v0 : Func} {v1 : ChanId} {v2 : Word} {v3 : State} (hm : m &&& 152297442 = 0) (g3 : Kept m o v3) :
    ∀ s', (execChUnpause v0 v1 v2 v3) = .next s' → Kept m o s' := by
  unfold execChUnpause
  refine keptNext (kept_State_platform (sub hm) ?_ ?_)
  · exact g3
  · intro a0 a1
    exact kept_State_writeChCtrl (sub hm) a1

theorem kept_execChStart {v0 : Func} {v1 : ChanId} {v2 : Word} {v3 : State} (hm : m &&& 152297442 = 0) (g3 : Kept m o v3) :
    ∀ s', (execChStart v0 v1 v2 v3) = .next s' → Kept m o s' := by
  unfold execChStart
  refine keptNext (kept_State_platform (sub hm) ?_ ?_)
  · exact g3
  · intro a0 a1
    exact kept_State_writeChCtrl (sub hm) a1

theorem kept_channelDrained {v0 : Nat} {v1 : State} (hm : m &&& 1048608 = 0) (g1 : Kept m o v1) :
    Kept m o (channelDrained v0 v1) := by
  unfold channelDrained
  extract_lets +onlyGivenNames -merge -underBinder x0
  clear_value x0
  exact keptIte (kept_State_bump (sub hm) (kept_State_setChan (sub hm) g1)) g1

theorem kept_execChannelDrained {v0 : ChanId} {v1 : State} (hm : m &&& 1048608 = 0) (g1 : Kept m o v1) :
    ∀ s', (execChannelDrained v0 v1) = .next s' → Kept m o s' := by
  unfold execChannelDrained
  refine keptNext (kept_State_work (sub hm) ?_ ?_)
  · exact g1
  · intro a0 a1
    exact kept_channelDrained (sub hm) a1

theorem kept_directEnd {v0 : Nat} {v1 : State} (hm : m &&& 1053728 = 0) (g1 : Kept m o v1) :
    Kept m o (directEnd v0 v1) := by
  unfold directEnd
  extract_lets +onlyGivenNames -merge -underBinder x0
  clear_value x0
  exact keptIte (kept_State_endTransfer (sub hm) g1) g1

theorem kept_execDirectTransferEnd {v0 : ChanId} {v1 : State} (hm : m &&& 1053728 = 0) (g1 : Kept m o v1) :
    ∀ s', (execDirectTransferEnd v0 v1) = .next s' → Kept m o s' := by
  unfold execDirectTransferEnd
  refine keptNext (kept_State_work (sub hm) ?_ ?_)
  · exact g1
  · intro a0 a1
    exact kept_directEnd (sub hm) a1

end Sys2Proof.Machine
end

