-- ==== Sys2Proof/Laws/KeptSched.lean ====
section
/-! SUPPORT. For each operation of Machine/Sched.lean, and for each command meaning there: the fields of State it
    never changes (the bits not set in its mask), and that it keeps what Laws/Kept.lean names. -/

namespace Sys2Proof.Machine
set_option Elab.async false
variable {m : Nat} {o : State}

theorem kept_State_addCmd {v0 : State} {v1 : Cmd} (hm : m &&& 9216 = 0) (g0 : Kept m o v0) :
    Kept m o (State.addCmd v0 v1) := by
  unfold State.addCmd
  extract_lets +onlyGivenNames -merge -underBinder x0 x1
  clear_value x0 x1
  extract_lets +onlyGivenNames -merge -underBinder x2
  have h3 : Kept m o x2 := by
    unfold x2
    exact keptUpd hm (s := v0) (by constructor <;> first | exact .inl rfl | exact .inr rfl) rfl rfl rfl g0
  clear_value x2
  exact kept_State_noteActivity (sub hm) h3

theorem kept_issueTile {v0 : Nat} {v1 : Nat} {v2 : Nat} {v3 : Nat} {v4 : State} (hm : m &&& 9248 = 0) (g4 : Kept m o v4) :
    Kept m o (issueTile v0 v1 v2 v3 v4) := by
  unfold issueTile
  split
  · split
    · exact kept_State_endFlight (sub hm) g4
    · exact keptIte (kept_State_endFlight (sub hm) g4) (kept_State_addCmd (sub hm) (kept_State_startFlight (sub hm) g4))
  · exact g4

theorem kept_execKernelDesc {v0 : CabId} {v1 : DrawerId} {v2 : Seq} {v3 : State} (hm : m &&& 9248 = 0) (g3 : Kept m o v3) :
    ∀ s', (execKernelDesc v0 v1 v2 v3) = .next s' → Kept m o s' := by
  unfold execKernelDesc
  refine keptNext (kept_State_work (sub hm) ?_ ?_)
  · exact g3
  · intro a0 a1
    exact kept_issueTile (sub hm) a1

theorem kept_execLayerStep {v0 : CabId} {v1 : DrawerId} {v2 : Seq} {v3 : State} (hm : m &&& 9248 = 0) (g3 : Kept m o v3) :
    ∀ s', (execLayerStep v0 v1 v2 v3) = .next s' → Kept m o s' := by
  unfold execLayerStep
  refine keptNext (kept_State_work (sub hm) ?_ ?_)
  · exact g3
  · intro a0 a1
    exact kept_issueTile (sub hm) a1

theorem kept_State_startRun {v0 : State} {v1 : Cmd} (hm : m &&& 8194 = 0) (g0 : Kept m o v0) :
    Kept m o (State.startRun v0 v1) := by
  unfold State.startRun
  extract_lets +onlyGivenNames -merge -underBinder x0 x1 x2
  clear_value x0 x1 x2
  extract_lets +onlyGivenNames -merge -underBinder x3
  have h4 : Kept m o x3 := by
    unfold x3
    exact keptUpd hm (s := v0) (by constructor <;> first | exact .inl rfl | exact .inr rfl) rfl rfl rfl g0
  clear_value x3
  extract_lets +onlyGivenNames -merge -underBinder x5
  clear_value x5
  extract_lets +onlyGivenNames -merge -underBinder x6
  have h7 : Kept m o x6 := by
    unfold x6
    exact keptIte h4 (keptUpd hm (s := x3) (by constructor <;> first | exact .inl rfl | exact .inr rfl) rfl rfl rfl h4)
  clear_value x6
  extract_lets +onlyGivenNames -merge -underBinder x8
  have h9 : Kept m o x8 := by
    unfold x8
    refine foldlKept ?_ ?_
    · intro a10 a11 a12
      extract_lets +onlyGivenNames -merge -underBinder x13
      have h14 : Kept m o x13 := by
        unfold x13
        exact kept_State_deliverTables (sub hm) a12
      clear_value x13
      extract_lets +onlyGivenNames -merge -underBinder x15 x16
      clear_value x15 x16
      exact kept_State_emit (sub hm) (kept_State_setTile (sub hm) h14)
    · exact h7
  clear_value x8
  exact kept_State_updCmd (sub hm) h9

theorem kept_State_placeOn {v0 : State} {v1 : Cmd} {v2 : List Nat} (hm : m &&& 8194 = 0) (g0 : Kept m o v0) :
    Kept m o (State.placeOn v0 v1 v2) := by
  unfold State.placeOn
  extract_lets +onlyGivenNames -merge -underBinder x0
  clear_value x0
  extract_lets +onlyGivenNames -merge -underBinder x1
  have h2 : Kept m o x1 := by
    unfold x1
    refine foldlKept ?_ ?_
    · intro a3 a4 a5
      exact kept_State_setTile (sub hm) a5
    · exact g0
  clear_value x1
  extract_lets +onlyGivenNames -merge -underBinder x6
  clear_value x6
  refine keptIte ?_ ?_
  · exact kept_State_startRun (sub hm) (kept_State_updCmd (sub hm) h2)
  · extract_lets +onlyGivenNames -merge -underBinder x7
    have h8 : Kept m o x7 := by
      unfold x7
      refine foldlKept ?_ ?_
      · intro a9 a10 a11
        exact kept_State_clearTile (sub hm) a11
      · exact h2
    clear_value x7
    exact kept_State_updCmd (sub hm) h8

theorem kept_State_preempt {v0 : State} {v1 : Cmd} (hm : m &&& 140738530 = 0) (g0 : Kept m o v0) :
    Kept m o (State.preempt v0 v1) := by
  unfold State.preempt
  refine keptIte ?_ ?_
  · exact g0
  · extract_lets +onlyGivenNames -merge -underBinder x0 x1 x2
    clear_value x0 x1 x2
    refine keptIte ?_ ?_
    · exact g0
    · extract_lets +onlyGivenNames -merge -underBinder x3
      clear_value x3
      refine foldlKept ?_ ?_
      · intro a4 a5 a6
        exact kept_State_killCmd (sub hm) a6
      · exact g0

theorem kept_State_endHopeless {v0 : State} {v1 : Nat} (hm : m &&& 4207648 = 0) (g0 : Kept m o v0) :
    Kept m o (State.endHopeless v0 v1) := by
  unfold State.endHopeless
  refine foldlKept ?_ ?_
  · intro a0 a1 a2
    extract_lets +onlyGivenNames -merge -underBinder x3
    clear_value x3
    exact keptIte (kept_State_endCmd (sub hm) a2) (keptIte (kept_State_endCmd (sub hm) a2) a2)
  · exact g0

theorem kept_State_countWait {v0 : State} {v1 : Cmd} (hm : m &&& 8224 = 0) (g0 : Kept m o v0) :
    Kept m o (State.countWait v0 v1) := by
  unfold State.countWait
  exact keptIte g0 (kept_State_updCmd (sub hm) (kept_State_bump (sub hm) g0))

theorem kept_place {v0 : Nat} {v1 : State} (hm : m &&& 140738530 = 0) (g1 : Kept m o v1) :
    Kept m o (place v0 v1) := by
  unfold place
  extract_lets +onlyGivenNames -merge -underBinder x0
  have h1 : Kept m o x0 := by
    unfold x0
    exact kept_State_endHopeless (sub hm) (kept_State_renewWaits (sub hm) g1)
  clear_value x0
  split
  · exact h1
  · refine keptIte ?_ ?_
    · exact kept_State_noteActivity (sub hm) (kept_State_placeOn (sub hm) h1)
    · extract_lets +onlyGivenNames -merge -underBinder x2
      have h3 : Kept m o x2 := by
        unfold x2
        refine foldlKept ?_ ?_
        · intro a4 a5 a6
          exact kept_State_countWait (sub hm) a6
        · exact h1
      clear_value x2
      split
      · exact kept_State_noteActivity (sub hm) (kept_State_preempt (sub hm) (kept_State_placeOn (sub hm) h3))
      · exact kept_State_preempt (sub hm) h3

theorem kept_execPlacement {v0 : CabId} {v1 : State} (hm : m &&& 140738530 = 0) (g1 : Kept m o v1) :
    ∀ s', (execPlacement v0 v1) = .next s' → Kept m o s' := by
  unfold execPlacement
  refine keptNext (kept_State_work (sub hm) ?_ ?_)
  · exact g1
  · intro a0 a1
    exact kept_place (sub hm) a1

theorem kept_bypassExpiry {v0 : Nat} {v1 : State} (hm : m &&& 9216 = 0) (g1 : Kept m o v1) :
    Kept m o (bypassExpiry v0 v1) := by
  unfold bypassExpiry
  extract_lets +onlyGivenNames -merge -underBinder x0
  have h1 : Kept m o x0 := by
    unfold x0
    exact kept_State_renewWaits (sub hm) g1
  clear_value x0
  split
  · exact keptIte (kept_State_updCmd (sub hm) h1) h1
  · exact h1

theorem kept_execBypassLimitExpiry {v0 : CabId} {v1 : State} (hm : m &&& 9216 = 0) (g1 : Kept m o v1) :
    ∀ s', (execBypassLimitExpiry v0 v1) = .next s' → Kept m o s' := by
  unfold execBypassLimitExpiry
  refine keptNext (kept_State_work (sub hm) ?_ ?_)
  · exact g1
  · intro a0 a1
    exact kept_bypassExpiry (sub hm) a1

theorem kept_State_dropSwap {v0 : State} {v1 : Nat} {v2 : Nat} (hm : m &&& 8192 = 0) (g0 : Kept m o v0) :
    Kept m o (State.dropSwap v0 v1 v2) := by
  unfold State.dropSwap
  exact keptUpd hm (s := v0) (by constructor <;> first | exact .inl rfl | exact .inr rfl) rfl rfl rfl g0

theorem kept_State_setSwap {v0 : State} {v1 : Swap} (hm : m &&& 8192 = 0) (g0 : Kept m o v0) :
    Kept m o (State.setSwap v0 v1) := by
  unfold State.setSwap
  exact keptUpd hm (s := v0) (by constructor <;> first | exact .inl rfl | exact .inr rfl) rfl rfl rfl g0

theorem kept_State_freeState {v0 : State} {v1 : Nat} {v2 : Nat} (hm : m &&& 9218 = 0) (g0 : Kept m o v0) :
    Kept m o (State.freeState v0 v1 v2) := by
  unfold State.freeState
  extract_lets +onlyGivenNames -merge -underBinder x0
  clear_value x0
  extract_lets +onlyGivenNames -merge -underBinder x1
  have h2 : Kept m o x1 := by
    unfold x1
    refine foldlKept ?_ ?_
    · intro a3 a4 a5
      extract_lets +onlyGivenNames -merge -underBinder x6
      clear_value x6
      exact kept_State_clearTile (sub hm) (kept_State_setTile (sub hm) a5)
    · exact g0
  clear_value x1
  exact kept_State_setCtx (sub hm) h2

theorem kept_State_loseState {v0 : State} {v1 : Nat} {v2 : Nat} {v3 : Nat} {v4 : Nat} (hm : m &&& 4207650 = 0) (g0 : Kept m o v0) :
    Kept m o (State.loseState v0 v1 v2 v3 v4) := by
  unfold State.loseState
  extract_lets +onlyGivenNames -merge -underBinder x0
  have h1 : Kept m o x0 := by
    unfold x0
    exact kept_State_freeState (sub hm) g0
  clear_value x0
  extract_lets +onlyGivenNames -merge -underBinder x2
  clear_value x2
  extract_lets +onlyGivenNames -merge -underBinder x3
  have h4 : Kept m o x3 := by
    unfold x3
    exact kept_State_bump (sub hm) (kept_State_setCtx (sub hm) h1)
  clear_value x3
  refine foldlKept ?_ ?_
  · intro a5 a6 a7
    exact kept_State_endCmd (sub hm) a7
  · exact h4

theorem kept_State_evict {v0 : State} {v1 : Nat} {v2 : Nat} (hm : m &&& 9248 = 0) (g0 : Kept m o v0) :
    Kept m o (State.evict v0 v1 v2) := by
  unfold State.evict
  extract_lets +onlyGivenNames -merge -underBinder x0 x1
  clear_value x0 x1
  extract_lets +onlyGivenNames -merge -underBinder x2
  have h3 : Kept m o x2 := by
    unfold x2
    refine foldlKept ?_ ?_
    · intro a4 a5 a6
      exact kept_State_setTile (sub hm) a6
    · exact g0
  clear_value x2
  exact kept_State_bump (sub hm) (kept_State_setCtx (sub hm) (keptUpd hm (s := x2) (by constructor <;> first | exact .inl rfl | exact .inr rfl) rfl rfl rfl h3))

theorem kept_State_gather {v0 : State} {v1 : Swap} (hm : m &&& 140738530 = 0) (g0 : Kept m o v0) :
    Kept m o (State.gather v0 v1) := by
  unfold State.gather
  refine keptIte ?_ ?_
  · exact g0
  · extract_lets +onlyGivenNames -merge -underBinder x0 x1 x2 x3 x4
    clear_value x0 x1 x2 x3 x4
    split
    · exact g0
    · extract_lets +onlyGivenNames -merge -underBinder x5
      have h6 : Kept m o x5 := by
        unfold x5
        refine foldlKept ?_ ?_
        · intro a7 a8 a9
          exact kept_State_killCmd (sub hm) a9
        · exact g0
      clear_value x5
      extract_lets +onlyGivenNames -merge -underBinder x10
      have h11 : Kept m o x10 := by
        unfold x10
        refine foldlKept ?_ ?_
        · intro a12 a13 a14
          exact kept_State_evict (sub hm) a14
        · exact h6
      clear_value x10
      extract_lets +onlyGivenNames -merge -underBinder x15
      clear_value x15
      extract_lets +onlyGivenNames -merge -underBinder x16
      have h17 : Kept m o x16 := by
        unfold x16
        refine foldlKept ?_ ?_
        · intro a18 a19 a20
          exact kept_State_setTile (sub hm) a20
        · exact h11
      clear_value x16
      exact kept_State_setCtx (sub hm) (kept_State_setSwap (sub hm) h17)

theorem kept_swapInIssue {v0 : Flight} {v1 : State} (hm : m &&& 140738530 = 0) (g1 : Kept m o v1) :
    Kept m o (swapInIssue v0 v1) := by
  unfold swapInIssue
  extract_lets +onlyGivenNames -merge -underBinder x0 x1 x2 x3 x4
  clear_value x0 x1 x2 x3 x4
  refine keptIte ?_ ?_
  · exact kept_State_endFlight (sub hm) g1
  · refine keptIte ?_ ?_
    · exact g1
    · refine keptIte ?_ ?_
      · exact kept_State_endFlight (sub hm) g1
      · refine keptIte ?_ ?_
        · exact kept_State_endFlight (sub hm) g1
        · extract_lets +onlyGivenNames -merge -underBinder x5
          clear_value x5
          extract_lets +onlyGivenNames -merge -underBinder x6
          have h7 : Kept m o x6 := by
            unfold x6
            exact kept_State_startFlight (sub hm) g1
          clear_value x6
          exact kept_State_gather (sub hm) (keptUpd hm (s := x6) (by constructor <;> first | exact .inl rfl | exact .inr rfl) rfl rfl rfl h7)

theorem kept_swapIn {v0 : Nat} {v1 : Nat} {v2 : Nat} {v3 : State} (hm : m &&& 140738530 = 0) (g3 : Kept m o v3) :
    Kept m o (swapIn v0 v1 v2 v3) := by
  unfold swapIn
  split
  · exact kept_swapInIssue (sub hm) g3
  · split
    · exact kept_State_gather (sub hm) g3
    · exact g3

theorem kept_execSwapIn {v0 : CabId} {v1 : DrawerId} {v2 : Seq} {v3 : State} (hm : m &&& 140738530 = 0) (g3 : Kept m o v3) :
    ∀ s', (execSwapIn v0 v1 v2 v3) = .next s' → Kept m o s' := by
  unfold execSwapIn
  refine keptNext (kept_State_work (sub hm) ?_ ?_)
  · exact g3
  · intro a0 a1
    exact kept_swapIn (sub hm) a1

theorem kept_swapOutIssue {v0 : Flight} {v1 : State} (hm : m &&& 9248 = 0) (g1 : Kept m o v1) :
    Kept m o (swapOutIssue v0 v1) := by
  unfold swapOutIssue
  extract_lets +onlyGivenNames -merge -underBinder x0 x1 x2 x3 x4
  clear_value x0 x1 x2 x3 x4
  refine keptIte ?_ ?_
  · exact kept_State_endFlight (sub hm) g1
  · refine keptIte ?_ ?_
    · exact g1
    · refine keptIte ?_ ?_
      · extract_lets +onlyGivenNames -merge -underBinder x5
        clear_value x5
        extract_lets +onlyGivenNames -merge -underBinder x6
        have h7 : Kept m o x6 := by
          unfold x6
          exact kept_State_startFlight (sub hm) g1
        clear_value x6
        extract_lets +onlyGivenNames -merge -underBinder x8
        have h9 : Kept m o x8 := by
          unfold x8
          refine foldlKept ?_ ?_
          · intro a10 a11 a12
            exact kept_State_setTile (sub hm) a12
          · exact h7
        clear_value x8
        extract_lets +onlyGivenNames -merge -underBinder x13
        clear_value x13
        exact kept_State_setCtx (sub hm) (keptUpd hm (s := x8) (by constructor <;> first | exact .inl rfl | exact .inr rfl) rfl rfl rfl h9)
      · extract_lets +onlyGivenNames -merge -underBinder x14
        have h15 : Kept m o x14 := by
          unfold x14
          exact keptIte (kept_State_setCtx (sub hm) g1) (keptIte g1 (kept_State_setCtx (sub hm) g1))
        clear_value x14
        exact kept_State_endFlight (sub hm) h15

theorem kept_execSwapOut {v0 : CabId} {v1 : DrawerId} {v2 : Seq} {v3 : State} (hm : m &&& 9248 = 0) (g3 : Kept m o v3) :
    ∀ s', (execSwapOut v0 v1 v2 v3) = .next s' → Kept m o s' := by
  unfold execSwapOut
  refine keptNext (kept_State_work (sub hm) ?_ ?_)
  · exact g3
  · intro a0 a1
    split
    · exact kept_swapOutIssue (sub hm) a1
    · exact a1

theorem kept_autoSwap {v0 : Nat} {v1 : Nat} {v2 : State} (hm : m &&& 140738530 = 0) (g2 : Kept m o v2) :
    Kept m o (autoSwap v0 v1 v2) := by
  unfold autoSwap
  split
  · exact keptIte (kept_State_gather (sub hm) g2) g2
  · extract_lets +onlyGivenNames -merge -underBinder x0
    clear_value x0
    split
    · refine keptIte ?_ ?_
      · extract_lets +onlyGivenNames -merge -underBinder x1
        clear_value x1
        exact kept_State_gather (sub hm) (keptUpd hm (s := v2) (by constructor <;> first | exact .inl rfl | exact .inr rfl) rfl rfl rfl g2)
      · exact g2
    · exact g2

theorem kept_execAutoSwapIn {v0 : CabId} {v1 : CtxId} {v2 : State} (hm : m &&& 140738530 = 0) (g2 : Kept m o v2) :
    ∀ s', (execAutoSwapIn v0 v1 v2) = .next s' → Kept m o s' := by
  unfold execAutoSwapIn
  refine keptNext (kept_State_work (sub hm) ?_ ?_)
  · exact g2
  · intro a0 a1
    exact kept_autoSwap (sub hm) a1

theorem kept_State_countSwap {v0 : State} {v1 : Swap} {v2 : Nat} (hm : m &&& 134434784 = 0) (g0 : Kept m o v0) :
    Kept m o (State.countSwap v0 v1 v2) := by
  unfold State.countSwap
  extract_lets +onlyGivenNames -merge -underBinder x0
  clear_value x0
  exact kept_State_trace (sub hm) (kept_State_setCab (sub hm) g0)

theorem kept_State_endSwapDesc {v0 : State} {v1 : Swap} {v2 : Ending} (hm : m &&& 1056 = 0) (g0 : Kept m o v0) :
    Kept m o (State.endSwapDesc v0 v1 v2) := by
  unfold State.endSwapDesc
  split
  · exact kept_State_endFlight (sub hm) g0
  · exact g0

theorem kept_loadDone {v0 : Swap} {v1 : State} (hm : m &&& 134442976 = 0) (g1 : Kept m o v1) :
    Kept m o (loadDone v0 v1) := by
  unfold loadDone
  extract_lets +onlyGivenNames -merge -underBinder x0
  have h1 : Kept m o x0 := by
    unfold x0
    refine foldlKept ?_ ?_
    · intro a2 a3 a4
      exact kept_State_setTile (sub hm) a4
    · exact g1
  clear_value x0
  extract_lets +onlyGivenNames -merge -underBinder x5
  clear_value x5
  extract_lets +onlyGivenNames -merge -underBinder x6
  have h7 : Kept m o x6 := by
    unfold x6
    exact kept_State_setCtx (sub hm) h1
  clear_value x6
  extract_lets +onlyGivenNames -merge -underBinder x8
  have h9 : Kept m o x8 := by
    unfold x8
    exact kept_State_bump (sub hm) (kept_State_dropSwap (sub hm) h7)
  clear_value x8
  extract_lets +onlyGivenNames -merge -underBinder x10
  have h11 : Kept m o x10 := by
    unfold x10
    exact kept_State_noteActivity (sub hm) (kept_State_endSwapDesc (sub hm) (kept_State_countSwap (sub hm) h9))
  clear_value x10
  exact keptIte (kept_State_evict (sub hm) h11) h11

theorem kept_loadFails {v0 : Swap} {v1 : Nat} {v2 : Nat} {v3 : State} (hm : m &&& 4207650 = 0) (g3 : Kept m o v3) :
    Kept m o (loadFails v0 v1 v2 v3) := by
  unfold loadFails
  extract_lets +onlyGivenNames -merge -underBinder x0
  have h1 : Kept m o x0 := by
    unfold x0
    refine foldlKept ?_ ?_
    · intro a2 a3 a4
      exact kept_State_clearTile (sub hm) (kept_State_setTile (sub hm) a4)
    · exact g3
  clear_value x0
  extract_lets +onlyGivenNames -merge -underBinder x5
  clear_value x5
  extract_lets +onlyGivenNames -merge -underBinder x6
  have h7 : Kept m o x6 := by
    unfold x6
    exact kept_State_setCtx (sub hm) (kept_State_dropSwap (sub hm) h1)
  clear_value x6
  extract_lets +onlyGivenNames -merge -underBinder x8
  have h9 : Kept m o x8 := by
    unfold x8
    exact kept_State_endSwapDesc (sub hm) h7
  clear_value x8
  split
  · split
    · exact keptIte (kept_State_endCmd (sub hm) h9) h9
    · exact h9
  · exact h9

theorem kept_loadTiles {v0 : Nat} {v1 : List Nat} {v2 : List Byte} {v3 : State} (hm : m &&& 2 = 0) (g3 : Kept m o v3) :
    Kept m o (loadTiles v0 v1 v2 v3) := by
  induction v1 generalizing v0 v2 v3
  · unfold loadTiles
    exact g3
  · rename_i ih
    unfold loadTiles
    apply ih
    exact kept_State_emit (sub hm) g3

theorem kept_swapLoad {v0 : Nat} {v1 : Nat} {v2 : State} (hm : m &&& 138641394 = 0) (g2 : Kept m o v2) :
    Kept m o (swapLoad v0 v1 v2) := by
  unfold swapLoad
  split
  · refine keptIte ?_ ?_
    · extract_lets +onlyGivenNames -merge -underBinder x0
      clear_value x0
      refine keptIte ?_ ?_
      · exact kept_loadDone (sub hm) (kept_loadTiles (sub hm) g2)
      · split
        · rename_i y1 y2
          exact keptPair2 y2 (kept_State_vaRead (sub hm) g2)
        · rename_i y3 y4
          exact kept_loadFails (sub hm) (keptPair2 y4 (kept_State_vaRead (sub hm) g2))
        · rename_i y5 y6
          exact kept_loadDone (sub hm) (kept_loadTiles (sub hm) (keptPair2 y6 (kept_State_vaRead (sub hm) g2)))
    · exact g2
  · exact g2

theorem kept_execSwapLoadComplete {v0 : CabId} {v1 : CtxId} {v2 : State} (hm : m &&& 138641394 = 0) (g2 : Kept m o v2) :
    ∀ s', (execSwapLoadComplete v0 v1 v2) = .next s' → Kept m o s' := by
  unfold execSwapLoadComplete
  refine keptNext (kept_State_work (sub hm) ?_ ?_)
  · exact g2
  · intro a0 a1
    exact kept_swapLoad (sub hm) a1

theorem kept_saveDone {v0 : Swap} {v1 : Nat} {v2 : State} (hm : m &&& 134442978 = 0) (g2 : Kept m o v2) :
    Kept m o (saveDone v0 v1 v2) := by
  unfold saveDone
  extract_lets +onlyGivenNames -merge -underBinder x0
  have h1 : Kept m o x0 := by
    unfold x0
    refine foldlKept ?_ ?_
    · intro a2 a3 a4
      exact kept_State_setTile (sub hm) a4
    · exact g2
  clear_value x0
  extract_lets +onlyGivenNames -merge -underBinder x5
  clear_value x5
  extract_lets +onlyGivenNames -merge -underBinder x6
  have h7 : Kept m o x6 := by
    unfold x6
    exact kept_State_freeState (sub hm) h1
  clear_value x6
  extract_lets +onlyGivenNames -merge -underBinder x8
  have h9 : Kept m o x8 := by
    unfold x8
    refine foldlKept ?_ ?_
    · intro a10 a11 a12
      exact kept_State_setTile (sub hm) a12
    · exact h7
  clear_value x8
  extract_lets +onlyGivenNames -merge -underBinder x13
  clear_value x13
  extract_lets +onlyGivenNames -merge -underBinder x14
  have h15 : Kept m o x14 := by
    unfold x14
    exact kept_State_setCtx (sub hm) h9
  clear_value x14
  exact kept_State_noteActivity (sub hm) (kept_State_endSwapDesc (sub hm) (kept_State_countSwap (sub hm) (kept_State_bump (sub hm) (kept_State_dropSwap (sub hm) h15))))

theorem kept_saveFails {v0 : Swap} {v1 : Nat} {v2 : Nat} {v3 : State} (hm : m &&& 4207650 = 0) (g3 : Kept m o v3) :
    Kept m o (saveFails v0 v1 v2 v3) := by
  unfold saveFails
  extract_lets +onlyGivenNames -merge -underBinder x0
  clear_value x0
  extract_lets +onlyGivenNames -merge -underBinder x1
  have h2 : Kept m o x1 := by
    unfold x1
    exact kept_State_loseState (sub hm) (kept_State_dropSwap (sub hm) g3)
  clear_value x1
  extract_lets +onlyGivenNames -merge -underBinder x3
  have h4 : Kept m o x3 := by
    unfold x3
    refine foldlKept ?_ ?_
    · intro a5 a6 a7
      exact kept_State_setTile (sub hm) a7
    · exact h2
  clear_value x3
  exact kept_State_endSwapDesc (sub hm) h4

theorem kept_swapSave {v0 : Nat} {v1 : Nat} {v2 : List Byte} {v3 : State} (hm : m &&& 138641394 = 0) (g3 : Kept m o v3) :
    Kept m o (swapSave v0 v1 v2 v3) := by
  unfold swapSave
  split
  · refine keptIte ?_ ?_
    · exact g3
    · refine keptIte ?_ ?_
      · exact kept_saveDone (sub hm) g3
      · refine keptIte ?_ ?_
        · exact g3
        · split
          · rename_i y0 y1
            exact keptPair2 y1 (kept_State_vaWrite (sub hm) g3)
          · rename_i y2 y3
            exact kept_saveFails (sub hm) (keptPair2 y3 (kept_State_vaWrite (sub hm) g3))
          · rename_i y4 y5
            exact kept_saveDone (sub hm) (keptPair2 y5 (kept_State_vaWrite (sub hm) g3))
  · exact g3

theorem kept_execSwapSaveComplete {v0 : CabId} {v1 : CtxId} {v2 : List Byte} {v3 : State} (hm : m &&& 138641394 = 0) (g3 : Kept m o v3) :
    ∀ s', (execSwapSaveComplete v0 v1 v2 v3) = .next s' → Kept m o s' := by
  unfold execSwapSaveComplete
  refine keptNext (kept_State_work (sub hm) ?_ ?_)
  · exact g3
  · intro a0 a1
    exact kept_swapSave (sub hm) a1

theorem kept_stallEvict {v0 : Nat} {v1 : State} (hm : m &&& 9248 = 0) (g1 : Kept m o v1) :
    Kept m o (stallEvict v0 v1) := by
  unfold stallEvict
  extract_lets +onlyGivenNames -merge -underBinder x0 x1 x2 x3
  clear_value x0 x1 x2 x3
  refine keptIte ?_ ?_
  · split
    · exact kept_State_bump (sub hm) (kept_State_evict (sub hm) g1)
    · exact g1
  · exact g1

theorem kept_execStallEviction {v0 : CabId} {v1 : State} (hm : m &&& 9248 = 0) (g1 : Kept m o v1) :
    ∀ s', (execStallEviction v0 v1) = .next s' → Kept m o s' := by
  unfold execStallEviction
  refine keptNext (kept_State_work (sub hm) ?_ ?_)
  · exact g1
  · intro a0 a1
    exact kept_stallEvict (sub hm) a1

theorem kept_State_dropState {v0 : State} {v1 : Nat} {v2 : Nat} (hm : m &&& 9218 = 0) (g0 : Kept m o v0) :
    Kept m o (State.dropState v0 v1 v2) := by
  unfold State.dropState
  extract_lets +onlyGivenNames -merge -underBinder x0
  have h1 : Kept m o x0 := by
    unfold x0
    split
    · refine foldlKept ?_ ?_
      · intro a2 a3 a4
        extract_lets +onlyGivenNames -merge -underBinder x5
        clear_value x5
        exact keptIte (kept_State_clearTile (sub hm) (kept_State_setTile (sub hm) a4)) a4
      · exact kept_State_dropSwap (sub hm) g0
    · exact g0
  clear_value x0
  extract_lets +onlyGivenNames -merge -underBinder x6
  have h7 : Kept m o x6 := by
    unfold x6
    exact kept_State_freeState (sub hm) h1
  clear_value x6
  exact kept_State_setCtx (sub hm) h7

end Sys2Proof.Machine
end

