-- ==== Sys2Proof/Laws/KeptTransCmds.lean ====
section
/-! SUPPORT. For each operation of Machine/TransCmds.lean, and for each command meaning there: the fields of State it
    never changes (the bits not set in its mask), and that it keeps what Laws/Kept.lean names. -/

namespace Sys2Proof.Machine
set_option Elab.async false
variable {m : Nat} {o : State}

theorem kept_State_failReq {v0 : State} {v1 : Req} {v2 : Nat} {v3 : Nat} {v4 : optParam Bool false} (hm : m &&& 12290 = 0) (g0 : Kept m o v0) :
    Kept m o (State.failReq v0 v1 v2 v3 v4) := by
  unfold State.failReq
  split
  · extract_lets +onlyGivenNames -merge -underBinder x0
    have h1 : Kept m o x0 := by
      unfold x0
      exact kept_State_noteErr (sub hm) (kept_State_dropReq (sub hm) g0)
    clear_value x0
    exact keptIte (kept_State_emit (sub hm) h1) (kept_State_emit (sub hm) h1)
  · exact kept_State_setReq (sub hm) g0

theorem kept_landRuns {v0 : Req} {v1 : Cmd} {v2 : Nat} {v3 : List (Nat × List Byte)} {v4 : State} (hm : m &&& 134438896 = 0) (g4 : Kept m o v4) :
    Kept m o (landRuns v0 v1 v2 v3 v4).2 := by
  induction v3 generalizing v0 v1 v2 v4
  · unfold landRuns
    exact g4
  · rename_i ih
    unfold landRuns
    split
    · rename_i y0 y1
      apply ih
      exact keptPair2 y1 (kept_State_shadowWrite (sub hm) g4)
    · exact kept_State_shadowWrite (sub hm) g4

theorem kept_placeRuns {v0 : Asker} {v1 : Bool} {v2 : Nat} {v3 : List (Nat × List Byte)} {v4 : State} (hm : m &&& 134438896 = 0) (g4 : Kept m o v4) :
    Kept m o (placeRuns v0 v1 v2 v3 v4).2 := by
  induction v3 generalizing v0 v1 v2 v4
  · unfold placeRuns
    exact g4
  · rename_i ih
    unfold placeRuns
    split
    · rename_i y0 y1
      apply ih
      exact keptPair2 y1 (kept_State_writeAt (sub hm) g4)
    · exact kept_State_writeAt (sub hm) g4

theorem kept_serveTile {v0 : Req} {v1 : Bool} {v2 : Nat} {v3 : Bool} {v4 : State} (hm : m &&& 140738546 = 0) (g4 : Kept m o v4) :
    Kept m o (serveTile v0 v1 v2 v3 v4) := by
  unfold serveTile
  split
  · extract_lets +onlyGivenNames -merge -underBinder x0 x1
    clear_value x0 x1
    refine keptIte ?_ ?_
    · split
      · rename_i y2 y3
        exact kept_State_emit (sub hm) (kept_State_dropReq (sub hm) (keptPair2 y3 (keptIte2 g4 (kept_State_readLoc (sub hm) (kept_State_resolve (sub hm) g4)))))
      · rename_i y4 y5
        exact kept_State_failReq (sub hm) (keptPair2 y5 (keptIte2 g4 (kept_State_readLoc (sub hm) (kept_State_resolve (sub hm) g4))))
    · extract_lets +onlyGivenNames -merge -underBinder x6
      clear_value x6
      refine keptIte ?_ ?_
      · split
        · rename_i y7 y8
          exact kept_State_emit (sub hm) (kept_State_dropReq (sub hm) (keptPair2 y8 (kept_placeRuns (sub hm) g4)))
        · rename_i y9 y10
          exact kept_State_failReq (sub hm) (keptPair2 y10 (kept_placeRuns (sub hm) g4))
      · refine keptIte ?_ ?_
        · exact kept_State_failReq (sub hm) g4
        · refine keptIte ?_ ?_
          · exact kept_State_failReq (sub hm) g4
          · split
            · rename_i y11 y12
              exact kept_State_emit (sub hm) (kept_State_dropReq (sub hm) (keptPair2 y12 (kept_landRuns (sub hm) g4)))
            · rename_i y13 y14
              exact kept_State_failReq (sub hm) (keptPair2 y14 (kept_landRuns (sub hm) g4))
            · rename_i y15 y16
              exact kept_State_failReq (sub hm) (keptPair2 y16 (kept_landRuns (sub hm) g4))
            · rename_i y17 y18
              exact kept_State_bump (sub hm) (kept_State_killCmd (sub hm) (kept_State_dropReq (sub hm) (keptPair2 y18 (kept_landRuns (sub hm) g4))))
            · rename_i y19 y20
              exact keptIte (kept_State_setReq (sub hm) (keptPair2 y20 (kept_landRuns (sub hm) g4))) (kept_State_addReq (sub hm) (keptPair2 y20 (kept_landRuns (sub hm) g4)))
  · exact kept_State_dropReq (sub hm) g4

theorem kept_tileGoes {v0 : Req} {v1 : Xl × State} (hm : m &&& 140738546 = 0) (g1 : Kept m o v1.2) :
    Kept m o (tileGoes v0 v1) := by
  unfold tileGoes
  split
  · rename_i y0
    exact kept_serveTile (sub hm) g1
  · rename_i y1
    exact kept_State_failReq (sub hm) g1
  · rename_i y2
    exact kept_State_setReq (sub hm) g1

theorem kept_retryTile {v0 : Req} {v1 : State} (hm : m &&& 140738546 = 0) (g1 : Kept m o v1) :
    Kept m o (retryTile v0 v1) := by
  unfold retryTile
  split
  · exact kept_tileGoes (sub hm) (kept_State_useLook (sub hm) g1)
  · exact kept_State_setReq (sub hm) g1

theorem kept_releaseReq {v0 : Req} {v1 : State} (hm : m &&& 140738546 = 0) (g1 : Kept m o v1) :
    Kept m o (releaseReq v0 v1) := by
  unfold releaseReq
  split
  · exact kept_retryTile (sub hm) g1
  · exact kept_State_dropReq (sub hm) g1

theorem kept_walkStartReq {v0 : Nat} {v1 : State} (hm : m &&& 4128 = 0) (g1 : Kept m o v1) :
    Kept m o (walkStartReq v0 v1) := by
  unfold walkStartReq
  split
  · split
    · extract_lets +onlyGivenNames -merge -underBinder x0
      clear_value x0
      refine keptIte ?_ ?_
      · exact kept_State_bump (sub hm) (kept_State_setReq (sub hm) g1)
      · refine keptIte ?_ ?_
        · exact keptIte g1 (kept_State_bump (sub hm) (kept_State_setReq (sub hm) g1))
        · extract_lets +onlyGivenNames -merge -underBinder x1
          have h2 : Kept m o x1 := by
            unfold x1
            exact kept_State_setReq (sub hm) g1
          clear_value x1
          exact keptUpd hm (s := x1) (by constructor <;> first | exact .inl rfl | exact .inr rfl) rfl rfl rfl h2
    · exact g1
  · exact g1

theorem kept_execWalkStart {v0 : Nat} {v1 : State} (hm : m &&& 4128 = 0) (g1 : Kept m o v1) :
    ∀ s', (execWalkStart v0 v1) = .next s' → Kept m o s' := by
  unfold execWalkStart
  refine keptNext (kept_State_work (sub hm) ?_ ?_)
  · exact g1
  · intro a0 a1
    exact kept_walkStartReq (sub hm) a1

theorem kept_walkEnds {v0 : Nat} {v1 : Nat} {v2 : Nat} {v3 : State} (hm : m &&& 140738546 = 0) (g3 : Kept m o v3) :
    Kept m o (walkEnds v0 v1 v2 v3) := by
  unfold walkEnds
  refine keptIte ?_ ?_
  · extract_lets +onlyGivenNames -merge -underBinder x0
    clear_value x0
    extract_lets +onlyGivenNames -merge -underBinder x1
    have h2 : Kept m o x1 := by
      unfold x1
      exact keptUpd hm (s := v3) (by constructor <;> first | exact .inl rfl | exact .inr rfl) rfl rfl rfl g3
    clear_value x1
    extract_lets +onlyGivenNames -merge -underBinder x3
    clear_value x3
    extract_lets +onlyGivenNames -merge -underBinder x4
    have h5 : Kept m o x4.2 := by
      unfold x4
      exact kept_State_walk (sub hm) h2
    clear_value x4
    split
    · refine foldlKept ?_ ?_
      · intro a6 a7 a8
        exact kept_State_failReq (sub hm) a8
      · exact kept_State_bump (sub hm) h5
    · refine foldlKept ?_ ?_
      · intro a9 a10 a11
        exact kept_State_failReq (sub hm) a11
      · exact h5
    · refine foldlKept ?_ ?_
      · intro a12 a13 a14
        exact kept_tileGoes (sub hm) (kept_State_afterWalk (sub hm) a14)
      · exact h5
  · exact g3

theorem kept_execWalkComplete {v0 : CabId} {v1 : CtxId} {v2 : Nat} {v3 : State} (hm : m &&& 140738546 = 0) (g3 : Kept m o v3) :
    ∀ s', (execWalkComplete v0 v1 v2 v3) = .next s' → Kept m o s' := by
  unfold execWalkComplete
  refine keptNext (kept_State_work (sub hm) ?_ ?_)
  · exact g3
  · intro a0 a1
    exact kept_walkEnds (sub hm) a1

theorem kept_State_fqPut {v0 : State} {v1 : Nat} {v2 : Bool} {v3 : Nat} {v4 : List Byte} (hm : m &&& 134438896 = 0) (g0 : Kept m o v0) :
    Kept m o (State.fqPut v0 v1 v2 v3 v4) := by
  unfold State.fqPut
  exact keptIte (kept_State_hostWrite (sub hm) g0) (kept_State_devWrite (sub hm) g0)

theorem kept_updFault {v0 : State} {v1 : Nat} {v2 : Nat} {v3 : FaultRec → FaultRec} (hm : m &&& 4096 = 0) (g0 : Kept m o v0) :
    Kept m o (updFault v0 v1 v2 v3) := by
  unfold updFault
  exact keptUpd hm (s := v0) (by constructor <;> first | exact .inl rfl | exact .inr rfl) rfl rfl rfl g0

theorem kept_recordWrite {v0 : Nat} {v1 : State} (hm : m &&& 134438896 = 0) (g1 : Kept m o v1) :
    Kept m o (recordWrite v0 v1) := by
  unfold recordWrite
  split
  · refine keptIte ?_ ?_
    · extract_lets +onlyGivenNames -merge -underBinder x0 x1 x2
      clear_value x0 x1 x2
      extract_lets +onlyGivenNames -merge -underBinder x3
      have h4 : Kept m o x3 := by
        unfold x3
        exact kept_State_fqPut (sub hm) (kept_State_fqPut (sub hm) g1)
      clear_value x3
      extract_lets +onlyGivenNames -merge -underBinder x5
      have h6 : Kept m o x5 := by
        unfold x5
        exact kept_State_setRfld (sub hm) h4
      clear_value x5
      extract_lets +onlyGivenNames -merge -underBinder x7
      have h8 : Kept m o x7 := by
        unfold x7
        exact keptIte h6 (kept_State_fqPut (sub hm) h6)
      clear_value x7
      extract_lets +onlyGivenNames -merge -underBinder x9
      have h10 : Kept m o x9 := by
        unfold x9
        exact kept_updFault (sub hm) h8
      clear_value x9
      extract_lets +onlyGivenNames -merge -underBinder x11
      clear_value x11
      exact keptUpd hm (s := x9) (by constructor <;> first | exact .inl rfl | exact .inr rfl) rfl rfl rfl h10
    · exact g1
  · exact g1

theorem kept_execFaultRecordWrite {v0 : CabId} {v1 : State} (hm : m &&& 134438896 = 0) (g1 : Kept m o v1) :
    ∀ s', (execFaultRecordWrite v0 v1) = .next s' → Kept m o s' := by
  unfold execFaultRecordWrite
  refine keptNext (kept_State_work (sub hm) ?_ ?_)
  · exact g1
  · intro a0 a1
    exact kept_recordWrite (sub hm) a1

theorem kept_dropFault {v0 : State} {v1 : Nat} {v2 : Nat} (hm : m &&& 4096 = 0) (g0 : Kept m o v0) :
    Kept m o (dropFault v0 v1 v2) := by
  unfold dropFault
  exact keptUpd hm (s := v0) (by constructor <;> first | exact .inl rfl | exact .inr rfl) rfl rfl rfl g0

theorem kept_faultRetry {v0 : Nat} {v1 : Nat} {v2 : State} (hm : m &&& 140738546 = 0) (g2 : Kept m o v2) :
    Kept m o (faultRetry v0 v1 v2) := by
  unfold faultRetry
  split
  · extract_lets +onlyGivenNames -merge -underBinder x0
    clear_value x0
    extract_lets +onlyGivenNames -merge -underBinder x1
    have h2 : Kept m o x1 := by
      unfold x1
      exact kept_State_dropLook (sub hm) (kept_dropFault (sub hm) g2)
    clear_value x1
    refine foldlKept ?_ ?_
    · intro a3 a4 a5
      exact kept_releaseReq (sub hm) a5
    · exact h2
  · exact g2

theorem kept_faultFail {v0 : Nat} {v1 : Nat} {v2 : State} (hm : m &&& 12290 = 0) (g2 : Kept m o v2) :
    Kept m o (faultFail v0 v1 v2) := by
  unfold faultFail
  refine foldlKept ?_ ?_
  · intro a0 a1 a2
    exact kept_State_failReq (sub hm) a2
  · exact kept_dropFault (sub hm) g2

theorem kept_execFaultRetry {v0 : CabId} {v1 : Nat} {v2 : State} (hm : m &&& 140738546 = 0) (g2 : Kept m o v2) :
    ∀ s', (execFaultRetry v0 v1 v2) = .next s' → Kept m o s' := by
  unfold execFaultRetry
  refine keptNext (kept_State_work (sub hm) ?_ ?_)
  · exact g2
  · intro a0 a1
    exact keptIte (kept_faultRetry (sub hm) a1) a1

theorem kept_execFaultFail {v0 : CabId} {v1 : Nat} {v2 : State} (hm : m &&& 12290 = 0) (g2 : Kept m o v2) :
    ∀ s', (execFaultFail v0 v1 v2) = .next s' → Kept m o s' := by
  unfold execFaultFail
  refine keptNext (kept_State_work (sub hm) ?_ ?_)
  · exact g2
  · intro a0 a1
    exact keptIte (kept_faultFail (sub hm) a1) a1

theorem kept_execFaultTimeout {v0 : Nat} {v1 : State} (hm : m &&& 12322 = 0) (g1 : Kept m o v1) :
    ∀ s', (execFaultTimeout v0 v1) = .next s' → Kept m o s' := by
  unfold execFaultTimeout
  refine keptNext (kept_State_work (sub hm) ?_ ?_)
  · exact g1
  · intro a0 a1
    split
    · refine keptIte ?_ ?_
      · exact a1
      · split
        · exact kept_State_failReq (sub hm) a1
        · exact kept_State_priFail (sub hm) (kept_State_failReq (sub hm) a1)
        · exact kept_State_priFail (sub hm) (kept_State_failReq (sub hm) a1)
        · exact a1
    · exact a1

theorem kept_fqWrite {v0 : Nat} {v1 : Word} {v2 : State} (hm : m &&& 12322 = 0) (g2 : Kept m o v2) :
    Kept m o (fqWrite v0 v1 v2) := by
  unfold fqWrite
  extract_lets +onlyGivenNames -merge -underBinder x0 x1
  clear_value x0 x1
  refine keptIte ?_ ?_
  · refine keptIte ?_ ?_
    · exact kept_State_setReg (sub hm) g2
    · extract_lets +onlyGivenNames -merge -underBinder x2
      have h3 : Kept m o x2 := by
        unfold x2
        refine foldlKept ?_ ?_
        · intro a4 a5 a6
          exact kept_faultFail (sub hm) a6
        · exact g2
      clear_value x2
      exact kept_State_setReg (sub hm) h3
  · refine keptIte ?_ ?_
    · extract_lets +onlyGivenNames -merge -underBinder x7
      have h8 : Kept m o x7 := by
        unfold x7
        exact kept_State_setRfld (sub hm) (kept_State_setReg (sub hm) g2)
      clear_value x7
      exact keptUpd hm (s := x7) (by constructor <;> first | exact .inl rfl | exact .inr rfl) rfl rfl rfl h8
    · exact kept_State_setReg (sub hm) g2

theorem kept_execTuFqEnable {v0 : Func} {v1 : CabId} {v2 : Word} {v3 : State} (hm : m &&& 152305634 = 0) (g3 : Kept m o v3) :
    ∀ s', (execTuFqEnable v0 v1 v2 v3) = .next s' → Kept m o s' := by
  unfold execTuFqEnable
  refine keptNext (kept_State_platform (sub hm) ?_ ?_)
  · exact g3
  · intro a0 a1
    exact kept_fqWrite (sub hm) a1

theorem kept_execTuFqDisable {v0 : Func} {v1 : CabId} {v2 : Word} {v3 : State} (hm : m &&& 152305634 = 0) (g3 : Kept m o v3) :
    ∀ s', (execTuFqDisable v0 v1 v2 v3) = .next s' → Kept m o s' := by
  unfold execTuFqDisable
  refine keptNext (kept_State_platform (sub hm) ?_ ?_)
  · exact g3
  · intro a0 a1
    exact kept_fqWrite (sub hm) a1

theorem kept_pageRequest {v0 : Req} {v1 : State} (hm : m &&& 4098 = 0) (g1 : Kept m o v1) :
    Kept m o (pageRequest v0 v1) := by
  unfold pageRequest
  extract_lets +onlyGivenNames -merge -underBinder x0
  clear_value x0
  refine keptIte ?_ ?_
  · extract_lets +onlyGivenNames -merge -underBinder x1
    clear_value x1
    exact kept_State_emit (sub hm) (kept_State_setReq (sub hm) (keptUpd hm (s := v1) (by constructor <;> first | exact .inl rfl | exact .inr rfl) rfl rfl rfl g1))
  · exact kept_State_setReq (sub hm) g1

theorem kept_hostFault {v0 : Req} {v1 : State} (hm : m &&& 12322 = 0) (g1 : Kept m o v1) :
    Kept m o (hostFault v0 v1) := by
  unfold hostFault
  extract_lets +onlyGivenNames -merge -underBinder x0
  clear_value x0
  exact keptIte (kept_State_failReq (sub hm) g1) (keptIte (kept_State_priFail (sub hm) (kept_State_failReq (sub hm) g1)) (kept_pageRequest (sub hm) (keptUpd hm (s := v1) (by constructor <;> first | exact .inl rfl | exact .inr rfl) rfl rfl rfl g1)))

theorem kept_priRefill {v0 : State} (hm : m &&& 4098 = 0) (g0 : Kept m o v0) :
    Kept m o (priRefill v0) := by
  unfold priRefill
  refine foldlKept ?_ ?_
  · intro a0 a1 a2
    exact kept_pageRequest (sub hm) a2
  · exact g0

theorem kept_State_renewHost {v0 : State} {v1 : Req} (hm : m &&& 4096 = 0) (g0 : Kept m o v0) :
    Kept m o (State.renewHost v0 v1) := by
  unfold State.renewHost
  split
  · exact kept_State_addReq (sub hm) (kept_State_dropReq (sub hm) g0)
  · exact kept_State_addReq (sub hm) (kept_State_dropReq (sub hm) g0)
  · exact kept_State_addReq (sub hm) (kept_State_dropReq (sub hm) g0)
  · exact g0

theorem kept_State_withdraw {v0 : State} {v1 : List (Nat × Nat)} {v2 : Nat} {v3 : Nat} {v4 : Option (Nat × Nat)} {v5 : Option (Nat × Nat × Nat)} (hm : m &&& 140738530 = 0) (g0 : Kept m o v0) :
    Kept m o (State.withdraw v0 v1 v2 v3 v4 v5) := by
  unfold State.withdraw
  extract_lets +onlyGivenNames -merge -underBinder x0
  clear_value x0
  extract_lets +onlyGivenNames -merge -underBinder x1
  have h2 : Kept m o x1 := by
    unfold x1
    refine foldlKept ?_ ?_
    · intro a3 a4 a5
      exact kept_State_dropLook (sub hm) a5
    · exact g0
  clear_value x1
  extract_lets +onlyGivenNames -merge -underBinder x6
  have h7 : Kept m o x6 := by
    unfold x6
    refine keptIte ?_ ?_
    · exact keptUpd hm (s := v0) (by constructor <;> first | exact .inl rfl | exact .inr rfl) rfl rfl rfl g0
    · refine foldlKept ?_ ?_
      · intro a8 a9 a10
        split
        · exact keptIte (kept_State_killCmd (sub hm) a10) a10
        · exact keptIte (kept_State_killOwner (sub hm) a10) a10
        · exact a10
      · exact h2
  clear_value x6
  extract_lets +onlyGivenNames -merge -underBinder x11
  have h12 : Kept m o x11 := by
    unfold x11
    refine foldlKept ?_ ?_
    · intro a13 a14 a15
      exact kept_State_renewHost (sub hm) a15
    · exact h7
  clear_value x11
  exact keptUpd hm (s := x11) (by constructor <;> first | exact .inl rfl | exact .inr rfl) rfl rfl rfl h12

theorem kept_execAtsInvalidate {v0 : Func} {v1 : Fin 32} {v2 : Option Pasid} {v3 : Nat} {v4 : Nat} {v5 : State} (hm : m &&& 140738530 = 0) (g5 : Kept m o v5) :
    ∀ s', (execAtsInvalidate v0 v1 v2 v3 v4 v5) = .next s' → Kept m o s' := by
  unfold execAtsInvalidate
  refine keptNext (kept_State_work (sub hm) ?_ ?_)
  · exact g5
  · intro a0 a1
    exact keptIte (kept_State_withdraw (sub hm) (kept_State_bump (sub hm) a1)) a1

theorem kept_execWithdrawalComplete {v0 : Nat} {v1 : State} (hm : m &&& 5154 = 0) (g1 : Kept m o v1) :
    ∀ s', (execWithdrawalComplete v0 v1) = .next s' → Kept m o s' := by
  unfold execWithdrawalComplete
  refine keptNext (kept_State_work (sub hm) ?_ ?_)
  · exact g1
  · intro a0 a1
    split
    · extract_lets +onlyGivenNames -merge -underBinder x2 x3
      clear_value x2 x3
      refine keptIte ?_ ?_
      · exact a1
      · extract_lets +onlyGivenNames -merge -underBinder x4
        clear_value x4
        extract_lets +onlyGivenNames -merge -underBinder x5
        have h6 : Kept m o x5 := by
          unfold x5
          exact kept_State_passSeq (sub hm) (keptUpd hm (s := a0) (by constructor <;> first | exact .inl rfl | exact .inr rfl) rfl rfl rfl a1)
        clear_value x5
        extract_lets +onlyGivenNames -merge -underBinder x7
        have h8 : Kept m o x7 := by
          unfold x7
          split
          · exact kept_State_emit (sub hm) h6
          · exact h6
        clear_value x7
        split
        · exact kept_State_endFlight (sub hm) h8
        · exact h8
    · exact a1

theorem kept_commitCmd {v0 : Cmd} {v1 : State} (hm : m &&& 140738544 = 0) (g1 : Kept m o v1) :
    Kept m o (commitCmd v0 v1) := by
  unfold commitCmd
  split
  · rename_i y0 y1
    exact kept_State_noteActivity (sub hm) (kept_State_endCmd (sub hm) (keptPair2 y1 (kept_State_commitOwner (sub hm) g1)))
  · rename_i y2 y3
    exact kept_State_noteActivity (sub hm) (kept_State_endCmd (sub hm) (keptPair2 y3 (kept_State_commitOwner (sub hm) g1)))

theorem kept_execCommitByRemap {v0 : CabId} {v1 : Nat} {v2 : State} (hm : m &&& 140738544 = 0) (g2 : Kept m o v2) :
    ∀ s', (execCommitByRemap v0 v1 v2) = .next s' → Kept m o s' := by
  unfold execCommitByRemap
  refine keptNext (kept_State_work (sub hm) ?_ ?_)
  · exact g2
  · intro a0 a1
    split
    · exact keptIte (kept_commitCmd (sub hm) a1) a1
    · exact a1

theorem kept_execShadowStallResume {v0 : Nat} {v1 : State} (hm : m &&& 140738546 = 0) (g1 : Kept m o v1) :
    ∀ s', (execShadowStallResume v0 v1) = .next s' → Kept m o s' := by
  unfold execShadowStallResume
  refine keptNext (kept_State_work (sub hm) ?_ ?_)
  · exact g1
  · intro a0 a1
    split
    · exact keptIte (kept_releaseReq (sub hm) a1) a1
    · exact a1

theorem kept_shadowExpiry {v0 : Nat} {v1 : State} (hm : m &&& 140738530 = 0) (g1 : Kept m o v1) :
    Kept m o (shadowExpiry v0 v1) := by
  unfold shadowExpiry
  extract_lets +onlyGivenNames -merge -underBinder x0
  clear_value x0
  refine keptIte ?_ ?_
  · extract_lets +onlyGivenNames -merge -underBinder x1
    have h2 : ∀ a0, Kept m o a0 → Kept m o (x1 a0) := by
      intro a3 a4
      unfold x1
      extract_lets +onlyGivenNames -merge -underBinder x5
      clear_value x5
      exact keptUpd hm (s := a3) (by constructor <;> first | exact .inl rfl | exact .inr rfl) rfl rfl rfl a4
    clear_value x1
    split
    · exact h2 _ (kept_State_bump (sub hm) (kept_State_killCmd (sub hm) g1))
    · exact h2 _ (kept_State_bump (sub hm) (kept_State_killDce (sub hm) g1))
    · exact keptIte (h2 _ (kept_State_bump (sub hm) (kept_State_killDce (sub hm) g1))) (h2 _ (kept_State_bump (sub hm) (kept_State_killCmd (sub hm) g1)))
    · exact g1
  · exact g1

theorem kept_execShadowWaitExpiry {v0 : CabId} {v1 : State} (hm : m &&& 140738530 = 0) (g1 : Kept m o v1) :
    ∀ s', (execShadowWaitExpiry v0 v1) = .next s' → Kept m o s' := by
  unfold execShadowWaitExpiry
  refine keptNext (kept_State_work (sub hm) ?_ ?_)
  · exact g1
  · intro a0 a1
    exact kept_shadowExpiry (sub hm) a1

theorem kept_endJobs {v0 : State} (hm : m &&& 5152 = 0) (g0 : Kept m o v0) :
    Kept m o (endJobs v0) := by
  unfold endJobs
  extract_lets +onlyGivenNames -merge -underBinder x0 x1
  clear_value x0 x1
  extract_lets +onlyGivenNames -merge -underBinder x2
  have h3 : Kept m o x2 := by
    unfold x2
    exact keptUpd hm (s := v0) (by constructor <;> first | exact .inl rfl | exact .inr rfl) rfl rfl rfl g0
  clear_value x2
  refine foldlKept ?_ ?_
  · intro a4 a5 a6
    split
    · split
      · exact kept_State_endFlight (sub hm) a6
      · exact kept_State_endFlight (sub hm) a6
    · exact a6
  · exact h3

theorem kept_settleTake {v0 : Nat} {v1 : Nat} {v2 : State} (hm : m &&& 134438896 = 0) (g2 : Kept m o v2) :
    Kept m o (settleTake v0 v1 v2) := by
  unfold settleTake
  extract_lets +onlyGivenNames -merge -underBinder x0
  clear_value x0
  refine keptIte ?_ ?_
  · exact kept_endJobs (sub hm) (keptUpd hm (s := v2) (by constructor <;> first | exact .inl rfl | exact .inr rfl) rfl rfl rfl g2)
  · refine keptIte ?_ ?_
    · split
      · rename_i y1 y2
        exact kept_endJobs (sub hm) (keptUpd hm (s := y1) (by constructor <;> first | exact .inl rfl | exact .inr rfl) rfl rfl rfl (keptPair2 y2 (kept_State_settleGran (sub hm) g2)))
      · rename_i y3 y4
        exact keptPair2 y4 (kept_State_settleGran (sub hm) g2)
    · exact g2

theorem kept_settleOne {v0 : Nat} {v1 : Nat} {v2 : State} (hm : m &&& 134447088 = 0) (g2 : Kept m o v2) :
    Kept m o (settleOne v0 v1 v2) := by
  unfold settleOne
  exact kept_State_renewWaits (sub hm) (kept_settleTake (sub hm) g2)

theorem kept_execSettleGranule {v0 : CabId} {v1 : Nat} {v2 : State} (hm : m &&& 134447088 = 0) (g2 : Kept m o v2) :
    ∀ s', (execSettleGranule v0 v1 v2) = .next s' → Kept m o s' := by
  unfold execSettleGranule
  refine keptNext (kept_State_work (sub hm) ?_ ?_)
  · exact g2
  · intro a0 a1
    exact kept_settleOne (sub hm) a1

theorem kept_State_done {v0 : State} {v1 : Flight} (hm : m &&& 1056 = 0) (g0 : Kept m o v0) :
    Kept m o (State.done v0 v1) := by
  unfold State.done
  exact kept_State_endFlight (sub hm) g0

theorem kept_pagesFrom {v0 : Asker} {v1 : Nat} {v2 : Nat} {v3 : Nat} {v4 : Nat} {v5 : State} (hm : m &&& 4130 = 0) (g5 : Kept m o v5) :
    Kept m o (pagesFrom v0 v1 v2 v3 v4 v5).2 := by
  induction v3 generalizing v0 v1 v2 v4 v5
  · unfold pagesFrom
    exact g5
  · rename_i ih
    unfold pagesFrom
    refine keptIte2 ?_ ?_
    · exact g5
    · split
      · rename_i y0 y1
        dsimp only [id]
        exact keptPair2 y1 (kept_State_xlate (sub hm) g5)
      · rename_i y2 y3
        dsimp only [id]
        exact keptPair2 y3 (kept_State_xlate (sub hm) g5)
      · rename_i y4 y5
        apply ih
        exact keptPair2 y5 (kept_State_xlate (sub hm) g5)

theorem kept_adviseWillneed {v0 : Flight} {v1 : State} (hm : m &&& 5154 = 0) (g1 : Kept m o v1) :
    Kept m o (adviseWillneed v0 v1) := by
  unfold adviseWillneed
  extract_lets +onlyGivenNames -merge -underBinder x0
  clear_value x0
  split
  · rename_i y1 y2
    exact kept_State_done (sub hm) (keptPair2 y2 (kept_pagesFrom (sub hm) g1))
  · rename_i y3 y4
    exact kept_State_updFlight (sub hm) (keptPair2 y4 (kept_pagesFrom (sub hm) g1))
  · rename_i y5 y6
    exact kept_State_endFlight (sub hm) (keptPair2 y6 (kept_pagesFrom (sub hm) g1))

theorem kept_execAdviseWillneed {v0 : CabId} {v1 : DrawerId} {v2 : Seq} {v3 : State} (hm : m &&& 5154 = 0) (g3 : Kept m o v3) :
    ∀ s', (execAdviseWillneed v0 v1 v2 v3) = .next s' → Kept m o s' := by
  unfold execAdviseWillneed
  refine keptNext (kept_State_work (sub hm) ?_ ?_)
  · exact g3
  · intro a0 a1
    split
    · exact kept_adviseWillneed (sub hm) a1
    · exact a1

theorem kept_execAdviseDontneed {v0 : CabId} {v1 : DrawerId} {v2 : Seq} {v3 : State} (hm : m &&& 5152 = 0) (g3 : Kept m o v3) :
    ∀ s', (execAdviseDontneed v0 v1 v2 v3) = .next s' → Kept m o s' := by
  unfold execAdviseDontneed
  refine keptNext (kept_State_work (sub hm) ?_ ?_)
  · exact g3
  · intro a0 a1
    split
    · extract_lets +onlyGivenNames -merge -underBinder x2
      clear_value x2
      exact kept_State_done (sub hm) (kept_State_dropLook (sub hm) a1)
    · exact a1

theorem kept_reachedGrans {v0 : Nat} {v1 : Nat} {v2 : Nat} {v3 : Nat} {v4 : Nat} {v5 : Nat} {v6 : State} (hm : m &&& 134438896 = 0) (g6 : Kept m o v6) :
    Kept m o (reachedGrans v0 v1 v2 v3 v4 v5 v6).2 := by
  induction v4 generalizing v0 v1 v2 v3 v5 v6
  · unfold reachedGrans
    exact g6
  · rename_i ih
    unfold reachedGrans
    extract_lets +onlyGivenNames -merge -underBinder x0
    have h1 : ∀ a0 a1, Kept m o a1 → Kept m o (x0 a0 a1).2 := by
      intro a2 a3 a4
      unfold x0
      split
      · rename_i y5 y6
        dsimp only [id]
        refine keptPair2 y6 ?_
        apply ih
        exact a4
      · apply ih
        exact a4
    clear_value x0
    split
    · exact h1 _ _ g6
    · split
      · rename_i y7 y8
        exact h1 _ _ (keptPair2 y8 (kept_State_walk (sub hm) g6))
      · rename_i y9 y10
        exact h1 _ _ (keptPair2 y10 (kept_State_walk (sub hm) g6))
      · rename_i y11 y12
        dsimp only [id]
        exact kept_State_bump (sub hm) (keptPair2 y12 (kept_State_walk (sub hm) g6))
      · rename_i y13 y14
        dsimp only [id]
        exact keptPair2 y14 (kept_State_walk (sub hm) g6)

theorem kept_adviseSettle {v0 : Flight} {v1 : State} (hm : m &&& 134438896 = 0) (g1 : Kept m o v1) :
    Kept m o (adviseSettle v0 v1) := by
  unfold adviseSettle
  extract_lets +onlyGivenNames -merge -underBinder x0
  clear_value x0
  refine keptIte ?_ ?_
  · exact g1
  · split
    · rename_i y1 y2
      exact kept_State_endFlight (sub hm) (keptPair2 y2 (kept_reachedGrans (sub hm) g1))
    · rename_i y3 y4
      extract_lets +onlyGivenNames -merge -underBinder x5
      clear_value x5
      refine keptIte ?_ ?_
      · exact kept_State_done (sub hm) (keptPair2 y4 (kept_reachedGrans (sub hm) g1))
      · extract_lets +onlyGivenNames -merge -underBinder x6
        have h7 : Kept m o x6 := by
          unfold x6
          exact kept_State_startFlight (sub hm) (keptPair2 y4 (kept_reachedGrans (sub hm) g1))
        clear_value x6
        exact keptUpd hm (s := x6) (by constructor <;> first | exact .inl rfl | exact .inr rfl) rfl rfl rfl h7

theorem kept_execAdviseSettle {v0 : CabId} {v1 : DrawerId} {v2 : Seq} {v3 : State} (hm : m &&& 134438896 = 0) (g3 : Kept m o v3) :
    ∀ s', (execAdviseSettle v0 v1 v2 v3) = .next s' → Kept m o s' := by
  unfold execAdviseSettle
  refine keptNext (kept_State_work (sub hm) ?_ ?_)
  · exact g3
  · intro a0 a1
    split
    · exact kept_adviseSettle (sub hm) a1
    · exact a1

theorem kept_execAdviseInvalidate {v0 : CabId} {v1 : DrawerId} {v2 : Seq} {v3 : State} (hm : m &&& 140738530 = 0) (g3 : Kept m o v3) :
    ∀ s', (execAdviseInvalidate v0 v1 v2 v3) = .next s' → Kept m o s' := by
  unfold execAdviseInvalidate
  refine keptNext (kept_State_work (sub hm) ?_ ?_)
  · exact g3
  · intro a0 a1
    split
    · extract_lets +onlyGivenNames -merge -underBinder x2
      clear_value x2
      refine keptIte ?_ ?_
      · exact kept_State_done (sub hm) a1
      · extract_lets +onlyGivenNames -merge -underBinder x3
        clear_value x3
        exact kept_State_withdraw (sub hm) (kept_State_startFlight (sub hm) a1)
    · exact a1

end Sys2Proof.Machine
end

