-- ==== Sys2Proof/Laws/KeptBatcher.lean ====
section
/-! SUPPORT. For each operation of Machine/Batcher.lean, and for each command meaning there: the fields of State it
    never changes (the bits not set in its mask), and that it keeps what Laws/Kept.lean names. -/

namespace Sys2Proof.Machine
set_option Elab.async false
variable {m : Nat} {o : State}

theorem keptItes {c : Prop} [Decidable c] {s u : Closing} (h : Kept m o s.s) (k : Kept m o u.s) :
    Kept m o (if c then s else u).s := by split <;> assumption

theorem foldlKepts {γ : Type} {g : Closing → γ → Closing} (hg : ∀ s x, Kept m o s.s → Kept m o (g s x).s) {l : List γ} :
    ∀ {s : Closing}, Kept m o s.s → Kept m o (l.foldl g s).s := by
  induction l with
  | nil => exact fun h => h
  | cons x r ih => exact fun h => ih (hg _ _ h)

theorem keptIte1s {α : Type} {c : Prop} [Decidable c] {s u : Closing × α} (h : Kept m o s.1.s) (k : Kept m o u.1.s) :
    Kept m o (if c then s else u).1.s := by split <;> assumption

theorem foldlKept1s {α : Type} {γ : Type} {g : Closing × α → γ → Closing × α} (hg : ∀ s x, Kept m o s.1.s → Kept m o (g s x).1.s) {l : List γ} :
    ∀ {s : Closing × α}, Kept m o s.1.s → Kept m o (l.foldl g s).1.s := by
  induction l with
  | nil => exact fun h => h
  | cons x r ih => exact fun h => ih (hg _ _ h)

theorem kept_State_setSbc {v0 : State} {v1 : Nat} {v2 : SbCab} (hm : m &&& 8388608 = 0) (g0 : Kept m o v0) :
    Kept m o (State.setSbc v0 v1 v2) := by
  unfold State.setSbc
  exact keptUpd hm (s := v0) (by constructor <;> first | exact .inl rfl | exact .inr rfl) rfl rfl rfl g0

theorem kept_State_keepStall {v0 : State} {v1 : State} {v2 : Nat} (hm : m &&& 4130 = 0) (g0 : Kept m o v0) (g1 : Kept m o v1) :
    Kept m o (State.keepStall v0 v1 v2) := by
  unfold State.keepStall
  extract_lets +onlyGivenNames -merge -underBinder x0 x1
  clear_value x0 x1
  extract_lets +onlyGivenNames -merge -underBinder x2
  have h3 : Kept m o x2 := by
    unfold x2
    exact keptUpd hm (s := v0) (by constructor <;> first | exact .inl rfl | exact .inr rfl) rfl rfl rfl g0
  clear_value x2
  exact kept_State_setReg (sub hm) (kept_State_setReg (sub hm) h3)

theorem kept_State_failWaits {v0 : State} {v1 : Nat} (hm : m &&& 8389664 = 0) (g0 : Kept m o v0) :
    Kept m o (State.failWaits v0 v1) := by
  unfold State.failWaits
  extract_lets +onlyGivenNames -merge -underBinder x0
  clear_value x0
  refine foldlKept ?_ ?_
  · intro a1 a2 a3
    exact kept_State_endFlight (sub hm) a3
  · exact kept_State_setSbc (sub hm) g0

theorem kept_sbCfgWrite {v0 : Nat} {v1 : Word} {v2 : State} (hm : m &&& 8389664 = 0) (g2 : Kept m o v2) :
    Kept m o (sbCfgWrite v0 v1 v2) := by
  unfold sbCfgWrite
  extract_lets +onlyGivenNames -merge -underBinder x0 x1
  clear_value x0 x1
  extract_lets +onlyGivenNames -merge -underBinder x2
  have h3 : Kept m o x2 := by
    unfold x2
    exact keptIte (kept_State_setReg (sub hm) g2) g2
  clear_value x2
  refine keptIte ?_ ?_
  · refine keptIte ?_ ?_
    · extract_lets +onlyGivenNames -merge -underBinder x4
      clear_value x4
      exact keptIte (kept_State_setSbc (sub hm) (kept_State_setRfld (sub hm) h3)) (kept_State_setSbc (sub hm) h3)
    · exact kept_State_setSbc (sub hm) (kept_State_setRfld (sub hm) h3)
  · exact keptIte h3 (kept_State_failWaits (sub hm) (kept_State_setSbc (sub hm) (kept_State_setRfld (sub hm) h3)))

theorem kept_execSbEnable {v0 : Func} {v1 : CabId} {v2 : Word} {v3 : State} (hm : m &&& 160681954 = 0) (g3 : Kept m o v3) :
    ∀ s', (execSbEnable v0 v1 v2 v3) = .next s' → Kept m o s' := by
  unfold execSbEnable
  refine keptNext (kept_State_platform (sub hm) ?_ ?_)
  · exact g3
  · intro a0 a1
    exact kept_sbCfgWrite (sub hm) a1

theorem kept_execSbDisable {v0 : Func} {v1 : CabId} {v2 : Word} {v3 : State} (hm : m &&& 160681954 = 0) (g3 : Kept m o v3) :
    ∀ s', (execSbDisable v0 v1 v2 v3) = .next s' → Kept m o s' := by
  unfold execSbDisable
  refine keptNext (kept_State_platform (sub hm) ?_ ?_)
  · exact g3
  · intro a0 a1
    exact kept_sbCfgWrite (sub hm) a1

theorem kept_readHeaders {v0 : Flight} {v1 : List Nat} {v2 : State} (hm : m &&& 134438898 = 0) (g2 : Kept m o v2) :
    Kept m o (readHeaders v0 v1 v2).2 := by
  induction v1 generalizing v0 v2
  · unfold readHeaders
    exact g2
  · rename_i ih
    unfold readHeaders
    split
    · rename_i y0 y1
      dsimp only [id]
      exact keptPair2 y1 (kept_State_vaRead (sub hm) g2)
    · rename_i y2 y3
      dsimp only [id]
      exact keptPair2 y3 (kept_State_vaRead (sub hm) g2)
    · rename_i y4 y5
      split
      · rename_i y6 y7
        dsimp only [id]
        refine keptPair2 y7 ?_
        apply ih
        exact keptPair2 y5 (kept_State_vaRead (sub hm) g2)
      · apply ih
        exact keptPair2 y5 (kept_State_vaRead (sub hm) g2)

theorem kept_readLayers {v0 : Flight} {v1 : SbGroup} {v2 : Nat} {v3 : State} (hm : m &&& 134438898 = 0) (g3 : Kept m o v3) :
    Kept m o (readLayers v0 v1 v2 v3).2 := by
  unfold readLayers
  split
  · rename_i y0 y1
    dsimp only [id]
    exact keptPair2 y1 (kept_State_vaRead (sub hm) g3)
  · rename_i y2 y3
    dsimp only [id]
    exact keptPair2 y3 (kept_State_vaRead (sub hm) g3)
  · rename_i y4 y5
    extract_lets +onlyGivenNames -merge -underBinder x6
    clear_value x6
    split
    · dsimp only [id]
      exact keptPair2 y5 (kept_State_vaRead (sub hm) g3)
    · extract_lets +onlyGivenNames -merge -underBinder x7
      clear_value x7
      split
      · refine keptIte2 ?_ ?_
        · dsimp only [id]
          exact keptPair2 y5 (kept_State_vaRead (sub hm) g3)
        · dsimp only [id]
          exact keptPair2 y5 (kept_State_vaRead (sub hm) g3)
      · dsimp only [id]
        exact keptPair2 y5 (kept_State_vaRead (sub hm) g3)

theorem kept_readAllLayers {v0 : Flight} {v1 : List (SbGroup × Nat)} {v2 : State} (hm : m &&& 134438898 = 0) (g2 : Kept m o v2) :
    Kept m o (readAllLayers v0 v1 v2).2 := by
  induction v1 generalizing v0 v2
  · unfold readAllLayers
    exact g2
  · rename_i ih
    unfold readAllLayers
    split
    · rename_i y0 y1
      split
      · rename_i y2 y3
        dsimp only [id]
        refine keptPair2 y3 ?_
        apply ih
        exact keptPair2 y1 (kept_readLayers (sub hm) g2)
      · apply ih
        exact keptPair2 y1 (kept_readLayers (sub hm) g2)
    · rename_i y4 y5
      dsimp only [id]
      exact keptPair2 y5 (kept_readLayers (sub hm) g2)
    · rename_i y6 y7
      dsimp only [id]
      exact keptPair2 y7 (kept_readLayers (sub hm) g2)

theorem kept_requestCheck {v0 : Flight} {v1 : State} (hm : m &&& 134438898 = 0) (g1 : Kept m o v1) :
    Kept m o (requestCheck v0 v1).2 := by
  unfold requestCheck
  extract_lets +onlyGivenNames -merge -underBinder x0 x1
  clear_value x0 x1
  refine keptIte2 ?_ ?_
  · exact g1
  · split
    · rename_i y2 y3
      dsimp only [id]
      exact keptPair2 y3 (kept_readHeaders (sub hm) g1)
    · rename_i y4 y5
      dsimp only [id]
      exact keptPair2 y5 (kept_readHeaders (sub hm) g1)
    · rename_i y6 y7
      refine keptIte2 ?_ ?_
      · dsimp only [id]
        exact kept_State_bump (sub hm) (keptPair2 y7 (kept_readHeaders (sub hm) g1))
      · refine keptIte2 ?_ ?_
        · dsimp only [id]
          exact keptPair2 y7 (kept_readHeaders (sub hm) g1)
        · extract_lets +onlyGivenNames -merge -underBinder x8 x9
          clear_value x8 x9
          refine keptIte2 ?_ ?_
          · dsimp only [id]
            exact keptPair2 y7 (kept_readHeaders (sub hm) g1)
          · refine keptIte2 ?_ ?_
            · dsimp only [id]
              exact keptPair2 y7 (kept_readHeaders (sub hm) g1)
            · refine keptIte2 ?_ ?_
              · dsimp only [id]
                exact keptPair2 y7 (kept_readHeaders (sub hm) g1)
              · exact kept_readAllLayers (sub hm) (keptPair2 y7 (kept_readHeaders (sub hm) g1))

theorem kept_State_writeRq {v0 : State} {v1 : Nat} {v2 : Nat} (hm : m &&& 134438896 = 0) (g0 : Kept m o v0) :
    Kept m o (State.writeRq v0 v1 v2) := by
  unfold State.writeRq
  extract_lets +onlyGivenNames -merge -underBinder x0
  clear_value x0
  exact kept_State_devWrite (sub hm) (keptUpd hm (s := v0) (by constructor <;> first | exact .inl rfl | exact .inr rfl) rfl rfl rfl g0)

theorem kept_State_passRq {v0 : State} {v1 : Nat} {v2 : List SbReq} (hm : m &&& 134438896 = 0) (g0 : Kept m o v0) :
    Kept m o (State.passRq v0 v1 v2) := by
  unfold State.passRq
  refine foldlKept ?_ ?_
  · intro a0 a1 a2
    exact kept_State_writeRq (sub hm) (kept_State_devRead (sub hm) a2)
  · exact g0

theorem kept_State_admitRequest {v0 : State} {v1 : Flight} {v2 : List SbGroup} (hm : m &&& 160653298 = 0) (g0 : Kept m o v0) :
    Kept m o (State.admitRequest v0 v1 v2) := by
  unfold State.admitRequest
  extract_lets +onlyGivenNames -merge -underBinder x0 x1 x2 x3 x4 x5 x6
  clear_value x0 x1 x2 x3 x4 x5 x6
  exact kept_State_wakeCab (sub hm) (kept_State_startFlight (sub hm) (kept_State_writeRq (sub hm) (kept_State_setSbc (sub hm) g0)))

theorem kept_requestGo {v0 : Flight} {v1 : State} (hm : m &&& 160653298 = 0) (g1 : Kept m o v1) :
    Kept m o (requestGo v0 v1) := by
  unfold requestGo
  split
  · rename_i y0 y1
    exact kept_State_keepStall (sub hm) g1 (keptPair2 y1 (kept_requestCheck (sub hm) g1))
  · rename_i y2 y3
    extract_lets +onlyGivenNames -merge -underBinder x4
    clear_value x4
    exact kept_State_endFlight (sub hm) (kept_State_setSbc (sub hm) (keptPair2 y3 (kept_requestCheck (sub hm) g1)))
  · rename_i y5 y6
    refine keptIte ?_ ?_
    · exact kept_State_admitRequest (sub hm) (keptPair2 y6 (kept_requestCheck (sub hm) g1))
    · extract_lets +onlyGivenNames -merge -underBinder x7 x8 x9
      clear_value x7 x8 x9
      extract_lets +onlyGivenNames -merge -underBinder x10
      have h11 : Kept m o x10 := by
        unfold x10
        exact kept_State_setSbc (sub hm) (keptPair2 y6 (kept_requestCheck (sub hm) g1))
      clear_value x10
      exact keptIte h11 (kept_State_bump (sub hm) h11)

theorem kept_execRequestDesc {v0 : CabId} {v1 : DrawerId} {v2 : Seq} {v3 : State} (hm : m &&& 160653298 = 0) (g3 : Kept m o v3) :
    ∀ s', (execRequestDesc v0 v1 v2 v3) = .next s' → Kept m o s' := by
  unfold execRequestDesc
  refine keptNext (kept_State_work (sub hm) ?_ ?_)
  · exact g3
  · intro a0 a1
    split
    · exact keptIte a1 (kept_requestGo (sub hm) a1)
    · exact a1

theorem kept_admissionPass {v0 : Nat} {v1 : Nat} {v2 : Nat} {v3 : State} (hm : m &&& 160653298 = 0) (g3 : Kept m o v3) :
    Kept m o (admissionPass v0 v1 v2 v3) := by
  unfold admissionPass
  extract_lets +onlyGivenNames -merge -underBinder x0
  clear_value x0
  split
  · exact keptIte g3 (keptIte (kept_requestGo (sub hm) g3) (kept_State_admitRequest (sub hm) g3))
  · exact g3

theorem kept_execAdmissionPass {v0 : CabId} {v1 : DrawerId} {v2 : Seq} {v3 : State} (hm : m &&& 160653298 = 0) (g3 : Kept m o v3) :
    ∀ s', (execAdmissionPass v0 v1 v2 v3) = .next s' → Kept m o s' := by
  unfold execAdmissionPass
  refine keptNext (kept_State_work (sub hm) ?_ ?_)
  · exact g3
  · intro a0 a1
    exact kept_admissionPass (sub hm) a1

theorem kept_Closing_finish {v0 : Closing} {v1 : SbReq} {v2 : Ending} (hm : m &&& 0 = 0) (g0 : Kept m o v0.s) :
    Kept m o (Closing.finish v0 v1 v2).s := by
  unfold Closing.finish
  exact g0

theorem kept_Closing_put {v0 : Closing} {v1 : SbReq} (hm : m &&& 0 = 0) (g0 : Kept m o v0.s) :
    Kept m o (Closing.put v0 v1).s := by
  unfold Closing.put
  exact g0

theorem kept_readTokens {v0 : Nat} {v1 : SbGroup} {v2 : List (Nat × SbRow)} {v3 : State} (hm : m &&& 134438898 = 0) (g3 : Kept m o v3) :
    Kept m o (readTokens v0 v1 v2 v3).2 := by
  induction v2 generalizing v0 v1 v3
  · unfold readTokens
    exact g3
  · rename_i ih
    unfold readTokens
    split
    · rename_i y0 y1
      dsimp only [id]
      exact keptPair2 y1 (kept_State_vaRead (sub hm) g3)
    · rename_i y2 y3
      dsimp only [id]
      exact keptPair2 y3 (kept_State_vaRead (sub hm) g3)
    · rename_i y4 y5
      split
      · rename_i y6 y7
        dsimp only [id]
        refine keptPair2 y7 ?_
        apply ih
        exact keptPair2 y5 (kept_State_vaRead (sub hm) g3)
      · apply ih
        exact keptPair2 y5 (kept_State_vaRead (sub hm) g3)

theorem kept_takeRow {v0 : Nat} {v1 : SbRow} {v2 : Option Nat} {v3 : Closing} (hm : m &&& 134438898 = 0) (g3 : Kept m o v3.s) :
    Kept m o (takeRow v0 v1 v2 v3).s := by
  unfold takeRow
  split
  · exact g3
  · refine keptItes ?_ ?_
    · exact g3
    · extract_lets +onlyGivenNames -merge -underBinder x0
      clear_value x0
      split
      · refine keptItes ?_ ?_
        · refine kept_Closing_finish (sub hm) ?_
          dsimp only [id]
          exact kept_State_bump (sub hm) g3
        · split
          · rename_i y1 y2
            dsimp only [id]
            exact keptPair2 y2 (kept_State_vaWrite (sub hm) g3)
          · rename_i y3 y4
            refine kept_Closing_finish (sub hm) ?_
            dsimp only [id]
            exact keptPair2 y4 (kept_State_vaWrite (sub hm) g3)
          · rename_i y5 y6
            extract_lets +onlyGivenNames -merge -underBinder x7
            clear_value x7
            extract_lets +onlyGivenNames -merge -underBinder x8
            have h9 : Kept m o x8.s := by
              unfold x8
              refine kept_Closing_put (sub hm) ?_
              dsimp only [id]
              exact keptPair2 y6 (kept_State_vaWrite (sub hm) g3)
            clear_value x8
            exact keptItes (kept_Closing_finish (sub hm) h9) h9
      · exact keptItes (kept_Closing_finish (sub hm) g3) (kept_Closing_put (sub hm) g3)

theorem kept_takeGroup {v0 : Nat} {v1 : Closing} {v2 : SbGroup} (hm : m &&& 134438898 = 0) (g1 : Kept m o v1.s) :
    Kept m o (takeGroup v0 v1 v2).1.s := by
  unfold takeGroup
  split
  · extract_lets +onlyGivenNames -merge -underBinder x0
    clear_value x0
    split
    · rename_i y1 y2
      dsimp only [id]
      exact keptPair2 y2 (kept_readTokens (sub hm) g1)
    · rename_i y3 y4
      dsimp only [id]
      exact keptPair2 y4 (kept_readTokens (sub hm) g1)
    · rename_i y5 y6
      dsimp only [id]
      refine foldlKepts ?_ ?_
      · intro a7 a8 a9
        exact kept_takeRow (sub hm) a9
      · dsimp only [id]
        exact keptPair2 y6 (kept_readTokens (sub hm) g1)
  · exact g1

theorem kept_takeGroups {v0 : Nat} {v1 : List SbGroup} {v2 : Closing} (hm : m &&& 134438898 = 0) (g2 : Kept m o v2.s) :
    Kept m o (takeGroups v0 v1 v2).1.s := by
  induction v1 generalizing v0 v2
  · unfold takeGroups
    exact g2
  · rename_i ih
    unfold takeGroups
    extract_lets +onlyGivenNames -merge -underBinder x0
    have h1 : Kept m o x0.1.s := by
      unfold x0
      exact kept_takeGroup (sub hm) g2
    clear_value x0
    extract_lets +onlyGivenNames -merge -underBinder x2
    have h3 : Kept m o x2.1.s := by
      unfold x2
      apply ih
      exact h1
    clear_value x2
    exact h3

theorem kept_failGroup {v0 : Closing} {v1 : SbGroup} (hm : m &&& 0 = 0) (g0 : Kept m o v0.s) :
    Kept m o (failGroup v0 v1).s := by
  unfold failGroup
  split
  · refine foldlKepts ?_ ?_
    · intro a0 a1 a2
      split
      · exact kept_Closing_finish (sub hm) a2
      · exact a2
    · exact g0
  · exact g0

theorem kept_costGroup {v0 : Nat} {v1 : Closing} {v2 : SbGroup} (hm : m &&& 134438898 = 0) (g1 : Kept m o v1.s) :
    Kept m o (costGroup v0 v1 v2).1.s := by
  unfold costGroup
  refine keptIte1s ?_ ?_
  · exact g1
  · extract_lets +onlyGivenNames -merge -underBinder x0
    clear_value x0
    refine keptIte1s ?_ ?_
    · exact g1
    · split
      · rename_i y1 y2
        dsimp only [id]
        exact keptPair2 y2 (kept_State_vaWrite (sub hm) g1)
      · rename_i y3 y4
        dsimp only [id]
        exact keptPair2 y4 (kept_State_vaWrite (sub hm) g1)
      · rename_i y5 y6
        dsimp only [id]
        exact kept_State_bump (sub hm) (keptPair2 y6 (kept_State_vaWrite (sub hm) g1))

theorem kept_costGroups {v0 : Nat} {v1 : List SbGroup} {v2 : Closing} (hm : m &&& 134438898 = 0) (g2 : Kept m o v2.s) :
    Kept m o (costGroups v0 v1 v2).1.s := by
  induction v1 generalizing v0 v2
  · unfold costGroups
    exact g2
  · rename_i ih
    unfold costGroups
    extract_lets +onlyGivenNames -merge -underBinder x0
    have h1 : Kept m o x0.1.s := by
      unfold x0
      exact kept_costGroup (sub hm) g2
    clear_value x0
    extract_lets +onlyGivenNames -merge -underBinder x2
    have h3 : Kept m o x2.1.s := by
      unfold x2
      apply ih
      exact h1
    clear_value x2
    exact h3

theorem kept_progressOne {v0 : Nat} {v1 : List SbReq} {v2 : Closing} {v3 : SbReq} (hm : m &&& 134438898 = 0) (g2 : Kept m o v2.s) :
    Kept m o (progressOne v0 v1 v2 v3).s := by
  unfold progressOne
  refine keptItes ?_ ?_
  · exact g2
  · split
    · rename_i y0 y1
      dsimp only [id]
      exact keptPair2 y1 (kept_State_signalFence (sub hm) g2)
    · rename_i y2 y3
      dsimp only [id]
      exact keptPair2 y3 (kept_State_signalFence (sub hm) g2)
    · rename_i y4 y5
      extract_lets +onlyGivenNames -merge -underBinder x6
      have h7 : Kept m o x6.s := by
        unfold x6
        dsimp only [id]
        exact keptPair2 y5 (kept_State_signalFence (sub hm) g2)
      clear_value x6
      exact keptItes (kept_Closing_finish (sub hm) h7) h7

theorem kept_cancelOne {v0 : Nat} {v1 : Closing} {v2 : SbReq} (hm : m &&& 134438898 = 0) (g1 : Kept m o v1.s) :
    Kept m o (cancelOne v0 v1 v2).s := by
  unfold cancelOne
  refine keptItes ?_ ?_
  · exact g1
  · split
    · rename_i y0 y1
      dsimp only [id]
      exact keptPair2 y1 (kept_State_vaRead (sub hm) g1)
    · rename_i y2 y3
      refine kept_Closing_finish (sub hm) ?_
      dsimp only [id]
      exact keptPair2 y3 (kept_State_vaRead (sub hm) g1)
    · rename_i y4 y5
      refine keptItes ?_ ?_
      · dsimp only [id]
        exact keptPair2 y5 (kept_State_vaRead (sub hm) g1)
      · refine kept_Closing_finish (sub hm) ?_
        dsimp only [id]
        exact kept_State_bump (sub hm) (keptPair2 y5 (kept_State_vaRead (sub hm) g1))

theorem kept_endRequest {v0 : Nat} {v1 : State} {v2 : SbReq × Ending} (hm : m &&& 1568 = 0) (g1 : Kept m o v1) :
    Kept m o (endRequest v0 v1 v2) := by
  unfold endRequest
  extract_lets +onlyGivenNames -merge -underBinder x0 x1 x2
  clear_value x0 x1 x2
  extract_lets +onlyGivenNames -merge -underBinder x3
  have h4 : Kept m o x3 := by
    unfold x3
    exact keptIte (kept_State_setCab (sub hm) g1) (keptIte g1 (kept_State_bump (sub hm) g1))
  clear_value x3
  exact kept_State_endFlight (sub hm) h4

theorem kept_closeStep {v0 : Nat} {v1 : SbCab} {v2 : State} (hm : m &&& 134438898 = 0) (g2 : Kept m o v2) :
    Kept m o (closeStep v0 v1 v2).1.s := by
  unfold closeStep
  extract_lets +onlyGivenNames -merge -underBinder x0
  have h1 : Kept m o x0.1.s := by
    unfold x0
    exact kept_takeGroups (sub hm) g2
  clear_value x0
  extract_lets +onlyGivenNames -merge -underBinder x2
  have h3 : Kept m o x2.s := by
    unfold x2
    refine foldlKepts ?_ ?_
    · intro a4 a5 a6
      exact kept_failGroup (sub hm) a6
    · exact h1
  clear_value x2
  extract_lets +onlyGivenNames -merge -underBinder x7
  have h8 : Kept m o x7.1.s := by
    unfold x7
    exact kept_costGroups (sub hm) h3
  clear_value x7
  extract_lets +onlyGivenNames -merge -underBinder x9
  have h10 : Kept m o x9.s := by
    unfold x9
    refine foldlKepts ?_ ?_
    · intro a11 a12 a13
      exact kept_progressOne (sub hm) a13
    · exact h8
  clear_value x9
  extract_lets +onlyGivenNames -merge -underBinder x14
  have h15 : Kept m o x14.s := by
    unfold x14
    refine foldlKepts ?_ ?_
    · intro a16 a17 a18
      exact kept_Closing_finish (sub hm) a18
    · exact h10
  clear_value x14
  extract_lets +onlyGivenNames -merge -underBinder x19
  have h20 : Kept m o x19.s := by
    unfold x19
    refine foldlKepts ?_ ?_
    · intro a21 a22 a23
      exact kept_cancelOne (sub hm) a23
    · exact h15
  clear_value x19
  dsimp only [id]
  refine foldlKept ?_ ?_
  · intro a24 a25 a26
    exact kept_endRequest (sub hm) a26
  · exact h20

theorem kept_formStep {v0 : Nat} {v1 : SbCab} {v2 : State} (hm : m &&& 142827504 = 0) (g2 : Kept m o v2) :
    Kept m o (formStep v0 v1 v2) := by
  unfold formStep
  extract_lets +onlyGivenNames -merge -underBinder x0
  clear_value x0
  refine keptIte ?_ ?_
  · extract_lets +onlyGivenNames -merge -underBinder x1
    clear_value x1
    exact kept_State_setSbc (sub hm) g2
  · extract_lets +onlyGivenNames -merge -underBinder x2 x3 x4 x5 x6 x7 x8
    clear_value x2 x3 x4 x5 x6 x7 x8
    exact kept_State_passRq (sub hm) (kept_State_bump (sub hm) (kept_State_setSbc (sub hm) g2))

theorem kept_openStep {v0 : Nat} {v1 : SbCab} {v2 : State} (hm : m &&& 134438898 = 0) (g2 : Kept m o v2) :
    Kept m o (openStep v0 v1 v2).s := by
  unfold openStep
  extract_lets +onlyGivenNames -merge -underBinder x0
  have h1 : Kept m o x0.s := by
    exact g2
  clear_value x0
  extract_lets +onlyGivenNames -merge -underBinder x2
  have h3 : Kept m o x2.s := by
    unfold x2
    refine foldlKepts ?_ ?_
    · intro a4 a5 a6
      exact kept_Closing_finish (sub hm) a6
    · exact h1
  clear_value x2
  extract_lets +onlyGivenNames -merge -underBinder x7
  have h8 : Kept m o x7.s := by
    unfold x7
    refine keptItes ?_ ?_
    · refine foldlKepts ?_ ?_
      · intro a9 a10 a11
        exact kept_cancelOne (sub hm) a11
      · exact h3
    · exact h3
  clear_value x7
  dsimp only [id]
  refine foldlKept ?_ ?_
  · intro a12 a13 a14
    exact kept_endRequest (sub hm) a14
  · exact h8

theorem kept_stepBoundary {v0 : Nat} {v1 : State} (hm : m &&& 142827506 = 0) (g1 : Kept m o v1) :
    Kept m o (stepBoundary v0 v1) := by
  unfold stepBoundary
  extract_lets +onlyGivenNames -merge -underBinder x0
  clear_value x0
  split
  · refine keptIte ?_ ?_
    · exact g1
    · extract_lets +onlyGivenNames -merge -underBinder x1
      have h2 : Kept m o x1.s := by
        unfold x1
        exact kept_openStep (sub hm) g1
      clear_value x1
      exact keptIte (kept_State_keepStall (sub hm) g1 h2) (kept_formStep (sub hm) h2)
  · refine keptIte ?_ ?_
    · exact g1
    · extract_lets +onlyGivenNames -merge -underBinder x3
      have h4 : Kept m o x3.1.s := by
        unfold x3
        exact kept_closeStep (sub hm) g1
      clear_value x3
      refine keptIte ?_ ?_
      · exact kept_State_keepStall (sub hm) g1 h4
      · extract_lets +onlyGivenNames -merge -underBinder x5 x6
        clear_value x5 x6
        extract_lets +onlyGivenNames -merge -underBinder x7
        have h8 : Kept m o x7 := by
          unfold x7
          exact kept_State_tally (sub hm) (kept_State_trace (sub hm) h4)
        clear_value x7
        extract_lets +onlyGivenNames -merge -underBinder x9 x10
        clear_value x9 x10
        exact keptIte (kept_State_setSbc (sub hm) h8) (kept_formStep (sub hm) h8)
  · exact g1

theorem kept_execStepBoundary {v0 : CabId} {v1 : State} (hm : m &&& 142827506 = 0) (g1 : Kept m o v1) :
    ∀ s', (execStepBoundary v0 v1) = .next s' → Kept m o s' := by
  unfold execStepBoundary
  refine keptNext (kept_State_work (sub hm) ?_ ?_)
  · exact g1
  · intro a0 a1
    exact kept_stepBoundary (sub hm) a1

theorem kept_issueLayer {v0 : Nat} {v1 : SbGroup} {v2 : State} (hm : m &&& 8397824 = 0) (g2 : Kept m o v2) :
    Kept m o (issueLayer v0 v1 v2) := by
  unfold issueLayer
  extract_lets +onlyGivenNames -merge -underBinder x0
  have h1 : ∀ a0 a1, Kept m o a1 → Kept m o (x0 a0 a1) := by
    intro a2 a3 a4
    unfold x0
    exact kept_State_setSbc (sub hm) a4
  clear_value x0
  split
  · exact h1 _ _ g2
  · extract_lets +onlyGivenNames -merge -underBinder x5
    clear_value x5
    split
    · exact h1 _ _ g2
    · refine keptIte ?_ ?_
      · exact h1 _ _ g2
      · extract_lets +onlyGivenNames -merge -underBinder x6
        clear_value x6
        exact h1 _ _ (kept_State_addCmd (sub hm) g2)

theorem kept_writeTables {v0 : Nat} {v1 : Nat} {v2 : Nat} {v3 : Nat} {v4 : List SbGroup} {v5 : State} (hm : m &&& 134438898 = 0) (g5 : Kept m o v5) :
    Kept m o (writeTables v0 v1 v2 v3 v4 v5).2 := by
  induction v4 generalizing v0 v1 v2 v3 v5
  · unfold writeTables
    exact g5
  · rename_i ih
    unfold writeTables
    extract_lets +onlyGivenNames -merge -underBinder x0
    have h1 : Kept m o x0.2 := by
      unfold x0
      refine keptIte2 ?_ ?_
      · exact g5
      · split
        · rename_i y2 y3
          dsimp only [id]
          exact keptPair2 y3 (kept_State_vaWrite (sub hm) g5)
        · rename_i y4 y5
          dsimp only [id]
          exact keptPair2 y5 (kept_State_vaWrite (sub hm) g5)
        · rename_i y6 y7
          dsimp only [id]
          exact keptPair2 y7 (kept_State_vaWrite (sub hm) g5)
    clear_value x0
    split
    · rename_i y8
      split
      · rename_i y9 y10
        dsimp only [id]
        refine keptPair2 y10 ?_
        apply ih
        exact h1
      · apply ih
        exact h1
    · rename_i y11
      exact h1
    · rename_i y12
      exact h1

theorem kept_tablesWritten {v0 : Nat} {v1 : State} (hm : m &&& 142835698 = 0) (g1 : Kept m o v1) :
    Kept m o (tablesWritten v0 v1) := by
  unfold tablesWritten
  extract_lets +onlyGivenNames -merge -underBinder x0
  clear_value x0
  refine keptIte ?_ ?_
  · exact g1
  · split
    · rename_i y1 y2
      extract_lets +onlyGivenNames -merge -underBinder x3
      clear_value x3
      extract_lets +onlyGivenNames -merge -underBinder x4
      have h5 : Kept m o x4 := by
        unfold x4
        exact kept_State_setSbc (sub hm) (keptPair2 y2 (kept_writeTables (sub hm) g1))
      clear_value x4
      refine foldlKept ?_ ?_
      · intro a6 a7 a8
        exact keptIte (kept_State_setSbc (sub hm) a8) (kept_issueLayer (sub hm) a8)
      · exact h5
    · rename_i y9 y10 y11
      exact kept_State_keepStall (sub hm) g1 (keptPair2 y11 (kept_writeTables (sub hm) g1))

theorem kept_execBatchTablesWritten {v0 : CabId} {v1 : State} (hm : m &&& 142835698 = 0) (g1 : Kept m o v1) :
    ∀ s', (execBatchTablesWritten v0 v1) = .next s' → Kept m o s' := by
  unfold execBatchTablesWritten
  refine keptNext (kept_State_work (sub hm) ?_ ?_)
  · exact g1
  · intro a0 a1
    exact kept_tablesWritten (sub hm) a1

theorem kept_layerCommit {v0 : Nat} {v1 : Nat} {v2 : State} (hm : m &&& 8397824 = 0) (g2 : Kept m o v2) :
    Kept m o (layerCommit v0 v1 v2) := by
  unfold layerCommit
  extract_lets +onlyGivenNames -merge -underBinder x0
  clear_value x0
  split
  · split
    · extract_lets +onlyGivenNames -merge -underBinder x1
      have h2 : Kept m o x1 := by
        unfold x1
        exact kept_State_dropCmd (sub hm) g2
      clear_value x1
      refine keptIte ?_ ?_
      · exact kept_State_setSbc (sub hm) h2
      · extract_lets +onlyGivenNames -merge -underBinder x3
        clear_value x3
        exact kept_issueLayer (sub hm) h2
    · exact g2
  · exact g2

theorem kept_execLayerCommit {v0 : CabId} {v1 : Nat} {v2 : State} (hm : m &&& 8397824 = 0) (g2 : Kept m o v2) :
    ∀ s', (execLayerCommit v0 v1 v2) = .next s' → Kept m o s' := by
  unfold execLayerCommit
  refine keptNext (kept_State_work (sub hm) ?_ ?_)
  · exact g2
  · intro a0 a1
    exact kept_layerCommit (sub hm) a1

theorem kept_State_discardStep {v0 : State} {v1 : Nat} (hm : m &&& 149127138 = 0) (g0 : Kept m o v0) :
    Kept m o (State.discardStep v0 v1) := by
  unfold State.discardStep
  extract_lets +onlyGivenNames -merge -underBinder x0
  clear_value x0
  refine keptIte ?_ ?_
  · extract_lets +onlyGivenNames -merge -underBinder x1
    have h2 : Kept m o x1 := by
      unfold x1
      refine foldlKept ?_ ?_
      · intro a3 a4 a5
        extract_lets +onlyGivenNames -merge -underBinder x6
        have h7 : Kept m o x6 := by
          unfold x6
          exact kept_State_updCmd (sub hm) a5
        clear_value x6
        split
        · exact kept_State_dropCmd (sub hm) h7
        · exact kept_State_dropCmd (sub hm) h7
        · exact kept_State_killCmd (sub hm) h7
      · exact g0
    clear_value x1
    exact kept_State_setSbc (sub hm) h2
  · exact keptIte g0 (kept_State_setSbc (sub hm) g0)

end Sys2Proof.Machine
end

