-- ==== Sys2Proof/Laws/KeptDceIn.lean ====
section
/-! SUPPORT. For each operation of Machine/DceIn.lean, and for each command meaning there: the fields of State it
    never changes (the bits not set in its mask), and that it keeps what Laws/Kept.lean names. -/

namespace Sys2Proof.Machine
set_option Elab.async false
variable {m : Nat} {o : State}

theorem kept_State_consumedOf {v0 : State} {v1 : Landing} (hm : m &&& 134438898 = 0) (g0 : Kept m o v0) :
    Kept m o (State.consumedOf v0 v1).2 := by
  unfold State.consumedOf
  extract_lets +onlyGivenNames -merge -underBinder x0
  clear_value x0
  split
  · rename_i y1 y2
    dsimp only [id]
    exact keptPair2 y2 (kept_State_vaRead (sub hm) g0)
  · rename_i y3 y4
    dsimp only [id]
    exact keptPair2 y4 (kept_State_vaRead (sub hm) g0)
  · rename_i y5 y6
    dsimp only [id]
    exact keptPair2 y6 (kept_State_vaRead (sub hm) g0)

theorem kept_State_arriveBad {v0 : State} {v1 : Landing} (hm : m &&& 136536050 = 0) (g0 : Kept m o v0) :
    Kept m o (State.arriveBad v0 v1).2 := by
  unfold State.arriveBad
  refine keptIte2 ?_ ?_
  · exact g0
  · extract_lets +onlyGivenNames -merge -underBinder x0
    clear_value x0
    split
    · rename_i y1 y2
      refine keptIte2 ?_ ?_
      · dsimp only [id]
        exact kept_State_setLanding (sub hm) (keptPair2 y2 (kept_State_vaRead (sub hm) g0))
      · dsimp only [id]
        exact keptPair2 y2 (kept_State_vaRead (sub hm) g0)
    · rename_i y3 y4
      dsimp only [id]
      exact keptPair2 y4 (kept_State_vaRead (sub hm) g0)
    · rename_i y5 y6
      dsimp only [id]
      exact keptPair2 y6 (kept_State_vaRead (sub hm) g0)

theorem kept_landingRefusal_go {v0 : List Landing} {v1 : State} (hm : m &&& 136536050 = 0) (g1 : Kept m o v1) :
    Kept m o (landingRefusal.go v0 v1).2 := by
  induction v0 generalizing v1
  · unfold landingRefusal.go
    exact g1
  · rename_i ih
    unfold landingRefusal.go
    split
    · rename_i y0 y1
      dsimp only [id]
      exact keptPair2 y1 (kept_State_arriveBad (sub hm) g1)
    · rename_i y2 y3
      dsimp only [id]
      exact keptPair2 y3 (kept_State_arriveBad (sub hm) g1)
    · rename_i y4 y5
      dsimp only [id]
      exact keptPair2 y5 (kept_State_arriveBad (sub hm) g1)
    · rename_i y6 y7
      split
      · rename_i y8 y9
        apply ih
        exact keptPair2 y9 (kept_State_consumedOf (sub hm) (keptPair2 y7 (kept_State_arriveBad (sub hm) g1)))
      · rename_i y10 y11
        dsimp only [id]
        exact keptPair2 y11 (kept_State_consumedOf (sub hm) (keptPair2 y7 (kept_State_arriveBad (sub hm) g1)))
      · rename_i y12 y13
        dsimp only [id]
        exact keptPair2 y13 (kept_State_consumedOf (sub hm) (keptPair2 y7 (kept_State_arriveBad (sub hm) g1)))
      · rename_i y14 y15
        dsimp only [id]
        exact keptPair2 y15 (kept_State_consumedOf (sub hm) (keptPair2 y7 (kept_State_arriveBad (sub hm) g1)))

theorem kept_landingRefusal {v0 : InSet} {v1 : SealInfo} {v2 : State} (hm : m &&& 136536050 = 0) (g2 : Kept m o v2) :
    Kept m o (landingRefusal v0 v1 v2).2 := by
  unfold landingRefusal
  extract_lets +onlyGivenNames -merge -underBinder x0
  clear_value x0
  exact keptIte2 g2 (keptIte2 g2 (kept_landingRefusal_go (sub hm) g2))

theorem kept_setWrites {v0 : InSet} {v1 : Nat} {v2 : List (Nat × List Byte)} {v3 : State} (hm : m &&& 134438898 = 0) (g3 : Kept m o v3) :
    Kept m o (setWrites v0 v1 v2 v3).2 := by
  induction v2 generalizing v0 v1 v3
  · unfold setWrites
    exact g3
  · rename_i ih
    unfold setWrites
    split
    · rename_i y0 y1
      apply ih
      exact keptPair2 y1 (kept_State_shadowVa (sub hm) g3)
    · exact kept_State_shadowVa (sub hm) g3

theorem kept_placeParts {v0 : SealInfo} {v1 : List (SetPart × Nat)} {v2 : InSet} {v3 : State} (hm : m &&& 136536050 = 0) (g3 : Kept m o v3) :
    Kept m o (placeParts v0 v1 v2 v3).2 := by
  induction v1 generalizing v0 v2 v3
  · unfold placeParts
    dsimp only [id]
    exact kept_State_updSet (sub hm) g3
  · rename_i ih
    unfold placeParts
    refine keptIte2 ?_ ?_
    · apply ih
      exact g3
    · split
      · dsimp only [id]
        exact kept_State_updSet (sub hm) g3
      · split
        · rename_i y0 y1
          apply ih
          exact keptPair2 y1 (kept_setWrites (sub hm) g3)
        · rename_i y2 y3 y4
          dsimp only [id]
          exact kept_State_updSet (sub hm) (keptPair2 y4 (kept_setWrites (sub hm) g3))

theorem kept_stageRows {v0 : InSet} {v1 : SealInfo} {v2 : State} (hm : m &&& 140738546 = 0) (g2 : Kept m o v2) :
    Kept m o (stageRows v0 v1 v2) := by
  unfold stageRows
  split
  · rename_i y0 y1
    split
    · exact kept_State_setReply (sub hm) (kept_State_updSet (sub hm) (keptPair2 y1 (kept_placeParts (sub hm) g2)))
    · exact keptPair2 y1 (kept_placeParts (sub hm) g2)
  · rename_i y2 y3
    split
    · exact kept_State_refuseSet (sub hm) (keptPair2 y3 (kept_placeParts (sub hm) g2))
    · exact keptPair2 y3 (kept_placeParts (sub hm) g2)
  · rename_i y4 y5
    exact kept_State_bump (sub hm) (kept_State_killOwner (sub hm) (keptPair2 y5 (kept_placeParts (sub hm) g2)))
  · rename_i y6 y7
    exact keptPair2 y7 (kept_placeParts (sub hm) g2)

theorem kept_State_see {v0 : State} {v1 : Seen} (hm : m &&& 2097152 = 0) (g0 : Kept m o v0) :
    Kept m o (State.see v0 v1) := by
  unfold State.see
  refine keptIte ?_ ?_
  · exact g0
  · extract_lets +onlyGivenNames -merge -underBinder x0
    clear_value x0
    exact keptUpd hm (s := v0) (by constructor <;> first | exact .inl rfl | exact .inr rfl) rfl rfl rfl g0

theorem kept_State_endEpoch {v0 : State} {v1 : Nat} {v2 : Nat} {v3 : Nat} {v4 : Nat} (hm : m &&& 2097152 = 0) (g0 : Kept m o v0) :
    Kept m o (State.endEpoch v0 v1 v2 v3 v4) := by
  unfold State.endEpoch
  exact keptIte g0 (keptUpd hm (s := v0) (by constructor <;> first | exact .inl rfl | exact .inr rfl) rfl rfl rfl g0)

theorem kept_State_admitSet {v0 : State} {v1 : InSet} {v2 : SealInfo} (hm : m &&& 6303776 = 0) (g0 : Kept m o v0) :
    Kept m o (State.admitSet v0 v1 v2).2 := by
  unfold State.admitSet
  extract_lets +onlyGivenNames -merge -underBinder x0
  clear_value x0
  refine keptIte2 ?_ ?_
  · dsimp only [id]
    exact kept_State_bump (sub hm) (kept_State_endEpoch (sub hm) (kept_State_discardSet (sub hm) g0))
  · extract_lets +onlyGivenNames -merge -underBinder x1
    clear_value x1
    extract_lets +onlyGivenNames -merge -underBinder x2
    have h3 : Kept m o x2 := by
      unfold x2
      refine foldlKept ?_ ?_
      · intro a4 a5 a6
        exact kept_State_endEpoch (sub hm) (kept_State_discardSet (sub hm) a6)
      · exact g0
    clear_value x2
    dsimp only [id]
    refine foldlKept ?_ ?_
    · intro a7 a8 a9
      exact kept_State_see (sub hm) a9
    · exact h3

theorem kept_stageSet {v0 : InSet} {v1 : State} (hm : m &&& 140738546 = 0) (g1 : Kept m o v1) :
    Kept m o (stageSet v0 v1) := by
  unfold stageSet
  split
  · exact g1
  · refine keptIte ?_ ?_
    · exact g1
    · refine keptIte ?_ ?_
      · exact kept_stageRows (sub hm) g1
      · split
        · rename_i y0 y1
          exact keptPair2 y1 (kept_State_admitSet (sub hm) g1)
        · rename_i y2 y3
          refine keptIte ?_ ?_
          · split
            · exact kept_State_refuseSet (sub hm) (keptPair2 y3 (kept_State_admitSet (sub hm) g1))
            · exact kept_stageRows (sub hm) (keptPair2 y3 (kept_State_admitSet (sub hm) g1))
          · split
            · rename_i y4 y5
              exact keptPair2 y5 (kept_landingRefusal (sub hm) (keptPair2 y3 (kept_State_admitSet (sub hm) g1)))
            · rename_i y6 y7
              exact kept_State_refuseSet (sub hm) (keptPair2 y7 (kept_landingRefusal (sub hm) (keptPair2 y3 (kept_State_admitSet (sub hm) g1))))
            · rename_i y8 y9
              exact kept_State_refuseSet (sub hm) (keptPair2 y9 (kept_landingRefusal (sub hm) (keptPair2 y3 (kept_State_admitSet (sub hm) g1))))
            · rename_i y10 y11
              exact kept_stageRows (sub hm) (keptPair2 y11 (kept_landingRefusal (sub hm) (keptPair2 y3 (kept_State_admitSet (sub hm) g1))))

theorem kept_State_onSet {v0 : State} {v1 : Nat} {v2 : Packet} {v3 : InSet → InSet} (hm : m &&& 140738546 = 0) (g0 : Kept m o v0) :
    Kept m o (State.onSet v0 v1 v2 v3) := by
  unfold State.onSet
  split
  · extract_lets +onlyGivenNames -merge -underBinder x0
    clear_value x0
    exact kept_stageSet (sub hm) (kept_State_updSet (sub hm) g0)
  · refine keptIte ?_ ?_
    · exact kept_State_bump (sub hm) g0
    · extract_lets +onlyGivenNames -merge -underBinder x1
      clear_value x1
      exact kept_stageSet (sub hm) (keptUpd hm (s := v0) (by constructor <;> first | exact .inl rfl | exact .inr rfl) rfl rfl rfl g0)

theorem kept_State_toDce {v0 : State} {v1 : Option Nat} {v2 : Packet} {v3 : Nat → State → State} (hm : m &&& 152260578 = 0) (g0 : Kept m o v0) (g3 : ∀ a0 a1, Kept m o a1 → Kept m o (v3 a0 a1)) :
    Kept m o (State.toDce v0 v1 v2 v3) := by
  unfold State.toDce
  split
  · rename_i y0 y1
    exact g3 _ _ (keptPair2 y1 (kept_State_arrives (sub hm) g0))
  · rename_i y2 y3
    exact keptPair2 y3 (kept_State_arrives (sub hm) g0)

theorem kept_onSetPacket {v0 : Option Nat} {v1 : Packet} {v2 : State} (hm : m &&& 158564338 = 0) (g2 : Kept m o v2) :
    Kept m o (onSetPacket v0 v1 v2) := by
  unfold onSetPacket
  refine kept_State_toDce (sub hm) ?_ ?_
  · exact g2
  · intro a0 a1 a2
    exact kept_State_onSet (sub hm) a2

theorem kept_onSeal {v0 : Option Nat} {v1 : Packet} {v2 : State} (hm : m &&& 158564338 = 0) (g2 : Kept m o v2) :
    Kept m o (onSeal v0 v1 v2) := by
  unfold onSeal
  refine kept_State_toDce (sub hm) ?_ ?_
  · exact g2
  · intro a0 a1 a2
    exact kept_State_onSet (sub hm) a2

theorem kept_onCommit {v0 : Option Nat} {v1 : Packet} {v2 : State} (hm : m &&& 154357730 = 0) (g2 : Kept m o v2) :
    Kept m o (onCommit v0 v1 v2) := by
  unfold onCommit
  refine kept_State_toDce (sub hm) ?_ ?_
  · exact g2
  · intro a0 a1 a2
    split
    · exact keptIte (kept_State_updSet (sub hm) a2) a2
    · exact kept_State_bump (sub hm) a2

theorem kept_onDiscard {v0 : Option Nat} {v1 : Packet} {v2 : State} (hm : m &&& 158564322 = 0) (g2 : Kept m o v2) :
    Kept m o (onDiscard v0 v1 v2) := by
  unfold onDiscard
  refine kept_State_toDce (sub hm) ?_ ?_
  · exact g2
  · intro a0 a1 a2
    split
    · exact keptIte a2 (kept_State_endEpoch (sub hm) (kept_State_discardSet (sub hm) a2))
    · exact keptIte (kept_State_bump (sub hm) a2) (kept_State_endEpoch (sub hm) a2)

theorem kept_onSetrsp {v0 : Option Nat} {v1 : Packet} {v2 : State} (hm : m &&& 159088626 = 0) (g2 : Kept m o v2) :
    Kept m o (onSetrsp v0 v1 v2) := by
  unfold onSetrsp
  refine kept_State_toDce (sub hm) ?_ ?_
  · exact g2
  · intro a0 a1 a2
    exact kept_setrsp (sub hm) a2

theorem kept_dcePacket {v0 : Option PortId} {v1 : Packet} {v2 : Bool} {v3 : Option Nat → Packet → State → State} {v4 : State} (hm : m &&& 4194336 = 0) (g3 : ∀ a0 a1 a2, Kept m o a2 → Kept m o (v3 a0 a1 a2)) (g4 : Kept m o v4) :
    ∀ s', (dcePacket v0 v1 v2 v3 v4) = .next s' → Kept m o s' := by
  unfold dcePacket
  refine keptNext (keptIte ?_ ?_)
  · refine kept_State_receive (sub hm) ?_ ?_
    · exact g4
    · intro a0 a1
      exact g3 _ _ _ a1
  · exact g4

theorem kept_execSetPacket {v0 : Option PortId} {v1 : Packet} {v2 : State} (hm : m &&& 158564338 = 0) (g2 : Kept m o v2) :
    ∀ s', (execSetPacket v0 v1 v2) = .next s' → Kept m o s' := by
  unfold execSetPacket
  refine keptNext (keptIte ?_ ?_)
  · refine kept_State_receive (sub hm) ?_ ?_
    · exact g2
    · intro a0 a1
      exact kept_onSetPacket (sub hm) a1
  · exact g2

theorem kept_execSealPacket {v0 : Option PortId} {v1 : Packet} {v2 : State} (hm : m &&& 158564338 = 0) (g2 : Kept m o v2) :
    ∀ s', (execSealPacket v0 v1 v2) = .next s' → Kept m o s' := by
  unfold execSealPacket
  refine keptNext (keptIte ?_ ?_)
  · refine kept_State_receive (sub hm) ?_ ?_
    · exact g2
    · intro a0 a1
      exact kept_onSeal (sub hm) a1
  · exact g2

theorem kept_execCommitPacket {v0 : Option PortId} {v1 : Packet} {v2 : State} (hm : m &&& 158552034 = 0) (g2 : Kept m o v2) :
    ∀ s', (execCommitPacket v0 v1 v2) = .next s' → Kept m o s' := by
  unfold execCommitPacket
  refine keptNext (keptIte ?_ ?_)
  · refine kept_State_receive (sub hm) ?_ ?_
    · exact g2
    · intro a0 a1
      exact kept_onCommit (sub hm) a1
  · exact g2

theorem kept_execDiscardPacket {v0 : Option PortId} {v1 : Packet} {v2 : State} (hm : m &&& 158564322 = 0) (g2 : Kept m o v2) :
    ∀ s', (execDiscardPacket v0 v1 v2) = .next s' → Kept m o s' := by
  unfold execDiscardPacket
  refine keptNext (keptIte ?_ ?_)
  · refine kept_State_receive (sub hm) ?_ ?_
    · exact g2
    · intro a0 a1
      exact kept_onDiscard (sub hm) a1
  · exact g2

theorem kept_execSetrspStaged {v0 : Option PortId} {v1 : Packet} {v2 : State} (hm : m &&& 159088626 = 0) (g2 : Kept m o v2) :
    ∀ s', (execSetrspStaged v0 v1 v2) = .next s' → Kept m o s' := by
  unfold execSetrspStaged
  refine keptNext (keptIte ?_ ?_)
  · refine kept_State_receive (sub hm) ?_ ?_
    · exact g2
    · intro a0 a1
      exact kept_onSetrsp (sub hm) a1
  · exact g2

theorem kept_execSetrspCommitted {v0 : Option PortId} {v1 : Packet} {v2 : State} (hm : m &&& 159088626 = 0) (g2 : Kept m o v2) :
    ∀ s', (execSetrspCommitted v0 v1 v2) = .next s' → Kept m o s' := by
  unfold execSetrspCommitted
  refine keptNext (keptIte ?_ ?_)
  · refine kept_State_receive (sub hm) ?_ ?_
    · exact g2
    · intro a0 a1
      exact kept_onSetrsp (sub hm) a1
  · exact g2

theorem kept_execSetrspRefused {v0 : Option PortId} {v1 : Packet} {v2 : State} (hm : m &&& 159088626 = 0) (g2 : Kept m o v2) :
    ∀ s', (execSetrspRefused v0 v1 v2) = .next s' → Kept m o s' := by
  unfold execSetrspRefused
  refine keptNext (keptIte ?_ ?_)
  · refine kept_State_receive (sub hm) ?_ ?_
    · exact g2
    · intro a0 a1
      exact kept_onSetrsp (sub hm) a1
  · exact g2

theorem kept_execSetrspDiscarded {v0 : Option PortId} {v1 : Packet} {v2 : State} (hm : m &&& 159088626 = 0) (g2 : Kept m o v2) :
    ∀ s', (execSetrspDiscarded v0 v1 v2) = .next s' → Kept m o s' := by
  unfold execSetrspDiscarded
  refine keptNext (keptIte ?_ ?_)
  · refine kept_State_receive (sub hm) ?_ ?_
    · exact g2
    · intro a0 a1
      exact kept_onSetrsp (sub hm) a1
  · exact g2

theorem kept_writeHeaders {v0 : InSet} {v1 : SealInfo} {v2 : List (Landing × Nat)} {v3 : State} (hm : m &&& 134438898 = 0) (g3 : Kept m o v3) :
    Kept m o (writeHeaders v0 v1 v2 v3).2 := by
  induction v2 generalizing v0 v1 v3
  · unfold writeHeaders
    exact g3
  · rename_i ih
    unfold writeHeaders
    extract_lets +onlyGivenNames -merge -underBinder x0
    clear_value x0
    split
    · rename_i y1 y2
      apply ih
      exact keptPair2 y2 (kept_State_shadowVa (sub hm) g3)
    · exact kept_State_shadowVa (sub hm) g3

theorem kept_consumedAllows {v0 : Nat} {v1 : List Landing} {v2 : State} (hm : m &&& 134438898 = 0) (g2 : Kept m o v2) :
    Kept m o (consumedAllows v0 v1 v2).2 := by
  induction v1 generalizing v0 v2
  · unfold consumedAllows
    exact g2
  · rename_i ih
    unfold consumedAllows
    split
    · rename_i y0 y1
      refine keptIte2 ?_ ?_
      · apply ih
        exact keptPair2 y1 (kept_State_consumedOf (sub hm) g2)
      · dsimp only [id]
        exact keptPair2 y1 (kept_State_consumedOf (sub hm) g2)
    · rename_i y2 y3
      dsimp only [id]
      exact keptPair2 y3 (kept_State_consumedOf (sub hm) g2)
    · rename_i y4 y5
      dsimp only [id]
      exact keptPair2 y5 (kept_State_consumedOf (sub hm) g2)
    · rename_i y6 y7
      dsimp only [id]
      exact keptPair2 y7 (kept_State_consumedOf (sub hm) g2)

theorem kept_State_payArrive {v0 : State} {v1 : Landing} (hm : m &&& 136536050 = 0) (g0 : Kept m o v0) :
    Kept m o (State.payArrive v0 v1) := by
  unfold State.payArrive
  extract_lets +onlyGivenNames -merge -underBinder x0 x1
  clear_value x0 x1
  refine keptIte ?_ ?_
  · split
    · rename_i y2 y3
      exact keptPair2 y3 (kept_State_attachError (sub hm) g0)
    · rename_i y4 y5 y6
      exact kept_State_setLanding (sub hm) (keptPair2 y6 (kept_State_attachError (sub hm) g0))
  · split
    · exact g0
    · split
      · rename_i y7 y8
        exact keptPair2 y8 (kept_State_signalFence (sub hm) g0)
      · rename_i y9 y10 y11
        exact kept_State_setLanding (sub hm) (keptPair2 y11 (kept_State_signalFence (sub hm) g0))

theorem kept_State_countArrival {v0 : State} {v1 : Landing} {v2 : SealInfo} (hm : m &&& 136536050 = 0) (g0 : Kept m o v0) :
    Kept m o (State.countArrival v0 v1 v2) := by
  unfold State.countArrival
  extract_lets +onlyGivenNames -merge -underBinder x0
  clear_value x0
  refine keptIte ?_ ?_
  · extract_lets +onlyGivenNames -merge -underBinder x1
    clear_value x1
    exact kept_State_payArrive (sub hm) (kept_State_setLanding (sub hm) g0)
  · exact kept_State_setLanding (sub hm) g0

theorem kept_State_settleUnlands {v0 : State} {v1 : Nat} (hm : m &&& 2102304 = 0) (g0 : Kept m o v0) :
    Kept m o (State.settleUnlands v0 v1) := by
  unfold State.settleUnlands
  refine foldlKept ?_ ?_
  · intro a0 a1 a2
    exact kept_State_settleUnland (sub hm) a2
  · exact g0

theorem kept_commitSet {v0 : InSet} {v1 : SealInfo} {v2 : State} (hm : m &&& 140738546 = 0) (g2 : Kept m o v2) :
    Kept m o (commitSet v0 v1 v2) := by
  unfold commitSet
  extract_lets +onlyGivenNames -merge -underBinder x0 x1
  clear_value x0 x1
  split
  · rename_i y2 y3
    exact keptPair2 y3 (kept_writeHeaders (sub hm) g2)
  · rename_i y4 y5
    exact kept_State_killOwner (sub hm) (keptPair2 y5 (kept_writeHeaders (sub hm) g2))
  · rename_i y6 y7
    exact kept_State_refuseSet (sub hm) (keptPair2 y7 (kept_writeHeaders (sub hm) g2))
  · rename_i y8 y9
    split
    · rename_i y10 y11
      exact kept_State_refuseSet (sub hm) (keptPair2 y11 (kept_State_commitOwner (sub hm) (keptPair2 y9 (kept_writeHeaders (sub hm) g2))))
    · rename_i y12 y13
      extract_lets +onlyGivenNames -merge -underBinder x14
      clear_value x14
      extract_lets +onlyGivenNames -merge -underBinder x15
      have h16 : Kept m o x15 := by
        unfold x15
        exact keptUpd hm (s := y12) (by constructor <;> first | exact .inl rfl | exact .inr rfl) rfl rfl rfl (keptPair2 y13 (kept_State_commitOwner (sub hm) (keptPair2 y9 (kept_writeHeaders (sub hm) g2))))
      clear_value x15
      extract_lets +onlyGivenNames -merge -underBinder x17
      have h18 : Kept m o x17 := by
        unfold x17
        exact kept_State_setReply (sub hm) h16
      clear_value x17
      refine keptIte ?_ ?_
      · exact kept_State_updTicket (sub hm) h18
      · refine kept_State_settleUnlands (sub hm) (foldlKept ?_ ?_)
        · intro a19 a20 a21
          exact kept_State_countArrival (sub hm) a21
        · exact h18

theorem kept_landingCommit {v0 : Nat} {v1 : Nat} {v2 : State} (hm : m &&& 140738546 = 0) (g2 : Kept m o v2) :
    Kept m o (landingCommit v0 v1 v2) := by
  unfold landingCommit
  extract_lets +onlyGivenNames -merge -underBinder x0
  have h1 : Kept m o x0 := by
    unfold x0
    refine foldlKept ?_ ?_
    · intro a2 a3 a4
      exact kept_State_payArrive (sub hm) a4
    · exact g2
  clear_value x0
  split
  · split
    · refine keptIte ?_ ?_
      · exact kept_stageSet (sub hm) h1
      · refine keptIte ?_ ?_
        · exact h1
        · refine keptIte ?_ ?_
          · exact kept_commitSet (sub hm) h1
          · refine keptIte ?_ ?_
            · exact kept_State_refuseSet (sub hm) h1
            · split
              · rename_i y5 y6
                exact kept_commitSet (sub hm) (keptPair2 y6 (kept_consumedAllows (sub hm) h1))
              · rename_i y7 y8
                exact kept_State_refuseSet (sub hm) (keptPair2 y8 (kept_consumedAllows (sub hm) h1))
              · rename_i y9 y10 y11 y12
                exact keptPair2 y12 (kept_consumedAllows (sub hm) h1)
    · exact h1
  · exact kept_State_settleUnlands (sub hm) h1

theorem kept_execLandingCommit {v0 : CabId} {v1 : Nat} {v2 : State} (hm : m &&& 140738546 = 0) (g2 : Kept m o v2) :
    ∀ s', (execLandingCommit v0 v1 v2) = .next s' → Kept m o s' := by
  unfold execLandingCommit
  refine keptNext (kept_State_work (sub hm) ?_ ?_)
  · exact g2
  · intro a0 a1
    exact kept_landingCommit (sub hm) a1

theorem kept_State_abortDce {v0 : State} {v1 : Nat} (hm : m &&& 141262834 = 0) (g0 : Kept m o v0) :
    Kept m o (State.abortDce v0 v1) := by
  unfold State.abortDce
  extract_lets +onlyGivenNames -merge -underBinder x0 x1
  clear_value x0 x1
  extract_lets +onlyGivenNames -merge -underBinder x2
  have h3 : Kept m o x2 := by
    unfold x2
    refine foldlKept ?_ ?_
    · intro a4 a5 a6
      exact kept_State_discardSet (sub hm) a6
    · exact g0
  clear_value x2
  extract_lets +onlyGivenNames -merge -underBinder x7
  have h8 : Kept m o x7 := by
    unfold x7
    refine foldlKept ?_ ?_
    · intro a9 a10 a11
      exact kept_State_endDce (sub hm) a11
    · exact h3
  clear_value x7
  extract_lets +onlyGivenNames -merge -underBinder x12
  clear_value x12
  extract_lets +onlyGivenNames -merge -underBinder x13
  have h14 : Kept m o x13 := by
    unfold x13
    exact keptUpd hm (s := x7) (by constructor <;> first | exact .inl rfl | exact .inr rfl) rfl rfl rfl h8
  clear_value x13
  extract_lets +onlyGivenNames -merge -underBinder x15
  have h16 : Kept m o x15 := by
    unfold x15
    refine foldlKept ?_ ?_
    · intro a17 a18 a19
      extract_lets +onlyGivenNames -merge -underBinder x20
      clear_value x20
      exact kept_State_payArrive (sub hm) (kept_State_setLanding (sub hm) a19)
    · exact h14
  clear_value x15
  exact kept_State_bump (sub hm) h16

theorem kept_State_applyAbort {v0 : State} {v1 : Nat} (hm : m &&& 141262834 = 0) (g0 : Kept m o v0) :
    Kept m o (State.applyAbort v0 v1) := by
  unfold State.applyAbort
  refine kept_State_abortDce (sub hm) (foldlKept ?_ ?_)
  · intro a0 a1 a2
    exact kept_State_endRemote (sub hm) a2
  · exact g0

theorem kept_State_abortJob {v0 : State} {v1 : Nat} {v2 : Nat} (hm : m &&& 141262834 = 0) (g0 : Kept m o v0) :
    Kept m o (State.abortJob v0 v1 v2) := by
  unfold State.abortJob
  exact keptIte (kept_State_applyAbort (sub hm) (kept_State_originateAbort (sub hm) g0)) g0

theorem kept_State_clearTag {v0 : State} {v1 : Nat} (hm : m &&& 141262834 = 0) (g0 : Kept m o v0) :
    Kept m o (State.clearTag v0 v1) := by
  unfold State.clearTag
  exact keptIte (kept_State_setRfld (sub hm) (kept_State_abortJob (sub hm) g0)) g0

theorem kept_State_resetDce {v0 : State} {v1 : Nat} {v2 : Nat} (hm : m &&& 141262834 = 0) (g0 : Kept m o v0) :
    Kept m o (State.resetDce v0 v1 v2) := by
  unfold State.resetDce
  extract_lets +onlyGivenNames -merge -underBinder x0
  have h1 : Kept m o x0 := by
    unfold x0
    refine foldlKept ?_ ?_
    · intro a2 a3 a4
      exact keptIte (kept_State_endDce (sub hm) a4) (kept_State_killDce (sub hm) a4)
    · exact g0
  clear_value x0
  extract_lets +onlyGivenNames -merge -underBinder x5
  have h6 : Kept m o x5 := by
    unfold x5
    refine foldlKept ?_ ?_
    · intro a7 a8 a9
      exact kept_State_setReply (sub hm) (kept_State_discardSet (sub hm) a9)
    · exact h1
  clear_value x5
  refine foldlKept ?_ ?_
  · intro a10 a11 a12
    exact kept_landingCommit (sub hm) a12
  · exact h6

theorem kept_State_dropLandingsOf {v0 : State} {v1 : Nat} {v2 : Nat} (hm : m &&& 6305314 = 0) (g0 : Kept m o v0) :
    Kept m o (State.dropLandingsOf v0 v1 v2) := by
  unfold State.dropLandingsOf
  refine foldlKept ?_ ?_
  · intro a0 a1 a2
    exact kept_State_unbind (sub hm) a2
  · exact g0

theorem kept_State_dropTicketsOf {v0 : State} {v1 : Nat} {v2 : Nat} (hm : m &&& 6304290 = 0) (g0 : Kept m o v0) :
    Kept m o (State.dropTicketsOf v0 v1 v2) := by
  unfold State.dropTicketsOf
  refine foldlKept ?_ ?_
  · intro a0 a1 a2
    extract_lets +onlyGivenNames -merge -underBinder x3
    have h4 : Kept m o x3 := by
      unfold x3
      refine foldlKept ?_ ?_
      · intro a5 a6 a7
        exact kept_State_refuseSet (sub hm) a7
      · exact a2
    clear_value x3
    exact kept_State_closeTicket (sub hm) h4
  · exact g0

end Sys2Proof.Machine
end

