-- ==== Sys2Proof/Laws/KeptLatches.lean ====
section
/-! SUPPORT. For each operation of Machine/Latches.lean, and for each command meaning there: the fields of State it
    never changes (the bits not set in its mask), and that it keeps what Laws/Kept.lean names. -/

namespace Sys2Proof.Machine
set_option Elab.async false
variable {m : Nat} {o : State}

theorem kept_State_dropWait {v0 : State} {v1 : Waiting} (hm : m &&& 2048 = 0) (g0 : Kept m o v0) :
    Kept m o (State.dropWait v0 v1) := by
  unfold State.dropWait
  exact keptUpd hm (s := v0) (by constructor <;> first | exact .inl rfl | exact .inr rfl) rfl rfl rfl g0

theorem kept_State_endWait {v0 : State} {v1 : Waiting} {v2 : Ending} (hm : m &&& 152260578 = 0) (g0 : Kept m o v0) :
    Kept m o (State.endWait v0 v1 v2) := by
  unfold State.endWait
  exact kept_State_noteActivity (sub hm) (kept_State_wakeCab (sub hm) (kept_State_endFlight (sub hm) (kept_State_dropWait (sub hm) g0)))

theorem kept_State_shareLatch {v0 : State} {v1 : Nat} (hm : m &&& 2048 = 0) (g0 : Kept m o v0) :
    Kept m o (State.shareLatch v0 v1) := by
  unfold State.shareLatch
  extract_lets +onlyGivenNames -merge -underBinder x0 x1
  clear_value x0 x1
  exact keptUpd hm (s := v0) (by constructor <;> first | exact .inl rfl | exact .inr rfl) rfl rfl rfl g0

theorem kept_State_releaseLatch {v0 : State} {v1 : Nat} (hm : m &&& 2048 = 0) (g0 : Kept m o v0) :
    Kept m o (State.releaseLatch v0 v1) := by
  unfold State.releaseLatch
  extract_lets +onlyGivenNames -merge -underBinder x0
  clear_value x0
  extract_lets +onlyGivenNames -merge -underBinder x1
  have h2 : Kept m o x1 := by
    unfold x1
    exact kept_State_setLatch (sub hm) g0
  clear_value x1
  split
  · extract_lets +onlyGivenNames -merge -underBinder x3
    clear_value x3
    exact kept_State_shareLatch (sub hm) (kept_State_setLatch (sub hm) h2)
  · exact h2

theorem kept_State_settleLatch {v0 : State} {v1 : Nat} (hm : m &&& 2048 = 0) (g0 : Kept m o v0) :
    Kept m o (State.settleLatch v0 v1) := by
  unfold State.settleLatch
  exact keptIte (kept_State_releaseLatch (sub hm) g0) g0

theorem kept_State_mirrorWrite {v0 : State} {v1 : Nat} {v2 : Nat} (hm : m &&& 134438898 = 0) (g0 : Kept m o v0) :
    Kept m o (State.mirrorWrite v0 v1 v2).2 := by
  unfold State.mirrorWrite
  extract_lets +onlyGivenNames -merge -underBinder x0
  clear_value x0
  refine keptIte2 ?_ ?_
  · split
    · rename_i y1 y2
      dsimp only [id]
      exact keptPair2 y2 (kept_State_vaWrite (sub hm) g0)
    · rename_i y3 y4
      dsimp only [id]
      exact keptPair2 y4 (kept_State_vaWrite (sub hm) g0)
    · rename_i y5 y6
      dsimp only [id]
      exact kept_State_bump (sub hm) (keptPair2 y6 (kept_State_vaWrite (sub hm) g0))
  · exact g0

theorem kept_State_readFence {v0 : State} {v1 : Nat} {v2 : Nat} {v3 : Nat} (hm : m &&& 134438898 = 0) (g0 : Kept m o v0) :
    Kept m o (State.readFence v0 v1 v2 v3).2 := by
  unfold State.readFence
  extract_lets +onlyGivenNames -merge -underBinder x0
  clear_value x0
  split
  · rename_i y1 y2
    dsimp only [id]
    exact keptPair2 y2 (kept_State_xlate (sub hm) g0)
  · rename_i y3 y4
    dsimp only [id]
    exact keptPair2 y4 (kept_State_xlate (sub hm) g0)
  · rename_i y5 y6
    split
    · rename_i y7 y8
      dsimp only [id]
      exact keptPair2 y8 (kept_State_readAt (sub hm) (keptPair2 y6 (kept_State_xlate (sub hm) g0)))
    · rename_i y9 y10
      dsimp only [id]
      exact keptPair2 y10 (kept_State_readAt (sub hm) (keptPair2 y6 (kept_State_xlate (sub hm) g0)))

theorem kept_State_latchFails {v0 : State} {v1 : Nat} {v2 : Nat} {v3 : Nat} {v4 : Option (Bool × Nat)} (hm : m &&& 152260578 = 0) (g0 : Kept m o v0) :
    Kept m o (State.latchFails v0 v1 v2 v3 v4) := by
  unfold State.latchFails
  extract_lets +onlyGivenNames -merge -underBinder x0
  clear_value x0
  extract_lets +onlyGivenNames -merge -underBinder x1
  have h2 : Kept m o x1 := by
    unfold x1
    exact kept_State_setLatch (sub hm) g0
  clear_value x1
  refine kept_State_settleLatch (sub hm) (foldlKept ?_ ?_)
  · intro a3 a4 a5
    exact kept_State_endWait (sub hm) a5
  · exact h2

theorem kept_State_latchHit {v0 : State} {v1 : Nat} {v2 : Nat} (hm : m &&& 134438898 = 0) (g0 : Kept m o v0) :
    Kept m o (State.latchHit v0 v1 v2) := by
  unfold State.latchHit
  extract_lets +onlyGivenNames -merge -underBinder x0
  have h1 : Kept m o x0.2 := by
    unfold x0
    exact kept_State_mirrorWrite (sub hm) g0
  clear_value x0
  extract_lets +onlyGivenNames -merge -underBinder x2
  clear_value x2
  exact kept_State_setLatch (sub hm) h1

theorem kept_State_evalLatch {v0 : State} {v1 : Nat} (hm : m &&& 152264690 = 0) (g0 : Kept m o v0) :
    Kept m o (State.evalLatch v0 v1) := by
  unfold State.evalLatch
  extract_lets +onlyGivenNames -merge -underBinder x0
  clear_value x0
  refine keptIte ?_ ?_
  · exact g0
  · split
    · rename_i y1 y2
      exact kept_State_setLatch (sub hm) (keptPair2 y2 (kept_State_readFence (sub hm) g0))
    · rename_i y3 y4
      exact kept_State_latchFails (sub hm) (keptPair2 y4 (kept_State_readFence (sub hm) g0))
    · rename_i y5 y6
      extract_lets +onlyGivenNames -merge -underBinder x7
      have h8 : Kept m o x7 := by
        unfold x7
        exact kept_State_tally (sub hm) (keptPair2 y6 (kept_State_readFence (sub hm) g0))
      clear_value x7
      extract_lets +onlyGivenNames -merge -underBinder x9
      clear_value x9
      extract_lets +onlyGivenNames -merge -underBinder x10
      have h11 : Kept m o x10 := by
        unfold x10
        exact kept_State_setLatch (sub hm) h8
      clear_value x10
      extract_lets +onlyGivenNames -merge -underBinder x12
      have h13 : Kept m o x12 := by
        unfold x12
        refine kept_State_settleLatch (sub hm) (foldlKept ?_ ?_)
        · intro a14 a15 a16
          split
          · exact kept_State_endWait (sub hm) a16
          · exact a16
        · exact h11
      clear_value x12
      exact keptIte (kept_State_latchHit (sub hm) h13) h13

theorem kept_waitIssue {v0 : Flight} {v1 : State} (hm : m &&& 152264690 = 0) (g1 : Kept m o v1) :
    Kept m o (waitIssue v0 v1) := by
  unfold waitIssue
  extract_lets +onlyGivenNames -merge -underBinder x0 x1 x2
  clear_value x0 x1 x2
  split
  · rename_i y3 y4
    exact keptPair2 y4 (kept_State_readFence (sub hm) g1)
  · rename_i y5 y6
    exact kept_State_endFlight (sub hm) (keptPair2 y6 (kept_State_readFence (sub hm) g1))
  · rename_i y7 y8
    split
    · exact kept_State_endFlight (sub hm) (keptPair2 y8 (kept_State_readFence (sub hm) g1))
    · extract_lets +onlyGivenNames -merge -underBinder x9
      clear_value x9
      extract_lets +onlyGivenNames -merge -underBinder x10
      have h11 : Kept m o x10 := by
        unfold x10
        exact kept_State_startFlight (sub hm) (keptPair2 y8 (kept_State_readFence (sub hm) g1))
      clear_value x10
      extract_lets +onlyGivenNames -merge -underBinder x12
      have h13 : ∀ a0 a1, Kept m o a1 → Kept m o (x12 a0 a1) := by
        intro a14 a15 a16
        unfold x12
        exact keptUpd hm (s := a15) (by constructor <;> first | exact .inl rfl | exact .inr rfl) rfl rfl rfl a16
      clear_value x12
      split
      · exact h13 _ _ h11
      · refine keptIte ?_ ?_
        · extract_lets +onlyGivenNames -merge -underBinder x17
          clear_value x17
          exact kept_State_evalLatch (sub hm) (h13 _ _ (kept_State_shareLatch (sub hm) (kept_State_setLatch (sub hm) h11)))
        · exact h13 _ _ (kept_State_bump (sub hm) (kept_State_bump (sub hm) h11))

theorem kept_execWaitDesc {v0 : CabId} {v1 : DrawerId} {v2 : Seq} {v3 : State} (hm : m &&& 152264690 = 0) (g3 : Kept m o v3) :
    ∀ s', (execWaitDesc v0 v1 v2 v3) = .next s' → Kept m o s' := by
  unfold execWaitDesc
  refine keptNext (kept_State_work (sub hm) ?_ ?_)
  · exact g3
  · intro a0 a1
    split
    · exact kept_State_noteActivity (sub hm) (kept_waitIssue (sub hm) a1)
    · exact a1

theorem kept_signalLocal {v0 : Flight} {v1 : State} (hm : m &&& 134438898 = 0) (g1 : Kept m o v1) :
    Kept m o (signalLocal v0 v1) := by
  unfold signalLocal
  split
  · rename_i y0 y1
    exact keptPair2 y1 (kept_State_signalFence (sub hm) g1)
  · rename_i y2 y3
    exact kept_State_endFlight (sub hm) (keptPair2 y3 (kept_State_signalFence (sub hm) g1))
  · rename_i y4 y5
    exact kept_State_endFlight (sub hm) (keptPair2 y5 (kept_State_signalFence (sub hm) g1))

theorem kept_execSignalLocal {v0 : CabId} {v1 : DrawerId} {v2 : Seq} {v3 : State} (hm : m &&& 134438898 = 0) (g3 : Kept m o v3) :
    ∀ s', (execSignalLocal v0 v1 v2 v3) = .next s' → Kept m o s' := by
  unfold execSignalLocal
  refine keptNext (kept_State_work (sub hm) ?_ ?_)
  · exact g3
  · intro a0 a1
    split
    · exact keptIte (kept_signalLocal (sub hm) a1) a1
    · exact a1

theorem kept_waitTimeout {v0 : Nat} {v1 : Nat} {v2 : Nat} {v3 : State} (hm : m &&& 152260578 = 0) (g3 : Kept m o v3) :
    Kept m o (waitTimeout v0 v1 v2 v3) := by
  unfold waitTimeout
  extract_lets +onlyGivenNames -merge -underBinder x0 x1
  clear_value x0 x1
  split
  · refine keptIte ?_ ?_
    · extract_lets +onlyGivenNames -merge -underBinder x2
      have h3 : Kept m o x2 := by
        unfold x2
        exact kept_State_bump (sub hm) (kept_State_endWait (sub hm) g3)
      clear_value x2
      split
      · exact kept_State_settleLatch (sub hm) h3
      · exact h3
    · exact g3
  · split
    · exact keptIte (kept_State_bump (sub hm) (kept_State_endFlight (sub hm) g3)) g3
    · exact g3

theorem kept_execWaitTimeout {v0 : CabId} {v1 : DrawerId} {v2 : Seq} {v3 : State} (hm : m &&& 152260578 = 0) (g3 : Kept m o v3) :
    ∀ s', (execWaitTimeout v0 v1 v2 v3) = .next s' → Kept m o s' := by
  unfold execWaitTimeout
  refine keptNext (kept_State_work (sub hm) ?_ ?_)
  · exact g3
  · intro a0 a1
    exact kept_waitTimeout (sub hm) a1

theorem kept_execLatchEvaluate {v0 : LatchId} {v1 : State} (hm : m &&& 152264690 = 0) (g1 : Kept m o v1) :
    ∀ s', (execLatchEvaluate v0 v1) = .next s' → Kept m o s' := by
  unfold execLatchEvaluate
  refine keptNext (kept_State_work (sub hm) ?_ ?_)
  · exact g1
  · intro a0 a1
    exact keptIte (kept_State_evalLatch (sub hm) a1) a1

theorem kept_hostPoll {v0 : Nat} {v1 : State} (hm : m &&& 152264690 = 0) (g1 : Kept m o v1) :
    Kept m o (hostPoll v0 v1) := by
  unfold hostPoll
  extract_lets +onlyGivenNames -merge -underBinder x0
  clear_value x0
  refine keptIte ?_ ?_
  · extract_lets +onlyGivenNames -merge -underBinder x1
    have h2 : Kept m o x1 := by
      unfold x1
      exact keptIte (kept_State_bump (sub hm) g1) g1
    clear_value x1
    exact kept_State_evalLatch (sub hm) (kept_State_setLatch (sub hm) h2)
  · exact g1

theorem kept_execHostFencePoll {v0 : LatchId} {v1 : State} (hm : m &&& 152264690 = 0) (g1 : Kept m o v1) :
    ∀ s', (execHostFencePoll v0 v1) = .next s' → Kept m o s' := by
  unfold execHostFencePoll
  refine keptNext (kept_State_work (sub hm) ?_ ?_)
  · exact g1
  · intro a0 a1
    exact kept_hostPoll (sub hm) a1

theorem kept_starvedPoll {v0 : Nat} {v1 : State} (hm : m &&& 152264690 = 0) (g1 : Kept m o v1) :
    Kept m o (starvedPoll v0 v1) := by
  unfold starvedPoll
  refine keptIte ?_ ?_
  · extract_lets +onlyGivenNames -merge -underBinder x0 x1
    clear_value x0 x1
    extract_lets +onlyGivenNames -merge -underBinder x2
    have h3 : Kept m o x2 := by
      unfold x2
      exact keptUpd hm (s := v1) (by constructor <;> first | exact .inl rfl | exact .inr rfl) rfl rfl rfl g1
    clear_value x2
    refine foldlKept ?_ ?_
    · intro a4 a5 a6
      split
      · rename_i y7 y8
        exact keptPair2 y8 (kept_State_readFence (sub hm) a6)
      · rename_i y9 y10
        exact kept_State_endWait (sub hm) (keptPair2 y10 (kept_State_readFence (sub hm) a6))
      · rename_i y11 y12
        split
        · exact kept_State_endWait (sub hm) (keptPair2 y12 (kept_State_readFence (sub hm) a6))
        · exact keptPair2 y12 (kept_State_readFence (sub hm) a6)
    · exact h3
  · exact g1

theorem kept_execStarvedWaitPoll {v0 : CabId} {v1 : State} (hm : m &&& 152264690 = 0) (g1 : Kept m o v1) :
    ∀ s', (execStarvedWaitPoll v0 v1) = .next s' → Kept m o s' := by
  unfold execStarvedWaitPoll
  refine keptNext (kept_State_work (sub hm) ?_ ?_)
  · exact g1
  · intro a0 a1
    exact kept_starvedPoll (sub hm) a1

theorem kept_latArm {v0 : Nat} {v1 : State} (hm : m &&& 152264690 = 0) (g1 : Kept m o v1) :
    Kept m o (latArm v0 v1).2.2 := by
  unfold latArm
  extract_lets +onlyGivenNames -merge -underBinder x0 x1 x2 x3
  clear_value x0 x1 x2 x3
  refine keptIte22 ?_ ?_
  · exact g1
  · refine keptIte22 ?_ ?_
    · exact g1
    · refine keptIte22 ?_ ?_
      · exact g1
      · refine keptIte22 ?_ ?_
        · exact g1
        · refine keptIte22 ?_ ?_
          · exact g1
          · refine keptIte22 ?_ ?_
            · exact g1
            · split
              · dsimp only [id]
                exact kept_State_evalLatch (sub hm) (kept_State_setLatch (sub hm) g1)
              · refine keptIte22 ?_ ?_
                · extract_lets +onlyGivenNames -merge -underBinder x4
                  clear_value x4
                  dsimp only [id]
                  exact kept_State_evalLatch (sub hm) (kept_State_shareLatch (sub hm) (kept_State_setLatch (sub hm) g1))
                · exact g1

theorem kept_latRearm {v0 : Nat} {v1 : Nat} {v2 : State} (hm : m &&& 152264690 = 0) (g2 : Kept m o v2) :
    Kept m o (latRearm v0 v1 v2).2.2 := by
  unfold latRearm
  refine keptIte22 ?_ ?_
  · exact g2
  · refine keptIte22 ?_ ?_
    · exact g2
    · dsimp only [id]
      exact kept_State_evalLatch (sub hm) (kept_State_setLatch (sub hm) g2)

theorem kept_State_disarm {v0 : State} {v1 : Nat} (hm : m &&& 2048 = 0) (g0 : Kept m o v0) :
    Kept m o (State.disarm v0 v1) := by
  unfold State.disarm
  extract_lets +onlyGivenNames -merge -underBinder x0
  clear_value x0
  exact kept_State_settleLatch (sub hm) (kept_State_setLatch (sub hm) g0)

theorem kept_latDisarm {v0 : Nat} {v1 : Nat} {v2 : State} (hm : m &&& 2048 = 0) (g2 : Kept m o v2) :
    Kept m o (latDisarm v0 v1 v2).2.2 := by
  unfold latDisarm
  refine keptIte22 ?_ ?_
  · exact g2
  · refine keptIte22 ?_ ?_
    · exact g2
    · dsimp only [id]
      exact kept_State_disarm (sub hm) g2

theorem kept_latEval {v0 : Nat} {v1 : Nat} {v2 : State} (hm : m &&& 152264690 = 0) (g2 : Kept m o v2) :
    Kept m o (latEval v0 v1 v2).2.2 := by
  unfold latEval
  refine keptIte22 ?_ ?_
  · exact g2
  · dsimp only [id]
    exact kept_State_evalLatch (sub hm) g2

theorem kept_latCommand {v0 : Func} {v1 : CabId} {v2 : Word} {v3 : State → Nat × Nat × State} {v4 : State} (hm : m &&& 152293346 = 0) (g3 : ∀ a0, Kept m o a0 → Kept m o (v3 a0).2.2) (g4 : Kept m o v4) :
    ∀ s', (latCommand v0 v1 v2 v3 v4) = .next s' → Kept m o s' := by
  unfold latCommand
  refine keptNext (kept_State_operate (sub hm) ?_ ?_)
  · exact g4
  · intro a0 a1
    refine kept_State_command (sub hm) ?_ ?_
    · exact a1
    · intro a2 a3
      exact g3 _ a3

theorem kept_nopCommand {v0 : Nat} {v1 : State} (hm : m &&& 32 = 0) (g1 : Kept m o v1) :
    Kept m o (nopCommand v0 v1) := by
  unfold nopCommand
  refine kept_State_command (sub hm) ?_ ?_
  · exact g1
  · intro a0 a1
    exact a1

theorem kept_execLatNop {v0 : Func} {v1 : CabId} {v2 : State} (hm : m &&& 152293346 = 0) (g2 : Kept m o v2) :
    ∀ s', (execLatNop v0 v1 v2) = .next s' → Kept m o s' := by
  unfold execLatNop
  refine keptNext (kept_State_operate (sub hm) ?_ ?_)
  · exact g2
  · intro a0 a1
    exact kept_nopCommand (sub hm) a1

theorem kept_execLatArm {v0 : Func} {v1 : CabId} {v2 : State} (hm : m &&& 152297458 = 0) (g2 : Kept m o v2) :
    ∀ s', (execLatArm v0 v1 v2) = .next s' → Kept m o s' := by
  unfold execLatArm
  refine keptNext (kept_State_operate (sub hm) ?_ ?_)
  · exact g2
  · intro a0 a1
    refine kept_State_command (sub hm) ?_ ?_
    · exact a1
    · intro a2 a3
      exact kept_latArm (sub hm) a3

theorem kept_execLatRearm {v0 : Func} {v1 : CabId} {v2 : LatchId} {v3 : State} (hm : m &&& 152297458 = 0) (g3 : Kept m o v3) :
    ∀ s', (execLatRearm v0 v1 v2 v3) = .next s' → Kept m o s' := by
  unfold execLatRearm
  refine keptNext (kept_State_operate (sub hm) ?_ ?_)
  · exact g3
  · intro a0 a1
    refine kept_State_command (sub hm) ?_ ?_
    · exact a1
    · intro a2 a3
      exact kept_latRearm (sub hm) a3

theorem kept_execLatDisarm {v0 : Func} {v1 : CabId} {v2 : LatchId} {v3 : State} (hm : m &&& 152293346 = 0) (g3 : Kept m o v3) :
    ∀ s', (execLatDisarm v0 v1 v2 v3) = .next s' → Kept m o s' := by
  unfold execLatDisarm
  refine keptNext (kept_State_operate (sub hm) ?_ ?_)
  · exact g3
  · intro a0 a1
    refine kept_State_command (sub hm) ?_ ?_
    · exact a1
    · intro a2 a3
      exact kept_latDisarm (sub hm) a3

theorem kept_execLatEval {v0 : Func} {v1 : CabId} {v2 : LatchId} {v3 : State} (hm : m &&& 152297458 = 0) (g3 : Kept m o v3) :
    ∀ s', (execLatEval v0 v1 v2 v3) = .next s' → Kept m o s' := by
  unfold execLatEval
  refine keptNext (kept_State_operate (sub hm) ?_ ?_)
  · exact g3
  · intro a0 a1
    refine kept_State_command (sub hm) ?_ ?_
    · exact a1
    · intro a2 a3
      exact kept_latEval (sub hm) a3

end Sys2Proof.Machine
end

