-- ==== Sys2Proof/Laws/KeptSearch.lean ====
section
/-! SUPPORT. For each operation of Machine/Search.lean, and for each command meaning there: the fields of State it
    never changes (the bits not set in its mask), and that it keeps what Laws/Kept.lean names. -/

namespace Sys2Proof.Machine
set_option Elab.async false
variable {m : Nat} {o : State}

theorem kept_State_holdSuspect {v0 : State} {v1 : Suspect} {v2 : Bool} (hm : m &&& 3154944 = 0) (g0 : Kept m o v0) :
    Kept m o (State.holdSuspect v0 v1 v2) := by
  unfold State.holdSuspect
  extract_lets +onlyGivenNames -merge -underBinder x0
  clear_value x0
  extract_lets +onlyGivenNames -merge -underBinder x1
  have h2 : Kept m o x1 := by
    unfold x1
    refine foldlKept ?_ ?_
    · intro a3 a4 a5
      exact kept_State_updCmd (sub hm) a5
    · exact g0
  clear_value x1
  extract_lets +onlyGivenNames -merge -underBinder x6
  have h7 : Kept m o x6 := by
    unfold x6
    exact kept_State_renewWaits (sub hm) h2
  clear_value x6
  extract_lets +onlyGivenNames -merge -underBinder x8
  have h9 : Kept m o x8 := by
    unfold x8
    refine foldlKept ?_ ?_
    · intro a10 a11 a12
      exact kept_State_setChan (sub hm) a12
    · exact h7
  clear_value x8
  refine foldlKept ?_ ?_
  · intro a13 a14 a15
    split
    · exact kept_State_updDce (sub hm) a15
    · exact a15
  · exact h9

theorem kept_State_endSearch {v0 : State} {v1 : Nat} (hm : m &&& 3220480 = 0) (g0 : Kept m o v0) :
    Kept m o (State.endSearch v0 v1) := by
  unfold State.endSearch
  extract_lets +onlyGivenNames -merge -underBinder x0
  clear_value x0
  extract_lets +onlyGivenNames -merge -underBinder x1
  have h2 : Kept m o x1 := by
    unfold x1
    refine foldlKept ?_ ?_
    · intro a3 a4 a5
      refine foldlKept ?_ ?_
      · intro a6 a7 a8
        exact kept_State_holdSuspect (sub hm) a8
      · exact a5
    · exact g0
  clear_value x1
  extract_lets +onlyGivenNames -merge -underBinder x9
  clear_value x9
  extract_lets +onlyGivenNames -merge -underBinder x10
  have h11 : Kept m o x10 := by
    unfold x10
    exact keptUpd hm (s := x1) (by constructor <;> first | exact .inl rfl | exact .inr rfl) rfl rfl rfl h2
  clear_value x10
  extract_lets +onlyGivenNames -merge -underBinder x12
  clear_value x12
  exact keptIte (kept_State_setUnitSt (sub hm) h11) h11

theorem kept_State_setLeft {v0 : State} {v1 : Nat} {v2 : List Suspect} (hm : m &&& 65536 = 0) (g0 : Kept m o v0) :
    Kept m o (State.setLeft v0 v1 v2) := by
  unfold State.setLeft
  extract_lets +onlyGivenNames -merge -underBinder x0
  clear_value x0
  exact keptUpd hm (s := v0) (by constructor <;> first | exact .inl rfl | exact .inr rfl) rfl rfl rfl g0

theorem kept_State_startHead {v0 : State} {v1 : Nat} (hm : m &&& 3220480 = 0) (g0 : Kept m o v0) :
    Kept m o (State.startHead v0 v1) := by
  unfold State.startHead
  split
  · split
    · extract_lets +onlyGivenNames -merge -underBinder x0
      have h1 : Kept m o x0 := by
        unfold x0
        exact kept_State_holdSuspect (sub hm) g0
      clear_value x0
      extract_lets +onlyGivenNames -merge -underBinder x2
      clear_value x2
      exact keptUpd hm (s := x0) (by constructor <;> first | exact .inl rfl | exact .inr rfl) rfl rfl rfl h1
    · exact kept_State_endSearch (sub hm) g0
  · exact g0

theorem kept_State_nextSuspect {v0 : State} {v1 : Nat} (hm : m &&& 3220480 = 0) (g0 : Kept m o v0) :
    Kept m o (State.nextSuspect v0 v1) := by
  unfold State.nextSuspect
  split
  · extract_lets +onlyGivenNames -merge -underBinder x0
    have h1 : Kept m o x0 := by
      unfold x0
      split
      · exact kept_State_holdSuspect (sub hm) g0
      · exact g0
    clear_value x0
    extract_lets +onlyGivenNames -merge -underBinder x2
    have h3 : Kept m o x2 := by
      unfold x2
      exact kept_State_setLeft (sub hm) h1
    clear_value x2
    exact keptIte (kept_State_endSearch (sub hm) h3) (kept_State_startHead (sub hm) h3)
  · exact g0

theorem kept_State_startSearch {v0 : State} {v1 : Nat} {v2 : List Suspect} (hm : m &&& 3220480 = 0) (g0 : Kept m o v0) :
    Kept m o (State.startSearch v0 v1 v2) := by
  unfold State.startSearch
  refine keptIte ?_ ?_
  · exact g0
  · extract_lets +onlyGivenNames -merge -underBinder x0
    clear_value x0
    extract_lets +onlyGivenNames -merge -underBinder x1
    have h2 : Kept m o x1 := by
      unfold x1
      exact kept_State_setUnitSt (sub hm) (kept_State_endSearch (sub hm) g0)
    clear_value x1
    extract_lets +onlyGivenNames -merge -underBinder x3
    have h4 : Kept m o x3 := by
      unfold x3
      refine foldlKept ?_ ?_
      · intro a5 a6 a7
        exact kept_State_holdSuspect (sub hm) a7
      · exact h2
    clear_value x3
    exact kept_State_startHead (sub hm) (keptUpd hm (s := x3) (by constructor <;> first | exact .inl rfl | exact .inr rfl) rfl rfl rfl h4)

theorem kept_State_verdict {v0 : State} {v1 : Nat} {v2 : Nat} {v3 : Nat} {v4 : Nat} {v5 : Suspect} {v6 : Option (Nat × Nat)} (hm : m &&& 134434784 = 0) (g0 : Kept m o v0) :
    Kept m o (State.verdict v0 v1 v2 v3 v4 v5 v6) := by
  unfold State.verdict
  extract_lets +onlyGivenNames -merge -underBinder x0
  clear_value x0
  exact kept_State_faultEvent (sub hm) g0

theorem kept_State_clearHead {v0 : State} {v1 : Nat} (hm : m &&& 137588704 = 0) (g0 : Kept m o v0) :
    Kept m o (State.clearHead v0 v1) := by
  unfold State.clearHead
  split
  · split
    · exact kept_State_nextSuspect (sub hm) (kept_State_verdict (sub hm) g0)
    · exact kept_State_endSearch (sub hm) g0
  · exact g0

theorem kept_State_leaveSearch {v0 : State} {v1 : Suspect → Bool} (hm : m &&& 3220480 = 0) (g0 : Kept m o v0) :
    Kept m o (State.leaveSearch v0 v1) := by
  unfold State.leaveSearch
  extract_lets +onlyGivenNames -merge -underBinder x0
  have h1 : Kept m o x0 := by
    unfold x0
    refine foldlKept ?_ ?_
    · intro a2 a3 a4
      exact kept_State_setUnitSt (sub hm) a4
    · exact g0
  clear_value x0
  refine foldlKept ?_ ?_
  · intro a5 a6 a7
    extract_lets +onlyGivenNames -merge -underBinder x8
    clear_value x8
    extract_lets +onlyGivenNames -merge -underBinder x9
    have h10 : Kept m o x9 := by
      unfold x9
      refine foldlKept ?_ ?_
      · intro a11 a12 a13
        exact kept_State_holdSuspect (sub hm) a13
      · exact a7
    clear_value x9
    extract_lets +onlyGivenNames -merge -underBinder x14
    have h15 : Kept m o x14 := by
      unfold x14
      exact kept_State_setLeft (sub hm) h10
    clear_value x14
    exact keptIte (kept_State_startHead (sub hm) h15) h15
  · exact h1

end Sys2Proof.Machine
end

