-- ==== Sys2Proof/Laws/KeptCancel.lean ====
section
/-! SUPPORT. For each operation of Machine/Cancel.lean, and for each command meaning there: the fields of State it
    never changes (the bits not set in its mask), and that it keeps what Laws/Kept.lean names. -/

namespace Sys2Proof.Machine
set_option Elab.async false
variable {m : Nat} {o : State}

theorem kept_State_dropDrwReqs {v0 : State} {v1 : Nat} {v2 : Nat} (hm : m &&& 4096 = 0) (g0 : Kept m o v0) :
    Kept m o (State.dropDrwReqs v0 v1 v2) := by
  unfold State.dropDrwReqs
  exact keptUpd hm (s := v0) (by constructor <;> first | exact .inl rfl | exact .inr rfl) rfl rfl rfl g0

theorem kept_State_settleDrawer {v0 : State} {v1 : Nat} {v2 : Nat} (hm : m &&& 5152 = 0) (g0 : Kept m o v0) :
    Kept m o (State.settleDrawer v0 v1 v2) := by
  unfold State.settleDrawer
  extract_lets +onlyGivenNames -merge -underBinder x0
  clear_value x0
  refine keptIte ?_ ?_
  · exact g0
  · split
    · exact kept_State_setDrawer (sub hm) g0
    · extract_lets +onlyGivenNames -merge -underBinder x1
      have h2 : Kept m o x1 := by
        unfold x1
        exact kept_State_dropDrwReqs (sub hm) (kept_State_setDrawer (sub hm) g0)
      clear_value x1
      exact keptIte (kept_State_result (sub hm) (keptUpd hm (s := x1) (by constructor <;> first | exact .inl rfl | exact .inr rfl) rfl rfl rfl h2)) h2
    · exact g0

theorem kept_State_cancelCmd {v0 : State} {v1 : Cmd} (hm : m &&& 140738530 = 0) (g0 : Kept m o v0) :
    Kept m o (State.cancelCmd v0 v1) := by
  unfold State.cancelCmd
  refine keptIte ?_ ?_
  · exact g0
  · split
    · extract_lets +onlyGivenNames -merge -underBinder x0
      have h1 : Kept m o x0 := by
        unfold x0
        exact kept_State_noteActivity (sub hm) (kept_State_dropCmd (sub hm) g0)
      clear_value x0
      split
      · exact kept_State_endFlight (sub hm) h1
      · exact h1
    · exact kept_State_dropCmd (sub hm) g0
    · exact kept_State_killCmd (sub hm) (kept_State_updCmd (sub hm) g0)

theorem kept_State_cancelMove {v0 : State} {v1 : Flight} (hm : m &&& 1053728 = 0) (g0 : Kept m o v0) :
    Kept m o (State.cancelMove v0 v1) := by
  unfold State.cancelMove
  extract_lets +onlyGivenNames -merge -underBinder x0 x1
  clear_value x0 x1
  extract_lets +onlyGivenNames -merge -underBinder x2
  have h3 : Kept m o x2 := by
    unfold x2
    exact keptUpd hm (s := v0) (by constructor <;> first | exact .inl rfl | exact .inr rfl) rfl rfl rfl g0
  clear_value x2
  split
  · exact keptIte (kept_State_endTransfer (sub hm) h3) (kept_State_setChan (sub hm) h3)
  · exact h3

theorem kept_State_cancelDce {v0 : State} {v1 : DceCmd} (hm : m &&& 6829602 = 0) (g0 : Kept m o v0) :
    Kept m o (State.cancelDce v0 v1) := by
  unfold State.cancelDce
  exact keptIte g0 (kept_State_endDce (sub hm) (kept_State_discardPeers (sub hm) g0))

theorem kept_State_cancelFlight {v0 : State} {v1 : Flight} (hm : m &&& 150700002 = 0) (g0 : Kept m o v0) :
    Kept m o (State.cancelFlight v0 v1) := by
  unfold State.cancelFlight
  refine keptIte ?_ ?_
  · exact g0
  · extract_lets +onlyGivenNames -merge -underBinder x0
    have h1 : ∀ a0, Kept m o a0 → Kept m o (x0 a0) := by
      intro a2 a3
      unfold x0
      exact kept_State_endFlight (sub hm) a3
    clear_value x0
    extract_lets +onlyGivenNames -merge -underBinder x4
    clear_value x4
    refine keptIte ?_ ?_
    · split
      · exact kept_State_cancelCmd (sub hm) g0
      · exact h1 _ g0
    · refine keptIte ?_ ?_
      · refine keptIte ?_ ?_
        · exact g0
        · extract_lets +onlyGivenNames -merge -underBinder x5
          clear_value x5
          exact h1 _ (kept_State_setSbc (sub hm) g0)
      · refine keptIte ?_ ?_
        · exact h1 _ (kept_State_cancelMove (sub hm) g0)
        · refine keptIte ?_ ?_
          · extract_lets +onlyGivenNames -merge -underBinder x6
            clear_value x6
            exact h1 _ (keptUpd hm (s := v0) (by constructor <;> first | exact .inl rfl | exact .inr rfl) rfl rfl rfl g0)
          · refine keptIte ?_ ?_
            · split
              · exact kept_State_cancelDce (sub hm) g0
              · extract_lets +onlyGivenNames -merge -underBinder x7
                clear_value x7
                exact h1 _ (keptUpd hm (s := v0) (by constructor <;> first | exact .inl rfl | exact .inr rfl) rfl rfl rfl g0)
            · refine keptIte ?_ ?_
              · split
                · exact h1 _ (kept_State_cancelOp (sub hm) g0)
                · exact h1 _ g0
              · refine keptIte ?_ ?_
                · exact h1 _ (keptUpd hm (s := v0) (by constructor <;> first | exact .inl rfl | exact .inr rfl) rfl rfl rfl g0)
                · refine keptIte ?_ ?_
                  · split
                    · extract_lets +onlyGivenNames -merge -underBinder x8
                      have h9 : Kept m o x8 := by
                        unfold x8
                        exact h1 _ (kept_State_dropWait (sub hm) g0)
                      clear_value x8
                      split
                      · exact kept_State_settleLatch (sub hm) h9
                      · exact h9
                    · exact h1 _ g0
                  · refine keptIte ?_ ?_
                    · split
                      · exact keptIte (h1 _ (kept_State_setCtx (sub hm) (kept_State_dropSwap (sub hm) g0))) (h1 _ (kept_State_setSwap (sub hm) g0))
                      · exact h1 _ g0
                    · refine keptIte ?_ ?_
                      · extract_lets +onlyGivenNames -merge -underBinder x10
                        clear_value x10
                        exact h1 _ (keptUpd hm (s := v0) (by constructor <;> first | exact .inl rfl | exact .inr rfl) rfl rfl rfl g0)
                      · exact h1 _ g0

theorem kept_State_cancelFlights {v0 : State} {v1 : List Flight} (hm : m &&& 150700002 = 0) (g0 : Kept m o v0) :
    Kept m o (State.cancelFlights v0 v1) := by
  unfold State.cancelFlights
  refine foldlKept ?_ ?_
  · intro a0 a1 a2
    exact kept_State_cancelFlight (sub hm) a2
  · exact g0

theorem kept_State_leaveLatch {v0 : State} {v1 : Nat} {v2 : Nat} (hm : m &&& 2048 = 0) (g0 : Kept m o v0) :
    Kept m o (State.leaveLatch v0 v1 v2) := by
  unfold State.leaveLatch
  extract_lets +onlyGivenNames -merge -underBinder x0
  clear_value x0
  refine keptIte ?_ ?_
  · exact g0
  · extract_lets +onlyGivenNames -merge -underBinder x1
    have h2 : Kept m o x1 := by
      unfold x1
      exact keptIte g0 (kept_State_disarm (sub hm) g0)
    clear_value x1
    split
    · extract_lets +onlyGivenNames -merge -underBinder x3
      clear_value x3
      exact kept_State_setLatch (sub hm) h2
    · exact kept_State_settleLatch (sub hm) h2

theorem kept_State_resetContext {v0 : State} {v1 : Nat} {v2 : Nat} (hm : m &&& 150700002 = 0) (g0 : Kept m o v0) :
    Kept m o (State.resetContext v0 v1 v2) := by
  unfold State.resetContext
  extract_lets +onlyGivenNames -merge -underBinder x0
  have h1 : Kept m o x0 := by
    unfold x0
    exact kept_State_leaveSearch (sub hm) g0
  clear_value x0
  extract_lets +onlyGivenNames -merge -underBinder x2 x3
  clear_value x2 x3
  extract_lets +onlyGivenNames -merge -underBinder x4
  have h5 : Kept m o x4 := by
    unfold x4
    exact kept_State_cancelFlights (sub hm) h1
  clear_value x4
  extract_lets +onlyGivenNames -merge -underBinder x6
  have h7 : Kept m o x6 := by
    unfold x6
    refine foldlKept ?_ ?_
    · intro a8 a9 a10
      exact keptIte (kept_State_endTransfer (sub hm) a10) a10
    · exact h5
  clear_value x6
  extract_lets +onlyGivenNames -merge -underBinder x11
  clear_value x11
  extract_lets +onlyGivenNames -merge -underBinder x12
  have h13 : Kept m o x12 := by
    unfold x12
    exact keptIte (kept_State_setSbc (sub hm) h7) h7
  clear_value x12
  extract_lets +onlyGivenNames -merge -underBinder x14
  have h15 : Kept m o x14 := by
    unfold x14
    refine foldlKept ?_ ?_
    · intro a16 a17 a18
      extract_lets +onlyGivenNames -merge -underBinder x19
      clear_value x19
      exact keptIte (kept_State_setDrawer (sub hm) a18) a18
    · exact h13
  clear_value x14
  exact kept_State_setCtx (sub hm) h15

theorem kept_State_beginTeardown {v0 : State} {v1 : Nat} {v2 : Nat} {v3 : Bool} {v4 : Option (Nat × Nat)} (hm : m &&& 150700018 = 0) (g0 : Kept m o v0) :
    Kept m o (State.beginTeardown v0 v1 v2 v3 v4) := by
  unfold State.beginTeardown
  extract_lets +onlyGivenNames -merge -underBinder x0
  clear_value x0
  refine keptIte ?_ ?_
  · exact g0
  · extract_lets +onlyGivenNames -merge -underBinder x1
    have h2 : Kept m o x1 := by
      unfold x1
      exact kept_State_leaveSearch (sub hm) g0
    clear_value x1
    extract_lets +onlyGivenNames -merge -underBinder x3
    clear_value x3
    extract_lets +onlyGivenNames -merge -underBinder x4
    have h5 : Kept m o x4 := by
      unfold x4
      exact kept_State_setCtx (sub hm) h2
    clear_value x4
    extract_lets +onlyGivenNames -merge -underBinder x6
    have h7 : Kept m o x6 := by
      unfold x6
      exact keptIte (kept_State_clearTag (sub hm) h5) h5
    clear_value x6
    extract_lets +onlyGivenNames -merge -underBinder x8
    clear_value x8
    extract_lets +onlyGivenNames -merge -underBinder x9
    have h10 : Kept m o x9 := by
      unfold x9
      refine foldlKept ?_ ?_
      · intro a11 a12 a13
        exact kept_State_setDrawer (sub hm) a13
      · exact h7
    clear_value x9
    extract_lets +onlyGivenNames -merge -underBinder x14
    have h15 : Kept m o x14 := by
      unfold x14
      exact kept_State_cancelFlights (sub hm) h10
    clear_value x14
    extract_lets +onlyGivenNames -merge -underBinder x16
    have h17 : Kept m o x16 := by
      unfold x16
      refine foldlKept ?_ ?_
      · intro a18 a19 a20
        exact kept_State_cancelCmd (sub hm) a20
      · exact h15
    clear_value x16
    extract_lets +onlyGivenNames -merge -underBinder x21
    have h22 : Kept m o x21 := by
      unfold x21
      refine foldlKept ?_ ?_
      · intro a23 a24 a25
        extract_lets +onlyGivenNames -merge -underBinder x26
        clear_value x26
        extract_lets +onlyGivenNames -merge -underBinder x27
        have h28 : Kept m o x27 := by
          unfold x27
          exact kept_State_setChan (sub hm) a25
        clear_value x27
        exact keptIte (kept_State_endTransfer (sub hm) h28) h28
      · exact h17
    clear_value x21
    extract_lets +onlyGivenNames -merge -underBinder x29
    have h30 : Kept m o x29 := by
      unfold x29
      refine foldlKept ?_ ?_
      · intro a31 a32 a33
        exact kept_State_leaveLatch (sub hm) a33
      · exact h22
    clear_value x29
    extract_lets +onlyGivenNames -merge -underBinder x34
    have h35 : Kept m o x34 := by
      unfold x34
      exact kept_State_dropLandingsOf (sub hm) h30
    clear_value x34
    extract_lets +onlyGivenNames -merge -underBinder x36
    have h37 : Kept m o x36 := by
      unfold x36
      exact keptIte h35 (kept_State_dropTicketsOf (sub hm) h35)
    clear_value x36
    extract_lets +onlyGivenNames -merge -underBinder x38
    have h39 : Kept m o x38 := by
      unfold x38
      exact keptIte (kept_State_dropState (sub hm) h37) h37
    clear_value x38
    refine foldlKept ?_ ?_
    · intro a40 a41 a42
      exact kept_State_settleDrawer (sub hm) a42
    · exact h39

theorem kept_attachAll {v0 : Nat} {v1 : Nat} {v2 : Word} {v3 : List Nat} {v4 : State} (hm : m &&& 134438898 = 0) (g4 : Kept m o v4) :
    Kept m o (attachAll v0 v1 v2 v3 v4).2 := by
  induction v3 generalizing v0 v1 v2 v4
  · unfold attachAll
    exact g4
  · rename_i ih
    unfold attachAll
    split
    · rename_i y0 y1
      dsimp only [id]
      exact keptPair2 y1 (kept_State_attachError (sub hm) g4)
    · rename_i y2 y3 y4
      apply ih
      exact keptPair2 y4 (kept_State_attachError (sub hm) g4)

theorem kept_contextTeardown {v0 : Nat} {v1 : Nat} {v2 : State} (hm : m &&& 141787122 = 0) (g2 : Kept m o v2) :
    Kept m o (contextTeardown v0 v1 v2) := by
  unfold contextTeardown
  extract_lets +onlyGivenNames -merge -underBinder x0
  clear_value x0
  refine keptIte ?_ ?_
  · exact g2
  · extract_lets +onlyGivenNames -merge -underBinder x1
    clear_value x1
    split
    · rename_i y2 y3
      exact kept_State_keepStall (sub hm) g2 (keptPair2 y3 (kept_attachAll (sub hm) g2))
    · rename_i y4 y5
      extract_lets +onlyGivenNames -merge -underBinder x6
      have h7 : Kept m o x6 := by
        unfold x6
        exact kept_State_passSeq (sub hm) (kept_State_dropLook (sub hm) (keptPair2 y5 (kept_attachAll (sub hm) g2)))
      clear_value x6
      extract_lets +onlyGivenNames -merge -underBinder x8
      clear_value x8
      extract_lets +onlyGivenNames -merge -underBinder x9
      have h10 : Kept m o x9 := by
        unfold x9
        exact keptUpd hm (s := x6) (by constructor <;> first | exact .inl rfl | exact .inr rfl) rfl rfl rfl h7
      clear_value x9
      extract_lets +onlyGivenNames -merge -underBinder x11
      have h12 : Kept m o x11 := by
        unfold x11
        exact kept_State_dropState (sub hm) (kept_State_dropTicketsOf (sub hm) h10)
      clear_value x11
      extract_lets +onlyGivenNames -merge -underBinder x13
      have h14 : Kept m o x13 := by
        unfold x13
        refine foldlKept ?_ ?_
        · intro a15 a16 a17
          exact kept_State_releaseChan (sub hm) a17
        · exact h12
      clear_value x13
      extract_lets +onlyGivenNames -merge -underBinder x18
      clear_value x18
      extract_lets +onlyGivenNames -merge -underBinder x19
      have h20 : Kept m o x19 := by
        unfold x19
        refine foldlKept ?_ ?_
        · intro a21 a22 a23
          exact kept_State_objRelease (sub hm) a23
        · exact h14
      clear_value x19
      extract_lets +onlyGivenNames -merge -underBinder x24
      have h25 : Kept m o x24 := by
        unfold x24
        exact kept_State_setCtx (sub hm) h20
      clear_value x24
      exact keptIte (kept_State_result (sub hm) (keptUpd hm (s := x24) (by constructor <;> first | exact .inl rfl | exact .inr rfl) rfl rfl rfl h25)) h25

end Sys2Proof.Machine
end

