-- ==== Sys2Proof/Laws/KeptFabricCmds.lean ====
section
/-! SUPPORT. For each operation of Machine/FabricCmds.lean, and for each command meaning there: the fields of State it
    never changes (the bits not set in its mask), and that it keeps what Laws/Kept.lean names. -/

namespace Sys2Proof.Machine
set_option Elab.async false
variable {m : Nat} {o : State}

theorem kept_State_sendDisc {v0 : State} {v1 : Nat} (hm : m &&& 4194306 = 0) (g0 : Kept m o v0) :
    Kept m o (State.sendDisc v0 v1) := by
  unfold State.sendDisc
  extract_lets +onlyGivenNames -merge -underBinder x0 x1
  clear_value x0 x1
  extract_lets +onlyGivenNames -merge -underBinder x2
  have h3 : Kept m o x2 := by
    unfold x2
    exact kept_State_setPort (sub hm) g0
  clear_value x2
  extract_lets +onlyGivenNames -merge -underBinder x4 x5
  clear_value x4 x5
  exact kept_State_emit (sub hm) (kept_State_injectPace (sub hm) h3)

theorem kept_State_checkPort {v0 : State} {v1 : Nat} (hm : m &&& 4194338 = 0) (g0 : Kept m o v0) :
    Kept m o (State.checkPort v0 v1) := by
  unfold State.checkPort
  extract_lets +onlyGivenNames -merge -underBinder x0
  clear_value x0
  exact keptIte g0 (keptIte (kept_State_flushPort (sub hm) (kept_State_setPort (sub hm) g0)) (kept_State_setPort (sub hm) g0))

theorem kept_State_startPort {v0 : State} {v1 : Nat} (hm : m &&& 4194304 = 0) (g0 : Kept m o v0) :
    Kept m o (State.startPort v0 v1) := by
  unfold State.startPort
  extract_lets +onlyGivenNames -merge -underBinder x0
  clear_value x0
  exact keptIte (kept_State_setPort (sub hm) g0) g0

theorem kept_State_endPeers {v0 : State} {v1 : Option Nat} {v2 : Nat → Bool} (hm : m &&& 6829090 = 0) (g0 : Kept m o v0) :
    Kept m o (State.endPeers v0 v1 v2) := by
  unfold State.endPeers
  extract_lets +onlyGivenNames -merge -underBinder x0
  have h1 : Kept m o x0 := by
    unfold x0
    refine foldlKept ?_ ?_
    · intro a2 a3 a4
      exact kept_State_endRemote (sub hm) a4
    · exact g0
  clear_value x0
  extract_lets +onlyGivenNames -merge -underBinder x5
  clear_value x5
  refine foldlKept ?_ ?_
  · intro a6 a7 a8
    exact kept_State_endDce (sub hm) a8
  · exact h1

theorem kept_State_portDown {v0 : State} {v1 : Nat} (hm : m &&& 6829090 = 0) (g0 : Kept m o v0) :
    Kept m o (State.portDown v0 v1) := by
  unfold State.portDown
  extract_lets +onlyGivenNames -merge -underBinder x0
  clear_value x0
  refine keptIte ?_ ?_
  · exact g0
  · extract_lets +onlyGivenNames -merge -underBinder x1
    have h2 : Kept m o x1 := by
      unfold x1
      exact kept_State_setPort (sub hm) g0
    clear_value x1
    extract_lets +onlyGivenNames -merge -underBinder x3
    have h4 : Kept m o x3 := by
      unfold x3
      refine foldlKept ?_ ?_
      · intro a5 a6 a7
        exact kept_State_forward (sub hm) a7
      · exact h2
    clear_value x3
    exact keptIte (kept_State_endPeers (sub hm) h4) h4

theorem kept_State_linkDown {v0 : State} {v1 : Nat} (hm : m &&& 141262818 = 0) (g0 : Kept m o v0) :
    Kept m o (State.linkDown v0 v1) := by
  unfold State.linkDown
  refine keptIte ?_ ?_
  · exact g0
  · extract_lets +onlyGivenNames -merge -underBinder x0
    have h1 : Kept m o x0 := by
      unfold x0
      exact kept_State_bump (sub hm) (kept_State_portDown (sub hm) g0)
    clear_value x0
    exact kept_State_faultEvent (sub hm) h1

theorem kept_State_pgCfgWrite {v0 : State} {v1 : Nat} {v2 : Word} (hm : m &&& 6829090 = 0) (g0 : Kept m o v0) :
    Kept m o (State.pgCfgWrite v0 v1 v2) := by
  unfold State.pgCfgWrite
  extract_lets +onlyGivenNames -merge -underBinder x0 x1
  clear_value x0 x1
  extract_lets +onlyGivenNames -merge -underBinder x2
  have h3 : Kept m o x2 := by
    unfold x2
    exact kept_State_setReg (sub hm) g0
  clear_value x2
  exact keptIte (kept_State_startPort (sub hm) h3) (kept_State_portDown (sub hm) h3)

theorem kept_execPortEnable {v0 : Func} {v1 : PortId} {v2 : Word} {v3 : State} (hm : m &&& 159121378 = 0) (g3 : Kept m o v3) :
    ∀ s', (execPortEnable v0 v1 v2 v3) = .next s' → Kept m o s' := by
  unfold execPortEnable
  refine keptNext (kept_State_platform (sub hm) ?_ ?_)
  · exact g3
  · intro a0 a1
    exact kept_State_pgCfgWrite (sub hm) a1

theorem kept_execPortDisable {v0 : Func} {v1 : PortId} {v2 : Word} {v3 : State} (hm : m &&& 159121378 = 0) (g3 : Kept m o v3) :
    ∀ s', (execPortDisable v0 v1 v2 v3) = .next s' → Kept m o s' := by
  unfold execPortDisable
  refine keptNext (kept_State_platform (sub hm) ?_ ?_)
  · exact g3
  · intro a0 a1
    exact kept_State_pgCfgWrite (sub hm) a1

theorem kept_linkUp {v0 : Nat} {v1 : Nat} {v2 : State} (hm : m &&& 4194304 = 0) (g2 : Kept m o v2) :
    Kept m o (linkUp v0 v1 v2) := by
  unfold linkUp
  exact keptIte (kept_State_startPort (sub hm) (kept_State_setPort (sub hm) g2)) g2

theorem kept_portEvent {v0 : Nat} {v1 : State → State} {v2 : State} (hm : m &&& 0 = 0) (g1 : ∀ a0, Kept m o a0 → Kept m o (v1 a0)) (g2 : Kept m o v2) :
    ∀ s', (portEvent v0 v1 v2) = .next s' → Kept m o s' := by
  unfold portEvent
  exact keptNext (keptIte (g1 _ g2) g2)

theorem kept_linkEvent {v0 : State → State} {v1 : State} (hm : m &&& 0 = 0) (g0 : ∀ a0, Kept m o a0 → Kept m o (v0 a0)) (g1 : Kept m o v1) :
    ∀ s', (linkEvent v0 v1) = .next s' → Kept m o s' := by
  unfold linkEvent
  exact keptNext (keptIte (g0 _ g1) g1)

theorem kept_execLinkUp {v0 : PortId} {v1 : Fin 16} {v2 : State} (hm : m &&& 4194304 = 0) (g2 : Kept m o v2) :
    ∀ s', (execLinkUp v0 v1 v2) = .next s' → Kept m o s' := by
  unfold execLinkUp
  exact keptNext (keptIte (kept_linkUp (sub hm) g2) g2)

theorem kept_execPhyLossOfLink {v0 : PortId} {v1 : State} (hm : m &&& 141262818 = 0) (g1 : Kept m o v1) :
    ∀ s', (execPhyLossOfLink v0 v1) = .next s' → Kept m o s' := by
  unfold execPhyLossOfLink
  refine keptNext (keptIte ?_ ?_)
  · dsimp only
    exact kept_State_setPort (sub hm) (kept_State_linkDown (sub hm) g1)
  · exact g1

theorem kept_execControlWordTimeout {v0 : PortId} {v1 : State} (hm : m &&& 141262818 = 0) (g1 : Kept m o v1) :
    ∀ s', (execControlWordTimeout v0 v1) = .next s' → Kept m o s' := by
  unfold execControlWordTimeout
  refine keptNext (keptIte ?_ ?_)
  · dsimp only
    exact kept_State_linkDown (sub hm) g1
  · exact g1

theorem kept_execFlitRetryLimit {v0 : PortId} {v1 : State} (hm : m &&& 141262818 = 0) (g1 : Kept m o v1) :
    ∀ s', (execFlitRetryLimit v0 v1) = .next s' → Kept m o s' := by
  unfold execFlitRetryLimit
  refine keptNext (keptIte ?_ ?_)
  · dsimp only
    exact kept_State_linkDown (sub hm) g1
  · exact g1

theorem kept_execFlitCrcError {v0 : PortId} {v1 : Option Nat} {v2 : State} (hm : m &&& 32 = 0) (g2 : Kept m o v2) :
    ∀ s', (execFlitCrcError v0 v1 v2) = .next s' → Kept m o s' := by
  unfold execFlitCrcError
  refine keptNext (keptIte ?_ ?_)
  · dsimp only
    refine keptIte ?_ ?_
    · exact g2
    · split
      · exact kept_State_bump (sub hm) g2
      · exact kept_State_bump (sub hm) g2
  · exact g2

theorem kept_onDisc {v0 : Nat} {v1 : Packet} {v2 : State} (hm : m &&& 4194338 = 0) (g2 : Kept m o v2) :
    Kept m o (onDisc v0 v1 v2) := by
  unfold onDisc
  extract_lets +onlyGivenNames -merge -underBinder x0 x1
  clear_value x0 x1
  refine keptIte ?_ ?_
  · exact g2
  · extract_lets +onlyGivenNames -merge -underBinder x2
    have h3 : Kept m o x2 := by
      unfold x2
      exact kept_State_setPort (sub hm) g2
    clear_value x2
    exact keptIte (kept_State_checkPort (sub hm) h3) h3

theorem kept_execDiscPacket {v0 : Option PortId} {v1 : Packet} {v2 : State} (hm : m &&& 4194338 = 0) (g2 : Kept m o v2) :
    ∀ s', (execDiscPacket v0 v1 v2) = .next s' → Kept m o s' := by
  unfold execDiscPacket
  split
  · exact keptNext (keptIte (kept_onDisc (sub hm) g2) g2)
  · exact keptNext g2

theorem kept_execDiscTimer {v0 : PortId} {v1 : State} (hm : m &&& 4194338 = 0) (g1 : Kept m o v1) :
    ∀ s', (execDiscTimer v0 v1) = .next s' → Kept m o s' := by
  unfold execDiscTimer
  refine keptNext (keptIte ?_ ?_)
  · dsimp only
    exact keptIte (keptIte (kept_State_checkPort (sub hm) (kept_State_sendDisc (sub hm) g1)) (kept_State_sendDisc (sub hm) g1)) g1
  · exact g1

theorem kept_State_frCfgWrite {v0 : State} {v1 : Word} (hm : m &&& 32 = 0) (g0 : Kept m o v0) :
    Kept m o (State.frCfgWrite v0 v1) := by
  unfold State.frCfgWrite
  extract_lets +onlyGivenNames -merge -underBinder x0 x1
  clear_value x0 x1
  extract_lets +onlyGivenNames -merge -underBinder x2
  have h3 : Kept m o x2 := by
    unfold x2
    exact kept_State_setReg (sub hm) g0
  clear_value x2
  exact keptIte (kept_State_setRfld (sub hm) h3) h3

theorem kept_execFabricEnable {v0 : Func} {v1 : Word} {v2 : State} (hm : m &&& 152293346 = 0) (g2 : Kept m o v2) :
    ∀ s', (execFabricEnable v0 v1 v2) = .next s' → Kept m o s' := by
  unfold execFabricEnable
  refine keptNext (kept_State_platform (sub hm) ?_ ?_)
  · exact g2
  · intro a0 a1
    exact kept_State_frCfgWrite (sub hm) a1

theorem kept_execFabricTransit {v0 : Option PortId} {v1 : Packet} {v2 : State} (hm : m &&& 4194338 = 0) (g2 : Kept m o v2) :
    ∀ s', (execFabricTransit v0 v1 v2) = .next s' → Kept m o s' := by
  unfold execFabricTransit
  refine keptNext (keptIte ?_ ?_)
  · exact g2
  · refine kept_State_receive (sub hm) ?_ ?_
    · exact g2
    · intro a0 a1
      exact kept_State_forward (sub hm) a1

theorem kept_State_keepHere {v0 : State} {v1 : Packet} (hm : m &&& 4194304 = 0) (g0 : Kept m o v0) :
    Kept m o (State.keepHere v0 v1) := by
  unfold State.keepHere
  exact keptUpd hm (s := v0) (by constructor <;> first | exact .inl rfl | exact .inr rfl) rfl rfl rfl g0

theorem kept_onWrite {v0 : Option Nat} {v1 : Packet} {v2 : State} (hm : m &&& 156458994 = 0) (g2 : Kept m o v2) :
    Kept m o (onWrite v0 v1 v2) := by
  unfold onWrite
  split
  · rename_i y0 y1
    exact keptPair2 y1 (kept_State_arrives (sub hm) g2)
  · rename_i y2 y3
    extract_lets +onlyGivenNames -merge -underBinder x4 x5
    clear_value x4 x5
    extract_lets +onlyGivenNames -merge -underBinder x6
    have h7 : ∀ a0 a1, Kept m o a1 → Kept m o (x6 a0 a1) := by
      intro a8 a9 a10
      unfold x6
      exact kept_State_reply (sub hm) a10
    clear_value x6
    refine keptIte ?_ ?_
    · exact h7 _ _ (keptPair2 y3 (kept_State_arrives (sub hm) g2))
    · split
      · rename_i y11 y12
        exact h7 _ _ (keptPair2 y12 (kept_State_vaWrite (sub hm) (keptPair2 y3 (kept_State_arrives (sub hm) g2))))
      · rename_i y13 y14
        exact h7 _ _ (keptPair2 y14 (kept_State_vaWrite (sub hm) (keptPair2 y3 (kept_State_arrives (sub hm) g2))))
      · rename_i y15 y16
        exact kept_State_keepHere (sub hm) (keptPair2 y16 (kept_State_vaWrite (sub hm) (keptPair2 y3 (kept_State_arrives (sub hm) g2))))

theorem kept_onRead {v0 : Option Nat} {v1 : Packet} {v2 : State} (hm : m &&& 156458994 = 0) (g2 : Kept m o v2) :
    Kept m o (onRead v0 v1 v2) := by
  unfold onRead
  split
  · rename_i y0 y1
    exact keptPair2 y1 (kept_State_arrives (sub hm) g2)
  · rename_i y2 y3
    extract_lets +onlyGivenNames -merge -underBinder x4 x5
    clear_value x4 x5
    extract_lets +onlyGivenNames -merge -underBinder x6
    have h7 : ∀ a0 a1 a2, Kept m o a2 → Kept m o (x6 a0 a1 a2) := by
      intro a8 a9 a10 a11
      unfold x6
      exact kept_State_reply (sub hm) a11
    clear_value x6
    refine keptIte ?_ ?_
    · exact h7 _ _ _ (keptPair2 y3 (kept_State_arrives (sub hm) g2))
    · split
      · rename_i y12 y13
        exact h7 _ _ _ (keptPair2 y13 (kept_State_vaRead (sub hm) (keptPair2 y3 (kept_State_arrives (sub hm) g2))))
      · rename_i y14 y15
        exact h7 _ _ _ (keptPair2 y15 (kept_State_vaRead (sub hm) (keptPair2 y3 (kept_State_arrives (sub hm) g2))))
      · rename_i y16 y17
        exact kept_State_keepHere (sub hm) (keptPair2 y17 (kept_State_vaRead (sub hm) (keptPair2 y3 (kept_State_arrives (sub hm) g2))))

theorem kept_State_tileMoves {v0 : State} {v1 : Nat} (hm : m &&& 8192 = 0) (g0 : Kept m o v0) :
    Kept m o (State.tileMoves v0 v1) := by
  unfold State.tileMoves
  exact kept_State_setTile (sub hm) g0

theorem kept_onReply {v0 : Option Nat} {v1 : Packet} {v2 : State} (hm : m &&& 156463074 = 0) (g2 : Kept m o v2) :
    Kept m o (onReply v0 v1 v2) := by
  unfold onReply
  split
  · rename_i y0 y1
    exact keptPair2 y1 (kept_State_arrives (sub hm) g2)
  · rename_i y2 y3
    split
    · exact keptPair2 y3 (kept_State_arrives (sub hm) g2)
    · split
      · refine keptIte ?_ ?_
        · exact keptPair2 y3 (kept_State_arrives (sub hm) g2)
        · extract_lets +onlyGivenNames -merge -underBinder x4
          have h5 : Kept m o x4 := by
            unfold x4
            exact kept_State_tileMoves (sub hm) (keptIte (kept_State_dropRemote (sub hm) (keptPair2 y3 (kept_State_arrives (sub hm) g2))) (kept_State_dropWrite (sub hm) (keptPair2 y3 (kept_State_arrives (sub hm) g2))))
          clear_value x4
          exact keptIte (keptIte (kept_State_emit (sub hm) h5) h5) (kept_State_emit (sub hm) (kept_State_noteErr (sub hm) h5))
      · refine keptIte ?_ ?_
        · exact keptPair2 y3 (kept_State_arrives (sub hm) g2)
        · extract_lets +onlyGivenNames -merge -underBinder x6
          have h7 : Kept m o x6 := by
            unfold x6
            exact kept_State_tileMoves (sub hm) (kept_State_dropRemote (sub hm) (keptPair2 y3 (kept_State_arrives (sub hm) g2)))
          clear_value x6
          exact keptIte (kept_State_emit (sub hm) h7) (kept_State_emit (sub hm) (kept_State_noteErr (sub hm) h7))
      · exact keptPair2 y3 (kept_State_arrives (sub hm) g2)

theorem kept_signalRemote {v0 : Flight} {v1 : State} (hm : m &&& 4195874 = 0) (g1 : Kept m o v1) :
    Kept m o (signalRemote v0 v1) := by
  unfold signalRemote
  refine keptIte ?_ ?_
  · exact kept_State_endFlight (sub hm) g1
  · extract_lets +onlyGivenNames -merge -underBinder x0
    clear_value x0
    extract_lets +onlyGivenNames -merge -underBinder x1
    have h2 : Kept m o x1.2 := by
      unfold x1
      exact kept_State_remote (sub hm) g1
    clear_value x1
    extract_lets +onlyGivenNames -merge -underBinder x3
    clear_value x3
    exact kept_State_inject (sub hm) (kept_State_startFlight (sub hm) h2)

theorem kept_execSignalRemote {v0 : CabId} {v1 : DrawerId} {v2 : Seq} {v3 : State} (hm : m &&& 4195874 = 0) (g3 : Kept m o v3) :
    ∀ s', (execSignalRemote v0 v1 v2 v3) = .next s' → Kept m o s' := by
  unfold execSignalRemote
  refine keptNext (kept_State_work (sub hm) ?_ ?_)
  · exact g3
  · intro a0 a1
    split
    · exact keptIte (kept_signalRemote (sub hm) a1) a1
    · exact a1

theorem kept_execRemoteSignalTimeout {v0 : CabId} {v1 : DrawerId} {v2 : Seq} {v3 : State} (hm : m &&& 4203554 = 0) (g3 : Kept m o v3) :
    ∀ s', (execRemoteSignalTimeout v0 v1 v2 v3) = .next s' → Kept m o s' := by
  unfold execRemoteSignalTimeout
  refine keptNext (kept_State_work (sub hm) ?_ ?_)
  · exact g3
  · intro a0 a1
    split
    · exact keptIte (kept_State_endRemote (sub hm) a1) a1
    · exact a1

theorem kept_onSignal {v0 : Option Nat} {v1 : Packet} {v2 : State} (hm : m &&& 156458994 = 0) (g2 : Kept m o v2) :
    Kept m o (onSignal v0 v1 v2) := by
  unfold onSignal
  split
  · rename_i y0 y1
    exact keptPair2 y1 (kept_State_arrives (sub hm) g2)
  · rename_i y2 y3
    extract_lets +onlyGivenNames -merge -underBinder x4
    have h5 : ∀ a0 a1, Kept m o a1 → Kept m o (x4 a0 a1) := by
      intro a6 a7 a8
      unfold x4
      exact kept_State_reply (sub hm) a8
    clear_value x4
    extract_lets +onlyGivenNames -merge -underBinder x9
    clear_value x9
    extract_lets +onlyGivenNames -merge -underBinder x10
    have h11 : ∀ a0, Kept m o a0 → Kept m o (x10 a0) := by
      intro a12 a13
      unfold x10
      exact h5 _ _ (kept_State_bump (sub hm) (kept_State_bump (sub hm) a13))
    clear_value x10
    split
    · exact h11 _ (keptPair2 y3 (kept_State_arrives (sub hm) g2))
    · refine keptIte ?_ ?_
      · exact h11 _ (keptPair2 y3 (kept_State_arrives (sub hm) g2))
      · extract_lets +onlyGivenNames -merge -underBinder x14
        clear_value x14
        split
        · rename_i y15 y16
          exact h5 _ _ (kept_State_setLatch (sub hm) (keptPair2 y16 (kept_State_signalFence (sub hm) (keptPair2 y3 (kept_State_arrives (sub hm) g2)))))
        · rename_i y17 y18
          exact h5 _ _ (keptPair2 y18 (kept_State_signalFence (sub hm) (keptPair2 y3 (kept_State_arrives (sub hm) g2))))
        · rename_i y19 y20
          exact kept_State_keepHere (sub hm) (keptPair2 y20 (kept_State_signalFence (sub hm) (keptPair2 y3 (kept_State_arrives (sub hm) g2))))

theorem kept_onSack {v0 : Option Nat} {v1 : Packet} {v2 : State} (hm : m &&& 156454882 = 0) (g2 : Kept m o v2) :
    Kept m o (onSack v0 v1 v2) := by
  unfold onSack
  split
  · rename_i y0 y1
    exact keptPair2 y1 (kept_State_arrives (sub hm) g2)
  · rename_i y2 y3
    split
    · split
      · extract_lets +onlyGivenNames -merge -underBinder x4
        clear_value x4
        exact kept_State_endFlight (sub hm) (kept_State_dropRemote (sub hm) (keptPair2 y3 (kept_State_arrives (sub hm) g2)))
      · exact keptPair2 y3 (kept_State_arrives (sub hm) g2)
    · exact keptPair2 y3 (kept_State_arrives (sub hm) g2)

theorem kept_onUnreach {v0 : Packet} {v1 : State} (hm : m &&& 6829090 = 0) (g1 : Kept m o v1) :
    Kept m o (onUnreach v0 v1) := by
  unfold onUnreach
  extract_lets +onlyGivenNames -merge -underBinder x0 x1
  clear_value x0 x1
  exact kept_State_endPeers (sub hm) g1

theorem kept_onAbort {v0 : Option Nat} {v1 : Packet} {v2 : State} (hm : m &&& 141262834 = 0) (g2 : Kept m o v2) :
    Kept m o (onAbort v0 v1 v2) := by
  unfold onAbort
  extract_lets +onlyGivenNames -merge -underBinder x0 x1 x2
  clear_value x0 x1 x2
  refine keptIte ?_ ?_
  · exact g2
  · extract_lets +onlyGivenNames -merge -underBinder x3
    clear_value x3
    extract_lets +onlyGivenNames -merge -underBinder x4
    have h5 : Kept m o x4 := by
      unfold x4
      exact keptUpd hm (s := v2) (by constructor <;> first | exact .inl rfl | exact .inr rfl) rfl rfl rfl g2
    clear_value x4
    extract_lets +onlyGivenNames -merge -underBinder x6
    have h7 : Kept m o x6 := by
      unfold x6
      split
      · exact kept_State_bump (sub hm) (kept_State_applyAbort (sub hm) h5)
      · exact h5
    clear_value x6
    exact kept_State_flood (sub hm) h7

theorem kept_execAbortCacheExpiry {v0 : State} (hm : m &&& 4194304 = 0) (g0 : Kept m o v0) :
    ∀ s', (execAbortCacheExpiry v0) = .next s' → Kept m o s' := by
  unfold execAbortCacheExpiry
  refine keptNext (kept_State_work (sub hm) ?_ ?_)
  · exact g0
  · intro a0 a1
    exact keptUpd hm (s := a0) (by constructor <;> first | exact .inl rfl | exact .inr rfl) rfl rfl rfl a1

theorem kept_packetHere {v0 : Option PortId} {v1 : Packet} {v2 : Nat} {v3 : Option Nat → Packet → State → State} {v4 : State} (hm : m &&& 4194336 = 0) (g3 : ∀ a0 a1 a2, Kept m o a2 → Kept m o (v3 a0 a1 a2)) (g4 : Kept m o v4) :
    ∀ s', (packetHere v0 v1 v2 v3 v4) = .next s' → Kept m o s' := by
  unfold packetHere
  refine keptNext (keptIte ?_ ?_)
  · refine kept_State_receive (sub hm) ?_ ?_
    · exact g4
    · intro a0 a1
      exact g3 _ _ _ a1
  · exact g4

theorem kept_execWritePacket {v0 : Option PortId} {v1 : Packet} {v2 : State} (hm : m &&& 156458994 = 0) (g2 : Kept m o v2) :
    ∀ s', (execWritePacket v0 v1 v2) = .next s' → Kept m o s' := by
  unfold execWritePacket
  refine keptNext (keptIte ?_ ?_)
  · refine kept_State_receive (sub hm) ?_ ?_
    · exact g2
    · intro a0 a1
      exact kept_onWrite (sub hm) a1
  · exact g2

theorem kept_execWackPacket {v0 : Option PortId} {v1 : Packet} {v2 : State} (hm : m &&& 156463074 = 0) (g2 : Kept m o v2) :
    ∀ s', (execWackPacket v0 v1 v2) = .next s' → Kept m o s' := by
  unfold execWackPacket
  refine keptNext (keptIte ?_ ?_)
  · refine kept_State_receive (sub hm) ?_ ?_
    · exact g2
    · intro a0 a1
      exact kept_onReply (sub hm) a1
  · exact g2

theorem kept_execReadPacket {v0 : Option PortId} {v1 : Packet} {v2 : State} (hm : m &&& 156458994 = 0) (g2 : Kept m o v2) :
    ∀ s', (execReadPacket v0 v1 v2) = .next s' → Kept m o s' := by
  unfold execReadPacket
  refine keptNext (keptIte ?_ ?_)
  · refine kept_State_receive (sub hm) ?_ ?_
    · exact g2
    · intro a0 a1
      exact kept_onRead (sub hm) a1
  · exact g2

theorem kept_execRdataPacket {v0 : Option PortId} {v1 : Packet} {v2 : State} (hm : m &&& 156463074 = 0) (g2 : Kept m o v2) :
    ∀ s', (execRdataPacket v0 v1 v2) = .next s' → Kept m o s' := by
  unfold execRdataPacket
  refine keptNext (keptIte ?_ ?_)
  · refine kept_State_receive (sub hm) ?_ ?_
    · exact g2
    · intro a0 a1
      exact kept_onReply (sub hm) a1
  · exact g2

theorem kept_execSignalPacket {v0 : Option PortId} {v1 : Packet} {v2 : State} (hm : m &&& 156458994 = 0) (g2 : Kept m o v2) :
    ∀ s', (execSignalPacket v0 v1 v2) = .next s' → Kept m o s' := by
  unfold execSignalPacket
  refine keptNext (keptIte ?_ ?_)
  · refine kept_State_receive (sub hm) ?_ ?_
    · exact g2
    · intro a0 a1
      exact kept_onSignal (sub hm) a1
  · exact g2

theorem kept_execSackPacket {v0 : Option PortId} {v1 : Packet} {v2 : State} (hm : m &&& 156454882 = 0) (g2 : Kept m o v2) :
    ∀ s', (execSackPacket v0 v1 v2) = .next s' → Kept m o s' := by
  unfold execSackPacket
  refine keptNext (keptIte ?_ ?_)
  · refine kept_State_receive (sub hm) ?_ ?_
    · exact g2
    · intro a0 a1
      exact kept_onSack (sub hm) a1
  · exact g2

theorem kept_execUnreachPacket {v0 : Option PortId} {v1 : Packet} {v2 : State} (hm : m &&& 6829090 = 0) (g2 : Kept m o v2) :
    ∀ s', (execUnreachPacket v0 v1 v2) = .next s' → Kept m o s' := by
  unfold execUnreachPacket
  refine keptNext (keptIte ?_ ?_)
  · refine kept_State_receive (sub hm) ?_ ?_
    · exact g2
    · intro a0 a1
      dsimp only
      exact kept_onUnreach (sub hm) a1
  · exact g2

theorem kept_execAbortPacket {v0 : Option PortId} {v1 : Packet} {v2 : State} (hm : m &&& 141262834 = 0) (g2 : Kept m o v2) :
    ∀ s', (execAbortPacket v0 v1 v2) = .next s' → Kept m o s' := by
  unfold execAbortPacket
  refine keptNext (keptIte ?_ ?_)
  · refine kept_State_receive (sub hm) ?_ ?_
    · exact g2
    · intro a0 a1
      exact kept_onAbort (sub hm) a1
  · exact g2

theorem kept_State_flipKey {v0 : State} {v1 : Nat} (hm : m &&& 4194850 = 0) (g0 : Kept m o v0) :
    Kept m o (State.flipKey v0 v1) := by
  unfold State.flipKey
  extract_lets +onlyGivenNames -merge -underBinder x0 x1
  clear_value x0 x1
  extract_lets +onlyGivenNames -merge -underBinder x2
  have h3 : Kept m o x2 := by
    unfold x2
    exact keptUpd hm (s := v0) (by constructor <;> first | exact .inl rfl | exact .inr rfl) rfl rfl rfl g0
  clear_value x2
  refine foldlKept ?_ ?_
  · intro a4 a5 a6
    extract_lets +onlyGivenNames -merge -underBinder x7
    clear_value x7
    extract_lets +onlyGivenNames -merge -underBinder x8
    have h9 : Kept m o x8 := by
      unfold x8
      exact keptUpd hm (s := a4) (by constructor <;> first | exact .inl rfl | exact .inr rfl) rfl rfl rfl a6
    clear_value x8
    exact kept_State_inject (sub hm) h9
  · exact h3

theorem kept_State_jobWrite {v0 : State} {v1 : Nat} {v2 : Word} (hm : m &&& 141262834 = 0) (g0 : Kept m o v0) :
    Kept m o (State.jobWrite v0 v1 v2) := by
  unfold State.jobWrite
  extract_lets +onlyGivenNames -merge -underBinder x0
  clear_value x0
  refine keptIte ?_ ?_
  · extract_lets +onlyGivenNames -merge -underBinder x1
    have h2 : Kept m o x1 := by
      unfold x1
      exact keptIte (kept_State_clearTag (sub hm) g0) g0
    clear_value x1
    extract_lets +onlyGivenNames -merge -underBinder x3
    have h4 : Kept m o x3 := by
      unfold x3
      exact kept_State_setRfld (sub hm) h2
    clear_value x3
    exact keptIte (kept_State_flipKey (sub hm) h4) h4
  · extract_lets +onlyGivenNames -merge -underBinder x5
    clear_value x5
    extract_lets +onlyGivenNames -merge -underBinder x6
    have h7 : Kept m o x6 := by
      unfold x6
      exact keptIte g0 (keptUpd hm (s := v0) (by constructor <;> first | exact .inl rfl | exact .inr rfl) rfl rfl rfl g0)
    clear_value x6
    extract_lets +onlyGivenNames -merge -underBinder x8
    have h9 : Kept m o x8 := by
      unfold x8
      exact kept_State_setReg (sub hm) h7
    clear_value x8
    extract_lets +onlyGivenNames -merge -underBinder x10
    have h11 : Kept m o x10 := by
      unfold x10
      exact keptIte (kept_State_flipKey (sub hm) h9) h9
    clear_value x10
    exact keptIte (kept_State_setRfld (sub hm) h11) h11

theorem kept_execJobTagSet {v0 : Func} {v1 : CabId} {v2 : Word} {v3 : State} (hm : m &&& 159121394 = 0) (g3 : Kept m o v3) :
    ∀ s', (execJobTagSet v0 v1 v2 v3) = .next s' → Kept m o s' := by
  unfold execJobTagSet
  refine keptNext (kept_State_platform (sub hm) ?_ ?_)
  · exact g3
  · intro a0 a1
    exact kept_State_jobWrite (sub hm) a1

theorem kept_execJobTagClear {v0 : Func} {v1 : CabId} {v2 : Word} {v3 : State} (hm : m &&& 159121394 = 0) (g3 : Kept m o v3) :
    ∀ s', (execJobTagClear v0 v1 v2 v3) = .next s' → Kept m o s' := by
  unfold execJobTagClear
  refine keptNext (kept_State_platform (sub hm) ?_ ?_)
  · exact g3
  · intro a0 a1
    exact kept_State_jobWrite (sub hm) a1

theorem kept_execJobTxkeyFlip {v0 : Func} {v1 : CabId} {v2 : Word} {v3 : State} (hm : m &&& 159121394 = 0) (g3 : Kept m o v3) :
    ∀ s', (execJobTxkeyFlip v0 v1 v2 v3) = .next s' → Kept m o s' := by
  unfold execJobTxkeyFlip
  refine keptNext (kept_State_platform (sub hm) ?_ ?_)
  · exact g3
  · intro a0 a1
    exact kept_State_jobWrite (sub hm) a1

theorem kept_State_jobKeyWrite {v0 : State} {v1 : Nat} {v2 : Nat} {v3 : Word} (hm : m &&& 4194304 = 0) (g0 : Kept m o v0) :
    Kept m o (State.jobKeyWrite v0 v1 v2 v3) := by
  unfold State.jobKeyWrite
  exact keptIte g0 (keptUpd hm (s := v0) (by constructor <;> first | exact .inl rfl | exact .inr rfl) rfl rfl rfl g0)

theorem kept_execFrJobkeyWrite {v0 : Func} {v1 : CabId} {v2 : Fin 4} {v3 : Word} {v4 : State} (hm : m &&& 156487650 = 0) (g4 : Kept m o v4) :
    ∀ s', (execFrJobkeyWrite v0 v1 v2 v3 v4) = .next s' → Kept m o s' := by
  unfold execFrJobkeyWrite
  refine keptNext (kept_State_platform (sub hm) ?_ ?_)
  · exact g4
  · intro a0 a1
    exact kept_State_jobKeyWrite (sub hm) a1

theorem kept_execFrAbortWrite {v0 : Func} {v1 : Word} {v2 : State} (hm : m &&& 159121394 = 0) (g2 : Kept m o v2) :
    ∀ s', (execFrAbortWrite v0 v1 v2) = .next s' → Kept m o s' := by
  unfold execFrAbortWrite
  refine keptNext (kept_State_platform (sub hm) ?_ ?_)
  · exact g2
  · intro a0 a1
    exact kept_State_abortJob (sub hm) a1

theorem kept_State_openLedgers {v0 : State} (hm : m &&& 4194338 = 0) (g0 : Kept m o v0) :
    Kept m o (State.openLedgers v0) := by
  unfold State.openLedgers
  refine foldlKept ?_ ?_
  · intro a0 a1 a2
    extract_lets +onlyGivenNames -merge -underBinder x3
    extract_lets +onlyGivenNames -merge -underBinder x4
    exact keptIte (kept_State_setPort (sub hm) a2) (kept_State_portOwn (sub hm) (kept_State_setPort (sub hm) a2))
  · exact g0

theorem kept_State_enterStopping {v0 : State} {v1 : Nat} {v2 : Nat} {v3 : Nat} {v4 : Bool} (hm : m &&& 138629090 = 0) (g0 : Kept m o v0) :
    Kept m o (State.enterStopping v0 v1 v2 v3 v4) := by
  unfold State.enterStopping
  extract_lets +onlyGivenNames -merge -underBinder x0 x1
  clear_value x0 x1
  extract_lets +onlyGivenNames -merge -underBinder x2
  have h3 : Kept m o x2 := by
    unfold x2
    exact keptUpd hm (s := v0) (by constructor <;> first | exact .inl rfl | exact .inr rfl) rfl rfl rfl g0
  clear_value x2
  exact kept_State_traceStop (sub hm) (keptIte (kept_State_openLedgers (sub hm) h3) h3)

theorem kept_State_closeLedger {v0 : State} {v1 : Nat} (hm : m &&& 4194338 = 0) (g0 : Kept m o v0) :
    Kept m o (State.closeLedger v0 v1) := by
  unfold State.closeLedger
  extract_lets +onlyGivenNames -merge -underBinder x0
  clear_value x0
  exact keptIte (kept_State_portOwn (sub hm) (kept_State_setPort (sub hm) g0)) g0

theorem kept_onMarker {v0 : Nat} {v1 : Packet} {v2 : State} (hm : m &&& 138629090 = 0) (g2 : Kept m o v2) :
    Kept m o (onMarker v0 v1 v2) := by
  unfold onMarker
  extract_lets +onlyGivenNames -merge -underBinder x0
  clear_value x0
  split
  · exact kept_State_closeLedger (sub hm) (kept_State_enterStopping (sub hm) (keptUpd hm (s := v2) (by constructor <;> first | exact .inl rfl | exact .inr rfl) rfl rfl rfl g2))
  · exact keptIte (kept_State_closeLedger (sub hm) (kept_State_enterStopping (sub hm) g2)) (kept_State_bump (sub hm) g2)
  · exact keptIte (kept_State_closeLedger (sub hm) g2) (kept_State_bump (sub hm) g2)

theorem kept_linkPacket {v0 : Option PortId} {v1 : Packet} {v2 : Nat} {v3 : Nat → Packet → State → State} {v4 : State} (hm : m &&& 4194304 = 0) (g3 : ∀ a0 a1 a2, Kept m o a2 → Kept m o (v3 a0 a1 a2)) (g4 : Kept m o v4) :
    ∀ s', (linkPacket v0 v1 v2 v3 v4) = .next s' → Kept m o s' := by
  unfold linkPacket
  split
  · exact keptNext (keptIte (keptIte (kept_State_holdArrival (sub hm) g4) (g3 _ _ _ g4)) g4)
  · exact keptNext g4

theorem kept_execMarkerPacket {v0 : Option PortId} {v1 : Packet} {v2 : State} (hm : m &&& 138629090 = 0) (g2 : Kept m o v2) :
    ∀ s', (execMarkerPacket v0 v1 v2) = .next s' → Kept m o s' := by
  unfold execMarkerPacket
  refine kept_linkPacket (sub hm) ?_ ?_
  · intro a0 a1 a2 a3
    exact kept_onMarker (sub hm) a3
  · exact g2

theorem kept_onLedger {v0 : Nat} {v1 : Packet} {v2 : State} (hm : m &&& 4194304 = 0) (g2 : Kept m o v2) :
    Kept m o (onLedger v0 v1 v2) := by
  unfold onLedger
  exact kept_State_setPort (sub hm) g2

theorem kept_execLedgerPacket {v0 : Option PortId} {v1 : Packet} {v2 : State} (hm : m &&& 4194304 = 0) (g2 : Kept m o v2) :
    ∀ s', (execLedgerPacket v0 v1 v2) = .next s' → Kept m o s' := by
  unfold execLedgerPacket
  refine kept_linkPacket (sub hm) ?_ ?_
  · intro a0 a1 a2 a3
    exact kept_onLedger (sub hm) a3
  · exact g2

theorem kept_deliver {v0 : Nat} {v1 : Packet} {v2 : State} (hm : m &&& 159088626 = 0) (g2 : Kept m o v2) :
    Kept m o (deliver v0 v1 v2) := by
  unfold deliver
  extract_lets +onlyGivenNames -merge -underBinder x0
  clear_value x0
  refine keptIte ?_ ?_
  · exact kept_onAbort (sub hm) g2
  · refine keptIte ?_ ?_
    · exact kept_onMarker (sub hm) g2
    · refine keptIte ?_ ?_
      · exact kept_onLedger (sub hm) g2
      · exact keptIte (kept_onDisc (sub hm) g2) (keptIte (kept_State_forward (sub hm) g2) (keptIte (kept_onUnreach (sub hm) g2) (keptIte (kept_onWrite (sub hm) g2) (keptIte (kept_onRead (sub hm) g2) (keptIte (kept_onReply (sub hm) g2) (keptIte (kept_onSignal (sub hm) g2) (keptIte (kept_onSack (sub hm) g2) (keptIte (kept_onSetPacket (sub hm) g2) (keptIte (kept_onSeal (sub hm) g2) (keptIte (kept_onCommit (sub hm) g2) (keptIte (kept_onDiscard (sub hm) g2) (keptIte (kept_onSetrsp (sub hm) g2) g2))))))))))))

theorem kept_State_deliverHeld {v0 : Nat} {v1 : State} {v2 : Packet} (hm : m &&& 159088626 = 0) (g1 : Kept m o v1) :
    Kept m o (State.deliverHeld v0 v1 v2) := by
  unfold State.deliverHeld
  exact keptIte (kept_State_setPort (sub hm) g1) (kept_deliver (sub hm) g1)

theorem kept_State_releasePort {v0 : State} {v1 : Nat} (hm : m &&& 159088626 = 0) (g0 : Kept m o v0) :
    Kept m o (State.releasePort v0 v1) := by
  unfold State.releasePort
  extract_lets +onlyGivenNames -merge -underBinder x0
  clear_value x0
  extract_lets +onlyGivenNames -merge -underBinder x1
  have h2 : Kept m o x1 := by
    unfold x1
    exact kept_State_setPort (sub hm) g0
  clear_value x1
  refine kept_State_flushPort (sub hm) (foldlKept ?_ ?_)
  · intro a3 a4 a5
    exact kept_State_deliverHeld (sub hm) a5
  · exact h2

theorem kept_State_holdPort {v0 : State} {v1 : Nat} (hm : m &&& 4194304 = 0) (g0 : Kept m o v0) :
    Kept m o (State.holdPort v0 v1) := by
  unfold State.holdPort
  extract_lets +onlyGivenNames -merge -underBinder x0
  clear_value x0
  exact keptIte (kept_State_setPort (sub hm) g0) g0

end Sys2Proof.Machine
end

