-- ==== Sys2Proof/Laws/KeptCabinets.lean ====
section
/-! SUPPORT. For each operation of Machine/Cabinets.lean, and for each command meaning there: the fields of State it
    never changes (the bits not set in its mask), and that it keeps what Laws/Kept.lean names. -/

namespace Sys2Proof.Machine
set_option Elab.async false
variable {m : Nat} {o : State}

theorem kept_reachesGone {v0 : Nat} {v1 : Nat} {v2 : List (Nat × Nat)} {v3 : Nat} {v4 : Nat} {v5 : Nat} {v6 : State} (hm : m &&& 134438896 = 0) (g6 : Kept m o v6) :
    Kept m o (reachesGone v0 v1 v2 v3 v4 v5 v6).2 := by
  induction v4 generalizing v0 v1 v2 v3 v5 v6
  · unfold reachesGone
    exact g6
  · rename_i ih
    unfold reachesGone
    refine keptIte2 ?_ ?_
    · exact g6
    · extract_lets +onlyGivenNames -merge -underBinder x0
      have h1 : Kept m o x0.2 := by
        unfold x0
        exact kept_walkFrom (sub hm) g6
      clear_value x0
      extract_lets +onlyGivenNames -merge -underBinder x2
      clear_value x2
      split
      · apply ih
        exact h1
      · refine keptIte2 ?_ ?_
        · exact h1
        · apply ih
          exact h1
      · exact h1

theorem kept_anyReachesGone {v0 : Nat} {v1 : List (Nat × Nat)} {v2 : List MObj} {v3 : State} (hm : m &&& 134438896 = 0) (g3 : Kept m o v3) :
    Kept m o (anyReachesGone v0 v1 v2 v3).2 := by
  induction v2 generalizing v0 v1 v3
  · unfold anyReachesGone
    exact g3
  · rename_i ih
    unfold anyReachesGone
    extract_lets +onlyGivenNames -merge -underBinder x0
    have h1 : Kept m o x0.2 := by
      unfold x0
      exact kept_reachesGone (sub hm) g3
    clear_value x0
    refine keptIte2 ?_ ?_
    · exact h1
    · apply ih
      exact h1

theorem kept_State_failsInUse {v0 : State} {v1 : Nat} {v2 : CabConf} (hm : m &&& 134438896 = 0) (g0 : Kept m o v0) :
    Kept m o (State.failsInUse v0 v1 v2).2 := by
  unfold State.failsInUse
  refine keptIte2 ?_ ?_
  · exact g0
  · extract_lets +onlyGivenNames -merge -underBinder x0
    clear_value x0
    exact keptIte2 g0 (kept_anyReachesGone (sub hm) g0)

theorem kept_State_cabChecks {v0 : State} {v1 : Nat} {v2 : CabConf} (hm : m &&& 134438896 = 0) (g0 : Kept m o v0) :
    Kept m o (State.cabChecks v0 v1 v2).2 := by
  unfold State.cabChecks
  refine keptIte2 ?_ ?_
  · exact g0
  · refine keptIte2 ?_ ?_
    · exact g0
    · refine keptIte2 ?_ ?_
      · exact g0
      · refine keptIte2 ?_ ?_
        · exact g0
        · refine keptIte2 ?_ ?_
          · exact g0
          · refine keptIte2 ?_ ?_
            · exact g0
            · extract_lets +onlyGivenNames -merge -underBinder x0
              have h1 : Kept m o x0.2 := by
                unfold x0
                exact kept_State_failsInUse (sub hm) g0
              clear_value x0
              exact keptIte2 h1 (keptIte2 h1 (keptIte2 h1 h1))

theorem kept_State_freshMix {v0 : State} {v1 : Nat} {v2 : Nat} (hm : m &&& 16384 = 0) (g0 : Kept m o v0) :
    Kept m o (State.freshMix v0 v1 v2) := by
  unfold State.freshMix
  extract_lets +onlyGivenNames -merge -underBinder x0
  clear_value x0
  exact keptUpd hm (s := v0) (by constructor <;> first | exact .inl rfl | exact .inr rfl) rfl rfl rfl g0

theorem kept_State_reinitSpan {v0 : State} {v1 : Nat × Nat} (hm : m &&& 16704 = 0) (g0 : Kept m o v0) :
    Kept m o (State.reinitSpan v0 v1) := by
  unfold State.reinitSpan
  extract_lets +onlyGivenNames -merge -underBinder x0
  have h1 : Kept m o x0 := by
    unfold x0
    exact kept_State_freshMix (sub hm) g0
  clear_value x0
  exact keptMem hm (s := x0) (by constructor <;> first | exact .inl rfl | exact .inr rfl) rfl (memZero_wf _ _) (fun h => h) h1

theorem kept_State_loseSpan {v0 : State} {v1 : Nat × Nat} (hm : m &&& 16704 = 0) (g0 : Kept m o v0) :
    Kept m o (State.loseSpan v0 v1) := by
  unfold State.loseSpan
  extract_lets +onlyGivenNames -merge -underBinder x0
  have h1 : Kept m o x0 := by
    unfold x0
    exact kept_State_freshMix (sub hm) g0
  clear_value x0
  exact keptMem hm (s := x0) (by constructor <;> first | exact .inl rfl | exact .inr rfl) rfl (memZero_wf _ _) (fun h => h) h1

theorem kept_State_loseBlock {v0 : State} (hm : m &&& 16704 = 0) (g0 : Kept m o v0) :
    Kept m o (State.loseBlock v0) := by
  unfold State.loseBlock
  extract_lets +onlyGivenNames -merge -underBinder x0
  clear_value x0
  exact keptIte g0 (kept_State_loseSpan (sub hm) g0)

theorem kept_State_moveSlots {v0 : State} {v1 : Nat} {v2 : CabConf} {v3 : CabConf} (hm : m &&& 16384 = 0) (g0 : Kept m o v0) :
    Kept m o (State.moveSlots v0 v1 v2 v3) := by
  unfold State.moveSlots
  extract_lets +onlyGivenNames -merge -underBinder x0 x1 x2 x3 x4 x5
  clear_value x0 x1 x2 x3 x4 x5
  exact keptUpd hm (s := v0) (by constructor <;> first | exact .inl rfl | exact .inr rfl) rfl rfl rfl g0

theorem kept_State_applyShelf {v0 : State} {v1 : Nat} {v2 : CabConf} (hm : m &&& 134240064 = 0) (g0 : Kept m o v0) :
    Kept m o (State.applyShelf v0 v1 v2) := by
  unfold State.applyShelf
  extract_lets +onlyGivenNames -merge -underBinder x0 x1 x2 x3 x4 x5
  clear_value x0 x1 x2 x3 x4 x5
  extract_lets +onlyGivenNames -merge -underBinder x6
  have h7 : Kept m o x6 := by
    unfold x6
    refine foldlKept ?_ ?_
    · intro a8 a9 a10
      exact kept_State_chargeSpan (sub hm) (kept_State_reinitSpan (sub hm) a10)
    · exact g0
  clear_value x6
  extract_lets +onlyGivenNames -merge -underBinder x11
  have h12 : Kept m o x11 := by
    unfold x11
    refine foldlKept ?_ ?_
    · intro a13 a14 a15
      exact kept_State_loseSpan (sub hm) a15
    · exact h7
  clear_value x11
  extract_lets +onlyGivenNames -merge -underBinder x16
  have h17 : Kept m o x16 := by
    unfold x16
    exact kept_State_moveSlots (sub hm) h12
  clear_value x16
  extract_lets +onlyGivenNames -merge -underBinder x18 x19
  clear_value x18 x19
  extract_lets +onlyGivenNames -merge -underBinder x20
  have h21 : Kept m o x20 := by
    unfold x20
    exact keptUpd hm (s := x16) (by constructor <;> first | exact .inl rfl | exact .inr rfl) rfl rfl rfl h17
  clear_value x20
  exact kept_State_setCab (sub hm) h21

theorem kept_State_killStalled {v0 : State} {v1 : Nat} (hm : m &&& 140738530 = 0) (g0 : Kept m o v0) :
    Kept m o (State.killStalled v0 v1) := by
  unfold State.killStalled
  extract_lets +onlyGivenNames -merge -underBinder x0
  clear_value x0
  refine foldlKept ?_ ?_
  · intro a1 a2 a3
    split
    · exact kept_State_killCmd (sub hm) a3
    · split
      · exact kept_State_killDce (sub hm) a3
      · exact a3
    · exact a3
  · exact g0

theorem kept_State_dropOldReserve {v0 : State} {v1 : Nat} {v2 : List (Nat × Nat)} (hm : m &&& 16704 = 0) (g0 : Kept m o v0) :
    Kept m o (State.dropOldReserve v0 v1 v2) := by
  unfold State.dropOldReserve
  refine foldlKept ?_ ?_
  · intro a0 a1 a2
    exact keptIte a2 (kept_State_loseSpan (sub hm) a2)
  · exact g0

theorem kept_State_replaceReserve {v0 : State} {v1 : Nat} (hm : m &&& 140738546 = 0) (g0 : Kept m o v0) :
    Kept m o (State.replaceReserve v0 v1) := by
  unfold State.replaceReserve
  refine keptIte ?_ ?_
  · exact g0
  · extract_lets +onlyGivenNames -merge -underBinder x0
    have h1 : Kept m o x0 := by
      unfold x0
      exact kept_State_killStalled (sub hm) g0
    clear_value x0
    extract_lets +onlyGivenNames -merge -underBinder x2
    clear_value x2
    refine keptIte ?_ ?_
    · exact h1
    · extract_lets +onlyGivenNames -merge -underBinder x3
      have h4 : Kept m o x3 := by
        unfold x3
        refine foldlKept ?_ ?_
        · intro a5 a6 a7
          exact kept_State_settleGran (sub hm) a7
        · exact h1
      clear_value x3
      refine keptIte ?_ ?_
      · exact h4
      · extract_lets +onlyGivenNames -merge -underBinder x8
        clear_value x8
        extract_lets +onlyGivenNames -merge -underBinder x9
        have h10 : Kept m o x9 := by
          unfold x9
          exact keptUpd hm (s := x3) (by constructor <;> first | exact .inl rfl | exact .inr rfl) rfl rfl rfl h4
        clear_value x9
        extract_lets +onlyGivenNames -merge -underBinder x11
        have h12 : Kept m o x11 := by
          unfold x11
          exact kept_State_dropOldReserve (sub hm) h10
        clear_value x11
        exact kept_State_setCab (sub hm) h12

theorem kept_State_joinTile {v0 : State} {v1 : Nat} {v2 : Nat} (hm : m &&& 8194 = 0) (g0 : Kept m o v0) :
    Kept m o (State.joinTile v0 v1 v2) := by
  unfold State.joinTile
  exact kept_State_retable (sub hm) (kept_State_setTile (sub hm) g0)

theorem kept_State_beginRemoval {v0 : State} {v1 : Nat} {v2 : List Nat} (hm : m &&& 140738530 = 0) (g0 : Kept m o v0) :
    Kept m o (State.beginRemoval v0 v1 v2) := by
  unfold State.beginRemoval
  extract_lets +onlyGivenNames -merge -underBinder x0
  have h1 : Kept m o x0 := by
    unfold x0
    refine foldlKept ?_ ?_
    · intro a2 a3 a4
      exact kept_State_setTile (sub hm) a4
    · exact g0
  clear_value x0
  extract_lets +onlyGivenNames -merge -underBinder x5
  clear_value x5
  refine foldlKept ?_ ?_
  · intro a6 a7 a8
    exact kept_State_killCmd (sub hm) a8
  · exact h1

theorem kept_State_pushRemoval {v0 : State} {v1 : Nat} (hm : m &&& 9250 = 0) (g0 : Kept m o v0) :
    Kept m o (State.pushRemoval v0 v1) := by
  unfold State.pushRemoval
  extract_lets +onlyGivenNames -merge -underBinder x0 x1
  clear_value x0 x1
  refine foldlKept ?_ ?_
  · intro a2 a3 a4
    exact kept_State_pushLeaving (sub hm) a4
  · refine foldlKept ?_ ?_
    · intro a5 a6 a7
      exact kept_State_evict (sub hm) a7
    · exact g0

theorem kept_State_pushDestroy {v0 : State} {v1 : Nat} (hm : m &&& 8194 = 0) (g0 : Kept m o v0) :
    Kept m o (State.pushDestroy v0 v1) := by
  unfold State.pushDestroy
  extract_lets +onlyGivenNames -merge -underBinder x0
  clear_value x0
  refine keptIte ?_ ?_
  · refine foldlKept ?_ ?_
    · intro a1 a2 a3
      extract_lets +onlyGivenNames -merge -underBinder x4
      clear_value x4
      exact keptIte (kept_State_pushLeaving (sub hm) a3) (kept_State_pushLeaving (sub hm) (kept_State_setTile (sub hm) a3))
    · exact g0
  · exact g0

theorem kept_State_tileLeft {v0 : State} {v1 : Nat} (hm : m &&& 8706 = 0) (g0 : Kept m o v0) :
    Kept m o (State.tileLeft v0 v1) := by
  unfold State.tileLeft
  extract_lets +onlyGivenNames -merge -underBinder x0
  clear_value x0
  split
  · refine keptIte ?_ ?_
    · extract_lets +onlyGivenNames -merge -underBinder x1
      clear_value x1
      extract_lets +onlyGivenNames -merge -underBinder x2
      have h3 : Kept m o x2 := by
        unfold x2
        exact kept_State_setCab (sub hm) g0
      clear_value x2
      refine keptIte ?_ ?_
      · exact kept_State_setTile (sub hm) h3
      · extract_lets +onlyGivenNames -merge -underBinder x4
        have h5 : Kept m o x4 := by
          unfold x4
          refine foldlKept ?_ ?_
          · intro a6 a7 a8
            exact keptIte a8 (kept_State_withdrawSlot (sub hm) a8)
          · exact h3
        clear_value x4
        extract_lets +onlyGivenNames -merge -underBinder x9
        clear_value x9
        exact kept_State_setTile (sub hm) h5
    · exact g0
  · exact kept_State_setTile (sub hm) g0

theorem kept_State_endFlrs {v0 : State} (hm : m &&& 32770 = 0) (g0 : Kept m o v0) :
    Kept m o (State.endFlrs v0) := by
  unfold State.endFlrs
  extract_lets +onlyGivenNames -merge -underBinder x0
  clear_value x0
  refine foldlKept ?_ ?_
  · intro a1 a2 a3
    exact kept_State_emit (sub hm) a3
  · exact keptUpd hm (s := v0) (by constructor <;> first | exact .inl rfl | exact .inr rfl) rfl rfl rfl g0

theorem kept_execContextTeardownComplete {v0 : CabId} {v1 : CtxId} {v2 : State} (hm : m &&& 141819890 = 0) (g2 : Kept m o v2) :
    ∀ s', (execContextTeardownComplete v0 v1 v2) = .next s' → Kept m o s' := by
  unfold execContextTeardownComplete
  refine keptNext (kept_State_work (sub hm) ?_ ?_)
  · exact g2
  · intro a0 a1
    exact kept_State_endFlrs (sub hm) (kept_State_pushDestroy (sub hm) (kept_contextTeardown (sub hm) a1))

theorem kept_State_rep {v0 : State} {v1 : Nat} {v2 : Nat} {v3 : Nat} (hm : m &&& 32 = 0) (g0 : Kept m o v0) :
    Kept m o (State.rep v0 v1 v2 v3) := by
  unfold State.rep
  exact kept_State_setReg (sub hm) g0

theorem kept_State_reportConf {v0 : State} {v1 : Nat} (hm : m &&& 32 = 0) (g0 : Kept m o v0) :
    Kept m o (State.reportConf v0 v1) := by
  unfold State.reportConf
  extract_lets +onlyGivenNames -merge -underBinder x0 x1 x2
  clear_value x0 x1 x2
  refine foldlKept ?_ ?_
  · intro a3 a4 a5
    exact kept_State_rep (sub hm) a5
  · exact g0

theorem kept_State_reportWindow {v0 : State} {v1 : Nat} {v2 : Nat} (hm : m &&& 32 = 0) (g0 : Kept m o v0) :
    Kept m o (State.reportWindow v0 v1 v2) := by
  unfold State.reportWindow
  extract_lets +onlyGivenNames -merge -underBinder x0 x1 x2
  clear_value x0 x1 x2
  refine foldlKept ?_ ?_
  · intro a3 a4 a5
    exact kept_State_rep (sub hm) a5
  · exact g0

theorem kept_State_chargeRuns {v0 : State} {v1 : Nat} (hm : m &&& 9728 = 0) (g0 : Kept m o v0) :
    Kept m o (State.chargeRuns v0 v1) := by
  unfold State.chargeRuns
  refine foldlKept ?_ ?_
  · intro a0 a1 a2
    extract_lets +onlyGivenNames -merge -underBinder x3
    clear_value x3
    split
    · split
      · exact kept_State_setTile (sub hm) (kept_State_chargeBusy (sub hm) a2)
      · exact a2
    · exact a2
  · exact g0

theorem kept_State_chargeHold {v0 : State} {v1 : Nat} (hm : m &&& 512 = 0) (g0 : Kept m o v0) :
    Kept m o (State.chargeHold v0 v1) := by
  unfold State.chargeHold
  split
  · exact g0
  · extract_lets +onlyGivenNames -merge -underBinder x0
    clear_value x0
    refine foldlKept ?_ ?_
    · intro a1 a2 a3
      extract_lets +onlyGivenNames -merge -underBinder x4 x5
      clear_value x4 x5
      exact kept_State_setCab (sub hm) a3
    · exact g0

theorem kept_State_closeWindow {v0 : State} {v1 : Nat} {v2 : Nat} (hm : m &&& 9760 = 0) (g0 : Kept m o v0) :
    Kept m o (State.closeWindow v0 v1 v2) := by
  unfold State.closeWindow
  extract_lets +onlyGivenNames -merge -underBinder x0
  clear_value x0
  refine keptIte ?_ ?_
  · extract_lets +onlyGivenNames -merge -underBinder x1
    have h2 : Kept m o x1 := by
      unfold x1
      exact kept_State_reportWindow (sub hm) (kept_State_reportConf (sub hm) (kept_State_chargeRuns (sub hm) g0))
    clear_value x1
    exact kept_State_setCab (sub hm) h2
  · exact g0

theorem kept_State_drawKey {v0 : State} {v1 : Nat} (hm : m &&& 16944 = 0) (g0 : Kept m o v0) :
    Kept m o (State.drawKey v0 v1) := by
  unfold State.drawKey
  extract_lets +onlyGivenNames -merge -underBinder x0
  clear_value x0
  refine keptIte ?_ ?_
  · extract_lets +onlyGivenNames -merge -underBinder x1
    have h2 : Kept m o x1.2 := by
      unfold x1
      exact kept_State_newKey (sub hm) g0
    clear_value x1
    exact kept_State_setCab (sub hm) h2
  · exact kept_State_setCab (sub hm) (kept_State_bump (sub hm) g0)

theorem kept_State_cabRefuse {v0 : State} {v1 : Nat} {v2 : CabErr} (hm : m &&& 512 = 0) (g0 : Kept m o v0) :
    Kept m o (State.cabRefuse v0 v1 v2) := by
  unfold State.cabRefuse
  exact kept_State_setCab (sub hm) g0

theorem kept_State_resetPartition {v0 : State} {v1 : Nat} (hm : m &&& 32 = 0) (g0 : Kept m o v0) :
    Kept m o (State.resetPartition v0 v1) := by
  unfold State.resetPartition
  exact keptUpd hm (s := v0) (by constructor <;> first | exact .inl rfl | exact .inr rfl) rfl rfl rfl g0

theorem kept_State_cabBuild {v0 : State} {v1 : Nat} (hm : m &&& 512 = 0) (g0 : Kept m o v0) :
    Kept m o (State.cabBuild v0 v1) := by
  unfold State.cabBuild
  extract_lets +onlyGivenNames -merge -underBinder x0
  clear_value x0
  exact keptIte (kept_State_setCab (sub hm) g0) (kept_State_cabRefuse (sub hm) g0)

theorem kept_State_activateWith {v0 : State} {v1 : Nat} {v2 : CabConf} {v3 : CabErr} (hm : m &&& 25138 = 0) (g0 : Kept m o v0) :
    Kept m o (State.activateWith v0 v1 v2 v3) := by
  unfold State.activateWith
  split
  · extract_lets +onlyGivenNames -merge -underBinder x0
    clear_value x0
    extract_lets +onlyGivenNames -merge -underBinder x1
    have h2 : Kept m o x1 := by
      unfold x1
      exact kept_State_setCab (sub hm) g0
    clear_value x1
    refine kept_State_drawKey (sub hm) (foldlKept ?_ ?_)
    · intro a3 a4 a5
      exact kept_State_joinTile (sub hm) a5
    · exact h2
  · exact kept_State_cabRefuse (sub hm) g0

theorem kept_State_cabActivate {v0 : State} {v1 : Nat} (hm : m &&& 134447090 = 0) (g0 : Kept m o v0) :
    Kept m o (State.cabActivate v0 v1) := by
  unfold State.cabActivate
  split
  · exact kept_State_cabRefuse (sub hm) g0
  · exact kept_State_activateWith (sub hm) (kept_State_cabChecks (sub hm) g0)

theorem kept_State_applyWith {v0 : State} {v1 : Nat} {v2 : CabConf} {v3 : CabConf} {v4 : CabErr} (hm : m &&& 140738546 = 0) (g0 : Kept m o v0) :
    Kept m o (State.applyWith v0 v1 v2 v3 v4) := by
  unfold State.applyWith
  split
  · extract_lets +onlyGivenNames -merge -underBinder x0 x1 x2 x3
    clear_value x0 x1 x2 x3
    extract_lets +onlyGivenNames -merge -underBinder x4
    have h5 : Kept m o x4 := by
      unfold x4
      exact kept_State_setCab (sub hm) g0
    clear_value x4
    extract_lets +onlyGivenNames -merge -underBinder x6
    have h7 : Kept m o x6 := by
      unfold x6
      refine foldlKept ?_ ?_
      · intro a8 a9 a10
        exact kept_State_joinTile (sub hm) a10
      · exact h5
    clear_value x6
    extract_lets +onlyGivenNames -merge -underBinder x11
    have h12 : Kept m o x11 := by
      unfold x11
      exact kept_State_pushRemoval (sub hm) (kept_State_beginRemoval (sub hm) h7)
    clear_value x11
    extract_lets +onlyGivenNames -merge -underBinder x13
    clear_value x13
    exact keptIte h12 (kept_State_replaceReserve (sub hm) (kept_State_applyShelf (sub hm) h12))
  · exact kept_State_cabRefuse (sub hm) g0

theorem kept_State_cabApply {v0 : State} {v1 : Nat} (hm : m &&& 140738546 = 0) (g0 : Kept m o v0) :
    Kept m o (State.cabApply v0 v1) := by
  unfold State.cabApply
  split
  · exact kept_State_cabRefuse (sub hm) g0
  · exact kept_State_applyWith (sub hm) (kept_State_cabChecks (sub hm) g0)

theorem kept_State_cabDestroy {v0 : State} {v1 : Nat} (hm : m &&& 419135474 = 0) (g0 : Kept m o v0) :
    Kept m o (State.cabDestroy v0 v1) := by
  unfold State.cabDestroy
  extract_lets +onlyGivenNames -merge -underBinder x0
  clear_value x0
  split
  · exact kept_State_resetPartition (sub hm) (kept_State_setCab (sub hm) g0)
  · extract_lets +onlyGivenNames -merge -underBinder x1
    have h2 : Kept m o x1 := by
      unfold x1
      exact kept_State_setCab (sub hm) g0
    clear_value x1
    extract_lets +onlyGivenNames -merge -underBinder x3
    have h4 : Kept m o x3 := by
      unfold x3
      exact kept_State_clearTag (sub hm) h2
    clear_value x3
    extract_lets +onlyGivenNames -merge -underBinder x5
    clear_value x5
    refine kept_State_syncWires (sub hm) (kept_State_pushDestroy (sub hm) (foldlKept ?_ ?_))
    · intro a6 a7 a8
      exact kept_State_beginTeardown (sub hm) a8
    · exact h4
  · exact kept_State_cabRefuse (sub hm) g0

theorem kept_State_cabCommand {v0 : State} {v1 : Nat} {v2 : State → State} (hm : m &&& 512 = 0) (g0 : Kept m o v0) (g2 : ∀ a0, Kept m o a0 → Kept m o (v2 a0)) :
    Kept m o (State.cabCommand v0 v1 v2) := by
  unfold State.cabCommand
  extract_lets +onlyGivenNames -merge -underBinder x0
  clear_value x0
  exact keptIte (kept_State_setCab (sub hm) g0) (g2 _ g0)

theorem kept_State_cabCmd {v0 : State} {v1 : Nat} {v2 : Nat} (hm : m &&& 419135474 = 0) (g0 : Kept m o v0) :
    Kept m o (State.cabCmd v0 v1 v2) := by
  unfold State.cabCmd
  refine kept_State_cabCommand (sub hm) ?_ ?_
  · exact g0
  · intro a0 a1
    split
    · exact a1
    · exact kept_State_cabBuild (sub hm) a1
    · exact kept_State_cabActivate (sub hm) a1
    · exact kept_State_cabApply (sub hm) a1
    · exact kept_State_cabDestroy (sub hm) a1
    · exact kept_State_cabRefuse (sub hm) a1

theorem kept_execCabNop {v0 : Func} {v1 : CabId} {v2 : State} (hm : m &&& 435945458 = 0) (g2 : Kept m o v2) :
    ∀ s', (execCabNop v0 v1 v2) = .next s' → Kept m o s' := by
  unfold execCabNop
  refine keptNext (kept_State_platform (sub hm) ?_ ?_)
  · exact g2
  · intro a0 a1
    exact kept_State_cabCmd (sub hm) a1

theorem kept_execCabBuild {v0 : Func} {v1 : CabId} {v2 : State} (hm : m &&& 435945458 = 0) (g2 : Kept m o v2) :
    ∀ s', (execCabBuild v0 v1 v2) = .next s' → Kept m o s' := by
  unfold execCabBuild
  refine keptNext (kept_State_platform (sub hm) ?_ ?_)
  · exact g2
  · intro a0 a1
    exact kept_State_cabCmd (sub hm) a1

theorem kept_execCabActivate {v0 : Func} {v1 : CabId} {v2 : State} (hm : m &&& 435945458 = 0) (g2 : Kept m o v2) :
    ∀ s', (execCabActivate v0 v1 v2) = .next s' → Kept m o s' := by
  unfold execCabActivate
  refine keptNext (kept_State_platform (sub hm) ?_ ?_)
  · exact g2
  · intro a0 a1
    exact kept_State_cabCmd (sub hm) a1

theorem kept_execCabApply {v0 : Func} {v1 : CabId} {v2 : State} (hm : m &&& 435945458 = 0) (g2 : Kept m o v2) :
    ∀ s', (execCabApply v0 v1 v2) = .next s' → Kept m o s' := by
  unfold execCabApply
  refine keptNext (kept_State_platform (sub hm) ?_ ?_)
  · exact g2
  · intro a0 a1
    exact kept_State_cabCmd (sub hm) a1

theorem kept_execCabDestroy {v0 : Func} {v1 : CabId} {v2 : State} (hm : m &&& 435945458 = 0) (g2 : Kept m o v2) :
    ∀ s', (execCabDestroy v0 v1 v2) = .next s' → Kept m o s' := by
  unfold execCabDestroy
  refine keptNext (kept_State_platform (sub hm) ?_ ?_)
  · exact g2
  · intro a0 a1
    exact kept_State_cabCmd (sub hm) a1

theorem kept_State_floorsInForce {v0 : State} {v1 : Nat} (hm : m &&& 512 = 0) (g0 : Kept m o v0) :
    Kept m o (State.floorsInForce v0 v1) := by
  unfold State.floorsInForce
  extract_lets +onlyGivenNames -merge -underBinder x0 x1
  clear_value x0 x1
  exact kept_State_setCab (sub hm) g0

theorem kept_activateDone {v0 : Nat} {v1 : State} (hm : m &&& 268452704 = 0) (g1 : Kept m o v1) :
    Kept m o (activateDone v0 v1) := by
  unfold activateDone
  extract_lets +onlyGivenNames -merge -underBinder x0
  clear_value x0
  refine keptIte ?_ ?_
  · extract_lets +onlyGivenNames -merge -underBinder x1
    have h2 : Kept m o x1 := by
      unfold x1
      refine foldlKept ?_ ?_
      · intro a3 a4 a5
        exact kept_State_reinitSpan (sub hm) a5
      · exact g1
    clear_value x1
    extract_lets +onlyGivenNames -merge -underBinder x6
    have h7 : Kept m o x6 := by
      unfold x6
      exact kept_State_setCab (sub hm) h2
    clear_value x6
    exact kept_State_syncWires (sub hm) (kept_State_reportConf (sub hm) (kept_State_floorsInForce (sub hm) h7))
  · exact g1

theorem kept_execActivateComplete {v0 : CabId} {v1 : State} (hm : m &&& 268452704 = 0) (g1 : Kept m o v1) :
    ∀ s', (execActivateComplete v0 v1) = .next s' → Kept m o s' := by
  unfold execActivateComplete
  refine keptNext (kept_State_work (sub hm) ?_ ?_)
  · exact g1
  · intro a0 a1
    exact kept_activateDone (sub hm) a1

theorem kept_applyDone {v0 : Nat} {v1 : State} (hm : m &&& 140738546 = 0) (g1 : Kept m o v1) :
    Kept m o (applyDone v0 v1) := by
  unfold applyDone
  extract_lets +onlyGivenNames -merge -underBinder x0
  refine keptIte ?_ ?_
  · exact g1
  · extract_lets +onlyGivenNames -merge -underBinder x1
    extract_lets +onlyGivenNames -merge -underBinder x2
    have h3 : Kept m o x2 := by
      unfold x2
      split
      · exact keptIte g1 (kept_State_applyShelf (sub hm) g1)
      · exact g1
    extract_lets +onlyGivenNames -merge -underBinder x4
    have h5 : Kept m o x4 := by
      unfold x4
      exact kept_State_pushRemoval (sub hm) (kept_State_replaceReserve (sub hm) h3)
    extract_lets +onlyGivenNames -merge -underBinder x6
    refine keptIte ?_ ?_
    · extract_lets +onlyGivenNames -merge -underBinder x7
      have h8 : Kept m o x7 := by
        unfold x7
        exact kept_State_setCab (sub hm) h5
      clear_value x7
      exact kept_State_renewWaits (sub hm) (kept_State_rekeyStart (sub hm) (kept_State_reportConf (sub hm) (kept_State_floorsInForce (sub hm) h8)))
    · exact h5

theorem kept_execApplyComplete {v0 : CabId} {v1 : State} (hm : m &&& 140738546 = 0) (g1 : Kept m o v1) :
    ∀ s', (execApplyComplete v0 v1) = .next s' → Kept m o s' := by
  unfold execApplyComplete
  refine keptNext (kept_State_work (sub hm) ?_ ?_)
  · exact g1
  · intro a0 a1
    exact kept_applyDone (sub hm) a1

theorem kept_State_releaseCab {v0 : State} {v1 : Nat} (hm : m &&& 13138786 = 0) (g0 : Kept m o v0) :
    Kept m o (State.releaseCab v0 v1) := by
  unfold State.releaseCab
  extract_lets +onlyGivenNames -merge -underBinder x0
  clear_value x0
  extract_lets +onlyGivenNames -merge -underBinder x1
  have h2 : Kept m o x1 := by
    unfold x1
    exact kept_State_dropTables (sub hm) g0
  clear_value x1
  extract_lets +onlyGivenNames -merge -underBinder x3
  have h4 : Kept m o x3 := by
    unfold x3
    refine foldlKept ?_ ?_
    · intro a5 a6 a7
      extract_lets +onlyGivenNames -merge -underBinder x8
      clear_value x8
      exact kept_State_setTile (sub hm) a7
    · exact h2
  clear_value x3
  extract_lets +onlyGivenNames -merge -underBinder x9 x10 x11 x12 x13 y0
  clear_value x9 x10 x11 x12 x13 y0
  extract_lets +onlyGivenNames -merge -underBinder x14
  have h15 : Kept m o x14 := by
    unfold x14
    exact keptUpd hm (s := x3) (by constructor <;> first | exact .inl rfl | exact .inr rfl) rfl rfl rfl h4
  clear_value x14
  extract_lets +onlyGivenNames -merge -underBinder x16
  have h17 : Kept m o x16 := by
    unfold x16
    refine foldlKept ?_ ?_
    · intro a18 a19 a20
      exact kept_State_loseSpan (sub hm) a20
    · exact h15
  clear_value x16
  extract_lets +onlyGivenNames -merge -underBinder x21
  have h22 : Kept m o x21 := by
    unfold x21
    exact kept_State_setRfld (sub hm) (kept_State_setSbc (sub hm) h17)
  clear_value x21
  exact kept_State_setCab (sub hm) h22

theorem kept_cabTeardown {v0 : Nat} {v1 : State} (hm : m &&& 13138786 = 0) (g1 : Kept m o v1) :
    Kept m o (cabTeardown v0 v1) := by
  unfold cabTeardown
  extract_lets +onlyGivenNames -merge -underBinder x0
  have h1 : Kept m o x0 := by
    unfold x0
    exact kept_State_pushDestroy (sub hm) g1
  clear_value x0
  extract_lets +onlyGivenNames -merge -underBinder x2 x3
  clear_value x2 x3
  exact keptIte (kept_State_releaseCab (sub hm) h1) h1

theorem kept_execCabinetTeardownComplete {v0 : CabId} {v1 : State} (hm : m &&& 13138786 = 0) (g1 : Kept m o v1) :
    ∀ s', (execCabinetTeardownComplete v0 v1) = .next s' → Kept m o s' := by
  unfold execCabinetTeardownComplete
  refine keptNext (kept_State_work (sub hm) ?_ ?_)
  · exact g1
  · intro a0 a1
    exact kept_cabTeardown (sub hm) a1

theorem kept_State_closeWindows {v0 : State} {v1 : Nat} (hm : m &&& 9760 = 0) (g0 : Kept m o v0) :
    Kept m o (State.closeWindows v0 v1) := by
  unfold State.closeWindows
  extract_lets +onlyGivenNames -merge -underBinder x0
  clear_value x0
  refine foldlKept ?_ ?_
  · intro a1 a2 a3
    exact kept_State_closeWindow (sub hm) a3
  · exact keptIte (kept_State_chargeHold (sub hm) g0) g0

theorem kept_execReportWindowClose {v0 : State} (hm : m &&& 9760 = 0) (g0 : Kept m o v0) :
    ∀ s', (execReportWindowClose v0) = .next s' → Kept m o s' := by
  unfold execReportWindowClose
  exact keptNext (kept_State_closeWindows (sub hm) g0)

end Sys2Proof.Machine
end

