-- ==== Sys2Proof/Laws/KeptDrawers.lean ====
section
/-! SUPPORT. For each operation of Machine/Drawers.lean, and for each command meaning there: the fields of State it
    never changes (the bits not set in its mask), and that it keeps what Laws/Kept.lean names. -/

namespace Sys2Proof.Machine
set_option Elab.async false
variable {m : Nat} {o : State}

theorem kept_opCommand {v0 : Func} {v1 : CabId} {v2 : Nat} {v3 : Word} {v4 : Nat → Nat} {v5 : Nat → State → Nat × Nat × State} {v6 : State} (hm : m &&& 152293346 = 0) (g5 : ∀ a0 a1, Kept m o a1 → Kept m o (v5 a0 a1).2.2) (g6 : Kept m o v6) :
    ∀ s', (opCommand v0 v1 v2 v3 v4 v5 v6) = .next s' → Kept m o s' := by
  unfold opCommand
  refine keptNext (kept_State_operate (sub hm) ?_ ?_)
  · exact g6
  · intro a0 a1
    refine kept_State_command (sub hm) ?_ ?_
    · exact a1
    · intro a2 a3
      exact g5 _ _ a3

theorem kept_opNop {v0 : Func} {v1 : CabId} {v2 : Nat} {v3 : Nat → Nat} {v4 : State} (hm : m &&& 152293346 = 0) (g4 : Kept m o v4) :
    ∀ s', (opNop v0 v1 v2 v3 v4) = .next s' → Kept m o s' := by
  unfold opNop
  refine keptNext (kept_State_operate (sub hm) ?_ ?_)
  · exact g4
  · intro a0 a1
    exact kept_nopCommand (sub hm) a1

theorem kept_ctxAlloc {v0 : Nat} {v1 : State} (hm : m &&& 1024 = 0) (g1 : Kept m o v1) :
    Kept m o (ctxAlloc v0 v1).2.2 := by
  unfold ctxAlloc
  extract_lets +onlyGivenNames -merge -underBinder x0
  clear_value x0
  refine keptIte22 ?_ ?_
  · exact g1
  · refine keptIte22 ?_ ?_
    · exact g1
    · extract_lets +onlyGivenNames -merge -underBinder x1 x2
      clear_value x1 x2
      extract_lets +onlyGivenNames -merge -underBinder x3
      have h4 : Kept m o x3 := by
        unfold x3
        exact keptUpd hm (s := v1) (by constructor <;> first | exact .inl rfl | exact .inr rfl) rfl rfl rfl g1
      clear_value x3
      dsimp only [id]
      exact kept_State_setCtx (sub hm) h4

theorem kept_execCtxNop {v0 : Func} {v1 : CabId} {v2 : State} (hm : m &&& 152293346 = 0) (g2 : Kept m o v2) :
    ∀ s', (execCtxNop v0 v1 v2) = .next s' → Kept m o s' := by
  unfold execCtxNop
  refine keptNext (kept_State_operate (sub hm) ?_ ?_)
  · exact g2
  · intro a0 a1
    exact kept_nopCommand (sub hm) a1

theorem kept_execCtxAlloc {v0 : Func} {v1 : CabId} {v2 : State} (hm : m &&& 152293346 = 0) (g2 : Kept m o v2) :
    ∀ s', (execCtxAlloc v0 v1 v2) = .next s' → Kept m o s' := by
  unfold execCtxAlloc
  refine keptNext (kept_State_operate (sub hm) ?_ ?_)
  · exact g2
  · intro a0 a1
    refine kept_State_command (sub hm) ?_ ?_
    · exact a1
    · intro a2 a3
      exact kept_ctxAlloc (sub hm) a3

theorem kept_ctxFree {v0 : Nat} {v1 : Nat} {v2 : State} (hm : m &&& 150700018 = 0) (g2 : Kept m o v2) :
    Kept m o (ctxFree v0 v1 v2) := by
  unfold ctxFree
  split
  · exact kept_State_overrun (sub hm) g2
  · rename_i y0 y1
    split
    · exact kept_State_result (sub hm) (kept_State_accept (sub hm) g2 _ y1)
    · exact kept_State_result (sub hm) (kept_State_accept (sub hm) g2 _ y1)
    · exact kept_State_beginTeardown (sub hm) (keptUpd hm (s := y0) (by constructor <;> first | exact .inl rfl | exact .inr rfl) rfl rfl rfl (kept_State_accept (sub hm) g2 _ y1))

theorem kept_execCtxFree {v0 : Func} {v1 : CabId} {v2 : CtxId} {v3 : State} (hm : m &&& 167510002 = 0) (g3 : Kept m o v3) :
    ∀ s', (execCtxFree v0 v1 v2 v3) = .next s' → Kept m o s' := by
  unfold execCtxFree
  refine keptNext (kept_State_operate (sub hm) ?_ ?_)
  · exact g3
  · intro a0 a1
    exact kept_ctxFree (sub hm) a1

theorem kept_State_newHandle {v0 : State} {v1 : Nat → MObj → MObj} (hm : m &&& 1024 = 0) (g0 : Kept m o v0) :
    Kept m o (State.newHandle v0 v1).2.2 := by
  unfold State.newHandle
  split
  rename_i y0 y1
  extract_lets +onlyGivenNames -merge -underBinder x2
  clear_value x2
  dsimp only [id]
  exact kept_State_setObj (sub hm) (keptPair2 y1 (kept_State_objTake (sub hm) g0))

theorem kept_mobjCreate {v0 : Nat} {v1 : State} (hm : m &&& 1024 = 0) (g1 : Kept m o v1) :
    Kept m o (mobjCreate v0 v1).2.2 := by
  unfold mobjCreate
  extract_lets +onlyGivenNames -merge -underBinder x0 x1 x2 x3
  clear_value x0 x1 x2 x3
  refine keptIte22 ?_ ?_
  · exact g1
  · refine keptIte22 ?_ ?_
    · exact g1
    · refine keptIte22 ?_ ?_
      · exact g1
      · extract_lets +onlyGivenNames -merge -underBinder x4
        clear_value x4
        exact kept_State_newHandle (sub hm) g1

theorem kept_mobjAlias {v0 : Nat} {v1 : State} (hm : m &&& 1024 = 0) (g1 : Kept m o v1) :
    Kept m o (mobjAlias v0 v1).2.2 := by
  unfold mobjAlias
  extract_lets +onlyGivenNames -merge -underBinder x0 x1 x2
  clear_value x0 x1 x2
  refine keptIte22 ?_ ?_
  · exact g1
  · refine keptIte22 ?_ ?_
    · exact g1
    · refine keptIte22 ?_ ?_
      · exact g1
      · extract_lets +onlyGivenNames -merge -underBinder x3
        clear_value x3
        exact kept_State_newHandle (sub hm) g1

theorem kept_mobjRelease {v0 : Nat} {v1 : State} (hm : m &&& 1024 = 0) (g1 : Kept m o v1) :
    Kept m o (mobjRelease v0 v1).2.2 := by
  unfold mobjRelease
  extract_lets +onlyGivenNames -merge -underBinder x0
  clear_value x0
  refine keptIte22 ?_ ?_
  · dsimp only [id]
    exact kept_State_objRelease (sub hm) g1
  · exact g1

theorem kept_execMobjNop {v0 : Func} {v1 : CabId} {v2 : State} (hm : m &&& 152293346 = 0) (g2 : Kept m o v2) :
    ∀ s', (execMobjNop v0 v1 v2) = .next s' → Kept m o s' := by
  unfold execMobjNop
  refine keptNext (kept_State_operate (sub hm) ?_ ?_)
  · exact g2
  · intro a0 a1
    exact kept_nopCommand (sub hm) a1

theorem kept_execMobjCreate {v0 : Func} {v1 : CabId} {v2 : State} (hm : m &&& 152293346 = 0) (g2 : Kept m o v2) :
    ∀ s', (execMobjCreate v0 v1 v2) = .next s' → Kept m o s' := by
  unfold execMobjCreate
  refine keptNext (kept_State_operate (sub hm) ?_ ?_)
  · exact g2
  · intro a0 a1
    refine kept_State_command (sub hm) ?_ ?_
    · exact a1
    · intro a2 a3
      exact kept_mobjCreate (sub hm) a3

theorem kept_execMobjAlias {v0 : Func} {v1 : CabId} {v2 : State} (hm : m &&& 152293346 = 0) (g2 : Kept m o v2) :
    ∀ s', (execMobjAlias v0 v1 v2) = .next s' → Kept m o s' := by
  unfold execMobjAlias
  refine keptNext (kept_State_operate (sub hm) ?_ ?_)
  · exact g2
  · intro a0 a1
    refine kept_State_command (sub hm) ?_ ?_
    · exact a1
    · intro a2 a3
      exact kept_mobjAlias (sub hm) a3

theorem kept_execMobjRelease {v0 : Func} {v1 : CabId} {v2 : State} (hm : m &&& 152293346 = 0) (g2 : Kept m o v2) :
    ∀ s', (execMobjRelease v0 v1 v2) = .next s' → Kept m o s' := by
  unfold execMobjRelease
  refine keptNext (kept_State_operate (sub hm) ?_ ?_)
  · exact g2
  · intro a0 a1
    refine kept_State_command (sub hm) ?_ ?_
    · exact a1
    · intro a2 a3
      exact kept_mobjRelease (sub hm) a3

theorem kept_drwCreate {v0 : Nat} {v1 : State} (hm : m &&& 1024 = 0) (g1 : Kept m o v1) :
    Kept m o (drwCreate v0 v1).2.2 := by
  unfold drwCreate
  extract_lets +onlyGivenNames -merge -underBinder x0 x1 x2 x3 x4
  clear_value x0 x1 x2 x3 x4
  refine keptIte22 ?_ ?_
  · exact g1
  · refine keptIte22 ?_ ?_
    · exact g1
    · refine keptIte22 ?_ ?_
      · exact g1
      · extract_lets +onlyGivenNames -merge -underBinder x5
        clear_value x5
        dsimp only [id]
        exact kept_State_setDrawer (sub hm) g1

theorem kept_drwStop {v0 : Nat} {v1 : Nat} {v2 : State} (hm : m &&& 5152 = 0) (g2 : Kept m o v2) :
    Kept m o (drwStop v0 v1 v2).2.2 := by
  unfold drwStop
  split
  · exact g2
  · dsimp only [id]
    exact kept_State_settleDrawer (sub hm) (kept_State_setDrawer (sub hm) g2)
  · exact g2

theorem kept_drwStart {v0 : Nat} {v1 : Nat} {v2 : State} (hm : m &&& 1024 = 0) (g2 : Kept m o v2) :
    Kept m o (drwStart v0 v1 v2).2.2 := by
  unfold drwStart
  split
  · exact g2
  · dsimp only [id]
    exact kept_State_setDrawer (sub hm) g2
  · dsimp only [id]
    exact kept_State_setDrawer (sub hm) g2
  · exact g2

theorem kept_drwDestroy {v0 : Nat} {v1 : Nat} {v2 : State} (hm : m &&& 150700002 = 0) (g2 : Kept m o v2) :
    Kept m o (drwDestroy v0 v1 v2) := by
  unfold drwDestroy
  split
  · exact kept_State_overrun (sub hm) g2
  · rename_i y0 y1
    extract_lets +onlyGivenNames -merge -underBinder x2
    clear_value x2
    split
    · exact kept_State_result (sub hm) (kept_State_accept (sub hm) g2 _ y1)
    · exact kept_State_result (sub hm) (kept_State_accept (sub hm) g2 _ y1)
    · extract_lets +onlyGivenNames -merge -underBinder x3
      clear_value x3
      extract_lets +onlyGivenNames -merge -underBinder x4
      have h5 : Kept m o x4 := by
        unfold x4
        exact kept_State_setDrawer (sub hm) (keptUpd hm (s := y0) (by constructor <;> first | exact .inl rfl | exact .inr rfl) rfl rfl rfl (kept_State_accept (sub hm) g2 _ y1))
      clear_value x4
      exact kept_State_settleDrawer (sub hm) (kept_State_cancelFlights (sub hm) h5)

theorem kept_execDrwNop {v0 : Func} {v1 : CabId} {v2 : State} (hm : m &&& 152293346 = 0) (g2 : Kept m o v2) :
    ∀ s', (execDrwNop v0 v1 v2) = .next s' → Kept m o s' := by
  unfold execDrwNop
  refine keptNext (kept_State_operate (sub hm) ?_ ?_)
  · exact g2
  · intro a0 a1
    exact kept_nopCommand (sub hm) a1

theorem kept_execDrwCreate {v0 : Func} {v1 : CabId} {v2 : State} (hm : m &&& 152293346 = 0) (g2 : Kept m o v2) :
    ∀ s', (execDrwCreate v0 v1 v2) = .next s' → Kept m o s' := by
  unfold execDrwCreate
  refine keptNext (kept_State_operate (sub hm) ?_ ?_)
  · exact g2
  · intro a0 a1
    refine kept_State_command (sub hm) ?_ ?_
    · exact a1
    · intro a2 a3
      exact kept_drwCreate (sub hm) a3

theorem kept_execDrwStop {v0 : Func} {v1 : CabId} {v2 : DrawerId} {v3 : State} (hm : m &&& 152297442 = 0) (g3 : Kept m o v3) :
    ∀ s', (execDrwStop v0 v1 v2 v3) = .next s' → Kept m o s' := by
  unfold execDrwStop
  refine keptNext (kept_State_operate (sub hm) ?_ ?_)
  · exact g3
  · intro a0 a1
    refine kept_State_command (sub hm) ?_ ?_
    · exact a1
    · intro a2 a3
      dsimp only
      exact kept_drwStop (sub hm) a3

theorem kept_execDrwStart {v0 : Func} {v1 : CabId} {v2 : DrawerId} {v3 : State} (hm : m &&& 152293346 = 0) (g3 : Kept m o v3) :
    ∀ s', (execDrwStart v0 v1 v2 v3) = .next s' → Kept m o s' := by
  unfold execDrwStart
  refine keptNext (kept_State_operate (sub hm) ?_ ?_)
  · exact g3
  · intro a0 a1
    refine kept_State_command (sub hm) ?_ ?_
    · exact a1
    · intro a2 a3
      dsimp only
      exact kept_drwStart (sub hm) a3

theorem kept_execDrwDestroy {v0 : Func} {v1 : CabId} {v2 : DrawerId} {v3 : State} (hm : m &&& 167509986 = 0) (g3 : Kept m o v3) :
    ∀ s', (execDrwDestroy v0 v1 v2 v3) = .next s' → Kept m o s' := by
  unfold execDrwDestroy
  refine keptNext (kept_State_operate (sub hm) ?_ ?_)
  · exact g3
  · intro a0 a1
    exact kept_drwDestroy (sub hm) a1

theorem kept_State_putQuery {v0 : State} {v1 : Nat} {v2 : List Nat} (hm : m &&& 32 = 0) (g0 : Kept m o v0) :
    Kept m o (State.putQuery v0 v1 v2) := by
  unfold State.putQuery
  refine foldlKept ?_ ?_
  · intro a0 a1 a2
    exact kept_State_setReg (sub hm) a2
  · exact g0

theorem kept_queryCommand {v0 : Nat} {v1 : State → List Nat} {v2 : State} (hm : m &&& 32 = 0) (g2 : Kept m o v2) :
    Kept m o (queryCommand v0 v1 v2) := by
  unfold queryCommand
  split
  · exact kept_State_overrun (sub hm) g2
  · rename_i y0 y1
    exact kept_State_putQuery (sub hm) (kept_State_accept (sub hm) g2 _ y1)

theorem kept_execQryContext {v0 : Func} {v1 : CabId} {v2 : CtxId} {v3 : State} (hm : m &&& 152293346 = 0) (g3 : Kept m o v3) :
    ∀ s', (execQryContext v0 v1 v2 v3) = .next s' → Kept m o s' := by
  unfold execQryContext
  refine keptNext (kept_State_operate (sub hm) ?_ ?_)
  · exact g3
  · intro a0 a1
    exact kept_queryCommand (sub hm) a1

theorem kept_execQryCabinet {v0 : Func} {v1 : CabId} {v2 : State} (hm : m &&& 152293346 = 0) (g2 : Kept m o v2) :
    ∀ s', (execQryCabinet v0 v1 v2) = .next s' → Kept m o s' := by
  unfold execQryCabinet
  refine keptNext (kept_State_operate (sub hm) ?_ ?_)
  · exact g2
  · intro a0 a1
    exact kept_queryCommand (sub hm) a1

theorem kept_queryDesc {v0 : Flight} {v1 : List Nat} {v2 : State} (hm : m &&& 134438898 = 0) (g2 : Kept m o v2) :
    Kept m o (queryDesc v0 v1 v2) := by
  unfold queryDesc
  extract_lets +onlyGivenNames -merge -underBinder x0
  clear_value x0
  split
  · rename_i y1 y2
    exact kept_State_done (sub hm) (keptPair2 y2 (kept_State_vaWrite (sub hm) g2))
  · rename_i y3 y4
    exact keptPair2 y4 (kept_State_vaWrite (sub hm) g2)
  · rename_i y5 y6
    exact kept_State_endFlight (sub hm) (keptPair2 y6 (kept_State_vaWrite (sub hm) g2))

theorem kept_execQueryContext {v0 : CabId} {v1 : DrawerId} {v2 : Seq} {v3 : State} (hm : m &&& 134438898 = 0) (g3 : Kept m o v3) :
    ∀ s', (execQueryContext v0 v1 v2 v3) = .next s' → Kept m o s' := by
  unfold execQueryContext
  refine keptNext (kept_State_work (sub hm) ?_ ?_)
  · exact g3
  · intro a0 a1
    split
    · exact keptIte (kept_queryDesc (sub hm) a1) a1
    · exact a1

theorem kept_execQueryCabinet {v0 : CabId} {v1 : DrawerId} {v2 : Seq} {v3 : State} (hm : m &&& 134438898 = 0) (g3 : Kept m o v3) :
    ∀ s', (execQueryCabinet v0 v1 v2 v3) = .next s' → Kept m o s' := by
  unfold execQueryCabinet
  refine keptNext (kept_State_work (sub hm) ?_ ?_)
  · exact g3
  · intro a0 a1
    split
    · exact keptIte (kept_queryDesc (sub hm) a1) a1
    · exact a1

theorem kept_State_dropDoorbell {v0 : State} {v1 : Nat} {v2 : Nat} (hm : m &&& 32 = 0) (g0 : Kept m o v0) :
    Kept m o (State.dropDoorbell v0 v1 v2) := by
  unfold State.dropDoorbell
  exact kept_State_bump (sub hm) (kept_State_bump (sub hm) g0)

theorem kept_doorbell {v0 : Nat} {v1 : Nat} {v2 : Nat} {v3 : Nat} {v4 : Option Nat} {v5 : Word} {v6 : State} (hm : m &&& 152260578 = 0) (g6 : Kept m o v6) :
    Kept m o (doorbell v0 v1 v2 v3 v4 v5 v6) := by
  unfold doorbell
  extract_lets +onlyGivenNames -merge -underBinder x0
  clear_value x0
  split
  · exact kept_State_dropDoorbell (sub hm) g6
  · extract_lets +onlyGivenNames -merge -underBinder x1
    clear_value x1
    exact kept_State_wakeCab (sub hm) (kept_State_setDrawer (sub hm) g6)

theorem kept_doorbellWrite {v0 : Nat} {v1 : Nat} {v2 : Nat} {v3 : Option Nat} {v4 : Word} {v5 : State} (hm : m &&& 152293346 = 0) (g5 : Kept m o v5) :
    Kept m o (doorbellWrite v0 v1 v2 v3 v4 v5) := by
  unfold doorbellWrite
  refine keptIte ?_ ?_
  · exact g5
  · refine keptIte ?_ ?_
    · exact keptUpd hm (s := v5) (by constructor <;> first | exact .inl rfl | exact .inr rfl) rfl rfl rfl g5
    · refine keptIte ?_ ?_
      · exact kept_doorbell (sub hm) g5
      · split
        · exact keptIte (kept_doorbell (sub hm) g5) g5
        · exact kept_State_bump (sub hm) g5

theorem kept_execDoorbellWrite {v0 : Func} {v1 : Fin 16777216} {v2 : Nat} {v3 : Option Pasid} {v4 : Word} {v5 : State} (hm : m &&& 152293346 = 0) (g5 : Kept m o v5) :
    ∀ s', (execDoorbellWrite v0 v1 v2 v3 v4 v5) = .next s' → Kept m o s' := by
  unfold execDoorbellWrite
  exact keptNext (kept_doorbellWrite (sub hm) g5)

theorem kept_readSlots {v0 : Nat} {v1 : Nat} {v2 : Drawer} {v3 : Nat} {v4 : Nat} {v5 : State} (hm : m &&& 134438898 = 0) (g5 : Kept m o v5) :
    Kept m o (readSlots v0 v1 v2 v3 v4 v5).2 := by
  induction v3 generalizing v0 v1 v2 v4 v5
  · unfold readSlots
    exact g5
  · rename_i ih
    unfold readSlots
    extract_lets +onlyGivenNames -merge -underBinder x0
    clear_value x0
    split
    · rename_i y1 y2
      split
      · rename_i y3 y4
        dsimp only [id]
        refine keptPair2 y4 ?_
        apply ih
        exact keptPair2 y2 (kept_State_vaRead (sub hm) g5)
      · apply ih
        exact keptPair2 y2 (kept_State_vaRead (sub hm) g5)
    · rename_i y5 y6
      dsimp only [id]
      exact keptPair2 y6 (kept_State_vaRead (sub hm) g5)
    · rename_i y7 y8
      dsimp only [id]
      exact keptPair2 y8 (kept_State_vaRead (sub hm) g5)

theorem kept_State_passTurn {v0 : State} {v1 : Nat} {v2 : Nat} (hm : m &&& 1024 = 0) (g0 : Kept m o v0) :
    Kept m o (State.passTurn v0 v1 v2) := by
  unfold State.passTurn
  exact keptUpd hm (s := v0) (by constructor <;> first | exact .inl rfl | exact .inr rfl) rfl rfl rfl g0

theorem kept_State_addFlight {v0 : State} {v1 : Flight} {v2 : Nat} (hm : m &&& 1024 = 0) (g0 : Kept m o v0) :
    Kept m o (State.addFlight v0 v1 v2) := by
  unfold State.addFlight
  extract_lets +onlyGivenNames -merge -underBinder x0
  clear_value x0
  extract_lets +onlyGivenNames -merge -underBinder x1
  have h2 : Kept m o x1 := by
    unfold x1
    exact kept_State_setDrawer (sub hm) g0
  clear_value x1
  exact keptUpd hm (s := x1) (by constructor <;> first | exact .inl rfl | exact .inr rfl) rfl rfl rfl h2

theorem kept_State_ringFails {v0 : State} {v1 : Nat} {v2 : Nat} {v3 : Nat} {v4 : Nat} (hm : m &&& 1024 = 0) (g0 : Kept m o v0) :
    Kept m o (State.ringFails v0 v1 v2 v3 v4) := by
  unfold State.ringFails
  extract_lets +onlyGivenNames -merge -underBinder x0 x1
  clear_value x0 x1
  extract_lets +onlyGivenNames -merge -underBinder x2
  have h3 : Kept m o x2 := by
    unfold x2
    exact kept_State_addFlight (sub hm) g0
  clear_value x2
  exact kept_State_setDrawer (sub hm) h3

theorem kept_fetchDesc {v0 : Nat} {v1 : Nat} {v2 : State} (hm : m &&& 135487474 = 0) (g2 : Kept m o v2) :
    Kept m o (fetchDesc v0 v1 v2) := by
  unfold fetchDesc
  extract_lets +onlyGivenNames -merge -underBinder x0
  clear_value x0
  refine keptIte ?_ ?_
  · exact g2
  · extract_lets +onlyGivenNames -merge -underBinder x1
    have h2 : Kept m o x1 := by
      unfold x1
      exact kept_State_passTurn (sub hm) g2
    clear_value x1
    split
    · rename_i y3 y4
      exact keptPair2 y4 (kept_readSlots (sub hm) h2)
    · rename_i y5 y6
      exact kept_State_ringFails (sub hm) (keptPair2 y6 (kept_readSlots (sub hm) h2))
    · rename_i y7 y8
      extract_lets +onlyGivenNames -merge -underBinder x9 x10
      clear_value x9 x10
      refine keptIte ?_ ?_
      · exact h2
      · split
        · rename_i y11 y12
          exact keptPair2 y12 (kept_readSlots (sub hm) (keptPair2 y8 (kept_readSlots (sub hm) h2)))
        · rename_i y13 y14
          exact kept_State_ringFails (sub hm) (keptPair2 y14 (kept_readSlots (sub hm) (keptPair2 y8 (kept_readSlots (sub hm) h2))))
        · rename_i y15 y16
          extract_lets +onlyGivenNames -merge -underBinder x17 x18 x19 x20
          clear_value x17 x18 x19 x20
          exact kept_State_queueMove (sub hm) (kept_State_addFlight (sub hm) (kept_State_holdRefs (sub hm) (keptPair2 y16 (kept_readSlots (sub hm) (keptPair2 y8 (kept_readSlots (sub hm) h2))))))

theorem kept_execDescriptorFetch {v0 : CabId} {v1 : DrawerId} {v2 : State} (hm : m &&& 135487474 = 0) (g2 : Kept m o v2) :
    ∀ s', (execDescriptorFetch v0 v1 v2) = .next s' → Kept m o s' := by
  unfold execDescriptorFetch
  refine keptNext (kept_State_work (sub hm) ?_ ?_)
  · exact g2
  · intro a0 a1
    exact kept_fetchDesc (sub hm) a1

theorem kept_issueDesc {v0 : Nat} {v1 : Nat} {v2 : Nat} {v3 : State} (hm : m &&& 1024 = 0) (g3 : Kept m o v3) :
    Kept m o (issueDesc v0 v1 v2 v3) := by
  unfold issueDesc
  split
  · extract_lets +onlyGivenNames -merge -underBinder x0
    clear_value x0
    exact keptIte (kept_State_updFlight (sub hm) g3) g3
  · exact g3

theorem kept_execDescriptorIssue {v0 : CabId} {v1 : DrawerId} {v2 : Seq} {v3 : State} (hm : m &&& 1024 = 0) (g3 : Kept m o v3) :
    ∀ s', (execDescriptorIssue v0 v1 v2 v3) = .next s' → Kept m o s' := by
  unfold execDescriptorIssue
  refine keptNext (kept_State_work (sub hm) ?_ ?_)
  · exact g3
  · intro a0 a1
    exact kept_issueDesc (sub hm) a1

theorem kept_writeRecord {v0 : Flight} {v1 : Ending} {v2 : State} (hm : m &&& 134438898 = 0) (g2 : Kept m o v2) :
    Kept m o (writeRecord v0 v1 v2).2 := by
  unfold writeRecord
  extract_lets +onlyGivenNames -merge -underBinder x0 x1 x2
  clear_value x0 x1 x2
  split
  · rename_i y3 y4
    exact kept_State_vaWrite (sub hm) (keptPair2 y4 (kept_State_vaWrite (sub hm) g2))
  · exact kept_State_vaWrite (sub hm) g2

theorem kept_State_leave {v0 : State} {v1 : Flight} (hm : m &&& 5664 = 0) (g0 : Kept m o v0) :
    Kept m o (State.leave v0 v1) := by
  unfold State.leave
  extract_lets +onlyGivenNames -merge -underBinder x0
  clear_value x0
  extract_lets +onlyGivenNames -merge -underBinder x1
  have h2 : Kept m o x1 := by
    unfold x1
    exact keptUpd hm (s := v0) (by constructor <;> first | exact .inl rfl | exact .inr rfl) rfl rfl rfl g0
  clear_value x1
  extract_lets +onlyGivenNames -merge -underBinder x3
  clear_value x3
  extract_lets +onlyGivenNames -merge -underBinder x4
  have h5 : Kept m o x4 := by
    unfold x4
    exact kept_State_setCab (sub hm) h2
  clear_value x4
  exact kept_State_settleDrawer (sub hm) (kept_State_tally (sub hm) (kept_State_dropRefs (sub hm) h5))

theorem kept_State_closeFlight {v0 : State} {v1 : Flight} {v2 : Ending} (hm : m &&& 134438898 = 0) (g0 : Kept m o v0) :
    Kept m o (State.closeFlight v0 v1 v2) := by
  unfold State.closeFlight
  refine keptIte ?_ ?_
  · exact kept_State_leave (sub hm) g0
  · extract_lets +onlyGivenNames -merge -underBinder x0 x1
    clear_value x0 x1
    extract_lets +onlyGivenNames -merge -underBinder x2
    have h3 : Kept m o x2.2 := by
      unfold x2
      exact keptIte2 (kept_State_signalFence (sub hm) g0) (kept_State_attachError (sub hm) g0)
    clear_value x2
    split
    · rename_i y4
      exact h3
    · rename_i y5 y6
      exact kept_State_leave (sub hm) h3

theorem kept_State_countDone {v0 : State} {v1 : Flight} {v2 : Ending} (hm : m &&& 1536 = 0) (g0 : Kept m o v0) :
    Kept m o (State.countDone v0 v1 v2) := by
  unfold State.countDone
  extract_lets +onlyGivenNames -merge -underBinder x0 x1
  clear_value x0 x1
  extract_lets +onlyGivenNames -merge -underBinder x2
  have h3 : Kept m o x2 := by
    unfold x2
    exact kept_State_setCab (sub hm) g0
  clear_value x2
  extract_lets +onlyGivenNames -merge -underBinder x4
  clear_value x4
  extract_lets +onlyGivenNames -merge -underBinder x5
  have h6 : Kept m o x5 := by
    unfold x5
    exact kept_State_setCtx (sub hm) h3
  clear_value x5
  exact keptIte h6 (kept_State_setDrawer (sub hm) h6)

theorem kept_completeDesc {v0 : Nat} {v1 : Nat} {v2 : Nat} {v3 : State} (hm : m &&& 134438898 = 0) (g3 : Kept m o v3) :
    Kept m o (completeDesc v0 v1 v2 v3) := by
  unfold completeDesc
  split
  · split
    · refine keptIte ?_ ?_
      · exact kept_State_closeFlight (sub hm) g3
      · split
        · rename_i y0 y1
          exact keptPair2 y1 (kept_writeRecord (sub hm) g3)
        · rename_i y2 y3
          exact kept_State_closeFlight (sub hm) (kept_State_updFlight (sub hm) (kept_State_countDone (sub hm) (keptPair2 y3 (kept_writeRecord (sub hm) g3))))
        · rename_i y4 y5
          extract_lets +onlyGivenNames -merge -underBinder x6
          have h7 : Kept m o x6 := by
            unfold x6
            exact kept_State_countDone (sub hm) (keptPair2 y5 (kept_writeRecord (sub hm) g3))
          clear_value x6
          extract_lets +onlyGivenNames -merge -underBinder x8
          clear_value x8
          extract_lets +onlyGivenNames -merge -underBinder x9
          have h10 : Kept m o x9 := by
            unfold x9
            exact kept_State_setDrawer (sub hm) h7
          clear_value x9
          exact kept_State_closeFlight (sub hm) (kept_State_updFlight (sub hm) h10)
    · exact g3
  · exact g3

theorem kept_execDescriptorComplete {v0 : CabId} {v1 : DrawerId} {v2 : Seq} {v3 : State} (hm : m &&& 134438898 = 0) (g3 : Kept m o v3) :
    ∀ s', (execDescriptorComplete v0 v1 v2 v3) = .next s' → Kept m o s' := by
  unfold execDescriptorComplete
  refine keptNext (kept_State_work (sub hm) ?_ ?_)
  · exact g3
  · intro a0 a1
    exact kept_completeDesc (sub hm) a1

end Sys2Proof.Machine
end

