-- ==== Sys2Proof/Laws/KeptRecovery.lean ====
section
/-! SUPPORT. For each operation of Machine/Recovery.lean, and for each command meaning there: the fields of State it
    never changes (the bits not set in its mask), and that it keeps what Laws/Kept.lean names. -/

namespace Sys2Proof.Machine
set_option Elab.async false
variable {m : Nat} {o : State}

theorem kept_State_countReset {v0 : State} {v1 : Nat} (hm : m &&& 512 = 0) (g0 : Kept m o v0) :
    Kept m o (State.countReset v0 v1) := by
  unfold State.countReset
  extract_lets +onlyGivenNames -merge -underBinder x0
  clear_value x0
  exact kept_State_setCab (sub hm) g0

theorem kept_State_powerCycle {v0 : State} {v1 : Nat} {v2 : Nat} (hm : m &&& 16777218 = 0) (g0 : Kept m o v0) :
    Kept m o (State.powerCycle v0 v1 v2) := by
  unfold State.powerCycle
  exact kept_State_sendTray (sub hm) g0

theorem kept_State_chestWrite {v0 : State} {v1 : Bool} {v2 : Nat} {v3 : List Byte} (hm : m &&& 134438896 = 0) (g0 : Kept m o v0) :
    Kept m o (State.chestWrite v0 v1 v2 v3) := by
  unfold State.chestWrite
  exact keptIte (kept_State_hostWrite (sub hm) g0) (kept_State_devWrite (sub hm) g0)

theorem kept_State_startDump {v0 : State} {v1 : Nat} {v2 : Nat} {v3 : List Byte} {v4 : Option DumpNext} (hm : m &&& 134438896 = 0) (g0 : Kept m o v0) :
    Kept m o (State.startDump v0 v1 v2 v3 v4).2 := by
  unfold State.startDump
  extract_lets +onlyGivenNames -merge -underBinder x0
  clear_value x0
  split
  · refine keptIte2 ?_ ?_
    · extract_lets +onlyGivenNames -merge -underBinder x1 x2
      clear_value x1 x2
      extract_lets +onlyGivenNames -merge -underBinder x3
      have h4 : Kept m o x3 := by
        unfold x3
        exact kept_State_setReg (sub hm) g0
      clear_value x3
      extract_lets +onlyGivenNames -merge -underBinder x5
      clear_value x5
      extract_lets +onlyGivenNames -merge -underBinder x6
      have h7 : Kept m o x6 := by
        unfold x6
        exact keptUpd hm (s := x3) (by constructor <;> first | exact .inl rfl | exact .inr rfl) rfl rfl rfl h4
      clear_value x6
      dsimp only [id]
      exact kept_State_chestWrite (sub hm) h7
    · dsimp only [id]
      exact kept_State_bump (sub hm) g0
  · dsimp only [id]
    exact kept_State_bump (sub hm) g0

theorem kept_State_abortAll {v0 : State} {v1 : Nat} (hm : m &&& 4194338 = 0) (g0 : Kept m o v0) :
    Kept m o (State.abortAll v0 v1) := by
  unfold State.abortAll
  refine foldlKept ?_ ?_
  · intro a0 a1 a2
    exact kept_State_originateAbort (sub hm) a2
  · exact g0

theorem kept_State_coreReset {v0 : State} {v1 : PlnUnit} {v2 : FMap Word} (hm : m &&& 435944992 = 0) (g0 : Kept m o v0) :
    Kept m o (State.coreReset v0 v1 v2) := by
  unfold State.coreReset
  exact keptUpd hm (s := v0) (by constructor <;> first | exact .inl rfl | exact .inr rfl) rfl rfl rfl g0

theorem kept_State_dropEntries {v0 : State} {v1 : Entry → Bool} (hm : m &&& 17825826 = 0) (g0 : Kept m o v0) :
    Kept m o (State.dropEntries v0 v1) := by
  unfold State.dropEntries
  refine foldlKept ?_ ?_
  · intro a0 a1 a2
    exact kept_State_dropEntry (sub hm) a2
  · exact g0

theorem kept_State_chipReset {v0 : State} (hm : m &&& 435945314 = 0) (g0 : Kept m o v0) :
    Kept m o (State.chipReset v0) := by
  unfold State.chipReset
  extract_lets +onlyGivenNames -merge -underBinder x0
  have h1 : Kept m o x0 := by
    unfold x0
    exact kept_State_dropEntries (sub hm) (kept_State_abortAll (sub hm) g0)
  clear_value x0
  extract_lets +onlyGivenNames -merge -underBinder x2
  clear_value x2
  extract_lets +onlyGivenNames -merge -underBinder x3
  have h4 : Kept m o x3 := by
    unfold x3
    refine kept_State_loseBlock (sub hm) (foldlKept ?_ ?_)
    · intro a5 a6 a7
      exact kept_State_loseSpan (sub hm) a7
    · exact h1
  clear_value x3
  extract_lets +onlyGivenNames -merge -underBinder x8
  clear_value x8
  exact kept_State_coreReset (sub hm) h4

theorem kept_State_holdForTray {v0 : State} {v1 : Nat} {v2 : Nat} (hm : m &&& 17825826 = 0) (g0 : Kept m o v0) :
    Kept m o (State.holdForTray v0 v1 v2) := by
  unfold State.holdForTray
  extract_lets +onlyGivenNames -merge -underBinder x0
  have h1 : Kept m o x0 := by
    unfold x0
    exact kept_State_powerCycle (sub hm) (kept_State_dropEntries (sub hm) g0)
  clear_value x0
  exact keptUpd hm (s := x0) (by constructor <;> first | exact .inl rfl | exact .inr rfl) rfl rfl rfl h1

theorem kept_State_takeReset {v0 : State} {v1 : Nat} {v2 : Nat} {v3 : Nat} (hm : m &&& 435945314 = 0) (g0 : Kept m o v0) :
    Kept m o (State.takeReset v0 v1 v2 v3) := by
  unfold State.takeReset
  exact keptIte (kept_State_chipReset (sub hm) g0) (kept_State_holdForTray (sub hm) g0)

theorem kept_State_afterDump {v0 : State} {v1 : Nat} {v2 : Nat} {v3 : Nat} (hm : m &&& 435945314 = 0) (g0 : Kept m o v0) :
    Kept m o (State.afterDump v0 v1 v2 v3) := by
  unfold State.afterDump
  split
  · refine keptIte ?_ ?_
    · exact g0
    · extract_lets +onlyGivenNames -merge -underBinder x0
      clear_value x0
      exact keptUpd hm (s := v0) (by constructor <;> first | exact .inl rfl | exact .inr rfl) rfl rfl rfl g0
  · exact kept_State_takeReset (sub hm) g0

theorem kept_State_escalate {v0 : State} {v1 : Nat} {v2 : Nat} {v3 : Option Nat} (hm : m &&& 435945458 = 0) (g0 : Kept m o v0) :
    Kept m o (State.escalate v0 v1 v2 v3) := by
  unfold State.escalate
  extract_lets +onlyGivenNames -merge -underBinder x0 x1
  clear_value x0 x1
  extract_lets +onlyGivenNames -merge -underBinder x2
  have h3 : Kept m o x2 := by
    unfold x2
    exact kept_State_bump (sub hm) (kept_State_faultEvent (sub hm) g0)
  clear_value x2
  refine keptIte ?_ ?_
  · extract_lets +onlyGivenNames -merge -underBinder x4
    have h5 : Kept m o x4 := by
      unfold x4
      exact keptIte (kept_State_abortAll (sub hm) h3) h3
    clear_value x4
    refine keptIte ?_ ?_
    · split
      · rename_i y6 y7
        exact keptPair2 y7 (kept_State_startDump (sub hm) h5)
      · rename_i y8 y9
        exact kept_State_afterDump (sub hm) (keptPair2 y9 (kept_State_startDump (sub hm) h5))
    · exact kept_State_afterDump (sub hm) h5
  · exact h3

theorem kept_State_stopDirect {v0 : State} {v1 : Cmd} {v2 : Nat} {v3 : Nat} {v4 : Nat} (hm : m &&& 6305314 = 0) (g0 : Kept m o v0) :
    Kept m o (State.stopDirect v0 v1 v2 v3 v4) := by
  unfold State.stopDirect
  extract_lets +onlyGivenNames -merge -underBinder x0
  clear_value x0
  extract_lets +onlyGivenNames -merge -underBinder x1
  have h2 : Kept m o x1 := by
    unfold x1
    refine foldlKept ?_ ?_
    · intro a3 a4 a5
      exact kept_State_emit (sub hm) (kept_State_setTile (sub hm) a5)
    · exact g0
  clear_value x1
  extract_lets +onlyGivenNames -merge -underBinder x6
  clear_value x6
  extract_lets +onlyGivenNames -merge -underBinder x7
  have h8 : Kept m o x7 := by
    unfold x7
    exact kept_State_dropReqsOf (sub hm) (kept_State_updCmd (sub hm) h2)
  clear_value x7
  exact keptIte (kept_State_finishKill (sub hm) h8) h8

theorem kept_State_unplace {v0 : State} {v1 : Cmd} (hm : m &&& 9762 = 0) (g0 : Kept m o v0) :
    Kept m o (State.unplace v0 v1) := by
  unfold State.unplace
  exact kept_State_updCmd (sub hm) (kept_State_freeTiles (sub hm) g0)

theorem kept_State_loseTile {v0 : State} {v1 : Nat} (hm : m &&& 140738530 = 0) (g0 : Kept m o v0) :
    Kept m o (State.loseTile v0 v1) := by
  unfold State.loseTile
  extract_lets +onlyGivenNames -merge -underBinder x0
  clear_value x0
  extract_lets +onlyGivenNames -merge -underBinder x1
  have h2 : Kept m o x1 := by
    unfold x1
    refine foldlKept ?_ ?_
    · intro a3 a4 a5
      exact keptIte (kept_loadFails (sub hm) a5) (kept_saveFails (sub hm) a5)
    · exact g0
  clear_value x1
  split
  · refine keptIte ?_ ?_
    · exact h2
    · extract_lets +onlyGivenNames -merge -underBinder x6
      have h7 : Kept m o x6 := by
        unfold x6
        refine foldlKept ?_ ?_
        · intro a8 a9 a10
          extract_lets +onlyGivenNames -merge -underBinder x11
          have h12 : Kept m o x11 := by
            unfold x11
            exact kept_State_updCmd (sub hm) a10
          clear_value x11
          split
          · exact keptIte (kept_State_stopDirect (sub hm) h12) (kept_State_killCmd (sub hm) h12)
          · exact h12
        · exact h2
      clear_value x6
      exact kept_State_loseState (sub hm) h7
  · exact h2

theorem kept_State_holdTile {v0 : State} {v1 : Nat} {v2 : Nat} {v3 : Nat} {v4 : Nat} (hm : m &&& 140738530 = 0) (g0 : Kept m o v0) :
    Kept m o (State.holdTile v0 v1 v2 v3 v4) := by
  unfold State.holdTile
  extract_lets +onlyGivenNames -merge -underBinder x0
  clear_value x0
  extract_lets +onlyGivenNames -merge -underBinder x1
  have h2 : Kept m o x1 := by
    unfold x1
    split
    · split
      · refine keptIte ?_ ?_
        · split
          · exact kept_State_stopDirect (sub hm) g0
          · exact kept_State_unplace (sub hm) g0
          · exact kept_State_ackKill (sub hm) g0
        · exact kept_State_ackKill (sub hm) (kept_State_killCmd (sub hm) (kept_State_updCmd (sub hm) g0))
      · exact g0
    · exact g0
  clear_value x1
  exact kept_State_loseTile (sub hm) h2

theorem kept_State_holdTraffic {v0 : State} {v1 : Nat} (hm : m &&& 65536 = 0) (g0 : Kept m o v0) :
    Kept m o (State.holdTraffic v0 v1) := by
  unfold State.holdTraffic
  exact keptUpd hm (s := v0) (by constructor <;> first | exact .inl rfl | exact .inr rfl) rfl rfl rfl g0

theorem kept_State_killAll {v0 : State} {v1 : Nat} (hm : m &&& 140738530 = 0) (g0 : Kept m o v0) :
    Kept m o (State.killAll v0 v1) := by
  unfold State.killAll
  refine foldlKept ?_ ?_
  · intro a0 a1 a2
    exact kept_State_killCmd (sub hm) a2
  · exact g0

theorem kept_State_holdUnit {v0 : State} {v1 : Nat} {v2 : Nat} {v3 : Option Nat} (hm : m &&& 150700018 = 0) (g0 : Kept m o v0) :
    Kept m o (State.holdUnit v0 v1 v2 v3) := by
  unfold State.holdUnit
  extract_lets +onlyGivenNames -merge -underBinder x0
  clear_value x0
  split
  · exact kept_State_holdTile (sub hm) g0
  · extract_lets +onlyGivenNames -merge -underBinder x1 x2
    clear_value x1 x2
    exact keptUpd hm (s := v0) (by constructor <;> first | exact .inl rfl | exact .inr rfl) rfl rfl rfl g0
  · exact kept_State_resetTables (sub hm) (kept_State_resetDce (sub hm) g0)
  · refine foldlKept ?_ ?_
    · intro a3 a4 a5
      exact kept_State_discardStep (sub hm) a5
    · exact g0
  · refine foldlKept ?_ ?_
    · intro a6 a7 a8
      exact kept_State_killAll (sub hm) a8
    · exact g0
  · exact kept_State_holdTraffic (sub hm) g0
  · exact kept_State_holdTraffic (sub hm) g0
  · exact kept_State_holdPort (sub hm) (kept_State_holdTraffic (sub hm) g0)
  · refine foldlKept ?_ ?_
    · intro a9 a10 a11
      exact kept_State_holdPort (sub hm) a11
    · exact kept_State_holdTraffic (sub hm) g0
  · exact g0

theorem kept_State_enterPhase {v0 : State} {v1 : Nat} {v2 : UnitPhase} (hm : m &&& 134434784 = 0) (g0 : Kept m o v0) :
    Kept m o (State.enterPhase v0 v1 v2) := by
  unfold State.enterPhase
  extract_lets +onlyGivenNames -merge -underBinder x0
  clear_value x0
  extract_lets +onlyGivenNames -merge -underBinder x1
  have h2 : Kept m o x1 := by
    unfold x1
    exact kept_State_setUnitSt (sub hm) g0
  clear_value x1
  exact kept_State_trace (sub hm) h2

theorem kept_State_beginReset {v0 : State} {v1 : Nat} {v2 : Nat} {v3 : Option Nat} {v4 : List Suspect} (hm : m &&& 150700018 = 0) (g0 : Kept m o v0) :
    Kept m o (State.beginReset v0 v1 v2 v3 v4) := by
  unfold State.beginReset
  extract_lets +onlyGivenNames -merge -underBinder x0 x1
  clear_value x0 x1
  extract_lets +onlyGivenNames -merge -underBinder x2
  have h3 : Kept m o x2 := by
    unfold x2
    exact kept_State_setUnitSt (sub hm) g0
  clear_value x2
  extract_lets +onlyGivenNames -merge -underBinder x4
  have h5 : Kept m o x4 := by
    unfold x4
    exact kept_State_enterPhase (sub hm) (kept_State_bump (sub hm) h3)
  clear_value x4
  extract_lets +onlyGivenNames -merge -underBinder x6
  have h7 : Kept m o x6 := by
    unfold x6
    exact keptIte (kept_State_bump (sub hm) h5) h5
  clear_value x6
  extract_lets +onlyGivenNames -merge -underBinder x8
  have h9 : Kept m o x8 := by
    unfold x8
    refine foldlKept ?_ ?_
    · intro a10 a11 a12
      exact kept_State_countReset (sub hm) a12
    · exact h7
  clear_value x8
  extract_lets +onlyGivenNames -merge -underBinder x13
  have h14 : Kept m o x13 := by
    unfold x13
    exact kept_State_holdUnit (sub hm) h9
  clear_value x13
  refine foldlKept ?_ ?_
  · intro a15 a16 a17
    exact kept_State_holdSuspect (sub hm) a17
  · exact h14

theorem kept_State_retire {v0 : State} {v1 : Nat} (hm : m &&& 8224 = 0) (g0 : Kept m o v0) :
    Kept m o (State.retire v0 v1) := by
  unfold State.retire
  refine keptIte ?_ ?_
  · exact g0
  · extract_lets +onlyGivenNames -merge -underBinder x0
    clear_value x0
    extract_lets +onlyGivenNames -merge -underBinder x1
    have h2 : Kept m o x1 := by
      unfold x1
      exact kept_State_bump (sub hm) (kept_State_setTile (sub hm) g0)
    clear_value x1
    exact kept_State_setReg (sub hm) h2

theorem kept_State_endCulprit {v0 : State} {v1 : Nat} {v2 : Option Nat} {v3 : Suspect} (hm : m &&& 142311394 = 0) (g0 : Kept m o v0) :
    Kept m o (State.endCulprit v0 v1 v2 v3).2 := by
  unfold State.endCulprit
  split
  · split
    · split
      · dsimp only [id]
        exact kept_State_ackKill (sub hm) (kept_State_killCmd (sub hm) (kept_State_updCmd (sub hm) g0))
      · exact g0
    · exact g0
  · split
    · dsimp only [id]
      exact kept_State_endTransfer (sub hm) g0
    · exact g0
  · split
    · dsimp only [id]
      exact kept_State_endDce (sub hm) (kept_State_discardPeers (sub hm) g0)
    · exact g0

theorem kept_State_findGuilty {v0 : State} {v1 : Nat} {v2 : Nat} {v3 : Option Nat} {v4 : Suspect} (hm : m &&& 150700018 = 0) (g0 : Kept m o v0) :
    Kept m o (State.findGuilty v0 v1 v2 v3 v4) := by
  unfold State.findGuilty
  extract_lets +onlyGivenNames -merge -underBinder x0
  clear_value x0
  extract_lets +onlyGivenNames -merge -underBinder x1
  have h2 : Kept m o x1.2 := by
    unfold x1
    exact kept_State_endCulprit (sub hm) g0
  clear_value x1
  extract_lets +onlyGivenNames -merge -underBinder x3
  have h4 : Kept m o x3 := by
    unfold x3
    exact kept_State_bump (sub hm) (kept_State_verdict (sub hm) h2)
  clear_value x3
  extract_lets +onlyGivenNames -merge -underBinder x5
  have h6 : Kept m o x5 := by
    unfold x5
    exact kept_State_endSearch (sub hm) h4
  clear_value x5
  exact kept_State_countReset (sub hm) (kept_State_beginTeardown (sub hm) h6)

theorem kept_State_engineFault {v0 : State} {v1 : Nat} {v2 : Nat} {v3 : Option Nat} (hm : m &&& 435945458 = 0) (g0 : Kept m o v0) :
    Kept m o (State.engineFault v0 v1 v2 v3) := by
  unfold State.engineFault
  extract_lets +onlyGivenNames -merge -underBinder x0 x1 x2 x3 x4 x5
  clear_value x0 x1 x2 x3 x4 x5
  refine keptIte ?_ ?_
  · exact kept_State_escalate (sub hm) (kept_State_faultEvent (sub hm) g0)
  · refine keptIte ?_ ?_
    · exact kept_State_faultEvent (sub hm) g0
    · extract_lets +onlyGivenNames -merge -underBinder x6
      have h7 : Kept m o x6 := by
        unfold x6
        exact kept_State_faultEvent (sub hm) g0
      clear_value x6
      extract_lets +onlyGivenNames -merge -underBinder x8
      clear_value x8
      extract_lets +onlyGivenNames -merge -underBinder x9
      have h10 : Kept m o x9 := by
        unfold x9
        split
        · exact kept_State_findGuilty (sub hm) h7
        · exact h7
      clear_value x9
      extract_lets +onlyGivenNames -merge -underBinder x11
      clear_value x11
      exact keptIte (keptIte (kept_State_beginReset (sub hm) (kept_State_retire (sub hm) (kept_State_escalate (sub hm) h10))) (kept_State_escalate (sub hm) h10)) (kept_State_beginReset (sub hm) h10)

theorem kept_State_faultOn {v0 : State} {v1 : Nat} {v2 : Nat} {v3 : Option Nat} (hm : m &&& 435945458 = 0) (g0 : Kept m o v0) :
    Kept m o (State.faultOn v0 v1 v2 v3) := by
  unfold State.faultOn
  exact keptIte (keptUpd hm (s := v0) (by constructor <;> first | exact .inl rfl | exact .inr rfl) rfl rfl rfl g0) (kept_State_engineFault (sub hm) g0)

theorem kept_State_takeDeferred {v0 : State} (hm : m &&& 435945458 = 0) (g0 : Kept m o v0) :
    Kept m o (State.takeDeferred v0) := by
  unfold State.takeDeferred
  extract_lets +onlyGivenNames -merge -underBinder x0
  clear_value x0
  refine foldlKept ?_ ?_
  · intro a1 a2 a3
    exact kept_State_engineFault (sub hm) a3
  · exact keptUpd hm (s := v0) (by constructor <;> first | exact .inl rfl | exact .inr rfl) rfl rfl rfl g0

theorem kept_hangDetected {v0 : Nat} {v1 : Option Nat} {v2 : State} (hm : m &&& 435945458 = 0) (g2 : Kept m o v2) :
    Kept m o (hangDetected v0 v1 v2) := by
  unfold hangDetected
  exact keptIte (kept_State_faultOn (sub hm) g2) g2

theorem kept_execHangDetected {v0 : UnitId} {v1 : Option ChanId} {v2 : State} (hm : m &&& 435945458 = 0) (g2 : Kept m o v2) :
    ∀ s', (execHangDetected v0 v1 v2) = .next s' → Kept m o s' := by
  unfold execHangDetected
  exact keptNext (keptIte g2 (kept_hangDetected (sub hm) g2))

theorem kept_State_loseArrays {v0 : State} {v1 : Nat} {v2 : List Nat} (hm : m &&& 16416 = 0) (g0 : Kept m o v0) :
    Kept m o (State.loseArrays v0 v1 v2) := by
  unfold State.loseArrays
  refine keptIte ?_ ?_
  · refine foldlKept ?_ ?_
    · intro a0 a1 a2
      exact keptIte (kept_State_setReg (sub hm) a2) a2
    · exact g0
  · refine keptIte ?_ ?_
    · extract_lets +onlyGivenNames -merge -underBinder x3 x4
      clear_value x3 x4
      exact keptUpd hm (s := v0) (by constructor <;> first | exact .inl rfl | exact .inr rfl) rfl rfl rfl g0
    · exact g0

theorem kept_execSramError {v0 : UnitId} {v1 : List Nat} {v2 : State} (hm : m &&& 435945458 = 0) (g2 : Kept m o v2) :
    ∀ s', (execSramError v0 v1 v2) = .next s' → Kept m o s' := by
  unfold execSramError
  exact keptNext (keptIte (kept_State_faultOn (sub hm) (kept_State_loseArrays (sub hm) g2)) g2)

theorem kept_holdDone {v0 : Nat} {v1 : State} (hm : m &&& 134434784 = 0) (g1 : Kept m o v1) :
    Kept m o (holdDone v0 v1) := by
  unfold holdDone
  exact keptIte (kept_State_enterPhase (sub hm) g1) g1

theorem kept_execEngineResetHoldDone {v0 : UnitId} {v1 : State} (hm : m &&& 134434784 = 0) (g1 : Kept m o v1) :
    ∀ s', (execEngineResetHoldDone v0 v1) = .next s' → Kept m o s' := by
  unfold execEngineResetHoldDone
  exact keptNext (keptIte g1 (kept_holdDone (sub hm) g1))

theorem kept_State_resyncTu {v0 : State} (hm : m &&& 140738530 = 0) (g0 : Kept m o v0) :
    Kept m o (State.resyncTu v0) := by
  unfold State.resyncTu
  extract_lets +onlyGivenNames -merge -underBinder x0
  have h1 : Kept m o x0 := by
    unfold x0
    refine foldlKept ?_ ?_
    · intro a2 a3 a4
      extract_lets +onlyGivenNames -merge -underBinder x5
      have h6 : Kept m o x5 := by
        unfold x5
        refine foldlKept ?_ ?_
        · intro a7 a8 a9
          exact kept_State_killCmd (sub hm) a9
        · exact a4
      clear_value x5
      refine foldlKept ?_ ?_
      · intro a10 a11 a12
        exact kept_State_killDce (sub hm) a12
      · exact h6
    · exact g0
  clear_value x0
  extract_lets +onlyGivenNames -merge -underBinder x13
  have h14 : Kept m o x13 := by
    unfold x13
    refine foldlKept ?_ ?_
    · intro a15 a16 a17
      split
      · exact kept_State_addReq (sub hm) (kept_State_dropReq (sub hm) a17)
      · exact kept_State_dropReq (sub hm) a17
    · exact h1
  clear_value x13
  extract_lets +onlyGivenNames -merge -underBinder x18
  clear_value x18
  exact keptUpd hm (s := x13) (by constructor <;> first | exact .inl rfl | exact .inr rfl) rfl rfl rfl h14

theorem kept_State_resyncLatches {v0 : State} (hm : m &&& 152264690 = 0) (g0 : Kept m o v0) :
    Kept m o (State.resyncLatches v0) := by
  unfold State.resyncLatches
  refine foldlKept ?_ ?_
  · intro a0 a1 a2
    exact kept_State_evalLatch (sub hm) a2
  · exact g0

theorem kept_State_raiseMeta {v0 : State} {v1 : Nat} {v2 : MetaKey} (hm : m &&& 134434784 = 0) (g0 : Kept m o v0) :
    Kept m o (State.raiseMeta v0 v1 v2) := by
  unfold State.raiseMeta
  split
  · split
    · exact kept_State_raiseQuar (sub hm) g0
    · exact g0
  · split
    · exact kept_State_raiseQuar (sub hm) g0
    · exact g0

theorem kept_State_resyncGate {v0 : State} {v1 : Nat} (hm : m &&& 134434800 = 0) (g0 : Kept m o v0) :
    Kept m o (State.resyncGate v0 v1) := by
  unfold State.resyncGate
  extract_lets +onlyGivenNames -merge -underBinder x0 y0
  clear_value x0 y0
  extract_lets +onlyGivenNames -merge -underBinder x1
  have h2 : Kept m o x1 := by
    unfold x1
    exact keptUpd hm (s := v0) (by constructor <;> first | exact .inl rfl | exact .inr rfl) rfl rfl rfl g0
  clear_value x1
  extract_lets +onlyGivenNames -merge -underBinder x3
  have h4 : Kept m o x3 := by
    unfold x3
    refine foldlKept ?_ h2
    intro a5 a6 a7
    exact kept_State_raiseMeta (sub hm) (kept_State_bump (sub hm) a7)
  clear_value x3
  exact kept_State_flushCache (sub hm) h4

theorem kept_logicDone {v0 : Nat} {v1 : State} (hm : m &&& 158564338 = 0) (g1 : Kept m o v1) :
    Kept m o (logicDone v0 v1) := by
  unfold logicDone
  extract_lets +onlyGivenNames -merge -underBinder x0
  clear_value x0
  refine keptIte ?_ ?_
  · extract_lets +onlyGivenNames -merge -underBinder x1
    have h2 : Kept m o x1 := by
      unfold x1
      exact kept_State_enterPhase (sub hm) (kept_State_setUnitSt (sub hm) g1)
    clear_value x1
    split
    · exact kept_State_resyncLatches (sub hm) h2
    · exact kept_State_resyncTu (sub hm) h2
    · exact kept_State_resyncGate (sub hm) h2
    · exact keptUpd hm (s := x1) (by constructor <;> first | exact .inl rfl | exact .inr rfl) rfl rfl rfl h2
    · exact h2
  · exact g1

theorem kept_execEngineResetLogicDone {v0 : UnitId} {v1 : State} (hm : m &&& 158564338 = 0) (g1 : Kept m o v1) :
    ∀ s', (execEngineResetLogicDone v0 v1) = .next s' → Kept m o s' := by
  unfold execEngineResetLogicDone
  exact keptNext (keptIte g1 (kept_logicDone (sub hm) g1))

theorem kept_State_releaseTraffic {v0 : State} {v1 : Nat} (hm : m &&& 138478080 = 0) (g0 : Kept m o v0) :
    Kept m o (State.releaseTraffic v0 v1) := by
  unfold State.releaseTraffic
  refine keptIte ?_ ?_
  · extract_lets +onlyGivenNames -merge -underBinder x0 x1
    clear_value x0 x1
    extract_lets +onlyGivenNames -merge -underBinder x2
    have h3 : Kept m o x2 := by
      unfold x2
      exact keptIte (kept_State_chargeHold (sub hm) g0) g0
    clear_value x2
    extract_lets +onlyGivenNames -merge -underBinder x4
    clear_value x4
    extract_lets +onlyGivenNames -merge -underBinder x5
    have h6 : Kept m o x5 := by
      unfold x5
      exact keptUpd hm (s := x2) (by constructor <;> first | exact .inl rfl | exact .inr rfl) rfl rfl rfl h3
    clear_value x5
    exact keptIte (kept_State_setGate (sub hm) h6) (keptIte (keptUpd hm (s := x5) (by constructor <;> first | exact .inl rfl | exact .inr rfl) rfl rfl rfl h6) h6)
  · exact g0

theorem kept_State_freePorts {v0 : State} (hm : m &&& 159088626 = 0) (g0 : Kept m o v0) :
    Kept m o (State.freePorts v0) := by
  unfold State.freePorts
  refine foldlKept ?_ ?_
  · intro a0 a1 a2
    exact kept_State_releasePort (sub hm) a2
  · exact g0

theorem kept_State_endRst {v0 : State} {v1 : RstWait} (hm : m &&& 65568 = 0) (g0 : Kept m o v0) :
    Kept m o (State.endRst v0 v1) := by
  unfold State.endRst
  exact keptIte (kept_State_result (sub hm) (keptUpd hm (s := v0) (by constructor <;> first | exact .inl rfl | exact .inr rfl) rfl rfl rfl g0)) g0

theorem kept_State_confirmTiles {v0 : State} {v1 : List Nat} (hm : m &&& 4207666 = 0) (g0 : Kept m o v0) :
    Kept m o (State.confirmTiles v0 v1) := by
  unfold State.confirmTiles
  extract_lets +onlyGivenNames -merge -underBinder x0
  clear_value x0
  refine foldlKept ?_ ?_
  · intro a1 a2 a3
    extract_lets +onlyGivenNames -merge -underBinder x4
    clear_value x4
    refine keptIte ?_ ?_
    · exact a3
    · split
      · exact kept_State_loseState (sub hm) a3
      · exact kept_State_clearTile (sub hm) a3
  · exact keptUpd hm (s := v0) (by constructor <;> first | exact .inl rfl | exact .inr rfl) rfl rfl rfl g0

theorem kept_resyncDone {v0 : Nat} {v1 : State} (hm : m &&& 159088626 = 0) (g1 : Kept m o v1) :
    Kept m o (resyncDone v0 v1) := by
  unfold resyncDone
  extract_lets +onlyGivenNames -merge -underBinder x0
  clear_value x0
  refine keptIte ?_ ?_
  · extract_lets +onlyGivenNames -merge -underBinder x1
    clear_value x1
    extract_lets +onlyGivenNames -merge -underBinder x2
    have h3 : Kept m o x2 := by
      unfold x2
      exact kept_State_enterPhase (sub hm) g1
    clear_value x2
    extract_lets +onlyGivenNames -merge -underBinder x4
    have h5 : Kept m o x4 := by
      unfold x4
      exact kept_State_freePorts (sub hm) (kept_State_releaseTraffic (sub hm) h3)
    clear_value x4
    extract_lets +onlyGivenNames -merge -underBinder x6
    have h7 : Kept m o x6 := by
      unfold x6
      exact keptIte (kept_State_emit (sub hm) h5) h5
    clear_value x6
    extract_lets +onlyGivenNames -merge -underBinder x8
    have h9 : Kept m o x8 := by
      unfold x8
      exact keptIte (kept_State_retable (sub hm) h7) h7
    clear_value x8
    extract_lets +onlyGivenNames -merge -underBinder x10
    have h11 : Kept m o x10 := by
      unfold x10
      exact keptIte (kept_State_confirmTiles (sub hm) h9) h9
    clear_value x10
    extract_lets +onlyGivenNames -merge -underBinder x12
    have h13 : Kept m o x12 := by
      unfold x12
      exact kept_State_startSearch (sub hm) h11
    clear_value x12
    exact kept_State_endRst (sub hm) (keptIte (kept_State_setUnitSt (sub hm) h13) h13)
  · exact g1

theorem kept_replayComplete {v0 : Nat} {v1 : State} (hm : m &&& 137588704 = 0) (g1 : Kept m o v1) :
    Kept m o (replayComplete v0 v1) := by
  unfold replayComplete
  split
  · split
    · exact keptIte (kept_State_clearHead (sub hm) g1) g1
    · exact g1
  · exact g1

theorem kept_execSearchReplayComplete {v0 : UnitId} {v1 : State} (hm : m &&& 137588704 = 0) (g1 : Kept m o v1) :
    ∀ s', (execSearchReplayComplete v0 v1) = .next s' → Kept m o s' := by
  unfold execSearchReplayComplete
  exact keptNext (keptIte g1 (kept_replayComplete (sub hm) g1))

theorem kept_searchTimer {v0 : Nat} {v1 : State} (hm : m &&& 137588704 = 0) (g1 : Kept m o v1) :
    Kept m o (searchTimer v0 v1) := by
  unfold searchTimer
  split
  · exact keptIte (kept_State_clearHead (sub hm) g1) g1
  · exact g1

theorem kept_execSearchClearTimer {v0 : UnitId} {v1 : State} (hm : m &&& 137588704 = 0) (g1 : Kept m o v1) :
    ∀ s', (execSearchClearTimer v0 v1) = .next s' → Kept m o s' := by
  unfold execSearchClearTimer
  exact keptNext (keptIte g1 (kept_searchTimer (sub hm) g1))

theorem kept_State_cancelMoves {v0 : State} {v1 : Nat} (hm : m &&& 1053728 = 0) (g0 : Kept m o v0) :
    Kept m o (State.cancelMoves v0 v1) := by
  unfold State.cancelMoves
  extract_lets +onlyGivenNames -merge -underBinder x0 x1
  clear_value x0 x1
  extract_lets +onlyGivenNames -merge -underBinder x2
  have h3 : Kept m o x2 := by
    unfold x2
    exact keptUpd hm (s := v0) (by constructor <;> first | exact .inl rfl | exact .inr rfl) rfl rfl rfl g0
  clear_value x2
  extract_lets +onlyGivenNames -merge -underBinder x4
  have h5 : Kept m o x4 := by
    unfold x4
    refine foldlKept ?_ ?_
    · intro a6 a7 a8
      exact kept_State_endFlight (sub hm) a8
    · exact h3
  clear_value x4
  extract_lets +onlyGivenNames -merge -underBinder x9
  clear_value x9
  refine foldlKept ?_ ?_
  · intro a10 a11 a12
    extract_lets +onlyGivenNames -merge -underBinder x13
    clear_value x13
    extract_lets +onlyGivenNames -merge -underBinder x14
    have h15 : Kept m o x14 := by
      unfold x14
      refine foldlKept ?_ ?_
      · intro a16 a17 a18
        exact kept_State_endFlight (sub hm) a18
      · exact a12
    clear_value x14
    extract_lets +onlyGivenNames -merge -underBinder x19
    have h20 : Kept m o x19 := by
      unfold x19
      exact kept_State_abortChan (sub hm) h15
    clear_value x19
    exact keptIte h20 (kept_State_releaseChan (sub hm) h20)
  · exact h5

theorem kept_State_runCabReset {v0 : State} {v1 : Nat} (hm : m &&& 167477234 = 0) (g0 : Kept m o v0) :
    Kept m o (State.runCabReset v0 v1) := by
  unfold State.runCabReset
  extract_lets +onlyGivenNames -merge -underBinder x0
  have h1 : Kept m o x0 := by
    unfold x0
    exact kept_State_leaveSearch (sub hm) (kept_State_bump (sub hm) g0)
  clear_value x0
  extract_lets +onlyGivenNames -merge -underBinder x2
  have h3 : Kept m o x2 := by
    unfold x2
    exact kept_State_dropEntries (sub hm) h1
  clear_value x2
  extract_lets +onlyGivenNames -merge -underBinder x4
  have h5 : Kept m o x4 := by
    unfold x4
    exact keptIte (kept_State_abortJob (sub hm) h3) (kept_State_abortDce (sub hm) h3)
  clear_value x4
  extract_lets +onlyGivenNames -merge -underBinder x6
  have h7 : Kept m o x6 := by
    unfold x6
    exact kept_State_cancelMoves (sub hm) (kept_State_killAll (sub hm) (kept_State_discardStep (sub hm) h5))
  clear_value x6
  extract_lets +onlyGivenNames -merge -underBinder x8
  clear_value x8
  exact keptUpd hm (s := x6) (by constructor <;> first | exact .inl rfl | exact .inr rfl) rfl rfl rfl h7

theorem kept_State_startCabReset {v0 : State} {v1 : Nat} (hm : m &&& 167477234 = 0) (g0 : Kept m o v0) :
    Kept m o (State.startCabReset v0 v1) := by
  unfold State.startCabReset
  refine keptIte ?_ ?_
  · exact g0
  · extract_lets +onlyGivenNames -merge -underBinder x0
    clear_value x0
    extract_lets +onlyGivenNames -merge -underBinder x1
    have h2 : Kept m o x1 := by
      unfold x1
      exact keptUpd hm (s := v0) (by constructor <;> first | exact .inl rfl | exact .inr rfl) rfl rfl rfl g0
    clear_value x1
    exact keptIte h2 (kept_State_runCabReset (sub hm) h2)

theorem kept_cabResetDone {v0 : Nat} {v1 : State} (hm : m &&& 167477234 = 0) (g1 : Kept m o v1) :
    Kept m o (cabResetDone v0 v1) := by
  unfold cabResetDone
  split
  · split
    · exact keptIte g1 (keptIte (kept_State_runCabReset (sub hm) g1) (kept_State_endRst (sub hm) (keptUpd hm (s := v1) (by constructor <;> first | exact .inl rfl | exact .inr rfl) rfl rfl rfl g1)))
    · refine keptIte ?_ ?_
      · exact g1
      · extract_lets +onlyGivenNames -merge -underBinder x0 x1
        clear_value x0 x1
        extract_lets +onlyGivenNames -merge -underBinder x2
        have h3 : Kept m o x2 := by
          unfold x2
          exact keptUpd hm (s := v1) (by constructor <;> first | exact .inl rfl | exact .inr rfl) rfl rfl rfl g1
        clear_value x2
        exact kept_State_endRst (sub hm) (kept_State_countReset (sub hm) (kept_State_confirmTiles (sub hm) h3))
  · exact g1

theorem kept_execCabinetResetComplete {v0 : CabId} {v1 : State} (hm : m &&& 167477234 = 0) (g1 : Kept m o v1) :
    ∀ s', (execCabinetResetComplete v0 v1) = .next s' → Kept m o s' := by
  unfold execCabinetResetComplete
  exact keptNext (keptIte g1 (kept_cabResetDone (sub hm) g1))

theorem kept_cabDirectLimit {v0 : Nat} {v1 : State} (hm : m &&& 435945458 = 0) (g1 : Kept m o v1) :
    Kept m o (cabDirectLimit v0 v1) := by
  unfold cabDirectLimit
  refine keptIte ?_ ?_
  · extract_lets +onlyGivenNames -merge -underBinder x0
    clear_value x0
    refine foldlKept ?_ ?_
    · intro a1 a2 a3
      exact kept_State_faultOn (sub hm) a3
    · exact g1
  · exact g1

theorem kept_execCabinetResetDirectLimit {v0 : CabId} {v1 : State} (hm : m &&& 435945458 = 0) (g1 : Kept m o v1) :
    ∀ s', (execCabinetResetDirectLimit v0 v1) = .next s' → Kept m o s' := by
  unfold execCabinetResetDirectLimit
  exact keptNext (keptIte g1 (kept_cabDirectLimit (sub hm) g1))

theorem kept_execCabinetResetLimitMiss {v0 : CabId} {v1 : State} (hm : m &&& 435945458 = 0) (g1 : Kept m o v1) :
    ∀ s', (execCabinetResetLimitMiss v0 v1) = .next s' → Kept m o s' := by
  unfold execCabinetResetLimitMiss
  exact keptNext (keptIte g1 (keptIte (kept_State_escalate (sub hm) g1) g1))

theorem kept_resetLimit {v0 : Nat} {v1 : State} (hm : m &&& 435945458 = 0) (g1 : Kept m o v1) :
    Kept m o (resetLimit v0 v1) := by
  unfold resetLimit
  extract_lets +onlyGivenNames -merge -underBinder x0
  clear_value x0
  refine keptIte ?_ ?_
  · refine keptIte ?_ ?_
    · extract_lets +onlyGivenNames -merge -underBinder x1
      clear_value x1
      extract_lets +onlyGivenNames -merge -underBinder x2
      have h3 : Kept m o x2 := by
        unfold x2
        exact kept_State_enterPhase (sub hm) (kept_State_retire (sub hm) (kept_State_escalate (sub hm) g1))
      clear_value x2
      extract_lets +onlyGivenNames -merge -underBinder x4
      clear_value x4
      extract_lets +onlyGivenNames -merge -underBinder x5
      have h6 : Kept m o x5 := by
        unfold x5
        refine foldlKept ?_ ?_
        · intro a7 a8 a9
          exact kept_State_holdSuspect (sub hm) a9
        · exact kept_State_setUnitSt (sub hm) h3
      clear_value x5
      split
      · extract_lets +onlyGivenNames -merge -underBinder x10
        clear_value x10
        extract_lets +onlyGivenNames -merge -underBinder x11
        have h12 : Kept m o x11 := by
          unfold x11
          exact keptIte (keptUpd hm (s := x5) (by constructor <;> first | exact .inl rfl | exact .inr rfl) rfl rfl rfl h6) h6
        clear_value x11
        exact kept_State_startCabReset (sub hm) h12
      · exact kept_State_endRst (sub hm) h6
    · exact kept_State_escalate (sub hm) g1
  · exact g1

theorem kept_execEngineResetLimitMiss {v0 : UnitId} {v1 : State} (hm : m &&& 435945458 = 0) (g1 : Kept m o v1) :
    ∀ s', (execEngineResetLimitMiss v0 v1) = .next s' → Kept m o s' := by
  unfold execEngineResetLimitMiss
  exact keptNext (keptIte g1 (kept_resetLimit (sub hm) g1))

theorem kept_contextResetDone {v0 : Nat} {v1 : Nat} {v2 : State} (hm : m &&& 66592 = 0) (g2 : Kept m o v2) :
    Kept m o (contextResetDone v0 v1 v2) := by
  unfold contextResetDone
  extract_lets +onlyGivenNames -merge -underBinder x0
  clear_value x0
  exact keptIte (kept_State_endRst (sub hm) (kept_State_setCtx (sub hm) g2)) g2

theorem kept_execContextResetComplete {v0 : CabId} {v1 : CtxId} {v2 : State} (hm : m &&& 66592 = 0) (g2 : Kept m o v2) :
    ∀ s', (execContextResetComplete v0 v1 v2) = .next s' → Kept m o s' := by
  unfold execContextResetComplete
  exact keptNext (keptIte g2 (kept_contextResetDone (sub hm) g2))

theorem kept_contextLimit {v0 : Nat} {v1 : Nat} {v2 : State} (hm : m &&& 435945458 = 0) (g2 : Kept m o v2) :
    Kept m o (contextLimit v0 v1 v2) := by
  unfold contextLimit
  extract_lets +onlyGivenNames -merge -underBinder x0 x1
  clear_value x0 x1
  refine keptIte ?_ ?_
  · extract_lets +onlyGivenNames -merge -underBinder x2
    have h3 : Kept m o x2 := by
      unfold x2
      exact kept_State_escalate (sub hm) g2
    clear_value x2
    extract_lets +onlyGivenNames -merge -underBinder x4
    clear_value x4
    extract_lets +onlyGivenNames -merge -underBinder x5
    have h6 : Kept m o x5 := by
      unfold x5
      exact keptIte (keptUpd hm (s := x2) (by constructor <;> first | exact .inl rfl | exact .inr rfl) rfl rfl rfl h3) h3
    clear_value x5
    exact kept_State_startCabReset (sub hm) h6
  · exact g2

theorem kept_execContextResetLimitMiss {v0 : CabId} {v1 : CtxId} {v2 : State} (hm : m &&& 435945458 = 0) (g2 : Kept m o v2) :
    ∀ s', (execContextResetLimitMiss v0 v1 v2) = .next s' → Kept m o s' := by
  unfold execContextResetLimitMiss
  exact keptNext (keptIte g2 (kept_contextLimit (sub hm) g2))

theorem kept_State_requested {v0 : State} {v1 : Nat} {v2 : Nat} {v3 : Option Nat} {v4 : Option Nat} (hm : m &&& 134434784 = 0) (g0 : Kept m o v0) :
    Kept m o (State.requested v0 v1 v2 v3 v4) := by
  unfold State.requested
  exact kept_State_faultEvent (sub hm) g0

theorem kept_State_rstWait {v0 : State} {v1 : RstWait} (hm : m &&& 65536 = 0) (g0 : Kept m o v0) :
    Kept m o (State.rstWait v0 v1) := by
  unfold State.rstWait
  exact keptUpd hm (s := v0) (by constructor <;> first | exact .inl rfl | exact .inr rfl) rfl rfl rfl g0

theorem kept_State_rstEnd {v0 : State} {v1 : Nat} (hm : m &&& 32 = 0) (g0 : Kept m o v0) :
    Kept m o (State.rstEnd v0 v1) := by
  unfold State.rstEnd
  exact kept_State_result (sub hm) g0

theorem kept_rstContext {v0 : State} (hm : m &&& 150700002 = 0) (g0 : Kept m o v0) :
    Kept m o (rstContext v0) := by
  unfold rstContext
  extract_lets +onlyGivenNames -merge -underBinder x0 x1 x2 x3
  clear_value x0 x1 x2 x3
  refine keptIte ?_ ?_
  · exact kept_State_rstEnd (sub hm) g0
  · split
    · exact kept_State_rstEnd (sub hm) g0
    · exact kept_State_rstEnd (sub hm) g0
    · extract_lets +onlyGivenNames -merge -underBinder x4
      have h5 : Kept m o x4 := by
        unfold x4
        exact kept_State_requested (sub hm) g0
      clear_value x4
      exact keptIte (kept_State_rstWait (sub hm) h5) (keptIte (kept_State_rstWait (sub hm) h5) (kept_State_rstWait (sub hm) (kept_State_resetContext (sub hm) (kept_State_countReset (sub hm) h5))))

theorem kept_rstEngine {v0 : State} (hm : m &&& 435945458 = 0) (g0 : Kept m o v0) :
    Kept m o (rstEngine v0) := by
  unfold rstEngine
  extract_lets +onlyGivenNames -merge -underBinder x0
  clear_value x0
  exact keptIte (kept_State_rstEnd (sub hm) g0) (keptIte (kept_State_rstEnd (sub hm) g0) (kept_State_engineFault (sub hm) (kept_State_rstWait (sub hm) g0)))

theorem kept_rstCabinet {v0 : State} (hm : m &&& 167477234 = 0) (g0 : Kept m o v0) :
    Kept m o (rstCabinet v0) := by
  unfold rstCabinet
  extract_lets +onlyGivenNames -merge -underBinder x0 x1
  clear_value x0 x1
  exact keptIte (kept_State_rstEnd (sub hm) g0) (kept_State_startCabReset (sub hm) (kept_State_rstWait (sub hm) (kept_State_requested (sub hm) g0)))

theorem kept_rstChip {v0 : State} (hm : m &&& 435945442 = 0) (g0 : Kept m o v0) :
    Kept m o (rstChip v0) := by
  unfold rstChip
  exact kept_State_afterDump (sub hm) (kept_State_requested (sub hm) g0)

theorem kept_rstTray {v0 : State} (hm : m &&& 435945442 = 0) (g0 : Kept m o v0) :
    Kept m o (rstTray v0) := by
  unfold rstTray
  exact kept_State_afterDump (sub hm) (kept_State_abortAll (sub hm) (kept_State_requested (sub hm) g0))

theorem kept_rstDump {v0 : State} (hm : m &&& 134438896 = 0) (g0 : Kept m o v0) :
    Kept m o (rstDump v0) := by
  unfold rstDump
  split
  · rename_i y0 y1
    exact kept_State_rstWait (sub hm) (keptPair2 y1 (kept_State_startDump (sub hm) (kept_State_requested (sub hm) g0)))
  · rename_i y2 y3
    exact kept_State_rstEnd (sub hm) (keptPair2 y3 (kept_State_startDump (sub hm) (kept_State_requested (sub hm) g0)))

theorem kept_rstUnretire {v0 : State} (hm : m &&& 73762 = 0) (g0 : Kept m o v0) :
    Kept m o (rstUnretire v0) := by
  unfold rstUnretire
  extract_lets +onlyGivenNames -merge -underBinder x0 x1
  clear_value x0 x1
  refine keptIte ?_ ?_
  · exact kept_State_rstEnd (sub hm) g0
  · extract_lets +onlyGivenNames -merge -underBinder x2
    clear_value x2
    extract_lets +onlyGivenNames -merge -underBinder x3
    have h4 : Kept m o x3 := by
      unfold x3
      exact kept_State_setUnitSt (sub hm) g0
    clear_value x3
    extract_lets +onlyGivenNames -merge -underBinder x5
    clear_value x5
    extract_lets +onlyGivenNames -merge -underBinder x6
    have h7 : Kept m o x6 := by
      unfold x6
      exact keptIte (kept_State_retable (sub hm) (kept_State_setTile (sub hm) h4)) h4
    clear_value x6
    exact kept_State_rstEnd (sub hm) (kept_State_setReg (sub hm) h7)

theorem kept_State_rstCommand {v0 : State} {v1 : State → State} (hm : m &&& 32 = 0) (g0 : Kept m o v0) (g1 : ∀ a0, Kept m o a0 → Kept m o (v1 a0)) :
    Kept m o (State.rstCommand v0 v1) := by
  unfold State.rstCommand
  split
  · rename_i y0 y1
    exact keptIte (kept_State_result (sub hm) (kept_State_accept (sub hm) g0 _ y1)) (keptIte (kept_State_result (sub hm) (kept_State_accept (sub hm) g0 _ y1)) (g1 _ (kept_State_accept (sub hm) g0 _ y1)))
  · exact kept_State_overrun (sub hm) g0

theorem kept_State_rstCmd {v0 : State} {v1 : Nat} (hm : m &&& 435945458 = 0) (g0 : Kept m o v0) :
    Kept m o (State.rstCmd v0 v1) := by
  unfold State.rstCmd
  split
  · exact kept_nopCommand (sub hm) g0
  · refine kept_State_rstCommand (sub hm) ?_ ?_
    · exact g0
    · intro a0 a1
      exact kept_rstContext (sub hm) a1
  · refine kept_State_rstCommand (sub hm) ?_ ?_
    · exact g0
    · intro a2 a3
      exact kept_rstEngine (sub hm) a3
  · refine kept_State_rstCommand (sub hm) ?_ ?_
    · exact g0
    · intro a4 a5
      exact kept_rstCabinet (sub hm) a5
  · refine kept_State_rstCommand (sub hm) ?_ ?_
    · exact g0
    · intro a6 a7
      exact kept_rstChip (sub hm) a7
  · refine kept_State_rstCommand (sub hm) ?_ ?_
    · exact g0
    · intro a8 a9
      exact kept_rstTray (sub hm) a9
  · refine kept_State_rstCommand (sub hm) ?_ ?_
    · exact g0
    · intro a10 a11
      exact kept_rstDump (sub hm) a11
  · refine kept_State_rstCommand (sub hm) ?_ ?_
    · exact g0
    · intro a12 a13
      exact kept_rstUnretire (sub hm) a13
  · refine kept_State_rstCommand (sub hm) ?_ ?_
    · exact g0
    · intro a14 a15
      exact kept_State_rstEnd (sub hm) a15

theorem kept_execRstNop {v0 : Func} {v1 : State} (hm : m &&& 435945458 = 0) (g1 : Kept m o v1) :
    ∀ s', (execRstNop v0 v1) = .next s' → Kept m o s' := by
  unfold execRstNop
  refine keptNext (kept_State_platform (sub hm) ?_ ?_)
  · exact g1
  · intro a0 a1
    exact kept_State_rstCmd (sub hm) a1

theorem kept_execRstContext {v0 : Func} {v1 : State} (hm : m &&& 435945458 = 0) (g1 : Kept m o v1) :
    ∀ s', (execRstContext v0 v1) = .next s' → Kept m o s' := by
  unfold execRstContext
  refine keptNext (kept_State_platform (sub hm) ?_ ?_)
  · exact g1
  · intro a0 a1
    exact kept_State_rstCmd (sub hm) a1

theorem kept_execRstEngine {v0 : Func} {v1 : State} (hm : m &&& 435945458 = 0) (g1 : Kept m o v1) :
    ∀ s', (execRstEngine v0 v1) = .next s' → Kept m o s' := by
  unfold execRstEngine
  refine keptNext (kept_State_platform (sub hm) ?_ ?_)
  · exact g1
  · intro a0 a1
    exact kept_State_rstCmd (sub hm) a1

theorem kept_execRstCabinet {v0 : Func} {v1 : State} (hm : m &&& 435945458 = 0) (g1 : Kept m o v1) :
    ∀ s', (execRstCabinet v0 v1) = .next s' → Kept m o s' := by
  unfold execRstCabinet
  refine keptNext (kept_State_platform (sub hm) ?_ ?_)
  · exact g1
  · intro a0 a1
    exact kept_State_rstCmd (sub hm) a1

theorem kept_execRstChip {v0 : Func} {v1 : State} (hm : m &&& 435945458 = 0) (g1 : Kept m o v1) :
    ∀ s', (execRstChip v0 v1) = .next s' → Kept m o s' := by
  unfold execRstChip
  refine keptNext (kept_State_platform (sub hm) ?_ ?_)
  · exact g1
  · intro a0 a1
    exact kept_State_rstCmd (sub hm) a1

theorem kept_execRstTray {v0 : Func} {v1 : State} (hm : m &&& 435945458 = 0) (g1 : Kept m o v1) :
    ∀ s', (execRstTray v0 v1) = .next s' → Kept m o s' := by
  unfold execRstTray
  refine keptNext (kept_State_platform (sub hm) ?_ ?_)
  · exact g1
  · intro a0 a1
    exact kept_State_rstCmd (sub hm) a1

theorem kept_execRstDump {v0 : Func} {v1 : State} (hm : m &&& 435945458 = 0) (g1 : Kept m o v1) :
    ∀ s', (execRstDump v0 v1) = .next s' → Kept m o s' := by
  unfold execRstDump
  refine keptNext (kept_State_platform (sub hm) ?_ ?_)
  · exact g1
  · intro a0 a1
    exact kept_State_rstCmd (sub hm) a1

theorem kept_execRstUnretire {v0 : Func} {v1 : State} (hm : m &&& 435945458 = 0) (g1 : Kept m o v1) :
    ∀ s', (execRstUnretire v0 v1) = .next s' → Kept m o s' := by
  unfold execRstUnretire
  refine keptNext (kept_State_platform (sub hm) ?_ ?_)
  · exact g1
  · intro a0 a1
    exact kept_State_rstCmd (sub hm) a1

theorem kept_State_fltWrite {v0 : State} {v1 : Word} (hm : m &&& 65568 = 0) (g0 : Kept m o v0) :
    Kept m o (State.fltWrite v0 v1) := by
  unfold State.fltWrite
  extract_lets +onlyGivenNames -merge -underBinder x0 x1
  clear_value x0 x1
  refine keptIte ?_ ?_
  · exact kept_State_setReg (sub hm) g0
  · refine keptIte ?_ ?_
    · exact kept_State_setReg (sub hm) g0
    · refine keptIte ?_ ?_
      · exact kept_State_setReg (sub hm) g0
      · extract_lets +onlyGivenNames -merge -underBinder x2
        have h3 : Kept m o x2 := by
          unfold x2
          exact kept_State_setReg (sub hm) (kept_State_setReg (sub hm) g0)
        clear_value x2
        exact keptUpd hm (s := x2) (by constructor <;> first | exact .inl rfl | exact .inr rfl) rfl rfl rfl h3

theorem kept_execFltEnable {v0 : Func} {v1 : Word} {v2 : State} (hm : m &&& 152293346 = 0) (g2 : Kept m o v2) :
    ∀ s', (execFltEnable v0 v1 v2) = .next s' → Kept m o s' := by
  unfold execFltEnable
  refine keptNext (kept_State_platform (sub hm) ?_ ?_)
  · exact g2
  · intro a0 a1
    exact kept_State_fltWrite (sub hm) a1

theorem kept_execPlinthWatchdogExpiry {v0 : State} (hm : m &&& 16777218 = 0) (g0 : Kept m o v0) :
    ∀ s', (execPlinthWatchdogExpiry v0) = .next s' → Kept m o s' := by
  unfold execPlinthWatchdogExpiry
  exact keptNext (keptIte g0 (kept_State_powerCycle (sub hm) g0))

end Sys2Proof.Machine
end

