-- ==== Sys2Proof/Laws/KeptGates.lean ====
section
/-! SUPPORT. For each operation of Machine/Gates.lean, and for each command meaning there: the fields of State it
    never changes (the bits not set in its mask), and that it keeps what Laws/Kept.lean names. -/

namespace Sys2Proof.Machine
set_option Elab.async false
variable {m : Nat} {o : State}

theorem kept_wireChange {v0 : Nat} {v1 : Bool} {v2 : State} (hm : m &&& 268435488 = 0) (g2 : Kept m o v2) :
    Kept m o (wireChange v0 v1 v2) := by
  unfold wireChange
  extract_lets +onlyGivenNames -merge -underBinder x0 x1
  clear_value x0 x1
  extract_lets +onlyGivenNames -merge -underBinder x2
  have h3 : Kept m o x2 := by
    unfold x2
    exact kept_State_setRfld (sub hm) g2
  clear_value x2
  extract_lets +onlyGivenNames -merge -underBinder x4 x5 x6
  clear_value x4 x5 x6
  exact kept_State_syncWires (sub hm) (keptUpd hm (s := x2) (by constructor <;> first | exact .inl rfl | exact .inr rfl) rfl rfl rfl h3)

theorem kept_execUrgencyWireChange {v0 : Fin 32} {v1 : Bool} {v2 : State} (hm : m &&& 268435488 = 0) (g2 : Kept m o v2) :
    ∀ s', (execUrgencyWireChange v0 v1 v2) = .next s' → Kept m o s' := by
  unfold execUrgencyWireChange
  exact keptNext (keptIte (kept_wireChange (sub hm) g2) g2)

theorem kept_wireStuck {v0 : Nat} {v1 : State} (hm : m &&& 268435488 = 0) (g1 : Kept m o v1) :
    Kept m o (wireStuck v0 v1) := by
  unfold wireStuck
  extract_lets +onlyGivenNames -merge -underBinder x0
  clear_value x0
  split
  · refine keptIte ?_ ?_
    · extract_lets +onlyGivenNames -merge -underBinder x1
      have h2 : Kept m o x1 := by
        unfold x1
        exact kept_State_setRfld (sub hm) g1
      clear_value x1
      exact kept_State_syncWires (sub hm) (keptUpd hm (s := x1) (by constructor <;> first | exact .inl rfl | exact .inr rfl) rfl rfl rfl h2)
    · exact g1
  · exact g1

theorem kept_execUrgencyStuck {v0 : Fin 32} {v1 : State} (hm : m &&& 268435488 = 0) (g1 : Kept m o v1) :
    ∀ s', (execUrgencyStuck v0 v1) = .next s' → Kept m o s' := by
  unfold execUrgencyStuck
  exact keptNext (keptIte g1 (kept_wireStuck (sub hm) g1))

theorem kept_State_gateAnswer {v0 : State} {v1 : Nat} {v2 : Nat} {v3 : Nat} {v4 : List Byte} (hm : m &&& 2 = 0) (g0 : Kept m o v0) :
    Kept m o (State.gateAnswer v0 v1 v2 v3 v4) := by
  unfold State.gateAnswer
  exact kept_State_emit (sub hm) g0

theorem kept_gateRequest {v0 : Nat} {v1 : Master} {v2 : Nat} {v3 : Option Nat} {v4 : Nat} {v5 : Nat} {v6 : Option (List Byte)} {v7 : State} (hm : m &&& 134434786 = 0) (g7 : Kept m o v7) :
    Kept m o (gateRequest v0 v1 v2 v3 v4 v5 v6 v7) := by
  unfold gateRequest
  extract_lets +onlyGivenNames -merge -underBinder x0 x1 x2 x3 x4
  clear_value x0 x1 x2 x3 x4
  refine keptIte ?_ ?_
  · exact g7
  · extract_lets +onlyGivenNames -merge -underBinder x5
    clear_value x5
    extract_lets +onlyGivenNames -merge -underBinder x6
    have h7 : Kept m o x6 := by
      unfold x6
      exact kept_State_setGate (sub hm) g7
    clear_value x6
    refine keptIte ?_ ?_
    · exact kept_State_gateAnswer (sub hm) (kept_State_noteDenied (sub hm) h7)
    · refine keptIte ?_ ?_
      · extract_lets +onlyGivenNames -merge -underBinder x8
        have h9 : Kept m o x8.2 := by
          unfold x8
          exact kept_State_noteFail (sub hm) h7
        clear_value x8
        exact kept_State_gateAnswer (sub hm) h9
      · extract_lets +onlyGivenNames -merge -underBinder x10 x11
        clear_value x10 x11
        exact kept_State_setGate (sub hm) h7

theorem kept_execStackGateRequest {v0 : GateId} {v1 : Master} {v2 : UnitId} {v3 : Option CtxId} {v4 : Nat} {v5 : Nat} {v6 : Option (List Byte)} {v7 : State} (hm : m &&& 134434786 = 0) (g7 : Kept m o v7) :
    ∀ s', (execStackGateRequest v0 v1 v2 v3 v4 v5 v6 v7) = .next s' → Kept m o s' := by
  unfold execStackGateRequest
  exact keptNextIte (keptNext (keptIte (kept_gateRequest (sub hm) g7) g7)) keptFault

theorem kept_State_gateServe {v0 : State} {v1 : GateReq} (hm : m &&& 134438896 = 0) (g0 : Kept m o v0) :
    Kept m o (State.gateServe v0 v1).2 := by
  unfold State.gateServe
  extract_lets +onlyGivenNames -merge -underBinder x0 x1
  clear_value x0 x1
  split
  · split
    · rename_i y2 y3
      dsimp only [id]
      exact keptPair2 y3 (kept_State_readLine (sub hm) g0)
    · rename_i y4 y5
      dsimp only [id]
      exact keptPair2 y5 (kept_State_readLine (sub hm) g0)
  · extract_lets +onlyGivenNames -merge -underBinder x6 x7
    clear_value x6 x7
    split
    · rename_i y8 y9
      dsimp only [id]
      exact keptPair2 y9 (kept_State_writeLine (sub hm) g0)
    · rename_i y10 y11
      dsimp only [id]
      exact keptPair2 y11 (kept_State_writeLine (sub hm) g0)

theorem kept_State_noteLatency {v0 : State} {v1 : Nat} {v2 : GateReq} (hm : m &&& 134434784 = 0) (g0 : Kept m o v0) :
    Kept m o (State.noteLatency v0 v1 v2) := by
  unfold State.noteLatency
  extract_lets +onlyGivenNames -merge -underBinder x0 x1 x2
  clear_value x0 x1 x2
  extract_lets +onlyGivenNames -merge -underBinder x3
  have h4 : Kept m o x3 := by
    unfold x3
    exact kept_State_setRfld (sub hm) g0
  clear_value x3
  extract_lets +onlyGivenNames -merge -underBinder x5
  have h6 : Kept m o x5 := by
    unfold x5
    split
    · extract_lets +onlyGivenNames -merge -underBinder x7
      clear_value x7
      exact kept_State_setCab (sub hm) h4
    · exact h4
  clear_value x5
  extract_lets +onlyGivenNames -merge -underBinder x8
  have h9 : Kept m o x8 := by
    unfold x8
    exact kept_State_tally (sub hm) h6
  clear_value x8
  extract_lets +onlyGivenNames -merge -underBinder x10
  clear_value x10
  refine keptIte ?_ ?_
  · extract_lets +onlyGivenNames -merge -underBinder x11 x12
    clear_value x11 x12
    extract_lets +onlyGivenNames -merge -underBinder x13
    have h14 : Kept m o x13 := by
      unfold x13
      exact kept_State_setGate (sub hm) h9
    clear_value x13
    extract_lets +onlyGivenNames -merge -underBinder x15
    have h16 : Kept m o x15 := by
      unfold x15
      exact kept_State_setRfld (sub hm) (kept_State_bump (sub hm) (kept_State_bump (sub hm) h14))
    clear_value x15
    exact kept_State_stopTrigger (sub hm) (kept_State_trace (sub hm) (kept_State_tally (sub hm) h16))
  · exact h9

theorem kept_State_gateGrant {v0 : State} {v1 : Nat} {v2 : Nat} {v3 : Bool} (hm : m &&& 134438898 = 0) (g0 : Kept m o v0) :
    Kept m o (State.gateGrant v0 v1 v2 v3) := by
  unfold State.gateGrant
  extract_lets +onlyGivenNames -merge -underBinder x0
  clear_value x0
  split
  · exact g0
  · extract_lets +onlyGivenNames -merge -underBinder x1
    clear_value x1
    extract_lets +onlyGivenNames -merge -underBinder x2
    have h3 : Kept m o x2.2 := by
      unfold x2
      exact kept_State_gateServe (sub hm) g0
    clear_value x2
    extract_lets +onlyGivenNames -merge -underBinder x4
    clear_value x4
    extract_lets +onlyGivenNames -merge -underBinder x5
    have h6 : Kept m o x5 := by
      unfold x5
      exact keptIte h3 (kept_State_charge (sub hm) h3)
    clear_value x5
    extract_lets +onlyGivenNames -merge -underBinder x7 x8 x9 x10 x11 x12
    clear_value x7 x8 x9 x10 x11 x12
    extract_lets +onlyGivenNames -merge -underBinder x13
    have h14 : Kept m o x13 := by
      unfold x13
      exact kept_State_setGate (sub hm) h6
    clear_value x13
    exact keptIte (kept_State_gateAnswer (sub hm) (kept_State_noteLatency (sub hm) h14)) (kept_State_emit (sub hm) h14)

theorem kept_gateCycle {v0 : Nat} {v1 : Nat} {v2 : State} (hm : m &&& 134438898 = 0) (g2 : Kept m o v2) :
    Kept m o (gateCycle v0 v1 v2) := by
  unfold gateCycle
  extract_lets +onlyGivenNames -merge -underBinder x0
  clear_value x0
  refine keptIte ?_ ?_
  · exact g2
  · extract_lets +onlyGivenNames -merge -underBinder x1
    clear_value x1
    extract_lets +onlyGivenNames -merge -underBinder x2
    have h3 : Kept m o x2 := by
      unfold x2
      exact kept_State_setGate (sub hm) g2
    clear_value x2
    refine keptIte ?_ ?_
    · exact h3
    · split
      · exact kept_State_gateGrant (sub hm) h3
      · exact h3

theorem kept_execGateGrant {v0 : GateId} {v1 : Nat} {v2 : State} (hm : m &&& 134438898 = 0) (g2 : Kept m o v2) :
    ∀ s', (execGateGrant v0 v1 v2) = .next s' → Kept m o s' := by
  unfold execGateGrant
  exact keptNext (keptIte (kept_gateCycle (sub hm) g2) g2)

theorem kept_State_noteDamage {v0 : State} {v1 : GateReq} {v2 : MemErr} (hm : m &&& 16384 = 0) (g0 : Kept m o v0) :
    Kept m o (State.noteDamage v0 v1 v2) := by
  unfold State.noteDamage
  extract_lets +onlyGivenNames -merge -underBinder x0 x1 x2 x3
  clear_value x0 x1 x2 x3
  extract_lets +onlyGivenNames -merge -underBinder x4
  have h5 : ∀ a0 a1, Kept m o (x4 a0 a1) := by
    intro a6 a7
    unfold x4
    split
    · extract_lets +onlyGivenNames -merge -underBinder x8 x9 x10
      clear_value x8 x9 x10
      exact keptUpd hm (s := v0) (by constructor <;> first | exact .inl rfl | exact .inr rfl) rfl rfl rfl g0
    · exact g0
  clear_value x4
  split
  · exact g0
  · exact keptIte g0 (keptUpd hm (s := v0) (by constructor <;> first | exact .inl rfl | exact .inr rfl) rfl rfl rfl g0)
  · exact keptIte (keptUpd hm (s := v0) (by constructor <;> first | exact .inl rfl | exact .inr rfl) rfl rfl rfl g0) g0
  · exact keptIte (keptUpd hm (s := v0) (by constructor <;> first | exact .inl rfl | exact .inr rfl) rfl rfl rfl g0) g0
  · refine keptIte ?_ ?_
    · refine h5 _ _
    · exact g0
  · refine keptIte ?_ ?_
    · refine h5 _ _
    · exact g0

theorem kept_State_gateUndo {v0 : State} {v1 : GateReq} (hm : m &&& 16704 = 0) (g0 : Kept m o v0) :
    Kept m o (State.gateUndo v0 v1) := by
  unfold State.gateUndo
  refine keptIte ?_ ?_
  · exact g0
  · extract_lets +onlyGivenNames -merge -underBinder x0
    have h1 : Kept m o x0 := by
      unfold x0
      exact kept_State_devPut (sub hm) g0
    clear_value x0
    split
    · refine keptIte ?_ ?_
      · extract_lets +onlyGivenNames -merge -underBinder x2
        clear_value x2
        exact keptUpd hm (s := x0) (by constructor <;> first | exact .inl rfl | exact .inr rfl) rfl rfl rfl h1
      · exact h1
    · exact h1

theorem kept_State_gateComplete {v0 : State} {v1 : Nat} {v2 : GateReq} {v3 : MemErr} (hm : m &&& 134434786 = 0) (g0 : Kept m o v0) :
    Kept m o (State.gateComplete v0 v1 v2 v3) := by
  unfold State.gateComplete
  extract_lets +onlyGivenNames -merge -underBinder x0
  clear_value x0
  extract_lets +onlyGivenNames -merge -underBinder x1
  have h2 : Kept m o x1 := by
    unfold x1
    exact kept_State_setGate (sub hm) g0
  clear_value x1
  extract_lets +onlyGivenNames -merge -underBinder x3
  clear_value x3
  extract_lets +onlyGivenNames -merge -underBinder x4
  have h5 : Kept m o x4 := by
    unfold x4
    exact kept_State_noteDamage (sub hm) (kept_State_noteLatency (sub hm) h2)
  clear_value x4
  refine keptIte ?_ ?_
  · split
    · extract_lets +onlyGivenNames -merge -underBinder x6
      have h7 : Kept m o x6.2 := by
        unfold x6
        exact kept_State_noteFail (sub hm) h5
      clear_value x6
      exact kept_State_gateAnswer (sub hm) (kept_State_gateUndo (sub hm) h7)
    · exact kept_State_gateAnswer (sub hm) h5
  · exact kept_State_gateAnswer (sub hm) h5

theorem kept_gateResponse {v0 : Nat} {v1 : Nat} {v2 : MemErr} {v3 : State} (hm : m &&& 435945458 = 0) (g3 : Kept m o v3) :
    Kept m o (gateResponse v0 v1 v2 v3) := by
  unfold gateResponse
  extract_lets +onlyGivenNames -merge -underBinder x0
  clear_value x0
  split
  · exact kept_State_faultOn (sub hm) g3
  · exact keptIte (kept_State_setGate (sub hm) g3) (kept_State_gateComplete (sub hm) g3)

theorem kept_execStackGateResponse {v0 : GateId} {v1 : Fin 4096} {v2 : MemErr} {v3 : State} (hm : m &&& 435945458 = 0) (g3 : Kept m o v3) :
    ∀ s', (execStackGateResponse v0 v1 v2 v3) = .next s' → Kept m o s' := by
  unfold execStackGateResponse
  exact keptNext (keptIte (kept_gateResponse (sub hm) g3) g3)

theorem kept_State_releaseHeld {v0 : State} (hm : m &&& 134434786 = 0) (g0 : Kept m o v0) :
    Kept m o (State.releaseHeld v0) := by
  unfold State.releaseHeld
  refine foldlKept ?_ ?_
  · intro a0 a1 a2
    refine foldlKept ?_ ?_
    · intro a3 a4 a5
      exact kept_State_gateComplete (sub hm) a5
    · exact a2
  · exact g0

theorem kept_State_gateInterval {v0 : State} {v1 : Nat} {v2 : Bool} {v3 : Bool} (hm : m &&& 134217760 = 0) (g0 : Kept m o v0) :
    Kept m o (State.gateInterval v0 v1 v2 v3) := by
  unfold State.gateInterval
  extract_lets +onlyGivenNames -merge -underBinder x0
  clear_value x0
  extract_lets +onlyGivenNames -merge -underBinder x1
  have h2 : Kept m o x1 := by
    unfold x1
    exact keptIte (kept_State_bump (sub hm) g0) g0
  clear_value x1
  extract_lets +onlyGivenNames -merge -underBinder x3
  have h4 : Kept m o x3 := by
    unfold x3
    exact keptIte (kept_State_bump (sub hm) h2) h2
  clear_value x3
  extract_lets +onlyGivenNames -merge -underBinder x5 x6
  clear_value x5 x6
  exact kept_State_setGate (sub hm) h4

theorem kept_State_cabInterval {v0 : State} {v1 : List Nat} {v2 : Nat} (hm : m &&& 512 = 0) (g0 : Kept m o v0) :
    Kept m o (State.cabInterval v0 v1 v2) := by
  unfold State.cabInterval
  extract_lets +onlyGivenNames -merge -underBinder x0 x1 x2 x3
  clear_value x0 x1 x2 x3
  extract_lets +onlyGivenNames -merge -underBinder x4
  have h5 : Kept m o x4 := by
    unfold x4
    exact kept_State_setCab (sub hm) g0
  clear_value x4
  exact keptIte (kept_State_floorsInForce (sub hm) h5) h5

theorem kept_intervalEnd {v0 : List Nat} {v1 : State} (hm : m &&& 406848032 = 0) (g1 : Kept m o v1) :
    Kept m o (intervalEnd v0 v1) := by
  unfold intervalEnd
  extract_lets +onlyGivenNames -merge -underBinder x0
  clear_value x0
  refine keptIte ?_ ?_
  · exact g1
  · extract_lets +onlyGivenNames -merge -underBinder x1
    clear_value x1
    extract_lets +onlyGivenNames -merge -underBinder x2
    have h3 : Kept m o x2 := by
      unfold x2
      refine foldlKept ?_ ?_
      · intro a4 a5 a6
        exact kept_State_cabInterval (sub hm) a6
      · exact g1
    clear_value x2
    extract_lets +onlyGivenNames -merge -underBinder x7
    have h8 : Kept m o x7 := by
      unfold x7
      refine foldlKept ?_ ?_
      · intro a9 a10 a11
        exact kept_State_gateInterval (sub hm) a11
      · exact h3
    clear_value x7
    extract_lets +onlyGivenNames -merge -underBinder x12
    clear_value x12
    exact kept_State_syncWires (sub hm) (keptUpd hm (s := x7) (by constructor <;> first | exact .inl rfl | exact .inr rfl) rfl rfl rfl h8)

theorem kept_execFloorIntervalEnd {v0 : List Nat} {v1 : State} (hm : m &&& 406848032 = 0) (g1 : Kept m o v1) :
    ∀ s', (execFloorIntervalEnd v0 v1) = .next s' → Kept m o s' := by
  unfold execFloorIntervalEnd
  exact keptNext (keptIte (kept_intervalEnd (sub hm) g1) g1)

theorem kept_ncFloor {v0 : Nat} {v1 : Word} {v2 : State} (hm : m &&& 32 = 0) (g2 : Kept m o v2) :
    Kept m o (ncFloor v0 v1 v2) := by
  unfold ncFloor
  extract_lets +onlyGivenNames -merge -underBinder x0 x1
  clear_value x0 x1
  exact keptIte (kept_State_setRfld (sub hm) g2) (kept_State_setReg (sub hm) g2)

theorem kept_execSgNcfloorWrite {v0 : Func} {v1 : GateId} {v2 : Word} {v3 : State} (hm : m &&& 152293346 = 0) (g3 : Kept m o v3) :
    ∀ s', (execSgNcfloorWrite v0 v1 v2 v3) = .next s' → Kept m o s' := by
  unfold execSgNcfloorWrite
  refine keptNext (kept_State_platform (sub hm) ?_ ?_)
  · exact g3
  · intro a0 a1
    exact kept_ncFloor (sub hm) a1

theorem kept_frFloor {v0 : Word} {v1 : State} (hm : m &&& 32 = 0) (g1 : Kept m o v1) :
    Kept m o (frFloor v0 v1) := by
  unfold frFloor
  extract_lets +onlyGivenNames -merge -underBinder x0
  clear_value x0
  exact keptIte (kept_State_setRfld (sub hm) g1) (kept_State_setReg (sub hm) g1)

theorem kept_execFrNcfloorWrite {v0 : Func} {v1 : Word} {v2 : State} (hm : m &&& 152293346 = 0) (g2 : Kept m o v2) :
    ∀ s', (execFrNcfloorWrite v0 v1 v2) = .next s' → Kept m o s' := by
  unfold execFrNcfloorWrite
  refine keptNext (kept_State_platform (sub hm) ?_ ?_)
  · exact g2
  · intro a0 a1
    exact kept_frFloor (sub hm) a1

theorem kept_execGroupRemixComplete {v0 : Nat} {v1 : State} (hm : m &&& 134235696 = 0) (g1 : Kept m o v1) :
    ∀ s', (execGroupRemixComplete v0 v1) = .next s' → Kept m o s' := by
  unfold execGroupRemixComplete
  exact keptNext (keptIte (kept_State_remixGroup (sub hm) g1) g1)

theorem kept_State_convertGroup {v0 : State} {v1 : Nat} (hm : m &&& 16384 = 0) (g0 : Kept m o v0) :
    Kept m o (State.convertGroup v0 v1) := by
  unfold State.convertGroup
  extract_lets +onlyGivenNames -merge -underBinder x0
  clear_value x0
  exact keptUpd hm (s := v0) (by constructor <;> first | exact .inl rfl | exact .inr rfl) rfl rfl rfl g0

theorem kept_State_flushMeta {v0 : State} {v1 : Nat} (hm : m &&& 134235696 = 0) (g0 : Kept m o v0) :
    Kept m o (State.flushMeta v0 v1) := by
  unfold State.flushMeta
  exact kept_State_flushCache (sub hm) g0

theorem kept_State_renewNodes {v0 : State} {v1 : Nat} {v2 : Nat} {v3 : Nat} (hm : m &&& 16384 = 0) (g0 : Kept m o v0) :
    Kept m o (State.renewNodes v0 v1 v2 v3) := by
  unfold State.renewNodes
  extract_lets +onlyGivenNames -merge -underBinder x0 x1
  clear_value x0 x1
  exact keptUpd hm (s := v0) (by constructor <;> first | exact .inl rfl | exact .inr rfl) rfl rfl rfl g0

theorem kept_rekeyChunk {v0 : Nat} {v1 : State} (hm : m &&& 134235696 = 0) (g1 : Kept m o v1) :
    Kept m o (rekeyChunk v0 v1) := by
  unfold rekeyChunk
  split
  · exact g1
  · extract_lets +onlyGivenNames -merge -underBinder x0
    clear_value x0
    extract_lets +onlyGivenNames -merge -underBinder x1
    have h2 : Kept m o x1 := by
      unfold x1
      split
      · extract_lets +onlyGivenNames -merge -underBinder x3
        clear_value x3
        extract_lets +onlyGivenNames -merge -underBinder x4
        have h5 : Kept m o x4 := by
          unfold x4
          refine kept_State_renewNodes (sub hm) (foldlKept ?_ ?_)
          · intro a6 a7 a8
            exact kept_State_convertGroup (sub hm) a8
          · exact g1
        clear_value x4
        refine kept_State_charge (sub hm) (foldlKept ?_ h5)
        intro b6 b7 b8
        exact kept_State_charge (sub hm) b8
      · exact g1
    clear_value x1
    extract_lets +onlyGivenNames -merge -underBinder x9
    clear_value x9
    refine keptIte ?_ ?_
    · extract_lets +onlyGivenNames -merge -underBinder x10
      have h11 : Kept m o x10 := by
        unfold x10
        exact kept_State_flushMeta (sub hm) h2
      clear_value x10
      exact keptUpd hm (s := x10) (by constructor <;> first | exact .inl rfl | exact .inr rfl) rfl rfl rfl h11
    · exact keptUpd hm (s := x1) (by constructor <;> first | exact .inl rfl | exact .inr rfl) rfl rfl rfl h2

theorem kept_execRekeyChunkConverted {v0 : CabId} {v1 : State} (hm : m &&& 134235696 = 0) (g1 : Kept m o v1) :
    ∀ s', (execRekeyChunkConverted v0 v1) = .next s' → Kept m o s' := by
  unfold execRekeyChunkConverted
  exact keptNext (keptIte g1 (kept_rekeyChunk (sub hm) g1))

theorem kept_State_drawBlockKey {v0 : State} (hm : m &&& 16432 = 0) (g0 : Kept m o v0) :
    Kept m o (State.drawBlockKey v0) := by
  unfold State.drawBlockKey
  refine keptIte ?_ ?_
  · exact g0
  · refine keptIte ?_ ?_
    · extract_lets +onlyGivenNames -merge -underBinder x0
      have h1 : Kept m o x0.2 := by
        unfold x0
        exact kept_State_newKey (sub hm) g0
      clear_value x0
      extract_lets +onlyGivenNames -merge -underBinder x2
      have h3 : Kept m o x2 := by
        exact h1
      clear_value x2
      exact keptUpd hm (s := x2) (by constructor <;> first | exact .inl rfl | exact .inr rfl) rfl rfl rfl h3
    · exact kept_State_bump (sub hm) g0

theorem kept_execMixRiNop {v0 : Func} {v1 : State} (hm : m &&& 152293346 = 0) (g1 : Kept m o v1) :
    ∀ s', (execMixRiNop v0 v1) = .next s' → Kept m o s' := by
  unfold execMixRiNop
  refine keptNext (kept_State_platform (sub hm) ?_ ?_)
  · exact g1
  · intro a0 a1
    exact kept_nopCommand (sub hm) a1

theorem kept_State_mixCmd {v0 : State} {v1 : Nat} (hm : m &&& 16416 = 0) (g0 : Kept m o v0) :
    Kept m o (State.mixCmd v0 v1) := by
  unfold State.mixCmd
  refine keptIte ?_ ?_
  · exact kept_nopCommand (sub hm) g0
  · split
    · exact kept_State_overrun (sub hm) g0
    · rename_i y0 y1
      extract_lets +onlyGivenNames -merge -underBinder x2 x3 x4 x5
      clear_value x2 x3 x4 x5
      exact keptIte (kept_State_result (sub hm) (kept_State_accept (sub hm) g0 _ y1)) (keptIte (kept_State_result (sub hm) (kept_State_accept (sub hm) g0 _ y1)) (keptIte (kept_State_result (sub hm) (kept_State_accept (sub hm) g0 _ y1)) (keptUpd hm (s := y0) (by constructor <;> first | exact .inl rfl | exact .inr rfl) rfl rfl rfl (kept_State_accept (sub hm) g0 _ y1))))

theorem kept_execMixReinit {v0 : Func} {v1 : State} (hm : m &&& 152293346 = 0) (g1 : Kept m o v1) :
    ∀ s', (execMixReinit v0 v1) = .next s' → Kept m o s' := by
  unfold execMixReinit
  refine keptNext (kept_State_platform (sub hm) ?_ ?_)
  · exact g1
  · intro a0 a1
    exact kept_State_mixCmd (sub hm) a1

theorem kept_State_rebuildNodes {v0 : State} {v1 : Nat} {v2 : Nat} {v3 : Nat} (hm : m &&& 134235680 = 0) (g0 : Kept m o v0) :
    Kept m o (State.rebuildNodes v0 v1 v2 v3) := by
  unfold State.rebuildNodes
  split
  · exact g0
  · extract_lets +onlyGivenNames -merge -underBinder x0 x1 x2
    clear_value x0 x1 x2
    extract_lets +onlyGivenNames -merge -underBinder x3
    have h4 : Kept m o x3 := by
      unfold x3
      exact keptUpd hm (s := v0) (by constructor <;> first | exact .inl rfl | exact .inr rfl) rfl rfl rfl g0
    clear_value x3
    extract_lets +onlyGivenNames -merge -underBinder x5
    have h5 : Kept m o x5 := by
      unfold x5
      exact kept_State_charge (sub hm) (kept_State_chargeSpan (sub hm) h4)
    clear_value x5
    extract_lets +onlyGivenNames -merge -underBinder y5
    clear_value y5
    refine foldlKept ?_ h5
    intro a6 a7 a8
    exact kept_State_touchMeta (sub hm) a8

theorem kept_reinitDone {v0 : State} (hm : m &&& 134242160 = 0) (g0 : Kept m o v0) :
    Kept m o (reinitDone v0) := by
  unfold reinitDone
  split
  · exact g0
  · extract_lets +onlyGivenNames -merge -underBinder x0
    have h1 : Kept m o x0 := by
      unfold x0
      exact kept_State_reinitSpan (sub hm) g0
    clear_value x0
    extract_lets +onlyGivenNames -merge -underBinder y0
    have k0 : Kept m o y0 := by
      unfold y0
      exact keptIte (kept_State_rebuildNodes (sub hm) h1) h1
    clear_value y0
    extract_lets +onlyGivenNames -merge -underBinder x2
    have h3 : Kept m o x2 := by
      unfold x2
      exact kept_State_chargeSpan (sub hm) k0
    clear_value x2
    extract_lets +onlyGivenNames -merge -underBinder x4 x5 x6 x7 x8 x9 x10 x11
    clear_value x4 x5 x6 x7 x8 x9 x10 x11
    extract_lets +onlyGivenNames -merge -underBinder x12
    have h13 : Kept m o x12 := by
      unfold x12
      exact keptUpd hm (s := x2) (by constructor <;> first | exact .inl rfl | exact .inr rfl) rfl rfl rfl h3
    clear_value x12
    exact kept_State_rekeyStart (sub hm) (kept_State_result (sub hm) (kept_State_touchDev (sub hm) h13))

theorem kept_execMixReinitComplete {v0 : State} (hm : m &&& 134242160 = 0) (g0 : Kept m o v0) :
    ∀ s', (execMixReinitComplete v0) = .next s' → Kept m o s' := by
  unfold execMixReinitComplete
  exact keptNext (keptIte g0 (kept_reinitDone (sub hm) g0))

end Sys2Proof.Machine
end

