-- ==== Sys2Proof/Laws/KeptPower.lean ====
section
/-! SUPPORT. For each operation of Machine/Power.lean, and for each command meaning there: the fields of State it
    never changes (the bits not set in its mask), and that it keeps what Laws/Kept.lean names. -/

namespace Sys2Proof.Machine
set_option Elab.async false
variable {m : Nat} {o : State}

theorem kept_State_portsDown {v0 : State} (hm : m &&& 6829090 = 0) (g0 : Kept m o v0) :
    Kept m o (State.portsDown v0) := by
  unfold State.portsDown
  refine foldlKept ?_ ?_
  · intro a0 a1 a2
    extract_lets +onlyGivenNames -merge -underBinder x3
    have h4 : Kept m o x3 := by
      unfold x3
      exact kept_State_portDown (sub hm) a2
    clear_value x3
    exact kept_State_setPort (sub hm) h4
  · exact g0

theorem kept_State_deepEpochs {v0 : State} (hm : m &&& 81920 = 0) (g0 : Kept m o v0) :
    Kept m o (State.deepEpochs v0) := by
  unfold State.deepEpochs
  extract_lets +onlyGivenNames -merge -underBinder x0
  clear_value x0
  extract_lets +onlyGivenNames -merge -underBinder x1
  have h2 : Kept m o x1 := by
    unfold x1
    exact kept_State_setUnitSt (sub hm) g0
  clear_value x1
  exact keptUpd hm (s := x1) (by constructor <;> first | exact .inl rfl | exact .inr rfl) rfl rfl rfl h2

theorem kept_State_loseKeys {v0 : State} (hm : m &&& 17216 = 0) (g0 : Kept m o v0) :
    Kept m o (State.loseKeys v0) := by
  unfold State.loseKeys
  extract_lets +onlyGivenNames -merge -underBinder x0
  clear_value x0
  extract_lets +onlyGivenNames -merge -underBinder x1
  have h2 : Kept m o x1 := by
    unfold x1
    refine foldlKept ?_ ?_
    · intro a3 a4 a5
      exact kept_State_loseSpan (sub hm) a5
    · exact g0
  clear_value x1
  extract_lets +onlyGivenNames -merge -underBinder x3
  have h4 : Kept m o x3 := by
    unfold x3
    exact kept_State_loseBlock (sub hm) h2
  clear_value x3
  exact keptUpd hm (s := x3) (by constructor <;> first | exact .inl rfl | exact .inr rfl) rfl rfl rfl h4

theorem kept_State_lowerFirst {v0 : State} (hm : m &&& 16777216 = 0) (g0 : Kept m o v0) :
    Kept m o (State.lowerFirst v0) := by
  unfold State.lowerFirst
  extract_lets +onlyGivenNames -merge -underBinder x0
  clear_value x0
  exact keptUpd hm (s := v0) (by constructor <;> first | exact .inl rfl | exact .inr rfl) rfl rfl rfl g0

theorem kept_State_entryDone {v0 : State} {v1 : Entry} (hm : m &&& 16777250 = 0) (g0 : Kept m o v0) :
    Kept m o (State.entryDone v0 v1) := by
  unfold State.entryDone
  extract_lets +onlyGivenNames -merge -underBinder x0
  clear_value x0
  extract_lets +onlyGivenNames -merge -underBinder x1
  have h2 : Kept m o x1 := by
    unfold x1
    exact keptUpd hm (s := v0) (by constructor <;> first | exact .inl rfl | exact .inr rfl) rfl rfl rfl g0
  clear_value x1
  extract_lets +onlyGivenNames -merge -underBinder x3
  have h4 : Kept m o x3 := by
    unfold x3
    exact keptIte (kept_State_result (sub hm) h2) h2
  clear_value x3
  exact keptIte (kept_State_emit (sub hm) (keptUpd hm (s := x3) (by constructor <;> first | exact .inl rfl | exact .inr rfl) rfl rfl rfl h4)) h4

theorem kept_State_enterState {v0 : State} {v1 : Entry} (hm : m &&& 158072802 = 0) (g0 : Kept m o v0) :
    Kept m o (State.enterState v0 v1) := by
  unfold State.enterState
  extract_lets +onlyGivenNames -merge -underBinder x0
  have h1 : Kept m o x0 := by
    unfold x0
    exact kept_State_entryDone (sub hm) g0
  clear_value x0
  split
  · exact kept_State_trace (sub hm) (kept_State_setCab (sub hm) h1)
  · extract_lets +onlyGivenNames -merge -underBinder x2
    have h3 : Kept m o x2 := by
      unfold x2
      exact keptIte (kept_State_portsDown (sub hm) h1) h1
    clear_value x2
    extract_lets +onlyGivenNames -merge -underBinder x4
    have h5 : Kept m o x4 := by
      unfold x4
      exact keptIte (kept_State_deepEpochs (sub hm) h3) (keptIte (kept_State_loseKeys (sub hm) h3) h3)
    clear_value x4
    extract_lets +onlyGivenNames -merge -underBinder x6
    clear_value x6
    extract_lets +onlyGivenNames -merge -underBinder x7
    have h8 : Kept m o x7 := by
      unfold x7
      exact keptIte (keptUpd hm (s := x4) (by constructor <;> first | exact .inl rfl | exact .inr rfl) rfl rfl rfl h5) h5
    clear_value x7
    extract_lets +onlyGivenNames -merge -underBinder x9
    have h10 : Kept m o x9 := by
      unfold x9
      exact kept_State_blockState (sub hm) h8
    clear_value x9
    exact keptIte h10 (kept_State_lowerFirst (sub hm) h10)

theorem kept_State_askEntry {v0 : State} {v1 : Entry} (hm : m &&& 159121394 = 0) (g0 : Kept m o v0) :
    Kept m o (State.askEntry v0 v1) := by
  unfold State.askEntry
  extract_lets +onlyGivenNames -merge -underBinder x0 x1 x2 x3
  clear_value x0 x1 x2 x3
  refine keptIte ?_ ?_
  · exact kept_State_abortEntry (sub hm) g0
  · split
    · exact kept_State_abortEntry (sub hm) g0
    · extract_lets +onlyGivenNames -merge -underBinder x4 x5
      clear_value x4 x5
      extract_lets +onlyGivenNames -merge -underBinder x6
      have h7 : Kept m o x6 := by
        unfold x6
        refine keptIte ?_ ?_
        · refine foldlKept ?_ ?_
          · intro a8 a9 a10
            exact kept_State_dropChanReqs (sub hm) (kept_State_setChan (sub hm) a10)
          · exact g0
        · exact g0
      clear_value x6
      extract_lets +onlyGivenNames -merge -underBinder x11
      have h12 : Kept m o x11 := by
        unfold x11
        refine keptIte ?_ ?_
        · refine foldlKept ?_ ?_
          · intro a13 a14 a15
            refine foldlKept ?_ ?_
            · intro a16 a17 a18
              exact kept_State_evict (sub hm) a18
            · exact a15
          · exact h7
        · exact h7
      clear_value x11
      extract_lets +onlyGivenNames -merge -underBinder x19
      have h20 : Kept m o x19 := by
        unfold x19
        refine keptIte ?_ ?_
        · refine foldlKept ?_ ?_
          · intro a21 a22 a23
            exact kept_State_flushMeta (sub hm) a23
          · exact h12
        · exact h12
      clear_value x19
      extract_lets +onlyGivenNames -merge -underBinder x24 x25 x26
      clear_value x24 x25 x26
      extract_lets +onlyGivenNames -merge -underBinder x27
      have h28 : Kept m o x27 := by
        unfold x27
        exact keptUpd hm (s := x19) (by constructor <;> first | exact .inl rfl | exact .inr rfl) rfl rfl rfl h20
      clear_value x27
      exact keptIte (kept_State_enterState (sub hm) h28) h28

theorem kept_State_askWaiting {v0 : State} (hm : m &&& 159121394 = 0) (g0 : Kept m o v0) :
    Kept m o (State.askWaiting v0) := by
  unfold State.askWaiting
  refine keptIte ?_ ?_
  · exact g0
  · split
    · exact kept_State_askEntry (sub hm) g0
    · exact g0

theorem kept_State_startEntry {v0 : State} {v1 : Option Nat} {v2 : Nat} {v3 : Bool} {v4 : Bool} (hm : m &&& 159121394 = 0) (g0 : Kept m o v0) :
    Kept m o (State.startEntry v0 v1 v2 v3 v4) := by
  unfold State.startEntry
  extract_lets +onlyGivenNames -merge -underBinder x0 x1
  clear_value x0 x1
  extract_lets +onlyGivenNames -merge -underBinder x2
  have h3 : Kept m o x2 := by
    unfold x2
    exact keptUpd hm (s := v0) (by constructor <;> first | exact .inl rfl | exact .inr rfl) rfl rfl rfl g0
  clear_value x2
  exact keptIte h3 (kept_State_askEntry (sub hm) h3)

theorem kept_pwrEnd {v0 : State} {v1 : Nat} (hm : m &&& 32 = 0) (g0 : Kept m o v0) :
    Kept m o (pwrEnd v0 v1) := by
  unfold pwrEnd
  exact kept_State_result (sub hm) g0

theorem kept_pwrEnter {v0 : Word} {v1 : State} (hm : m &&& 159121394 = 0) (g1 : Kept m o v1) :
    Kept m o (pwrEnter v0 v1) := by
  unfold pwrEnter
  extract_lets +onlyGivenNames -merge -underBinder x0 x1 x2
  clear_value x0 x1 x2
  exact keptIte (kept_pwrEnd (sub hm) g1) (keptIte (keptIte (kept_pwrEnd (sub hm) g1) (keptIte (kept_pwrEnd (sub hm) g1) (keptIte (kept_pwrEnd (sub hm) g1) (kept_State_startEntry (sub hm) g1)))) (kept_State_startEntry (sub hm) g1))

theorem kept_pwrExit {v0 : Word} {v1 : State} (hm : m &&& 152260578 = 0) (g1 : Kept m o v1) :
    Kept m o (pwrExit v0 v1) := by
  unfold pwrExit
  extract_lets +onlyGivenNames -merge -underBinder x0
  clear_value x0
  exact keptIte (kept_pwrEnd (sub hm) g1) (keptIte (kept_pwrEnd (sub hm) g1) (kept_pwrEnd (sub hm) (kept_State_wakeCab (sub hm) g1)))

theorem kept_State_pwrCmd {v0 : State} {v1 : Word} (hm : m &&& 159121394 = 0) (g0 : Kept m o v0) :
    Kept m o (State.pwrCmd v0 v1) := by
  unfold State.pwrCmd
  refine keptIte ?_ ?_
  · exact kept_State_overrun (sub hm) g0
  · refine keptIte ?_ ?_
    · exact kept_nopCommand (sub hm) g0
    · split
      · exact kept_State_overrun (sub hm) g0
      · rename_i y0 y1
        exact keptIte (kept_pwrEnter (sub hm) (kept_State_accept (sub hm) g0 _ y1)) (keptIte (kept_pwrExit (sub hm) (kept_State_accept (sub hm) g0 _ y1)) (kept_pwrEnd (sub hm) (kept_State_accept (sub hm) g0 _ y1)))

theorem kept_execPwrNop {v0 : Func} {v1 : Word} {v2 : State} (hm : m &&& 159121394 = 0) (g2 : Kept m o v2) :
    ∀ s', (execPwrNop v0 v1 v2) = .next s' → Kept m o s' := by
  unfold execPwrNop
  refine keptNext (kept_State_platform (sub hm) ?_ ?_)
  · exact g2
  · intro a0 a1
    exact kept_State_pwrCmd (sub hm) a1

theorem kept_execPwrEnter {v0 : Func} {v1 : Word} {v2 : State} (hm : m &&& 159121394 = 0) (g2 : Kept m o v2) :
    ∀ s', (execPwrEnter v0 v1 v2) = .next s' → Kept m o s' := by
  unfold execPwrEnter
  refine keptNext (kept_State_platform (sub hm) ?_ ?_)
  · exact g2
  · intro a0 a1
    exact kept_State_pwrCmd (sub hm) a1

theorem kept_execPwrExit {v0 : Func} {v1 : Word} {v2 : State} (hm : m &&& 159121394 = 0) (g2 : Kept m o v2) :
    ∀ s', (execPwrExit v0 v1 v2) = .next s' → Kept m o s' := by
  unfold execPwrExit
  refine keptNext (kept_State_platform (sub hm) ?_ ?_)
  · exact g2
  · intro a0 a1
    exact kept_State_pwrCmd (sub hm) a1

theorem kept_idleTimer {v0 : Nat} {v1 : State} (hm : m &&& 159121394 = 0) (g1 : Kept m o v1) :
    Kept m o (idleTimer v0 v1) := by
  unfold idleTimer
  extract_lets +onlyGivenNames -merge -underBinder x0 x1
  clear_value x0 x1
  exact keptIte (keptIte (kept_State_setCab (sub hm) g1) (keptIte (kept_State_startEntry (sub hm) g1) g1)) g1

theorem kept_execCabinetIdleTimer {v0 : CabId} {v1 : State} (hm : m &&& 159121394 = 0) (g1 : Kept m o v1) :
    ∀ s', (execCabinetIdleTimer v0 v1) = .next s' → Kept m o s' := by
  unfold execCabinetIdleTimer
  exact keptNext (keptIte g1 (kept_idleTimer (sub hm) g1))

theorem kept_sleepTimer {v0 : Nat} {v1 : State} (hm : m &&& 159121394 = 0) (g1 : Kept m o v1) :
    Kept m o (sleepTimer v0 v1) := by
  unfold sleepTimer
  extract_lets +onlyGivenNames -merge -underBinder x0 x1
  clear_value x0 x1
  exact keptIte (kept_State_startEntry (sub hm) g1) g1

theorem kept_execCabinetSleepTimer {v0 : CabId} {v1 : State} (hm : m &&& 159121394 = 0) (g1 : Kept m o v1) :
    ∀ s', (execCabinetSleepTimer v0 v1) = .next s' → Kept m o s' := by
  unfold execCabinetSleepTimer
  exact keptNext (keptIte g1 (kept_sleepTimer (sub hm) g1))

theorem kept_execBlockAutoIdle {v0 : State} (hm : m &&& 159121394 = 0) (g0 : Kept m o v0) :
    ∀ s', (execBlockAutoIdle v0) = .next s' → Kept m o s' := by
  unfold execBlockAutoIdle
  exact keptNext (keptIte (kept_State_startEntry (sub hm) g0) g0)

theorem kept_execBlockAutoSleep {v0 : State} (hm : m &&& 159121394 = 0) (g0 : Kept m o v0) :
    ∀ s', (execBlockAutoSleep v0) = .next s' → Kept m o s' := by
  unfold execBlockAutoSleep
  exact keptNext (keptIte (kept_State_startEntry (sub hm) g0) g0)

theorem kept_qsAck {v0 : Answerer} {v1 : Option Nat} {v2 : Bool} {v3 : Bool} {v4 : State} (hm : m &&& 435945458 = 0) (g4 : Kept m o v4) :
    Kept m o (qsAck v0 v1 v2 v3 v4) := by
  unfold qsAck
  extract_lets +onlyGivenNames -merge -underBinder x0
  clear_value x0
  extract_lets +onlyGivenNames -merge -underBinder x1
  have h2 : Kept m o x1 := by
    unfold x1
    split
    · exact kept_State_faultOn (sub hm) g4
    · exact g4
  clear_value x1
  split
  · refine keptIte ?_ ?_
    · refine keptIte ?_ ?_
      · exact g4
      · refine keptIte ?_ ?_
        · exact h2
        · refine keptIte ?_ ?_
          · exact g4
          · extract_lets +onlyGivenNames -merge -underBinder x3 x4 x5
            clear_value x3 x4 x5
            extract_lets +onlyGivenNames -merge -underBinder x6
            have h7 : Kept m o x6 := by
              unfold x6
              exact keptUpd hm (s := v4) (by constructor <;> first | exact .inl rfl | exact .inr rfl) rfl rfl rfl g4
            clear_value x6
            exact keptIte (kept_State_askWaiting (sub hm) (kept_State_enterState (sub hm) h7)) h7
    · split
      · exact keptIte h2 g4
      · exact g4
  · split
    · exact keptIte h2 g4
    · exact g4

theorem kept_execQsAck {v0 : Answerer} {v1 : Option CabId} {v2 : Bool} {v3 : Bool} {v4 : State} (hm : m &&& 435945458 = 0) (g4 : Kept m o v4) :
    ∀ s', (execQsAck v0 v1 v2 v3 v4) = .next s' → Kept m o s' := by
  unfold execQsAck
  exact keptNext (keptIte (kept_qsAck (sub hm) (kept_State_askWaiting (sub hm) g4)) g4)

theorem kept_qsDeny {v0 : Answerer} {v1 : Option Nat} {v2 : Nat} {v3 : State} (hm : m &&& 159121394 = 0) (g3 : Kept m o v3) :
    Kept m o (qsDeny v0 v1 v2 v3) := by
  unfold qsDeny
  extract_lets +onlyGivenNames -merge -underBinder x0
  clear_value x0
  split
  · refine keptIte ?_ ?_
    · split
      · exact kept_State_askWaiting (sub hm) (kept_State_abortEntry (sub hm) g3)
      · exact keptIte (kept_State_askWaiting (sub hm) (kept_State_abortEntry (sub hm) g3)) g3
    · exact g3
  · exact g3

theorem kept_execQsDeny {v0 : Answerer} {v1 : Option CabId} {v2 : Fin 256} {v3 : State} (hm : m &&& 159121394 = 0) (g3 : Kept m o v3) :
    ∀ s', (execQsDeny v0 v1 v2 v3) = .next s' → Kept m o s' := by
  unfold execQsDeny
  exact keptNext (keptIte (kept_qsDeny (sub hm) (kept_State_askWaiting (sub hm) g3)) g3)

theorem kept_qsTimeout {v0 : Option Nat} {v1 : State} (hm : m &&& 159121394 = 0) (g1 : Kept m o v1) :
    Kept m o (qsTimeout v0 v1) := by
  unfold qsTimeout
  split
  · refine keptIte ?_ ?_
    · split
      · exact kept_State_askWaiting (sub hm) (kept_State_abortEntry (sub hm) g1)
      · exact g1
    · exact g1
  · exact g1

theorem kept_execQsTimeout {v0 : Option CabId} {v1 : State} (hm : m &&& 159121394 = 0) (g1 : Kept m o v1) :
    ∀ s', (execQsTimeout v0 v1) = .next s' → Kept m o s' := by
  unfold execQsTimeout
  exact keptNext (keptIte g1 (kept_qsTimeout (sub hm) (kept_State_askWaiting (sub hm) g1)))

theorem kept_execHgWake {v0 : State} (hm : m &&& 152260578 = 0) (g0 : Kept m o v0) :
    ∀ s', (execHgWake v0) = .next s' → Kept m o s' := by
  unfold execHgWake
  exact keptNext (keptIte (kept_State_wakeBlock (sub hm) g0) g0)

theorem kept_execPwrWakeAtExpiry {v0 : State} (hm : m &&& 152260578 = 0) (g0 : Kept m o v0) :
    ∀ s', (execPwrWakeAtExpiry v0) = .next s' → Kept m o s' := by
  unfold execPwrWakeAtExpiry
  refine keptNext ?_
  extract_lets +onlyGivenNames -merge -underBinder x0
  clear_value x0
  exact keptIte (kept_State_setReg (sub hm) (kept_State_wakeBlock (sub hm) g0)) g0

theorem kept_State_retableAll {v0 : State} (hm : m &&& 8194 = 0) (g0 : Kept m o v0) :
    Kept m o (State.retableAll v0) := by
  unfold State.retableAll
  refine foldlKept ?_ ?_
  · intro a0 a1 a2
    exact kept_State_retable (sub hm) a2
  · exact g0

theorem kept_State_woken {v0 : State} (hm : m &&& 167510002 = 0) (g0 : Kept m o v0) :
    Kept m o (State.woken v0) := by
  unfold State.woken
  extract_lets +onlyGivenNames -merge -underBinder x0
  clear_value x0
  extract_lets +onlyGivenNames -merge -underBinder x1
  have h2 : Kept m o x1 := by
    unfold x1
    exact kept_State_setReg (sub hm) g0
  clear_value x1
  extract_lets +onlyGivenNames -merge -underBinder x3
  clear_value x3
  extract_lets +onlyGivenNames -merge -underBinder x4
  have h5 : Kept m o x4 := by
    unfold x4
    exact keptUpd hm (s := x1) (by constructor <;> first | exact .inl rfl | exact .inr rfl) rfl rfl rfl h2
  clear_value x4
  extract_lets +onlyGivenNames -merge -underBinder x6
  have h7 : Kept m o x6 := by
    unfold x6
    exact kept_State_blockState (sub hm) h5
  clear_value x6
  extract_lets +onlyGivenNames -merge -underBinder x8
  have h9 : Kept m o x8 := by
    unfold x8
    exact kept_State_resumeQuiet (sub hm) h7
  clear_value x8
  extract_lets +onlyGivenNames -merge -underBinder x10
  have h11 : Kept m o x10 := by
    unfold x10
    refine foldlKept ?_ ?_
    · intro a12 a13 a14
      exact kept_State_discardStep (sub hm) a14
    · exact kept_State_resyncTu (sub hm) h9
  clear_value x10
  extract_lets +onlyGivenNames -merge -underBinder x15
  clear_value x15
  extract_lets +onlyGivenNames -merge -underBinder x16
  have h17 : Kept m o x16 := by
    unfold x16
    exact keptIte (kept_State_retableAll (sub hm) (kept_State_resyncLatches (sub hm) (keptUpd hm (s := x10) (by constructor <;> first | exact .inl rfl | exact .inr rfl) rfl rfl rfl h11))) h9
  clear_value x16
  extract_lets +onlyGivenNames -merge -underBinder x18
  clear_value x18
  refine kept_State_askWaiting (sub hm) (foldlKept ?_ ?_)
  · intro a19 a20 a21
    exact kept_State_emit (sub hm) a21
  · exact keptUpd hm (s := x16) (by constructor <;> first | exact .inl rfl | exact .inr rfl) rfl rfl rfl h17

theorem kept_State_unpowered {v0 : State} (hm : m &&& 469761892 = 0) (g0 : Kept m o v0) :
    Kept m o (State.unpowered v0) := by
  unfold State.unpowered
  exact keptMem hm (s := v0) (by constructor <;> first | exact .inl rfl | exact .inr rfl) rfl (fun _ => rfl) (fun h => h) g0

theorem kept_State_coldStart {v0 : State} (hm : m &&& 469761892 = 0) (g0 : Kept m o v0) :
    Kept m o (State.coldStart v0) := by
  unfold State.coldStart
  extract_lets +onlyGivenNames -merge -underBinder x0
  have h1 : Kept m o x0 := by
    unfold x0
    exact kept_State_unpowered (sub hm) g0
  clear_value x0
  exact keptUpd hm (s := x0) (by constructor <;> first | exact .inl rfl | exact .inr rfl) rfl rfl rfl h1

theorem kept_State_rungUp {v0 : State} {v1 : Nat} (hm : m &&& 167510002 = 0) (g0 : Kept m o v0) :
    Kept m o (State.rungUp v0 v1) := by
  unfold State.rungUp
  refine keptIte ?_ ?_
  · extract_lets +onlyGivenNames -merge -underBinder x0
    clear_value x0
    extract_lets +onlyGivenNames -merge -underBinder x1
    have h2 : Kept m o x1 := by
      unfold x1
      exact keptUpd hm (s := v0) (by constructor <;> first | exact .inl rfl | exact .inr rfl) rfl rfl rfl g0
    exact keptIte (kept_State_raiseRung (sub hm) h2) (keptIte (keptUpd hm (s := x1) (by constructor <;> first | exact .inl rfl | exact .inr rfl) rfl rfl rfl h2) (keptIte (keptUpd hm (s := x1) (by constructor <;> first | exact .inl rfl | exact .inr rfl) rfl rfl rfl h2) (keptIte (kept_State_woken (sub hm) h2) h2)))
  · exact g0

theorem kept_State_rungDown {v0 : State} {v1 : Nat} (hm : m &&& 469761892 = 0) (g0 : Kept m o v0) :
    Kept m o (State.rungDown v0 v1) := by
  unfold State.rungDown
  refine keptIte ?_ ?_
  · extract_lets +onlyGivenNames -merge -underBinder x0
    clear_value x0
    extract_lets +onlyGivenNames -merge -underBinder x1
    have h2 : Kept m o x1 := by
      unfold x1
      exact keptUpd hm (s := v0) (by constructor <;> first | exact .inl rfl | exact .inr rfl) rfl rfl rfl g0
    clear_value x1
    split
    · exact keptUpd hm (s := x1) (by constructor <;> first | exact .inl rfl | exact .inr rfl) rfl rfl rfl h2
    · exact keptIte (keptIte (kept_State_coldStart (sub hm) h2) (kept_State_raiseRung (sub hm) h2)) h2
  · exact g0

theorem kept_execRungReady {v0 : Fin 4} {v1 : Bool} {v2 : State} (hm : m &&& 469762038 = 0) (g2 : Kept m o v2) :
    ∀ s', (execRungReady v0 v1 v2) = .next s' → Kept m o s' := by
  unfold execRungReady
  exact keptNext (keptIte g2 (keptIte (kept_State_rungUp (sub hm) g2) (kept_State_rungDown (sub hm) g2)))

theorem kept_execRungReadyLost {v0 : Fin 4} {v1 : State} (hm : m &&& 16777218 = 0) (g1 : Kept m o v1) :
    ∀ s', (execRungReadyLost v0 v1) = .next s' → Kept m o s' := by
  unfold execRungReadyLost
  exact keptNext (keptIte (kept_State_powerCycle (sub hm) (keptUpd hm (s := v1) (by constructor <;> first | exact .inl rfl | exact .inr rfl) rfl rfl rfl g1)) g1)

end Sys2Proof.Machine
end

