-- ==== Sys2Proof/Laws/KeptLifeCycle.lean ====
section
/-! SUPPORT. For each operation of Machine/LifeCycle.lean, and for each command meaning there: the fields of State it
    never changes (the bits not set in its mask), and that it keeps what Laws/Kept.lean names. -/

namespace Sys2Proof.Machine
set_option Elab.async false
variable {m : Nat} {o : State}

theorem kept_State_startFails {v0 : State} (hm : m &&& 152260578 = 0) (g0 : Kept m o v0) :
    Kept m o (State.startFails v0) := by
  unfold State.startFails
  exact kept_State_holdForTray (sub hm) (kept_State_bump (sub hm) (kept_State_faultEvent (sub hm) g0))

theorem kept_State_halt {v0 : State} {v1 : Nat} (hm : m &&& 152260578 = 0) (g0 : Kept m o v0) :
    Kept m o (State.halt v0 v1) := by
  unfold State.halt
  extract_lets +onlyGivenNames -merge -underBinder x0
  clear_value x0
  extract_lets +onlyGivenNames -merge -underBinder x1
  have h2 : Kept m o x1 := by
    unfold x1
    exact keptUpd hm (s := v0) (by constructor <;> first | exact .inl rfl | exact .inr rfl) rfl rfl rfl g0
  clear_value x1
  extract_lets +onlyGivenNames -merge -underBinder x3
  have h4 : Kept m o x3 := by
    unfold x3
    exact kept_State_sendTray (sub hm) h2
  clear_value x3
  exact keptIte (kept_State_startFails (sub hm) h4) h4

theorem kept_State_discardKeys {v0 : State} (hm : m &&& 37765952 = 0) (g0 : Kept m o v0) :
    Kept m o (State.discardKeys v0) := by
  unfold State.discardKeys
  extract_lets +onlyGivenNames -merge -underBinder x0
  have h1 : Kept m o x0 := by
    unfold x0
    exact kept_State_loseKeys (sub hm) g0
  clear_value x0
  exact keptUpd hm (s := x0) (by constructor <;> first | exact .inl rfl | exact .inr rfl) rfl rfl rfl h1

theorem kept_State_lcWipes {v0 : State} {v1 : LcJob} {v2 : LcJob} (hm : m &&& 37765952 = 0) (g0 : Kept m o v0) :
    Kept m o (State.lcWipes v0 v1 v2) := by
  unfold State.lcWipes
  exact keptIte (kept_State_discardKeys (sub hm) g0) g0

theorem kept_State_lcAdvance {v0 : State} {v1 : LcJob} (hm : m &&& 55591778 = 0) (g0 : Kept m o v0) :
    Kept m o (State.lcAdvance v0 v1) := by
  unfold State.lcAdvance
  extract_lets +onlyGivenNames -merge -underBinder x0 x1
  clear_value x0 x1
  extract_lets +onlyGivenNames -merge -underBinder x2
  have h3 : Kept m o x2 := by
    unfold x2
    exact kept_State_lcWipes (sub hm) g0
  clear_value x2
  refine keptIte ?_ ?_
  · extract_lets +onlyGivenNames -merge -underBinder x4
    clear_value x4
    extract_lets +onlyGivenNames -merge -underBinder x5
    have h6 : Kept m o x5 := by
      unfold x5
      exact keptUpd hm (s := x2) (by constructor <;> first | exact .inl rfl | exact .inr rfl) rfl rfl rfl h3
    clear_value x5
    exact keptIte h6 (kept_State_holdForTray (sub hm) h6)
  · exact keptUpd hm (s := x2) (by constructor <;> first | exact .inl rfl | exact .inr rfl) rfl rfl rfl h3

theorem kept_State_lcFail {v0 : State} {v1 : LcJob} (hm : m &&& 185815010 = 0) (g0 : Kept m o v0) :
    Kept m o (State.lcFail v0 v1) := by
  unfold State.lcFail
  extract_lets +onlyGivenNames -merge -underBinder x0
  clear_value x0
  extract_lets +onlyGivenNames -merge -underBinder x1
  have h2 : Kept m o x1 := by
    unfold x1
    exact keptUpd hm (s := v0) (by constructor <;> first | exact .inl rfl | exact .inr rfl) rfl rfl rfl g0
  clear_value x1
  exact keptIte (kept_State_halt (sub hm) h2) (keptIte (kept_State_startFails (sub hm) h2) (kept_State_holdForTray (sub hm) h2))

theorem kept_burnAck {v0 : Bool} {v1 : State} (hm : m &&& 257118178 = 0) (g1 : Kept m o v1) :
    Kept m o (burnAck v0 v1) := by
  unfold burnAck
  split
  · split
    · exact keptIte g1 (keptIte (kept_State_lcAdvance (sub hm) (keptFuse hm (s := v1) (by constructor <;> first | exact .inl rfl | exact .inr rfl) (fun _ _ h => and_or_keeps h) rfl rfl g1)) (keptIte (keptUpd hm (s := v1) (by constructor <;> first | exact .inl rfl | exact .inr rfl) rfl rfl rfl g1) (kept_State_lcFail (sub hm) g1)))
    · exact g1
  · exact g1

theorem kept_execFuseBurnAck {v0 : Bool} {v1 : State} (hm : m &&& 257118178 = 0) (g1 : Kept m o v1) :
    ∀ s', (execFuseBurnAck v0 v1) = .next s' → Kept m o s' := by
  unfold execFuseBurnAck
  exact keptNext (kept_burnAck (sub hm) g1)

theorem kept_State_eraseDone {v0 : State} (hm : m &&& 50331648 = 0) (g0 : Kept m o v0) :
    Kept m o (State.eraseDone v0) := by
  unfold State.eraseDone
  exact keptUpd hm (s := v0) (by constructor <;> first | exact .inl rfl | exact .inr rfl) rfl rfl rfl g0

theorem kept_sectorErased {v0 : Bool} {v1 : State} (hm : m &&& 190009314 = 0) (g1 : Kept m o v1) :
    Kept m o (sectorErased v0 v1) := by
  unfold sectorErased
  split
  · refine keptIte ?_ ?_
    · exact g1
    · refine keptIte ?_ ?_
      · exact kept_State_lcFail (sub hm) g1
      · extract_lets +onlyGivenNames -merge -underBinder x0
        exact keptIte (keptIte (kept_State_eraseDone (sub hm) g1) (keptUpd hm (s := v1) (by constructor <;> first | exact .inl rfl | exact .inr rfl) rfl rfl rfl g1)) (kept_State_lcAdvance (sub hm) g1)
  · exact g1

theorem kept_execFlashSectorErased {v0 : Bool} {v1 : State} (hm : m &&& 190009314 = 0) (g1 : Kept m o v1) :
    ∀ s', (execFlashSectorErased v0 v1) = .next s' → Kept m o s' := by
  unfold execFlashSectorErased
  exact keptNext (kept_sectorErased (sub hm) g1)

theorem kept_lifecycleDone {v0 : State} (hm : m &&& 185815010 = 0) (g0 : Kept m o v0) :
    Kept m o (lifecycleDone v0) := by
  unfold lifecycleDone
  refine keptIte ?_ ?_
  · extract_lets +onlyGivenNames -merge -underBinder x0 x1
    clear_value x0 x1
    extract_lets +onlyGivenNames -merge -underBinder x2
    have h3 : Kept m o x2 := by
      unfold x2
      exact keptUpd hm (s := v0) (by constructor <;> first | exact .inl rfl | exact .inr rfl) rfl rfl rfl g0
    clear_value x2
    exact keptIte (kept_State_halt (sub hm) h3) (kept_State_raiseRung (sub hm) (keptUpd hm (s := x2) (by constructor <;> first | exact .inl rfl | exact .inr rfl) rfl rfl rfl h3))
  · exact g0

theorem kept_execLifecyclePhaseComplete {v0 : State} (hm : m &&& 185815010 = 0) (g0 : Kept m o v0) :
    ∀ s', (execLifecyclePhaseComplete v0) = .next s' → Kept m o s' := by
  unfold execLifecyclePhaseComplete
  exact keptNext (kept_lifecycleDone (sub hm) g0)

theorem kept_lifecycleLimit {v0 : State} (hm : m &&& 185815010 = 0) (g0 : Kept m o v0) :
    Kept m o (lifecycleLimit v0) := by
  unfold lifecycleLimit
  split
  · exact keptIte (kept_State_lcFail (sub hm) g0) g0
  · exact g0

theorem kept_execLifecycleLimitMiss {v0 : State} (hm : m &&& 185815010 = 0) (g0 : Kept m o v0) :
    ∀ s', (execLifecycleLimitMiss v0) = .next s' → Kept m o s' := by
  unfold execLifecycleLimitMiss
  exact keptNext (kept_lifecycleLimit (sub hm) g0)

theorem kept_State_lcGo {v0 : State} {v1 : LcJob} (hm : m &&& 469499746 = 0) (g0 : Kept m o v0) :
    Kept m o (State.lcGo v0 v1) := by
  unfold State.lcGo
  extract_lets +onlyGivenNames -merge -underBinder x0
  clear_value x0
  refine keptIte ?_ ?_
  · extract_lets +onlyGivenNames -merge -underBinder x1
    have h2 : Kept m o x1 := by
      unfold x1
      exact kept_State_chipReset (sub hm) g0
    clear_value x1
    exact keptIte (kept_State_eraseDone (sub hm) h2) (keptUpd hm (s := x1) (by constructor <;> first | exact .inl rfl | exact .inr rfl) rfl rfl rfl h2)
  · extract_lets +onlyGivenNames -merge -underBinder x3
    have h4 : Kept m o x3 := by
      unfold x3
      exact kept_State_discardKeys (sub hm) (kept_State_abortAll (sub hm) g0)
    clear_value x3
    exact kept_State_lcAdvance (sub hm) (keptUpd hm (s := x3) (by constructor <;> first | exact .inl rfl | exact .inr rfl) rfl rfl rfl h4)

theorem kept_State_lcBegin {v0 : State} {v1 : LcJob} (hm : m &&& 469499746 = 0) (g0 : Kept m o v0) :
    Kept m o (State.lcBegin v0 v1) := by
  unfold State.lcBegin
  exact keptIte (keptUpd hm (s := v0) (by constructor <;> first | exact .inl rfl | exact .inr rfl) rfl rfl rfl g0) (kept_State_lcGo (sub hm) g0)

theorem kept_State_lcTransit {v0 : State} {v1 : Nat} (hm : m &&& 469499746 = 0) (g0 : Kept m o v0) :
    Kept m o (State.lcTransit v0 v1) := by
  unfold State.lcTransit
  extract_lets +onlyGivenNames -merge -underBinder x0
  clear_value x0
  exact kept_State_lcBegin (sub hm) g0

theorem kept_State_lcAfterDump {v0 : State} (hm : m &&& 469499746 = 0) (g0 : Kept m o v0) :
    Kept m o (State.lcAfterDump v0) := by
  unfold State.lcAfterDump
  split
  · exact keptIte (kept_State_lcGo (sub hm) g0) g0
  · exact g0

theorem kept_State_nonce {v0 : State} (hm : m &&& 16 = 0) (g0 : Kept m o v0) :
    Kept m o (State.nonce v0).2 := by
  unfold State.nonce
  extract_lets +onlyGivenNames -merge -underBinder x0
  have h1 : Kept m o x0.2 := by
    unfold x0
    exact kept_State_freeWord (sub hm) g0
  clear_value x0
  extract_lets +onlyGivenNames -merge -underBinder x2
  have h3 : Kept m o x2.2 := by
    unfold x2
    exact kept_State_freeWord (sub hm) h1
  clear_value x2
  extract_lets +onlyGivenNames -merge -underBinder x4
  have h5 : Kept m o x4.2 := by
    unfold x4
    exact kept_State_freeWord (sub hm) h3
  clear_value x4
  extract_lets +onlyGivenNames -merge -underBinder x6
  have h7 : Kept m o x6.2 := by
    unfold x6
    exact kept_State_freeWord (sub hm) h5
  clear_value x6
  exact h7

theorem kept_State_challenge {v0 : State} (hm : m &&& 33554448 = 0) (g0 : Kept m o v0) :
    Kept m o (State.challenge v0) := by
  unfold State.challenge
  extract_lets +onlyGivenNames -merge -underBinder x0
  have h1 : Kept m o x0.2 := by
    unfold x0
    exact kept_State_nonce (sub hm) g0
  clear_value x0
  extract_lets +onlyGivenNames -merge -underBinder x2
  clear_value x2
  extract_lets +onlyGivenNames -merge -underBinder x3
  have h4 : Kept m o x3 := by
    exact h1
  clear_value x3
  exact keptUpd hm (s := x3) (by constructor <;> first | exact .inl rfl | exact .inr rfl) rfl rfl rfl h4

theorem kept_State_chalAnswer {v0 : State} {v1 : Nat} (hm : m &&& 50331698 = 0) (g0 : Kept m o v0) :
    Kept m o (State.chalAnswer v0 v1) := by
  unfold State.chalAnswer
  extract_lets +onlyGivenNames -merge -underBinder x0
  have h1 : Kept m o x0 := by
    unfold x0
    exact kept_State_challenge (sub hm) g0
  clear_value x0
  exact keptIte (kept_State_result (sub hm) h1) (keptIte (kept_State_emit (sub hm) (keptUpd hm (s := x0) (by constructor <;> first | exact .inl rfl | exact .inr rfl) rfl rfl rfl h1)) h1)

theorem kept_State_askChallenge {v0 : State} {v1 : Nat} (hm : m &&& 50331698 = 0) (g0 : Kept m o v0) :
    Kept m o (State.askChallenge v0 v1) := by
  unfold State.askChallenge
  extract_lets +onlyGivenNames -merge -underBinder x0
  clear_value x0
  extract_lets +onlyGivenNames -merge -underBinder x1
  have h2 : Kept m o x1 := by
    unfold x1
    exact keptIte (keptUpd hm (s := v0) (by constructor <;> first | exact .inl rfl | exact .inr rfl) rfl rfl rfl g0) g0
  clear_value x1
  exact keptIte (kept_State_chalAnswer (sub hm) h2) (kept_State_bump (sub hm) (keptUpd hm (s := x1) (by constructor <;> first | exact .inl rfl | exact .inr rfl) rfl rfl rfl h2))

theorem kept_State_reopen {v0 : State} {v1 : Nat} (hm : m &&& 469499746 = 0) (g0 : Kept m o v0) :
    Kept m o (State.reopen v0 v1) := by
  unfold State.reopen
  refine keptIte ?_ ?_
  · extract_lets +onlyGivenNames -merge -underBinder x0
    clear_value x0
    exact kept_State_lcBegin (sub hm) g0
  · exact g0

theorem kept_State_submit {v0 : State} {v1 : List Byte} {v2 : Nat → State → State} (hm : m &&& 469499746 = 0) (g0 : Kept m o v0) (g2 : ∀ a0 a1, Kept m o a1 → Kept m o (v2 a0 a1)) :
    Kept m o (State.submit v0 v1 v2) := by
  unfold State.submit
  extract_lets +onlyGivenNames -merge -underBinder x0 x1 x2 x3 x4 x5
  clear_value x0 x1 x2 x3 x4 x5
  extract_lets +onlyGivenNames -merge -underBinder x6
  have h7 : Kept m o x6 := by
    unfold x6
    exact keptUpd hm (s := v0) (by constructor <;> first | exact .inl rfl | exact .inr rfl) rfl rfl rfl g0
  clear_value x6
  extract_lets +onlyGivenNames -merge -underBinder x8
  have h9 : Kept m o x8 := by
    unfold x8
    exact g2 _ _ h7
  clear_value x8
  exact keptIte (kept_State_reopen (sub hm) h9) h9

theorem kept_keyDraw {v0 : Bool} {v1 : State} (hm : m &&& 50348594 = 0) (g1 : Kept m o v1) :
    Kept m o (keyDraw v0 v1) := by
  unfold keyDraw
  extract_lets +onlyGivenNames -merge -underBinder x0
  clear_value x0
  extract_lets +onlyGivenNames -merge -underBinder x1
  have h2 : Kept m o x1 := by
    unfold x1
    exact keptUpd hm (s := v1) (by constructor <;> first | exact .inl rfl | exact .inr rfl) rfl rfl rfl g1
  clear_value x1
  refine keptIte ?_ ?_
  · exact h2
  · extract_lets +onlyGivenNames -merge -underBinder x3
    have h4 : Kept m o x3 := by
      unfold x3
      exact kept_State_drawBlockKey (sub hm) h2
    clear_value x3
    extract_lets +onlyGivenNames -merge -underBinder x5
    have h6 : Kept m o x5 := by
      unfold x5
      refine foldlKept ?_ ?_
      · intro a7 a8 a9
        exact kept_State_drawKey (sub hm) a9
      · exact h4
    clear_value x5
    extract_lets +onlyGivenNames -merge -underBinder x10
    have h11 : Kept m o x10 := by
      unfold x10
      refine foldlKept ?_ ?_
      · intro a12 a13 a14
        exact kept_State_beginRekey (sub hm) a14
      · exact h6
    clear_value x10
    refine foldlKept ?_ ?_
    · intro a15 a16 a17
      exact kept_State_chalAnswer (sub hm) a17
    · exact keptUpd hm (s := x10) (by constructor <;> first | exact .inl rfl | exact .inr rfl) rfl rfl rfl h11

theorem kept_execKeyDraw {v0 : Bool} {v1 : State} (hm : m &&& 50348594 = 0) (g1 : Kept m o v1) :
    ∀ s', (execKeyDraw v0 v1) = .next s' → Kept m o s' := by
  unfold execKeyDraw
  exact keptNext (keptIte (kept_keyDraw (sub hm) g1) g1)

theorem kept_lcSubmit {v0 : State} (hm : m &&& 469499746 = 0) (g0 : Kept m o v0) :
    Kept m o (lcSubmit v0) := by
  unfold lcSubmit
  refine kept_State_submit (sub hm) ?_ ?_
  · exact g0
  · intro a0 a1 a2
    exact kept_State_result (sub hm) a2

theorem kept_lcTransition {v0 : Nat} {v1 : State} (hm : m &&& 469499746 = 0) (g1 : Kept m o v1) :
    Kept m o (lcTransition v0 v1) := by
  unfold lcTransition
  split
  · exact kept_State_result (sub hm) g1
  · exact kept_State_result (sub hm) g1
  · exact kept_State_result (sub hm) g1
  · exact kept_State_lcTransit (sub hm) g1

theorem kept_State_lcCmd {v0 : State} {v1 : Word} (hm : m &&& 469499762 = 0) (g0 : Kept m o v0) :
    Kept m o (State.lcCmd v0 v1) := by
  unfold State.lcCmd
  refine keptIte ?_ ?_
  · exact kept_nopCommand (sub hm) g0
  · split
    · exact kept_State_overrun (sub hm) g0
    · rename_i y0 y1
      exact keptIte (kept_State_askChallenge (sub hm) (kept_State_accept (sub hm) g0 _ y1)) (keptIte (kept_lcSubmit (sub hm) (kept_State_accept (sub hm) g0 _ y1)) (keptIte (kept_lcTransition (sub hm) (kept_State_accept (sub hm) g0 _ y1)) (kept_State_result (sub hm) (kept_State_accept (sub hm) g0 _ y1))))

theorem kept_execLcNop {v0 : Func} {v1 : Word} {v2 : State} (hm : m &&& 469499890 = 0) (g2 : Kept m o v2) :
    ∀ s', (execLcNop v0 v1 v2) = .next s' → Kept m o s' := by
  unfold execLcNop
  refine keptNext (kept_State_platform (sub hm) ?_ ?_)
  · exact g2
  · intro a0 a1
    exact kept_State_lcCmd (sub hm) a1

theorem kept_execLcChallenge {v0 : Func} {v1 : Word} {v2 : State} (hm : m &&& 469499890 = 0) (g2 : Kept m o v2) :
    ∀ s', (execLcChallenge v0 v1 v2) = .next s' → Kept m o s' := by
  unfold execLcChallenge
  refine keptNext (kept_State_platform (sub hm) ?_ ?_)
  · exact g2
  · intro a0 a1
    exact kept_State_lcCmd (sub hm) a1

theorem kept_execLcSubmit {v0 : Func} {v1 : Word} {v2 : State} (hm : m &&& 469499890 = 0) (g2 : Kept m o v2) :
    ∀ s', (execLcSubmit v0 v1 v2) = .next s' → Kept m o s' := by
  unfold execLcSubmit
  refine keptNext (kept_State_platform (sub hm) ?_ ?_)
  · exact g2
  · intro a0 a1
    exact kept_State_lcCmd (sub hm) a1

theorem kept_execLcTransition {v0 : Func} {v1 : Word} {v2 : State} (hm : m &&& 469499890 = 0) (g2 : Kept m o v2) :
    ∀ s', (execLcTransition v0 v1 v2) = .next s' → Kept m o s' := by
  unfold execLcTransition
  refine keptNext (kept_State_platform (sub hm) ?_ ?_)
  · exact g2
  · intro a0 a1
    exact kept_State_lcCmd (sub hm) a1

end Sys2Proof.Machine
end

