-- ==== Sys2Proof/Laws/KeptHostPorts.lean ====
section
/-! SUPPORT. For each operation of Machine/HostPorts.lean, and for each command meaning there: the fields of State it
    never changes (the bits not set in its mask), and that it keeps what Laws/Kept.lean names. -/

namespace Sys2Proof.Machine
set_option Elab.async false
variable {m : Nat} {o : State}

theorem kept_State_hostAccess {v0 : State} {v1 : HostAccess} (hm : m &&& 134438898 = 0) (g0 : Kept m o v0) :
    Kept m o (State.hostAccess v0 v1) := by
  unfold State.hostAccess
  split
  · exact g0
  · exact kept_State_emit (sub hm) g0
  · exact kept_State_devWrite (sub hm) g0
  · split
    · rename_i y0 y1
      exact kept_State_emit (sub hm) (keptPair2 y1 (kept_State_devRead (sub hm) g0))
    · rename_i y2 y3
      exact kept_State_emit (sub hm) (keptPair2 y3 (kept_State_devRead (sub hm) g0))

theorem kept_hostMemory {v0 : HostAccess} {v1 : State} (hm : m &&& 152297458 = 0) (g1 : Kept m o v1) :
    Kept m o (hostMemory v0 v1) := by
  unfold hostMemory
  exact keptIte g1 (keptIte (kept_State_hostAccess (sub hm) (kept_State_wakeBlock (sub hm) g1)) (keptUpd hm (s := v1) (by constructor <;> first | exact .inl rfl | exact .inr rfl) rfl rfl rfl g1))

theorem kept_execHostMemoryAccess {v0 : Func} {v1 : Fin 17592186044416} {v2 : Fin 4097} {v3 : Option (List Byte)} {v4 : State} (hm : m &&& 152297458 = 0) (g4 : Kept m o v4) :
    ∀ s', (execHostMemoryAccess v0 v1 v2 v3 v4) = .next s' → Kept m o s' := by
  unfold execHostMemoryAccess
  exact keptNext (kept_hostMemory (sub hm) g4)

theorem kept_State_releaseHost {v0 : State} (hm : m &&& 152297458 = 0) (g0 : Kept m o v0) :
    Kept m o (State.releaseHost v0) := by
  unfold State.releaseHost
  extract_lets +onlyGivenNames -merge -underBinder x0
  clear_value x0
  refine foldlKept ?_ ?_
  · intro a1 a2 a3
    exact kept_hostMemory (sub hm) a3
  · exact keptUpd hm (s := v0) (by constructor <;> first | exact .inl rfl | exact .inr rfl) rfl rfl rfl g0

theorem kept_atsAnswer {v0 : Req} {v1 : Bool} {v2 : Bool} {v3 : Bool} {v4 : Nat} {v5 : Nat} {v6 : State} (hm : m &&& 140738546 = 0) (g6 : Kept m o v6) :
    Kept m o (atsAnswer v0 v1 v2 v3 v4 v5 v6) := by
  unfold atsAnswer
  refine keptIte ?_ ?_
  · extract_lets +onlyGivenNames -merge -underBinder x0
    clear_value x0
    extract_lets +onlyGivenNames -merge -underBinder x1
    have h2 : Kept m o x1 := by
      unfold x1
      exact kept_State_fill (sub hm) g6
    clear_value x1
    exact kept_releaseReq (sub hm) (keptIte (kept_State_capLook (sub hm) h2) h2)
  · exact kept_hostFault (sub hm) g6

theorem kept_atsDone {v0 : Nat} {v1 : Bool} {v2 : Bool} {v3 : Bool} {v4 : Nat} {v5 : Nat} {v6 : State} (hm : m &&& 435945458 = 0) (g6 : Kept m o v6) :
    Kept m o (atsDone v0 v1 v2 v3 v4 v5 v6) := by
  unfold atsDone
  extract_lets +onlyGivenNames -merge -underBinder x0 x1
  clear_value x0 x1
  extract_lets +onlyGivenNames -merge -underBinder x2
  have h3 : Kept m o x2 := by
    unfold x2
    exact keptUpd hm (s := v6) (by constructor <;> first | exact .inl rfl | exact .inr rfl) rfl rfl rfl g6
  clear_value x2
  split
  · exact kept_atsAnswer (sub hm) h3
  · exact keptIte h3 (kept_State_faultOn (sub hm) h3)

theorem kept_execAtsCompletion {v0 : Nat} {v1 : Bool} {v2 : Bool} {v3 : Bool} {v4 : Nat} {v5 : Nat} {v6 : State} (hm : m &&& 435945458 = 0) (g6 : Kept m o v6) :
    ∀ s', (execAtsCompletion v0 v1 v2 v3 v4 v5 v6) = .next s' → Kept m o s' := by
  unfold execAtsCompletion
  refine keptNext (kept_State_work (sub hm) ?_ ?_)
  · exact g6
  · intro a0 a1
    exact kept_atsDone (sub hm) a1

theorem kept_prgDone {v0 : Nat} {v1 : Nat} {v2 : State} (hm : m &&& 435945458 = 0) (g2 : Kept m o v2) :
    Kept m o (prgDone v0 v1 v2) := by
  unfold prgDone
  extract_lets +onlyGivenNames -merge -underBinder x0
  clear_value x0
  refine keptIte ?_ ?_
  · exact kept_State_faultOn (sub hm) g2
  · extract_lets +onlyGivenNames -merge -underBinder x1 x2
    clear_value x1 x2
    extract_lets +onlyGivenNames -merge -underBinder x3
    have h4 : Kept m o x3 := by
      unfold x3
      exact keptUpd hm (s := v2) (by constructor <;> first | exact .inl rfl | exact .inr rfl) rfl rfl rfl g2
    clear_value x3
    extract_lets +onlyGivenNames -merge -underBinder x5
    have h6 : Kept m o x5 := by
      unfold x5
      refine foldlKept ?_ ?_
      · intro a7 a8 a9
        exact keptIte (kept_State_askAts (sub hm) (kept_State_setReq (sub hm) a9)) (kept_State_priFail (sub hm) (kept_State_failReq (sub hm) a9))
      · exact h4
    clear_value x5
    exact kept_priRefill (sub hm) h6

theorem kept_execPrgResponse {v0 : Nat} {v1 : Fin 16} {v2 : State} (hm : m &&& 435945458 = 0) (g2 : Kept m o v2) :
    ∀ s', (execPrgResponse v0 v1 v2) = .next s' → Kept m o s' := by
  unfold execPrgResponse
  refine keptNext (kept_State_work (sub hm) ?_ ?_)
  · exact g2
  · intro a0 a1
    exact kept_prgDone (sub hm) a1

theorem kept_functionConfig {v0 : Nat} {v1 : Word} {v2 : State} (hm : m &&& 36866 = 0) (g2 : Kept m o v2) :
    Kept m o (functionConfig v0 v1 v2) := by
  unfold functionConfig
  extract_lets +onlyGivenNames -merge -underBinder x0 x1
  clear_value x0 x1
  extract_lets +onlyGivenNames -merge -underBinder x2
  have h3 : Kept m o x2 := by
    unfold x2
    exact keptUpd hm (s := v2) (by constructor <;> first | exact .inl rfl | exact .inr rfl) rfl rfl rfl g2
  clear_value x2
  extract_lets +onlyGivenNames -merge -underBinder x4
  clear_value x4
  extract_lets +onlyGivenNames -merge -underBinder x5
  have h6 : Kept m o x5 := by
    unfold x5
    exact keptIte (keptUpd hm (s := x2) (by constructor <;> first | exact .inl rfl | exact .inr rfl) rfl rfl rfl h3) h3
  clear_value x5
  exact keptIte h6 (kept_priRefill (sub hm) h6)

theorem kept_execFunctionConfig {v0 : Func} {v1 : Word} {v2 : State} (hm : m &&& 36866 = 0) (g2 : Kept m o v2) :
    ∀ s', (execFunctionConfig v0 v1 v2) = .next s' → Kept m o s' := by
  unfold execFunctionConfig
  exact keptNext (keptIte (kept_functionConfig (sub hm) g2) g2)

theorem kept_flr {v0 : Nat} {v1 : State} (hm : m &&& 150732786 = 0) (g1 : Kept m o v1) :
    Kept m o (flr v0 v1) := by
  unfold flr
  refine keptIte ?_ ?_
  · exact g1
  · split
    · exact kept_State_emit (sub hm) g1
    · extract_lets +onlyGivenNames -merge -underBinder x0
      clear_value x0
      extract_lets +onlyGivenNames -merge -underBinder x1
      have h2 : Kept m o x1 := by
        unfold x1
        refine foldlKept ?_ ?_
        · intro a3 a4 a5
          exact kept_State_beginTeardown (sub hm) a5
        · exact g1
      clear_value x1
      exact kept_State_endFlrs (sub hm) (keptUpd hm (s := x1) (by constructor <;> first | exact .inl rfl | exact .inr rfl) rfl rfl rfl h2)

theorem kept_execFlr {v0 : Func} {v1 : State} (hm : m &&& 167510002 = 0) (g1 : Kept m o v1) :
    ∀ s', (execFlr v0 v1) = .next s' → Kept m o s' := by
  unfold execFlr
  exact keptNext (keptIte (kept_flr (sub hm) (kept_State_wakeBlock (sub hm) g1)) g1)

theorem kept_hostCompletion {v0 : Nat} {v1 : Option (List Byte)} {v2 : State} (hm : m &&& 4224 = 0) (g2 : Kept m o v2) :
    Kept m o (hostCompletion v0 v1 v2) := by
  unfold hostCompletion
  split
  · extract_lets +onlyGivenNames -merge -underBinder x0
    clear_value x0
    exact keptMem hm (s := v2) (by constructor <;> first | exact .inl rfl | exact .inr rfl) rfl (fun h => h) (memWrite_wf _ _) g2
  · exact keptIte g2 (keptUpd hm (s := v2) (by constructor <;> first | exact .inl rfl | exact .inr rfl) rfl rfl rfl g2)

theorem kept_execHostReadCompletion {v0 : Fin 18446744073709551616} {v1 : Option (List Byte)} {v2 : State} (hm : m &&& 4224 = 0) (g2 : Kept m o v2) :
    ∀ s', (execHostReadCompletion v0 v1 v2) = .next s' → Kept m o s' := by
  unfold execHostReadCompletion
  exact keptNext (keptIte (kept_hostCompletion (sub hm) g2) g2)

end Sys2Proof.Machine
end

