-- ==== Sys2Proof/Laws/KeptObserve.lean ====
section
/-! SUPPORT. For each operation of Machine/Observe.lean, and for each command meaning there: the fields of State it
    never changes (the bits not set in its mask), and that it keeps what Laws/Kept.lean names. -/

namespace Sys2Proof.Machine
set_option Elab.async false
variable {m : Nat} {o : State}

theorem kept_State_ringEnable {v0 : State} {v1 : Nat} {v2 : Nat} {v3 : Word} {v4 : Word → Nat × Nat} {v5 : Nat} {v6 : OuUnit → OuUnit} (hm : m &&& 131104 = 0) (g0 : Kept m o v0) :
    Kept m o (State.ringEnable v0 v1 v2 v3 v4 v5 v6) := by
  unfold State.ringEnable
  extract_lets +onlyGivenNames -merge -underBinder x0
  clear_value x0
  extract_lets +onlyGivenNames -merge -underBinder x1
  have h2 : Kept m o x1 := by
    unfold x1
    exact kept_State_setReg (sub hm) g0
  clear_value x1
  refine keptIte ?_ ?_
  · exact h2
  · refine keptIte ?_ ?_
    · extract_lets +onlyGivenNames -merge -underBinder x3
      have h4 : Kept m o x3 := by
        unfold x3
        exact kept_State_setReg (sub hm) g0
      clear_value x3
      refine keptIte ?_ ?_
      · exact h4
      · extract_lets +onlyGivenNames -merge -underBinder x5
        have h6 : Kept m o x5 := by
          unfold x5
          exact kept_State_setReg (sub hm) h4
        clear_value x5
        exact keptUpd hm (s := x5) (by constructor <;> first | exact .inl rfl | exact .inr rfl) rfl rfl rfl h6
    · exact h2

theorem kept_smpWrite {v0 : Word} {v1 : State} (hm : m &&& 131104 = 0) (g1 : Kept m o v1) :
    Kept m o (smpWrite v0 v1) := by
  unfold smpWrite
  extract_lets +onlyGivenNames -merge -underBinder x0 x1
  clear_value x0 x1
  exact kept_State_ringEnable (sub hm) g1

theorem kept_trcWrite {v0 : Word} {v1 : State} (hm : m &&& 131104 = 0) (g1 : Kept m o v1) :
    Kept m o (trcWrite v0 v1) := by
  unfold trcWrite
  extract_lets +onlyGivenNames -merge -underBinder x0
  clear_value x0
  exact kept_State_ringEnable (sub hm) g1

theorem kept_execOuSmpEnable {v0 : Func} {v1 : Word} {v2 : State} (hm : m &&& 152293346 = 0) (g2 : Kept m o v2) :
    ∀ s', (execOuSmpEnable v0 v1 v2) = .next s' → Kept m o s' := by
  unfold execOuSmpEnable
  refine keptNext (kept_State_platform (sub hm) ?_ ?_)
  · exact g2
  · intro a0 a1
    exact kept_smpWrite (sub hm) a1

theorem kept_execOuTrcEnable {v0 : Func} {v1 : Word} {v2 : State} (hm : m &&& 152293346 = 0) (g2 : Kept m o v2) :
    ∀ s', (execOuTrcEnable v0 v1 v2) = .next s' → Kept m o s' := by
  unfold execOuTrcEnable
  refine keptNext (kept_State_platform (sub hm) ?_ ?_)
  · exact g2
  · intro a0 a1
    exact kept_trcWrite (sub hm) a1

theorem kept_cselWrite {v0 : Nat} {v1 : Word} {v2 : State} (hm : m &&& 32 = 0) (g2 : Kept m o v2) :
    Kept m o (cselWrite v0 v1 v2) := by
  unfold cselWrite
  extract_lets +onlyGivenNames -merge -underBinder x0
  have h1 : Kept m o x0 := by
    unfold x0
    exact kept_State_setReg (sub hm) g2
  clear_value x0
  exact kept_State_setRfld (sub hm) (kept_State_setReg (sub hm) h1)

theorem kept_execOuCselWrite {v0 : Func} {v1 : Fin 64} {v2 : Word} {v3 : State} (hm : m &&& 152293346 = 0) (g3 : Kept m o v3) :
    ∀ s', (execOuCselWrite v0 v1 v2 v3) = .next s' → Kept m o s' := by
  unfold execOuCselWrite
  refine keptNext (kept_State_platform (sub hm) ?_ ?_)
  · exact g3
  · intro a0 a1
    exact kept_cselWrite (sub hm) a1

theorem kept_sensorReading {v0 : Nat} {v1 : Nat} {v2 : Nat} {v3 : State} (hm : m &&& 131072 = 0) (g3 : Kept m o v3) :
    Kept m o (sensorReading v0 v1 v2 v3) := by
  unfold sensorReading
  exact keptIte g3 (keptUpd hm (s := v3) (by constructor <;> first | exact .inl rfl | exact .inr rfl) rfl rfl rfl g3)

theorem kept_execSensorReading {v0 : Fin 16} {v1 : Byte} {v2 : BitVec 32} {v3 : State} (hm : m &&& 131072 = 0) (g3 : Kept m o v3) :
    ∀ s', (execSensorReading v0 v1 v2 v3) = .next s' → Kept m o s' := by
  unfold execSensorReading
  exact keptNext (keptIte (kept_sensorReading (sub hm) g3) g3)

theorem kept_sampleInstant {v0 : State} (hm : m &&& 134434784 = 0) (g0 : Kept m o v0) :
    Kept m o (sampleInstant v0) := by
  unfold sampleInstant
  extract_lets +onlyGivenNames -merge -underBinder x0 x1
  clear_value x0 x1
  refine keptIte ?_ ?_
  · extract_lets +onlyGivenNames -merge -underBinder x2
    have h3 : Kept m o x2.1 := by
      unfold x2
      refine keptIte1 ?_ ?_
      · dsimp only [id]
        exact kept_State_bump (sub hm) g0
      · exact kept_State_ouRecord (sub hm) g0
    clear_value x2
    extract_lets +onlyGivenNames -merge -underBinder x4
    clear_value x4
    extract_lets +onlyGivenNames -merge -underBinder x5
    have h6 : Kept m o x5 := by
      exact h3
    clear_value x5
    exact keptUpd hm (s := x5) (by constructor <;> first | exact .inl rfl | exact .inr rfl) rfl rfl rfl h6
  · exact g0

theorem kept_execSampleInstant {v0 : State} (hm : m &&& 134434784 = 0) (g0 : Kept m o v0) :
    ∀ s', (execSampleInstant v0) = .next s' → Kept m o s' := by
  unfold execSampleInstant
  exact keptNext (keptIte g0 (kept_sampleInstant (sub hm) g0))

theorem kept_traceMark {v0 : Word} {v1 : State} (hm : m &&& 134434784 = 0) (g1 : Kept m o v1) :
    Kept m o (traceMark v0 v1) := by
  unfold traceMark
  exact kept_State_stopTrigger (sub hm) (kept_State_trace (sub hm) g1)

theorem kept_execOuTrcMarkWrite {v0 : Func} {v1 : Word} {v2 : State} (hm : m &&& 152293346 = 0) (g2 : Kept m o v2) :
    ∀ s', (execOuTrcMarkWrite v0 v1 v2) = .next s' → Kept m o s' := by
  unfold execOuTrcMarkWrite
  refine keptNext (kept_State_platform (sub hm) ?_ ?_)
  · exact g2
  · intro a0 a1
    exact kept_traceMark (sub hm) a1

theorem kept_stopSchedule {v0 : Nat} {v1 : State} (hm : m &&& 134434784 = 0) (g1 : Kept m o v1) :
    Kept m o (stopSchedule v0 v1) := by
  unfold stopSchedule
  extract_lets +onlyGivenNames -merge -underBinder x0
  clear_value x0
  refine keptIte ?_ ?_
  · exact kept_State_result (sub hm) g1
  · refine keptIte ?_ ?_
    · exact kept_State_result (sub hm) g1
    · extract_lets +onlyGivenNames -merge -underBinder x1 x2
      clear_value x1 x2
      exact kept_State_result (sub hm) (kept_State_traceStop (sub hm) (keptUpd hm (s := v1) (by constructor <;> first | exact .inl rfl | exact .inr rfl) rfl rfl rfl g1))

theorem kept_stopCancel {v0 : State} (hm : m &&& 134434784 = 0) (g0 : Kept m o v0) :
    Kept m o (stopCancel v0) := by
  unfold stopCancel
  split
  · exact kept_State_result (sub hm) (kept_State_traceStop (sub hm) (keptUpd hm (s := v0) (by constructor <;> first | exact .inl rfl | exact .inr rfl) rfl rfl rfl g0))
  · exact kept_State_result (sub hm) g0

theorem kept_State_restartPaces {v0 : State} (hm : m &&& 138412544 = 0) (g0 : Kept m o v0) :
    Kept m o (State.restartPaces v0) := by
  unfold State.restartPaces
  extract_lets +onlyGivenNames -merge -underBinder x0
  clear_value x0
  exact keptUpd hm (s := v0) (by constructor <;> first | exact .inl rfl | exact .inr rfl) rfl rfl rfl g0

theorem kept_State_stopResume {v0 : State} (hm : m &&& 435945458 = 0) (g0 : Kept m o v0) :
    Kept m o (State.stopResume v0) := by
  unfold State.stopResume
  extract_lets +onlyGivenNames -merge -underBinder x0 x1 x2
  clear_value x0 x1 x2
  extract_lets +onlyGivenNames -merge -underBinder x3
  have h4 : Kept m o x3 := by
    unfold x3
    exact kept_State_releaseHeld (sub hm) (kept_State_restartPaces (sub hm) (keptUpd hm (s := v0) (by constructor <;> first | exact .inl rfl | exact .inr rfl) rfl rfl rfl g0))
  clear_value x3
  extract_lets +onlyGivenNames -merge -underBinder x5
  have h6 : Kept m o x5 := by
    unfold x5
    refine foldlKept ?_ ?_
    · intro a7 a8 a9
      exact kept_State_releasePort (sub hm) a9
    · exact h4
  clear_value x5
  extract_lets +onlyGivenNames -merge -underBinder x10
  have h11 : Kept m o x10 := by
    unfold x10
    exact kept_State_takeDeferred (sub hm) (kept_State_releaseHost (sub hm) (kept_State_traceStop (sub hm) h6))
  clear_value x10
  exact keptIte (kept_State_result (sub hm) h11) h11

theorem kept_stopAskResume {v0 : State} (hm : m &&& 435945458 = 0) (g0 : Kept m o v0) :
    Kept m o (stopAskResume v0) := by
  unfold stopAskResume
  extract_lets +onlyGivenNames -merge -underBinder x0
  clear_value x0
  extract_lets +onlyGivenNames -merge -underBinder x1
  have h2 : Kept m o x1 := by
    unfold x1
    exact keptUpd hm (s := v0) (by constructor <;> first | exact .inl rfl | exact .inr rfl) rfl rfl rfl g0
  clear_value x1
  split
  · exact kept_State_stopResume (sub hm) h2
  · exact h2
  · exact kept_State_result (sub hm) g0

theorem kept_State_stopCmd {v0 : State} {v1 : Word} (hm : m &&& 435945458 = 0) (g0 : Kept m o v0) :
    Kept m o (State.stopCmd v0 v1) := by
  unfold State.stopCmd
  refine keptIte ?_ ?_
  · exact kept_nopCommand (sub hm) g0
  · split
    · exact kept_State_overrun (sub hm) g0
    · rename_i y0 y1
      exact keptIte (kept_stopSchedule (sub hm) (kept_State_accept (sub hm) g0 _ y1)) (keptIte (kept_stopCancel (sub hm) (kept_State_accept (sub hm) g0 _ y1)) (keptIte (kept_stopAskResume (sub hm) (kept_State_accept (sub hm) g0 _ y1)) (kept_State_result (sub hm) (kept_State_accept (sub hm) g0 _ y1))))

theorem kept_execOuStopNop {v0 : Func} {v1 : Word} {v2 : State} (hm : m &&& 435945458 = 0) (g2 : Kept m o v2) :
    ∀ s', (execOuStopNop v0 v1 v2) = .next s' → Kept m o s' := by
  unfold execOuStopNop
  refine keptNext (kept_State_platform (sub hm) ?_ ?_)
  · exact g2
  · intro a0 a1
    exact kept_State_stopCmd (sub hm) a1

theorem kept_execOuStopSchedule {v0 : Func} {v1 : Word} {v2 : State} (hm : m &&& 435945458 = 0) (g2 : Kept m o v2) :
    ∀ s', (execOuStopSchedule v0 v1 v2) = .next s' → Kept m o s' := by
  unfold execOuStopSchedule
  refine keptNext (kept_State_platform (sub hm) ?_ ?_)
  · exact g2
  · intro a0 a1
    exact kept_State_stopCmd (sub hm) a1

theorem kept_execOuStopCancel {v0 : Func} {v1 : Word} {v2 : State} (hm : m &&& 435945458 = 0) (g2 : Kept m o v2) :
    ∀ s', (execOuStopCancel v0 v1 v2) = .next s' → Kept m o s' := by
  unfold execOuStopCancel
  refine keptNext (kept_State_platform (sub hm) ?_ ?_)
  · exact g2
  · intro a0 a1
    exact kept_State_stopCmd (sub hm) a1

theorem kept_execOuStopResume {v0 : Func} {v1 : Word} {v2 : State} (hm : m &&& 435945458 = 0) (g2 : Kept m o v2) :
    ∀ s', (execOuStopResume v0 v1 v2) = .next s' → Kept m o s' := by
  unfold execOuStopResume
  refine keptNext (kept_State_platform (sub hm) ?_ ?_)
  · exact g2
  · intro a0 a1
    exact kept_State_stopCmd (sub hm) a1

theorem kept_stopTime {v0 : State} (hm : m &&& 138629090 = 0) (g0 : Kept m o v0) :
    Kept m o (stopTime v0) := by
  unfold stopTime
  split
  · exact keptIte (kept_State_enterStopping (sub hm) g0) g0
  · exact g0

theorem kept_execStopTimeReached {v0 : State} (hm : m &&& 138629090 = 0) (g0 : Kept m o v0) :
    ∀ s', (execStopTimeReached v0) = .next s' → Kept m o s' := by
  unfold execStopTimeReached
  exact keptNext (keptIte (kept_stopTime (sub hm) g0) g0)

theorem kept_unitsStop {v0 : State} (hm : m &&& 131072 = 0) (g0 : Kept m o v0) :
    Kept m o (unitsStop v0) := by
  unfold unitsStop
  split
  · exact keptIte (keptUpd hm (s := v0) (by constructor <;> first | exact .inl rfl | exact .inr rfl) rfl rfl rfl g0) g0
  · exact g0

theorem kept_execUnitsStop {v0 : State} (hm : m &&& 131072 = 0) (g0 : Kept m o v0) :
    ∀ s', (execUnitsStop v0) = .next s' → Kept m o s' := by
  unfold execUnitsStop
  exact keptNext (keptIte (kept_unitsStop (sub hm) g0) g0)

theorem kept_execStopPortRecordTimer {v0 : State} (hm : m &&& 131072 = 0) (g0 : Kept m o v0) :
    ∀ s', (execStopPortRecordTimer v0) = .next s' → Kept m o s' := by
  unfold execStopPortRecordTimer
  exact keptNext (keptIte (keptUpd hm (s := v0) (by constructor <;> first | exact .inl rfl | exact .inr rfl) rfl rfl rfl g0) g0)

theorem kept_stopAuto {v0 : State} (hm : m &&& 435945458 = 0) (g0 : Kept m o v0) :
    Kept m o (stopAuto v0) := by
  unfold stopAuto
  extract_lets +onlyGivenNames -merge -underBinder x0
  clear_value x0
  exact keptIte (kept_State_stopResume (sub hm) (kept_State_bump (sub hm) g0)) g0

theorem kept_execStopAutoResume {v0 : State} (hm : m &&& 435945458 = 0) (g0 : Kept m o v0) :
    ∀ s', (execStopAutoResume v0) = .next s' → Kept m o s' := by
  unfold execStopAutoResume
  exact keptNext (keptIte (kept_stopAuto (sub hm) g0) g0)

end Sys2Proof.Machine
end

