-- ==== Sys2Proof/Laws/KeptViews.lean ====
section
/-! SUPPORT. For each operation of Machine/Views.lean, and for each command meaning there: the fields of State it
    never changes (the bits not set in its mask), and that it keeps what Laws/Kept.lean names. -/

namespace Sys2Proof.Machine
set_option Elab.async false
variable {m : Nat} {o : State}

theorem kept_State_afterRead {v0 : State} {v1 : Nat} (hm : m &&& 136536050 = 0) (g0 : Kept m o v0) :
    Kept m o (State.afterRead v0 v1) := by
  unfold State.afterRead
  split
  · exact keptIte g0 (kept_State_setReg (sub hm) g0)
  · exact g0

end Sys2Proof.Machine
end

