-- ==== Sys2Proof/Laws/KeptRegisters.lean ====
section
/-! SUPPORT. For each operation of Machine/Registers.lean, and for each command meaning there: the fields of State it
    never changes (the bits not set in its mask), and that it keeps what Laws/Kept.lean names. -/

namespace Sys2Proof.Machine
set_option Elab.async false
variable {m : Nat} {o : State}

theorem kept_State_writePlain {v0 : State} {v1 : Nat} {v2 : Word} (hm : m &&& 32 = 0) (g0 : Kept m o v0) :
    Kept m o (State.writePlain v0 v1 v2) := by
  unfold State.writePlain
  split
  · exact kept_State_setReg (sub hm) g0
  · exact g0

theorem kept_State_writeIf {v0 : State} {v1 : Nat} {v2 : Word} {v3 : Bool} (hm : m &&& 32 = 0) (g0 : Kept m o v0) :
    Kept m o (State.writeIf v0 v1 v2 v3) := by
  unfold State.writeIf
  exact keptIte (kept_State_writePlain (sub hm) g0) g0

theorem kept_State_writeErr {v0 : State} {v1 : Word} (hm : m &&& 32 = 0) (g0 : Kept m o v0) :
    Kept m o (State.writeErr v0 v1) := by
  unfold State.writeErr
  extract_lets +onlyGivenNames -merge -underBinder x0 x1
  clear_value x0 x1
  exact kept_State_setReg (sub hm) g0

theorem kept_State_loadTime {v0 : State} {v1 : Nat} (hm : m &&& 271908 = 0) (g0 : Kept m o v0) :
    Kept m o (State.loadTime v0 v1) := by
  unfold State.loadTime
  refine keptIte ?_ ?_
  · exact kept_State_bump (sub hm) g0
  · extract_lets +onlyGivenNames -merge -underBinder x0
    clear_value x0
    extract_lets +onlyGivenNames -merge -underBinder x1
    have h2 : Kept m o x1 := by
      unfold x1
      exact keptUpd hm (s := v0) (by constructor <;> first | exact .inl rfl | exact .inr rfl) rfl rfl rfl g0
    clear_value x1
    exact kept_State_closeWindows (sub hm) h2

theorem kept_State_writeRcvCfg {v0 : State} {v1 : Word} (hm : m &&& 32 = 0) (g0 : Kept m o v0) :
    Kept m o (State.writeRcvCfg v0 v1) := by
  unfold State.writeRcvCfg
  extract_lets +onlyGivenNames -merge -underBinder x0
  clear_value x0
  exact kept_State_writePlain (sub hm) g0

theorem kept_State_writeBlk {v0 : State} {v1 : Nat} {v2 : Word} (hm : m &&& 436207606 = 0) (g0 : Kept m o v0) :
    Kept m o (State.writeBlk v0 v1 v2) := by
  unfold State.writeBlk
  exact keptIte (kept_State_writeErr (sub hm) g0) (keptIte (kept_State_writeIf (sub hm) g0) (keptIte (kept_State_rstCmd (sub hm) g0) (keptIte (kept_State_writeRcvCfg (sub hm) g0) (keptIte (kept_State_fltWrite (sub hm) g0) (keptIte (kept_State_loadTime (sub hm) g0) (keptIte (kept_State_pwrCmd (sub hm) g0) (kept_State_writePlain (sub hm) g0)))))))

theorem kept_State_badOp {v0 : State} {v1 : Nat} (hm : m &&& 32 = 0) (g0 : Kept m o v0) :
    Kept m o (State.badOp v0 v1) := by
  unfold State.badOp
  refine kept_State_command (sub hm) ?_ ?_
  · exact g0
  · intro a0 a1
    exact a1

theorem kept_State_writeCtxCmd {v0 : State} {v1 : Nat} {v2 : Word} (hm : m &&& 150700018 = 0) (g0 : Kept m o v0) :
    Kept m o (State.writeCtxCmd v0 v1 v2) := by
  unfold State.writeCtxCmd
  split
  · exact kept_nopCommand (sub hm) g0
  · refine kept_State_command (sub hm) ?_ ?_
    · exact g0
    · intro a0 a1
      exact kept_ctxAlloc (sub hm) a1
  · exact kept_ctxFree (sub hm) g0
  · exact kept_State_badOp (sub hm) g0

theorem kept_State_writeDrwCmd {v0 : State} {v1 : Nat} {v2 : Word} (hm : m &&& 150700002 = 0) (g0 : Kept m o v0) :
    Kept m o (State.writeDrwCmd v0 v1 v2) := by
  unfold State.writeDrwCmd
  extract_lets +onlyGivenNames -merge -underBinder x0
  clear_value x0
  split
  · exact kept_nopCommand (sub hm) g0
  · refine kept_State_command (sub hm) ?_ ?_
    · exact g0
    · intro a1 a2
      exact kept_drwCreate (sub hm) a2
  · refine kept_State_command (sub hm) ?_ ?_
    · exact g0
    · intro a3 a4
      exact kept_drwStop (sub hm) a4
  · refine kept_State_command (sub hm) ?_ ?_
    · exact g0
    · intro a5 a6
      exact kept_drwStart (sub hm) a6
  · exact kept_drwDestroy (sub hm) g0
  · exact kept_State_badOp (sub hm) g0

theorem kept_State_writeMobjCmd {v0 : State} {v1 : Nat} {v2 : Word} (hm : m &&& 1056 = 0) (g0 : Kept m o v0) :
    Kept m o (State.writeMobjCmd v0 v1 v2) := by
  unfold State.writeMobjCmd
  split
  · exact kept_nopCommand (sub hm) g0
  · refine kept_State_command (sub hm) ?_ ?_
    · exact g0
    · intro a0 a1
      exact kept_mobjCreate (sub hm) a1
  · refine kept_State_command (sub hm) ?_ ?_
    · exact g0
    · intro a2 a3
      exact kept_mobjAlias (sub hm) a3
  · refine kept_State_command (sub hm) ?_ ?_
    · exact g0
    · intro a4 a5
      exact kept_mobjRelease (sub hm) a5
  · exact kept_State_badOp (sub hm) g0

theorem kept_State_writeLatCmd {v0 : State} {v1 : Nat} {v2 : Word} (hm : m &&& 152264690 = 0) (g0 : Kept m o v0) :
    Kept m o (State.writeLatCmd v0 v1 v2) := by
  unfold State.writeLatCmd
  extract_lets +onlyGivenNames -merge -underBinder x0
  clear_value x0
  split
  · exact kept_nopCommand (sub hm) g0
  · refine kept_State_command (sub hm) ?_ ?_
    · exact g0
    · intro a1 a2
      exact kept_latArm (sub hm) a2
  · refine kept_State_command (sub hm) ?_ ?_
    · exact g0
    · intro a3 a4
      exact kept_latRearm (sub hm) a4
  · refine kept_State_command (sub hm) ?_ ?_
    · exact g0
    · intro a5 a6
      exact kept_latDisarm (sub hm) a6
  · refine kept_State_command (sub hm) ?_ ?_
    · exact g0
    · intro a7 a8
      exact kept_latEval (sub hm) a8
  · exact kept_State_badOp (sub hm) g0

theorem kept_State_writeQryCmd {v0 : State} {v1 : Nat} {v2 : Word} (hm : m &&& 32 = 0) (g0 : Kept m o v0) :
    Kept m o (State.writeQryCmd v0 v1 v2) := by
  unfold State.writeQryCmd
  extract_lets +onlyGivenNames -merge -underBinder x0
  clear_value x0
  exact kept_queryCommand (sub hm) g0

theorem kept_State_writeOperating {v0 : State} {v1 : Nat} {v2 : Nat} {v3 : Word} (hm : m &&& 167477234 = 0) (g0 : Kept m o v0) :
    Kept m o (State.writeOperating v0 v1 v2 v3) := by
  unfold State.writeOperating
  exact keptIte (kept_State_writeCtxCmd (sub hm) g0) (keptIte (kept_State_writeDrwCmd (sub hm) g0) (keptIte (kept_State_writeMobjCmd (sub hm) g0) (keptIte (kept_State_writeQryCmd (sub hm) g0) (keptIte (kept_State_writeLatCmd (sub hm) g0) (kept_State_writePlain (sub hm) g0)))))

theorem kept_State_writeWindow {v0 : State} {v1 : Nat} {v2 : Nat} {v3 : Word} (hm : m &&& 435912690 = 0) (g0 : Kept m o v0) :
    Kept m o (State.writeWindow v0 v1 v2 v3) := by
  unfold State.writeWindow
  extract_lets +onlyGivenNames -merge -underBinder x0
  clear_value x0
  exact keptIte (kept_State_cabCmd (sub hm) g0) (keptIte (keptIte (kept_State_setCab (sub hm) g0) g0) (keptIte (kept_State_writeIf (sub hm) g0) (keptIte (kept_State_writeOperating (sub hm) g0) g0)))

theorem kept_State_writeTuSb {v0 : State} {v1 : Nat} {v2 : Word} (hm : m &&& 8401954 = 0) (g0 : Kept m o v0) :
    Kept m o (State.writeTuSb v0 v1 v2) := by
  unfold State.writeTuSb
  exact keptIte (kept_fqWrite (sub hm) g0) (keptIte (kept_State_writeIf (sub hm) g0) (keptIte (kept_sbCfgWrite (sub hm) g0) (keptIte (kept_State_writeIf (sub hm) g0) (keptIte (kept_State_writePlain (sub hm) g0) (kept_State_writePlain (sub hm) g0)))))

theorem kept_State_writeMeDce {v0 : State} {v1 : Nat} {v2 : Word} (hm : m &&& 1052704 = 0) (g0 : Kept m o v0) :
    Kept m o (State.writeMeDce v0 v1 v2) := by
  unfold State.writeMeDce
  refine keptIte ?_ ?_
  · extract_lets +onlyGivenNames -merge -underBinder x0 x1
    clear_value x0 x1
    exact keptIte (kept_State_writeChCtrl (sub hm) g0) (keptIte (kept_State_writeChAddr (sub hm) g0) g0)
  · exact keptIte (kept_State_writeIf (sub hm) g0) (keptIte (kept_State_writeIf (sub hm) g0) (kept_State_writePlain (sub hm) g0))

theorem kept_State_writeMix {v0 : State} {v1 : Nat} {v2 : Word} (hm : m &&& 268451872 = 0) (g0 : Kept m o v0) :
    Kept m o (State.writeMix v0 v1 v2) := by
  unfold State.writeMix
  extract_lets +onlyGivenNames -merge -underBinder x0 x1
  clear_value x0 x1
  exact keptIte (kept_State_mixCmd (sub hm) g0) (keptIte (keptIte (kept_State_writeIf (sub hm) g0) (keptIte (kept_ncFloor (sub hm) g0) (keptIte (kept_State_writeIf (sub hm) g0) (keptIte (kept_State_writeIf (sub hm) g0) (kept_State_writePlain (sub hm) g0))))) (keptIte (kept_State_syncWires (sub hm) (kept_State_writePlain (sub hm) g0)) (kept_State_writePlain (sub hm) g0)))

theorem kept_State_writeFab {v0 : State} {v1 : Nat} {v2 : Word} (hm : m &&& 141262834 = 0) (g0 : Kept m o v0) :
    Kept m o (State.writeFab v0 v1 v2) := by
  unfold State.writeFab
  refine keptIte ?_ ?_
  · exact kept_State_writeIf (sub hm) g0
  · refine keptIte ?_ ?_
    · exact kept_State_frCfgWrite (sub hm) g0
    · refine keptIte ?_ ?_
      · exact kept_frFloor (sub hm) g0
      · refine keptIte ?_ ?_
        · exact kept_State_abortJob (sub hm) g0
        · refine keptIte ?_ ?_
          · exact kept_State_pgCfgWrite (sub hm) g0
          · refine keptIte ?_ ?_
            · extract_lets +onlyGivenNames -merge -underBinder x0 x1
              clear_value x0 x1
              exact keptIte (kept_State_jobWrite (sub hm) g0) (keptIte (kept_State_jobKeyWrite (sub hm) g0) g0)
            · exact kept_State_writePlain (sub hm) g0

theorem kept_State_writeOuLc {v0 : State} {v1 : Nat} {v2 : Word} (hm : m &&& 469499890 = 0) (g0 : Kept m o v0) :
    Kept m o (State.writeOuLc v0 v1 v2) := by
  unfold State.writeOuLc
  exact keptIte (kept_smpWrite (sub hm) g0) (keptIte (kept_trcWrite (sub hm) g0) (keptIte (kept_traceMark (sub hm) g0) (keptIte (kept_State_stopCmd (sub hm) g0) (keptIte (kept_State_writePlain (sub hm) g0) (keptIte (kept_cselWrite (sub hm) g0) (keptIte (kept_State_lcCmd (sub hm) g0) (kept_State_writePlain (sub hm) g0)))))))

theorem kept_State_writeReg {v0 : State} {v1 : Nat} {v2 : Word} (hm : m &&& 469762038 = 0) (g0 : Kept m o v0) :
    Kept m o (State.writeReg v0 v1 v2) := by
  unfold State.writeReg
  extract_lets +onlyGivenNames -merge -underBinder x0
  clear_value x0
  exact keptIte g0 (keptIte (kept_State_writeBlk (sub hm) g0) (keptIte (kept_State_writeWindow (sub hm) g0) (keptIte (kept_State_writeTuSb (sub hm) g0) (keptIte (kept_State_writeMeDce (sub hm) g0) (keptIte (kept_State_writeMix (sub hm) g0) (keptIte (kept_State_writeFab (sub hm) g0) (keptIte (kept_State_writeOuLc (sub hm) g0) (kept_State_writePlain (sub hm) g0))))))))

theorem kept_State_wakeFor {v0 : State} {v1 : Nat} (hm : m &&& 152260578 = 0) (g0 : Kept m o v0) :
    Kept m o (State.wakeFor v0 v1) := by
  unfold State.wakeFor
  extract_lets +onlyGivenNames -merge -underBinder x0
  clear_value x0
  exact keptIte (kept_State_wakeCab (sub hm) g0) (kept_State_wakeBlock (sub hm) g0)

theorem kept_State_badAccess {v0 : State} {v1 : Bool} {v2 : Nat} {v3 : Nat} {v4 : Bool} {v5 : Nat} (hm : m &&& 32 = 0) (g0 : Kept m o v0) :
    Kept m o (State.badAccess v0 v1 v2 v3 v4 v5) := by
  unfold State.badAccess
  exact keptIte (kept_State_setRfld (sub hm) g0) (kept_State_setReg (sub hm) g0)

theorem kept_State_hostBad {v0 : State} {v1 : Bool} {v2 : Nat} {v3 : Nat} {v4 : Nat} (hm : m &&& 152260578 = 0) (g0 : Kept m o v0) :
    Kept m o (State.hostBad v0 v1 v2 v3 v4) := by
  unfold State.hostBad
  refine keptIte ?_ ?_
  · exact kept_State_badAccess (sub hm) (kept_State_wakeBlock (sub hm) g0)
  · refine keptIte ?_ ?_
    · exact g0
    · split
      · exact kept_State_badAccess (sub hm) (kept_State_wakeBlock (sub hm) g0)
      · exact kept_State_badAccess (sub hm) (kept_State_wakeBlock (sub hm) g0)

theorem kept_badRegister {v0 : Nat} {v1 : Nat} {v2 : Nat} {v3 : Bool} {v4 : State} (hm : m &&& 152260578 = 0) (g4 : Kept m o v4) :
    Kept m o (badRegister v0 v1 v2 v3 v4) := by
  unfold badRegister
  refine keptIte ?_ ?_
  · exact g4
  · extract_lets +onlyGivenNames -merge -underBinder x0
    have h1 : Kept m o x0 := by
      unfold x0
      exact kept_State_hostBad (sub hm) g4
    clear_value x0
    exact keptIte h1 (kept_State_emit (sub hm) h1)

theorem kept_execBadRegisterAccess {v0 : Func} {v1 : Fin 16777216} {v2 : Fin 4097} {v3 : Bool} {v4 : State} (hm : m &&& 152260578 = 0) (g4 : Kept m o v4) :
    ∀ s', (execBadRegisterAccess v0 v1 v2 v3 v4) = .next s' → Kept m o s' := by
  unfold execBadRegisterAccess
  exact keptNext (kept_badRegister (sub hm) g4)

theorem kept_hostWriteReg {v0 : Nat} {v1 : Nat} {v2 : Word} {v3 : State} (hm : m &&& 469762038 = 0) (g3 : Kept m o v3) :
    Kept m o (hostWriteReg v0 v1 v2 v3) := by
  unfold hostWriteReg
  refine keptIte ?_ ?_
  · exact g3
  · refine keptIte ?_ ?_
    · exact kept_State_hostBad (sub hm) g3
    · extract_lets +onlyGivenNames -merge -underBinder x0
      clear_value x0
      refine keptIte ?_ ?_
      · refine kept_State_access (sub hm) ?_ ?_
        · exact kept_State_wakeFor (sub hm) g3
        · intro a1 a2
          exact kept_State_writeReg (sub hm) a2
      · split
        · refine keptIte ?_ ?_
          · refine kept_State_access (sub hm) ?_ ?_
            · exact kept_State_wakeCab (sub hm) g3
            · intro a3 a4
              exact kept_State_writeReg (sub hm) a4
          · exact kept_State_wakeBlock (sub hm) g3
        · exact kept_State_wakeBlock (sub hm) g3

theorem kept_execRegisterWrite {v0 : Func} {v1 : Fin 16777216} {v2 : Word} {v3 : State} (hm : m &&& 469762038 = 0) (g3 : Kept m o v3) :
    ∀ s', (execRegisterWrite v0 v1 v2 v3) = .next s' → Kept m o s' := by
  unfold execRegisterWrite
  exact keptNext (kept_hostWriteReg (sub hm) g3)

theorem kept_execBlkLockSet {v0 : Func} {v1 : Word} {v2 : State} (hm : m &&& 152293346 = 0) (g2 : Kept m o v2) :
    ∀ s', (execBlkLockSet v0 v1 v2) = .next s' → Kept m o s' := by
  unfold execBlkLockSet
  refine keptNext (kept_State_platform (sub hm) ?_ ?_)
  · exact g2
  · intro a0 a1
    exact kept_State_writePlain (sub hm) a1

theorem kept_execPlnTsLoadWrite {v0 : Func} {v1 : Word} {v2 : State} (hm : m &&& 152563686 = 0) (g2 : Kept m o v2) :
    ∀ s', (execPlnTsLoadWrite v0 v1 v2) = .next s' → Kept m o s' := by
  unfold execPlnTsLoadWrite
  refine keptNext (kept_State_platform (sub hm) ?_ ?_)
  · exact g2
  · intro a0 a1
    exact kept_State_loadTime (sub hm) a1

theorem kept_State_takeReg {v0 : State} {v1 : Nat} (hm : m &&& 136536050 = 0) (g0 : Kept m o v0) :
    Kept m o (State.takeReg v0 v1) := by
  unfold State.takeReg
  exact kept_State_afterRead (sub hm) (kept_State_emit (sub hm) g0)

theorem kept_readPlatform {v0 : Nat} {v1 : Nat} {v2 : State} (hm : m &&& 154394610 = 0) (g2 : Kept m o v2) :
    ∀ s', (readPlatform v0 v1 v2) = .next s' → Kept m o s' := by
  unfold readPlatform
  refine keptNext (kept_State_platform (sub hm) ?_ ?_)
  · exact g2
  · intro a0 a1
    exact kept_State_takeReg (sub hm) a1

theorem kept_readOperating {v0 : Nat} {v1 : Nat} {v2 : Nat} {v3 : State} (hm : m &&& 154394610 = 0) (g3 : Kept m o v3) :
    ∀ s', (readOperating v0 v1 v2 v3) = .next s' → Kept m o s' := by
  unfold readOperating
  refine keptNext (keptIte ?_ ?_)
  · refine kept_State_operate (sub hm) ?_ ?_
    · exact g3
    · intro a0 a1
      exact kept_State_afterRead (sub hm) (kept_State_emit (sub hm) a1)
  · exact keptIte (kept_State_emit (sub hm) (kept_State_wakeBlock (sub hm) g3)) g3

theorem kept_execDbDropsRead {v0 : Func} {v1 : CabId} {v2 : State} (hm : m &&& 154394610 = 0) (g2 : Kept m o v2) :
    ∀ s', (execDbDropsRead v0 v1 v2) = .next s' → Kept m o s' := by
  unfold execDbDropsRead
  refine keptNext (keptIte ?_ ?_)
  · refine kept_State_operate (sub hm) ?_ ?_
    · exact g2
    · intro a0 a1
      exact kept_State_afterRead (sub hm) (kept_State_emit (sub hm) a1)
  · exact keptIte (kept_State_emit (sub hm) (kept_State_wakeBlock (sub hm) g2)) g2

theorem kept_execLatStatRead {v0 : Func} {v1 : CabId} {v2 : State} (hm : m &&& 154394610 = 0) (g2 : Kept m o v2) :
    ∀ s', (execLatStatRead v0 v1 v2) = .next s' → Kept m o s' := by
  unfold execLatStatRead
  refine keptNext (keptIte ?_ ?_)
  · refine kept_State_operate (sub hm) ?_ ?_
    · exact g2
    · intro a0 a1
      exact kept_State_afterRead (sub hm) (kept_State_emit (sub hm) a1)
  · exact keptIte (kept_State_emit (sub hm) (kept_State_wakeBlock (sub hm) g2)) g2

theorem kept_execDbGdropsRead {v0 : Func} {v1 : State} (hm : m &&& 154394610 = 0) (g1 : Kept m o v1) :
    ∀ s', (execDbGdropsRead v0 v1) = .next s' → Kept m o s' := by
  unfold execDbGdropsRead
  refine keptNext (kept_State_platform (sub hm) ?_ ?_)
  · exact g1
  · intro a0 a1
    exact kept_State_takeReg (sub hm) a1

theorem kept_execLatGstatRead {v0 : Func} {v1 : State} (hm : m &&& 154394610 = 0) (g1 : Kept m o v1) :
    ∀ s', (execLatGstatRead v0 v1) = .next s' → Kept m o s' := by
  unfold execLatGstatRead
  refine keptNext (kept_State_platform (sub hm) ?_ ?_)
  · exact g1
  · intro a0 a1
    exact kept_State_takeReg (sub hm) a1

theorem kept_execTuGstatRead {v0 : Func} {v1 : State} (hm : m &&& 154394610 = 0) (g1 : Kept m o v1) :
    ∀ s', (execTuGstatRead v0 v1) = .next s' → Kept m o s' := by
  unfold execTuGstatRead
  refine keptNext (kept_State_platform (sub hm) ?_ ?_)
  · exact g1
  · intro a0 a1
    exact kept_State_takeReg (sub hm) a1

theorem kept_execTuCstatRead {v0 : Func} {v1 : CabId} {v2 : State} (hm : m &&& 154394610 = 0) (g2 : Kept m o v2) :
    ∀ s', (execTuCstatRead v0 v1 v2) = .next s' → Kept m o s' := by
  unfold execTuCstatRead
  refine keptNext (kept_State_platform (sub hm) ?_ ?_)
  · exact g2
  · intro a0 a1
    exact kept_State_takeReg (sub hm) a1

theorem kept_execSbGstatRead {v0 : Func} {v1 : State} (hm : m &&& 154394610 = 0) (g1 : Kept m o v1) :
    ∀ s', (execSbGstatRead v0 v1) = .next s' → Kept m o s' := by
  unfold execSbGstatRead
  refine keptNext (kept_State_platform (sub hm) ?_ ?_)
  · exact g1
  · intro a0 a1
    exact kept_State_takeReg (sub hm) a1

theorem kept_execSbCntRead {v0 : Func} {v1 : CabId} {v2 : State} (hm : m &&& 154394610 = 0) (g2 : Kept m o v2) :
    ∀ s', (execSbCntRead v0 v1 v2) = .next s' → Kept m o s' := by
  unfold execSbCntRead
  refine keptNext (kept_State_platform (sub hm) ?_ ?_)
  · exact g2
  · intro a0 a1
    exact kept_State_takeReg (sub hm) a1

theorem kept_execTsGstatRead {v0 : Func} {v1 : State} (hm : m &&& 154394610 = 0) (g1 : Kept m o v1) :
    ∀ s', (execTsGstatRead v0 v1) = .next s' → Kept m o s' := by
  unfold execTsGstatRead
  refine keptNext (kept_State_platform (sub hm) ?_ ?_)
  · exact g1
  · intro a0 a1
    exact kept_State_takeReg (sub hm) a1

theorem kept_execTsCntRead {v0 : Func} {v1 : CabId} {v2 : State} (hm : m &&& 154394610 = 0) (g2 : Kept m o v2) :
    ∀ s', (execTsCntRead v0 v1 v2) = .next s' → Kept m o s' := by
  unfold execTsCntRead
  refine keptNext (kept_State_platform (sub hm) ?_ ?_)
  · exact g2
  · intro a0 a1
    exact kept_State_takeReg (sub hm) a1

theorem kept_execTsCnt2Read {v0 : Func} {v1 : CabId} {v2 : State} (hm : m &&& 154394610 = 0) (g2 : Kept m o v2) :
    ∀ s', (execTsCnt2Read v0 v1 v2) = .next s' → Kept m o s' := by
  unfold execTsCnt2Read
  refine keptNext (kept_State_platform (sub hm) ?_ ?_)
  · exact g2
  · intro a0 a1
    exact kept_State_takeReg (sub hm) a1

theorem kept_execMeGstatRead {v0 : Func} {v1 : State} (hm : m &&& 154394610 = 0) (g1 : Kept m o v1) :
    ∀ s', (execMeGstatRead v0 v1) = .next s' → Kept m o s' := by
  unfold execMeGstatRead
  refine keptNext (kept_State_platform (sub hm) ?_ ?_)
  · exact g1
  · intro a0 a1
    exact kept_State_takeReg (sub hm) a1

theorem kept_execMeCstatRead {v0 : Func} {v1 : CabId} {v2 : State} (hm : m &&& 154394610 = 0) (g2 : Kept m o v2) :
    ∀ s', (execMeCstatRead v0 v1 v2) = .next s' → Kept m o s' := by
  unfold execMeCstatRead
  refine keptNext (kept_State_platform (sub hm) ?_ ?_)
  · exact g2
  · intro a0 a1
    exact kept_State_takeReg (sub hm) a1

theorem kept_execDceGstatRead {v0 : Func} {v1 : State} (hm : m &&& 154394610 = 0) (g1 : Kept m o v1) :
    ∀ s', (execDceGstatRead v0 v1) = .next s' → Kept m o s' := by
  unfold execDceGstatRead
  refine keptNext (kept_State_platform (sub hm) ?_ ?_)
  · exact g1
  · intro a0 a1
    exact kept_State_takeReg (sub hm) a1

theorem kept_execDceCstatRead {v0 : Func} {v1 : CabId} {v2 : State} (hm : m &&& 154394610 = 0) (g2 : Kept m o v2) :
    ∀ s', (execDceCstatRead v0 v1 v2) = .next s' → Kept m o s' := by
  unfold execDceCstatRead
  refine keptNext (kept_State_platform (sub hm) ?_ ?_)
  · exact g2
  · intro a0 a1
    exact kept_State_takeReg (sub hm) a1

theorem kept_execFtCstatRead {v0 : Func} {v1 : CabId} {v2 : State} (hm : m &&& 154394610 = 0) (g2 : Kept m o v2) :
    ∀ s', (execFtCstatRead v0 v1 v2) = .next s' → Kept m o s' := by
  unfold execFtCstatRead
  refine keptNext (kept_State_platform (sub hm) ?_ ?_)
  · exact g2
  · intro a0 a1
    exact kept_State_takeReg (sub hm) a1

theorem kept_execSgStatRead {v0 : Func} {v1 : GateId} {v2 : State} (hm : m &&& 154394610 = 0) (g2 : Kept m o v2) :
    ∀ s', (execSgStatRead v0 v1 v2) = .next s' → Kept m o s' := by
  unfold execSgStatRead
  refine keptNext (kept_State_platform (sub hm) ?_ ?_)
  · exact g2
  · intro a0 a1
    exact kept_State_takeReg (sub hm) a1

theorem kept_execSgLatRead {v0 : Func} {v1 : GateId} {v2 : Fin 258} {v3 : State} (hm : m &&& 154394610 = 0) (g3 : Kept m o v3) :
    ∀ s', (execSgLatRead v0 v1 v2 v3) = .next s' → Kept m o s' := by
  unfold execSgLatRead
  refine keptNext (kept_State_platform (sub hm) ?_ ?_)
  · exact g3
  · intro a0 a1
    exact kept_State_takeReg (sub hm) a1

theorem kept_execSgMixstatRead {v0 : Func} {v1 : GateId} {v2 : State} (hm : m &&& 154394610 = 0) (g2 : Kept m o v2) :
    ∀ s', (execSgMixstatRead v0 v1 v2) = .next s' → Kept m o s' := by
  unfold execSgMixstatRead
  refine keptNext (kept_State_platform (sub hm) ?_ ?_)
  · exact g2
  · intro a0 a1
    exact kept_State_takeReg (sub hm) a1

theorem kept_execSgMdcRead {v0 : Func} {v1 : GateId} {v2 : State} (hm : m &&& 154394610 = 0) (g2 : Kept m o v2) :
    ∀ s', (execSgMdcRead v0 v1 v2) = .next s' → Kept m o s' := by
  unfold execSgMdcRead
  refine keptNext (kept_State_platform (sub hm) ?_ ?_)
  · exact g2
  · intro a0 a1
    exact kept_State_takeReg (sub hm) a1

theorem kept_execSgRemixRead {v0 : Func} {v1 : GateId} {v2 : State} (hm : m &&& 154394610 = 0) (g2 : Kept m o v2) :
    ∀ s', (execSgRemixRead v0 v1 v2) = .next s' → Kept m o s' := by
  unfold execSgRemixRead
  refine keptNext (kept_State_platform (sub hm) ?_ ?_)
  · exact g2
  · intro a0 a1
    exact kept_State_takeReg (sub hm) a1

theorem kept_execMixGstatRead {v0 : Func} {v1 : State} (hm : m &&& 154394610 = 0) (g1 : Kept m o v1) :
    ∀ s', (execMixGstatRead v0 v1) = .next s' → Kept m o s' := by
  unfold execMixGstatRead
  refine keptNext (kept_State_platform (sub hm) ?_ ?_)
  · exact g1
  · intro a0 a1
    exact kept_State_takeReg (sub hm) a1

theorem kept_execFrCntRead {v0 : Func} {v1 : State} (hm : m &&& 154394610 = 0) (g1 : Kept m o v1) :
    ∀ s', (execFrCntRead v0 v1) = .next s' → Kept m o s' := by
  unfold execFrCntRead
  refine keptNext (kept_State_platform (sub hm) ?_ ?_)
  · exact g1
  · intro a0 a1
    exact kept_State_takeReg (sub hm) a1

theorem kept_execFrCnt2Read {v0 : Func} {v1 : State} (hm : m &&& 154394610 = 0) (g1 : Kept m o v1) :
    ∀ s', (execFrCnt2Read v0 v1) = .next s' → Kept m o s' := by
  unfold execFrCnt2Read
  refine keptNext (kept_State_platform (sub hm) ?_ ?_)
  · exact g1
  · intro a0 a1
    exact kept_State_takeReg (sub hm) a1

theorem kept_execPgCntRead {v0 : Func} {v1 : PortId} {v2 : State} (hm : m &&& 154394610 = 0) (g2 : Kept m o v2) :
    ∀ s', (execPgCntRead v0 v1 v2) = .next s' → Kept m o s' := by
  unfold execPgCntRead
  refine keptNext (kept_State_platform (sub hm) ?_ ?_)
  · exact g2
  · intro a0 a1
    exact kept_State_takeReg (sub hm) a1

theorem kept_execRcvStatRead {v0 : Func} {v1 : State} (hm : m &&& 154394610 = 0) (g1 : Kept m o v1) :
    ∀ s', (execRcvStatRead v0 v1) = .next s' → Kept m o s' := by
  unfold execRcvStatRead
  refine keptNext (kept_State_platform (sub hm) ?_ ?_)
  · exact g1
  · intro a0 a1
    exact kept_State_takeReg (sub hm) a1

theorem kept_execChestStatRead {v0 : Func} {v1 : State} (hm : m &&& 154394610 = 0) (g1 : Kept m o v1) :
    ∀ s', (execChestStatRead v0 v1) = .next s' → Kept m o s' := by
  unfold execChestStatRead
  refine keptNext (kept_State_platform (sub hm) ?_ ?_)
  · exact g1
  · intro a0 a1
    exact kept_State_takeReg (sub hm) a1

theorem kept_execPwrRefuseCountRead {v0 : Func} {v1 : State} (hm : m &&& 154394610 = 0) (g1 : Kept m o v1) :
    ∀ s', (execPwrRefuseCountRead v0 v1) = .next s' → Kept m o s' := by
  unfold execPwrRefuseCountRead
  refine keptNext (kept_State_platform (sub hm) ?_ ?_)
  · exact g1
  · intro a0 a1
    exact kept_State_takeReg (sub hm) a1

theorem kept_execPlnTsStatRead {v0 : Func} {v1 : State} (hm : m &&& 154394610 = 0) (g1 : Kept m o v1) :
    ∀ s', (execPlnTsStatRead v0 v1) = .next s' → Kept m o s' := by
  unfold execPlnTsStatRead
  refine keptNext (kept_State_platform (sub hm) ?_ ?_)
  · exact g1
  · intro a0 a1
    exact kept_State_takeReg (sub hm) a1

theorem kept_execOuGstatRead {v0 : Func} {v1 : State} (hm : m &&& 154394610 = 0) (g1 : Kept m o v1) :
    ∀ s', (execOuGstatRead v0 v1) = .next s' → Kept m o s' := by
  unfold execOuGstatRead
  refine keptNext (kept_State_platform (sub hm) ?_ ?_)
  · exact g1
  · intro a0 a1
    exact kept_State_takeReg (sub hm) a1

theorem kept_tapAccess {v0 : Nat} {v1 : Option Word} {v2 : State} (hm : m &&& 469762038 = 0) (g2 : Kept m o v2) :
    Kept m o (tapAccess v0 v1 v2) := by
  unfold tapAccess
  refine kept_State_access (sub hm) ?_ ?_
  · exact g2
  · intro a0 a1
    split
    · exact kept_State_emit (sub hm) (kept_State_writeReg (sub hm) a1)
    · exact kept_State_afterRead (sub hm) (kept_State_emit (sub hm) a1)

theorem kept_retakeReg {v0 : HeldAccess} {v1 : State} (hm : m &&& 469762038 = 0) (g1 : Kept m o v1) :
    Kept m o (retakeReg v0 v1) := by
  unfold retakeReg
  refine keptIte ?_ ?_
  · exact kept_tapAccess (sub hm) g1
  · split
    · exact kept_hostWriteReg (sub hm) g1
    · refine keptIte ?_ ?_
      · exact g1
      · extract_lets +onlyGivenNames -merge -underBinder x0
        clear_value x0
        refine kept_State_access (sub hm) ?_ ?_
        · exact g1
        · intro a1 a2
          exact kept_State_afterRead (sub hm) (kept_State_emit (sub hm) a2)

theorem kept_State_releaseRegs {v0 : State} (hm : m &&& 469762038 = 0) (g0 : Kept m o v0) :
    Kept m o (State.releaseRegs v0) := by
  unfold State.releaseRegs
  extract_lets +onlyGivenNames -merge -underBinder x0
  clear_value x0
  refine foldlKept ?_ ?_
  · intro a1 a2 a3
    exact kept_retakeReg (sub hm) a3
  · exact keptUpd hm (s := v0) (by constructor <;> first | exact .inl rfl | exact .inr rfl) rfl rfl rfl g0

theorem kept_State_releaseBells {v0 : State} (hm : m &&& 152293346 = 0) (g0 : Kept m o v0) :
    Kept m o (State.releaseBells v0) := by
  unfold State.releaseBells
  extract_lets +onlyGivenNames -merge -underBinder x0
  clear_value x0
  refine foldlKept ?_ ?_
  · intro a1 a2 a3
    exact kept_doorbellWrite (sub hm) a3
  · exact keptUpd hm (s := v0) (by constructor <;> first | exact .inl rfl | exact .inr rfl) rfl rfl rfl g0

theorem kept_unitReleased {v0 : Nat} {v1 : State} (hm : m &&& 469762038 = 0) (g1 : Kept m o v1) :
    Kept m o (unitReleased v0 v1) := by
  unfold unitReleased
  extract_lets +onlyGivenNames -merge -underBinder x0
  have h1 : Kept m o x0 := by
    unfold x0
    exact kept_resyncDone (sub hm) g1
  clear_value x0
  exact keptIte h1 (keptIte (kept_State_releaseRegs (sub hm) (kept_State_releaseBells (sub hm) (kept_State_releaseHost (sub hm) h1))) (kept_State_releaseRegs (sub hm) h1))

theorem kept_execEngineResetResyncDone {v0 : UnitId} {v1 : State} (hm : m &&& 469762038 = 0) (g1 : Kept m o v1) :
    ∀ s', (execEngineResetResyncDone v0 v1) = .next s' → Kept m o s' := by
  unfold execEngineResetResyncDone
  exact keptNext (keptIte g1 (kept_unitReleased (sub hm) g1))

end Sys2Proof.Machine
end

