-- ==== Sys2Proof/Laws/KeptPlinth.lean ====
section
/-! SUPPORT. For each operation of Machine/Plinth.lean, and for each command meaning there: the fields of State it
    never changes (the bits not set in its mask), and that it keeps what Laws/Kept.lean names. -/

namespace Sys2Proof.Machine
set_option Elab.async false
variable {m : Nat} {o : State}

theorem kept_execPorRise {v0 : State} (hm : m &&& 16777220 = 0) (g0 : Kept m o v0) :
    ∀ s', (execPorRise v0) = .next s' → Kept m o s' := by
  unfold execPorRise
  exact keptNext (keptIte (keptUpd hm (s := v0) (by constructor <;> first | exact .inl rfl | exact .inr rfl) rfl rfl rfl g0) g0)

theorem kept_execPorAssert {v0 : State} (hm : m &&& 469761892 = 0) (g0 : Kept m o v0) :
    ∀ s', (execPorAssert v0) = .next s' → Kept m o s' := by
  unfold execPorAssert
  exact keptNext (kept_State_unpowered (sub hm) g0)

theorem kept_wakePin {v0 : State} (hm : m &&& 469762022 = 0) (g0 : Kept m o v0) :
    Kept m o (wakePin v0) := by
  unfold wakePin
  exact keptIte g0 (keptIte (keptIte (kept_State_coldStart (sub hm) g0) (keptUpd hm (s := v0) (by constructor <;> first | exact .inl rfl | exact .inr rfl) rfl rfl rfl g0)) (kept_State_wakeBlock (sub hm) g0))

theorem kept_execWakeN {v0 : State} (hm : m &&& 469762022 = 0) (g0 : Kept m o v0) :
    ∀ s', (execWakeN v0) = .next s' → Kept m o s' := by
  unfold execWakeN
  exact keptNext (kept_wakePin (sub hm) g0)

theorem kept_fuseLoad {v0 : Option Fuses} {v1 : State} (hm : m &&& 257118178 = 0) (g1 : Kept m o v1) :
    Kept m o (fuseLoad v0 v1) := by
  unfold fuseLoad
  refine keptIte ?_ ?_
  · exact g1
  · split
    · exact kept_State_halt (sub hm) g1
    · rename_i f
      have h5 : Kept m o { v1 with fuse := Fuses.burned v1.fuse f,
                                     lc := { v1.lc with raw := (Fuses.burned v1.fuse f).lc },
                                     pln := { v1.pln with phase := .lifecycle, phaseAt := v1.now } } :=
        keptFuse hm (s := v1) (by constructor <;> first | exact .inl rfl | exact .inr rfl) (fun _ hb h => and_mod_keeps hb (Nat.or_comm _ _ ▸ and_or_keeps h)) rfl rfl g1
      exact keptIte h5 (kept_State_lcAdvance (sub hm) h5)

theorem kept_execFuseLoadComplete {v0 : Option Fuses} {v1 : State} (hm : m &&& 257118178 = 0) (g1 : Kept m o v1) :
    ∀ s', (execFuseLoadComplete v0 v1) = .next s' → Kept m o s' := by
  unfold execFuseLoadComplete
  exact keptNext (kept_fuseLoad (sub hm) g1)

theorem kept_rungTimeout {v0 : Nat} {v1 : State} (hm : m &&& 152260578 = 0) (g1 : Kept m o v1) :
    Kept m o (rungTimeout v0 v1) := by
  unfold rungTimeout
  refine keptIte ?_ ?_
  · exact g1
  · split
    · exact kept_State_halt (sub hm) g1
    · exact kept_State_halt (sub hm) g1
    · exact kept_State_powerCycle (sub hm) (keptUpd hm (s := v1) (by constructor <;> first | exact .inl rfl | exact .inr rfl) rfl rfl rfl g1)
    · exact g1

theorem kept_execRungTimeout {v0 : Fin 4} {v1 : State} (hm : m &&& 152260578 = 0) (g1 : Kept m o v1) :
    ∀ s', (execRungTimeout v0 v1) = .next s' → Kept m o s' := by
  unfold execRungTimeout
  exact keptNext (kept_rungTimeout (sub hm) g1)

theorem kept_State_defaultCab {v0 : State} {v1 : List Byte} (hm : m &&& 469762038 = 0) (g0 : Kept m o v0) :
    Kept m o (State.defaultCab v0 v1) := by
  unfold State.defaultCab
  extract_lets +onlyGivenNames -merge -underBinder x0
  clear_value x0
  extract_lets +onlyGivenNames -merge -underBinder x1
  have h2 : Kept m o x1 := by
    unfold x1
    exact kept_State_cabCmd (sub hm) g0
  clear_value x1
  extract_lets +onlyGivenNames -merge -underBinder x3
  have h4 : Kept m o x3 := by
    unfold x3
    refine foldlKept ?_ ?_
    · intro a5 a6 a7
      exact kept_State_writeReg (sub hm) a7
    · exact h2
  clear_value x3
  exact kept_State_cabCmd (sub hm) h4

theorem kept_State_release {v0 : State} (hm : m &&& 469762038 = 0) (g0 : Kept m o v0) :
    Kept m o (State.release v0) := by
  unfold State.release
  extract_lets +onlyGivenNames -merge -underBinder x0
  have h1 : Kept m o x0 := by
    unfold x0
    exact keptIte (kept_State_setRfld (sub hm) g0) g0
  clear_value x0
  extract_lets +onlyGivenNames -merge -underBinder x2 x3 x4 x5 x6 x7
  clear_value x2 x3 x4 x5 x6 x7
  extract_lets +onlyGivenNames -merge -underBinder x8
  have h9 : Kept m o x8 := by
    unfold x8
    exact keptUpd hm (s := x0) (by constructor <;> first | exact .inl rfl | exact .inr rfl) rfl rfl rfl h1
  clear_value x8
  extract_lets +onlyGivenNames -merge -underBinder x10
  have h11 : Kept m o x10 := by
    unfold x10
    exact kept_State_drawBlockKey (sub hm) (kept_State_sendTray (sub hm) h9)
  clear_value x10
  refine foldlKept ?_ ?_
  · intro a12 a13 a14
    exact kept_State_startPort (sub hm) a14
  · refine foldlKept ?_ ?_
    · intro a15 a16 a17
      exact kept_State_defaultCab (sub hm) a17
    · exact h11

theorem kept_State_beginMemory {v0 : State} (hm : m &&& 469762038 = 0) (g0 : Kept m o v0) :
    Kept m o (State.beginMemory v0) := by
  unfold State.beginMemory
  extract_lets +onlyGivenNames -merge -underBinder x0
  clear_value x0
  extract_lets +onlyGivenNames -merge -underBinder x1
  have h2 : Kept m o x1 := by
    unfold x1
    exact keptUpd hm (s := v0) (by constructor <;> first | exact .inl rfl | exact .inr rfl) rfl rfl rfl g0
  exact keptIte (kept_State_release (sub hm) h2) h2

theorem kept_memInitDone {v0 : Nat} {v1 : State} (hm : m &&& 469762038 = 0) (g1 : Kept m o v1) :
    Kept m o (memInitDone v0 v1) := by
  unfold memInitDone
  refine keptIte ?_ ?_
  · extract_lets +onlyGivenNames -merge -underBinder x0 x1
    clear_value x0 x1
    extract_lets +onlyGivenNames -merge -underBinder x2
    have h3 : Kept m o x2 := by
      unfold x2
      exact keptUpd hm (s := v1) (by constructor <;> first | exact .inl rfl | exact .inr rfl) rfl rfl rfl g1
    clear_value x2
    exact keptIte (kept_State_release (sub hm) h3) h3
  · exact g1

theorem kept_execMemInitDone {v0 : GateId} {v1 : State} (hm : m &&& 469762038 = 0) (g1 : Kept m o v1) :
    ∀ s', (execMemInitDone v0 v1) = .next s' → Kept m o s' := by
  unfold execMemInitDone
  exact keptNext (kept_memInitDone (sub hm) g1)

theorem kept_execMemInitFail {v0 : GateId} {v1 : State} (hm : m &&& 152260578 = 0) (g1 : Kept m o v1) :
    ∀ s', (execMemInitFail v0 v1) = .next s' → Kept m o s' := by
  unfold execMemInitFail
  exact keptNext (keptIte (kept_State_halt (sub hm) g1) g1)

theorem kept_State_imageFail {v0 : State} {v1 : Nat} (hm : m &&& 469762038 = 0) (g0 : Kept m o v0) :
    Kept m o (State.imageFail v0 v1) := by
  unfold State.imageFail
  exact keptIte (kept_State_halt (sub hm) g0) (kept_State_beginMemory (sub hm) (keptUpd hm (s := v0) (by constructor <;> first | exact .inl rfl | exact .inr rfl) rfl rfl rfl g0))

theorem kept_State_imageUndo {v0 : State} {v1 : Image} {v2 : Nat} (hm : m &&& 469762038 = 0) (g0 : Kept m o v0) :
    Kept m o (State.imageUndo v0 v1 v2) := by
  unfold State.imageUndo
  exact kept_State_imageFail (sub hm) (kept_State_coreReset (sub hm) g0)

theorem kept_imageHeader {v0 : List Byte} {v1 : State} (hm : m &&& 469762038 = 0) (g1 : Kept m o v1) :
    Kept m o (imageHeader v0 v1) := by
  unfold imageHeader
  refine keptIte ?_ ?_
  · exact g1
  · split
    · exact kept_State_imageFail (sub hm) g1
    · extract_lets +onlyGivenNames -merge -underBinder x0
      clear_value x0
      exact keptUpd hm (s := v1) (by constructor <;> first | exact .inl rfl | exact .inr rfl) rfl rfl rfl g1

theorem kept_execImageHeader {v0 : List Byte} {v1 : State} (hm : m &&& 469762038 = 0) (g1 : Kept m o v1) :
    ∀ s', (execImageHeader v0 v1) = .next s' → Kept m o s' := by
  unfold execImageHeader
  exact keptNext (kept_imageHeader (sub hm) g1)

theorem kept_State_takeRecord {v0 : State} {v1 : Nat} {v2 : List Byte} {v3 : Image → List Byte → State → State} (hm : m &&& 469762038 = 0) (g0 : Kept m o v0) (g3 : ∀ a0 a1 a2, Kept m o a2 → Kept m o (v3 a0 a1 a2)) :
    Kept m o (State.takeRecord v0 v1 v2 v3) := by
  unfold State.takeRecord
  split
  · exact g0
  · exact keptIte g0 (keptIte (kept_State_imageUndo (sub hm) g0) (keptIte g0 (g3 _ _ _ g0)))

theorem kept_State_setImage {v0 : State} {v1 : Image} (hm : m &&& 16777216 = 0) (g0 : Kept m o v0) :
    Kept m o (State.setImage v0 v1) := by
  unfold State.setImage
  exact keptUpd hm (s := v0) (by constructor <;> first | exact .inl rfl | exact .inr rfl) rfl rfl rfl g0

theorem kept_regRecord {v0 : Image} {v1 : List Byte} {v2 : State} (hm : m &&& 469762038 = 0) (g2 : Kept m o v2) :
    Kept m o (regRecord v0 v1 v2) := by
  unfold regRecord
  extract_lets +onlyGivenNames -merge -underBinder x0 x1
  clear_value x0 x1
  refine keptIte ?_ ?_
  · exact kept_State_imageUndo (sub hm) g2
  · extract_lets +onlyGivenNames -merge -underBinder x2
    clear_value x2
    extract_lets +onlyGivenNames -merge -underBinder x3
    have h4 : Kept m o x3 := by
      unfold x3
      exact kept_State_writeReg (sub hm) (kept_State_setImage (sub hm) g2)
    clear_value x3
    exact keptIte h4 (kept_State_imageUndo (sub hm) h4)

theorem kept_execImageRegRecord {v0 : List Byte} {v1 : State} (hm : m &&& 469762038 = 0) (g1 : Kept m o v1) :
    ∀ s', (execImageRegRecord v0 v1) = .next s' → Kept m o s' := by
  unfold execImageRegRecord
  refine keptNext (kept_State_takeRecord (sub hm) ?_ ?_)
  · exact g1
  · intro a0 a1 a2 a3
    exact kept_regRecord (sub hm) a3

theorem kept_tableRecord {v0 : Image} {v1 : List Byte} {v2 : State} (hm : m &&& 469762038 = 0) (g2 : Kept m o v2) :
    Kept m o (tableRecord v0 v1 v2) := by
  unfold tableRecord
  extract_lets +onlyGivenNames -merge -underBinder x0
  clear_value x0
  refine keptIte ?_ ?_
  · exact kept_State_imageUndo (sub hm) g2
  · extract_lets +onlyGivenNames -merge -underBinder x1 x2 x3
    clear_value x1 x2 x3
    refine keptIte ?_ ?_
    · exact kept_State_setImage (sub hm) g2
    · extract_lets +onlyGivenNames -merge -underBinder x4
      clear_value x4
      extract_lets +onlyGivenNames -merge -underBinder x5
      have h6 : Kept m o x5 := by
        unfold x5
        exact kept_State_setSlot (sub hm) (kept_State_setImage (sub hm) g2)
      clear_value x5
      extract_lets +onlyGivenNames -merge -underBinder x7
      clear_value x7
      extract_lets +onlyGivenNames -merge -underBinder x8
      have h9 : Kept m o x8 := by
        unfold x8
        exact keptIte (keptUpd hm (s := x5) (by constructor <;> first | exact .inl rfl | exact .inr rfl) rfl rfl rfl h6) h6
      clear_value x8
      exact kept_State_deliverSlot (sub hm) h9

theorem kept_execImageTableRecord {v0 : List Byte} {v1 : State} (hm : m &&& 469762038 = 0) (g1 : Kept m o v1) :
    ∀ s', (execImageTableRecord v0 v1) = .next s' → Kept m o s' := by
  unfold execImageTableRecord
  refine keptNext (kept_State_takeRecord (sub hm) ?_ ?_)
  · exact g1
  · intro a0 a1 a2 a3
    exact kept_tableRecord (sub hm) a3

theorem kept_cabinetRecord {v0 : Image} {v1 : List Byte} {v2 : State} (hm : m &&& 469762038 = 0) (g2 : Kept m o v2) :
    Kept m o (cabinetRecord v0 v1 v2) := by
  unfold cabinetRecord
  exact keptIte (kept_State_imageUndo (sub hm) g2) (kept_State_setImage (sub hm) g2)

theorem kept_execImageCabinetRecord {v0 : List Byte} {v1 : State} (hm : m &&& 469762038 = 0) (g1 : Kept m o v1) :
    ∀ s', (execImageCabinetRecord v0 v1) = .next s' → Kept m o s' := by
  unfold execImageCabinetRecord
  refine keptNext (kept_State_takeRecord (sub hm) ?_ ?_)
  · exact g1
  · intro a0 a1 a2 a3
    exact kept_cabinetRecord (sub hm) a3

theorem kept_execImageTrimRecord {v0 : List Byte} {v1 : State} (hm : m &&& 469762038 = 0) (g1 : Kept m o v1) :
    ∀ s', (execImageTrimRecord v0 v1) = .next s' → Kept m o s' := by
  unfold execImageTrimRecord
  refine keptNext (kept_State_takeRecord (sub hm) ?_ ?_)
  · exact g1
  · intro a0 a1 a2 a3
    exact kept_State_setImage (sub hm) a3

theorem kept_endRecord {v0 : Image} {v1 : List Byte} {v2 : State} (hm : m &&& 469762038 = 0) (g2 : Kept m o v2) :
    Kept m o (endRecord v0 v1 v2) := by
  unfold endRecord
  refine keptIte ?_ ?_
  · exact kept_State_imageUndo (sub hm) g2
  · refine keptIte ?_ ?_
    · exact kept_State_imageUndo (sub hm) g2
    · extract_lets +onlyGivenNames -merge -underBinder x0 x1
      clear_value x0 x1
      exact kept_State_beginMemory (sub hm) (keptUpd hm (s := v2) (by constructor <;> first | exact .inl rfl | exact .inr rfl) rfl rfl rfl g2)

theorem kept_execImageEndRecord {v0 : List Byte} {v1 : State} (hm : m &&& 469762038 = 0) (g1 : Kept m o v1) :
    ∀ s', (execImageEndRecord v0 v1) = .next s' → Kept m o s' := by
  unfold execImageEndRecord
  refine keptNext (kept_State_takeRecord (sub hm) ?_ ?_)
  · exact g1
  · intro a0 a1 a2 a3
    exact kept_endRecord (sub hm) a3

theorem kept_State_flashFail {v0 : State} (hm : m &&& 469762038 = 0) (g0 : Kept m o v0) :
    Kept m o (State.flashFail v0) := by
  unfold State.flashFail
  split
  · exact kept_State_imageUndo (sub hm) g0
  · exact kept_State_imageFail (sub hm) g0

theorem kept_execImageFlashTimeout {v0 : Bool} {v1 : State} (hm : m &&& 469762038 = 0) (g1 : Kept m o v1) :
    ∀ s', (execImageFlashTimeout v0 v1) = .next s' → Kept m o s' := by
  unfold execImageFlashTimeout
  exact keptNext (keptIte (kept_State_flashFail (sub hm) g1) g1)

theorem kept_phaseTimeout {v0 : State} (hm : m &&& 469762038 = 0) (g0 : Kept m o v0) :
    Kept m o (phaseTimeout v0) := by
  unfold phaseTimeout
  extract_lets +onlyGivenNames -merge -underBinder x0
  clear_value x0
  split
  · exact keptIte (kept_State_halt (sub hm) g0) g0
  · exact keptIte (kept_State_flashFail (sub hm) g0) g0
  · exact keptIte (kept_State_halt (sub hm) g0) g0
  · exact g0

theorem kept_execStartPhaseTimeout {v0 : State} (hm : m &&& 469762038 = 0) (g0 : Kept m o v0) :
    ∀ s', (execStartPhaseTimeout v0) = .next s' → Kept m o s' := by
  unfold execStartPhaseTimeout
  exact keptNext (kept_phaseTimeout (sub hm) g0)

theorem kept_clockMeasure {v0 : Nat} {v1 : State} (hm : m &&& 32 = 0) (g1 : Kept m o v1) :
    Kept m o (clockMeasure v0 v1) := by
  unfold clockMeasure
  refine keptIte ?_ ?_
  · exact g1
  · extract_lets +onlyGivenNames -merge -underBinder x0
    have h1 : Kept m o x0 := by
      unfold x0
      exact kept_State_setRfld (sub hm) g1
    clear_value x0
    exact keptIte (kept_State_setRfld (sub hm) h1) h1

theorem kept_execClockMeasure {v0 : Fin 4096} {v1 : State} (hm : m &&& 32 = 0) (g1 : Kept m o v1) :
    ∀ s', (execClockMeasure v0 v1) = .next s' → Kept m o s' := by
  unfold execClockMeasure
  exact keptNext (kept_clockMeasure (sub hm) g1)

theorem kept_execI3cEntdaa {v0 : Fin 128} {v1 : State} (hm : m &&& 16777216 = 0) (g1 : Kept m o v1) :
    ∀ s', (execI3cEntdaa v0 v1) = .next s' → Kept m o s' := by
  unfold execI3cEntdaa
  refine keptNext ?_
  split
  · exact g1
  · exact g1
  · exact keptIte g1 (keptUpd hm (s := v1) (by constructor <;> first | exact .inl rfl | exact .inr rfl) rfl rfl rfl g1)

theorem kept_State_trayRequest {v0 : State} {v1 : Nat} {v2 : Nat} {v3 : List Byte} {v4 : State → State} (hm : m &&& 2 = 0) (g0 : Kept m o v0) (g4 : ∀ a0, Kept m o a0 → Kept m o (v4 a0)) :
    Kept m o (State.trayRequest v0 v1 v2 v3 v4) := by
  unfold State.trayRequest
  exact keptIte g0 (keptIte (kept_State_emit (sub hm) g0) (keptIte (kept_State_emit (sub hm) g0) (keptIte (kept_State_emit (sub hm) g0) (g4 _ g0))))

theorem kept_State_trayAnswer {v0 : State} {v1 : Nat} {v2 : List Byte} (hm : m &&& 2 = 0) (g0 : Kept m o v0) :
    Kept m o (State.trayAnswer v0 v1 v2) := by
  unfold State.trayAnswer
  exact kept_State_emit (sub hm) g0

theorem kept_execGetInfo {v0 : List Byte} {v1 : State} (hm : m &&& 2 = 0) (g1 : Kept m o v1) :
    ∀ s', (execGetInfo v0 v1) = .next s' → Kept m o s' := by
  unfold execGetInfo
  refine keptNext (kept_State_trayRequest (sub hm) ?_ ?_)
  · exact g1
  · intro a0 a1
    exact kept_State_trayAnswer (sub hm) a1

theorem kept_execGetTime {v0 : List Byte} {v1 : State} (hm : m &&& 2 = 0) (g1 : Kept m o v1) :
    ∀ s', (execGetTime v0 v1) = .next s' → Kept m o s' := by
  unfold execGetTime
  refine keptNext (kept_State_trayRequest (sub hm) ?_ ?_)
  · exact g1
  · intro a0 a1
    exact kept_State_trayAnswer (sub hm) a1

theorem kept_execGetPower {v0 : List Byte} {v1 : State} (hm : m &&& 2 = 0) (g1 : Kept m o v1) :
    ∀ s', (execGetPower v0 v1) = .next s' → Kept m o s' := by
  unfold execGetPower
  refine keptNext (kept_State_trayRequest (sub hm) ?_ ?_)
  · exact g1
  · intro a0 a1
    exact kept_State_trayAnswer (sub hm) a1

theorem kept_execGetSensors {v0 : List Byte} {v1 : State} (hm : m &&& 2 = 0) (g1 : Kept m o v1) :
    ∀ s', (execGetSensors v0 v1) = .next s' → Kept m o s' := by
  unfold execGetSensors
  refine keptNext (kept_State_trayRequest (sub hm) ?_ ?_)
  · exact g1
  · intro a0 a1
    exact kept_State_trayAnswer (sub hm) a1

theorem kept_setRun {v0 : State} (hm : m &&& 152260578 = 0) (g0 : Kept m o v0) :
    Kept m o (setRun v0) := by
  unfold setRun
  extract_lets +onlyGivenNames -merge -underBinder x0
  have h1 : Kept m o x0 := by
    unfold x0
    exact kept_State_wakeBlock (sub hm) g0
  clear_value x0
  exact keptIte (kept_State_trayAnswer (sub hm) h1) (keptUpd hm (s := x0) (by constructor <;> first | exact .inl rfl | exact .inr rfl) rfl rfl rfl h1)

theorem kept_setDeep {v0 : Nat} {v1 : State} (hm : m &&& 159121394 = 0) (g1 : Kept m o v1) :
    Kept m o (setDeep v0 v1) := by
  unfold setDeep
  exact keptIte (kept_State_trayAnswer (sub hm) g1) (keptIte (kept_State_trayAnswer (sub hm) g1) (kept_State_startEntry (sub hm) (keptUpd hm (s := v1) (by constructor <;> first | exact .inl rfl | exact .inr rfl) rfl rfl rfl g1)))

theorem kept_setPower {v0 : List Byte} {v1 : State} (hm : m &&& 159121394 = 0) (g1 : Kept m o v1) :
    Kept m o (setPower v0 v1) := by
  unfold setPower
  extract_lets +onlyGivenNames -merge -underBinder x0
  clear_value x0
  exact keptIte (kept_State_emit (sub hm) g1) (keptIte (kept_State_trayAnswer (sub hm) g1) (keptIte (kept_setRun (sub hm) g1) (kept_setDeep (sub hm) g1)))

theorem kept_execSetPower {v0 : List Byte} {v1 : State} (hm : m &&& 159121394 = 0) (g1 : Kept m o v1) :
    ∀ s', (execSetPower v0 v1) = .next s' → Kept m o s' := by
  unfold execSetPower
  refine keptNext (kept_State_trayRequest (sub hm) ?_ ?_)
  · exact g1
  · intro a0 a1
    exact kept_setPower (sub hm) a1

theorem kept_execMctpUnsupportedCommand {v0 : Byte} {v1 : State} (hm : m &&& 2 = 0) (g1 : Kept m o v1) :
    ∀ s', (execMctpUnsupportedCommand v0 v1) = .next s' → Kept m o s' := by
  unfold execMctpUnsupportedCommand
  refine keptNext ?_
  extract_lets +onlyGivenNames -merge -underBinder x0
  clear_value x0
  exact keptIte g1 (keptIte (kept_State_emit (sub hm) g1) g1)

theorem kept_execTcAcknowledge {v0 : Byte} {v1 : State} (hm : m &&& 16777216 = 0) (g1 : Kept m o v1) :
    ∀ s', (execTcAcknowledge v0 v1) = .next s' → Kept m o s' := by
  unfold execTcAcknowledge
  exact keptNext (keptIte (keptUpd hm (s := v1) (by constructor <;> first | exact .inl rfl | exact .inr rfl) rfl rfl rfl g1) g1)

theorem kept_repeatMsgs {v0 : List TrayMsg} {v1 : State} (hm : m &&& 16777218 = 0) (g1 : Kept m o v1) :
    Kept m o (repeatMsgs v0 v1) := by
  induction v0 generalizing v1
  · unfold repeatMsgs
    exact g1
  · rename_i ih
    unfold repeatMsgs
    extract_lets +onlyGivenNames -merge -underBinder x0 x1 x2
    clear_value x0 x1 x2
    extract_lets +onlyGivenNames -merge -underBinder x3
    have h4 : Kept m o x3 := by
      unfold x3
      exact keptUpd hm (s := v1) (by constructor <;> first | exact .inl rfl | exact .inr rfl) rfl rfl rfl g1
    clear_value x3
    apply ih
    exact keptIte (kept_State_emit (sub hm) h4) h4

theorem kept_execMctpRepeatTimer {v0 : State} (hm : m &&& 16777218 = 0) (g0 : Kept m o v0) :
    ∀ s', (execMctpRepeatTimer v0) = .next s' → Kept m o s' := by
  unfold execMctpRepeatTimer
  exact keptNext (keptIte g0 (kept_repeatMsgs (sub hm) (keptUpd hm (s := v0) (by constructor <;> first | exact .inl rfl | exact .inr rfl) rfl rfl rfl g0)))

theorem kept_execMctpLcGet {v0 : List Byte} {v1 : State} (hm : m &&& 2 = 0) (g1 : Kept m o v1) :
    ∀ s', (execMctpLcGet v0 v1) = .next s' → Kept m o s' := by
  unfold execMctpLcGet
  refine keptNext (kept_State_trayRequest (sub hm) ?_ ?_)
  · exact g1
  · intro a0 a1
    exact kept_State_trayAnswer (sub hm) a1

theorem kept_execMctpLcChallenge {v0 : List Byte} {v1 : State} (hm : m &&& 50331698 = 0) (g1 : Kept m o v1) :
    ∀ s', (execMctpLcChallenge v0 v1) = .next s' → Kept m o s' := by
  unfold execMctpLcChallenge
  refine keptNext (kept_State_trayRequest (sub hm) ?_ ?_)
  · exact g1
  · intro a0 a1
    exact kept_State_askChallenge (sub hm) a1

theorem kept_execMctpLcToken {v0 : List Byte} {v1 : State} (hm : m &&& 469499746 = 0) (g1 : Kept m o v1) :
    ∀ s', (execMctpLcToken v0 v1) = .next s' → Kept m o s' := by
  unfold execMctpLcToken
  refine keptNext (kept_State_trayRequest (sub hm) ?_ ?_)
  · exact g1
  · intro a0 a1
    refine kept_State_submit (sub hm) ?_ ?_
    · exact a1
    · intro a2 a3 a4
      exact kept_State_trayAnswer (sub hm) a4

theorem kept_mctpTransition {v0 : Nat} {v1 : State} (hm : m &&& 469499746 = 0) (g1 : Kept m o v1) :
    Kept m o (mctpTransition v0 v1) := by
  unfold mctpTransition
  split
  · exact kept_State_lcTransit (sub hm) (kept_State_trayAnswer (sub hm) g1)
  · exact kept_State_trayAnswer (sub hm) g1
  · exact kept_State_trayAnswer (sub hm) g1
  · exact kept_State_trayAnswer (sub hm) g1

theorem kept_execMctpLcTransition {v0 : List Byte} {v1 : State} (hm : m &&& 469499746 = 0) (g1 : Kept m o v1) :
    ∀ s', (execMctpLcTransition v0 v1) = .next s' → Kept m o s' := by
  unfold execMctpLcTransition
  refine keptNext (kept_State_trayRequest (sub hm) ?_ ?_)
  · exact g1
  · intro a0 a1
    exact kept_mctpTransition (sub hm) a1

end Sys2Proof.Machine
end

