-- ==== Sys2Proof/Laws/KeptDebug.lean ====
section
/-! SUPPORT. For each operation of Machine/Debug.lean, and for each command meaning there: the fields of State it
    never changes (the bits not set in its mask), and that it keeps what Laws/Kept.lean names. -/

namespace Sys2Proof.Machine
set_option Elab.async false
variable {m : Nat} {o : State}

theorem kept_State_tapBypass {v0 : State} (hm : m &&& 2 = 0) (g0 : Kept m o v0) :
    Kept m o (State.tapBypass v0) := by
  unfold State.tapBypass
  exact kept_State_emit (sub hm) g0

theorem kept_State_tapAt {v0 : State} {v1 : Nat} {v2 : State → State} (hm : m &&& 2 = 0) (g0 : Kept m o v0) (g2 : ∀ a0, Kept m o a0 → Kept m o (v2 a0)) :
    Kept m o (State.tapAt v0 v1 v2) := by
  unfold State.tapAt
  refine keptIte ?_ ?_
  · exact g0
  · split
    · exact keptIte (g2 _ g0) (kept_State_tapBypass (sub hm) g0)
    · exact kept_State_tapBypass (sub hm) g0

theorem kept_execTapBypass {v0 : State} (hm : m &&& 2 = 0) (g0 : Kept m o v0) :
    ∀ s', (execTapBypass v0) = .next s' → Kept m o s' := by
  unfold execTapBypass
  exact keptNext (keptIte (kept_State_tapBypass (sub hm) g0) g0)

theorem kept_execTapIdcode {v0 : State} (hm : m &&& 2 = 0) (g0 : Kept m o v0) :
    ∀ s', (execTapIdcode v0) = .next s' → Kept m o s' := by
  unfold execTapIdcode
  exact keptNext (keptIte (kept_State_emit (sub hm) g0) g0)

theorem kept_execTapLcStatus {v0 : State} (hm : m &&& 2 = 0) (g0 : Kept m o v0) :
    ∀ s', (execTapLcStatus v0) = .next s' → Kept m o s' := by
  unfold execTapLcStatus
  refine keptNext (kept_State_tapAt (sub hm) ?_ ?_)
  · exact g0
  · intro a0 a1
    exact kept_State_emit (sub hm) a1

theorem kept_execTapLcChallenge {v0 : State} (hm : m &&& 50331698 = 0) (g0 : Kept m o v0) :
    ∀ s', (execTapLcChallenge v0) = .next s' → Kept m o s' := by
  unfold execTapLcChallenge
  refine keptNext (kept_State_tapAt (sub hm) ?_ ?_)
  · exact g0
  · intro a0 a1
    exact kept_State_askChallenge (sub hm) (kept_State_emit (sub hm) a1)

theorem kept_execTapLcToken {v0 : List Byte} {v1 : State} (hm : m &&& 469499746 = 0) (g1 : Kept m o v1) :
    ∀ s', (execTapLcToken v0 v1) = .next s' → Kept m o s' := by
  unfold execTapLcToken
  refine keptNext (kept_State_tapAt (sub hm) ?_ ?_)
  · exact g1
  · intro a0 a1
    refine kept_State_submit (sub hm) ?_ ?_
    · exact a1
    · intro a2 a3 a4
      exact kept_State_emit (sub hm) a4

theorem kept_tapTransition {v0 : Nat} {v1 : State} (hm : m &&& 469499746 = 0) (g1 : Kept m o v1) :
    Kept m o (tapTransition v0 v1) := by
  unfold tapTransition
  extract_lets +onlyGivenNames -merge -underBinder x0
  have h1 : Kept m o x0 := by
    unfold x0
    exact kept_State_emit (sub hm) g1
  clear_value x0
  split
  · exact kept_State_lcTransit (sub hm) (keptUpd hm (s := x0) (by constructor <;> first | exact .inl rfl | exact .inr rfl) rfl rfl rfl h1)
  · exact keptUpd hm (s := x0) (by constructor <;> first | exact .inl rfl | exact .inr rfl) rfl rfl rfl h1
  · exact keptUpd hm (s := x0) (by constructor <;> first | exact .inl rfl | exact .inr rfl) rfl rfl rfl h1
  · exact keptUpd hm (s := x0) (by constructor <;> first | exact .inl rfl | exact .inr rfl) rfl rfl rfl h1

theorem kept_execTapLcTransition {v0 : Byte} {v1 : State} (hm : m &&& 469499746 = 0) (g1 : Kept m o v1) :
    ∀ s', (execTapLcTransition v0 v1) = .next s' → Kept m o s' := by
  unfold execTapLcTransition
  refine keptNext (kept_State_tapAt (sub hm) ?_ ?_)
  · exact g1
  · intro a0 a1
    exact kept_tapTransition (sub hm) a1

theorem kept_tapReg {v0 : Word} {v1 : Nat} {v2 : Bool} {v3 : State} (hm : m &&& 469762038 = 0) (g3 : Kept m o v3) :
    Kept m o (tapReg v0 v1 v2 v3) := by
  unfold tapReg
  exact keptIte (kept_State_emit (sub hm) g3) (keptIte (kept_State_emit (sub hm) g3) (kept_tapAccess (sub hm) (kept_State_wakeFor (sub hm) g3)))

theorem kept_execTapDbgReg {v0 : Word} {v1 : Fin 16777216} {v2 : Bool} {v3 : State} (hm : m &&& 469762038 = 0) (g3 : Kept m o v3) :
    ∀ s', (execTapDbgReg v0 v1 v2 v3) = .next s' → Kept m o s' := by
  unfold execTapDbgReg
  refine keptNext (kept_State_tapAt (sub hm) ?_ ?_)
  · exact g3
  · intro a0 a1
    exact kept_tapReg (sub hm) a1

theorem kept_tapMem {v0 : Word} {v1 : Nat} {v2 : Bool} {v3 : State} (hm : m &&& 152264690 = 0) (g3 : Kept m o v3) :
    Kept m o (tapMem v0 v1 v2 v3) := by
  unfold tapMem
  extract_lets +onlyGivenNames -merge -underBinder x0
  clear_value x0
  refine keptIte ?_ ?_
  · exact kept_State_emit (sub hm) g3
  · refine keptIte ?_ ?_
    · exact kept_State_emit (sub hm) g3
    · refine keptIte ?_ ?_
      · split
        · rename_i y1 y2
          exact kept_State_emit (sub hm) (keptPair2 y2 (kept_State_devWrite (sub hm) (kept_State_wakeBlock (sub hm) g3)))
        · rename_i y3 y4
          exact kept_State_emit (sub hm) (keptPair2 y4 (kept_State_devWrite (sub hm) (kept_State_wakeBlock (sub hm) g3)))
      · split
        · rename_i y5 y6
          exact kept_State_emit (sub hm) (keptPair2 y6 (kept_State_devRead (sub hm) (kept_State_wakeBlock (sub hm) g3)))
        · rename_i y7 y8
          exact kept_State_emit (sub hm) (keptPair2 y8 (kept_State_devRead (sub hm) (kept_State_wakeBlock (sub hm) g3)))

theorem kept_execTapDbgMem {v0 : Word} {v1 : Fin 17592186044416} {v2 : Bool} {v3 : State} (hm : m &&& 152264690 = 0) (g3 : Kept m o v3) :
    ∀ s', (execTapDbgMem v0 v1 v2 v3) = .next s' → Kept m o s' := by
  unfold execTapDbgMem
  refine keptNext (kept_State_tapAt (sub hm) ?_ ?_)
  · exact g3
  · intro a0 a1
    exact kept_tapMem (sub hm) a1

theorem kept_execTapPrivate {v0 : Fin 16} {v1 : State} (hm : m &&& 2 = 0) (g1 : Kept m o v1) :
    ∀ s', (execTapPrivate v0 v1) = .next s' → Kept m o s' := by
  unfold execTapPrivate
  exact keptNextIte keptRefused (keptNext (keptIte (kept_State_tapBypass (sub hm) g1) g1))

end Sys2Proof.Machine
end

