-- ==== Sys2Proof/Laws/KeptDumps.lean ====
section
/-! SUPPORT. For each operation of Machine/Dumps.lean, and for each command meaning there: the fields of State it
    never changes (the bits not set in its mask), and that it keeps what Laws/Kept.lean names. -/

namespace Sys2Proof.Machine
set_option Elab.async false
variable {m : Nat} {o : State}

theorem kept_State_dumpEnded {v0 : State} {v1 : Dump} (hm : m &&& 469499746 = 0) (g0 : Kept m o v0) :
    Kept m o (State.dumpEnded v0 v1) := by
  unfold State.dumpEnded
  extract_lets +onlyGivenNames -merge -underBinder x0
  clear_value x0
  extract_lets +onlyGivenNames -merge -underBinder x1
  have h2 : Kept m o x1 := by
    unfold x1
    exact kept_State_endRst (sub hm) (keptUpd hm (s := v0) (by constructor <;> first | exact .inl rfl | exact .inr rfl) rfl rfl rfl g0)
  clear_value x1
  extract_lets +onlyGivenNames -merge -underBinder x3
  have h4 : Kept m o x3 := by
    unfold x3
    split
    · exact kept_State_takeReset (sub hm) h2
    · exact h2
  clear_value x3
  exact kept_State_lcAfterDump (sub hm) h4

theorem kept_dumpReadTimeout {v0 : Nat} {v1 : Nat} {v2 : State} (hm : m &&& 65536 = 0) (g2 : Kept m o v2) :
    Kept m o (dumpReadTimeout v0 v1 v2) := by
  unfold dumpReadTimeout
  split
  · exact keptIte (keptUpd hm (s := v2) (by constructor <;> first | exact .inl rfl | exact .inr rfl) rfl rfl rfl g2) g2
  · exact g2

theorem kept_execDumpReadTimeout {v0 : UnitId} {v1 : Fin 16777216} {v2 : State} (hm : m &&& 65536 = 0) (g2 : Kept m o v2) :
    ∀ s', (execDumpReadTimeout v0 v1 v2) = .next s' → Kept m o s' := by
  unfold execDumpReadTimeout
  refine keptNext (kept_State_work (sub hm) ?_ ?_)
  · exact g2
  · intro a0 a1
    exact kept_dumpReadTimeout (sub hm) a1

theorem kept_State_endHeader {v0 : State} {v1 : Dump} {v2 : Nat} {v3 : Nat} {v4 : Nat} (hm : m &&& 134438896 = 0) (g0 : Kept m o v0) :
    Kept m o (State.endHeader v0 v1 v2 v3 v4) := by
  unfold State.endHeader
  exact kept_State_setRfld (sub hm) (kept_State_chestWrite (sub hm) g0)

theorem kept_dumpComplete {v0 : State} (hm : m &&& 469499890 = 0) (g0 : Kept m o v0) :
    Kept m o (dumpComplete v0) := by
  unfold dumpComplete
  split
  · exact g0
  · extract_lets +onlyGivenNames -merge -underBinder x0 x1 x2 x3 x4 x5
    clear_value x0 x1 x2 x3 x4 x5
    extract_lets +onlyGivenNames -merge -underBinder x6
    have h7 : Kept m o x6 := by
      unfold x6
      exact kept_State_chestWrite (sub hm) (keptUpd hm (s := v0) (by constructor <;> first | exact .inl rfl | exact .inr rfl) rfl rfl rfl g0)
    clear_value x6
    exact kept_State_dumpEnded (sub hm) (kept_State_endHeader (sub hm) h7)

theorem kept_execDumpComplete {v0 : State} (hm : m &&& 469499890 = 0) (g0 : Kept m o v0) :
    ∀ s', (execDumpComplete v0) = .next s' → Kept m o s' := by
  unfold execDumpComplete
  refine keptNext (kept_State_work (sub hm) ?_ ?_)
  · exact g0
  · intro a0 a1
    exact kept_dumpComplete (sub hm) a1

theorem kept_dumpExpiry {v0 : State} (hm : m &&& 469499890 = 0) (g0 : Kept m o v0) :
    Kept m o (dumpExpiry v0) := by
  unfold dumpExpiry
  split
  · exact g0
  · exact keptIte (kept_State_dumpEnded (sub hm) (kept_State_endHeader (sub hm) g0)) g0

theorem kept_execDumpLimitExpiry {v0 : State} (hm : m &&& 469499890 = 0) (g0 : Kept m o v0) :
    ∀ s', (execDumpLimitExpiry v0) = .next s' → Kept m o s' := by
  unfold execDumpLimitExpiry
  exact keptNext (keptIte (kept_dumpExpiry (sub hm) g0) g0)

theorem kept_State_writeStop {v0 : State} (hm : m &&& 136536050 = 0) (g0 : Kept m o v0) :
    Kept m o (State.writeStop v0) := by
  unfold State.writeStop
  extract_lets +onlyGivenNames -merge -underBinder x0 x1 x2 x3 x4 x5 x6 x7 x8 x9 x10 x11
  clear_value x0 x1 x2 x3 x4 x5 x6 x7 x8 x9 x10 x11
  extract_lets +onlyGivenNames -merge -underBinder x12
  have h13 : Kept m o x12 := by
    unfold x12
    exact keptUpd hm (s := v0) (by constructor <;> first | exact .inl rfl | exact .inr rfl) rfl rfl rfl g0
  clear_value x12
  refine keptIte ?_ ?_
  · extract_lets +onlyGivenNames -merge -underBinder x14
    have h15 : Kept m o x14 := by
      unfold x14
      exact kept_State_devWrite (sub hm) h13
    clear_value x14
    extract_lets +onlyGivenNames -merge -underBinder x16
    have h17 : Kept m o x16 := by
      unfold x16
      exact kept_State_devWrite (sub hm) h15
    clear_value x16
    exact kept_State_devWrite (sub hm) h17
  · exact h13

theorem kept_stopCapture {v0 : State} (hm : m &&& 435945458 = 0) (g0 : Kept m o v0) :
    Kept m o (stopCapture v0) := by
  unfold stopCapture
  split
  · refine keptIte ?_ ?_
    · extract_lets +onlyGivenNames -merge -underBinder x0
      have h1 : Kept m o x0 := by
        unfold x0
        exact kept_State_writeStop (sub hm) g0
      clear_value x0
      extract_lets +onlyGivenNames -merge -underBinder x2
      clear_value x2
      extract_lets +onlyGivenNames -merge -underBinder x3
      have h4 : Kept m o x3 := by
        unfold x3
        exact kept_State_traceStop (sub hm) (keptUpd hm (s := x0) (by constructor <;> first | exact .inl rfl | exact .inr rfl) rfl rfl rfl h1)
      clear_value x3
      exact keptIte (kept_State_stopResume (sub hm) h4) h4
    · exact g0
  · exact g0

theorem kept_execStopCaptureComplete {v0 : State} (hm : m &&& 435945458 = 0) (g0 : Kept m o v0) :
    ∀ s', (execStopCaptureComplete v0) = .next s' → Kept m o s' := by
  unfold execStopCaptureComplete
  exact keptNext (keptIte (kept_stopCapture (sub hm) g0) g0)

end Sys2Proof.Machine
end

