-- ==== Sys2Proof/Laws/KeptTilePorts.lean ====
section
/-! SUPPORT. For each operation of Machine/TilePorts.lean, and for each command meaning there: the fields of State it
    never changes (the bits not set in its mask), and that it keeps what Laws/Kept.lean names. -/

namespace Sys2Proof.Machine
set_option Elab.async false
variable {m : Nat} {o : State}

theorem kept_State_tileBreaks {v0 : State} {v1 : Nat} (hm : m &&& 435945458 = 0) (g0 : Kept m o v0) :
    Kept m o (State.tileBreaks v0 v1) := by
  unfold State.tileBreaks
  exact kept_State_faultOn (sub hm) g0

theorem kept_State_atTile {v0 : State} {v1 : Nat} {v2 : State → State} (hm : m &&& 0 = 0) (g0 : Kept m o v0) (g2 : ∀ a0, Kept m o a0 → Kept m o (v2 a0)) :
    Kept m o (State.atTile v0 v1 v2) := by
  unfold State.atTile
  exact keptIte (g2 _ g0) g0

theorem kept_State_endRun {v0 : State} {v1 : Cmd} (hm : m &&& 6305314 = 0) (g0 : Kept m o v0) :
    Kept m o (State.endRun v0 v1) := by
  unfold State.endRun
  extract_lets +onlyGivenNames -merge -underBinder x0
  clear_value x0
  extract_lets +onlyGivenNames -merge -underBinder x1
  have h2 : Kept m o x1 := by
    unfold x1
    exact kept_State_freeTiles (sub hm) g0
  clear_value x1
  extract_lets +onlyGivenNames -merge -underBinder x3
  have h4 : Kept m o x3 := by
    unfold x3
    split
    · exact kept_State_endCmd (sub hm) (kept_State_discardShadows (sub hm) h2)
    · exact keptIte (kept_State_endCmd (sub hm) h2) (kept_State_dropReqsOf (sub hm) (kept_State_updCmd (sub hm) h2))
  clear_value x3
  extract_lets +onlyGivenNames -merge -underBinder x5
  clear_value x5
  extract_lets +onlyGivenNames -merge -underBinder x6
  have h7 : Kept m o x6 := by
    unfold x6
    exact keptIte (kept_State_setCtx (sub hm) h4) h4
  clear_value x6
  exact kept_State_noteActivity (sub hm) h7

theorem kept_tileDone {v0 : Nat} {v1 : Nat} {v2 : State} (hm : m &&& 435945458 = 0) (g2 : Kept m o v2) :
    Kept m o (tileDone v0 v1 v2) := by
  unfold tileDone
  refine keptIte ?_ ?_
  · exact g2
  · split
    · exact kept_State_tileBreaks (sub hm) g2
    · refine keptIte ?_ ?_
      · exact kept_State_tileBreaks (sub hm) g2
      · refine keptIte ?_ ?_
        · exact kept_State_tileBreaks (sub hm) g2
        · extract_lets +onlyGivenNames -merge -underBinder x0 x1
          clear_value x0 x1
          extract_lets +onlyGivenNames -merge -underBinder x2
          have h3 : Kept m o x2 := by
            unfold x2
            exact kept_State_setTile (sub hm) (kept_State_updCmd (sub hm) g2)
          clear_value x2
          exact keptIte (kept_State_endRun (sub hm) h3) h3

theorem kept_execTileDone {v0 : TileId} {v1 : Fin 256} {v2 : State} (hm : m &&& 435945458 = 0) (g2 : Kept m o v2) :
    ∀ s', (execTileDone v0 v1 v2) = .next s' → Kept m o s' := by
  unfold execTileDone
  refine keptNext (kept_State_atTile (sub hm) ?_ ?_)
  · exact g2
  · intro a0 a1
    exact kept_tileDone (sub hm) a1

theorem kept_killAcked {v0 : Nat} {v1 : State} (hm : m &&& 435945458 = 0) (g1 : Kept m o v1) :
    Kept m o (killAcked v0 v1) := by
  unfold killAcked
  exact keptIte (kept_State_ackKill (sub hm) g1) (kept_State_tileBreaks (sub hm) g1)

theorem kept_execKillAck {v0 : TileId} {v1 : State} (hm : m &&& 435945458 = 0) (g1 : Kept m o v1) :
    ∀ s', (execKillAck v0 v1) = .next s' → Kept m o s' := by
  unfold execKillAck
  refine keptNext (kept_State_atTile (sub hm) ?_ ?_)
  · exact g1
  · intro a0 a1
    exact kept_killAcked (sub hm) a1

theorem kept_killLate {v0 : Nat} {v1 : State} (hm : m &&& 435945458 = 0) (g1 : Kept m o v1) :
    Kept m o (killLate v0 v1) := by
  unfold killLate
  extract_lets +onlyGivenNames -merge -underBinder x0
  clear_value x0
  exact keptIte (kept_State_faultOn (sub hm) (kept_State_bump (sub hm) g1)) g1

theorem kept_execKillAckLate {v0 : TileId} {v1 : State} (hm : m &&& 435945458 = 0) (g1 : Kept m o v1) :
    ∀ s', (execKillAckLate v0 v1) = .next s' → Kept m o s' := by
  unfold execKillAckLate
  refine keptNext (kept_State_atTile (sub hm) ?_ ?_)
  · exact g1
  · intro a0 a1
    exact kept_killLate (sub hm) a1

theorem kept_execTileProgress {v0 : TileId} {v1 : State} (hm : m &&& 8192 = 0) (g1 : Kept m o v1) :
    ∀ s', (execTileProgress v0 v1) = .next s' → Kept m o s' := by
  unfold execTileProgress
  refine keptNext (kept_State_atTile (sub hm) ?_ ?_)
  · exact g1
  · intro a0 a1
    exact kept_State_setTile (sub hm) a1

theorem kept_execTileFatal {v0 : TileId} {v1 : State} (hm : m &&& 435945458 = 0) (g1 : Kept m o v1) :
    ∀ s', (execTileFatal v0 v1) = .next s' → Kept m o s' := by
  unfold execTileFatal
  exact keptNext (keptIte (kept_State_faultOn (sub hm) g1) g1)

theorem kept_State_clearedFor {v0 : State} {v1 : Nat} (hm : m &&& 8194 = 0) (g0 : Kept m o v0) :
    Kept m o (State.clearedFor v0 v1) := by
  unfold State.clearedFor
  split
  · split
    · split
      · extract_lets +onlyGivenNames -merge -underBinder x0
        clear_value x0
        exact keptIte (kept_State_startRun (sub hm) g0) (kept_State_updCmd (sub hm) g0)
      · exact g0
    · exact g0
  · exact g0

theorem kept_clearAcked {v0 : Nat} {v1 : State} (hm : m &&& 435945458 = 0) (g1 : Kept m o v1) :
    Kept m o (clearAcked v0 v1) := by
  unfold clearAcked
  extract_lets +onlyGivenNames -merge -underBinder x0
  clear_value x0
  exact keptIte (kept_State_tileLeft (sub hm) (kept_State_clearedFor (sub hm) (kept_State_setTile (sub hm) g1))) (kept_State_tileBreaks (sub hm) g1)

theorem kept_execTileClearAck {v0 : TileId} {v1 : State} (hm : m &&& 435945458 = 0) (g1 : Kept m o v1) :
    ∀ s', (execTileClearAck v0 v1) = .next s' → Kept m o s' := by
  unfold execTileClearAck
  refine keptNext (kept_State_atTile (sub hm) ?_ ?_)
  · exact g1
  · intro a0 a1
    exact kept_clearAcked (sub hm) a1

theorem kept_State_tileAsks {v0 : State} {v1 : Cmd} {v2 : Nat} {v3 : Nat} {v4 : Nat} {v5 : Nat} {v6 : Bool} {v7 : List Bool} {v8 : List Byte} (hm : m &&& 140738546 = 0) (g0 : Kept m o v0) :
    Kept m o (State.tileAsks v0 v1 v2 v3 v4 v5 v6 v7 v8) := by
  unfold State.tileAsks
  extract_lets +onlyGivenNames -merge -underBinder x0
  clear_value x0
  exact kept_retryTile (sub hm) (kept_State_addReq (sub hm) g0)

theorem kept_State_noTag {v0 : State} {v1 : Cmd} (hm : m &&& 8192 = 0) (g0 : Kept m o v0) :
    Kept m o (State.noTag v0 v1) := by
  unfold State.noTag
  exact kept_State_noteErr (sub hm) g0

theorem kept_State_tileReadsFar {v0 : State} {v1 : Cmd} {v2 : Nat} {v3 : Nat} {v4 : Nat} {v5 : Nat} {v6 : Nat} (hm : m &&& 4203042 = 0) (g0 : Kept m o v0) :
    Kept m o (State.tileReadsFar v0 v1 v2 v3 v4 v5 v6) := by
  unfold State.tileReadsFar
  refine keptIte ?_ ?_
  · extract_lets +onlyGivenNames -merge -underBinder x0
    have h1 : Kept m o x0.2 := by
      unfold x0
      exact kept_State_remote (sub hm) g0
    clear_value x0
    exact kept_State_inject (sub hm) h1
  · exact kept_State_emit (sub hm) (kept_State_noTag (sub hm) g0)

theorem kept_sendRuns {v0 : Cmd} {v1 : Nat} {v2 : Nat} {v3 : Nat} {v4 : Nat} {v5 : List (Nat × List Byte)} {v6 : State} (hm : m &&& 4194850 = 0) (g6 : Kept m o v6) :
    Kept m o (sendRuns v0 v1 v2 v3 v4 v5 v6) := by
  induction v5 generalizing v0 v1 v2 v3 v4 v6
  · unfold sendRuns
    exact g6
  · rename_i ih
    unfold sendRuns
    extract_lets +onlyGivenNames -merge -underBinder x0
    have h1 : Kept m o x0.2 := by
      unfold x0
      exact kept_State_remote (sub hm) g6
    clear_value x0
    apply ih
    exact kept_State_inject (sub hm) h1

theorem kept_State_tileWritesFar {v0 : State} {v1 : Cmd} {v2 : Nat} {v3 : Nat} {v4 : Nat} {v5 : Nat} {v6 : List Bool} {v7 : List Byte} (hm : m &&& 4203042 = 0) (g0 : Kept m o v0) :
    Kept m o (State.tileWritesFar v0 v1 v2 v3 v4 v5 v6 v7) := by
  unfold State.tileWritesFar
  refine keptIte ?_ ?_
  · split
    · exact kept_State_emit (sub hm) g0
    · exact kept_sendRuns (sub hm) g0
  · exact kept_State_emit (sub hm) (kept_State_noTag (sub hm) g0)

theorem kept_State_asked {v0 : State} {v1 : Cmd} (hm : m &&& 8192 = 0) (g0 : Kept m o v0) :
    Kept m o (State.asked v0 v1) := by
  unfold State.asked
  exact kept_State_updCmd (sub hm) g0

theorem kept_State_tileRequest {v0 : State} {v1 : Nat} {v2 : Bool} {v3 : Cmd → State → State} (hm : m &&& 435945458 = 0) (g0 : Kept m o v0) (g3 : ∀ a0 a1, Kept m o a1 → Kept m o (v3 a0 a1)) :
    Kept m o (State.tileRequest v0 v1 v2 v3) := by
  unfold State.tileRequest
  refine keptIte ?_ ?_
  · exact g0
  · split
    · exact kept_State_tileBreaks (sub hm) g0
    · exact keptIte (kept_State_tileBreaks (sub hm) g0) (g3 _ _ (kept_State_setTile (sub hm) (kept_State_asked (sub hm) g0)))

theorem kept_tileReads {v0 : Nat} {v1 : Nat} {v2 : Nat} {v3 : Nat} {v4 : Option Nat} {v5 : State} (hm : m &&& 435945458 = 0) (g5 : Kept m o v5) :
    Kept m o (tileReads v0 v1 v2 v3 v4 v5) := by
  unfold tileReads
  refine kept_State_tileRequest (sub hm) ?_ ?_
  · exact g5
  · intro a0 a1 a2
    split
    · exact kept_State_tileReadsFar (sub hm) a2
    · exact kept_State_tileAsks (sub hm) a2

theorem kept_execTileReadRequest {v0 : TileId} {v1 : Nat} {v2 : Nat} {v3 : Fin 1024} {v4 : Option (Fin 65536)} {v5 : State} (hm : m &&& 435945458 = 0) (g5 : Kept m o v5) :
    ∀ s', (execTileReadRequest v0 v1 v2 v3 v4 v5) = .next s' → Kept m o s' := by
  unfold execTileReadRequest
  refine keptNextIte ?_ ?_
  · refine keptNext (kept_State_atTile (sub hm) ?_ ?_)
    · exact g5
    · intro a0 a1
      exact kept_tileReads (sub hm) a1
  · exact keptFault

theorem kept_tileWrites {v0 : Nat} {v1 : Nat} {v2 : List Bool} {v3 : List Byte} {v4 : Nat} {v5 : Option Nat} {v6 : State} (hm : m &&& 435945458 = 0) (g6 : Kept m o v6) :
    Kept m o (tileWrites v0 v1 v2 v3 v4 v5 v6) := by
  unfold tileWrites
  refine kept_State_tileRequest (sub hm) ?_ ?_
  · exact g6
  · intro a0 a1 a2
    split
    · exact kept_State_tileWritesFar (sub hm) a2
    · exact kept_State_tileAsks (sub hm) a2

theorem kept_execTileWriteRequest {v0 : TileId} {v1 : Nat} {v2 : List Bool} {v3 : List Byte} {v4 : Fin 1024} {v5 : Option (Fin 65536)} {v6 : State} (hm : m &&& 435945458 = 0) (g6 : Kept m o v6) :
    ∀ s', (execTileWriteRequest v0 v1 v2 v3 v4 v5 v6) = .next s' → Kept m o s' := by
  unfold execTileWriteRequest
  refine keptNextIte ?_ ?_
  · refine keptNext (kept_State_atTile (sub hm) ?_ ?_)
    · exact g6
    · intro a0 a1
      exact kept_tileWrites (sub hm) a1
  · exact keptFault

end Sys2Proof.Machine
end

