-- ==== Sys2Proof/Laws/MetaCache.lean ====
section
/-! SUPPORT. What the metadata cache's operations leave of the mix state: lookups, evictions and write-backs (R329, R338) change
the caches, the nodes' versions and, where a version is worn out, what a re-key has (R331); no counter of a line or group, no
damage, no quarantine entry and no re-mix or re-initialisation. -/

namespace Sys2Proof.Machine

/-- Everything in the mix state but the caches, the versions and the re-keys is the same. -/
structure MixSame (x y : MixUnit) : Prop where
  minor : y.minor = x.minor
  major : y.major = x.major
  badData : y.badData = x.badData
  badTag : y.badTag = x.badTag
  badMeta : y.badMeta = x.badMeta
  badNode : y.badNode = x.badNode
  quar : y.quar = x.quar
  whole : y.whole = x.whole
  remix : y.remix = x.remix
  reinit : y.reinit = x.reinit
  blockKey : y.blockKey = x.blockKey
  healthy : y.healthy = x.healthy

theorem MixSame.refl (x : MixUnit) : MixSame x x := by constructor <;> rfl

theorem MixSame.of_eq {x y : MixUnit} (h : y = x) : MixSame x y := h ▸ MixSame.refl x

theorem MixSame.trans {x y z : MixUnit} (h : MixSame x y) (k : MixSame y z) : MixSame x z :=
  ⟨k.minor.trans h.minor, k.major.trans h.major, k.badData.trans h.badData, k.badTag.trans h.badTag, k.badMeta.trans h.badMeta,
   k.badNode.trans h.badNode, k.quar.trans h.quar, k.whole.trans h.whole, k.remix.trans h.remix, k.reinit.trans h.reinit,
   k.blockKey.trans h.blockKey, k.healthy.trans h.healthy⟩

theorem mixIte {c : Prop} [Decidable c] {x : MixUnit} {a b : State} (h : MixSame x a.mix) (k : MixSame x b.mix) :
    MixSame x (if c then a else b).mix := by split <;> assumption

theorem mix_bump (s : State) (r a b : Nat) : (s.bump r a b).mix = s.mix :=
  (kept_State_bump (m := 16384) (by decide) (Kept.refl 16384 s)).mix (by decide)

theorem mix_charge (s : State) (g : Nat) (w : Who) (l : Nat) : (s.charge g w l).mix = s.mix :=
  (kept_State_charge (m := 16384) (by decide) (Kept.refl 16384 s)).mix (by decide)

theorem mix_setCab (s : State) (n : Nat) (c : Cab) : (s.setCab n c).mix = s.mix :=
  (kept_State_setCab (m := 16384) (by decide) (Kept.refl 16384 s)).mix (by decide)

theorem newKey_same (s : State) : MixSame s.mix s.newKey.2.mix := by constructor <;> rfl

/-- A lookup changes the caches only. -/
theorem touchMeta_same (s : State) (g : Nat) (w : Who) (k : MetaKey) (d : Bool) : MixSame s.mix (s.touchMeta g w k d).mix := by
  unfold State.touchMeta
  extract_lets +onlyGivenNames -merge -underBinder x hit
  have hx : x.mix = s.mix := mix_bump ..
  split
  · rw [← hx]; constructor <;> rfl
  · rw [mix_charge, mix_bump, ← hx]; constructor <;> rfl

theorem beginRekey_same (s : State) (n : Nat) : MixSame s.mix (s.beginRekey n).mix := by
  unfold State.beginRekey
  split
  · rw [mix_setCab, ← mix_bump s rMixGstat 63 48]
    exact (newKey_same _).trans (by constructor <;> rfl)
  · rw [mix_bump]; constructor <;> rfl

theorem rekeyCheck_same (s : State) (n v : Nat) : MixSame s.mix (s.rekeyCheck n v).mix := by
  unfold State.rekeyCheck
  exact mixIte (mixIte (by constructor <;> rfl) (beginRekey_same ..)) (MixSame.refl _)

/-- A write-back changes the caches, a version and perhaps a re-key. -/
theorem writeMeta_same (s : State) (g : Nat) (k : MetaKey) : MixSame s.mix (s.writeMeta g k).mix := by
  unfold State.writeMeta
  extract_lets +onlyGivenNames -merge -underBinder clean src x
  have hx : MixSame s.mix x.mix := by
    refine MixSame.trans ?_ (MixSame.of_eq (mix_bump ..))
    constructor <;> rfl
  split
  · exact hx
  · extract_lets +onlyGivenNames -merge -underBinder w y
    have hy : MixSame s.mix y.mix := hx.trans (MixSame.of_eq (mix_charge ..))
    refine mixIte hy ?_
    extract_lets +onlyGivenNames -merge -underBinder v z p
    have hz : MixSame s.mix z.mix := hy.trans (by constructor <;> rfl)
    have hp : MixSame s.mix p.mix := by
      unfold p
      split
      · exact hz.trans (touchMeta_same ..)
      · exact hz
    exact hp.trans (rekeyCheck_same ..)

theorem dropMeta_same (s : State) (e : MetaEntry) : MixSame s.mix (s.dropMeta e).mix := by
  unfold State.dropMeta
  extract_lets +onlyGivenNames -merge -underBinder src x
  have hx : MixSame s.mix x.mix := by constructor <;> rfl
  split
  · exact hx.trans (writeMeta_same ..)
  · exact hx

theorem evictMeta_go_same (g k : Nat) (s : State) : MixSame s.mix (State.evictMeta.go g k s).mix := by
  induction k generalizing s with
  | zero => exact MixSame.refl _
  | succ k ih =>
    unfold State.evictMeta.go
    split
    · exact (dropMeta_same ..).trans (ih _)
    · exact MixSame.refl _

theorem evictMeta_same (s : State) (g : Nat) : MixSame s.mix (s.evictMeta g).mix := evictMeta_go_same g 64 s

theorem climbNodes_same (g : Nat) (w : Who) (l : List MetaKey) (s : State) : MixSame s.mix (climbNodes g w l s).mix := by
  induction l generalizing s with
  | nil => exact MixSame.refl _
  | cons k r ih =>
    unfold climbNodes
    split
    · exact touchMeta_same ..
    · exact (touchMeta_same ..).trans (ih _)

/-- Obtaining the counters of a line changes none of them. -/
theorem metaLookup_same (s : State) (g : Nat) (w : Who) (q : Nat) : MixSame s.mix (s.metaLookup g w q).mix := by
  unfold State.metaLookup
  split
  · split
    · exact ((touchMeta_same ..).trans (climbNodes_same ..)).trans (evictMeta_same ..)
    · exact MixSame.refl _
  · exact MixSame.refl _

theorem foldl_same {α : Type} {f : State → α → State} (h : ∀ s x, MixSame s.mix (f s x).mix) (l : List α) (s : State) :
    MixSame s.mix (l.foldl f s).mix := by
  induction l generalizing s with
  | nil => exact MixSame.refl _
  | cons x r ih => exact (h s x).trans (ih _)

/-- Writing every dirty entry back changes no counter. -/
theorem flushCache_same (s : State) (hit : MetaEntry → Bool) : MixSame s.mix (s.flushCache hit).mix := by
  unfold State.flushCache
  exact foldl_same (fun s _ => foldl_same (fun s _ => writeMeta_same ..) _ s) _ s

end Sys2Proof.Machine
end

