-- ==== Sys2Proof/Laws/State.lean ====
section
/-! SUPPORT. What each named update of State leaves in every other field, and what its accessor reads afterwards. -/

namespace Sys2Proof.Machine

@[simp] theorem State.setReg_pending (s : State) (off : Nat) (w : Word) : (s.setReg off w).pending = s.pending := rfl
@[simp] theorem State.setReg_out (s : State) (off : Nat) (w : Word) : (s.setReg off w).out = s.out := rfl
@[simp] theorem State.setReg_now (s : State) (off : Nat) (w : Word) : (s.setReg off w).now = s.now := rfl
@[simp] theorem State.setReg_tie (s : State) (off : Nat) (w : Word) : (s.setReg off w).tie = s.tie := rfl
@[simp] theorem State.setReg_free (s : State) (off : Nat) (w : Word) : (s.setReg off w).free = s.free := rfl
@[simp] theorem State.setReg_dev (s : State) (off : Nat) (w : Word) : (s.setReg off w).dev = s.dev := rfl
@[simp] theorem State.setReg_hostMem (s : State) (off : Nat) (w : Word) : (s.setReg off w).hostMem = s.hostMem := rfl
@[simp] theorem State.setReg_lost (s : State) (off : Nat) (w : Word) : (s.setReg off w).lost = s.lost := rfl
@[simp] theorem State.setReg_cabs (s : State) (off : Nat) (w : Word) : (s.setReg off w).cabs = s.cabs := rfl
@[simp] theorem State.setReg_drw (s : State) (off : Nat) (w : Word) : (s.setReg off w).drw = s.drw := rfl
@[simp] theorem State.setReg_lat (s : State) (off : Nat) (w : Word) : (s.setReg off w).lat = s.lat := rfl
@[simp] theorem State.setReg_tu (s : State) (off : Nat) (w : Word) : (s.setReg off w).tu = s.tu := rfl
@[simp] theorem State.setReg_ts (s : State) (off : Nat) (w : Word) : (s.setReg off w).ts = s.ts := rfl
@[simp] theorem State.setReg_mix (s : State) (off : Nat) (w : Word) : (s.setReg off w).mix = s.mix := rfl
@[simp] theorem State.setReg_hg (s : State) (off : Nat) (w : Word) : (s.setReg off w).hg = s.hg := rfl
@[simp] theorem State.setReg_rcv (s : State) (off : Nat) (w : Word) : (s.setReg off w).rcv = s.rcv := rfl
@[simp] theorem State.setReg_ou (s : State) (off : Nat) (w : Word) : (s.setReg off w).ou = s.ou := rfl
@[simp] theorem State.setReg_mono (s : State) (off : Nat) (w : Word) : (s.setReg off w).mono = s.mono := rfl
@[simp] theorem State.setReg_ft (s : State) (off : Nat) (w : Word) : (s.setReg off w).ft = s.ft := rfl
@[simp] theorem State.setReg_me (s : State) (off : Nat) (w : Word) : (s.setReg off w).me = s.me := rfl
@[simp] theorem State.setReg_dce (s : State) (off : Nat) (w : Word) : (s.setReg off w).dce = s.dce := rfl
@[simp] theorem State.setReg_fr (s : State) (off : Nat) (w : Word) : (s.setReg off w).fr = s.fr := rfl
@[simp] theorem State.setReg_sb (s : State) (off : Nat) (w : Word) : (s.setReg off w).sb = s.sb := rfl
@[simp] theorem State.setReg_pln (s : State) (off : Nat) (w : Word) : (s.setReg off w).pln = s.pln := rfl
@[simp] theorem State.setReg_lc (s : State) (off : Nat) (w : Word) : (s.setReg off w).lc = s.lc := rfl
@[simp] theorem State.setReg_fuse (s : State) (off : Nat) (w : Word) : (s.setReg off w).fuse = s.fuse := rfl
@[simp] theorem State.setReg_sg (s : State) (off : Nat) (w : Word) : (s.setReg off w).sg = s.sg := rfl
@[simp] theorem State.setReg_urg (s : State) (off : Nat) (w : Word) : (s.setReg off w).urg = s.urg := rfl

@[simp] theorem State.emit_pending (s : State) (o : Out) : (s.emit o).pending = s.pending := rfl
@[simp] theorem State.emit_now (s : State) (o : Out) : (s.emit o).now = s.now := rfl
@[simp] theorem State.emit_tie (s : State) (o : Out) : (s.emit o).tie = s.tie := rfl
@[simp] theorem State.emit_free (s : State) (o : Out) : (s.emit o).free = s.free := rfl
@[simp] theorem State.emit_regs (s : State) (o : Out) : (s.emit o).regs = s.regs := rfl
@[simp] theorem State.emit_dev (s : State) (o : Out) : (s.emit o).dev = s.dev := rfl
@[simp] theorem State.emit_hostMem (s : State) (o : Out) : (s.emit o).hostMem = s.hostMem := rfl
@[simp] theorem State.emit_lost (s : State) (o : Out) : (s.emit o).lost = s.lost := rfl
@[simp] theorem State.emit_cabs (s : State) (o : Out) : (s.emit o).cabs = s.cabs := rfl
@[simp] theorem State.emit_drw (s : State) (o : Out) : (s.emit o).drw = s.drw := rfl
@[simp] theorem State.emit_lat (s : State) (o : Out) : (s.emit o).lat = s.lat := rfl
@[simp] theorem State.emit_tu (s : State) (o : Out) : (s.emit o).tu = s.tu := rfl
@[simp] theorem State.emit_ts (s : State) (o : Out) : (s.emit o).ts = s.ts := rfl
@[simp] theorem State.emit_mix (s : State) (o : Out) : (s.emit o).mix = s.mix := rfl
@[simp] theorem State.emit_hg (s : State) (o : Out) : (s.emit o).hg = s.hg := rfl
@[simp] theorem State.emit_rcv (s : State) (o : Out) : (s.emit o).rcv = s.rcv := rfl
@[simp] theorem State.emit_ou (s : State) (o : Out) : (s.emit o).ou = s.ou := rfl
@[simp] theorem State.emit_mono (s : State) (o : Out) : (s.emit o).mono = s.mono := rfl
@[simp] theorem State.emit_ft (s : State) (o : Out) : (s.emit o).ft = s.ft := rfl
@[simp] theorem State.emit_me (s : State) (o : Out) : (s.emit o).me = s.me := rfl
@[simp] theorem State.emit_dce (s : State) (o : Out) : (s.emit o).dce = s.dce := rfl
@[simp] theorem State.emit_fr (s : State) (o : Out) : (s.emit o).fr = s.fr := rfl
@[simp] theorem State.emit_sb (s : State) (o : Out) : (s.emit o).sb = s.sb := rfl
@[simp] theorem State.emit_pln (s : State) (o : Out) : (s.emit o).pln = s.pln := rfl
@[simp] theorem State.emit_lc (s : State) (o : Out) : (s.emit o).lc = s.lc := rfl
@[simp] theorem State.emit_fuse (s : State) (o : Out) : (s.emit o).fuse = s.fuse := rfl
@[simp] theorem State.emit_sg (s : State) (o : Out) : (s.emit o).sg = s.sg := rfl
@[simp] theorem State.emit_urg (s : State) (o : Out) : (s.emit o).urg = s.urg := rfl

@[simp] theorem State.setCab_pending (s : State) (n : Nat) (c : Cab) : (s.setCab n c).pending = s.pending := rfl
@[simp] theorem State.setCab_out (s : State) (n : Nat) (c : Cab) : (s.setCab n c).out = s.out := rfl
@[simp] theorem State.setCab_now (s : State) (n : Nat) (c : Cab) : (s.setCab n c).now = s.now := rfl
@[simp] theorem State.setCab_tie (s : State) (n : Nat) (c : Cab) : (s.setCab n c).tie = s.tie := rfl
@[simp] theorem State.setCab_free (s : State) (n : Nat) (c : Cab) : (s.setCab n c).free = s.free := rfl
@[simp] theorem State.setCab_regs (s : State) (n : Nat) (c : Cab) : (s.setCab n c).regs = s.regs := rfl
@[simp] theorem State.setCab_dev (s : State) (n : Nat) (c : Cab) : (s.setCab n c).dev = s.dev := rfl
@[simp] theorem State.setCab_hostMem (s : State) (n : Nat) (c : Cab) : (s.setCab n c).hostMem = s.hostMem := rfl
@[simp] theorem State.setCab_lost (s : State) (n : Nat) (c : Cab) : (s.setCab n c).lost = s.lost := rfl
@[simp] theorem State.setCab_drw (s : State) (n : Nat) (c : Cab) : (s.setCab n c).drw = s.drw := rfl
@[simp] theorem State.setCab_lat (s : State) (n : Nat) (c : Cab) : (s.setCab n c).lat = s.lat := rfl
@[simp] theorem State.setCab_tu (s : State) (n : Nat) (c : Cab) : (s.setCab n c).tu = s.tu := rfl
@[simp] theorem State.setCab_ts (s : State) (n : Nat) (c : Cab) : (s.setCab n c).ts = s.ts := rfl
@[simp] theorem State.setCab_mix (s : State) (n : Nat) (c : Cab) : (s.setCab n c).mix = s.mix := rfl
@[simp] theorem State.setCab_hg (s : State) (n : Nat) (c : Cab) : (s.setCab n c).hg = s.hg := rfl
@[simp] theorem State.setCab_rcv (s : State) (n : Nat) (c : Cab) : (s.setCab n c).rcv = s.rcv := rfl
@[simp] theorem State.setCab_ou (s : State) (n : Nat) (c : Cab) : (s.setCab n c).ou = s.ou := rfl
@[simp] theorem State.setCab_mono (s : State) (n : Nat) (c : Cab) : (s.setCab n c).mono = s.mono := rfl
@[simp] theorem State.setCab_ft (s : State) (n : Nat) (c : Cab) : (s.setCab n c).ft = s.ft := rfl
@[simp] theorem State.setCab_me (s : State) (n : Nat) (c : Cab) : (s.setCab n c).me = s.me := rfl
@[simp] theorem State.setCab_dce (s : State) (n : Nat) (c : Cab) : (s.setCab n c).dce = s.dce := rfl
@[simp] theorem State.setCab_fr (s : State) (n : Nat) (c : Cab) : (s.setCab n c).fr = s.fr := rfl
@[simp] theorem State.setCab_sb (s : State) (n : Nat) (c : Cab) : (s.setCab n c).sb = s.sb := rfl
@[simp] theorem State.setCab_pln (s : State) (n : Nat) (c : Cab) : (s.setCab n c).pln = s.pln := rfl
@[simp] theorem State.setCab_lc (s : State) (n : Nat) (c : Cab) : (s.setCab n c).lc = s.lc := rfl
@[simp] theorem State.setCab_fuse (s : State) (n : Nat) (c : Cab) : (s.setCab n c).fuse = s.fuse := rfl
@[simp] theorem State.setCab_sg (s : State) (n : Nat) (c : Cab) : (s.setCab n c).sg = s.sg := rfl
@[simp] theorem State.setCab_urg (s : State) (n : Nat) (c : Cab) : (s.setCab n c).urg = s.urg := rfl

@[simp] theorem State.setCtx_pending (s : State) (cab c : Nat) (v : Ctx) : (s.setCtx cab c v).pending = s.pending := rfl
@[simp] theorem State.setCtx_out (s : State) (cab c : Nat) (v : Ctx) : (s.setCtx cab c v).out = s.out := rfl
@[simp] theorem State.setCtx_now (s : State) (cab c : Nat) (v : Ctx) : (s.setCtx cab c v).now = s.now := rfl
@[simp] theorem State.setCtx_tie (s : State) (cab c : Nat) (v : Ctx) : (s.setCtx cab c v).tie = s.tie := rfl
@[simp] theorem State.setCtx_free (s : State) (cab c : Nat) (v : Ctx) : (s.setCtx cab c v).free = s.free := rfl
@[simp] theorem State.setCtx_regs (s : State) (cab c : Nat) (v : Ctx) : (s.setCtx cab c v).regs = s.regs := rfl
@[simp] theorem State.setCtx_dev (s : State) (cab c : Nat) (v : Ctx) : (s.setCtx cab c v).dev = s.dev := rfl
@[simp] theorem State.setCtx_hostMem (s : State) (cab c : Nat) (v : Ctx) : (s.setCtx cab c v).hostMem = s.hostMem := rfl
@[simp] theorem State.setCtx_lost (s : State) (cab c : Nat) (v : Ctx) : (s.setCtx cab c v).lost = s.lost := rfl
@[simp] theorem State.setCtx_cabs (s : State) (cab c : Nat) (v : Ctx) : (s.setCtx cab c v).cabs = s.cabs := rfl
@[simp] theorem State.setCtx_lat (s : State) (cab c : Nat) (v : Ctx) : (s.setCtx cab c v).lat = s.lat := rfl
@[simp] theorem State.setCtx_tu (s : State) (cab c : Nat) (v : Ctx) : (s.setCtx cab c v).tu = s.tu := rfl
@[simp] theorem State.setCtx_ts (s : State) (cab c : Nat) (v : Ctx) : (s.setCtx cab c v).ts = s.ts := rfl
@[simp] theorem State.setCtx_mix (s : State) (cab c : Nat) (v : Ctx) : (s.setCtx cab c v).mix = s.mix := rfl
@[simp] theorem State.setCtx_hg (s : State) (cab c : Nat) (v : Ctx) : (s.setCtx cab c v).hg = s.hg := rfl
@[simp] theorem State.setCtx_rcv (s : State) (cab c : Nat) (v : Ctx) : (s.setCtx cab c v).rcv = s.rcv := rfl
@[simp] theorem State.setCtx_ou (s : State) (cab c : Nat) (v : Ctx) : (s.setCtx cab c v).ou = s.ou := rfl
@[simp] theorem State.setCtx_mono (s : State) (cab c : Nat) (v : Ctx) : (s.setCtx cab c v).mono = s.mono := rfl
@[simp] theorem State.setCtx_ft (s : State) (cab c : Nat) (v : Ctx) : (s.setCtx cab c v).ft = s.ft := rfl
@[simp] theorem State.setCtx_me (s : State) (cab c : Nat) (v : Ctx) : (s.setCtx cab c v).me = s.me := rfl
@[simp] theorem State.setCtx_dce (s : State) (cab c : Nat) (v : Ctx) : (s.setCtx cab c v).dce = s.dce := rfl
@[simp] theorem State.setCtx_fr (s : State) (cab c : Nat) (v : Ctx) : (s.setCtx cab c v).fr = s.fr := rfl
@[simp] theorem State.setCtx_sb (s : State) (cab c : Nat) (v : Ctx) : (s.setCtx cab c v).sb = s.sb := rfl
@[simp] theorem State.setCtx_pln (s : State) (cab c : Nat) (v : Ctx) : (s.setCtx cab c v).pln = s.pln := rfl
@[simp] theorem State.setCtx_lc (s : State) (cab c : Nat) (v : Ctx) : (s.setCtx cab c v).lc = s.lc := rfl
@[simp] theorem State.setCtx_fuse (s : State) (cab c : Nat) (v : Ctx) : (s.setCtx cab c v).fuse = s.fuse := rfl
@[simp] theorem State.setCtx_sg (s : State) (cab c : Nat) (v : Ctx) : (s.setCtx cab c v).sg = s.sg := rfl
@[simp] theorem State.setCtx_urg (s : State) (cab c : Nat) (v : Ctx) : (s.setCtx cab c v).urg = s.urg := rfl

@[simp] theorem State.setDrawer_pending (s : State) (cab i : Nat) (v : Drawer) : (s.setDrawer cab i v).pending = s.pending := rfl
@[simp] theorem State.setDrawer_out (s : State) (cab i : Nat) (v : Drawer) : (s.setDrawer cab i v).out = s.out := rfl
@[simp] theorem State.setDrawer_now (s : State) (cab i : Nat) (v : Drawer) : (s.setDrawer cab i v).now = s.now := rfl
@[simp] theorem State.setDrawer_tie (s : State) (cab i : Nat) (v : Drawer) : (s.setDrawer cab i v).tie = s.tie := rfl
@[simp] theorem State.setDrawer_free (s : State) (cab i : Nat) (v : Drawer) : (s.setDrawer cab i v).free = s.free := rfl
@[simp] theorem State.setDrawer_regs (s : State) (cab i : Nat) (v : Drawer) : (s.setDrawer cab i v).regs = s.regs := rfl
@[simp] theorem State.setDrawer_dev (s : State) (cab i : Nat) (v : Drawer) : (s.setDrawer cab i v).dev = s.dev := rfl
@[simp] theorem State.setDrawer_hostMem (s : State) (cab i : Nat) (v : Drawer) : (s.setDrawer cab i v).hostMem = s.hostMem := rfl
@[simp] theorem State.setDrawer_lost (s : State) (cab i : Nat) (v : Drawer) : (s.setDrawer cab i v).lost = s.lost := rfl
@[simp] theorem State.setDrawer_cabs (s : State) (cab i : Nat) (v : Drawer) : (s.setDrawer cab i v).cabs = s.cabs := rfl
@[simp] theorem State.setDrawer_lat (s : State) (cab i : Nat) (v : Drawer) : (s.setDrawer cab i v).lat = s.lat := rfl
@[simp] theorem State.setDrawer_tu (s : State) (cab i : Nat) (v : Drawer) : (s.setDrawer cab i v).tu = s.tu := rfl
@[simp] theorem State.setDrawer_ts (s : State) (cab i : Nat) (v : Drawer) : (s.setDrawer cab i v).ts = s.ts := rfl
@[simp] theorem State.setDrawer_mix (s : State) (cab i : Nat) (v : Drawer) : (s.setDrawer cab i v).mix = s.mix := rfl
@[simp] theorem State.setDrawer_hg (s : State) (cab i : Nat) (v : Drawer) : (s.setDrawer cab i v).hg = s.hg := rfl
@[simp] theorem State.setDrawer_rcv (s : State) (cab i : Nat) (v : Drawer) : (s.setDrawer cab i v).rcv = s.rcv := rfl
@[simp] theorem State.setDrawer_ou (s : State) (cab i : Nat) (v : Drawer) : (s.setDrawer cab i v).ou = s.ou := rfl
@[simp] theorem State.setDrawer_mono (s : State) (cab i : Nat) (v : Drawer) : (s.setDrawer cab i v).mono = s.mono := rfl
@[simp] theorem State.setDrawer_ft (s : State) (cab i : Nat) (v : Drawer) : (s.setDrawer cab i v).ft = s.ft := rfl
@[simp] theorem State.setDrawer_me (s : State) (cab i : Nat) (v : Drawer) : (s.setDrawer cab i v).me = s.me := rfl
@[simp] theorem State.setDrawer_dce (s : State) (cab i : Nat) (v : Drawer) : (s.setDrawer cab i v).dce = s.dce := rfl
@[simp] theorem State.setDrawer_fr (s : State) (cab i : Nat) (v : Drawer) : (s.setDrawer cab i v).fr = s.fr := rfl
@[simp] theorem State.setDrawer_sb (s : State) (cab i : Nat) (v : Drawer) : (s.setDrawer cab i v).sb = s.sb := rfl
@[simp] theorem State.setDrawer_pln (s : State) (cab i : Nat) (v : Drawer) : (s.setDrawer cab i v).pln = s.pln := rfl
@[simp] theorem State.setDrawer_lc (s : State) (cab i : Nat) (v : Drawer) : (s.setDrawer cab i v).lc = s.lc := rfl
@[simp] theorem State.setDrawer_fuse (s : State) (cab i : Nat) (v : Drawer) : (s.setDrawer cab i v).fuse = s.fuse := rfl
@[simp] theorem State.setDrawer_sg (s : State) (cab i : Nat) (v : Drawer) : (s.setDrawer cab i v).sg = s.sg := rfl
@[simp] theorem State.setDrawer_urg (s : State) (cab i : Nat) (v : Drawer) : (s.setDrawer cab i v).urg = s.urg := rfl

@[simp] theorem State.setObj_pending (s : State) (i : Nat) (v : MObj) : (s.setObj i v).pending = s.pending := rfl
@[simp] theorem State.setObj_out (s : State) (i : Nat) (v : MObj) : (s.setObj i v).out = s.out := rfl
@[simp] theorem State.setObj_now (s : State) (i : Nat) (v : MObj) : (s.setObj i v).now = s.now := rfl
@[simp] theorem State.setObj_tie (s : State) (i : Nat) (v : MObj) : (s.setObj i v).tie = s.tie := rfl
@[simp] theorem State.setObj_free (s : State) (i : Nat) (v : MObj) : (s.setObj i v).free = s.free := rfl
@[simp] theorem State.setObj_regs (s : State) (i : Nat) (v : MObj) : (s.setObj i v).regs = s.regs := rfl
@[simp] theorem State.setObj_dev (s : State) (i : Nat) (v : MObj) : (s.setObj i v).dev = s.dev := rfl
@[simp] theorem State.setObj_hostMem (s : State) (i : Nat) (v : MObj) : (s.setObj i v).hostMem = s.hostMem := rfl
@[simp] theorem State.setObj_lost (s : State) (i : Nat) (v : MObj) : (s.setObj i v).lost = s.lost := rfl
@[simp] theorem State.setObj_cabs (s : State) (i : Nat) (v : MObj) : (s.setObj i v).cabs = s.cabs := rfl
@[simp] theorem State.setObj_lat (s : State) (i : Nat) (v : MObj) : (s.setObj i v).lat = s.lat := rfl
@[simp] theorem State.setObj_tu (s : State) (i : Nat) (v : MObj) : (s.setObj i v).tu = s.tu := rfl
@[simp] theorem State.setObj_ts (s : State) (i : Nat) (v : MObj) : (s.setObj i v).ts = s.ts := rfl
@[simp] theorem State.setObj_mix (s : State) (i : Nat) (v : MObj) : (s.setObj i v).mix = s.mix := rfl
@[simp] theorem State.setObj_hg (s : State) (i : Nat) (v : MObj) : (s.setObj i v).hg = s.hg := rfl
@[simp] theorem State.setObj_rcv (s : State) (i : Nat) (v : MObj) : (s.setObj i v).rcv = s.rcv := rfl
@[simp] theorem State.setObj_ou (s : State) (i : Nat) (v : MObj) : (s.setObj i v).ou = s.ou := rfl
@[simp] theorem State.setObj_mono (s : State) (i : Nat) (v : MObj) : (s.setObj i v).mono = s.mono := rfl
@[simp] theorem State.setObj_ft (s : State) (i : Nat) (v : MObj) : (s.setObj i v).ft = s.ft := rfl
@[simp] theorem State.setObj_me (s : State) (i : Nat) (v : MObj) : (s.setObj i v).me = s.me := rfl
@[simp] theorem State.setObj_dce (s : State) (i : Nat) (v : MObj) : (s.setObj i v).dce = s.dce := rfl
@[simp] theorem State.setObj_fr (s : State) (i : Nat) (v : MObj) : (s.setObj i v).fr = s.fr := rfl
@[simp] theorem State.setObj_sb (s : State) (i : Nat) (v : MObj) : (s.setObj i v).sb = s.sb := rfl
@[simp] theorem State.setObj_pln (s : State) (i : Nat) (v : MObj) : (s.setObj i v).pln = s.pln := rfl
@[simp] theorem State.setObj_lc (s : State) (i : Nat) (v : MObj) : (s.setObj i v).lc = s.lc := rfl
@[simp] theorem State.setObj_fuse (s : State) (i : Nat) (v : MObj) : (s.setObj i v).fuse = s.fuse := rfl
@[simp] theorem State.setObj_sg (s : State) (i : Nat) (v : MObj) : (s.setObj i v).sg = s.sg := rfl
@[simp] theorem State.setObj_urg (s : State) (i : Nat) (v : MObj) : (s.setObj i v).urg = s.urg := rfl

@[simp] theorem State.updFlight_pending (s : State) (cab drawer seq : Nat) (g : Flight → Flight) : (s.updFlight cab drawer seq g).pending = s.pending := rfl
@[simp] theorem State.updFlight_out (s : State) (cab drawer seq : Nat) (g : Flight → Flight) : (s.updFlight cab drawer seq g).out = s.out := rfl
@[simp] theorem State.updFlight_now (s : State) (cab drawer seq : Nat) (g : Flight → Flight) : (s.updFlight cab drawer seq g).now = s.now := rfl
@[simp] theorem State.updFlight_tie (s : State) (cab drawer seq : Nat) (g : Flight → Flight) : (s.updFlight cab drawer seq g).tie = s.tie := rfl
@[simp] theorem State.updFlight_free (s : State) (cab drawer seq : Nat) (g : Flight → Flight) : (s.updFlight cab drawer seq g).free = s.free := rfl
@[simp] theorem State.updFlight_regs (s : State) (cab drawer seq : Nat) (g : Flight → Flight) : (s.updFlight cab drawer seq g).regs = s.regs := rfl
@[simp] theorem State.updFlight_dev (s : State) (cab drawer seq : Nat) (g : Flight → Flight) : (s.updFlight cab drawer seq g).dev = s.dev := rfl
@[simp] theorem State.updFlight_hostMem (s : State) (cab drawer seq : Nat) (g : Flight → Flight) : (s.updFlight cab drawer seq g).hostMem = s.hostMem := rfl
@[simp] theorem State.updFlight_lost (s : State) (cab drawer seq : Nat) (g : Flight → Flight) : (s.updFlight cab drawer seq g).lost = s.lost := rfl
@[simp] theorem State.updFlight_cabs (s : State) (cab drawer seq : Nat) (g : Flight → Flight) : (s.updFlight cab drawer seq g).cabs = s.cabs := rfl
@[simp] theorem State.updFlight_lat (s : State) (cab drawer seq : Nat) (g : Flight → Flight) : (s.updFlight cab drawer seq g).lat = s.lat := rfl
@[simp] theorem State.updFlight_tu (s : State) (cab drawer seq : Nat) (g : Flight → Flight) : (s.updFlight cab drawer seq g).tu = s.tu := rfl
@[simp] theorem State.updFlight_ts (s : State) (cab drawer seq : Nat) (g : Flight → Flight) : (s.updFlight cab drawer seq g).ts = s.ts := rfl
@[simp] theorem State.updFlight_mix (s : State) (cab drawer seq : Nat) (g : Flight → Flight) : (s.updFlight cab drawer seq g).mix = s.mix := rfl
@[simp] theorem State.updFlight_hg (s : State) (cab drawer seq : Nat) (g : Flight → Flight) : (s.updFlight cab drawer seq g).hg = s.hg := rfl
@[simp] theorem State.updFlight_rcv (s : State) (cab drawer seq : Nat) (g : Flight → Flight) : (s.updFlight cab drawer seq g).rcv = s.rcv := rfl
@[simp] theorem State.updFlight_ou (s : State) (cab drawer seq : Nat) (g : Flight → Flight) : (s.updFlight cab drawer seq g).ou = s.ou := rfl
@[simp] theorem State.updFlight_mono (s : State) (cab drawer seq : Nat) (g : Flight → Flight) : (s.updFlight cab drawer seq g).mono = s.mono := rfl
@[simp] theorem State.updFlight_ft (s : State) (cab drawer seq : Nat) (g : Flight → Flight) : (s.updFlight cab drawer seq g).ft = s.ft := rfl
@[simp] theorem State.updFlight_me (s : State) (cab drawer seq : Nat) (g : Flight → Flight) : (s.updFlight cab drawer seq g).me = s.me := rfl
@[simp] theorem State.updFlight_dce (s : State) (cab drawer seq : Nat) (g : Flight → Flight) : (s.updFlight cab drawer seq g).dce = s.dce := rfl
@[simp] theorem State.updFlight_fr (s : State) (cab drawer seq : Nat) (g : Flight → Flight) : (s.updFlight cab drawer seq g).fr = s.fr := rfl
@[simp] theorem State.updFlight_sb (s : State) (cab drawer seq : Nat) (g : Flight → Flight) : (s.updFlight cab drawer seq g).sb = s.sb := rfl
@[simp] theorem State.updFlight_pln (s : State) (cab drawer seq : Nat) (g : Flight → Flight) : (s.updFlight cab drawer seq g).pln = s.pln := rfl
@[simp] theorem State.updFlight_lc (s : State) (cab drawer seq : Nat) (g : Flight → Flight) : (s.updFlight cab drawer seq g).lc = s.lc := rfl
@[simp] theorem State.updFlight_fuse (s : State) (cab drawer seq : Nat) (g : Flight → Flight) : (s.updFlight cab drawer seq g).fuse = s.fuse := rfl
@[simp] theorem State.updFlight_sg (s : State) (cab drawer seq : Nat) (g : Flight → Flight) : (s.updFlight cab drawer seq g).sg = s.sg := rfl
@[simp] theorem State.updFlight_urg (s : State) (cab drawer seq : Nat) (g : Flight → Flight) : (s.updFlight cab drawer seq g).urg = s.urg := rfl

@[simp] theorem State.setLatch_pending (s : State) (i : Nat) (v : Latch) : (s.setLatch i v).pending = s.pending := rfl
@[simp] theorem State.setLatch_out (s : State) (i : Nat) (v : Latch) : (s.setLatch i v).out = s.out := rfl
@[simp] theorem State.setLatch_now (s : State) (i : Nat) (v : Latch) : (s.setLatch i v).now = s.now := rfl
@[simp] theorem State.setLatch_tie (s : State) (i : Nat) (v : Latch) : (s.setLatch i v).tie = s.tie := rfl
@[simp] theorem State.setLatch_free (s : State) (i : Nat) (v : Latch) : (s.setLatch i v).free = s.free := rfl
@[simp] theorem State.setLatch_regs (s : State) (i : Nat) (v : Latch) : (s.setLatch i v).regs = s.regs := rfl
@[simp] theorem State.setLatch_dev (s : State) (i : Nat) (v : Latch) : (s.setLatch i v).dev = s.dev := rfl
@[simp] theorem State.setLatch_hostMem (s : State) (i : Nat) (v : Latch) : (s.setLatch i v).hostMem = s.hostMem := rfl
@[simp] theorem State.setLatch_lost (s : State) (i : Nat) (v : Latch) : (s.setLatch i v).lost = s.lost := rfl
@[simp] theorem State.setLatch_cabs (s : State) (i : Nat) (v : Latch) : (s.setLatch i v).cabs = s.cabs := rfl
@[simp] theorem State.setLatch_drw (s : State) (i : Nat) (v : Latch) : (s.setLatch i v).drw = s.drw := rfl
@[simp] theorem State.setLatch_tu (s : State) (i : Nat) (v : Latch) : (s.setLatch i v).tu = s.tu := rfl
@[simp] theorem State.setLatch_ts (s : State) (i : Nat) (v : Latch) : (s.setLatch i v).ts = s.ts := rfl
@[simp] theorem State.setLatch_mix (s : State) (i : Nat) (v : Latch) : (s.setLatch i v).mix = s.mix := rfl
@[simp] theorem State.setLatch_hg (s : State) (i : Nat) (v : Latch) : (s.setLatch i v).hg = s.hg := rfl
@[simp] theorem State.setLatch_rcv (s : State) (i : Nat) (v : Latch) : (s.setLatch i v).rcv = s.rcv := rfl
@[simp] theorem State.setLatch_ou (s : State) (i : Nat) (v : Latch) : (s.setLatch i v).ou = s.ou := rfl
@[simp] theorem State.setLatch_mono (s : State) (i : Nat) (v : Latch) : (s.setLatch i v).mono = s.mono := rfl
@[simp] theorem State.setLatch_ft (s : State) (i : Nat) (v : Latch) : (s.setLatch i v).ft = s.ft := rfl
@[simp] theorem State.setLatch_me (s : State) (i : Nat) (v : Latch) : (s.setLatch i v).me = s.me := rfl
@[simp] theorem State.setLatch_dce (s : State) (i : Nat) (v : Latch) : (s.setLatch i v).dce = s.dce := rfl
@[simp] theorem State.setLatch_fr (s : State) (i : Nat) (v : Latch) : (s.setLatch i v).fr = s.fr := rfl
@[simp] theorem State.setLatch_sb (s : State) (i : Nat) (v : Latch) : (s.setLatch i v).sb = s.sb := rfl
@[simp] theorem State.setLatch_pln (s : State) (i : Nat) (v : Latch) : (s.setLatch i v).pln = s.pln := rfl
@[simp] theorem State.setLatch_lc (s : State) (i : Nat) (v : Latch) : (s.setLatch i v).lc = s.lc := rfl
@[simp] theorem State.setLatch_fuse (s : State) (i : Nat) (v : Latch) : (s.setLatch i v).fuse = s.fuse := rfl
@[simp] theorem State.setLatch_sg (s : State) (i : Nat) (v : Latch) : (s.setLatch i v).sg = s.sg := rfl
@[simp] theorem State.setLatch_urg (s : State) (i : Nat) (v : Latch) : (s.setLatch i v).urg = s.urg := rfl

@[simp] theorem State.setTile_pending (s : State) (t : Nat) (v : Tile) : (s.setTile t v).pending = s.pending := rfl
@[simp] theorem State.setTile_out (s : State) (t : Nat) (v : Tile) : (s.setTile t v).out = s.out := rfl
@[simp] theorem State.setTile_now (s : State) (t : Nat) (v : Tile) : (s.setTile t v).now = s.now := rfl
@[simp] theorem State.setTile_tie (s : State) (t : Nat) (v : Tile) : (s.setTile t v).tie = s.tie := rfl
@[simp] theorem State.setTile_free (s : State) (t : Nat) (v : Tile) : (s.setTile t v).free = s.free := rfl
@[simp] theorem State.setTile_regs (s : State) (t : Nat) (v : Tile) : (s.setTile t v).regs = s.regs := rfl
@[simp] theorem State.setTile_dev (s : State) (t : Nat) (v : Tile) : (s.setTile t v).dev = s.dev := rfl
@[simp] theorem State.setTile_hostMem (s : State) (t : Nat) (v : Tile) : (s.setTile t v).hostMem = s.hostMem := rfl
@[simp] theorem State.setTile_lost (s : State) (t : Nat) (v : Tile) : (s.setTile t v).lost = s.lost := rfl
@[simp] theorem State.setTile_cabs (s : State) (t : Nat) (v : Tile) : (s.setTile t v).cabs = s.cabs := rfl
@[simp] theorem State.setTile_drw (s : State) (t : Nat) (v : Tile) : (s.setTile t v).drw = s.drw := rfl
@[simp] theorem State.setTile_lat (s : State) (t : Nat) (v : Tile) : (s.setTile t v).lat = s.lat := rfl
@[simp] theorem State.setTile_tu (s : State) (t : Nat) (v : Tile) : (s.setTile t v).tu = s.tu := rfl
@[simp] theorem State.setTile_mix (s : State) (t : Nat) (v : Tile) : (s.setTile t v).mix = s.mix := rfl
@[simp] theorem State.setTile_hg (s : State) (t : Nat) (v : Tile) : (s.setTile t v).hg = s.hg := rfl
@[simp] theorem State.setTile_rcv (s : State) (t : Nat) (v : Tile) : (s.setTile t v).rcv = s.rcv := rfl
@[simp] theorem State.setTile_ou (s : State) (t : Nat) (v : Tile) : (s.setTile t v).ou = s.ou := rfl
@[simp] theorem State.setTile_mono (s : State) (t : Nat) (v : Tile) : (s.setTile t v).mono = s.mono := rfl
@[simp] theorem State.setTile_ft (s : State) (t : Nat) (v : Tile) : (s.setTile t v).ft = s.ft := rfl
@[simp] theorem State.setTile_me (s : State) (t : Nat) (v : Tile) : (s.setTile t v).me = s.me := rfl
@[simp] theorem State.setTile_dce (s : State) (t : Nat) (v : Tile) : (s.setTile t v).dce = s.dce := rfl
@[simp] theorem State.setTile_fr (s : State) (t : Nat) (v : Tile) : (s.setTile t v).fr = s.fr := rfl
@[simp] theorem State.setTile_sb (s : State) (t : Nat) (v : Tile) : (s.setTile t v).sb = s.sb := rfl
@[simp] theorem State.setTile_pln (s : State) (t : Nat) (v : Tile) : (s.setTile t v).pln = s.pln := rfl
@[simp] theorem State.setTile_lc (s : State) (t : Nat) (v : Tile) : (s.setTile t v).lc = s.lc := rfl
@[simp] theorem State.setTile_fuse (s : State) (t : Nat) (v : Tile) : (s.setTile t v).fuse = s.fuse := rfl
@[simp] theorem State.setTile_sg (s : State) (t : Nat) (v : Tile) : (s.setTile t v).sg = s.sg := rfl
@[simp] theorem State.setTile_urg (s : State) (t : Nat) (v : Tile) : (s.setTile t v).urg = s.urg := rfl

@[simp] theorem State.updCmd_pending (s : State) (cab n : Nat) (f : Cmd → Cmd) : (s.updCmd cab n f).pending = s.pending := rfl
@[simp] theorem State.updCmd_out (s : State) (cab n : Nat) (f : Cmd → Cmd) : (s.updCmd cab n f).out = s.out := rfl
@[simp] theorem State.updCmd_now (s : State) (cab n : Nat) (f : Cmd → Cmd) : (s.updCmd cab n f).now = s.now := rfl
@[simp] theorem State.updCmd_tie (s : State) (cab n : Nat) (f : Cmd → Cmd) : (s.updCmd cab n f).tie = s.tie := rfl
@[simp] theorem State.updCmd_free (s : State) (cab n : Nat) (f : Cmd → Cmd) : (s.updCmd cab n f).free = s.free := rfl
@[simp] theorem State.updCmd_regs (s : State) (cab n : Nat) (f : Cmd → Cmd) : (s.updCmd cab n f).regs = s.regs := rfl
@[simp] theorem State.updCmd_dev (s : State) (cab n : Nat) (f : Cmd → Cmd) : (s.updCmd cab n f).dev = s.dev := rfl
@[simp] theorem State.updCmd_hostMem (s : State) (cab n : Nat) (f : Cmd → Cmd) : (s.updCmd cab n f).hostMem = s.hostMem := rfl
@[simp] theorem State.updCmd_lost (s : State) (cab n : Nat) (f : Cmd → Cmd) : (s.updCmd cab n f).lost = s.lost := rfl
@[simp] theorem State.updCmd_cabs (s : State) (cab n : Nat) (f : Cmd → Cmd) : (s.updCmd cab n f).cabs = s.cabs := rfl
@[simp] theorem State.updCmd_drw (s : State) (cab n : Nat) (f : Cmd → Cmd) : (s.updCmd cab n f).drw = s.drw := rfl
@[simp] theorem State.updCmd_lat (s : State) (cab n : Nat) (f : Cmd → Cmd) : (s.updCmd cab n f).lat = s.lat := rfl
@[simp] theorem State.updCmd_tu (s : State) (cab n : Nat) (f : Cmd → Cmd) : (s.updCmd cab n f).tu = s.tu := rfl
@[simp] theorem State.updCmd_mix (s : State) (cab n : Nat) (f : Cmd → Cmd) : (s.updCmd cab n f).mix = s.mix := rfl
@[simp] theorem State.updCmd_hg (s : State) (cab n : Nat) (f : Cmd → Cmd) : (s.updCmd cab n f).hg = s.hg := rfl
@[simp] theorem State.updCmd_rcv (s : State) (cab n : Nat) (f : Cmd → Cmd) : (s.updCmd cab n f).rcv = s.rcv := rfl
@[simp] theorem State.updCmd_ou (s : State) (cab n : Nat) (f : Cmd → Cmd) : (s.updCmd cab n f).ou = s.ou := rfl
@[simp] theorem State.updCmd_mono (s : State) (cab n : Nat) (f : Cmd → Cmd) : (s.updCmd cab n f).mono = s.mono := rfl
@[simp] theorem State.updCmd_ft (s : State) (cab n : Nat) (f : Cmd → Cmd) : (s.updCmd cab n f).ft = s.ft := rfl
@[simp] theorem State.updCmd_me (s : State) (cab n : Nat) (f : Cmd → Cmd) : (s.updCmd cab n f).me = s.me := rfl
@[simp] theorem State.updCmd_dce (s : State) (cab n : Nat) (f : Cmd → Cmd) : (s.updCmd cab n f).dce = s.dce := rfl
@[simp] theorem State.updCmd_fr (s : State) (cab n : Nat) (f : Cmd → Cmd) : (s.updCmd cab n f).fr = s.fr := rfl
@[simp] theorem State.updCmd_sb (s : State) (cab n : Nat) (f : Cmd → Cmd) : (s.updCmd cab n f).sb = s.sb := rfl
@[simp] theorem State.updCmd_pln (s : State) (cab n : Nat) (f : Cmd → Cmd) : (s.updCmd cab n f).pln = s.pln := rfl
@[simp] theorem State.updCmd_lc (s : State) (cab n : Nat) (f : Cmd → Cmd) : (s.updCmd cab n f).lc = s.lc := rfl
@[simp] theorem State.updCmd_fuse (s : State) (cab n : Nat) (f : Cmd → Cmd) : (s.updCmd cab n f).fuse = s.fuse := rfl
@[simp] theorem State.updCmd_sg (s : State) (cab n : Nat) (f : Cmd → Cmd) : (s.updCmd cab n f).sg = s.sg := rfl
@[simp] theorem State.updCmd_urg (s : State) (cab n : Nat) (f : Cmd → Cmd) : (s.updCmd cab n f).urg = s.urg := rfl

@[simp] theorem State.setGran_pending (s : State) (h : Nat) (v : Gran) : (s.setGran h v).pending = s.pending := rfl
@[simp] theorem State.setGran_out (s : State) (h : Nat) (v : Gran) : (s.setGran h v).out = s.out := rfl
@[simp] theorem State.setGran_now (s : State) (h : Nat) (v : Gran) : (s.setGran h v).now = s.now := rfl
@[simp] theorem State.setGran_tie (s : State) (h : Nat) (v : Gran) : (s.setGran h v).tie = s.tie := rfl
@[simp] theorem State.setGran_free (s : State) (h : Nat) (v : Gran) : (s.setGran h v).free = s.free := rfl
@[simp] theorem State.setGran_regs (s : State) (h : Nat) (v : Gran) : (s.setGran h v).regs = s.regs := rfl
@[simp] theorem State.setGran_dev (s : State) (h : Nat) (v : Gran) : (s.setGran h v).dev = s.dev := rfl
@[simp] theorem State.setGran_hostMem (s : State) (h : Nat) (v : Gran) : (s.setGran h v).hostMem = s.hostMem := rfl
@[simp] theorem State.setGran_lost (s : State) (h : Nat) (v : Gran) : (s.setGran h v).lost = s.lost := rfl
@[simp] theorem State.setGran_cabs (s : State) (h : Nat) (v : Gran) : (s.setGran h v).cabs = s.cabs := rfl
@[simp] theorem State.setGran_drw (s : State) (h : Nat) (v : Gran) : (s.setGran h v).drw = s.drw := rfl
@[simp] theorem State.setGran_lat (s : State) (h : Nat) (v : Gran) : (s.setGran h v).lat = s.lat := rfl
@[simp] theorem State.setGran_ts (s : State) (h : Nat) (v : Gran) : (s.setGran h v).ts = s.ts := rfl
@[simp] theorem State.setGran_mix (s : State) (h : Nat) (v : Gran) : (s.setGran h v).mix = s.mix := rfl
@[simp] theorem State.setGran_hg (s : State) (h : Nat) (v : Gran) : (s.setGran h v).hg = s.hg := rfl
@[simp] theorem State.setGran_rcv (s : State) (h : Nat) (v : Gran) : (s.setGran h v).rcv = s.rcv := rfl
@[simp] theorem State.setGran_ou (s : State) (h : Nat) (v : Gran) : (s.setGran h v).ou = s.ou := rfl
@[simp] theorem State.setGran_mono (s : State) (h : Nat) (v : Gran) : (s.setGran h v).mono = s.mono := rfl
@[simp] theorem State.setGran_ft (s : State) (h : Nat) (v : Gran) : (s.setGran h v).ft = s.ft := rfl
@[simp] theorem State.setGran_me (s : State) (h : Nat) (v : Gran) : (s.setGran h v).me = s.me := rfl
@[simp] theorem State.setGran_dce (s : State) (h : Nat) (v : Gran) : (s.setGran h v).dce = s.dce := rfl
@[simp] theorem State.setGran_fr (s : State) (h : Nat) (v : Gran) : (s.setGran h v).fr = s.fr := rfl
@[simp] theorem State.setGran_sb (s : State) (h : Nat) (v : Gran) : (s.setGran h v).sb = s.sb := rfl
@[simp] theorem State.setGran_pln (s : State) (h : Nat) (v : Gran) : (s.setGran h v).pln = s.pln := rfl
@[simp] theorem State.setGran_lc (s : State) (h : Nat) (v : Gran) : (s.setGran h v).lc = s.lc := rfl
@[simp] theorem State.setGran_fuse (s : State) (h : Nat) (v : Gran) : (s.setGran h v).fuse = s.fuse := rfl
@[simp] theorem State.setGran_sg (s : State) (h : Nat) (v : Gran) : (s.setGran h v).sg = s.sg := rfl
@[simp] theorem State.setGran_urg (s : State) (h : Nat) (v : Gran) : (s.setGran h v).urg = s.urg := rfl

@[simp] theorem State.setUnitSt_pending (s : State) (u : Nat) (v : UnitSt) : (s.setUnitSt u v).pending = s.pending := rfl
@[simp] theorem State.setUnitSt_out (s : State) (u : Nat) (v : UnitSt) : (s.setUnitSt u v).out = s.out := rfl
@[simp] theorem State.setUnitSt_now (s : State) (u : Nat) (v : UnitSt) : (s.setUnitSt u v).now = s.now := rfl
@[simp] theorem State.setUnitSt_tie (s : State) (u : Nat) (v : UnitSt) : (s.setUnitSt u v).tie = s.tie := rfl
@[simp] theorem State.setUnitSt_free (s : State) (u : Nat) (v : UnitSt) : (s.setUnitSt u v).free = s.free := rfl
@[simp] theorem State.setUnitSt_regs (s : State) (u : Nat) (v : UnitSt) : (s.setUnitSt u v).regs = s.regs := rfl
@[simp] theorem State.setUnitSt_dev (s : State) (u : Nat) (v : UnitSt) : (s.setUnitSt u v).dev = s.dev := rfl
@[simp] theorem State.setUnitSt_hostMem (s : State) (u : Nat) (v : UnitSt) : (s.setUnitSt u v).hostMem = s.hostMem := rfl
@[simp] theorem State.setUnitSt_lost (s : State) (u : Nat) (v : UnitSt) : (s.setUnitSt u v).lost = s.lost := rfl
@[simp] theorem State.setUnitSt_cabs (s : State) (u : Nat) (v : UnitSt) : (s.setUnitSt u v).cabs = s.cabs := rfl
@[simp] theorem State.setUnitSt_drw (s : State) (u : Nat) (v : UnitSt) : (s.setUnitSt u v).drw = s.drw := rfl
@[simp] theorem State.setUnitSt_lat (s : State) (u : Nat) (v : UnitSt) : (s.setUnitSt u v).lat = s.lat := rfl
@[simp] theorem State.setUnitSt_tu (s : State) (u : Nat) (v : UnitSt) : (s.setUnitSt u v).tu = s.tu := rfl
@[simp] theorem State.setUnitSt_ts (s : State) (u : Nat) (v : UnitSt) : (s.setUnitSt u v).ts = s.ts := rfl
@[simp] theorem State.setUnitSt_mix (s : State) (u : Nat) (v : UnitSt) : (s.setUnitSt u v).mix = s.mix := rfl
@[simp] theorem State.setUnitSt_hg (s : State) (u : Nat) (v : UnitSt) : (s.setUnitSt u v).hg = s.hg := rfl
@[simp] theorem State.setUnitSt_ou (s : State) (u : Nat) (v : UnitSt) : (s.setUnitSt u v).ou = s.ou := rfl
@[simp] theorem State.setUnitSt_mono (s : State) (u : Nat) (v : UnitSt) : (s.setUnitSt u v).mono = s.mono := rfl
@[simp] theorem State.setUnitSt_ft (s : State) (u : Nat) (v : UnitSt) : (s.setUnitSt u v).ft = s.ft := rfl
@[simp] theorem State.setUnitSt_me (s : State) (u : Nat) (v : UnitSt) : (s.setUnitSt u v).me = s.me := rfl
@[simp] theorem State.setUnitSt_dce (s : State) (u : Nat) (v : UnitSt) : (s.setUnitSt u v).dce = s.dce := rfl
@[simp] theorem State.setUnitSt_fr (s : State) (u : Nat) (v : UnitSt) : (s.setUnitSt u v).fr = s.fr := rfl
@[simp] theorem State.setUnitSt_sb (s : State) (u : Nat) (v : UnitSt) : (s.setUnitSt u v).sb = s.sb := rfl
@[simp] theorem State.setUnitSt_pln (s : State) (u : Nat) (v : UnitSt) : (s.setUnitSt u v).pln = s.pln := rfl
@[simp] theorem State.setUnitSt_lc (s : State) (u : Nat) (v : UnitSt) : (s.setUnitSt u v).lc = s.lc := rfl
@[simp] theorem State.setUnitSt_fuse (s : State) (u : Nat) (v : UnitSt) : (s.setUnitSt u v).fuse = s.fuse := rfl
@[simp] theorem State.setUnitSt_sg (s : State) (u : Nat) (v : UnitSt) : (s.setUnitSt u v).sg = s.sg := rfl
@[simp] theorem State.setUnitSt_urg (s : State) (u : Nat) (v : UnitSt) : (s.setUnitSt u v).urg = s.urg := rfl

@[simp] theorem State.setSbc_pending (s : State) (n : Nat) (c : SbCab) : (s.setSbc n c).pending = s.pending := rfl
@[simp] theorem State.setSbc_out (s : State) (n : Nat) (c : SbCab) : (s.setSbc n c).out = s.out := rfl
@[simp] theorem State.setSbc_now (s : State) (n : Nat) (c : SbCab) : (s.setSbc n c).now = s.now := rfl
@[simp] theorem State.setSbc_tie (s : State) (n : Nat) (c : SbCab) : (s.setSbc n c).tie = s.tie := rfl
@[simp] theorem State.setSbc_free (s : State) (n : Nat) (c : SbCab) : (s.setSbc n c).free = s.free := rfl
@[simp] theorem State.setSbc_regs (s : State) (n : Nat) (c : SbCab) : (s.setSbc n c).regs = s.regs := rfl
@[simp] theorem State.setSbc_dev (s : State) (n : Nat) (c : SbCab) : (s.setSbc n c).dev = s.dev := rfl
@[simp] theorem State.setSbc_hostMem (s : State) (n : Nat) (c : SbCab) : (s.setSbc n c).hostMem = s.hostMem := rfl
@[simp] theorem State.setSbc_lost (s : State) (n : Nat) (c : SbCab) : (s.setSbc n c).lost = s.lost := rfl
@[simp] theorem State.setSbc_cabs (s : State) (n : Nat) (c : SbCab) : (s.setSbc n c).cabs = s.cabs := rfl
@[simp] theorem State.setSbc_drw (s : State) (n : Nat) (c : SbCab) : (s.setSbc n c).drw = s.drw := rfl
@[simp] theorem State.setSbc_lat (s : State) (n : Nat) (c : SbCab) : (s.setSbc n c).lat = s.lat := rfl
@[simp] theorem State.setSbc_tu (s : State) (n : Nat) (c : SbCab) : (s.setSbc n c).tu = s.tu := rfl
@[simp] theorem State.setSbc_ts (s : State) (n : Nat) (c : SbCab) : (s.setSbc n c).ts = s.ts := rfl
@[simp] theorem State.setSbc_mix (s : State) (n : Nat) (c : SbCab) : (s.setSbc n c).mix = s.mix := rfl
@[simp] theorem State.setSbc_hg (s : State) (n : Nat) (c : SbCab) : (s.setSbc n c).hg = s.hg := rfl
@[simp] theorem State.setSbc_rcv (s : State) (n : Nat) (c : SbCab) : (s.setSbc n c).rcv = s.rcv := rfl
@[simp] theorem State.setSbc_ou (s : State) (n : Nat) (c : SbCab) : (s.setSbc n c).ou = s.ou := rfl
@[simp] theorem State.setSbc_mono (s : State) (n : Nat) (c : SbCab) : (s.setSbc n c).mono = s.mono := rfl
@[simp] theorem State.setSbc_ft (s : State) (n : Nat) (c : SbCab) : (s.setSbc n c).ft = s.ft := rfl
@[simp] theorem State.setSbc_me (s : State) (n : Nat) (c : SbCab) : (s.setSbc n c).me = s.me := rfl
@[simp] theorem State.setSbc_dce (s : State) (n : Nat) (c : SbCab) : (s.setSbc n c).dce = s.dce := rfl
@[simp] theorem State.setSbc_fr (s : State) (n : Nat) (c : SbCab) : (s.setSbc n c).fr = s.fr := rfl
@[simp] theorem State.setSbc_pln (s : State) (n : Nat) (c : SbCab) : (s.setSbc n c).pln = s.pln := rfl
@[simp] theorem State.setSbc_lc (s : State) (n : Nat) (c : SbCab) : (s.setSbc n c).lc = s.lc := rfl
@[simp] theorem State.setSbc_fuse (s : State) (n : Nat) (c : SbCab) : (s.setSbc n c).fuse = s.fuse := rfl
@[simp] theorem State.setSbc_sg (s : State) (n : Nat) (c : SbCab) : (s.setSbc n c).sg = s.sg := rfl
@[simp] theorem State.setSbc_urg (s : State) (n : Nat) (c : SbCab) : (s.setSbc n c).urg = s.urg := rfl

@[simp] theorem State.setPort_pending (s : State) (p : Nat) (v : Port) : (s.setPort p v).pending = s.pending := rfl
@[simp] theorem State.setPort_out (s : State) (p : Nat) (v : Port) : (s.setPort p v).out = s.out := rfl
@[simp] theorem State.setPort_now (s : State) (p : Nat) (v : Port) : (s.setPort p v).now = s.now := rfl
@[simp] theorem State.setPort_tie (s : State) (p : Nat) (v : Port) : (s.setPort p v).tie = s.tie := rfl
@[simp] theorem State.setPort_free (s : State) (p : Nat) (v : Port) : (s.setPort p v).free = s.free := rfl
@[simp] theorem State.setPort_regs (s : State) (p : Nat) (v : Port) : (s.setPort p v).regs = s.regs := rfl
@[simp] theorem State.setPort_dev (s : State) (p : Nat) (v : Port) : (s.setPort p v).dev = s.dev := rfl
@[simp] theorem State.setPort_hostMem (s : State) (p : Nat) (v : Port) : (s.setPort p v).hostMem = s.hostMem := rfl
@[simp] theorem State.setPort_lost (s : State) (p : Nat) (v : Port) : (s.setPort p v).lost = s.lost := rfl
@[simp] theorem State.setPort_cabs (s : State) (p : Nat) (v : Port) : (s.setPort p v).cabs = s.cabs := rfl
@[simp] theorem State.setPort_drw (s : State) (p : Nat) (v : Port) : (s.setPort p v).drw = s.drw := rfl
@[simp] theorem State.setPort_lat (s : State) (p : Nat) (v : Port) : (s.setPort p v).lat = s.lat := rfl
@[simp] theorem State.setPort_tu (s : State) (p : Nat) (v : Port) : (s.setPort p v).tu = s.tu := rfl
@[simp] theorem State.setPort_ts (s : State) (p : Nat) (v : Port) : (s.setPort p v).ts = s.ts := rfl
@[simp] theorem State.setPort_mix (s : State) (p : Nat) (v : Port) : (s.setPort p v).mix = s.mix := rfl
@[simp] theorem State.setPort_hg (s : State) (p : Nat) (v : Port) : (s.setPort p v).hg = s.hg := rfl
@[simp] theorem State.setPort_rcv (s : State) (p : Nat) (v : Port) : (s.setPort p v).rcv = s.rcv := rfl
@[simp] theorem State.setPort_ou (s : State) (p : Nat) (v : Port) : (s.setPort p v).ou = s.ou := rfl
@[simp] theorem State.setPort_mono (s : State) (p : Nat) (v : Port) : (s.setPort p v).mono = s.mono := rfl
@[simp] theorem State.setPort_ft (s : State) (p : Nat) (v : Port) : (s.setPort p v).ft = s.ft := rfl
@[simp] theorem State.setPort_me (s : State) (p : Nat) (v : Port) : (s.setPort p v).me = s.me := rfl
@[simp] theorem State.setPort_dce (s : State) (p : Nat) (v : Port) : (s.setPort p v).dce = s.dce := rfl
@[simp] theorem State.setPort_sb (s : State) (p : Nat) (v : Port) : (s.setPort p v).sb = s.sb := rfl
@[simp] theorem State.setPort_pln (s : State) (p : Nat) (v : Port) : (s.setPort p v).pln = s.pln := rfl
@[simp] theorem State.setPort_lc (s : State) (p : Nat) (v : Port) : (s.setPort p v).lc = s.lc := rfl
@[simp] theorem State.setPort_fuse (s : State) (p : Nat) (v : Port) : (s.setPort p v).fuse = s.fuse := rfl
@[simp] theorem State.setPort_sg (s : State) (p : Nat) (v : Port) : (s.setPort p v).sg = s.sg := rfl
@[simp] theorem State.setPort_urg (s : State) (p : Nat) (v : Port) : (s.setPort p v).urg = s.urg := rfl

@[simp] theorem State.setGate_pending (s : State) (g : Nat) (v : SgUnit) : (s.setGate g v).pending = s.pending := rfl
@[simp] theorem State.setGate_out (s : State) (g : Nat) (v : SgUnit) : (s.setGate g v).out = s.out := rfl
@[simp] theorem State.setGate_now (s : State) (g : Nat) (v : SgUnit) : (s.setGate g v).now = s.now := rfl
@[simp] theorem State.setGate_tie (s : State) (g : Nat) (v : SgUnit) : (s.setGate g v).tie = s.tie := rfl
@[simp] theorem State.setGate_free (s : State) (g : Nat) (v : SgUnit) : (s.setGate g v).free = s.free := rfl
@[simp] theorem State.setGate_regs (s : State) (g : Nat) (v : SgUnit) : (s.setGate g v).regs = s.regs := rfl
@[simp] theorem State.setGate_dev (s : State) (g : Nat) (v : SgUnit) : (s.setGate g v).dev = s.dev := rfl
@[simp] theorem State.setGate_hostMem (s : State) (g : Nat) (v : SgUnit) : (s.setGate g v).hostMem = s.hostMem := rfl
@[simp] theorem State.setGate_lost (s : State) (g : Nat) (v : SgUnit) : (s.setGate g v).lost = s.lost := rfl
@[simp] theorem State.setGate_cabs (s : State) (g : Nat) (v : SgUnit) : (s.setGate g v).cabs = s.cabs := rfl
@[simp] theorem State.setGate_drw (s : State) (g : Nat) (v : SgUnit) : (s.setGate g v).drw = s.drw := rfl
@[simp] theorem State.setGate_lat (s : State) (g : Nat) (v : SgUnit) : (s.setGate g v).lat = s.lat := rfl
@[simp] theorem State.setGate_tu (s : State) (g : Nat) (v : SgUnit) : (s.setGate g v).tu = s.tu := rfl
@[simp] theorem State.setGate_ts (s : State) (g : Nat) (v : SgUnit) : (s.setGate g v).ts = s.ts := rfl
@[simp] theorem State.setGate_mix (s : State) (g : Nat) (v : SgUnit) : (s.setGate g v).mix = s.mix := rfl
@[simp] theorem State.setGate_hg (s : State) (g : Nat) (v : SgUnit) : (s.setGate g v).hg = s.hg := rfl
@[simp] theorem State.setGate_rcv (s : State) (g : Nat) (v : SgUnit) : (s.setGate g v).rcv = s.rcv := rfl
@[simp] theorem State.setGate_ou (s : State) (g : Nat) (v : SgUnit) : (s.setGate g v).ou = s.ou := rfl
@[simp] theorem State.setGate_mono (s : State) (g : Nat) (v : SgUnit) : (s.setGate g v).mono = s.mono := rfl
@[simp] theorem State.setGate_ft (s : State) (g : Nat) (v : SgUnit) : (s.setGate g v).ft = s.ft := rfl
@[simp] theorem State.setGate_me (s : State) (g : Nat) (v : SgUnit) : (s.setGate g v).me = s.me := rfl
@[simp] theorem State.setGate_dce (s : State) (g : Nat) (v : SgUnit) : (s.setGate g v).dce = s.dce := rfl
@[simp] theorem State.setGate_fr (s : State) (g : Nat) (v : SgUnit) : (s.setGate g v).fr = s.fr := rfl
@[simp] theorem State.setGate_sb (s : State) (g : Nat) (v : SgUnit) : (s.setGate g v).sb = s.sb := rfl
@[simp] theorem State.setGate_pln (s : State) (g : Nat) (v : SgUnit) : (s.setGate g v).pln = s.pln := rfl
@[simp] theorem State.setGate_lc (s : State) (g : Nat) (v : SgUnit) : (s.setGate g v).lc = s.lc := rfl
@[simp] theorem State.setGate_fuse (s : State) (g : Nat) (v : SgUnit) : (s.setGate g v).fuse = s.fuse := rfl
@[simp] theorem State.setGate_urg (s : State) (g : Nat) (v : SgUnit) : (s.setGate g v).urg = s.urg := rfl

@[simp] theorem State.setChan_pending (s : State) (i : Nat) (c : Chan) : (s.setChan i c).pending = s.pending := rfl
@[simp] theorem State.setChan_out (s : State) (i : Nat) (c : Chan) : (s.setChan i c).out = s.out := rfl
@[simp] theorem State.setChan_now (s : State) (i : Nat) (c : Chan) : (s.setChan i c).now = s.now := rfl
@[simp] theorem State.setChan_tie (s : State) (i : Nat) (c : Chan) : (s.setChan i c).tie = s.tie := rfl
@[simp] theorem State.setChan_free (s : State) (i : Nat) (c : Chan) : (s.setChan i c).free = s.free := rfl
@[simp] theorem State.setChan_regs (s : State) (i : Nat) (c : Chan) : (s.setChan i c).regs = s.regs := rfl
@[simp] theorem State.setChan_dev (s : State) (i : Nat) (c : Chan) : (s.setChan i c).dev = s.dev := rfl
@[simp] theorem State.setChan_hostMem (s : State) (i : Nat) (c : Chan) : (s.setChan i c).hostMem = s.hostMem := rfl
@[simp] theorem State.setChan_lost (s : State) (i : Nat) (c : Chan) : (s.setChan i c).lost = s.lost := rfl
@[simp] theorem State.setChan_cabs (s : State) (i : Nat) (c : Chan) : (s.setChan i c).cabs = s.cabs := rfl
@[simp] theorem State.setChan_drw (s : State) (i : Nat) (c : Chan) : (s.setChan i c).drw = s.drw := rfl
@[simp] theorem State.setChan_lat (s : State) (i : Nat) (c : Chan) : (s.setChan i c).lat = s.lat := rfl
@[simp] theorem State.setChan_tu (s : State) (i : Nat) (c : Chan) : (s.setChan i c).tu = s.tu := rfl
@[simp] theorem State.setChan_ts (s : State) (i : Nat) (c : Chan) : (s.setChan i c).ts = s.ts := rfl
@[simp] theorem State.setChan_mix (s : State) (i : Nat) (c : Chan) : (s.setChan i c).mix = s.mix := rfl
@[simp] theorem State.setChan_hg (s : State) (i : Nat) (c : Chan) : (s.setChan i c).hg = s.hg := rfl
@[simp] theorem State.setChan_rcv (s : State) (i : Nat) (c : Chan) : (s.setChan i c).rcv = s.rcv := rfl
@[simp] theorem State.setChan_ou (s : State) (i : Nat) (c : Chan) : (s.setChan i c).ou = s.ou := rfl
@[simp] theorem State.setChan_mono (s : State) (i : Nat) (c : Chan) : (s.setChan i c).mono = s.mono := rfl
@[simp] theorem State.setChan_ft (s : State) (i : Nat) (c : Chan) : (s.setChan i c).ft = s.ft := rfl
@[simp] theorem State.setChan_dce (s : State) (i : Nat) (c : Chan) : (s.setChan i c).dce = s.dce := rfl
@[simp] theorem State.setChan_fr (s : State) (i : Nat) (c : Chan) : (s.setChan i c).fr = s.fr := rfl
@[simp] theorem State.setChan_sb (s : State) (i : Nat) (c : Chan) : (s.setChan i c).sb = s.sb := rfl
@[simp] theorem State.setChan_pln (s : State) (i : Nat) (c : Chan) : (s.setChan i c).pln = s.pln := rfl
@[simp] theorem State.setChan_lc (s : State) (i : Nat) (c : Chan) : (s.setChan i c).lc = s.lc := rfl
@[simp] theorem State.setChan_fuse (s : State) (i : Nat) (c : Chan) : (s.setChan i c).fuse = s.fuse := rfl
@[simp] theorem State.setChan_sg (s : State) (i : Nat) (c : Chan) : (s.setChan i c).sg = s.sg := rfl
@[simp] theorem State.setChan_urg (s : State) (i : Nat) (c : Chan) : (s.setChan i c).urg = s.urg := rfl

@[simp] theorem State.setSlot_pending (s : State) (k : Nat) (v : Slot) : (s.setSlot k v).pending = s.pending := rfl
@[simp] theorem State.setSlot_out (s : State) (k : Nat) (v : Slot) : (s.setSlot k v).out = s.out := rfl
@[simp] theorem State.setSlot_now (s : State) (k : Nat) (v : Slot) : (s.setSlot k v).now = s.now := rfl
@[simp] theorem State.setSlot_tie (s : State) (k : Nat) (v : Slot) : (s.setSlot k v).tie = s.tie := rfl
@[simp] theorem State.setSlot_free (s : State) (k : Nat) (v : Slot) : (s.setSlot k v).free = s.free := rfl
@[simp] theorem State.setSlot_regs (s : State) (k : Nat) (v : Slot) : (s.setSlot k v).regs = s.regs := rfl
@[simp] theorem State.setSlot_dev (s : State) (k : Nat) (v : Slot) : (s.setSlot k v).dev = s.dev := rfl
@[simp] theorem State.setSlot_hostMem (s : State) (k : Nat) (v : Slot) : (s.setSlot k v).hostMem = s.hostMem := rfl
@[simp] theorem State.setSlot_lost (s : State) (k : Nat) (v : Slot) : (s.setSlot k v).lost = s.lost := rfl
@[simp] theorem State.setSlot_cabs (s : State) (k : Nat) (v : Slot) : (s.setSlot k v).cabs = s.cabs := rfl
@[simp] theorem State.setSlot_drw (s : State) (k : Nat) (v : Slot) : (s.setSlot k v).drw = s.drw := rfl
@[simp] theorem State.setSlot_lat (s : State) (k : Nat) (v : Slot) : (s.setSlot k v).lat = s.lat := rfl
@[simp] theorem State.setSlot_tu (s : State) (k : Nat) (v : Slot) : (s.setSlot k v).tu = s.tu := rfl
@[simp] theorem State.setSlot_ts (s : State) (k : Nat) (v : Slot) : (s.setSlot k v).ts = s.ts := rfl
@[simp] theorem State.setSlot_mix (s : State) (k : Nat) (v : Slot) : (s.setSlot k v).mix = s.mix := rfl
@[simp] theorem State.setSlot_hg (s : State) (k : Nat) (v : Slot) : (s.setSlot k v).hg = s.hg := rfl
@[simp] theorem State.setSlot_rcv (s : State) (k : Nat) (v : Slot) : (s.setSlot k v).rcv = s.rcv := rfl
@[simp] theorem State.setSlot_ou (s : State) (k : Nat) (v : Slot) : (s.setSlot k v).ou = s.ou := rfl
@[simp] theorem State.setSlot_mono (s : State) (k : Nat) (v : Slot) : (s.setSlot k v).mono = s.mono := rfl
@[simp] theorem State.setSlot_me (s : State) (k : Nat) (v : Slot) : (s.setSlot k v).me = s.me := rfl
@[simp] theorem State.setSlot_dce (s : State) (k : Nat) (v : Slot) : (s.setSlot k v).dce = s.dce := rfl
@[simp] theorem State.setSlot_fr (s : State) (k : Nat) (v : Slot) : (s.setSlot k v).fr = s.fr := rfl
@[simp] theorem State.setSlot_sb (s : State) (k : Nat) (v : Slot) : (s.setSlot k v).sb = s.sb := rfl
@[simp] theorem State.setSlot_pln (s : State) (k : Nat) (v : Slot) : (s.setSlot k v).pln = s.pln := rfl
@[simp] theorem State.setSlot_lc (s : State) (k : Nat) (v : Slot) : (s.setSlot k v).lc = s.lc := rfl
@[simp] theorem State.setSlot_fuse (s : State) (k : Nat) (v : Slot) : (s.setSlot k v).fuse = s.fuse := rfl
@[simp] theorem State.setSlot_sg (s : State) (k : Nat) (v : Slot) : (s.setSlot k v).sg = s.sg := rfl
@[simp] theorem State.setSlot_urg (s : State) (k : Nat) (v : Slot) : (s.setSlot k v).urg = s.urg := rfl

@[simp] theorem State.setImage_pending (s : State) (m : Image) : (s.setImage m).pending = s.pending := rfl
@[simp] theorem State.setImage_out (s : State) (m : Image) : (s.setImage m).out = s.out := rfl
@[simp] theorem State.setImage_now (s : State) (m : Image) : (s.setImage m).now = s.now := rfl
@[simp] theorem State.setImage_tie (s : State) (m : Image) : (s.setImage m).tie = s.tie := rfl
@[simp] theorem State.setImage_free (s : State) (m : Image) : (s.setImage m).free = s.free := rfl
@[simp] theorem State.setImage_regs (s : State) (m : Image) : (s.setImage m).regs = s.regs := rfl
@[simp] theorem State.setImage_dev (s : State) (m : Image) : (s.setImage m).dev = s.dev := rfl
@[simp] theorem State.setImage_hostMem (s : State) (m : Image) : (s.setImage m).hostMem = s.hostMem := rfl
@[simp] theorem State.setImage_lost (s : State) (m : Image) : (s.setImage m).lost = s.lost := rfl
@[simp] theorem State.setImage_cabs (s : State) (m : Image) : (s.setImage m).cabs = s.cabs := rfl
@[simp] theorem State.setImage_drw (s : State) (m : Image) : (s.setImage m).drw = s.drw := rfl
@[simp] theorem State.setImage_lat (s : State) (m : Image) : (s.setImage m).lat = s.lat := rfl
@[simp] theorem State.setImage_tu (s : State) (m : Image) : (s.setImage m).tu = s.tu := rfl
@[simp] theorem State.setImage_ts (s : State) (m : Image) : (s.setImage m).ts = s.ts := rfl
@[simp] theorem State.setImage_mix (s : State) (m : Image) : (s.setImage m).mix = s.mix := rfl
@[simp] theorem State.setImage_hg (s : State) (m : Image) : (s.setImage m).hg = s.hg := rfl
@[simp] theorem State.setImage_rcv (s : State) (m : Image) : (s.setImage m).rcv = s.rcv := rfl
@[simp] theorem State.setImage_ou (s : State) (m : Image) : (s.setImage m).ou = s.ou := rfl
@[simp] theorem State.setImage_mono (s : State) (m : Image) : (s.setImage m).mono = s.mono := rfl
@[simp] theorem State.setImage_ft (s : State) (m : Image) : (s.setImage m).ft = s.ft := rfl
@[simp] theorem State.setImage_me (s : State) (m : Image) : (s.setImage m).me = s.me := rfl
@[simp] theorem State.setImage_dce (s : State) (m : Image) : (s.setImage m).dce = s.dce := rfl
@[simp] theorem State.setImage_fr (s : State) (m : Image) : (s.setImage m).fr = s.fr := rfl
@[simp] theorem State.setImage_sb (s : State) (m : Image) : (s.setImage m).sb = s.sb := rfl
@[simp] theorem State.setImage_lc (s : State) (m : Image) : (s.setImage m).lc = s.lc := rfl
@[simp] theorem State.setImage_fuse (s : State) (m : Image) : (s.setImage m).fuse = s.fuse := rfl
@[simp] theorem State.setImage_sg (s : State) (m : Image) : (s.setImage m).sg = s.sg := rfl
@[simp] theorem State.setImage_urg (s : State) (m : Image) : (s.setImage m).urg = s.urg := rfl

/-- What `cab` reads after `setCab`. -/
theorem State.cab_setCab (s : State) (n : Nat) (j : Nat) (c : Cab) : (s.setCab n c).cab j = if j = n then c else s.cab j :=
  mapGet_set _ _ _ _ _

@[simp] theorem State.cab_setCab_same (s : State) (n : Nat) (c : Cab) : (s.setCab n c).cab n = c := mapGet_set_same _ _ _ _

/-- What `obj` reads after `setObj`. -/
theorem State.obj_setObj (s : State) (i : Nat) (j : Nat) (v : MObj) : (s.setObj i v).obj j = if j = i then v else s.obj j :=
  mapGet_set _ _ _ _ _

@[simp] theorem State.obj_setObj_same (s : State) (i : Nat) (v : MObj) : (s.setObj i v).obj i = v := mapGet_set_same _ _ _ _

/-- What `latch` reads after `setLatch`. -/
theorem State.latch_setLatch (s : State) (i : Nat) (j : Nat) (v : Latch) : (s.setLatch i v).latch j = if j = i then v else s.latch j :=
  mapGet_set _ _ _ _ _

@[simp] theorem State.latch_setLatch_same (s : State) (i : Nat) (v : Latch) : (s.setLatch i v).latch i = v := mapGet_set_same _ _ _ _

/-- What `tile` reads after `setTile`. -/
theorem State.tile_setTile (s : State) (t : Nat) (j : Nat) (v : Tile) : (s.setTile t v).tile j = if j = t then v else s.tile j :=
  mapGet_set _ _ _ _ _

@[simp] theorem State.tile_setTile_same (s : State) (t : Nat) (v : Tile) : (s.setTile t v).tile t = v := mapGet_set_same _ _ _ _

/-- What `gran` reads after `setGran`. -/
theorem State.gran_setGran (s : State) (h : Nat) (j : Nat) (v : Gran) : (s.setGran h v).gran j = if j = h then v else s.gran j :=
  mapGet_set _ _ _ _ _

@[simp] theorem State.gran_setGran_same (s : State) (h : Nat) (v : Gran) : (s.setGran h v).gran h = v := mapGet_set_same _ _ _ _

/-- What `unitSt` reads after `setUnitSt`. -/
theorem State.unitSt_setUnitSt (s : State) (u : Nat) (j : Nat) (v : UnitSt) : (s.setUnitSt u v).unitSt j = if j = u then v else s.unitSt j :=
  mapGet_set _ _ _ _ _

@[simp] theorem State.unitSt_setUnitSt_same (s : State) (u : Nat) (v : UnitSt) : (s.setUnitSt u v).unitSt u = v := mapGet_set_same _ _ _ _

/-- What `sbc` reads after `setSbc`. -/
theorem State.sbc_setSbc (s : State) (n : Nat) (j : Nat) (c : SbCab) : (s.setSbc n c).sbc j = if j = n then c else s.sbc j :=
  mapGet_set _ _ _ _ _

@[simp] theorem State.sbc_setSbc_same (s : State) (n : Nat) (c : SbCab) : (s.setSbc n c).sbc n = c := mapGet_set_same _ _ _ _

/-- What `port` reads after `setPort`. -/
theorem State.port_setPort (s : State) (p : Nat) (j : Nat) (v : Port) : (s.setPort p v).port j = if j = p then v else s.port j :=
  mapGet_set _ _ _ _ _

@[simp] theorem State.port_setPort_same (s : State) (p : Nat) (v : Port) : (s.setPort p v).port p = v := mapGet_set_same _ _ _ _

/-- What `chan` reads after `setChan`. -/
theorem State.chan_setChan (s : State) (i : Nat) (j : Nat) (c : Chan) : (s.setChan i c).chan j = if j = i then c else s.chan j :=
  mapGet_set _ _ _ _ _

@[simp] theorem State.chan_setChan_same (s : State) (i : Nat) (c : Chan) : (s.setChan i c).chan i = c := mapGet_set_same _ _ _ _

/-- What `slot` reads after `setSlot`. -/
theorem State.slot_setSlot (s : State) (k : Nat) (j : Nat) (v : Slot) : (s.setSlot k v).slot j = if j = k then v else s.slot j :=
  mapGet_set _ _ _ _ _

@[simp] theorem State.slot_setSlot_same (s : State) (k : Nat) (v : Slot) : (s.setSlot k v).slot k = v := mapGet_set_same _ _ _ _

/-- Contexts and drawers stand by cabinet and number. -/
@[simp] theorem State.ctx_setCtx_same (s : State) (cab c : Nat) (v : Ctx) : (s.setCtx cab c v).ctx cab c = v := mapGet_set_same _ _ _ _

@[simp] theorem State.drawer_setDrawer_same (s : State) (cab i : Nat) (v : Drawer) : (s.setDrawer cab i v).drawer cab i = v :=
  mapGet_set_same _ _ _ _

/-- A register after a store of one register. -/
theorem State.reg_setReg (s : State) (off o : Nat) (w : Word) : (s.setReg off w).reg o = if o = off then w else s.reg o := by
  have h := mapGet_set (regReset off) off o w s.regs
  unfold mapGet at h
  by_cases e : o = off
  · subst e; simpa [State.reg, State.setReg] using h
  · simp only [e, if_false] at h
    simp only [State.reg, State.setReg, e, if_false]
    unfold mapSet at h ⊢
    split <;> simp_all [mapFind_del, mapFind_put]

@[simp] theorem State.reg_setReg_same (s : State) (off : Nat) (w : Word) : (s.setReg off w).reg off = w := by simp [State.reg_setReg]

end Sys2Proof.Machine
end

