-- ==== Sys2Proof/Laws/Unchanged.lean ====
section
/-! SUPPORT. The fields of State that the shared operations leave as they are, for simp. -/

namespace Sys2Proof.Machine

@[simp] theorem State.setRfld_pending {v0 : State} {v1 : Nat} {v2 : Nat} {v3 : Nat} {v4 : Nat} : (State.setRfld v0 v1 v2 v3 v4).pending = v0.pending :=
  (kept_State_setRfld (m := 1) (by decide) (.refl _ _)).pending rfl
@[simp] theorem State.setRfld_out {v0 : State} {v1 : Nat} {v2 : Nat} {v3 : Nat} {v4 : Nat} : (State.setRfld v0 v1 v2 v3 v4).out = v0.out :=
  (kept_State_setRfld (m := 2) (by decide) (.refl _ _)).out rfl
@[simp] theorem State.setRfld_now {v0 : State} {v1 : Nat} {v2 : Nat} {v3 : Nat} {v4 : Nat} : (State.setRfld v0 v1 v2 v3 v4).now = v0.now :=
  (kept_State_setRfld (m := 4) (by decide) (.refl _ _)).now rfl
@[simp] theorem State.setRfld_tie {v0 : State} {v1 : Nat} {v2 : Nat} {v3 : Nat} {v4 : Nat} : (State.setRfld v0 v1 v2 v3 v4).tie = v0.tie :=
  (kept_State_setRfld (m := 8) (by decide) (.refl _ _)).tie rfl
@[simp] theorem State.setRfld_free {v0 : State} {v1 : Nat} {v2 : Nat} {v3 : Nat} {v4 : Nat} : (State.setRfld v0 v1 v2 v3 v4).free = v0.free :=
  (kept_State_setRfld (m := 16) (by decide) (.refl _ _)).free rfl
@[simp] theorem State.setRfld_dev {v0 : State} {v1 : Nat} {v2 : Nat} {v3 : Nat} {v4 : Nat} : (State.setRfld v0 v1 v2 v3 v4).dev = v0.dev :=
  (kept_State_setRfld (m := 64) (by decide) (.refl _ _)).dev rfl
@[simp] theorem State.setRfld_hostMem {v0 : State} {v1 : Nat} {v2 : Nat} {v3 : Nat} {v4 : Nat} : (State.setRfld v0 v1 v2 v3 v4).hostMem = v0.hostMem :=
  (kept_State_setRfld (m := 128) (by decide) (.refl _ _)).hostMem rfl
@[simp] theorem State.setRfld_lost {v0 : State} {v1 : Nat} {v2 : Nat} {v3 : Nat} {v4 : Nat} : (State.setRfld v0 v1 v2 v3 v4).lost = v0.lost :=
  (kept_State_setRfld (m := 256) (by decide) (.refl _ _)).lost rfl
@[simp] theorem State.setRfld_cabs {v0 : State} {v1 : Nat} {v2 : Nat} {v3 : Nat} {v4 : Nat} : (State.setRfld v0 v1 v2 v3 v4).cabs = v0.cabs :=
  (kept_State_setRfld (m := 512) (by decide) (.refl _ _)).cabs rfl
@[simp] theorem State.setRfld_drw {v0 : State} {v1 : Nat} {v2 : Nat} {v3 : Nat} {v4 : Nat} : (State.setRfld v0 v1 v2 v3 v4).drw = v0.drw :=
  (kept_State_setRfld (m := 1024) (by decide) (.refl _ _)).drw rfl
@[simp] theorem State.setRfld_lat {v0 : State} {v1 : Nat} {v2 : Nat} {v3 : Nat} {v4 : Nat} : (State.setRfld v0 v1 v2 v3 v4).lat = v0.lat :=
  (kept_State_setRfld (m := 2048) (by decide) (.refl _ _)).lat rfl
@[simp] theorem State.setRfld_tu {v0 : State} {v1 : Nat} {v2 : Nat} {v3 : Nat} {v4 : Nat} : (State.setRfld v0 v1 v2 v3 v4).tu = v0.tu :=
  (kept_State_setRfld (m := 4096) (by decide) (.refl _ _)).tu rfl
@[simp] theorem State.setRfld_ts {v0 : State} {v1 : Nat} {v2 : Nat} {v3 : Nat} {v4 : Nat} : (State.setRfld v0 v1 v2 v3 v4).ts = v0.ts :=
  (kept_State_setRfld (m := 8192) (by decide) (.refl _ _)).ts rfl
@[simp] theorem State.setRfld_mix {v0 : State} {v1 : Nat} {v2 : Nat} {v3 : Nat} {v4 : Nat} : (State.setRfld v0 v1 v2 v3 v4).mix = v0.mix :=
  (kept_State_setRfld (m := 16384) (by decide) (.refl _ _)).mix rfl
@[simp] theorem State.setRfld_hg {v0 : State} {v1 : Nat} {v2 : Nat} {v3 : Nat} {v4 : Nat} : (State.setRfld v0 v1 v2 v3 v4).hg = v0.hg :=
  (kept_State_setRfld (m := 32768) (by decide) (.refl _ _)).hg rfl
@[simp] theorem State.setRfld_rcv {v0 : State} {v1 : Nat} {v2 : Nat} {v3 : Nat} {v4 : Nat} : (State.setRfld v0 v1 v2 v3 v4).rcv = v0.rcv :=
  (kept_State_setRfld (m := 65536) (by decide) (.refl _ _)).rcv rfl
@[simp] theorem State.setRfld_ou {v0 : State} {v1 : Nat} {v2 : Nat} {v3 : Nat} {v4 : Nat} : (State.setRfld v0 v1 v2 v3 v4).ou = v0.ou :=
  (kept_State_setRfld (m := 131072) (by decide) (.refl _ _)).ou rfl
@[simp] theorem State.setRfld_mono {v0 : State} {v1 : Nat} {v2 : Nat} {v3 : Nat} {v4 : Nat} : (State.setRfld v0 v1 v2 v3 v4).mono = v0.mono :=
  (kept_State_setRfld (m := 262144) (by decide) (.refl _ _)).mono rfl
@[simp] theorem State.setRfld_ft {v0 : State} {v1 : Nat} {v2 : Nat} {v3 : Nat} {v4 : Nat} : (State.setRfld v0 v1 v2 v3 v4).ft = v0.ft :=
  (kept_State_setRfld (m := 524288) (by decide) (.refl _ _)).ft rfl
@[simp] theorem State.setRfld_me {v0 : State} {v1 : Nat} {v2 : Nat} {v3 : Nat} {v4 : Nat} : (State.setRfld v0 v1 v2 v3 v4).me = v0.me :=
  (kept_State_setRfld (m := 1048576) (by decide) (.refl _ _)).me rfl
@[simp] theorem State.setRfld_dce {v0 : State} {v1 : Nat} {v2 : Nat} {v3 : Nat} {v4 : Nat} : (State.setRfld v0 v1 v2 v3 v4).dce = v0.dce :=
  (kept_State_setRfld (m := 2097152) (by decide) (.refl _ _)).dce rfl
@[simp] theorem State.setRfld_fr {v0 : State} {v1 : Nat} {v2 : Nat} {v3 : Nat} {v4 : Nat} : (State.setRfld v0 v1 v2 v3 v4).fr = v0.fr :=
  (kept_State_setRfld (m := 4194304) (by decide) (.refl _ _)).fr rfl
@[simp] theorem State.setRfld_sb {v0 : State} {v1 : Nat} {v2 : Nat} {v3 : Nat} {v4 : Nat} : (State.setRfld v0 v1 v2 v3 v4).sb = v0.sb :=
  (kept_State_setRfld (m := 8388608) (by decide) (.refl _ _)).sb rfl
@[simp] theorem State.setRfld_pln {v0 : State} {v1 : Nat} {v2 : Nat} {v3 : Nat} {v4 : Nat} : (State.setRfld v0 v1 v2 v3 v4).pln = v0.pln :=
  (kept_State_setRfld (m := 16777216) (by decide) (.refl _ _)).pln rfl
@[simp] theorem State.setRfld_lc {v0 : State} {v1 : Nat} {v2 : Nat} {v3 : Nat} {v4 : Nat} : (State.setRfld v0 v1 v2 v3 v4).lc = v0.lc :=
  (kept_State_setRfld (m := 33554432) (by decide) (.refl _ _)).lc rfl
@[simp] theorem State.setRfld_fuse {v0 : State} {v1 : Nat} {v2 : Nat} {v3 : Nat} {v4 : Nat} : (State.setRfld v0 v1 v2 v3 v4).fuse = v0.fuse :=
  (kept_State_setRfld (m := 67108864) (by decide) (.refl _ _)).fuse rfl
@[simp] theorem State.setRfld_sg {v0 : State} {v1 : Nat} {v2 : Nat} {v3 : Nat} {v4 : Nat} : (State.setRfld v0 v1 v2 v3 v4).sg = v0.sg :=
  (kept_State_setRfld (m := 134217728) (by decide) (.refl _ _)).sg rfl
@[simp] theorem State.setRfld_urg {v0 : State} {v1 : Nat} {v2 : Nat} {v3 : Nat} {v4 : Nat} : (State.setRfld v0 v1 v2 v3 v4).urg = v0.urg :=
  (kept_State_setRfld (m := 268435456) (by decide) (.refl _ _)).urg rfl

@[simp] theorem State.bump_pending {v0 : State} {v1 : Nat} {v2 : Nat} {v3 : Nat} {v4 : optParam Nat 1} : (State.bump v0 v1 v2 v3 v4).pending = v0.pending :=
  (kept_State_bump (m := 1) (by decide) (.refl _ _)).pending rfl
@[simp] theorem State.bump_out {v0 : State} {v1 : Nat} {v2 : Nat} {v3 : Nat} {v4 : optParam Nat 1} : (State.bump v0 v1 v2 v3 v4).out = v0.out :=
  (kept_State_bump (m := 2) (by decide) (.refl _ _)).out rfl
@[simp] theorem State.bump_now {v0 : State} {v1 : Nat} {v2 : Nat} {v3 : Nat} {v4 : optParam Nat 1} : (State.bump v0 v1 v2 v3 v4).now = v0.now :=
  (kept_State_bump (m := 4) (by decide) (.refl _ _)).now rfl
@[simp] theorem State.bump_tie {v0 : State} {v1 : Nat} {v2 : Nat} {v3 : Nat} {v4 : optParam Nat 1} : (State.bump v0 v1 v2 v3 v4).tie = v0.tie :=
  (kept_State_bump (m := 8) (by decide) (.refl _ _)).tie rfl
@[simp] theorem State.bump_free {v0 : State} {v1 : Nat} {v2 : Nat} {v3 : Nat} {v4 : optParam Nat 1} : (State.bump v0 v1 v2 v3 v4).free = v0.free :=
  (kept_State_bump (m := 16) (by decide) (.refl _ _)).free rfl
@[simp] theorem State.bump_dev {v0 : State} {v1 : Nat} {v2 : Nat} {v3 : Nat} {v4 : optParam Nat 1} : (State.bump v0 v1 v2 v3 v4).dev = v0.dev :=
  (kept_State_bump (m := 64) (by decide) (.refl _ _)).dev rfl
@[simp] theorem State.bump_hostMem {v0 : State} {v1 : Nat} {v2 : Nat} {v3 : Nat} {v4 : optParam Nat 1} : (State.bump v0 v1 v2 v3 v4).hostMem = v0.hostMem :=
  (kept_State_bump (m := 128) (by decide) (.refl _ _)).hostMem rfl
@[simp] theorem State.bump_lost {v0 : State} {v1 : Nat} {v2 : Nat} {v3 : Nat} {v4 : optParam Nat 1} : (State.bump v0 v1 v2 v3 v4).lost = v0.lost :=
  (kept_State_bump (m := 256) (by decide) (.refl _ _)).lost rfl
@[simp] theorem State.bump_cabs {v0 : State} {v1 : Nat} {v2 : Nat} {v3 : Nat} {v4 : optParam Nat 1} : (State.bump v0 v1 v2 v3 v4).cabs = v0.cabs :=
  (kept_State_bump (m := 512) (by decide) (.refl _ _)).cabs rfl
@[simp] theorem State.bump_drw {v0 : State} {v1 : Nat} {v2 : Nat} {v3 : Nat} {v4 : optParam Nat 1} : (State.bump v0 v1 v2 v3 v4).drw = v0.drw :=
  (kept_State_bump (m := 1024) (by decide) (.refl _ _)).drw rfl
@[simp] theorem State.bump_lat {v0 : State} {v1 : Nat} {v2 : Nat} {v3 : Nat} {v4 : optParam Nat 1} : (State.bump v0 v1 v2 v3 v4).lat = v0.lat :=
  (kept_State_bump (m := 2048) (by decide) (.refl _ _)).lat rfl
@[simp] theorem State.bump_tu {v0 : State} {v1 : Nat} {v2 : Nat} {v3 : Nat} {v4 : optParam Nat 1} : (State.bump v0 v1 v2 v3 v4).tu = v0.tu :=
  (kept_State_bump (m := 4096) (by decide) (.refl _ _)).tu rfl
@[simp] theorem State.bump_ts {v0 : State} {v1 : Nat} {v2 : Nat} {v3 : Nat} {v4 : optParam Nat 1} : (State.bump v0 v1 v2 v3 v4).ts = v0.ts :=
  (kept_State_bump (m := 8192) (by decide) (.refl _ _)).ts rfl
@[simp] theorem State.bump_mix {v0 : State} {v1 : Nat} {v2 : Nat} {v3 : Nat} {v4 : optParam Nat 1} : (State.bump v0 v1 v2 v3 v4).mix = v0.mix :=
  (kept_State_bump (m := 16384) (by decide) (.refl _ _)).mix rfl
@[simp] theorem State.bump_hg {v0 : State} {v1 : Nat} {v2 : Nat} {v3 : Nat} {v4 : optParam Nat 1} : (State.bump v0 v1 v2 v3 v4).hg = v0.hg :=
  (kept_State_bump (m := 32768) (by decide) (.refl _ _)).hg rfl
@[simp] theorem State.bump_rcv {v0 : State} {v1 : Nat} {v2 : Nat} {v3 : Nat} {v4 : optParam Nat 1} : (State.bump v0 v1 v2 v3 v4).rcv = v0.rcv :=
  (kept_State_bump (m := 65536) (by decide) (.refl _ _)).rcv rfl
@[simp] theorem State.bump_ou {v0 : State} {v1 : Nat} {v2 : Nat} {v3 : Nat} {v4 : optParam Nat 1} : (State.bump v0 v1 v2 v3 v4).ou = v0.ou :=
  (kept_State_bump (m := 131072) (by decide) (.refl _ _)).ou rfl
@[simp] theorem State.bump_mono {v0 : State} {v1 : Nat} {v2 : Nat} {v3 : Nat} {v4 : optParam Nat 1} : (State.bump v0 v1 v2 v3 v4).mono = v0.mono :=
  (kept_State_bump (m := 262144) (by decide) (.refl _ _)).mono rfl
@[simp] theorem State.bump_ft {v0 : State} {v1 : Nat} {v2 : Nat} {v3 : Nat} {v4 : optParam Nat 1} : (State.bump v0 v1 v2 v3 v4).ft = v0.ft :=
  (kept_State_bump (m := 524288) (by decide) (.refl _ _)).ft rfl
@[simp] theorem State.bump_me {v0 : State} {v1 : Nat} {v2 : Nat} {v3 : Nat} {v4 : optParam Nat 1} : (State.bump v0 v1 v2 v3 v4).me = v0.me :=
  (kept_State_bump (m := 1048576) (by decide) (.refl _ _)).me rfl
@[simp] theorem State.bump_dce {v0 : State} {v1 : Nat} {v2 : Nat} {v3 : Nat} {v4 : optParam Nat 1} : (State.bump v0 v1 v2 v3 v4).dce = v0.dce :=
  (kept_State_bump (m := 2097152) (by decide) (.refl _ _)).dce rfl
@[simp] theorem State.bump_fr {v0 : State} {v1 : Nat} {v2 : Nat} {v3 : Nat} {v4 : optParam Nat 1} : (State.bump v0 v1 v2 v3 v4).fr = v0.fr :=
  (kept_State_bump (m := 4194304) (by decide) (.refl _ _)).fr rfl
@[simp] theorem State.bump_sb {v0 : State} {v1 : Nat} {v2 : Nat} {v3 : Nat} {v4 : optParam Nat 1} : (State.bump v0 v1 v2 v3 v4).sb = v0.sb :=
  (kept_State_bump (m := 8388608) (by decide) (.refl _ _)).sb rfl
@[simp] theorem State.bump_pln {v0 : State} {v1 : Nat} {v2 : Nat} {v3 : Nat} {v4 : optParam Nat 1} : (State.bump v0 v1 v2 v3 v4).pln = v0.pln :=
  (kept_State_bump (m := 16777216) (by decide) (.refl _ _)).pln rfl
@[simp] theorem State.bump_lc {v0 : State} {v1 : Nat} {v2 : Nat} {v3 : Nat} {v4 : optParam Nat 1} : (State.bump v0 v1 v2 v3 v4).lc = v0.lc :=
  (kept_State_bump (m := 33554432) (by decide) (.refl _ _)).lc rfl
@[simp] theorem State.bump_fuse {v0 : State} {v1 : Nat} {v2 : Nat} {v3 : Nat} {v4 : optParam Nat 1} : (State.bump v0 v1 v2 v3 v4).fuse = v0.fuse :=
  (kept_State_bump (m := 67108864) (by decide) (.refl _ _)).fuse rfl
@[simp] theorem State.bump_sg {v0 : State} {v1 : Nat} {v2 : Nat} {v3 : Nat} {v4 : optParam Nat 1} : (State.bump v0 v1 v2 v3 v4).sg = v0.sg :=
  (kept_State_bump (m := 134217728) (by decide) (.refl _ _)).sg rfl
@[simp] theorem State.bump_urg {v0 : State} {v1 : Nat} {v2 : Nat} {v3 : Nat} {v4 : optParam Nat 1} : (State.bump v0 v1 v2 v3 v4).urg = v0.urg :=
  (kept_State_bump (m := 268435456) (by decide) (.refl _ _)).urg rfl

@[simp] theorem State.overrun_pending {v0 : State} {v1 : Nat} : (State.overrun v0 v1).pending = v0.pending :=
  (kept_State_overrun (m := 1) (by decide) (.refl _ _)).pending rfl
@[simp] theorem State.overrun_out {v0 : State} {v1 : Nat} : (State.overrun v0 v1).out = v0.out :=
  (kept_State_overrun (m := 2) (by decide) (.refl _ _)).out rfl
@[simp] theorem State.overrun_now {v0 : State} {v1 : Nat} : (State.overrun v0 v1).now = v0.now :=
  (kept_State_overrun (m := 4) (by decide) (.refl _ _)).now rfl
@[simp] theorem State.overrun_tie {v0 : State} {v1 : Nat} : (State.overrun v0 v1).tie = v0.tie :=
  (kept_State_overrun (m := 8) (by decide) (.refl _ _)).tie rfl
@[simp] theorem State.overrun_free {v0 : State} {v1 : Nat} : (State.overrun v0 v1).free = v0.free :=
  (kept_State_overrun (m := 16) (by decide) (.refl _ _)).free rfl
@[simp] theorem State.overrun_dev {v0 : State} {v1 : Nat} : (State.overrun v0 v1).dev = v0.dev :=
  (kept_State_overrun (m := 64) (by decide) (.refl _ _)).dev rfl
@[simp] theorem State.overrun_hostMem {v0 : State} {v1 : Nat} : (State.overrun v0 v1).hostMem = v0.hostMem :=
  (kept_State_overrun (m := 128) (by decide) (.refl _ _)).hostMem rfl
@[simp] theorem State.overrun_lost {v0 : State} {v1 : Nat} : (State.overrun v0 v1).lost = v0.lost :=
  (kept_State_overrun (m := 256) (by decide) (.refl _ _)).lost rfl
@[simp] theorem State.overrun_cabs {v0 : State} {v1 : Nat} : (State.overrun v0 v1).cabs = v0.cabs :=
  (kept_State_overrun (m := 512) (by decide) (.refl _ _)).cabs rfl
@[simp] theorem State.overrun_drw {v0 : State} {v1 : Nat} : (State.overrun v0 v1).drw = v0.drw :=
  (kept_State_overrun (m := 1024) (by decide) (.refl _ _)).drw rfl
@[simp] theorem State.overrun_lat {v0 : State} {v1 : Nat} : (State.overrun v0 v1).lat = v0.lat :=
  (kept_State_overrun (m := 2048) (by decide) (.refl _ _)).lat rfl
@[simp] theorem State.overrun_tu {v0 : State} {v1 : Nat} : (State.overrun v0 v1).tu = v0.tu :=
  (kept_State_overrun (m := 4096) (by decide) (.refl _ _)).tu rfl
@[simp] theorem State.overrun_ts {v0 : State} {v1 : Nat} : (State.overrun v0 v1).ts = v0.ts :=
  (kept_State_overrun (m := 8192) (by decide) (.refl _ _)).ts rfl
@[simp] theorem State.overrun_mix {v0 : State} {v1 : Nat} : (State.overrun v0 v1).mix = v0.mix :=
  (kept_State_overrun (m := 16384) (by decide) (.refl _ _)).mix rfl
@[simp] theorem State.overrun_hg {v0 : State} {v1 : Nat} : (State.overrun v0 v1).hg = v0.hg :=
  (kept_State_overrun (m := 32768) (by decide) (.refl _ _)).hg rfl
@[simp] theorem State.overrun_rcv {v0 : State} {v1 : Nat} : (State.overrun v0 v1).rcv = v0.rcv :=
  (kept_State_overrun (m := 65536) (by decide) (.refl _ _)).rcv rfl
@[simp] theorem State.overrun_ou {v0 : State} {v1 : Nat} : (State.overrun v0 v1).ou = v0.ou :=
  (kept_State_overrun (m := 131072) (by decide) (.refl _ _)).ou rfl
@[simp] theorem State.overrun_mono {v0 : State} {v1 : Nat} : (State.overrun v0 v1).mono = v0.mono :=
  (kept_State_overrun (m := 262144) (by decide) (.refl _ _)).mono rfl
@[simp] theorem State.overrun_ft {v0 : State} {v1 : Nat} : (State.overrun v0 v1).ft = v0.ft :=
  (kept_State_overrun (m := 524288) (by decide) (.refl _ _)).ft rfl
@[simp] theorem State.overrun_me {v0 : State} {v1 : Nat} : (State.overrun v0 v1).me = v0.me :=
  (kept_State_overrun (m := 1048576) (by decide) (.refl _ _)).me rfl
@[simp] theorem State.overrun_dce {v0 : State} {v1 : Nat} : (State.overrun v0 v1).dce = v0.dce :=
  (kept_State_overrun (m := 2097152) (by decide) (.refl _ _)).dce rfl
@[simp] theorem State.overrun_fr {v0 : State} {v1 : Nat} : (State.overrun v0 v1).fr = v0.fr :=
  (kept_State_overrun (m := 4194304) (by decide) (.refl _ _)).fr rfl
@[simp] theorem State.overrun_sb {v0 : State} {v1 : Nat} : (State.overrun v0 v1).sb = v0.sb :=
  (kept_State_overrun (m := 8388608) (by decide) (.refl _ _)).sb rfl
@[simp] theorem State.overrun_pln {v0 : State} {v1 : Nat} : (State.overrun v0 v1).pln = v0.pln :=
  (kept_State_overrun (m := 16777216) (by decide) (.refl _ _)).pln rfl
@[simp] theorem State.overrun_lc {v0 : State} {v1 : Nat} : (State.overrun v0 v1).lc = v0.lc :=
  (kept_State_overrun (m := 33554432) (by decide) (.refl _ _)).lc rfl
@[simp] theorem State.overrun_fuse {v0 : State} {v1 : Nat} : (State.overrun v0 v1).fuse = v0.fuse :=
  (kept_State_overrun (m := 67108864) (by decide) (.refl _ _)).fuse rfl
@[simp] theorem State.overrun_sg {v0 : State} {v1 : Nat} : (State.overrun v0 v1).sg = v0.sg :=
  (kept_State_overrun (m := 134217728) (by decide) (.refl _ _)).sg rfl
@[simp] theorem State.overrun_urg {v0 : State} {v1 : Nat} : (State.overrun v0 v1).urg = v0.urg :=
  (kept_State_overrun (m := 268435456) (by decide) (.refl _ _)).urg rfl

@[simp] theorem State.result_pending {v0 : State} {v1 : Nat} {v2 : Nat} {v3 : Nat} : (State.result v0 v1 v2 v3).pending = v0.pending :=
  (kept_State_result (m := 1) (by decide) (.refl _ _)).pending rfl
@[simp] theorem State.result_out {v0 : State} {v1 : Nat} {v2 : Nat} {v3 : Nat} : (State.result v0 v1 v2 v3).out = v0.out :=
  (kept_State_result (m := 2) (by decide) (.refl _ _)).out rfl
@[simp] theorem State.result_now {v0 : State} {v1 : Nat} {v2 : Nat} {v3 : Nat} : (State.result v0 v1 v2 v3).now = v0.now :=
  (kept_State_result (m := 4) (by decide) (.refl _ _)).now rfl
@[simp] theorem State.result_tie {v0 : State} {v1 : Nat} {v2 : Nat} {v3 : Nat} : (State.result v0 v1 v2 v3).tie = v0.tie :=
  (kept_State_result (m := 8) (by decide) (.refl _ _)).tie rfl
@[simp] theorem State.result_free {v0 : State} {v1 : Nat} {v2 : Nat} {v3 : Nat} : (State.result v0 v1 v2 v3).free = v0.free :=
  (kept_State_result (m := 16) (by decide) (.refl _ _)).free rfl
@[simp] theorem State.result_dev {v0 : State} {v1 : Nat} {v2 : Nat} {v3 : Nat} : (State.result v0 v1 v2 v3).dev = v0.dev :=
  (kept_State_result (m := 64) (by decide) (.refl _ _)).dev rfl
@[simp] theorem State.result_hostMem {v0 : State} {v1 : Nat} {v2 : Nat} {v3 : Nat} : (State.result v0 v1 v2 v3).hostMem = v0.hostMem :=
  (kept_State_result (m := 128) (by decide) (.refl _ _)).hostMem rfl
@[simp] theorem State.result_lost {v0 : State} {v1 : Nat} {v2 : Nat} {v3 : Nat} : (State.result v0 v1 v2 v3).lost = v0.lost :=
  (kept_State_result (m := 256) (by decide) (.refl _ _)).lost rfl
@[simp] theorem State.result_cabs {v0 : State} {v1 : Nat} {v2 : Nat} {v3 : Nat} : (State.result v0 v1 v2 v3).cabs = v0.cabs :=
  (kept_State_result (m := 512) (by decide) (.refl _ _)).cabs rfl
@[simp] theorem State.result_drw {v0 : State} {v1 : Nat} {v2 : Nat} {v3 : Nat} : (State.result v0 v1 v2 v3).drw = v0.drw :=
  (kept_State_result (m := 1024) (by decide) (.refl _ _)).drw rfl
@[simp] theorem State.result_lat {v0 : State} {v1 : Nat} {v2 : Nat} {v3 : Nat} : (State.result v0 v1 v2 v3).lat = v0.lat :=
  (kept_State_result (m := 2048) (by decide) (.refl _ _)).lat rfl
@[simp] theorem State.result_tu {v0 : State} {v1 : Nat} {v2 : Nat} {v3 : Nat} : (State.result v0 v1 v2 v3).tu = v0.tu :=
  (kept_State_result (m := 4096) (by decide) (.refl _ _)).tu rfl
@[simp] theorem State.result_ts {v0 : State} {v1 : Nat} {v2 : Nat} {v3 : Nat} : (State.result v0 v1 v2 v3).ts = v0.ts :=
  (kept_State_result (m := 8192) (by decide) (.refl _ _)).ts rfl
@[simp] theorem State.result_mix {v0 : State} {v1 : Nat} {v2 : Nat} {v3 : Nat} : (State.result v0 v1 v2 v3).mix = v0.mix :=
  (kept_State_result (m := 16384) (by decide) (.refl _ _)).mix rfl
@[simp] theorem State.result_hg {v0 : State} {v1 : Nat} {v2 : Nat} {v3 : Nat} : (State.result v0 v1 v2 v3).hg = v0.hg :=
  (kept_State_result (m := 32768) (by decide) (.refl _ _)).hg rfl
@[simp] theorem State.result_rcv {v0 : State} {v1 : Nat} {v2 : Nat} {v3 : Nat} : (State.result v0 v1 v2 v3).rcv = v0.rcv :=
  (kept_State_result (m := 65536) (by decide) (.refl _ _)).rcv rfl
@[simp] theorem State.result_ou {v0 : State} {v1 : Nat} {v2 : Nat} {v3 : Nat} : (State.result v0 v1 v2 v3).ou = v0.ou :=
  (kept_State_result (m := 131072) (by decide) (.refl _ _)).ou rfl
@[simp] theorem State.result_mono {v0 : State} {v1 : Nat} {v2 : Nat} {v3 : Nat} : (State.result v0 v1 v2 v3).mono = v0.mono :=
  (kept_State_result (m := 262144) (by decide) (.refl _ _)).mono rfl
@[simp] theorem State.result_ft {v0 : State} {v1 : Nat} {v2 : Nat} {v3 : Nat} : (State.result v0 v1 v2 v3).ft = v0.ft :=
  (kept_State_result (m := 524288) (by decide) (.refl _ _)).ft rfl
@[simp] theorem State.result_me {v0 : State} {v1 : Nat} {v2 : Nat} {v3 : Nat} : (State.result v0 v1 v2 v3).me = v0.me :=
  (kept_State_result (m := 1048576) (by decide) (.refl _ _)).me rfl
@[simp] theorem State.result_dce {v0 : State} {v1 : Nat} {v2 : Nat} {v3 : Nat} : (State.result v0 v1 v2 v3).dce = v0.dce :=
  (kept_State_result (m := 2097152) (by decide) (.refl _ _)).dce rfl
@[simp] theorem State.result_fr {v0 : State} {v1 : Nat} {v2 : Nat} {v3 : Nat} : (State.result v0 v1 v2 v3).fr = v0.fr :=
  (kept_State_result (m := 4194304) (by decide) (.refl _ _)).fr rfl
@[simp] theorem State.result_sb {v0 : State} {v1 : Nat} {v2 : Nat} {v3 : Nat} : (State.result v0 v1 v2 v3).sb = v0.sb :=
  (kept_State_result (m := 8388608) (by decide) (.refl _ _)).sb rfl
@[simp] theorem State.result_pln {v0 : State} {v1 : Nat} {v2 : Nat} {v3 : Nat} : (State.result v0 v1 v2 v3).pln = v0.pln :=
  (kept_State_result (m := 16777216) (by decide) (.refl _ _)).pln rfl
@[simp] theorem State.result_lc {v0 : State} {v1 : Nat} {v2 : Nat} {v3 : Nat} : (State.result v0 v1 v2 v3).lc = v0.lc :=
  (kept_State_result (m := 33554432) (by decide) (.refl _ _)).lc rfl
@[simp] theorem State.result_fuse {v0 : State} {v1 : Nat} {v2 : Nat} {v3 : Nat} : (State.result v0 v1 v2 v3).fuse = v0.fuse :=
  (kept_State_result (m := 67108864) (by decide) (.refl _ _)).fuse rfl
@[simp] theorem State.result_sg {v0 : State} {v1 : Nat} {v2 : Nat} {v3 : Nat} : (State.result v0 v1 v2 v3).sg = v0.sg :=
  (kept_State_result (m := 134217728) (by decide) (.refl _ _)).sg rfl
@[simp] theorem State.result_urg {v0 : State} {v1 : Nat} {v2 : Nat} {v3 : Nat} : (State.result v0 v1 v2 v3).urg = v0.urg :=
  (kept_State_result (m := 268435456) (by decide) (.refl _ _)).urg rfl

@[simp] theorem State.tally_pending {v0 : State} {v1 : Nat} {v2 : Nat} {v3 : Option Nat} {v4 : optParam Nat 1} : (State.tally v0 v1 v2 v3 v4).pending = v0.pending :=
  (kept_State_tally (m := 1) (by decide) (.refl _ _)).pending rfl
@[simp] theorem State.tally_out {v0 : State} {v1 : Nat} {v2 : Nat} {v3 : Option Nat} {v4 : optParam Nat 1} : (State.tally v0 v1 v2 v3 v4).out = v0.out :=
  (kept_State_tally (m := 2) (by decide) (.refl _ _)).out rfl
@[simp] theorem State.tally_now {v0 : State} {v1 : Nat} {v2 : Nat} {v3 : Option Nat} {v4 : optParam Nat 1} : (State.tally v0 v1 v2 v3 v4).now = v0.now :=
  (kept_State_tally (m := 4) (by decide) (.refl _ _)).now rfl
@[simp] theorem State.tally_tie {v0 : State} {v1 : Nat} {v2 : Nat} {v3 : Option Nat} {v4 : optParam Nat 1} : (State.tally v0 v1 v2 v3 v4).tie = v0.tie :=
  (kept_State_tally (m := 8) (by decide) (.refl _ _)).tie rfl
@[simp] theorem State.tally_free {v0 : State} {v1 : Nat} {v2 : Nat} {v3 : Option Nat} {v4 : optParam Nat 1} : (State.tally v0 v1 v2 v3 v4).free = v0.free :=
  (kept_State_tally (m := 16) (by decide) (.refl _ _)).free rfl
@[simp] theorem State.tally_dev {v0 : State} {v1 : Nat} {v2 : Nat} {v3 : Option Nat} {v4 : optParam Nat 1} : (State.tally v0 v1 v2 v3 v4).dev = v0.dev :=
  (kept_State_tally (m := 64) (by decide) (.refl _ _)).dev rfl
@[simp] theorem State.tally_hostMem {v0 : State} {v1 : Nat} {v2 : Nat} {v3 : Option Nat} {v4 : optParam Nat 1} : (State.tally v0 v1 v2 v3 v4).hostMem = v0.hostMem :=
  (kept_State_tally (m := 128) (by decide) (.refl _ _)).hostMem rfl
@[simp] theorem State.tally_lost {v0 : State} {v1 : Nat} {v2 : Nat} {v3 : Option Nat} {v4 : optParam Nat 1} : (State.tally v0 v1 v2 v3 v4).lost = v0.lost :=
  (kept_State_tally (m := 256) (by decide) (.refl _ _)).lost rfl
@[simp] theorem State.tally_cabs {v0 : State} {v1 : Nat} {v2 : Nat} {v3 : Option Nat} {v4 : optParam Nat 1} : (State.tally v0 v1 v2 v3 v4).cabs = v0.cabs :=
  (kept_State_tally (m := 512) (by decide) (.refl _ _)).cabs rfl
@[simp] theorem State.tally_drw {v0 : State} {v1 : Nat} {v2 : Nat} {v3 : Option Nat} {v4 : optParam Nat 1} : (State.tally v0 v1 v2 v3 v4).drw = v0.drw :=
  (kept_State_tally (m := 1024) (by decide) (.refl _ _)).drw rfl
@[simp] theorem State.tally_lat {v0 : State} {v1 : Nat} {v2 : Nat} {v3 : Option Nat} {v4 : optParam Nat 1} : (State.tally v0 v1 v2 v3 v4).lat = v0.lat :=
  (kept_State_tally (m := 2048) (by decide) (.refl _ _)).lat rfl
@[simp] theorem State.tally_tu {v0 : State} {v1 : Nat} {v2 : Nat} {v3 : Option Nat} {v4 : optParam Nat 1} : (State.tally v0 v1 v2 v3 v4).tu = v0.tu :=
  (kept_State_tally (m := 4096) (by decide) (.refl _ _)).tu rfl
@[simp] theorem State.tally_ts {v0 : State} {v1 : Nat} {v2 : Nat} {v3 : Option Nat} {v4 : optParam Nat 1} : (State.tally v0 v1 v2 v3 v4).ts = v0.ts :=
  (kept_State_tally (m := 8192) (by decide) (.refl _ _)).ts rfl
@[simp] theorem State.tally_mix {v0 : State} {v1 : Nat} {v2 : Nat} {v3 : Option Nat} {v4 : optParam Nat 1} : (State.tally v0 v1 v2 v3 v4).mix = v0.mix :=
  (kept_State_tally (m := 16384) (by decide) (.refl _ _)).mix rfl
@[simp] theorem State.tally_hg {v0 : State} {v1 : Nat} {v2 : Nat} {v3 : Option Nat} {v4 : optParam Nat 1} : (State.tally v0 v1 v2 v3 v4).hg = v0.hg :=
  (kept_State_tally (m := 32768) (by decide) (.refl _ _)).hg rfl
@[simp] theorem State.tally_rcv {v0 : State} {v1 : Nat} {v2 : Nat} {v3 : Option Nat} {v4 : optParam Nat 1} : (State.tally v0 v1 v2 v3 v4).rcv = v0.rcv :=
  (kept_State_tally (m := 65536) (by decide) (.refl _ _)).rcv rfl
@[simp] theorem State.tally_ou {v0 : State} {v1 : Nat} {v2 : Nat} {v3 : Option Nat} {v4 : optParam Nat 1} : (State.tally v0 v1 v2 v3 v4).ou = v0.ou :=
  (kept_State_tally (m := 131072) (by decide) (.refl _ _)).ou rfl
@[simp] theorem State.tally_mono {v0 : State} {v1 : Nat} {v2 : Nat} {v3 : Option Nat} {v4 : optParam Nat 1} : (State.tally v0 v1 v2 v3 v4).mono = v0.mono :=
  (kept_State_tally (m := 262144) (by decide) (.refl _ _)).mono rfl
@[simp] theorem State.tally_ft {v0 : State} {v1 : Nat} {v2 : Nat} {v3 : Option Nat} {v4 : optParam Nat 1} : (State.tally v0 v1 v2 v3 v4).ft = v0.ft :=
  (kept_State_tally (m := 524288) (by decide) (.refl _ _)).ft rfl
@[simp] theorem State.tally_me {v0 : State} {v1 : Nat} {v2 : Nat} {v3 : Option Nat} {v4 : optParam Nat 1} : (State.tally v0 v1 v2 v3 v4).me = v0.me :=
  (kept_State_tally (m := 1048576) (by decide) (.refl _ _)).me rfl
@[simp] theorem State.tally_dce {v0 : State} {v1 : Nat} {v2 : Nat} {v3 : Option Nat} {v4 : optParam Nat 1} : (State.tally v0 v1 v2 v3 v4).dce = v0.dce :=
  (kept_State_tally (m := 2097152) (by decide) (.refl _ _)).dce rfl
@[simp] theorem State.tally_fr {v0 : State} {v1 : Nat} {v2 : Nat} {v3 : Option Nat} {v4 : optParam Nat 1} : (State.tally v0 v1 v2 v3 v4).fr = v0.fr :=
  (kept_State_tally (m := 4194304) (by decide) (.refl _ _)).fr rfl
@[simp] theorem State.tally_sb {v0 : State} {v1 : Nat} {v2 : Nat} {v3 : Option Nat} {v4 : optParam Nat 1} : (State.tally v0 v1 v2 v3 v4).sb = v0.sb :=
  (kept_State_tally (m := 8388608) (by decide) (.refl _ _)).sb rfl
@[simp] theorem State.tally_pln {v0 : State} {v1 : Nat} {v2 : Nat} {v3 : Option Nat} {v4 : optParam Nat 1} : (State.tally v0 v1 v2 v3 v4).pln = v0.pln :=
  (kept_State_tally (m := 16777216) (by decide) (.refl _ _)).pln rfl
@[simp] theorem State.tally_lc {v0 : State} {v1 : Nat} {v2 : Nat} {v3 : Option Nat} {v4 : optParam Nat 1} : (State.tally v0 v1 v2 v3 v4).lc = v0.lc :=
  (kept_State_tally (m := 33554432) (by decide) (.refl _ _)).lc rfl
@[simp] theorem State.tally_fuse {v0 : State} {v1 : Nat} {v2 : Nat} {v3 : Option Nat} {v4 : optParam Nat 1} : (State.tally v0 v1 v2 v3 v4).fuse = v0.fuse :=
  (kept_State_tally (m := 67108864) (by decide) (.refl _ _)).fuse rfl
@[simp] theorem State.tally_sg {v0 : State} {v1 : Nat} {v2 : Nat} {v3 : Option Nat} {v4 : optParam Nat 1} : (State.tally v0 v1 v2 v3 v4).sg = v0.sg :=
  (kept_State_tally (m := 134217728) (by decide) (.refl _ _)).sg rfl
@[simp] theorem State.tally_urg {v0 : State} {v1 : Nat} {v2 : Nat} {v3 : Option Nat} {v4 : optParam Nat 1} : (State.tally v0 v1 v2 v3 v4).urg = v0.urg :=
  (kept_State_tally (m := 268435456) (by decide) (.refl _ _)).urg rfl

@[simp] theorem State.trace_pending {v0 : State} {v1 : Nat} {v2 : Nat} {v3 : Option Nat} {v4 : Option Nat} {v5 : Nat} {v6 : Nat} : (State.trace v0 v1 v2 v3 v4 v5 v6).pending = v0.pending :=
  (kept_State_trace (m := 1) (by decide) (.refl _ _)).pending rfl
@[simp] theorem State.trace_out {v0 : State} {v1 : Nat} {v2 : Nat} {v3 : Option Nat} {v4 : Option Nat} {v5 : Nat} {v6 : Nat} : (State.trace v0 v1 v2 v3 v4 v5 v6).out = v0.out :=
  (kept_State_trace (m := 2) (by decide) (.refl _ _)).out rfl
@[simp] theorem State.trace_now {v0 : State} {v1 : Nat} {v2 : Nat} {v3 : Option Nat} {v4 : Option Nat} {v5 : Nat} {v6 : Nat} : (State.trace v0 v1 v2 v3 v4 v5 v6).now = v0.now :=
  (kept_State_trace (m := 4) (by decide) (.refl _ _)).now rfl
@[simp] theorem State.trace_tie {v0 : State} {v1 : Nat} {v2 : Nat} {v3 : Option Nat} {v4 : Option Nat} {v5 : Nat} {v6 : Nat} : (State.trace v0 v1 v2 v3 v4 v5 v6).tie = v0.tie :=
  (kept_State_trace (m := 8) (by decide) (.refl _ _)).tie rfl
@[simp] theorem State.trace_free {v0 : State} {v1 : Nat} {v2 : Nat} {v3 : Option Nat} {v4 : Option Nat} {v5 : Nat} {v6 : Nat} : (State.trace v0 v1 v2 v3 v4 v5 v6).free = v0.free :=
  (kept_State_trace (m := 16) (by decide) (.refl _ _)).free rfl
@[simp] theorem State.trace_tu {v0 : State} {v1 : Nat} {v2 : Nat} {v3 : Option Nat} {v4 : Option Nat} {v5 : Nat} {v6 : Nat} : (State.trace v0 v1 v2 v3 v4 v5 v6).tu = v0.tu :=
  (kept_State_trace (m := 4096) (by decide) (.refl _ _)).tu rfl
@[simp] theorem State.trace_ts {v0 : State} {v1 : Nat} {v2 : Nat} {v3 : Option Nat} {v4 : Option Nat} {v5 : Nat} {v6 : Nat} : (State.trace v0 v1 v2 v3 v4 v5 v6).ts = v0.ts :=
  (kept_State_trace (m := 8192) (by decide) (.refl _ _)).ts rfl
@[simp] theorem State.trace_hg {v0 : State} {v1 : Nat} {v2 : Nat} {v3 : Option Nat} {v4 : Option Nat} {v5 : Nat} {v6 : Nat} : (State.trace v0 v1 v2 v3 v4 v5 v6).hg = v0.hg :=
  (kept_State_trace (m := 32768) (by decide) (.refl _ _)).hg rfl
@[simp] theorem State.trace_mono {v0 : State} {v1 : Nat} {v2 : Nat} {v3 : Option Nat} {v4 : Option Nat} {v5 : Nat} {v6 : Nat} : (State.trace v0 v1 v2 v3 v4 v5 v6).mono = v0.mono :=
  (kept_State_trace (m := 262144) (by decide) (.refl _ _)).mono rfl
@[simp] theorem State.trace_ft {v0 : State} {v1 : Nat} {v2 : Nat} {v3 : Option Nat} {v4 : Option Nat} {v5 : Nat} {v6 : Nat} : (State.trace v0 v1 v2 v3 v4 v5 v6).ft = v0.ft :=
  (kept_State_trace (m := 524288) (by decide) (.refl _ _)).ft rfl
@[simp] theorem State.trace_me {v0 : State} {v1 : Nat} {v2 : Nat} {v3 : Option Nat} {v4 : Option Nat} {v5 : Nat} {v6 : Nat} : (State.trace v0 v1 v2 v3 v4 v5 v6).me = v0.me :=
  (kept_State_trace (m := 1048576) (by decide) (.refl _ _)).me rfl
@[simp] theorem State.trace_dce {v0 : State} {v1 : Nat} {v2 : Nat} {v3 : Option Nat} {v4 : Option Nat} {v5 : Nat} {v6 : Nat} : (State.trace v0 v1 v2 v3 v4 v5 v6).dce = v0.dce :=
  (kept_State_trace (m := 2097152) (by decide) (.refl _ _)).dce rfl
@[simp] theorem State.trace_fr {v0 : State} {v1 : Nat} {v2 : Nat} {v3 : Option Nat} {v4 : Option Nat} {v5 : Nat} {v6 : Nat} : (State.trace v0 v1 v2 v3 v4 v5 v6).fr = v0.fr :=
  (kept_State_trace (m := 4194304) (by decide) (.refl _ _)).fr rfl
@[simp] theorem State.trace_sb {v0 : State} {v1 : Nat} {v2 : Nat} {v3 : Option Nat} {v4 : Option Nat} {v5 : Nat} {v6 : Nat} : (State.trace v0 v1 v2 v3 v4 v5 v6).sb = v0.sb :=
  (kept_State_trace (m := 8388608) (by decide) (.refl _ _)).sb rfl
@[simp] theorem State.trace_pln {v0 : State} {v1 : Nat} {v2 : Nat} {v3 : Option Nat} {v4 : Option Nat} {v5 : Nat} {v6 : Nat} : (State.trace v0 v1 v2 v3 v4 v5 v6).pln = v0.pln :=
  (kept_State_trace (m := 16777216) (by decide) (.refl _ _)).pln rfl
@[simp] theorem State.trace_lc {v0 : State} {v1 : Nat} {v2 : Nat} {v3 : Option Nat} {v4 : Option Nat} {v5 : Nat} {v6 : Nat} : (State.trace v0 v1 v2 v3 v4 v5 v6).lc = v0.lc :=
  (kept_State_trace (m := 33554432) (by decide) (.refl _ _)).lc rfl
@[simp] theorem State.trace_fuse {v0 : State} {v1 : Nat} {v2 : Nat} {v3 : Option Nat} {v4 : Option Nat} {v5 : Nat} {v6 : Nat} : (State.trace v0 v1 v2 v3 v4 v5 v6).fuse = v0.fuse :=
  (kept_State_trace (m := 67108864) (by decide) (.refl _ _)).fuse rfl
@[simp] theorem State.trace_urg {v0 : State} {v1 : Nat} {v2 : Nat} {v3 : Option Nat} {v4 : Option Nat} {v5 : Nat} {v6 : Nat} : (State.trace v0 v1 v2 v3 v4 v5 v6).urg = v0.urg :=
  (kept_State_trace (m := 268435456) (by decide) (.refl _ _)).urg rfl

@[simp] theorem State.stopTrigger_pending {v0 : State} {v1 : Nat} : (State.stopTrigger v0 v1).pending = v0.pending :=
  (kept_State_stopTrigger (m := 1) (by decide) (.refl _ _)).pending rfl
@[simp] theorem State.stopTrigger_out {v0 : State} {v1 : Nat} : (State.stopTrigger v0 v1).out = v0.out :=
  (kept_State_stopTrigger (m := 2) (by decide) (.refl _ _)).out rfl
@[simp] theorem State.stopTrigger_now {v0 : State} {v1 : Nat} : (State.stopTrigger v0 v1).now = v0.now :=
  (kept_State_stopTrigger (m := 4) (by decide) (.refl _ _)).now rfl
@[simp] theorem State.stopTrigger_tie {v0 : State} {v1 : Nat} : (State.stopTrigger v0 v1).tie = v0.tie :=
  (kept_State_stopTrigger (m := 8) (by decide) (.refl _ _)).tie rfl
@[simp] theorem State.stopTrigger_free {v0 : State} {v1 : Nat} : (State.stopTrigger v0 v1).free = v0.free :=
  (kept_State_stopTrigger (m := 16) (by decide) (.refl _ _)).free rfl
@[simp] theorem State.stopTrigger_tu {v0 : State} {v1 : Nat} : (State.stopTrigger v0 v1).tu = v0.tu :=
  (kept_State_stopTrigger (m := 4096) (by decide) (.refl _ _)).tu rfl
@[simp] theorem State.stopTrigger_ts {v0 : State} {v1 : Nat} : (State.stopTrigger v0 v1).ts = v0.ts :=
  (kept_State_stopTrigger (m := 8192) (by decide) (.refl _ _)).ts rfl
@[simp] theorem State.stopTrigger_hg {v0 : State} {v1 : Nat} : (State.stopTrigger v0 v1).hg = v0.hg :=
  (kept_State_stopTrigger (m := 32768) (by decide) (.refl _ _)).hg rfl
@[simp] theorem State.stopTrigger_mono {v0 : State} {v1 : Nat} : (State.stopTrigger v0 v1).mono = v0.mono :=
  (kept_State_stopTrigger (m := 262144) (by decide) (.refl _ _)).mono rfl
@[simp] theorem State.stopTrigger_ft {v0 : State} {v1 : Nat} : (State.stopTrigger v0 v1).ft = v0.ft :=
  (kept_State_stopTrigger (m := 524288) (by decide) (.refl _ _)).ft rfl
@[simp] theorem State.stopTrigger_me {v0 : State} {v1 : Nat} : (State.stopTrigger v0 v1).me = v0.me :=
  (kept_State_stopTrigger (m := 1048576) (by decide) (.refl _ _)).me rfl
@[simp] theorem State.stopTrigger_dce {v0 : State} {v1 : Nat} : (State.stopTrigger v0 v1).dce = v0.dce :=
  (kept_State_stopTrigger (m := 2097152) (by decide) (.refl _ _)).dce rfl
@[simp] theorem State.stopTrigger_fr {v0 : State} {v1 : Nat} : (State.stopTrigger v0 v1).fr = v0.fr :=
  (kept_State_stopTrigger (m := 4194304) (by decide) (.refl _ _)).fr rfl
@[simp] theorem State.stopTrigger_sb {v0 : State} {v1 : Nat} : (State.stopTrigger v0 v1).sb = v0.sb :=
  (kept_State_stopTrigger (m := 8388608) (by decide) (.refl _ _)).sb rfl
@[simp] theorem State.stopTrigger_pln {v0 : State} {v1 : Nat} : (State.stopTrigger v0 v1).pln = v0.pln :=
  (kept_State_stopTrigger (m := 16777216) (by decide) (.refl _ _)).pln rfl
@[simp] theorem State.stopTrigger_lc {v0 : State} {v1 : Nat} : (State.stopTrigger v0 v1).lc = v0.lc :=
  (kept_State_stopTrigger (m := 33554432) (by decide) (.refl _ _)).lc rfl
@[simp] theorem State.stopTrigger_fuse {v0 : State} {v1 : Nat} : (State.stopTrigger v0 v1).fuse = v0.fuse :=
  (kept_State_stopTrigger (m := 67108864) (by decide) (.refl _ _)).fuse rfl
@[simp] theorem State.stopTrigger_urg {v0 : State} {v1 : Nat} : (State.stopTrigger v0 v1).urg = v0.urg :=
  (kept_State_stopTrigger (m := 268435456) (by decide) (.refl _ _)).urg rfl

@[simp] theorem State.ringRecord_pending {v0 : State} {v1 : FaultEv} : (State.ringRecord v0 v1).pending = v0.pending :=
  (kept_State_ringRecord (m := 1) (by decide) (.refl _ _)).pending rfl
@[simp] theorem State.ringRecord_out {v0 : State} {v1 : FaultEv} : (State.ringRecord v0 v1).out = v0.out :=
  (kept_State_ringRecord (m := 2) (by decide) (.refl _ _)).out rfl
@[simp] theorem State.ringRecord_now {v0 : State} {v1 : FaultEv} : (State.ringRecord v0 v1).now = v0.now :=
  (kept_State_ringRecord (m := 4) (by decide) (.refl _ _)).now rfl
@[simp] theorem State.ringRecord_tie {v0 : State} {v1 : FaultEv} : (State.ringRecord v0 v1).tie = v0.tie :=
  (kept_State_ringRecord (m := 8) (by decide) (.refl _ _)).tie rfl
@[simp] theorem State.ringRecord_free {v0 : State} {v1 : FaultEv} : (State.ringRecord v0 v1).free = v0.free :=
  (kept_State_ringRecord (m := 16) (by decide) (.refl _ _)).free rfl
@[simp] theorem State.ringRecord_tu {v0 : State} {v1 : FaultEv} : (State.ringRecord v0 v1).tu = v0.tu :=
  (kept_State_ringRecord (m := 4096) (by decide) (.refl _ _)).tu rfl
@[simp] theorem State.ringRecord_ts {v0 : State} {v1 : FaultEv} : (State.ringRecord v0 v1).ts = v0.ts :=
  (kept_State_ringRecord (m := 8192) (by decide) (.refl _ _)).ts rfl
@[simp] theorem State.ringRecord_hg {v0 : State} {v1 : FaultEv} : (State.ringRecord v0 v1).hg = v0.hg :=
  (kept_State_ringRecord (m := 32768) (by decide) (.refl _ _)).hg rfl
@[simp] theorem State.ringRecord_ou {v0 : State} {v1 : FaultEv} : (State.ringRecord v0 v1).ou = v0.ou :=
  (kept_State_ringRecord (m := 131072) (by decide) (.refl _ _)).ou rfl
@[simp] theorem State.ringRecord_mono {v0 : State} {v1 : FaultEv} : (State.ringRecord v0 v1).mono = v0.mono :=
  (kept_State_ringRecord (m := 262144) (by decide) (.refl _ _)).mono rfl
@[simp] theorem State.ringRecord_ft {v0 : State} {v1 : FaultEv} : (State.ringRecord v0 v1).ft = v0.ft :=
  (kept_State_ringRecord (m := 524288) (by decide) (.refl _ _)).ft rfl
@[simp] theorem State.ringRecord_me {v0 : State} {v1 : FaultEv} : (State.ringRecord v0 v1).me = v0.me :=
  (kept_State_ringRecord (m := 1048576) (by decide) (.refl _ _)).me rfl
@[simp] theorem State.ringRecord_dce {v0 : State} {v1 : FaultEv} : (State.ringRecord v0 v1).dce = v0.dce :=
  (kept_State_ringRecord (m := 2097152) (by decide) (.refl _ _)).dce rfl
@[simp] theorem State.ringRecord_fr {v0 : State} {v1 : FaultEv} : (State.ringRecord v0 v1).fr = v0.fr :=
  (kept_State_ringRecord (m := 4194304) (by decide) (.refl _ _)).fr rfl
@[simp] theorem State.ringRecord_sb {v0 : State} {v1 : FaultEv} : (State.ringRecord v0 v1).sb = v0.sb :=
  (kept_State_ringRecord (m := 8388608) (by decide) (.refl _ _)).sb rfl
@[simp] theorem State.ringRecord_pln {v0 : State} {v1 : FaultEv} : (State.ringRecord v0 v1).pln = v0.pln :=
  (kept_State_ringRecord (m := 16777216) (by decide) (.refl _ _)).pln rfl
@[simp] theorem State.ringRecord_lc {v0 : State} {v1 : FaultEv} : (State.ringRecord v0 v1).lc = v0.lc :=
  (kept_State_ringRecord (m := 33554432) (by decide) (.refl _ _)).lc rfl
@[simp] theorem State.ringRecord_fuse {v0 : State} {v1 : FaultEv} : (State.ringRecord v0 v1).fuse = v0.fuse :=
  (kept_State_ringRecord (m := 67108864) (by decide) (.refl _ _)).fuse rfl
@[simp] theorem State.ringRecord_urg {v0 : State} {v1 : FaultEv} : (State.ringRecord v0 v1).urg = v0.urg :=
  (kept_State_ringRecord (m := 268435456) (by decide) (.refl _ _)).urg rfl

@[simp] theorem State.faultEvent_pending {v0 : State} {v1 : FaultEv} : (State.faultEvent v0 v1).pending = v0.pending :=
  (kept_State_faultEvent (m := 1) (by decide) (.refl _ _)).pending rfl
@[simp] theorem State.faultEvent_out {v0 : State} {v1 : FaultEv} : (State.faultEvent v0 v1).out = v0.out :=
  (kept_State_faultEvent (m := 2) (by decide) (.refl _ _)).out rfl
@[simp] theorem State.faultEvent_now {v0 : State} {v1 : FaultEv} : (State.faultEvent v0 v1).now = v0.now :=
  (kept_State_faultEvent (m := 4) (by decide) (.refl _ _)).now rfl
@[simp] theorem State.faultEvent_tie {v0 : State} {v1 : FaultEv} : (State.faultEvent v0 v1).tie = v0.tie :=
  (kept_State_faultEvent (m := 8) (by decide) (.refl _ _)).tie rfl
@[simp] theorem State.faultEvent_free {v0 : State} {v1 : FaultEv} : (State.faultEvent v0 v1).free = v0.free :=
  (kept_State_faultEvent (m := 16) (by decide) (.refl _ _)).free rfl
@[simp] theorem State.faultEvent_tu {v0 : State} {v1 : FaultEv} : (State.faultEvent v0 v1).tu = v0.tu :=
  (kept_State_faultEvent (m := 4096) (by decide) (.refl _ _)).tu rfl
@[simp] theorem State.faultEvent_ts {v0 : State} {v1 : FaultEv} : (State.faultEvent v0 v1).ts = v0.ts :=
  (kept_State_faultEvent (m := 8192) (by decide) (.refl _ _)).ts rfl
@[simp] theorem State.faultEvent_hg {v0 : State} {v1 : FaultEv} : (State.faultEvent v0 v1).hg = v0.hg :=
  (kept_State_faultEvent (m := 32768) (by decide) (.refl _ _)).hg rfl
@[simp] theorem State.faultEvent_mono {v0 : State} {v1 : FaultEv} : (State.faultEvent v0 v1).mono = v0.mono :=
  (kept_State_faultEvent (m := 262144) (by decide) (.refl _ _)).mono rfl
@[simp] theorem State.faultEvent_ft {v0 : State} {v1 : FaultEv} : (State.faultEvent v0 v1).ft = v0.ft :=
  (kept_State_faultEvent (m := 524288) (by decide) (.refl _ _)).ft rfl
@[simp] theorem State.faultEvent_me {v0 : State} {v1 : FaultEv} : (State.faultEvent v0 v1).me = v0.me :=
  (kept_State_faultEvent (m := 1048576) (by decide) (.refl _ _)).me rfl
@[simp] theorem State.faultEvent_dce {v0 : State} {v1 : FaultEv} : (State.faultEvent v0 v1).dce = v0.dce :=
  (kept_State_faultEvent (m := 2097152) (by decide) (.refl _ _)).dce rfl
@[simp] theorem State.faultEvent_fr {v0 : State} {v1 : FaultEv} : (State.faultEvent v0 v1).fr = v0.fr :=
  (kept_State_faultEvent (m := 4194304) (by decide) (.refl _ _)).fr rfl
@[simp] theorem State.faultEvent_sb {v0 : State} {v1 : FaultEv} : (State.faultEvent v0 v1).sb = v0.sb :=
  (kept_State_faultEvent (m := 8388608) (by decide) (.refl _ _)).sb rfl
@[simp] theorem State.faultEvent_pln {v0 : State} {v1 : FaultEv} : (State.faultEvent v0 v1).pln = v0.pln :=
  (kept_State_faultEvent (m := 16777216) (by decide) (.refl _ _)).pln rfl
@[simp] theorem State.faultEvent_lc {v0 : State} {v1 : FaultEv} : (State.faultEvent v0 v1).lc = v0.lc :=
  (kept_State_faultEvent (m := 33554432) (by decide) (.refl _ _)).lc rfl
@[simp] theorem State.faultEvent_fuse {v0 : State} {v1 : FaultEv} : (State.faultEvent v0 v1).fuse = v0.fuse :=
  (kept_State_faultEvent (m := 67108864) (by decide) (.refl _ _)).fuse rfl
@[simp] theorem State.faultEvent_urg {v0 : State} {v1 : FaultEv} : (State.faultEvent v0 v1).urg = v0.urg :=
  (kept_State_faultEvent (m := 268435456) (by decide) (.refl _ _)).urg rfl

@[simp] theorem State.sendTray_pending {v0 : State} {v1 : Nat} {v2 : List Byte} : (State.sendTray v0 v1 v2).pending = v0.pending :=
  (kept_State_sendTray (m := 1) (by decide) (.refl _ _)).pending rfl
@[simp] theorem State.sendTray_now {v0 : State} {v1 : Nat} {v2 : List Byte} : (State.sendTray v0 v1 v2).now = v0.now :=
  (kept_State_sendTray (m := 4) (by decide) (.refl _ _)).now rfl
@[simp] theorem State.sendTray_tie {v0 : State} {v1 : Nat} {v2 : List Byte} : (State.sendTray v0 v1 v2).tie = v0.tie :=
  (kept_State_sendTray (m := 8) (by decide) (.refl _ _)).tie rfl
@[simp] theorem State.sendTray_free {v0 : State} {v1 : Nat} {v2 : List Byte} : (State.sendTray v0 v1 v2).free = v0.free :=
  (kept_State_sendTray (m := 16) (by decide) (.refl _ _)).free rfl
@[simp] theorem State.sendTray_regs {v0 : State} {v1 : Nat} {v2 : List Byte} : (State.sendTray v0 v1 v2).regs = v0.regs :=
  (kept_State_sendTray (m := 32) (by decide) (.refl _ _)).regs rfl
@[simp] theorem State.sendTray_dev {v0 : State} {v1 : Nat} {v2 : List Byte} : (State.sendTray v0 v1 v2).dev = v0.dev :=
  (kept_State_sendTray (m := 64) (by decide) (.refl _ _)).dev rfl
@[simp] theorem State.sendTray_hostMem {v0 : State} {v1 : Nat} {v2 : List Byte} : (State.sendTray v0 v1 v2).hostMem = v0.hostMem :=
  (kept_State_sendTray (m := 128) (by decide) (.refl _ _)).hostMem rfl
@[simp] theorem State.sendTray_lost {v0 : State} {v1 : Nat} {v2 : List Byte} : (State.sendTray v0 v1 v2).lost = v0.lost :=
  (kept_State_sendTray (m := 256) (by decide) (.refl _ _)).lost rfl
@[simp] theorem State.sendTray_cabs {v0 : State} {v1 : Nat} {v2 : List Byte} : (State.sendTray v0 v1 v2).cabs = v0.cabs :=
  (kept_State_sendTray (m := 512) (by decide) (.refl _ _)).cabs rfl
@[simp] theorem State.sendTray_drw {v0 : State} {v1 : Nat} {v2 : List Byte} : (State.sendTray v0 v1 v2).drw = v0.drw :=
  (kept_State_sendTray (m := 1024) (by decide) (.refl _ _)).drw rfl
@[simp] theorem State.sendTray_lat {v0 : State} {v1 : Nat} {v2 : List Byte} : (State.sendTray v0 v1 v2).lat = v0.lat :=
  (kept_State_sendTray (m := 2048) (by decide) (.refl _ _)).lat rfl
@[simp] theorem State.sendTray_tu {v0 : State} {v1 : Nat} {v2 : List Byte} : (State.sendTray v0 v1 v2).tu = v0.tu :=
  (kept_State_sendTray (m := 4096) (by decide) (.refl _ _)).tu rfl
@[simp] theorem State.sendTray_ts {v0 : State} {v1 : Nat} {v2 : List Byte} : (State.sendTray v0 v1 v2).ts = v0.ts :=
  (kept_State_sendTray (m := 8192) (by decide) (.refl _ _)).ts rfl
@[simp] theorem State.sendTray_mix {v0 : State} {v1 : Nat} {v2 : List Byte} : (State.sendTray v0 v1 v2).mix = v0.mix :=
  (kept_State_sendTray (m := 16384) (by decide) (.refl _ _)).mix rfl
@[simp] theorem State.sendTray_hg {v0 : State} {v1 : Nat} {v2 : List Byte} : (State.sendTray v0 v1 v2).hg = v0.hg :=
  (kept_State_sendTray (m := 32768) (by decide) (.refl _ _)).hg rfl
@[simp] theorem State.sendTray_rcv {v0 : State} {v1 : Nat} {v2 : List Byte} : (State.sendTray v0 v1 v2).rcv = v0.rcv :=
  (kept_State_sendTray (m := 65536) (by decide) (.refl _ _)).rcv rfl
@[simp] theorem State.sendTray_ou {v0 : State} {v1 : Nat} {v2 : List Byte} : (State.sendTray v0 v1 v2).ou = v0.ou :=
  (kept_State_sendTray (m := 131072) (by decide) (.refl _ _)).ou rfl
@[simp] theorem State.sendTray_mono {v0 : State} {v1 : Nat} {v2 : List Byte} : (State.sendTray v0 v1 v2).mono = v0.mono :=
  (kept_State_sendTray (m := 262144) (by decide) (.refl _ _)).mono rfl
@[simp] theorem State.sendTray_ft {v0 : State} {v1 : Nat} {v2 : List Byte} : (State.sendTray v0 v1 v2).ft = v0.ft :=
  (kept_State_sendTray (m := 524288) (by decide) (.refl _ _)).ft rfl
@[simp] theorem State.sendTray_me {v0 : State} {v1 : Nat} {v2 : List Byte} : (State.sendTray v0 v1 v2).me = v0.me :=
  (kept_State_sendTray (m := 1048576) (by decide) (.refl _ _)).me rfl
@[simp] theorem State.sendTray_dce {v0 : State} {v1 : Nat} {v2 : List Byte} : (State.sendTray v0 v1 v2).dce = v0.dce :=
  (kept_State_sendTray (m := 2097152) (by decide) (.refl _ _)).dce rfl
@[simp] theorem State.sendTray_fr {v0 : State} {v1 : Nat} {v2 : List Byte} : (State.sendTray v0 v1 v2).fr = v0.fr :=
  (kept_State_sendTray (m := 4194304) (by decide) (.refl _ _)).fr rfl
@[simp] theorem State.sendTray_sb {v0 : State} {v1 : Nat} {v2 : List Byte} : (State.sendTray v0 v1 v2).sb = v0.sb :=
  (kept_State_sendTray (m := 8388608) (by decide) (.refl _ _)).sb rfl
@[simp] theorem State.sendTray_lc {v0 : State} {v1 : Nat} {v2 : List Byte} : (State.sendTray v0 v1 v2).lc = v0.lc :=
  (kept_State_sendTray (m := 33554432) (by decide) (.refl _ _)).lc rfl
@[simp] theorem State.sendTray_fuse {v0 : State} {v1 : Nat} {v2 : List Byte} : (State.sendTray v0 v1 v2).fuse = v0.fuse :=
  (kept_State_sendTray (m := 67108864) (by decide) (.refl _ _)).fuse rfl
@[simp] theorem State.sendTray_sg {v0 : State} {v1 : Nat} {v2 : List Byte} : (State.sendTray v0 v1 v2).sg = v0.sg :=
  (kept_State_sendTray (m := 134217728) (by decide) (.refl _ _)).sg rfl
@[simp] theorem State.sendTray_urg {v0 : State} {v1 : Nat} {v2 : List Byte} : (State.sendTray v0 v1 v2).urg = v0.urg :=
  (kept_State_sendTray (m := 268435456) (by decide) (.refl _ _)).urg rfl

@[simp] theorem State.blockState_pending {v0 : State} {v1 : Nat} : (State.blockState v0 v1).pending = v0.pending :=
  (kept_State_blockState (m := 1) (by decide) (.refl _ _)).pending rfl
@[simp] theorem State.blockState_now {v0 : State} {v1 : Nat} : (State.blockState v0 v1).now = v0.now :=
  (kept_State_blockState (m := 4) (by decide) (.refl _ _)).now rfl
@[simp] theorem State.blockState_tie {v0 : State} {v1 : Nat} : (State.blockState v0 v1).tie = v0.tie :=
  (kept_State_blockState (m := 8) (by decide) (.refl _ _)).tie rfl
@[simp] theorem State.blockState_free {v0 : State} {v1 : Nat} : (State.blockState v0 v1).free = v0.free :=
  (kept_State_blockState (m := 16) (by decide) (.refl _ _)).free rfl
@[simp] theorem State.blockState_tu {v0 : State} {v1 : Nat} : (State.blockState v0 v1).tu = v0.tu :=
  (kept_State_blockState (m := 4096) (by decide) (.refl _ _)).tu rfl
@[simp] theorem State.blockState_ts {v0 : State} {v1 : Nat} : (State.blockState v0 v1).ts = v0.ts :=
  (kept_State_blockState (m := 8192) (by decide) (.refl _ _)).ts rfl
@[simp] theorem State.blockState_hg {v0 : State} {v1 : Nat} : (State.blockState v0 v1).hg = v0.hg :=
  (kept_State_blockState (m := 32768) (by decide) (.refl _ _)).hg rfl
@[simp] theorem State.blockState_mono {v0 : State} {v1 : Nat} : (State.blockState v0 v1).mono = v0.mono :=
  (kept_State_blockState (m := 262144) (by decide) (.refl _ _)).mono rfl
@[simp] theorem State.blockState_ft {v0 : State} {v1 : Nat} : (State.blockState v0 v1).ft = v0.ft :=
  (kept_State_blockState (m := 524288) (by decide) (.refl _ _)).ft rfl
@[simp] theorem State.blockState_me {v0 : State} {v1 : Nat} : (State.blockState v0 v1).me = v0.me :=
  (kept_State_blockState (m := 1048576) (by decide) (.refl _ _)).me rfl
@[simp] theorem State.blockState_dce {v0 : State} {v1 : Nat} : (State.blockState v0 v1).dce = v0.dce :=
  (kept_State_blockState (m := 2097152) (by decide) (.refl _ _)).dce rfl
@[simp] theorem State.blockState_fr {v0 : State} {v1 : Nat} : (State.blockState v0 v1).fr = v0.fr :=
  (kept_State_blockState (m := 4194304) (by decide) (.refl _ _)).fr rfl
@[simp] theorem State.blockState_sb {v0 : State} {v1 : Nat} : (State.blockState v0 v1).sb = v0.sb :=
  (kept_State_blockState (m := 8388608) (by decide) (.refl _ _)).sb rfl
@[simp] theorem State.blockState_lc {v0 : State} {v1 : Nat} : (State.blockState v0 v1).lc = v0.lc :=
  (kept_State_blockState (m := 33554432) (by decide) (.refl _ _)).lc rfl
@[simp] theorem State.blockState_fuse {v0 : State} {v1 : Nat} : (State.blockState v0 v1).fuse = v0.fuse :=
  (kept_State_blockState (m := 67108864) (by decide) (.refl _ _)).fuse rfl
@[simp] theorem State.blockState_urg {v0 : State} {v1 : Nat} : (State.blockState v0 v1).urg = v0.urg :=
  (kept_State_blockState (m := 268435456) (by decide) (.refl _ _)).urg rfl

@[simp] theorem State.raiseRung_pending {v0 : State} : (State.raiseRung v0).pending = v0.pending :=
  (kept_State_raiseRung (m := 1) (by decide) (.refl _ _)).pending rfl
@[simp] theorem State.raiseRung_out {v0 : State} : (State.raiseRung v0).out = v0.out :=
  (kept_State_raiseRung (m := 2) (by decide) (.refl _ _)).out rfl
@[simp] theorem State.raiseRung_now {v0 : State} : (State.raiseRung v0).now = v0.now :=
  (kept_State_raiseRung (m := 4) (by decide) (.refl _ _)).now rfl
@[simp] theorem State.raiseRung_tie {v0 : State} : (State.raiseRung v0).tie = v0.tie :=
  (kept_State_raiseRung (m := 8) (by decide) (.refl _ _)).tie rfl
@[simp] theorem State.raiseRung_free {v0 : State} : (State.raiseRung v0).free = v0.free :=
  (kept_State_raiseRung (m := 16) (by decide) (.refl _ _)).free rfl
@[simp] theorem State.raiseRung_regs {v0 : State} : (State.raiseRung v0).regs = v0.regs :=
  (kept_State_raiseRung (m := 32) (by decide) (.refl _ _)).regs rfl
@[simp] theorem State.raiseRung_dev {v0 : State} : (State.raiseRung v0).dev = v0.dev :=
  (kept_State_raiseRung (m := 64) (by decide) (.refl _ _)).dev rfl
@[simp] theorem State.raiseRung_hostMem {v0 : State} : (State.raiseRung v0).hostMem = v0.hostMem :=
  (kept_State_raiseRung (m := 128) (by decide) (.refl _ _)).hostMem rfl
@[simp] theorem State.raiseRung_lost {v0 : State} : (State.raiseRung v0).lost = v0.lost :=
  (kept_State_raiseRung (m := 256) (by decide) (.refl _ _)).lost rfl
@[simp] theorem State.raiseRung_cabs {v0 : State} : (State.raiseRung v0).cabs = v0.cabs :=
  (kept_State_raiseRung (m := 512) (by decide) (.refl _ _)).cabs rfl
@[simp] theorem State.raiseRung_drw {v0 : State} : (State.raiseRung v0).drw = v0.drw :=
  (kept_State_raiseRung (m := 1024) (by decide) (.refl _ _)).drw rfl
@[simp] theorem State.raiseRung_lat {v0 : State} : (State.raiseRung v0).lat = v0.lat :=
  (kept_State_raiseRung (m := 2048) (by decide) (.refl _ _)).lat rfl
@[simp] theorem State.raiseRung_tu {v0 : State} : (State.raiseRung v0).tu = v0.tu :=
  (kept_State_raiseRung (m := 4096) (by decide) (.refl _ _)).tu rfl
@[simp] theorem State.raiseRung_ts {v0 : State} : (State.raiseRung v0).ts = v0.ts :=
  (kept_State_raiseRung (m := 8192) (by decide) (.refl _ _)).ts rfl
@[simp] theorem State.raiseRung_mix {v0 : State} : (State.raiseRung v0).mix = v0.mix :=
  (kept_State_raiseRung (m := 16384) (by decide) (.refl _ _)).mix rfl
@[simp] theorem State.raiseRung_hg {v0 : State} : (State.raiseRung v0).hg = v0.hg :=
  (kept_State_raiseRung (m := 32768) (by decide) (.refl _ _)).hg rfl
@[simp] theorem State.raiseRung_rcv {v0 : State} : (State.raiseRung v0).rcv = v0.rcv :=
  (kept_State_raiseRung (m := 65536) (by decide) (.refl _ _)).rcv rfl
@[simp] theorem State.raiseRung_ou {v0 : State} : (State.raiseRung v0).ou = v0.ou :=
  (kept_State_raiseRung (m := 131072) (by decide) (.refl _ _)).ou rfl
@[simp] theorem State.raiseRung_mono {v0 : State} : (State.raiseRung v0).mono = v0.mono :=
  (kept_State_raiseRung (m := 262144) (by decide) (.refl _ _)).mono rfl
@[simp] theorem State.raiseRung_ft {v0 : State} : (State.raiseRung v0).ft = v0.ft :=
  (kept_State_raiseRung (m := 524288) (by decide) (.refl _ _)).ft rfl
@[simp] theorem State.raiseRung_me {v0 : State} : (State.raiseRung v0).me = v0.me :=
  (kept_State_raiseRung (m := 1048576) (by decide) (.refl _ _)).me rfl
@[simp] theorem State.raiseRung_dce {v0 : State} : (State.raiseRung v0).dce = v0.dce :=
  (kept_State_raiseRung (m := 2097152) (by decide) (.refl _ _)).dce rfl
@[simp] theorem State.raiseRung_fr {v0 : State} : (State.raiseRung v0).fr = v0.fr :=
  (kept_State_raiseRung (m := 4194304) (by decide) (.refl _ _)).fr rfl
@[simp] theorem State.raiseRung_sb {v0 : State} : (State.raiseRung v0).sb = v0.sb :=
  (kept_State_raiseRung (m := 8388608) (by decide) (.refl _ _)).sb rfl
@[simp] theorem State.raiseRung_lc {v0 : State} : (State.raiseRung v0).lc = v0.lc :=
  (kept_State_raiseRung (m := 33554432) (by decide) (.refl _ _)).lc rfl
@[simp] theorem State.raiseRung_fuse {v0 : State} : (State.raiseRung v0).fuse = v0.fuse :=
  (kept_State_raiseRung (m := 67108864) (by decide) (.refl _ _)).fuse rfl
@[simp] theorem State.raiseRung_sg {v0 : State} : (State.raiseRung v0).sg = v0.sg :=
  (kept_State_raiseRung (m := 134217728) (by decide) (.refl _ _)).sg rfl
@[simp] theorem State.raiseRung_urg {v0 : State} : (State.raiseRung v0).urg = v0.urg :=
  (kept_State_raiseRung (m := 268435456) (by decide) (.refl _ _)).urg rfl

@[simp] theorem State.resumeQuiet_pending {v0 : State} {v1 : Nat → Bool} : (State.resumeQuiet v0 v1).pending = v0.pending :=
  (kept_State_resumeQuiet (m := 1) (by decide) (.refl _ _)).pending rfl
@[simp] theorem State.resumeQuiet_out {v0 : State} {v1 : Nat → Bool} : (State.resumeQuiet v0 v1).out = v0.out :=
  (kept_State_resumeQuiet (m := 2) (by decide) (.refl _ _)).out rfl
@[simp] theorem State.resumeQuiet_now {v0 : State} {v1 : Nat → Bool} : (State.resumeQuiet v0 v1).now = v0.now :=
  (kept_State_resumeQuiet (m := 4) (by decide) (.refl _ _)).now rfl
@[simp] theorem State.resumeQuiet_tie {v0 : State} {v1 : Nat → Bool} : (State.resumeQuiet v0 v1).tie = v0.tie :=
  (kept_State_resumeQuiet (m := 8) (by decide) (.refl _ _)).tie rfl
@[simp] theorem State.resumeQuiet_free {v0 : State} {v1 : Nat → Bool} : (State.resumeQuiet v0 v1).free = v0.free :=
  (kept_State_resumeQuiet (m := 16) (by decide) (.refl _ _)).free rfl
@[simp] theorem State.resumeQuiet_regs {v0 : State} {v1 : Nat → Bool} : (State.resumeQuiet v0 v1).regs = v0.regs :=
  (kept_State_resumeQuiet (m := 32) (by decide) (.refl _ _)).regs rfl
@[simp] theorem State.resumeQuiet_dev {v0 : State} {v1 : Nat → Bool} : (State.resumeQuiet v0 v1).dev = v0.dev :=
  (kept_State_resumeQuiet (m := 64) (by decide) (.refl _ _)).dev rfl
@[simp] theorem State.resumeQuiet_hostMem {v0 : State} {v1 : Nat → Bool} : (State.resumeQuiet v0 v1).hostMem = v0.hostMem :=
  (kept_State_resumeQuiet (m := 128) (by decide) (.refl _ _)).hostMem rfl
@[simp] theorem State.resumeQuiet_lost {v0 : State} {v1 : Nat → Bool} : (State.resumeQuiet v0 v1).lost = v0.lost :=
  (kept_State_resumeQuiet (m := 256) (by decide) (.refl _ _)).lost rfl
@[simp] theorem State.resumeQuiet_cabs {v0 : State} {v1 : Nat → Bool} : (State.resumeQuiet v0 v1).cabs = v0.cabs :=
  (kept_State_resumeQuiet (m := 512) (by decide) (.refl _ _)).cabs rfl
@[simp] theorem State.resumeQuiet_drw {v0 : State} {v1 : Nat → Bool} : (State.resumeQuiet v0 v1).drw = v0.drw :=
  (kept_State_resumeQuiet (m := 1024) (by decide) (.refl _ _)).drw rfl
@[simp] theorem State.resumeQuiet_lat {v0 : State} {v1 : Nat → Bool} : (State.resumeQuiet v0 v1).lat = v0.lat :=
  (kept_State_resumeQuiet (m := 2048) (by decide) (.refl _ _)).lat rfl
@[simp] theorem State.resumeQuiet_tu {v0 : State} {v1 : Nat → Bool} : (State.resumeQuiet v0 v1).tu = v0.tu :=
  (kept_State_resumeQuiet (m := 4096) (by decide) (.refl _ _)).tu rfl
@[simp] theorem State.resumeQuiet_ts {v0 : State} {v1 : Nat → Bool} : (State.resumeQuiet v0 v1).ts = v0.ts :=
  (kept_State_resumeQuiet (m := 8192) (by decide) (.refl _ _)).ts rfl
@[simp] theorem State.resumeQuiet_mix {v0 : State} {v1 : Nat → Bool} : (State.resumeQuiet v0 v1).mix = v0.mix :=
  (kept_State_resumeQuiet (m := 16384) (by decide) (.refl _ _)).mix rfl
@[simp] theorem State.resumeQuiet_hg {v0 : State} {v1 : Nat → Bool} : (State.resumeQuiet v0 v1).hg = v0.hg :=
  (kept_State_resumeQuiet (m := 32768) (by decide) (.refl _ _)).hg rfl
@[simp] theorem State.resumeQuiet_rcv {v0 : State} {v1 : Nat → Bool} : (State.resumeQuiet v0 v1).rcv = v0.rcv :=
  (kept_State_resumeQuiet (m := 65536) (by decide) (.refl _ _)).rcv rfl
@[simp] theorem State.resumeQuiet_ou {v0 : State} {v1 : Nat → Bool} : (State.resumeQuiet v0 v1).ou = v0.ou :=
  (kept_State_resumeQuiet (m := 131072) (by decide) (.refl _ _)).ou rfl
@[simp] theorem State.resumeQuiet_mono {v0 : State} {v1 : Nat → Bool} : (State.resumeQuiet v0 v1).mono = v0.mono :=
  (kept_State_resumeQuiet (m := 262144) (by decide) (.refl _ _)).mono rfl
@[simp] theorem State.resumeQuiet_ft {v0 : State} {v1 : Nat → Bool} : (State.resumeQuiet v0 v1).ft = v0.ft :=
  (kept_State_resumeQuiet (m := 524288) (by decide) (.refl _ _)).ft rfl
@[simp] theorem State.resumeQuiet_dce {v0 : State} {v1 : Nat → Bool} : (State.resumeQuiet v0 v1).dce = v0.dce :=
  (kept_State_resumeQuiet (m := 2097152) (by decide) (.refl _ _)).dce rfl
@[simp] theorem State.resumeQuiet_fr {v0 : State} {v1 : Nat → Bool} : (State.resumeQuiet v0 v1).fr = v0.fr :=
  (kept_State_resumeQuiet (m := 4194304) (by decide) (.refl _ _)).fr rfl
@[simp] theorem State.resumeQuiet_sb {v0 : State} {v1 : Nat → Bool} : (State.resumeQuiet v0 v1).sb = v0.sb :=
  (kept_State_resumeQuiet (m := 8388608) (by decide) (.refl _ _)).sb rfl
@[simp] theorem State.resumeQuiet_pln {v0 : State} {v1 : Nat → Bool} : (State.resumeQuiet v0 v1).pln = v0.pln :=
  (kept_State_resumeQuiet (m := 16777216) (by decide) (.refl _ _)).pln rfl
@[simp] theorem State.resumeQuiet_lc {v0 : State} {v1 : Nat → Bool} : (State.resumeQuiet v0 v1).lc = v0.lc :=
  (kept_State_resumeQuiet (m := 33554432) (by decide) (.refl _ _)).lc rfl
@[simp] theorem State.resumeQuiet_fuse {v0 : State} {v1 : Nat → Bool} : (State.resumeQuiet v0 v1).fuse = v0.fuse :=
  (kept_State_resumeQuiet (m := 67108864) (by decide) (.refl _ _)).fuse rfl
@[simp] theorem State.resumeQuiet_sg {v0 : State} {v1 : Nat → Bool} : (State.resumeQuiet v0 v1).sg = v0.sg :=
  (kept_State_resumeQuiet (m := 134217728) (by decide) (.refl _ _)).sg rfl
@[simp] theorem State.resumeQuiet_urg {v0 : State} {v1 : Nat → Bool} : (State.resumeQuiet v0 v1).urg = v0.urg :=
  (kept_State_resumeQuiet (m := 268435456) (by decide) (.refl _ _)).urg rfl

@[simp] theorem State.abortEntry_pending {v0 : State} {v1 : Entry} {v2 : Nat} {v3 : Nat} : (State.abortEntry v0 v1 v2 v3).pending = v0.pending :=
  (kept_State_abortEntry (m := 1) (by decide) (.refl _ _)).pending rfl
@[simp] theorem State.abortEntry_now {v0 : State} {v1 : Entry} {v2 : Nat} {v3 : Nat} : (State.abortEntry v0 v1 v2 v3).now = v0.now :=
  (kept_State_abortEntry (m := 4) (by decide) (.refl _ _)).now rfl
@[simp] theorem State.abortEntry_tie {v0 : State} {v1 : Entry} {v2 : Nat} {v3 : Nat} : (State.abortEntry v0 v1 v2 v3).tie = v0.tie :=
  (kept_State_abortEntry (m := 8) (by decide) (.refl _ _)).tie rfl
@[simp] theorem State.abortEntry_free {v0 : State} {v1 : Entry} {v2 : Nat} {v3 : Nat} : (State.abortEntry v0 v1 v2 v3).free = v0.free :=
  (kept_State_abortEntry (m := 16) (by decide) (.refl _ _)).free rfl
@[simp] theorem State.abortEntry_dev {v0 : State} {v1 : Entry} {v2 : Nat} {v3 : Nat} : (State.abortEntry v0 v1 v2 v3).dev = v0.dev :=
  (kept_State_abortEntry (m := 64) (by decide) (.refl _ _)).dev rfl
@[simp] theorem State.abortEntry_hostMem {v0 : State} {v1 : Entry} {v2 : Nat} {v3 : Nat} : (State.abortEntry v0 v1 v2 v3).hostMem = v0.hostMem :=
  (kept_State_abortEntry (m := 128) (by decide) (.refl _ _)).hostMem rfl
@[simp] theorem State.abortEntry_lost {v0 : State} {v1 : Entry} {v2 : Nat} {v3 : Nat} : (State.abortEntry v0 v1 v2 v3).lost = v0.lost :=
  (kept_State_abortEntry (m := 256) (by decide) (.refl _ _)).lost rfl
@[simp] theorem State.abortEntry_cabs {v0 : State} {v1 : Entry} {v2 : Nat} {v3 : Nat} : (State.abortEntry v0 v1 v2 v3).cabs = v0.cabs :=
  (kept_State_abortEntry (m := 512) (by decide) (.refl _ _)).cabs rfl
@[simp] theorem State.abortEntry_drw {v0 : State} {v1 : Entry} {v2 : Nat} {v3 : Nat} : (State.abortEntry v0 v1 v2 v3).drw = v0.drw :=
  (kept_State_abortEntry (m := 1024) (by decide) (.refl _ _)).drw rfl
@[simp] theorem State.abortEntry_lat {v0 : State} {v1 : Entry} {v2 : Nat} {v3 : Nat} : (State.abortEntry v0 v1 v2 v3).lat = v0.lat :=
  (kept_State_abortEntry (m := 2048) (by decide) (.refl _ _)).lat rfl
@[simp] theorem State.abortEntry_tu {v0 : State} {v1 : Entry} {v2 : Nat} {v3 : Nat} : (State.abortEntry v0 v1 v2 v3).tu = v0.tu :=
  (kept_State_abortEntry (m := 4096) (by decide) (.refl _ _)).tu rfl
@[simp] theorem State.abortEntry_ts {v0 : State} {v1 : Entry} {v2 : Nat} {v3 : Nat} : (State.abortEntry v0 v1 v2 v3).ts = v0.ts :=
  (kept_State_abortEntry (m := 8192) (by decide) (.refl _ _)).ts rfl
@[simp] theorem State.abortEntry_mix {v0 : State} {v1 : Entry} {v2 : Nat} {v3 : Nat} : (State.abortEntry v0 v1 v2 v3).mix = v0.mix :=
  (kept_State_abortEntry (m := 16384) (by decide) (.refl _ _)).mix rfl
@[simp] theorem State.abortEntry_hg {v0 : State} {v1 : Entry} {v2 : Nat} {v3 : Nat} : (State.abortEntry v0 v1 v2 v3).hg = v0.hg :=
  (kept_State_abortEntry (m := 32768) (by decide) (.refl _ _)).hg rfl
@[simp] theorem State.abortEntry_rcv {v0 : State} {v1 : Entry} {v2 : Nat} {v3 : Nat} : (State.abortEntry v0 v1 v2 v3).rcv = v0.rcv :=
  (kept_State_abortEntry (m := 65536) (by decide) (.refl _ _)).rcv rfl
@[simp] theorem State.abortEntry_ou {v0 : State} {v1 : Entry} {v2 : Nat} {v3 : Nat} : (State.abortEntry v0 v1 v2 v3).ou = v0.ou :=
  (kept_State_abortEntry (m := 131072) (by decide) (.refl _ _)).ou rfl
@[simp] theorem State.abortEntry_mono {v0 : State} {v1 : Entry} {v2 : Nat} {v3 : Nat} : (State.abortEntry v0 v1 v2 v3).mono = v0.mono :=
  (kept_State_abortEntry (m := 262144) (by decide) (.refl _ _)).mono rfl
@[simp] theorem State.abortEntry_ft {v0 : State} {v1 : Entry} {v2 : Nat} {v3 : Nat} : (State.abortEntry v0 v1 v2 v3).ft = v0.ft :=
  (kept_State_abortEntry (m := 524288) (by decide) (.refl _ _)).ft rfl
@[simp] theorem State.abortEntry_dce {v0 : State} {v1 : Entry} {v2 : Nat} {v3 : Nat} : (State.abortEntry v0 v1 v2 v3).dce = v0.dce :=
  (kept_State_abortEntry (m := 2097152) (by decide) (.refl _ _)).dce rfl
@[simp] theorem State.abortEntry_fr {v0 : State} {v1 : Entry} {v2 : Nat} {v3 : Nat} : (State.abortEntry v0 v1 v2 v3).fr = v0.fr :=
  (kept_State_abortEntry (m := 4194304) (by decide) (.refl _ _)).fr rfl
@[simp] theorem State.abortEntry_sb {v0 : State} {v1 : Entry} {v2 : Nat} {v3 : Nat} : (State.abortEntry v0 v1 v2 v3).sb = v0.sb :=
  (kept_State_abortEntry (m := 8388608) (by decide) (.refl _ _)).sb rfl
@[simp] theorem State.abortEntry_lc {v0 : State} {v1 : Entry} {v2 : Nat} {v3 : Nat} : (State.abortEntry v0 v1 v2 v3).lc = v0.lc :=
  (kept_State_abortEntry (m := 33554432) (by decide) (.refl _ _)).lc rfl
@[simp] theorem State.abortEntry_fuse {v0 : State} {v1 : Entry} {v2 : Nat} {v3 : Nat} : (State.abortEntry v0 v1 v2 v3).fuse = v0.fuse :=
  (kept_State_abortEntry (m := 67108864) (by decide) (.refl _ _)).fuse rfl
@[simp] theorem State.abortEntry_sg {v0 : State} {v1 : Entry} {v2 : Nat} {v3 : Nat} : (State.abortEntry v0 v1 v2 v3).sg = v0.sg :=
  (kept_State_abortEntry (m := 134217728) (by decide) (.refl _ _)).sg rfl
@[simp] theorem State.abortEntry_urg {v0 : State} {v1 : Entry} {v2 : Nat} {v3 : Nat} : (State.abortEntry v0 v1 v2 v3).urg = v0.urg :=
  (kept_State_abortEntry (m := 268435456) (by decide) (.refl _ _)).urg rfl

@[simp] theorem State.wakeBlock_pending {v0 : State} {v1 : Nat} : (State.wakeBlock v0 v1).pending = v0.pending :=
  (kept_State_wakeBlock (m := 1) (by decide) (.refl _ _)).pending rfl
@[simp] theorem State.wakeBlock_now {v0 : State} {v1 : Nat} : (State.wakeBlock v0 v1).now = v0.now :=
  (kept_State_wakeBlock (m := 4) (by decide) (.refl _ _)).now rfl
@[simp] theorem State.wakeBlock_tie {v0 : State} {v1 : Nat} : (State.wakeBlock v0 v1).tie = v0.tie :=
  (kept_State_wakeBlock (m := 8) (by decide) (.refl _ _)).tie rfl
@[simp] theorem State.wakeBlock_free {v0 : State} {v1 : Nat} : (State.wakeBlock v0 v1).free = v0.free :=
  (kept_State_wakeBlock (m := 16) (by decide) (.refl _ _)).free rfl
@[simp] theorem State.wakeBlock_tu {v0 : State} {v1 : Nat} : (State.wakeBlock v0 v1).tu = v0.tu :=
  (kept_State_wakeBlock (m := 4096) (by decide) (.refl _ _)).tu rfl
@[simp] theorem State.wakeBlock_ts {v0 : State} {v1 : Nat} : (State.wakeBlock v0 v1).ts = v0.ts :=
  (kept_State_wakeBlock (m := 8192) (by decide) (.refl _ _)).ts rfl
@[simp] theorem State.wakeBlock_hg {v0 : State} {v1 : Nat} : (State.wakeBlock v0 v1).hg = v0.hg :=
  (kept_State_wakeBlock (m := 32768) (by decide) (.refl _ _)).hg rfl
@[simp] theorem State.wakeBlock_mono {v0 : State} {v1 : Nat} : (State.wakeBlock v0 v1).mono = v0.mono :=
  (kept_State_wakeBlock (m := 262144) (by decide) (.refl _ _)).mono rfl
@[simp] theorem State.wakeBlock_ft {v0 : State} {v1 : Nat} : (State.wakeBlock v0 v1).ft = v0.ft :=
  (kept_State_wakeBlock (m := 524288) (by decide) (.refl _ _)).ft rfl
@[simp] theorem State.wakeBlock_dce {v0 : State} {v1 : Nat} : (State.wakeBlock v0 v1).dce = v0.dce :=
  (kept_State_wakeBlock (m := 2097152) (by decide) (.refl _ _)).dce rfl
@[simp] theorem State.wakeBlock_fr {v0 : State} {v1 : Nat} : (State.wakeBlock v0 v1).fr = v0.fr :=
  (kept_State_wakeBlock (m := 4194304) (by decide) (.refl _ _)).fr rfl
@[simp] theorem State.wakeBlock_sb {v0 : State} {v1 : Nat} : (State.wakeBlock v0 v1).sb = v0.sb :=
  (kept_State_wakeBlock (m := 8388608) (by decide) (.refl _ _)).sb rfl
@[simp] theorem State.wakeBlock_lc {v0 : State} {v1 : Nat} : (State.wakeBlock v0 v1).lc = v0.lc :=
  (kept_State_wakeBlock (m := 33554432) (by decide) (.refl _ _)).lc rfl
@[simp] theorem State.wakeBlock_fuse {v0 : State} {v1 : Nat} : (State.wakeBlock v0 v1).fuse = v0.fuse :=
  (kept_State_wakeBlock (m := 67108864) (by decide) (.refl _ _)).fuse rfl
@[simp] theorem State.wakeBlock_urg {v0 : State} {v1 : Nat} : (State.wakeBlock v0 v1).urg = v0.urg :=
  (kept_State_wakeBlock (m := 268435456) (by decide) (.refl _ _)).urg rfl

@[simp] theorem State.wakeCab_pending {v0 : State} {v1 : Nat} {v2 : Nat} : (State.wakeCab v0 v1 v2).pending = v0.pending :=
  (kept_State_wakeCab (m := 1) (by decide) (.refl _ _)).pending rfl
@[simp] theorem State.wakeCab_now {v0 : State} {v1 : Nat} {v2 : Nat} : (State.wakeCab v0 v1 v2).now = v0.now :=
  (kept_State_wakeCab (m := 4) (by decide) (.refl _ _)).now rfl
@[simp] theorem State.wakeCab_tie {v0 : State} {v1 : Nat} {v2 : Nat} : (State.wakeCab v0 v1 v2).tie = v0.tie :=
  (kept_State_wakeCab (m := 8) (by decide) (.refl _ _)).tie rfl
@[simp] theorem State.wakeCab_free {v0 : State} {v1 : Nat} {v2 : Nat} : (State.wakeCab v0 v1 v2).free = v0.free :=
  (kept_State_wakeCab (m := 16) (by decide) (.refl _ _)).free rfl
@[simp] theorem State.wakeCab_tu {v0 : State} {v1 : Nat} {v2 : Nat} : (State.wakeCab v0 v1 v2).tu = v0.tu :=
  (kept_State_wakeCab (m := 4096) (by decide) (.refl _ _)).tu rfl
@[simp] theorem State.wakeCab_ts {v0 : State} {v1 : Nat} {v2 : Nat} : (State.wakeCab v0 v1 v2).ts = v0.ts :=
  (kept_State_wakeCab (m := 8192) (by decide) (.refl _ _)).ts rfl
@[simp] theorem State.wakeCab_hg {v0 : State} {v1 : Nat} {v2 : Nat} : (State.wakeCab v0 v1 v2).hg = v0.hg :=
  (kept_State_wakeCab (m := 32768) (by decide) (.refl _ _)).hg rfl
@[simp] theorem State.wakeCab_mono {v0 : State} {v1 : Nat} {v2 : Nat} : (State.wakeCab v0 v1 v2).mono = v0.mono :=
  (kept_State_wakeCab (m := 262144) (by decide) (.refl _ _)).mono rfl
@[simp] theorem State.wakeCab_ft {v0 : State} {v1 : Nat} {v2 : Nat} : (State.wakeCab v0 v1 v2).ft = v0.ft :=
  (kept_State_wakeCab (m := 524288) (by decide) (.refl _ _)).ft rfl
@[simp] theorem State.wakeCab_dce {v0 : State} {v1 : Nat} {v2 : Nat} : (State.wakeCab v0 v1 v2).dce = v0.dce :=
  (kept_State_wakeCab (m := 2097152) (by decide) (.refl _ _)).dce rfl
@[simp] theorem State.wakeCab_fr {v0 : State} {v1 : Nat} {v2 : Nat} : (State.wakeCab v0 v1 v2).fr = v0.fr :=
  (kept_State_wakeCab (m := 4194304) (by decide) (.refl _ _)).fr rfl
@[simp] theorem State.wakeCab_sb {v0 : State} {v1 : Nat} {v2 : Nat} : (State.wakeCab v0 v1 v2).sb = v0.sb :=
  (kept_State_wakeCab (m := 8388608) (by decide) (.refl _ _)).sb rfl
@[simp] theorem State.wakeCab_lc {v0 : State} {v1 : Nat} {v2 : Nat} : (State.wakeCab v0 v1 v2).lc = v0.lc :=
  (kept_State_wakeCab (m := 33554432) (by decide) (.refl _ _)).lc rfl
@[simp] theorem State.wakeCab_fuse {v0 : State} {v1 : Nat} {v2 : Nat} : (State.wakeCab v0 v1 v2).fuse = v0.fuse :=
  (kept_State_wakeCab (m := 67108864) (by decide) (.refl _ _)).fuse rfl
@[simp] theorem State.wakeCab_urg {v0 : State} {v1 : Nat} {v2 : Nat} : (State.wakeCab v0 v1 v2).urg = v0.urg :=
  (kept_State_wakeCab (m := 268435456) (by decide) (.refl _ _)).urg rfl

@[simp] theorem State.endFlight_pending {v0 : State} {v1 : Nat} {v2 : Nat} {v3 : Nat} {v4 : Ending} : (State.endFlight v0 v1 v2 v3 v4).pending = v0.pending :=
  (kept_State_endFlight (m := 1) (by decide) (.refl _ _)).pending rfl
@[simp] theorem State.endFlight_out {v0 : State} {v1 : Nat} {v2 : Nat} {v3 : Nat} {v4 : Ending} : (State.endFlight v0 v1 v2 v3 v4).out = v0.out :=
  (kept_State_endFlight (m := 2) (by decide) (.refl _ _)).out rfl
@[simp] theorem State.endFlight_now {v0 : State} {v1 : Nat} {v2 : Nat} {v3 : Nat} {v4 : Ending} : (State.endFlight v0 v1 v2 v3 v4).now = v0.now :=
  (kept_State_endFlight (m := 4) (by decide) (.refl _ _)).now rfl
@[simp] theorem State.endFlight_tie {v0 : State} {v1 : Nat} {v2 : Nat} {v3 : Nat} {v4 : Ending} : (State.endFlight v0 v1 v2 v3 v4).tie = v0.tie :=
  (kept_State_endFlight (m := 8) (by decide) (.refl _ _)).tie rfl
@[simp] theorem State.endFlight_free {v0 : State} {v1 : Nat} {v2 : Nat} {v3 : Nat} {v4 : Ending} : (State.endFlight v0 v1 v2 v3 v4).free = v0.free :=
  (kept_State_endFlight (m := 16) (by decide) (.refl _ _)).free rfl
@[simp] theorem State.endFlight_dev {v0 : State} {v1 : Nat} {v2 : Nat} {v3 : Nat} {v4 : Ending} : (State.endFlight v0 v1 v2 v3 v4).dev = v0.dev :=
  (kept_State_endFlight (m := 64) (by decide) (.refl _ _)).dev rfl
@[simp] theorem State.endFlight_hostMem {v0 : State} {v1 : Nat} {v2 : Nat} {v3 : Nat} {v4 : Ending} : (State.endFlight v0 v1 v2 v3 v4).hostMem = v0.hostMem :=
  (kept_State_endFlight (m := 128) (by decide) (.refl _ _)).hostMem rfl
@[simp] theorem State.endFlight_lost {v0 : State} {v1 : Nat} {v2 : Nat} {v3 : Nat} {v4 : Ending} : (State.endFlight v0 v1 v2 v3 v4).lost = v0.lost :=
  (kept_State_endFlight (m := 256) (by decide) (.refl _ _)).lost rfl
@[simp] theorem State.endFlight_cabs {v0 : State} {v1 : Nat} {v2 : Nat} {v3 : Nat} {v4 : Ending} : (State.endFlight v0 v1 v2 v3 v4).cabs = v0.cabs :=
  (kept_State_endFlight (m := 512) (by decide) (.refl _ _)).cabs rfl
@[simp] theorem State.endFlight_lat {v0 : State} {v1 : Nat} {v2 : Nat} {v3 : Nat} {v4 : Ending} : (State.endFlight v0 v1 v2 v3 v4).lat = v0.lat :=
  (kept_State_endFlight (m := 2048) (by decide) (.refl _ _)).lat rfl
@[simp] theorem State.endFlight_tu {v0 : State} {v1 : Nat} {v2 : Nat} {v3 : Nat} {v4 : Ending} : (State.endFlight v0 v1 v2 v3 v4).tu = v0.tu :=
  (kept_State_endFlight (m := 4096) (by decide) (.refl _ _)).tu rfl
@[simp] theorem State.endFlight_ts {v0 : State} {v1 : Nat} {v2 : Nat} {v3 : Nat} {v4 : Ending} : (State.endFlight v0 v1 v2 v3 v4).ts = v0.ts :=
  (kept_State_endFlight (m := 8192) (by decide) (.refl _ _)).ts rfl
@[simp] theorem State.endFlight_mix {v0 : State} {v1 : Nat} {v2 : Nat} {v3 : Nat} {v4 : Ending} : (State.endFlight v0 v1 v2 v3 v4).mix = v0.mix :=
  (kept_State_endFlight (m := 16384) (by decide) (.refl _ _)).mix rfl
@[simp] theorem State.endFlight_hg {v0 : State} {v1 : Nat} {v2 : Nat} {v3 : Nat} {v4 : Ending} : (State.endFlight v0 v1 v2 v3 v4).hg = v0.hg :=
  (kept_State_endFlight (m := 32768) (by decide) (.refl _ _)).hg rfl
@[simp] theorem State.endFlight_rcv {v0 : State} {v1 : Nat} {v2 : Nat} {v3 : Nat} {v4 : Ending} : (State.endFlight v0 v1 v2 v3 v4).rcv = v0.rcv :=
  (kept_State_endFlight (m := 65536) (by decide) (.refl _ _)).rcv rfl
@[simp] theorem State.endFlight_ou {v0 : State} {v1 : Nat} {v2 : Nat} {v3 : Nat} {v4 : Ending} : (State.endFlight v0 v1 v2 v3 v4).ou = v0.ou :=
  (kept_State_endFlight (m := 131072) (by decide) (.refl _ _)).ou rfl
@[simp] theorem State.endFlight_mono {v0 : State} {v1 : Nat} {v2 : Nat} {v3 : Nat} {v4 : Ending} : (State.endFlight v0 v1 v2 v3 v4).mono = v0.mono :=
  (kept_State_endFlight (m := 262144) (by decide) (.refl _ _)).mono rfl
@[simp] theorem State.endFlight_ft {v0 : State} {v1 : Nat} {v2 : Nat} {v3 : Nat} {v4 : Ending} : (State.endFlight v0 v1 v2 v3 v4).ft = v0.ft :=
  (kept_State_endFlight (m := 524288) (by decide) (.refl _ _)).ft rfl
@[simp] theorem State.endFlight_me {v0 : State} {v1 : Nat} {v2 : Nat} {v3 : Nat} {v4 : Ending} : (State.endFlight v0 v1 v2 v3 v4).me = v0.me :=
  (kept_State_endFlight (m := 1048576) (by decide) (.refl _ _)).me rfl
@[simp] theorem State.endFlight_dce {v0 : State} {v1 : Nat} {v2 : Nat} {v3 : Nat} {v4 : Ending} : (State.endFlight v0 v1 v2 v3 v4).dce = v0.dce :=
  (kept_State_endFlight (m := 2097152) (by decide) (.refl _ _)).dce rfl
@[simp] theorem State.endFlight_fr {v0 : State} {v1 : Nat} {v2 : Nat} {v3 : Nat} {v4 : Ending} : (State.endFlight v0 v1 v2 v3 v4).fr = v0.fr :=
  (kept_State_endFlight (m := 4194304) (by decide) (.refl _ _)).fr rfl
@[simp] theorem State.endFlight_sb {v0 : State} {v1 : Nat} {v2 : Nat} {v3 : Nat} {v4 : Ending} : (State.endFlight v0 v1 v2 v3 v4).sb = v0.sb :=
  (kept_State_endFlight (m := 8388608) (by decide) (.refl _ _)).sb rfl
@[simp] theorem State.endFlight_pln {v0 : State} {v1 : Nat} {v2 : Nat} {v3 : Nat} {v4 : Ending} : (State.endFlight v0 v1 v2 v3 v4).pln = v0.pln :=
  (kept_State_endFlight (m := 16777216) (by decide) (.refl _ _)).pln rfl
@[simp] theorem State.endFlight_lc {v0 : State} {v1 : Nat} {v2 : Nat} {v3 : Nat} {v4 : Ending} : (State.endFlight v0 v1 v2 v3 v4).lc = v0.lc :=
  (kept_State_endFlight (m := 33554432) (by decide) (.refl _ _)).lc rfl
@[simp] theorem State.endFlight_fuse {v0 : State} {v1 : Nat} {v2 : Nat} {v3 : Nat} {v4 : Ending} : (State.endFlight v0 v1 v2 v3 v4).fuse = v0.fuse :=
  (kept_State_endFlight (m := 67108864) (by decide) (.refl _ _)).fuse rfl
@[simp] theorem State.endFlight_sg {v0 : State} {v1 : Nat} {v2 : Nat} {v3 : Nat} {v4 : Ending} : (State.endFlight v0 v1 v2 v3 v4).sg = v0.sg :=
  (kept_State_endFlight (m := 134217728) (by decide) (.refl _ _)).sg rfl
@[simp] theorem State.endFlight_urg {v0 : State} {v1 : Nat} {v2 : Nat} {v3 : Nat} {v4 : Ending} : (State.endFlight v0 v1 v2 v3 v4).urg = v0.urg :=
  (kept_State_endFlight (m := 268435456) (by decide) (.refl _ _)).urg rfl

@[simp] theorem State.settleDrawer_pending {v0 : State} {v1 : Nat} {v2 : Nat} : (State.settleDrawer v0 v1 v2).pending = v0.pending :=
  (kept_State_settleDrawer (m := 1) (by decide) (.refl _ _)).pending rfl
@[simp] theorem State.settleDrawer_out {v0 : State} {v1 : Nat} {v2 : Nat} : (State.settleDrawer v0 v1 v2).out = v0.out :=
  (kept_State_settleDrawer (m := 2) (by decide) (.refl _ _)).out rfl
@[simp] theorem State.settleDrawer_now {v0 : State} {v1 : Nat} {v2 : Nat} : (State.settleDrawer v0 v1 v2).now = v0.now :=
  (kept_State_settleDrawer (m := 4) (by decide) (.refl _ _)).now rfl
@[simp] theorem State.settleDrawer_tie {v0 : State} {v1 : Nat} {v2 : Nat} : (State.settleDrawer v0 v1 v2).tie = v0.tie :=
  (kept_State_settleDrawer (m := 8) (by decide) (.refl _ _)).tie rfl
@[simp] theorem State.settleDrawer_free {v0 : State} {v1 : Nat} {v2 : Nat} : (State.settleDrawer v0 v1 v2).free = v0.free :=
  (kept_State_settleDrawer (m := 16) (by decide) (.refl _ _)).free rfl
@[simp] theorem State.settleDrawer_dev {v0 : State} {v1 : Nat} {v2 : Nat} : (State.settleDrawer v0 v1 v2).dev = v0.dev :=
  (kept_State_settleDrawer (m := 64) (by decide) (.refl _ _)).dev rfl
@[simp] theorem State.settleDrawer_hostMem {v0 : State} {v1 : Nat} {v2 : Nat} : (State.settleDrawer v0 v1 v2).hostMem = v0.hostMem :=
  (kept_State_settleDrawer (m := 128) (by decide) (.refl _ _)).hostMem rfl
@[simp] theorem State.settleDrawer_lost {v0 : State} {v1 : Nat} {v2 : Nat} : (State.settleDrawer v0 v1 v2).lost = v0.lost :=
  (kept_State_settleDrawer (m := 256) (by decide) (.refl _ _)).lost rfl
@[simp] theorem State.settleDrawer_cabs {v0 : State} {v1 : Nat} {v2 : Nat} : (State.settleDrawer v0 v1 v2).cabs = v0.cabs :=
  (kept_State_settleDrawer (m := 512) (by decide) (.refl _ _)).cabs rfl
@[simp] theorem State.settleDrawer_lat {v0 : State} {v1 : Nat} {v2 : Nat} : (State.settleDrawer v0 v1 v2).lat = v0.lat :=
  (kept_State_settleDrawer (m := 2048) (by decide) (.refl _ _)).lat rfl
@[simp] theorem State.settleDrawer_ts {v0 : State} {v1 : Nat} {v2 : Nat} : (State.settleDrawer v0 v1 v2).ts = v0.ts :=
  (kept_State_settleDrawer (m := 8192) (by decide) (.refl _ _)).ts rfl
@[simp] theorem State.settleDrawer_mix {v0 : State} {v1 : Nat} {v2 : Nat} : (State.settleDrawer v0 v1 v2).mix = v0.mix :=
  (kept_State_settleDrawer (m := 16384) (by decide) (.refl _ _)).mix rfl
@[simp] theorem State.settleDrawer_hg {v0 : State} {v1 : Nat} {v2 : Nat} : (State.settleDrawer v0 v1 v2).hg = v0.hg :=
  (kept_State_settleDrawer (m := 32768) (by decide) (.refl _ _)).hg rfl
@[simp] theorem State.settleDrawer_rcv {v0 : State} {v1 : Nat} {v2 : Nat} : (State.settleDrawer v0 v1 v2).rcv = v0.rcv :=
  (kept_State_settleDrawer (m := 65536) (by decide) (.refl _ _)).rcv rfl
@[simp] theorem State.settleDrawer_ou {v0 : State} {v1 : Nat} {v2 : Nat} : (State.settleDrawer v0 v1 v2).ou = v0.ou :=
  (kept_State_settleDrawer (m := 131072) (by decide) (.refl _ _)).ou rfl
@[simp] theorem State.settleDrawer_mono {v0 : State} {v1 : Nat} {v2 : Nat} : (State.settleDrawer v0 v1 v2).mono = v0.mono :=
  (kept_State_settleDrawer (m := 262144) (by decide) (.refl _ _)).mono rfl
@[simp] theorem State.settleDrawer_ft {v0 : State} {v1 : Nat} {v2 : Nat} : (State.settleDrawer v0 v1 v2).ft = v0.ft :=
  (kept_State_settleDrawer (m := 524288) (by decide) (.refl _ _)).ft rfl
@[simp] theorem State.settleDrawer_me {v0 : State} {v1 : Nat} {v2 : Nat} : (State.settleDrawer v0 v1 v2).me = v0.me :=
  (kept_State_settleDrawer (m := 1048576) (by decide) (.refl _ _)).me rfl
@[simp] theorem State.settleDrawer_dce {v0 : State} {v1 : Nat} {v2 : Nat} : (State.settleDrawer v0 v1 v2).dce = v0.dce :=
  (kept_State_settleDrawer (m := 2097152) (by decide) (.refl _ _)).dce rfl
@[simp] theorem State.settleDrawer_fr {v0 : State} {v1 : Nat} {v2 : Nat} : (State.settleDrawer v0 v1 v2).fr = v0.fr :=
  (kept_State_settleDrawer (m := 4194304) (by decide) (.refl _ _)).fr rfl
@[simp] theorem State.settleDrawer_sb {v0 : State} {v1 : Nat} {v2 : Nat} : (State.settleDrawer v0 v1 v2).sb = v0.sb :=
  (kept_State_settleDrawer (m := 8388608) (by decide) (.refl _ _)).sb rfl
@[simp] theorem State.settleDrawer_pln {v0 : State} {v1 : Nat} {v2 : Nat} : (State.settleDrawer v0 v1 v2).pln = v0.pln :=
  (kept_State_settleDrawer (m := 16777216) (by decide) (.refl _ _)).pln rfl
@[simp] theorem State.settleDrawer_lc {v0 : State} {v1 : Nat} {v2 : Nat} : (State.settleDrawer v0 v1 v2).lc = v0.lc :=
  (kept_State_settleDrawer (m := 33554432) (by decide) (.refl _ _)).lc rfl
@[simp] theorem State.settleDrawer_fuse {v0 : State} {v1 : Nat} {v2 : Nat} : (State.settleDrawer v0 v1 v2).fuse = v0.fuse :=
  (kept_State_settleDrawer (m := 67108864) (by decide) (.refl _ _)).fuse rfl
@[simp] theorem State.settleDrawer_sg {v0 : State} {v1 : Nat} {v2 : Nat} : (State.settleDrawer v0 v1 v2).sg = v0.sg :=
  (kept_State_settleDrawer (m := 134217728) (by decide) (.refl _ _)).sg rfl
@[simp] theorem State.settleDrawer_urg {v0 : State} {v1 : Nat} {v2 : Nat} : (State.settleDrawer v0 v1 v2).urg = v0.urg :=
  (kept_State_settleDrawer (m := 268435456) (by decide) (.refl _ _)).urg rfl

@[simp] theorem State.traceStop_pending {v0 : State} : (State.traceStop v0).pending = v0.pending :=
  (kept_State_traceStop (m := 1) (by decide) (.refl _ _)).pending rfl
@[simp] theorem State.traceStop_out {v0 : State} : (State.traceStop v0).out = v0.out :=
  (kept_State_traceStop (m := 2) (by decide) (.refl _ _)).out rfl
@[simp] theorem State.traceStop_now {v0 : State} : (State.traceStop v0).now = v0.now :=
  (kept_State_traceStop (m := 4) (by decide) (.refl _ _)).now rfl
@[simp] theorem State.traceStop_tie {v0 : State} : (State.traceStop v0).tie = v0.tie :=
  (kept_State_traceStop (m := 8) (by decide) (.refl _ _)).tie rfl
@[simp] theorem State.traceStop_free {v0 : State} : (State.traceStop v0).free = v0.free :=
  (kept_State_traceStop (m := 16) (by decide) (.refl _ _)).free rfl
@[simp] theorem State.traceStop_tu {v0 : State} : (State.traceStop v0).tu = v0.tu :=
  (kept_State_traceStop (m := 4096) (by decide) (.refl _ _)).tu rfl
@[simp] theorem State.traceStop_ts {v0 : State} : (State.traceStop v0).ts = v0.ts :=
  (kept_State_traceStop (m := 8192) (by decide) (.refl _ _)).ts rfl
@[simp] theorem State.traceStop_hg {v0 : State} : (State.traceStop v0).hg = v0.hg :=
  (kept_State_traceStop (m := 32768) (by decide) (.refl _ _)).hg rfl
@[simp] theorem State.traceStop_mono {v0 : State} : (State.traceStop v0).mono = v0.mono :=
  (kept_State_traceStop (m := 262144) (by decide) (.refl _ _)).mono rfl
@[simp] theorem State.traceStop_ft {v0 : State} : (State.traceStop v0).ft = v0.ft :=
  (kept_State_traceStop (m := 524288) (by decide) (.refl _ _)).ft rfl
@[simp] theorem State.traceStop_me {v0 : State} : (State.traceStop v0).me = v0.me :=
  (kept_State_traceStop (m := 1048576) (by decide) (.refl _ _)).me rfl
@[simp] theorem State.traceStop_dce {v0 : State} : (State.traceStop v0).dce = v0.dce :=
  (kept_State_traceStop (m := 2097152) (by decide) (.refl _ _)).dce rfl
@[simp] theorem State.traceStop_fr {v0 : State} : (State.traceStop v0).fr = v0.fr :=
  (kept_State_traceStop (m := 4194304) (by decide) (.refl _ _)).fr rfl
@[simp] theorem State.traceStop_sb {v0 : State} : (State.traceStop v0).sb = v0.sb :=
  (kept_State_traceStop (m := 8388608) (by decide) (.refl _ _)).sb rfl
@[simp] theorem State.traceStop_pln {v0 : State} : (State.traceStop v0).pln = v0.pln :=
  (kept_State_traceStop (m := 16777216) (by decide) (.refl _ _)).pln rfl
@[simp] theorem State.traceStop_lc {v0 : State} : (State.traceStop v0).lc = v0.lc :=
  (kept_State_traceStop (m := 33554432) (by decide) (.refl _ _)).lc rfl
@[simp] theorem State.traceStop_fuse {v0 : State} : (State.traceStop v0).fuse = v0.fuse :=
  (kept_State_traceStop (m := 67108864) (by decide) (.refl _ _)).fuse rfl
@[simp] theorem State.traceStop_urg {v0 : State} : (State.traceStop v0).urg = v0.urg :=
  (kept_State_traceStop (m := 268435456) (by decide) (.refl _ _)).urg rfl

@[simp] theorem State.noteActivity_pending {v0 : State} {v1 : Nat} {v2 : Nat} : (State.noteActivity v0 v1 v2).pending = v0.pending :=
  (kept_State_noteActivity (m := 1) (by decide) (.refl _ _)).pending rfl
@[simp] theorem State.noteActivity_out {v0 : State} {v1 : Nat} {v2 : Nat} : (State.noteActivity v0 v1 v2).out = v0.out :=
  (kept_State_noteActivity (m := 2) (by decide) (.refl _ _)).out rfl
@[simp] theorem State.noteActivity_now {v0 : State} {v1 : Nat} {v2 : Nat} : (State.noteActivity v0 v1 v2).now = v0.now :=
  (kept_State_noteActivity (m := 4) (by decide) (.refl _ _)).now rfl
@[simp] theorem State.noteActivity_tie {v0 : State} {v1 : Nat} {v2 : Nat} : (State.noteActivity v0 v1 v2).tie = v0.tie :=
  (kept_State_noteActivity (m := 8) (by decide) (.refl _ _)).tie rfl
@[simp] theorem State.noteActivity_free {v0 : State} {v1 : Nat} {v2 : Nat} : (State.noteActivity v0 v1 v2).free = v0.free :=
  (kept_State_noteActivity (m := 16) (by decide) (.refl _ _)).free rfl
@[simp] theorem State.noteActivity_regs {v0 : State} {v1 : Nat} {v2 : Nat} : (State.noteActivity v0 v1 v2).regs = v0.regs :=
  (kept_State_noteActivity (m := 32) (by decide) (.refl _ _)).regs rfl
@[simp] theorem State.noteActivity_dev {v0 : State} {v1 : Nat} {v2 : Nat} : (State.noteActivity v0 v1 v2).dev = v0.dev :=
  (kept_State_noteActivity (m := 64) (by decide) (.refl _ _)).dev rfl
@[simp] theorem State.noteActivity_hostMem {v0 : State} {v1 : Nat} {v2 : Nat} : (State.noteActivity v0 v1 v2).hostMem = v0.hostMem :=
  (kept_State_noteActivity (m := 128) (by decide) (.refl _ _)).hostMem rfl
@[simp] theorem State.noteActivity_lost {v0 : State} {v1 : Nat} {v2 : Nat} : (State.noteActivity v0 v1 v2).lost = v0.lost :=
  (kept_State_noteActivity (m := 256) (by decide) (.refl _ _)).lost rfl
@[simp] theorem State.noteActivity_cabs {v0 : State} {v1 : Nat} {v2 : Nat} : (State.noteActivity v0 v1 v2).cabs = v0.cabs :=
  (kept_State_noteActivity (m := 512) (by decide) (.refl _ _)).cabs rfl
@[simp] theorem State.noteActivity_lat {v0 : State} {v1 : Nat} {v2 : Nat} : (State.noteActivity v0 v1 v2).lat = v0.lat :=
  (kept_State_noteActivity (m := 2048) (by decide) (.refl _ _)).lat rfl
@[simp] theorem State.noteActivity_tu {v0 : State} {v1 : Nat} {v2 : Nat} : (State.noteActivity v0 v1 v2).tu = v0.tu :=
  (kept_State_noteActivity (m := 4096) (by decide) (.refl _ _)).tu rfl
@[simp] theorem State.noteActivity_ts {v0 : State} {v1 : Nat} {v2 : Nat} : (State.noteActivity v0 v1 v2).ts = v0.ts :=
  (kept_State_noteActivity (m := 8192) (by decide) (.refl _ _)).ts rfl
@[simp] theorem State.noteActivity_mix {v0 : State} {v1 : Nat} {v2 : Nat} : (State.noteActivity v0 v1 v2).mix = v0.mix :=
  (kept_State_noteActivity (m := 16384) (by decide) (.refl _ _)).mix rfl
@[simp] theorem State.noteActivity_hg {v0 : State} {v1 : Nat} {v2 : Nat} : (State.noteActivity v0 v1 v2).hg = v0.hg :=
  (kept_State_noteActivity (m := 32768) (by decide) (.refl _ _)).hg rfl
@[simp] theorem State.noteActivity_rcv {v0 : State} {v1 : Nat} {v2 : Nat} : (State.noteActivity v0 v1 v2).rcv = v0.rcv :=
  (kept_State_noteActivity (m := 65536) (by decide) (.refl _ _)).rcv rfl
@[simp] theorem State.noteActivity_ou {v0 : State} {v1 : Nat} {v2 : Nat} : (State.noteActivity v0 v1 v2).ou = v0.ou :=
  (kept_State_noteActivity (m := 131072) (by decide) (.refl _ _)).ou rfl
@[simp] theorem State.noteActivity_mono {v0 : State} {v1 : Nat} {v2 : Nat} : (State.noteActivity v0 v1 v2).mono = v0.mono :=
  (kept_State_noteActivity (m := 262144) (by decide) (.refl _ _)).mono rfl
@[simp] theorem State.noteActivity_ft {v0 : State} {v1 : Nat} {v2 : Nat} : (State.noteActivity v0 v1 v2).ft = v0.ft :=
  (kept_State_noteActivity (m := 524288) (by decide) (.refl _ _)).ft rfl
@[simp] theorem State.noteActivity_me {v0 : State} {v1 : Nat} {v2 : Nat} : (State.noteActivity v0 v1 v2).me = v0.me :=
  (kept_State_noteActivity (m := 1048576) (by decide) (.refl _ _)).me rfl
@[simp] theorem State.noteActivity_dce {v0 : State} {v1 : Nat} {v2 : Nat} : (State.noteActivity v0 v1 v2).dce = v0.dce :=
  (kept_State_noteActivity (m := 2097152) (by decide) (.refl _ _)).dce rfl
@[simp] theorem State.noteActivity_fr {v0 : State} {v1 : Nat} {v2 : Nat} : (State.noteActivity v0 v1 v2).fr = v0.fr :=
  (kept_State_noteActivity (m := 4194304) (by decide) (.refl _ _)).fr rfl
@[simp] theorem State.noteActivity_sb {v0 : State} {v1 : Nat} {v2 : Nat} : (State.noteActivity v0 v1 v2).sb = v0.sb :=
  (kept_State_noteActivity (m := 8388608) (by decide) (.refl _ _)).sb rfl
@[simp] theorem State.noteActivity_pln {v0 : State} {v1 : Nat} {v2 : Nat} : (State.noteActivity v0 v1 v2).pln = v0.pln :=
  (kept_State_noteActivity (m := 16777216) (by decide) (.refl _ _)).pln rfl
@[simp] theorem State.noteActivity_lc {v0 : State} {v1 : Nat} {v2 : Nat} : (State.noteActivity v0 v1 v2).lc = v0.lc :=
  (kept_State_noteActivity (m := 33554432) (by decide) (.refl _ _)).lc rfl
@[simp] theorem State.noteActivity_fuse {v0 : State} {v1 : Nat} {v2 : Nat} : (State.noteActivity v0 v1 v2).fuse = v0.fuse :=
  (kept_State_noteActivity (m := 67108864) (by decide) (.refl _ _)).fuse rfl
@[simp] theorem State.noteActivity_sg {v0 : State} {v1 : Nat} {v2 : Nat} : (State.noteActivity v0 v1 v2).sg = v0.sg :=
  (kept_State_noteActivity (m := 134217728) (by decide) (.refl _ _)).sg rfl
@[simp] theorem State.noteActivity_urg {v0 : State} {v1 : Nat} {v2 : Nat} : (State.noteActivity v0 v1 v2).urg = v0.urg :=
  (kept_State_noteActivity (m := 268435456) (by decide) (.refl _ _)).urg rfl

@[simp] theorem State.evalLatch_pending {v0 : State} {v1 : Nat} : (State.evalLatch v0 v1).pending = v0.pending :=
  (kept_State_evalLatch (m := 1) (by decide) (.refl _ _)).pending rfl
@[simp] theorem State.evalLatch_now {v0 : State} {v1 : Nat} : (State.evalLatch v0 v1).now = v0.now :=
  (kept_State_evalLatch (m := 4) (by decide) (.refl _ _)).now rfl
@[simp] theorem State.evalLatch_tie {v0 : State} {v1 : Nat} : (State.evalLatch v0 v1).tie = v0.tie :=
  (kept_State_evalLatch (m := 8) (by decide) (.refl _ _)).tie rfl
@[simp] theorem State.evalLatch_ts {v0 : State} {v1 : Nat} : (State.evalLatch v0 v1).ts = v0.ts :=
  (kept_State_evalLatch (m := 8192) (by decide) (.refl _ _)).ts rfl
@[simp] theorem State.evalLatch_hg {v0 : State} {v1 : Nat} : (State.evalLatch v0 v1).hg = v0.hg :=
  (kept_State_evalLatch (m := 32768) (by decide) (.refl _ _)).hg rfl
@[simp] theorem State.evalLatch_mono {v0 : State} {v1 : Nat} : (State.evalLatch v0 v1).mono = v0.mono :=
  (kept_State_evalLatch (m := 262144) (by decide) (.refl _ _)).mono rfl
@[simp] theorem State.evalLatch_ft {v0 : State} {v1 : Nat} : (State.evalLatch v0 v1).ft = v0.ft :=
  (kept_State_evalLatch (m := 524288) (by decide) (.refl _ _)).ft rfl
@[simp] theorem State.evalLatch_dce {v0 : State} {v1 : Nat} : (State.evalLatch v0 v1).dce = v0.dce :=
  (kept_State_evalLatch (m := 2097152) (by decide) (.refl _ _)).dce rfl
@[simp] theorem State.evalLatch_fr {v0 : State} {v1 : Nat} : (State.evalLatch v0 v1).fr = v0.fr :=
  (kept_State_evalLatch (m := 4194304) (by decide) (.refl _ _)).fr rfl
@[simp] theorem State.evalLatch_sb {v0 : State} {v1 : Nat} : (State.evalLatch v0 v1).sb = v0.sb :=
  (kept_State_evalLatch (m := 8388608) (by decide) (.refl _ _)).sb rfl
@[simp] theorem State.evalLatch_lc {v0 : State} {v1 : Nat} : (State.evalLatch v0 v1).lc = v0.lc :=
  (kept_State_evalLatch (m := 33554432) (by decide) (.refl _ _)).lc rfl
@[simp] theorem State.evalLatch_fuse {v0 : State} {v1 : Nat} : (State.evalLatch v0 v1).fuse = v0.fuse :=
  (kept_State_evalLatch (m := 67108864) (by decide) (.refl _ _)).fuse rfl
@[simp] theorem State.evalLatch_urg {v0 : State} {v1 : Nat} : (State.evalLatch v0 v1).urg = v0.urg :=
  (kept_State_evalLatch (m := 268435456) (by decide) (.refl _ _)).urg rfl

@[simp] theorem State.killCmd_pending {v0 : State} {v1 : Nat} {v2 : Nat} {v3 : Nat} {v4 : optParam (List Hold) []} : (State.killCmd v0 v1 v2 v3 v4).pending = v0.pending :=
  (kept_State_killCmd (m := 1) (by decide) (.refl _ _)).pending rfl
@[simp] theorem State.killCmd_now {v0 : State} {v1 : Nat} {v2 : Nat} {v3 : Nat} {v4 : optParam (List Hold) []} : (State.killCmd v0 v1 v2 v3 v4).now = v0.now :=
  (kept_State_killCmd (m := 4) (by decide) (.refl _ _)).now rfl
@[simp] theorem State.killCmd_tie {v0 : State} {v1 : Nat} {v2 : Nat} {v3 : Nat} {v4 : optParam (List Hold) []} : (State.killCmd v0 v1 v2 v3 v4).tie = v0.tie :=
  (kept_State_killCmd (m := 8) (by decide) (.refl _ _)).tie rfl
@[simp] theorem State.killCmd_free {v0 : State} {v1 : Nat} {v2 : Nat} {v3 : Nat} {v4 : optParam (List Hold) []} : (State.killCmd v0 v1 v2 v3 v4).free = v0.free :=
  (kept_State_killCmd (m := 16) (by decide) (.refl _ _)).free rfl
@[simp] theorem State.killCmd_hg {v0 : State} {v1 : Nat} {v2 : Nat} {v3 : Nat} {v4 : optParam (List Hold) []} : (State.killCmd v0 v1 v2 v3 v4).hg = v0.hg :=
  (kept_State_killCmd (m := 32768) (by decide) (.refl _ _)).hg rfl
@[simp] theorem State.killCmd_mono {v0 : State} {v1 : Nat} {v2 : Nat} {v3 : Nat} {v4 : optParam (List Hold) []} : (State.killCmd v0 v1 v2 v3 v4).mono = v0.mono :=
  (kept_State_killCmd (m := 262144) (by decide) (.refl _ _)).mono rfl
@[simp] theorem State.killCmd_ft {v0 : State} {v1 : Nat} {v2 : Nat} {v3 : Nat} {v4 : optParam (List Hold) []} : (State.killCmd v0 v1 v2 v3 v4).ft = v0.ft :=
  (kept_State_killCmd (m := 524288) (by decide) (.refl _ _)).ft rfl
@[simp] theorem State.killCmd_me {v0 : State} {v1 : Nat} {v2 : Nat} {v3 : Nat} {v4 : optParam (List Hold) []} : (State.killCmd v0 v1 v2 v3 v4).me = v0.me :=
  (kept_State_killCmd (m := 1048576) (by decide) (.refl _ _)).me rfl
@[simp] theorem State.killCmd_sb {v0 : State} {v1 : Nat} {v2 : Nat} {v3 : Nat} {v4 : optParam (List Hold) []} : (State.killCmd v0 v1 v2 v3 v4).sb = v0.sb :=
  (kept_State_killCmd (m := 8388608) (by decide) (.refl _ _)).sb rfl
@[simp] theorem State.killCmd_pln {v0 : State} {v1 : Nat} {v2 : Nat} {v3 : Nat} {v4 : optParam (List Hold) []} : (State.killCmd v0 v1 v2 v3 v4).pln = v0.pln :=
  (kept_State_killCmd (m := 16777216) (by decide) (.refl _ _)).pln rfl
@[simp] theorem State.killCmd_lc {v0 : State} {v1 : Nat} {v2 : Nat} {v3 : Nat} {v4 : optParam (List Hold) []} : (State.killCmd v0 v1 v2 v3 v4).lc = v0.lc :=
  (kept_State_killCmd (m := 33554432) (by decide) (.refl _ _)).lc rfl
@[simp] theorem State.killCmd_fuse {v0 : State} {v1 : Nat} {v2 : Nat} {v3 : Nat} {v4 : optParam (List Hold) []} : (State.killCmd v0 v1 v2 v3 v4).fuse = v0.fuse :=
  (kept_State_killCmd (m := 67108864) (by decide) (.refl _ _)).fuse rfl
@[simp] theorem State.killCmd_urg {v0 : State} {v1 : Nat} {v2 : Nat} {v3 : Nat} {v4 : optParam (List Hold) []} : (State.killCmd v0 v1 v2 v3 v4).urg = v0.urg :=
  (kept_State_killCmd (m := 268435456) (by decide) (.refl _ _)).urg rfl

@[simp] theorem State.evict_pending {v0 : State} {v1 : Nat} {v2 : Nat} : (State.evict v0 v1 v2).pending = v0.pending :=
  (kept_State_evict (m := 1) (by decide) (.refl _ _)).pending rfl
@[simp] theorem State.evict_out {v0 : State} {v1 : Nat} {v2 : Nat} : (State.evict v0 v1 v2).out = v0.out :=
  (kept_State_evict (m := 2) (by decide) (.refl _ _)).out rfl
@[simp] theorem State.evict_now {v0 : State} {v1 : Nat} {v2 : Nat} : (State.evict v0 v1 v2).now = v0.now :=
  (kept_State_evict (m := 4) (by decide) (.refl _ _)).now rfl
@[simp] theorem State.evict_tie {v0 : State} {v1 : Nat} {v2 : Nat} : (State.evict v0 v1 v2).tie = v0.tie :=
  (kept_State_evict (m := 8) (by decide) (.refl _ _)).tie rfl
@[simp] theorem State.evict_free {v0 : State} {v1 : Nat} {v2 : Nat} : (State.evict v0 v1 v2).free = v0.free :=
  (kept_State_evict (m := 16) (by decide) (.refl _ _)).free rfl
@[simp] theorem State.evict_dev {v0 : State} {v1 : Nat} {v2 : Nat} : (State.evict v0 v1 v2).dev = v0.dev :=
  (kept_State_evict (m := 64) (by decide) (.refl _ _)).dev rfl
@[simp] theorem State.evict_hostMem {v0 : State} {v1 : Nat} {v2 : Nat} : (State.evict v0 v1 v2).hostMem = v0.hostMem :=
  (kept_State_evict (m := 128) (by decide) (.refl _ _)).hostMem rfl
@[simp] theorem State.evict_lost {v0 : State} {v1 : Nat} {v2 : Nat} : (State.evict v0 v1 v2).lost = v0.lost :=
  (kept_State_evict (m := 256) (by decide) (.refl _ _)).lost rfl
@[simp] theorem State.evict_cabs {v0 : State} {v1 : Nat} {v2 : Nat} : (State.evict v0 v1 v2).cabs = v0.cabs :=
  (kept_State_evict (m := 512) (by decide) (.refl _ _)).cabs rfl
@[simp] theorem State.evict_lat {v0 : State} {v1 : Nat} {v2 : Nat} : (State.evict v0 v1 v2).lat = v0.lat :=
  (kept_State_evict (m := 2048) (by decide) (.refl _ _)).lat rfl
@[simp] theorem State.evict_tu {v0 : State} {v1 : Nat} {v2 : Nat} : (State.evict v0 v1 v2).tu = v0.tu :=
  (kept_State_evict (m := 4096) (by decide) (.refl _ _)).tu rfl
@[simp] theorem State.evict_mix {v0 : State} {v1 : Nat} {v2 : Nat} : (State.evict v0 v1 v2).mix = v0.mix :=
  (kept_State_evict (m := 16384) (by decide) (.refl _ _)).mix rfl
@[simp] theorem State.evict_hg {v0 : State} {v1 : Nat} {v2 : Nat} : (State.evict v0 v1 v2).hg = v0.hg :=
  (kept_State_evict (m := 32768) (by decide) (.refl _ _)).hg rfl
@[simp] theorem State.evict_rcv {v0 : State} {v1 : Nat} {v2 : Nat} : (State.evict v0 v1 v2).rcv = v0.rcv :=
  (kept_State_evict (m := 65536) (by decide) (.refl _ _)).rcv rfl
@[simp] theorem State.evict_ou {v0 : State} {v1 : Nat} {v2 : Nat} : (State.evict v0 v1 v2).ou = v0.ou :=
  (kept_State_evict (m := 131072) (by decide) (.refl _ _)).ou rfl
@[simp] theorem State.evict_mono {v0 : State} {v1 : Nat} {v2 : Nat} : (State.evict v0 v1 v2).mono = v0.mono :=
  (kept_State_evict (m := 262144) (by decide) (.refl _ _)).mono rfl
@[simp] theorem State.evict_ft {v0 : State} {v1 : Nat} {v2 : Nat} : (State.evict v0 v1 v2).ft = v0.ft :=
  (kept_State_evict (m := 524288) (by decide) (.refl _ _)).ft rfl
@[simp] theorem State.evict_me {v0 : State} {v1 : Nat} {v2 : Nat} : (State.evict v0 v1 v2).me = v0.me :=
  (kept_State_evict (m := 1048576) (by decide) (.refl _ _)).me rfl
@[simp] theorem State.evict_dce {v0 : State} {v1 : Nat} {v2 : Nat} : (State.evict v0 v1 v2).dce = v0.dce :=
  (kept_State_evict (m := 2097152) (by decide) (.refl _ _)).dce rfl
@[simp] theorem State.evict_fr {v0 : State} {v1 : Nat} {v2 : Nat} : (State.evict v0 v1 v2).fr = v0.fr :=
  (kept_State_evict (m := 4194304) (by decide) (.refl _ _)).fr rfl
@[simp] theorem State.evict_sb {v0 : State} {v1 : Nat} {v2 : Nat} : (State.evict v0 v1 v2).sb = v0.sb :=
  (kept_State_evict (m := 8388608) (by decide) (.refl _ _)).sb rfl
@[simp] theorem State.evict_pln {v0 : State} {v1 : Nat} {v2 : Nat} : (State.evict v0 v1 v2).pln = v0.pln :=
  (kept_State_evict (m := 16777216) (by decide) (.refl _ _)).pln rfl
@[simp] theorem State.evict_lc {v0 : State} {v1 : Nat} {v2 : Nat} : (State.evict v0 v1 v2).lc = v0.lc :=
  (kept_State_evict (m := 33554432) (by decide) (.refl _ _)).lc rfl
@[simp] theorem State.evict_fuse {v0 : State} {v1 : Nat} {v2 : Nat} : (State.evict v0 v1 v2).fuse = v0.fuse :=
  (kept_State_evict (m := 67108864) (by decide) (.refl _ _)).fuse rfl
@[simp] theorem State.evict_sg {v0 : State} {v1 : Nat} {v2 : Nat} : (State.evict v0 v1 v2).sg = v0.sg :=
  (kept_State_evict (m := 134217728) (by decide) (.refl _ _)).sg rfl
@[simp] theorem State.evict_urg {v0 : State} {v1 : Nat} {v2 : Nat} : (State.evict v0 v1 v2).urg = v0.urg :=
  (kept_State_evict (m := 268435456) (by decide) (.refl _ _)).urg rfl

@[simp] theorem State.halt_pending {v0 : State} {v1 : Nat} : (State.halt v0 v1).pending = v0.pending :=
  (kept_State_halt (m := 1) (by decide) (.refl _ _)).pending rfl
@[simp] theorem State.halt_now {v0 : State} {v1 : Nat} : (State.halt v0 v1).now = v0.now :=
  (kept_State_halt (m := 4) (by decide) (.refl _ _)).now rfl
@[simp] theorem State.halt_tie {v0 : State} {v1 : Nat} : (State.halt v0 v1).tie = v0.tie :=
  (kept_State_halt (m := 8) (by decide) (.refl _ _)).tie rfl
@[simp] theorem State.halt_free {v0 : State} {v1 : Nat} : (State.halt v0 v1).free = v0.free :=
  (kept_State_halt (m := 16) (by decide) (.refl _ _)).free rfl
@[simp] theorem State.halt_tu {v0 : State} {v1 : Nat} : (State.halt v0 v1).tu = v0.tu :=
  (kept_State_halt (m := 4096) (by decide) (.refl _ _)).tu rfl
@[simp] theorem State.halt_ts {v0 : State} {v1 : Nat} : (State.halt v0 v1).ts = v0.ts :=
  (kept_State_halt (m := 8192) (by decide) (.refl _ _)).ts rfl
@[simp] theorem State.halt_hg {v0 : State} {v1 : Nat} : (State.halt v0 v1).hg = v0.hg :=
  (kept_State_halt (m := 32768) (by decide) (.refl _ _)).hg rfl
@[simp] theorem State.halt_mono {v0 : State} {v1 : Nat} : (State.halt v0 v1).mono = v0.mono :=
  (kept_State_halt (m := 262144) (by decide) (.refl _ _)).mono rfl
@[simp] theorem State.halt_ft {v0 : State} {v1 : Nat} : (State.halt v0 v1).ft = v0.ft :=
  (kept_State_halt (m := 524288) (by decide) (.refl _ _)).ft rfl
@[simp] theorem State.halt_dce {v0 : State} {v1 : Nat} : (State.halt v0 v1).dce = v0.dce :=
  (kept_State_halt (m := 2097152) (by decide) (.refl _ _)).dce rfl
@[simp] theorem State.halt_fr {v0 : State} {v1 : Nat} : (State.halt v0 v1).fr = v0.fr :=
  (kept_State_halt (m := 4194304) (by decide) (.refl _ _)).fr rfl
@[simp] theorem State.halt_sb {v0 : State} {v1 : Nat} : (State.halt v0 v1).sb = v0.sb :=
  (kept_State_halt (m := 8388608) (by decide) (.refl _ _)).sb rfl
@[simp] theorem State.halt_lc {v0 : State} {v1 : Nat} : (State.halt v0 v1).lc = v0.lc :=
  (kept_State_halt (m := 33554432) (by decide) (.refl _ _)).lc rfl
@[simp] theorem State.halt_fuse {v0 : State} {v1 : Nat} : (State.halt v0 v1).fuse = v0.fuse :=
  (kept_State_halt (m := 67108864) (by decide) (.refl _ _)).fuse rfl
@[simp] theorem State.halt_urg {v0 : State} {v1 : Nat} : (State.halt v0 v1).urg = v0.urg :=
  (kept_State_halt (m := 268435456) (by decide) (.refl _ _)).urg rfl

@[simp] theorem State.enterPhase_pending {v0 : State} {v1 : Nat} {v2 : UnitPhase} : (State.enterPhase v0 v1 v2).pending = v0.pending :=
  (kept_State_enterPhase (m := 1) (by decide) (.refl _ _)).pending rfl
@[simp] theorem State.enterPhase_out {v0 : State} {v1 : Nat} {v2 : UnitPhase} : (State.enterPhase v0 v1 v2).out = v0.out :=
  (kept_State_enterPhase (m := 2) (by decide) (.refl _ _)).out rfl
@[simp] theorem State.enterPhase_now {v0 : State} {v1 : Nat} {v2 : UnitPhase} : (State.enterPhase v0 v1 v2).now = v0.now :=
  (kept_State_enterPhase (m := 4) (by decide) (.refl _ _)).now rfl
@[simp] theorem State.enterPhase_tie {v0 : State} {v1 : Nat} {v2 : UnitPhase} : (State.enterPhase v0 v1 v2).tie = v0.tie :=
  (kept_State_enterPhase (m := 8) (by decide) (.refl _ _)).tie rfl
@[simp] theorem State.enterPhase_free {v0 : State} {v1 : Nat} {v2 : UnitPhase} : (State.enterPhase v0 v1 v2).free = v0.free :=
  (kept_State_enterPhase (m := 16) (by decide) (.refl _ _)).free rfl
@[simp] theorem State.enterPhase_tu {v0 : State} {v1 : Nat} {v2 : UnitPhase} : (State.enterPhase v0 v1 v2).tu = v0.tu :=
  (kept_State_enterPhase (m := 4096) (by decide) (.refl _ _)).tu rfl
@[simp] theorem State.enterPhase_ts {v0 : State} {v1 : Nat} {v2 : UnitPhase} : (State.enterPhase v0 v1 v2).ts = v0.ts :=
  (kept_State_enterPhase (m := 8192) (by decide) (.refl _ _)).ts rfl
@[simp] theorem State.enterPhase_hg {v0 : State} {v1 : Nat} {v2 : UnitPhase} : (State.enterPhase v0 v1 v2).hg = v0.hg :=
  (kept_State_enterPhase (m := 32768) (by decide) (.refl _ _)).hg rfl
@[simp] theorem State.enterPhase_mono {v0 : State} {v1 : Nat} {v2 : UnitPhase} : (State.enterPhase v0 v1 v2).mono = v0.mono :=
  (kept_State_enterPhase (m := 262144) (by decide) (.refl _ _)).mono rfl
@[simp] theorem State.enterPhase_ft {v0 : State} {v1 : Nat} {v2 : UnitPhase} : (State.enterPhase v0 v1 v2).ft = v0.ft :=
  (kept_State_enterPhase (m := 524288) (by decide) (.refl _ _)).ft rfl
@[simp] theorem State.enterPhase_me {v0 : State} {v1 : Nat} {v2 : UnitPhase} : (State.enterPhase v0 v1 v2).me = v0.me :=
  (kept_State_enterPhase (m := 1048576) (by decide) (.refl _ _)).me rfl
@[simp] theorem State.enterPhase_dce {v0 : State} {v1 : Nat} {v2 : UnitPhase} : (State.enterPhase v0 v1 v2).dce = v0.dce :=
  (kept_State_enterPhase (m := 2097152) (by decide) (.refl _ _)).dce rfl
@[simp] theorem State.enterPhase_fr {v0 : State} {v1 : Nat} {v2 : UnitPhase} : (State.enterPhase v0 v1 v2).fr = v0.fr :=
  (kept_State_enterPhase (m := 4194304) (by decide) (.refl _ _)).fr rfl
@[simp] theorem State.enterPhase_sb {v0 : State} {v1 : Nat} {v2 : UnitPhase} : (State.enterPhase v0 v1 v2).sb = v0.sb :=
  (kept_State_enterPhase (m := 8388608) (by decide) (.refl _ _)).sb rfl
@[simp] theorem State.enterPhase_pln {v0 : State} {v1 : Nat} {v2 : UnitPhase} : (State.enterPhase v0 v1 v2).pln = v0.pln :=
  (kept_State_enterPhase (m := 16777216) (by decide) (.refl _ _)).pln rfl
@[simp] theorem State.enterPhase_lc {v0 : State} {v1 : Nat} {v2 : UnitPhase} : (State.enterPhase v0 v1 v2).lc = v0.lc :=
  (kept_State_enterPhase (m := 33554432) (by decide) (.refl _ _)).lc rfl
@[simp] theorem State.enterPhase_fuse {v0 : State} {v1 : Nat} {v2 : UnitPhase} : (State.enterPhase v0 v1 v2).fuse = v0.fuse :=
  (kept_State_enterPhase (m := 67108864) (by decide) (.refl _ _)).fuse rfl
@[simp] theorem State.enterPhase_urg {v0 : State} {v1 : Nat} {v2 : UnitPhase} : (State.enterPhase v0 v1 v2).urg = v0.urg :=
  (kept_State_enterPhase (m := 268435456) (by decide) (.refl _ _)).urg rfl

@[simp] theorem State.touchDev_pending {v0 : State} {v1 : Nat} {v2 : Nat} : (State.touchDev v0 v1 v2).pending = v0.pending :=
  (kept_State_touchDev (m := 1) (by decide) (.refl _ _)).pending rfl
@[simp] theorem State.touchDev_out {v0 : State} {v1 : Nat} {v2 : Nat} : (State.touchDev v0 v1 v2).out = v0.out :=
  (kept_State_touchDev (m := 2) (by decide) (.refl _ _)).out rfl
@[simp] theorem State.touchDev_now {v0 : State} {v1 : Nat} {v2 : Nat} : (State.touchDev v0 v1 v2).now = v0.now :=
  (kept_State_touchDev (m := 4) (by decide) (.refl _ _)).now rfl
@[simp] theorem State.touchDev_tie {v0 : State} {v1 : Nat} {v2 : Nat} : (State.touchDev v0 v1 v2).tie = v0.tie :=
  (kept_State_touchDev (m := 8) (by decide) (.refl _ _)).tie rfl
@[simp] theorem State.touchDev_free {v0 : State} {v1 : Nat} {v2 : Nat} : (State.touchDev v0 v1 v2).free = v0.free :=
  (kept_State_touchDev (m := 16) (by decide) (.refl _ _)).free rfl
@[simp] theorem State.touchDev_regs {v0 : State} {v1 : Nat} {v2 : Nat} : (State.touchDev v0 v1 v2).regs = v0.regs :=
  (kept_State_touchDev (m := 32) (by decide) (.refl _ _)).regs rfl
@[simp] theorem State.touchDev_dev {v0 : State} {v1 : Nat} {v2 : Nat} : (State.touchDev v0 v1 v2).dev = v0.dev :=
  (kept_State_touchDev (m := 64) (by decide) (.refl _ _)).dev rfl
@[simp] theorem State.touchDev_hostMem {v0 : State} {v1 : Nat} {v2 : Nat} : (State.touchDev v0 v1 v2).hostMem = v0.hostMem :=
  (kept_State_touchDev (m := 128) (by decide) (.refl _ _)).hostMem rfl
@[simp] theorem State.touchDev_lost {v0 : State} {v1 : Nat} {v2 : Nat} : (State.touchDev v0 v1 v2).lost = v0.lost :=
  (kept_State_touchDev (m := 256) (by decide) (.refl _ _)).lost rfl
@[simp] theorem State.touchDev_cabs {v0 : State} {v1 : Nat} {v2 : Nat} : (State.touchDev v0 v1 v2).cabs = v0.cabs :=
  (kept_State_touchDev (m := 512) (by decide) (.refl _ _)).cabs rfl
@[simp] theorem State.touchDev_drw {v0 : State} {v1 : Nat} {v2 : Nat} : (State.touchDev v0 v1 v2).drw = v0.drw :=
  (kept_State_touchDev (m := 1024) (by decide) (.refl _ _)).drw rfl
@[simp] theorem State.touchDev_tu {v0 : State} {v1 : Nat} {v2 : Nat} : (State.touchDev v0 v1 v2).tu = v0.tu :=
  (kept_State_touchDev (m := 4096) (by decide) (.refl _ _)).tu rfl
@[simp] theorem State.touchDev_ts {v0 : State} {v1 : Nat} {v2 : Nat} : (State.touchDev v0 v1 v2).ts = v0.ts :=
  (kept_State_touchDev (m := 8192) (by decide) (.refl _ _)).ts rfl
@[simp] theorem State.touchDev_mix {v0 : State} {v1 : Nat} {v2 : Nat} : (State.touchDev v0 v1 v2).mix = v0.mix :=
  (kept_State_touchDev (m := 16384) (by decide) (.refl _ _)).mix rfl
@[simp] theorem State.touchDev_hg {v0 : State} {v1 : Nat} {v2 : Nat} : (State.touchDev v0 v1 v2).hg = v0.hg :=
  (kept_State_touchDev (m := 32768) (by decide) (.refl _ _)).hg rfl
@[simp] theorem State.touchDev_rcv {v0 : State} {v1 : Nat} {v2 : Nat} : (State.touchDev v0 v1 v2).rcv = v0.rcv :=
  (kept_State_touchDev (m := 65536) (by decide) (.refl _ _)).rcv rfl
@[simp] theorem State.touchDev_ou {v0 : State} {v1 : Nat} {v2 : Nat} : (State.touchDev v0 v1 v2).ou = v0.ou :=
  (kept_State_touchDev (m := 131072) (by decide) (.refl _ _)).ou rfl
@[simp] theorem State.touchDev_mono {v0 : State} {v1 : Nat} {v2 : Nat} : (State.touchDev v0 v1 v2).mono = v0.mono :=
  (kept_State_touchDev (m := 262144) (by decide) (.refl _ _)).mono rfl
@[simp] theorem State.touchDev_ft {v0 : State} {v1 : Nat} {v2 : Nat} : (State.touchDev v0 v1 v2).ft = v0.ft :=
  (kept_State_touchDev (m := 524288) (by decide) (.refl _ _)).ft rfl
@[simp] theorem State.touchDev_me {v0 : State} {v1 : Nat} {v2 : Nat} : (State.touchDev v0 v1 v2).me = v0.me :=
  (kept_State_touchDev (m := 1048576) (by decide) (.refl _ _)).me rfl
@[simp] theorem State.touchDev_dce {v0 : State} {v1 : Nat} {v2 : Nat} : (State.touchDev v0 v1 v2).dce = v0.dce :=
  (kept_State_touchDev (m := 2097152) (by decide) (.refl _ _)).dce rfl
@[simp] theorem State.touchDev_fr {v0 : State} {v1 : Nat} {v2 : Nat} : (State.touchDev v0 v1 v2).fr = v0.fr :=
  (kept_State_touchDev (m := 4194304) (by decide) (.refl _ _)).fr rfl
@[simp] theorem State.touchDev_sb {v0 : State} {v1 : Nat} {v2 : Nat} : (State.touchDev v0 v1 v2).sb = v0.sb :=
  (kept_State_touchDev (m := 8388608) (by decide) (.refl _ _)).sb rfl
@[simp] theorem State.touchDev_pln {v0 : State} {v1 : Nat} {v2 : Nat} : (State.touchDev v0 v1 v2).pln = v0.pln :=
  (kept_State_touchDev (m := 16777216) (by decide) (.refl _ _)).pln rfl
@[simp] theorem State.touchDev_lc {v0 : State} {v1 : Nat} {v2 : Nat} : (State.touchDev v0 v1 v2).lc = v0.lc :=
  (kept_State_touchDev (m := 33554432) (by decide) (.refl _ _)).lc rfl
@[simp] theorem State.touchDev_fuse {v0 : State} {v1 : Nat} {v2 : Nat} : (State.touchDev v0 v1 v2).fuse = v0.fuse :=
  (kept_State_touchDev (m := 67108864) (by decide) (.refl _ _)).fuse rfl
@[simp] theorem State.touchDev_sg {v0 : State} {v1 : Nat} {v2 : Nat} : (State.touchDev v0 v1 v2).sg = v0.sg :=
  (kept_State_touchDev (m := 134217728) (by decide) (.refl _ _)).sg rfl
@[simp] theorem State.touchDev_urg {v0 : State} {v1 : Nat} {v2 : Nat} : (State.touchDev v0 v1 v2).urg = v0.urg :=
  (kept_State_touchDev (m := 268435456) (by decide) (.refl _ _)).urg rfl

@[simp] theorem State.touchHost_pending {v0 : State} {v1 : Nat} {v2 : Nat} : (State.touchHost v0 v1 v2).pending = v0.pending :=
  (kept_State_touchHost (m := 1) (by decide) (.refl _ _)).pending rfl
@[simp] theorem State.touchHost_out {v0 : State} {v1 : Nat} {v2 : Nat} : (State.touchHost v0 v1 v2).out = v0.out :=
  (kept_State_touchHost (m := 2) (by decide) (.refl _ _)).out rfl
@[simp] theorem State.touchHost_now {v0 : State} {v1 : Nat} {v2 : Nat} : (State.touchHost v0 v1 v2).now = v0.now :=
  (kept_State_touchHost (m := 4) (by decide) (.refl _ _)).now rfl
@[simp] theorem State.touchHost_tie {v0 : State} {v1 : Nat} {v2 : Nat} : (State.touchHost v0 v1 v2).tie = v0.tie :=
  (kept_State_touchHost (m := 8) (by decide) (.refl _ _)).tie rfl
@[simp] theorem State.touchHost_free {v0 : State} {v1 : Nat} {v2 : Nat} : (State.touchHost v0 v1 v2).free = v0.free :=
  (kept_State_touchHost (m := 16) (by decide) (.refl _ _)).free rfl
@[simp] theorem State.touchHost_regs {v0 : State} {v1 : Nat} {v2 : Nat} : (State.touchHost v0 v1 v2).regs = v0.regs :=
  (kept_State_touchHost (m := 32) (by decide) (.refl _ _)).regs rfl
@[simp] theorem State.touchHost_dev {v0 : State} {v1 : Nat} {v2 : Nat} : (State.touchHost v0 v1 v2).dev = v0.dev :=
  (kept_State_touchHost (m := 64) (by decide) (.refl _ _)).dev rfl
@[simp] theorem State.touchHost_hostMem {v0 : State} {v1 : Nat} {v2 : Nat} : (State.touchHost v0 v1 v2).hostMem = v0.hostMem :=
  (kept_State_touchHost (m := 128) (by decide) (.refl _ _)).hostMem rfl
@[simp] theorem State.touchHost_lost {v0 : State} {v1 : Nat} {v2 : Nat} : (State.touchHost v0 v1 v2).lost = v0.lost :=
  (kept_State_touchHost (m := 256) (by decide) (.refl _ _)).lost rfl
@[simp] theorem State.touchHost_cabs {v0 : State} {v1 : Nat} {v2 : Nat} : (State.touchHost v0 v1 v2).cabs = v0.cabs :=
  (kept_State_touchHost (m := 512) (by decide) (.refl _ _)).cabs rfl
@[simp] theorem State.touchHost_drw {v0 : State} {v1 : Nat} {v2 : Nat} : (State.touchHost v0 v1 v2).drw = v0.drw :=
  (kept_State_touchHost (m := 1024) (by decide) (.refl _ _)).drw rfl
@[simp] theorem State.touchHost_tu {v0 : State} {v1 : Nat} {v2 : Nat} : (State.touchHost v0 v1 v2).tu = v0.tu :=
  (kept_State_touchHost (m := 4096) (by decide) (.refl _ _)).tu rfl
@[simp] theorem State.touchHost_ts {v0 : State} {v1 : Nat} {v2 : Nat} : (State.touchHost v0 v1 v2).ts = v0.ts :=
  (kept_State_touchHost (m := 8192) (by decide) (.refl _ _)).ts rfl
@[simp] theorem State.touchHost_mix {v0 : State} {v1 : Nat} {v2 : Nat} : (State.touchHost v0 v1 v2).mix = v0.mix :=
  (kept_State_touchHost (m := 16384) (by decide) (.refl _ _)).mix rfl
@[simp] theorem State.touchHost_hg {v0 : State} {v1 : Nat} {v2 : Nat} : (State.touchHost v0 v1 v2).hg = v0.hg :=
  (kept_State_touchHost (m := 32768) (by decide) (.refl _ _)).hg rfl
@[simp] theorem State.touchHost_rcv {v0 : State} {v1 : Nat} {v2 : Nat} : (State.touchHost v0 v1 v2).rcv = v0.rcv :=
  (kept_State_touchHost (m := 65536) (by decide) (.refl _ _)).rcv rfl
@[simp] theorem State.touchHost_ou {v0 : State} {v1 : Nat} {v2 : Nat} : (State.touchHost v0 v1 v2).ou = v0.ou :=
  (kept_State_touchHost (m := 131072) (by decide) (.refl _ _)).ou rfl
@[simp] theorem State.touchHost_mono {v0 : State} {v1 : Nat} {v2 : Nat} : (State.touchHost v0 v1 v2).mono = v0.mono :=
  (kept_State_touchHost (m := 262144) (by decide) (.refl _ _)).mono rfl
@[simp] theorem State.touchHost_ft {v0 : State} {v1 : Nat} {v2 : Nat} : (State.touchHost v0 v1 v2).ft = v0.ft :=
  (kept_State_touchHost (m := 524288) (by decide) (.refl _ _)).ft rfl
@[simp] theorem State.touchHost_me {v0 : State} {v1 : Nat} {v2 : Nat} : (State.touchHost v0 v1 v2).me = v0.me :=
  (kept_State_touchHost (m := 1048576) (by decide) (.refl _ _)).me rfl
@[simp] theorem State.touchHost_dce {v0 : State} {v1 : Nat} {v2 : Nat} : (State.touchHost v0 v1 v2).dce = v0.dce :=
  (kept_State_touchHost (m := 2097152) (by decide) (.refl _ _)).dce rfl
@[simp] theorem State.touchHost_fr {v0 : State} {v1 : Nat} {v2 : Nat} : (State.touchHost v0 v1 v2).fr = v0.fr :=
  (kept_State_touchHost (m := 4194304) (by decide) (.refl _ _)).fr rfl
@[simp] theorem State.touchHost_sb {v0 : State} {v1 : Nat} {v2 : Nat} : (State.touchHost v0 v1 v2).sb = v0.sb :=
  (kept_State_touchHost (m := 8388608) (by decide) (.refl _ _)).sb rfl
@[simp] theorem State.touchHost_pln {v0 : State} {v1 : Nat} {v2 : Nat} : (State.touchHost v0 v1 v2).pln = v0.pln :=
  (kept_State_touchHost (m := 16777216) (by decide) (.refl _ _)).pln rfl
@[simp] theorem State.touchHost_lc {v0 : State} {v1 : Nat} {v2 : Nat} : (State.touchHost v0 v1 v2).lc = v0.lc :=
  (kept_State_touchHost (m := 33554432) (by decide) (.refl _ _)).lc rfl
@[simp] theorem State.touchHost_fuse {v0 : State} {v1 : Nat} {v2 : Nat} : (State.touchHost v0 v1 v2).fuse = v0.fuse :=
  (kept_State_touchHost (m := 67108864) (by decide) (.refl _ _)).fuse rfl
@[simp] theorem State.touchHost_sg {v0 : State} {v1 : Nat} {v2 : Nat} : (State.touchHost v0 v1 v2).sg = v0.sg :=
  (kept_State_touchHost (m := 134217728) (by decide) (.refl _ _)).sg rfl
@[simp] theorem State.touchHost_urg {v0 : State} {v1 : Nat} {v2 : Nat} : (State.touchHost v0 v1 v2).urg = v0.urg :=
  (kept_State_touchHost (m := 268435456) (by decide) (.refl _ _)).urg rfl

@[simp] theorem State.devPut_pending {v0 : State} {v1 : Nat} {v2 : List Byte} : (State.devPut v0 v1 v2).pending = v0.pending :=
  (kept_State_devPut (m := 1) (by decide) (.refl _ _)).pending rfl
@[simp] theorem State.devPut_out {v0 : State} {v1 : Nat} {v2 : List Byte} : (State.devPut v0 v1 v2).out = v0.out :=
  (kept_State_devPut (m := 2) (by decide) (.refl _ _)).out rfl
@[simp] theorem State.devPut_now {v0 : State} {v1 : Nat} {v2 : List Byte} : (State.devPut v0 v1 v2).now = v0.now :=
  (kept_State_devPut (m := 4) (by decide) (.refl _ _)).now rfl
@[simp] theorem State.devPut_tie {v0 : State} {v1 : Nat} {v2 : List Byte} : (State.devPut v0 v1 v2).tie = v0.tie :=
  (kept_State_devPut (m := 8) (by decide) (.refl _ _)).tie rfl
@[simp] theorem State.devPut_free {v0 : State} {v1 : Nat} {v2 : List Byte} : (State.devPut v0 v1 v2).free = v0.free :=
  (kept_State_devPut (m := 16) (by decide) (.refl _ _)).free rfl
@[simp] theorem State.devPut_regs {v0 : State} {v1 : Nat} {v2 : List Byte} : (State.devPut v0 v1 v2).regs = v0.regs :=
  (kept_State_devPut (m := 32) (by decide) (.refl _ _)).regs rfl
@[simp] theorem State.devPut_hostMem {v0 : State} {v1 : Nat} {v2 : List Byte} : (State.devPut v0 v1 v2).hostMem = v0.hostMem :=
  (kept_State_devPut (m := 128) (by decide) (.refl _ _)).hostMem rfl
@[simp] theorem State.devPut_cabs {v0 : State} {v1 : Nat} {v2 : List Byte} : (State.devPut v0 v1 v2).cabs = v0.cabs :=
  (kept_State_devPut (m := 512) (by decide) (.refl _ _)).cabs rfl
@[simp] theorem State.devPut_drw {v0 : State} {v1 : Nat} {v2 : List Byte} : (State.devPut v0 v1 v2).drw = v0.drw :=
  (kept_State_devPut (m := 1024) (by decide) (.refl _ _)).drw rfl
@[simp] theorem State.devPut_lat {v0 : State} {v1 : Nat} {v2 : List Byte} : (State.devPut v0 v1 v2).lat = v0.lat :=
  (kept_State_devPut (m := 2048) (by decide) (.refl _ _)).lat rfl
@[simp] theorem State.devPut_tu {v0 : State} {v1 : Nat} {v2 : List Byte} : (State.devPut v0 v1 v2).tu = v0.tu :=
  (kept_State_devPut (m := 4096) (by decide) (.refl _ _)).tu rfl
@[simp] theorem State.devPut_ts {v0 : State} {v1 : Nat} {v2 : List Byte} : (State.devPut v0 v1 v2).ts = v0.ts :=
  (kept_State_devPut (m := 8192) (by decide) (.refl _ _)).ts rfl
@[simp] theorem State.devPut_mix {v0 : State} {v1 : Nat} {v2 : List Byte} : (State.devPut v0 v1 v2).mix = v0.mix :=
  (kept_State_devPut (m := 16384) (by decide) (.refl _ _)).mix rfl
@[simp] theorem State.devPut_hg {v0 : State} {v1 : Nat} {v2 : List Byte} : (State.devPut v0 v1 v2).hg = v0.hg :=
  (kept_State_devPut (m := 32768) (by decide) (.refl _ _)).hg rfl
@[simp] theorem State.devPut_rcv {v0 : State} {v1 : Nat} {v2 : List Byte} : (State.devPut v0 v1 v2).rcv = v0.rcv :=
  (kept_State_devPut (m := 65536) (by decide) (.refl _ _)).rcv rfl
@[simp] theorem State.devPut_ou {v0 : State} {v1 : Nat} {v2 : List Byte} : (State.devPut v0 v1 v2).ou = v0.ou :=
  (kept_State_devPut (m := 131072) (by decide) (.refl _ _)).ou rfl
@[simp] theorem State.devPut_mono {v0 : State} {v1 : Nat} {v2 : List Byte} : (State.devPut v0 v1 v2).mono = v0.mono :=
  (kept_State_devPut (m := 262144) (by decide) (.refl _ _)).mono rfl
@[simp] theorem State.devPut_ft {v0 : State} {v1 : Nat} {v2 : List Byte} : (State.devPut v0 v1 v2).ft = v0.ft :=
  (kept_State_devPut (m := 524288) (by decide) (.refl _ _)).ft rfl
@[simp] theorem State.devPut_me {v0 : State} {v1 : Nat} {v2 : List Byte} : (State.devPut v0 v1 v2).me = v0.me :=
  (kept_State_devPut (m := 1048576) (by decide) (.refl _ _)).me rfl
@[simp] theorem State.devPut_dce {v0 : State} {v1 : Nat} {v2 : List Byte} : (State.devPut v0 v1 v2).dce = v0.dce :=
  (kept_State_devPut (m := 2097152) (by decide) (.refl _ _)).dce rfl
@[simp] theorem State.devPut_fr {v0 : State} {v1 : Nat} {v2 : List Byte} : (State.devPut v0 v1 v2).fr = v0.fr :=
  (kept_State_devPut (m := 4194304) (by decide) (.refl _ _)).fr rfl
@[simp] theorem State.devPut_sb {v0 : State} {v1 : Nat} {v2 : List Byte} : (State.devPut v0 v1 v2).sb = v0.sb :=
  (kept_State_devPut (m := 8388608) (by decide) (.refl _ _)).sb rfl
@[simp] theorem State.devPut_pln {v0 : State} {v1 : Nat} {v2 : List Byte} : (State.devPut v0 v1 v2).pln = v0.pln :=
  (kept_State_devPut (m := 16777216) (by decide) (.refl _ _)).pln rfl
@[simp] theorem State.devPut_lc {v0 : State} {v1 : Nat} {v2 : List Byte} : (State.devPut v0 v1 v2).lc = v0.lc :=
  (kept_State_devPut (m := 33554432) (by decide) (.refl _ _)).lc rfl
@[simp] theorem State.devPut_fuse {v0 : State} {v1 : Nat} {v2 : List Byte} : (State.devPut v0 v1 v2).fuse = v0.fuse :=
  (kept_State_devPut (m := 67108864) (by decide) (.refl _ _)).fuse rfl
@[simp] theorem State.devPut_sg {v0 : State} {v1 : Nat} {v2 : List Byte} : (State.devPut v0 v1 v2).sg = v0.sg :=
  (kept_State_devPut (m := 134217728) (by decide) (.refl _ _)).sg rfl
@[simp] theorem State.devPut_urg {v0 : State} {v1 : Nat} {v2 : List Byte} : (State.devPut v0 v1 v2).urg = v0.urg :=
  (kept_State_devPut (m := 268435456) (by decide) (.refl _ _)).urg rfl

@[simp] theorem State.charge_pending {v0 : State} {v1 : Nat} {v2 : Who} {v3 : Nat} : (State.charge v0 v1 v2 v3).pending = v0.pending :=
  (kept_State_charge (m := 1) (by decide) (.refl _ _)).pending rfl
@[simp] theorem State.charge_out {v0 : State} {v1 : Nat} {v2 : Who} {v3 : Nat} : (State.charge v0 v1 v2 v3).out = v0.out :=
  (kept_State_charge (m := 2) (by decide) (.refl _ _)).out rfl
@[simp] theorem State.charge_now {v0 : State} {v1 : Nat} {v2 : Who} {v3 : Nat} : (State.charge v0 v1 v2 v3).now = v0.now :=
  (kept_State_charge (m := 4) (by decide) (.refl _ _)).now rfl
@[simp] theorem State.charge_tie {v0 : State} {v1 : Nat} {v2 : Who} {v3 : Nat} : (State.charge v0 v1 v2 v3).tie = v0.tie :=
  (kept_State_charge (m := 8) (by decide) (.refl _ _)).tie rfl
@[simp] theorem State.charge_free {v0 : State} {v1 : Nat} {v2 : Who} {v3 : Nat} : (State.charge v0 v1 v2 v3).free = v0.free :=
  (kept_State_charge (m := 16) (by decide) (.refl _ _)).free rfl
@[simp] theorem State.charge_regs {v0 : State} {v1 : Nat} {v2 : Who} {v3 : Nat} : (State.charge v0 v1 v2 v3).regs = v0.regs :=
  (kept_State_charge (m := 32) (by decide) (.refl _ _)).regs rfl
@[simp] theorem State.charge_dev {v0 : State} {v1 : Nat} {v2 : Who} {v3 : Nat} : (State.charge v0 v1 v2 v3).dev = v0.dev :=
  (kept_State_charge (m := 64) (by decide) (.refl _ _)).dev rfl
@[simp] theorem State.charge_hostMem {v0 : State} {v1 : Nat} {v2 : Who} {v3 : Nat} : (State.charge v0 v1 v2 v3).hostMem = v0.hostMem :=
  (kept_State_charge (m := 128) (by decide) (.refl _ _)).hostMem rfl
@[simp] theorem State.charge_lost {v0 : State} {v1 : Nat} {v2 : Who} {v3 : Nat} : (State.charge v0 v1 v2 v3).lost = v0.lost :=
  (kept_State_charge (m := 256) (by decide) (.refl _ _)).lost rfl
@[simp] theorem State.charge_lat {v0 : State} {v1 : Nat} {v2 : Who} {v3 : Nat} : (State.charge v0 v1 v2 v3).lat = v0.lat :=
  (kept_State_charge (m := 2048) (by decide) (.refl _ _)).lat rfl
@[simp] theorem State.charge_tu {v0 : State} {v1 : Nat} {v2 : Who} {v3 : Nat} : (State.charge v0 v1 v2 v3).tu = v0.tu :=
  (kept_State_charge (m := 4096) (by decide) (.refl _ _)).tu rfl
@[simp] theorem State.charge_ts {v0 : State} {v1 : Nat} {v2 : Who} {v3 : Nat} : (State.charge v0 v1 v2 v3).ts = v0.ts :=
  (kept_State_charge (m := 8192) (by decide) (.refl _ _)).ts rfl
@[simp] theorem State.charge_mix {v0 : State} {v1 : Nat} {v2 : Who} {v3 : Nat} : (State.charge v0 v1 v2 v3).mix = v0.mix :=
  (kept_State_charge (m := 16384) (by decide) (.refl _ _)).mix rfl
@[simp] theorem State.charge_hg {v0 : State} {v1 : Nat} {v2 : Who} {v3 : Nat} : (State.charge v0 v1 v2 v3).hg = v0.hg :=
  (kept_State_charge (m := 32768) (by decide) (.refl _ _)).hg rfl
@[simp] theorem State.charge_rcv {v0 : State} {v1 : Nat} {v2 : Who} {v3 : Nat} : (State.charge v0 v1 v2 v3).rcv = v0.rcv :=
  (kept_State_charge (m := 65536) (by decide) (.refl _ _)).rcv rfl
@[simp] theorem State.charge_ou {v0 : State} {v1 : Nat} {v2 : Who} {v3 : Nat} : (State.charge v0 v1 v2 v3).ou = v0.ou :=
  (kept_State_charge (m := 131072) (by decide) (.refl _ _)).ou rfl
@[simp] theorem State.charge_mono {v0 : State} {v1 : Nat} {v2 : Who} {v3 : Nat} : (State.charge v0 v1 v2 v3).mono = v0.mono :=
  (kept_State_charge (m := 262144) (by decide) (.refl _ _)).mono rfl
@[simp] theorem State.charge_ft {v0 : State} {v1 : Nat} {v2 : Who} {v3 : Nat} : (State.charge v0 v1 v2 v3).ft = v0.ft :=
  (kept_State_charge (m := 524288) (by decide) (.refl _ _)).ft rfl
@[simp] theorem State.charge_me {v0 : State} {v1 : Nat} {v2 : Who} {v3 : Nat} : (State.charge v0 v1 v2 v3).me = v0.me :=
  (kept_State_charge (m := 1048576) (by decide) (.refl _ _)).me rfl
@[simp] theorem State.charge_dce {v0 : State} {v1 : Nat} {v2 : Who} {v3 : Nat} : (State.charge v0 v1 v2 v3).dce = v0.dce :=
  (kept_State_charge (m := 2097152) (by decide) (.refl _ _)).dce rfl
@[simp] theorem State.charge_fr {v0 : State} {v1 : Nat} {v2 : Who} {v3 : Nat} : (State.charge v0 v1 v2 v3).fr = v0.fr :=
  (kept_State_charge (m := 4194304) (by decide) (.refl _ _)).fr rfl
@[simp] theorem State.charge_sb {v0 : State} {v1 : Nat} {v2 : Who} {v3 : Nat} : (State.charge v0 v1 v2 v3).sb = v0.sb :=
  (kept_State_charge (m := 8388608) (by decide) (.refl _ _)).sb rfl
@[simp] theorem State.charge_pln {v0 : State} {v1 : Nat} {v2 : Who} {v3 : Nat} : (State.charge v0 v1 v2 v3).pln = v0.pln :=
  (kept_State_charge (m := 16777216) (by decide) (.refl _ _)).pln rfl
@[simp] theorem State.charge_lc {v0 : State} {v1 : Nat} {v2 : Who} {v3 : Nat} : (State.charge v0 v1 v2 v3).lc = v0.lc :=
  (kept_State_charge (m := 33554432) (by decide) (.refl _ _)).lc rfl
@[simp] theorem State.charge_fuse {v0 : State} {v1 : Nat} {v2 : Who} {v3 : Nat} : (State.charge v0 v1 v2 v3).fuse = v0.fuse :=
  (kept_State_charge (m := 67108864) (by decide) (.refl _ _)).fuse rfl
@[simp] theorem State.charge_urg {v0 : State} {v1 : Nat} {v2 : Who} {v3 : Nat} : (State.charge v0 v1 v2 v3).urg = v0.urg :=
  (kept_State_charge (m := 268435456) (by decide) (.refl _ _)).urg rfl

@[simp] theorem State.pushLeaving_pending {v0 : State} {v1 : Nat} : (State.pushLeaving v0 v1).pending = v0.pending :=
  (kept_State_pushLeaving (m := 1) (by decide) (.refl _ _)).pending rfl
@[simp] theorem State.pushLeaving_now {v0 : State} {v1 : Nat} : (State.pushLeaving v0 v1).now = v0.now :=
  (kept_State_pushLeaving (m := 4) (by decide) (.refl _ _)).now rfl
@[simp] theorem State.pushLeaving_tie {v0 : State} {v1 : Nat} : (State.pushLeaving v0 v1).tie = v0.tie :=
  (kept_State_pushLeaving (m := 8) (by decide) (.refl _ _)).tie rfl
@[simp] theorem State.pushLeaving_free {v0 : State} {v1 : Nat} : (State.pushLeaving v0 v1).free = v0.free :=
  (kept_State_pushLeaving (m := 16) (by decide) (.refl _ _)).free rfl
@[simp] theorem State.pushLeaving_regs {v0 : State} {v1 : Nat} : (State.pushLeaving v0 v1).regs = v0.regs :=
  (kept_State_pushLeaving (m := 32) (by decide) (.refl _ _)).regs rfl
@[simp] theorem State.pushLeaving_dev {v0 : State} {v1 : Nat} : (State.pushLeaving v0 v1).dev = v0.dev :=
  (kept_State_pushLeaving (m := 64) (by decide) (.refl _ _)).dev rfl
@[simp] theorem State.pushLeaving_hostMem {v0 : State} {v1 : Nat} : (State.pushLeaving v0 v1).hostMem = v0.hostMem :=
  (kept_State_pushLeaving (m := 128) (by decide) (.refl _ _)).hostMem rfl
@[simp] theorem State.pushLeaving_lost {v0 : State} {v1 : Nat} : (State.pushLeaving v0 v1).lost = v0.lost :=
  (kept_State_pushLeaving (m := 256) (by decide) (.refl _ _)).lost rfl
@[simp] theorem State.pushLeaving_cabs {v0 : State} {v1 : Nat} : (State.pushLeaving v0 v1).cabs = v0.cabs :=
  (kept_State_pushLeaving (m := 512) (by decide) (.refl _ _)).cabs rfl
@[simp] theorem State.pushLeaving_drw {v0 : State} {v1 : Nat} : (State.pushLeaving v0 v1).drw = v0.drw :=
  (kept_State_pushLeaving (m := 1024) (by decide) (.refl _ _)).drw rfl
@[simp] theorem State.pushLeaving_lat {v0 : State} {v1 : Nat} : (State.pushLeaving v0 v1).lat = v0.lat :=
  (kept_State_pushLeaving (m := 2048) (by decide) (.refl _ _)).lat rfl
@[simp] theorem State.pushLeaving_tu {v0 : State} {v1 : Nat} : (State.pushLeaving v0 v1).tu = v0.tu :=
  (kept_State_pushLeaving (m := 4096) (by decide) (.refl _ _)).tu rfl
@[simp] theorem State.pushLeaving_mix {v0 : State} {v1 : Nat} : (State.pushLeaving v0 v1).mix = v0.mix :=
  (kept_State_pushLeaving (m := 16384) (by decide) (.refl _ _)).mix rfl
@[simp] theorem State.pushLeaving_hg {v0 : State} {v1 : Nat} : (State.pushLeaving v0 v1).hg = v0.hg :=
  (kept_State_pushLeaving (m := 32768) (by decide) (.refl _ _)).hg rfl
@[simp] theorem State.pushLeaving_rcv {v0 : State} {v1 : Nat} : (State.pushLeaving v0 v1).rcv = v0.rcv :=
  (kept_State_pushLeaving (m := 65536) (by decide) (.refl _ _)).rcv rfl
@[simp] theorem State.pushLeaving_ou {v0 : State} {v1 : Nat} : (State.pushLeaving v0 v1).ou = v0.ou :=
  (kept_State_pushLeaving (m := 131072) (by decide) (.refl _ _)).ou rfl
@[simp] theorem State.pushLeaving_mono {v0 : State} {v1 : Nat} : (State.pushLeaving v0 v1).mono = v0.mono :=
  (kept_State_pushLeaving (m := 262144) (by decide) (.refl _ _)).mono rfl
@[simp] theorem State.pushLeaving_ft {v0 : State} {v1 : Nat} : (State.pushLeaving v0 v1).ft = v0.ft :=
  (kept_State_pushLeaving (m := 524288) (by decide) (.refl _ _)).ft rfl
@[simp] theorem State.pushLeaving_me {v0 : State} {v1 : Nat} : (State.pushLeaving v0 v1).me = v0.me :=
  (kept_State_pushLeaving (m := 1048576) (by decide) (.refl _ _)).me rfl
@[simp] theorem State.pushLeaving_dce {v0 : State} {v1 : Nat} : (State.pushLeaving v0 v1).dce = v0.dce :=
  (kept_State_pushLeaving (m := 2097152) (by decide) (.refl _ _)).dce rfl
@[simp] theorem State.pushLeaving_fr {v0 : State} {v1 : Nat} : (State.pushLeaving v0 v1).fr = v0.fr :=
  (kept_State_pushLeaving (m := 4194304) (by decide) (.refl _ _)).fr rfl
@[simp] theorem State.pushLeaving_sb {v0 : State} {v1 : Nat} : (State.pushLeaving v0 v1).sb = v0.sb :=
  (kept_State_pushLeaving (m := 8388608) (by decide) (.refl _ _)).sb rfl
@[simp] theorem State.pushLeaving_pln {v0 : State} {v1 : Nat} : (State.pushLeaving v0 v1).pln = v0.pln :=
  (kept_State_pushLeaving (m := 16777216) (by decide) (.refl _ _)).pln rfl
@[simp] theorem State.pushLeaving_lc {v0 : State} {v1 : Nat} : (State.pushLeaving v0 v1).lc = v0.lc :=
  (kept_State_pushLeaving (m := 33554432) (by decide) (.refl _ _)).lc rfl
@[simp] theorem State.pushLeaving_fuse {v0 : State} {v1 : Nat} : (State.pushLeaving v0 v1).fuse = v0.fuse :=
  (kept_State_pushLeaving (m := 67108864) (by decide) (.refl _ _)).fuse rfl
@[simp] theorem State.pushLeaving_sg {v0 : State} {v1 : Nat} : (State.pushLeaving v0 v1).sg = v0.sg :=
  (kept_State_pushLeaving (m := 134217728) (by decide) (.refl _ _)).sg rfl
@[simp] theorem State.pushLeaving_urg {v0 : State} {v1 : Nat} : (State.pushLeaving v0 v1).urg = v0.urg :=
  (kept_State_pushLeaving (m := 268435456) (by decide) (.refl _ _)).urg rfl

@[simp] theorem State.pushDestroy_pending {v0 : State} {v1 : Nat} : (State.pushDestroy v0 v1).pending = v0.pending :=
  (kept_State_pushDestroy (m := 1) (by decide) (.refl _ _)).pending rfl
@[simp] theorem State.pushDestroy_now {v0 : State} {v1 : Nat} : (State.pushDestroy v0 v1).now = v0.now :=
  (kept_State_pushDestroy (m := 4) (by decide) (.refl _ _)).now rfl
@[simp] theorem State.pushDestroy_tie {v0 : State} {v1 : Nat} : (State.pushDestroy v0 v1).tie = v0.tie :=
  (kept_State_pushDestroy (m := 8) (by decide) (.refl _ _)).tie rfl
@[simp] theorem State.pushDestroy_free {v0 : State} {v1 : Nat} : (State.pushDestroy v0 v1).free = v0.free :=
  (kept_State_pushDestroy (m := 16) (by decide) (.refl _ _)).free rfl
@[simp] theorem State.pushDestroy_regs {v0 : State} {v1 : Nat} : (State.pushDestroy v0 v1).regs = v0.regs :=
  (kept_State_pushDestroy (m := 32) (by decide) (.refl _ _)).regs rfl
@[simp] theorem State.pushDestroy_dev {v0 : State} {v1 : Nat} : (State.pushDestroy v0 v1).dev = v0.dev :=
  (kept_State_pushDestroy (m := 64) (by decide) (.refl _ _)).dev rfl
@[simp] theorem State.pushDestroy_hostMem {v0 : State} {v1 : Nat} : (State.pushDestroy v0 v1).hostMem = v0.hostMem :=
  (kept_State_pushDestroy (m := 128) (by decide) (.refl _ _)).hostMem rfl
@[simp] theorem State.pushDestroy_lost {v0 : State} {v1 : Nat} : (State.pushDestroy v0 v1).lost = v0.lost :=
  (kept_State_pushDestroy (m := 256) (by decide) (.refl _ _)).lost rfl
@[simp] theorem State.pushDestroy_cabs {v0 : State} {v1 : Nat} : (State.pushDestroy v0 v1).cabs = v0.cabs :=
  (kept_State_pushDestroy (m := 512) (by decide) (.refl _ _)).cabs rfl
@[simp] theorem State.pushDestroy_drw {v0 : State} {v1 : Nat} : (State.pushDestroy v0 v1).drw = v0.drw :=
  (kept_State_pushDestroy (m := 1024) (by decide) (.refl _ _)).drw rfl
@[simp] theorem State.pushDestroy_lat {v0 : State} {v1 : Nat} : (State.pushDestroy v0 v1).lat = v0.lat :=
  (kept_State_pushDestroy (m := 2048) (by decide) (.refl _ _)).lat rfl
@[simp] theorem State.pushDestroy_tu {v0 : State} {v1 : Nat} : (State.pushDestroy v0 v1).tu = v0.tu :=
  (kept_State_pushDestroy (m := 4096) (by decide) (.refl _ _)).tu rfl
@[simp] theorem State.pushDestroy_mix {v0 : State} {v1 : Nat} : (State.pushDestroy v0 v1).mix = v0.mix :=
  (kept_State_pushDestroy (m := 16384) (by decide) (.refl _ _)).mix rfl
@[simp] theorem State.pushDestroy_hg {v0 : State} {v1 : Nat} : (State.pushDestroy v0 v1).hg = v0.hg :=
  (kept_State_pushDestroy (m := 32768) (by decide) (.refl _ _)).hg rfl
@[simp] theorem State.pushDestroy_rcv {v0 : State} {v1 : Nat} : (State.pushDestroy v0 v1).rcv = v0.rcv :=
  (kept_State_pushDestroy (m := 65536) (by decide) (.refl _ _)).rcv rfl
@[simp] theorem State.pushDestroy_ou {v0 : State} {v1 : Nat} : (State.pushDestroy v0 v1).ou = v0.ou :=
  (kept_State_pushDestroy (m := 131072) (by decide) (.refl _ _)).ou rfl
@[simp] theorem State.pushDestroy_mono {v0 : State} {v1 : Nat} : (State.pushDestroy v0 v1).mono = v0.mono :=
  (kept_State_pushDestroy (m := 262144) (by decide) (.refl _ _)).mono rfl
@[simp] theorem State.pushDestroy_ft {v0 : State} {v1 : Nat} : (State.pushDestroy v0 v1).ft = v0.ft :=
  (kept_State_pushDestroy (m := 524288) (by decide) (.refl _ _)).ft rfl
@[simp] theorem State.pushDestroy_me {v0 : State} {v1 : Nat} : (State.pushDestroy v0 v1).me = v0.me :=
  (kept_State_pushDestroy (m := 1048576) (by decide) (.refl _ _)).me rfl
@[simp] theorem State.pushDestroy_dce {v0 : State} {v1 : Nat} : (State.pushDestroy v0 v1).dce = v0.dce :=
  (kept_State_pushDestroy (m := 2097152) (by decide) (.refl _ _)).dce rfl
@[simp] theorem State.pushDestroy_fr {v0 : State} {v1 : Nat} : (State.pushDestroy v0 v1).fr = v0.fr :=
  (kept_State_pushDestroy (m := 4194304) (by decide) (.refl _ _)).fr rfl
@[simp] theorem State.pushDestroy_sb {v0 : State} {v1 : Nat} : (State.pushDestroy v0 v1).sb = v0.sb :=
  (kept_State_pushDestroy (m := 8388608) (by decide) (.refl _ _)).sb rfl
@[simp] theorem State.pushDestroy_pln {v0 : State} {v1 : Nat} : (State.pushDestroy v0 v1).pln = v0.pln :=
  (kept_State_pushDestroy (m := 16777216) (by decide) (.refl _ _)).pln rfl
@[simp] theorem State.pushDestroy_lc {v0 : State} {v1 : Nat} : (State.pushDestroy v0 v1).lc = v0.lc :=
  (kept_State_pushDestroy (m := 33554432) (by decide) (.refl _ _)).lc rfl
@[simp] theorem State.pushDestroy_fuse {v0 : State} {v1 : Nat} : (State.pushDestroy v0 v1).fuse = v0.fuse :=
  (kept_State_pushDestroy (m := 67108864) (by decide) (.refl _ _)).fuse rfl
@[simp] theorem State.pushDestroy_sg {v0 : State} {v1 : Nat} : (State.pushDestroy v0 v1).sg = v0.sg :=
  (kept_State_pushDestroy (m := 134217728) (by decide) (.refl _ _)).sg rfl
@[simp] theorem State.pushDestroy_urg {v0 : State} {v1 : Nat} : (State.pushDestroy v0 v1).urg = v0.urg :=
  (kept_State_pushDestroy (m := 268435456) (by decide) (.refl _ _)).urg rfl

@[simp] theorem State.joinTile_pending {v0 : State} {v1 : Nat} {v2 : Nat} : (State.joinTile v0 v1 v2).pending = v0.pending :=
  (kept_State_joinTile (m := 1) (by decide) (.refl _ _)).pending rfl
@[simp] theorem State.joinTile_now {v0 : State} {v1 : Nat} {v2 : Nat} : (State.joinTile v0 v1 v2).now = v0.now :=
  (kept_State_joinTile (m := 4) (by decide) (.refl _ _)).now rfl
@[simp] theorem State.joinTile_tie {v0 : State} {v1 : Nat} {v2 : Nat} : (State.joinTile v0 v1 v2).tie = v0.tie :=
  (kept_State_joinTile (m := 8) (by decide) (.refl _ _)).tie rfl
@[simp] theorem State.joinTile_free {v0 : State} {v1 : Nat} {v2 : Nat} : (State.joinTile v0 v1 v2).free = v0.free :=
  (kept_State_joinTile (m := 16) (by decide) (.refl _ _)).free rfl
@[simp] theorem State.joinTile_regs {v0 : State} {v1 : Nat} {v2 : Nat} : (State.joinTile v0 v1 v2).regs = v0.regs :=
  (kept_State_joinTile (m := 32) (by decide) (.refl _ _)).regs rfl
@[simp] theorem State.joinTile_dev {v0 : State} {v1 : Nat} {v2 : Nat} : (State.joinTile v0 v1 v2).dev = v0.dev :=
  (kept_State_joinTile (m := 64) (by decide) (.refl _ _)).dev rfl
@[simp] theorem State.joinTile_hostMem {v0 : State} {v1 : Nat} {v2 : Nat} : (State.joinTile v0 v1 v2).hostMem = v0.hostMem :=
  (kept_State_joinTile (m := 128) (by decide) (.refl _ _)).hostMem rfl
@[simp] theorem State.joinTile_lost {v0 : State} {v1 : Nat} {v2 : Nat} : (State.joinTile v0 v1 v2).lost = v0.lost :=
  (kept_State_joinTile (m := 256) (by decide) (.refl _ _)).lost rfl
@[simp] theorem State.joinTile_cabs {v0 : State} {v1 : Nat} {v2 : Nat} : (State.joinTile v0 v1 v2).cabs = v0.cabs :=
  (kept_State_joinTile (m := 512) (by decide) (.refl _ _)).cabs rfl
@[simp] theorem State.joinTile_drw {v0 : State} {v1 : Nat} {v2 : Nat} : (State.joinTile v0 v1 v2).drw = v0.drw :=
  (kept_State_joinTile (m := 1024) (by decide) (.refl _ _)).drw rfl
@[simp] theorem State.joinTile_lat {v0 : State} {v1 : Nat} {v2 : Nat} : (State.joinTile v0 v1 v2).lat = v0.lat :=
  (kept_State_joinTile (m := 2048) (by decide) (.refl _ _)).lat rfl
@[simp] theorem State.joinTile_tu {v0 : State} {v1 : Nat} {v2 : Nat} : (State.joinTile v0 v1 v2).tu = v0.tu :=
  (kept_State_joinTile (m := 4096) (by decide) (.refl _ _)).tu rfl
@[simp] theorem State.joinTile_mix {v0 : State} {v1 : Nat} {v2 : Nat} : (State.joinTile v0 v1 v2).mix = v0.mix :=
  (kept_State_joinTile (m := 16384) (by decide) (.refl _ _)).mix rfl
@[simp] theorem State.joinTile_hg {v0 : State} {v1 : Nat} {v2 : Nat} : (State.joinTile v0 v1 v2).hg = v0.hg :=
  (kept_State_joinTile (m := 32768) (by decide) (.refl _ _)).hg rfl
@[simp] theorem State.joinTile_rcv {v0 : State} {v1 : Nat} {v2 : Nat} : (State.joinTile v0 v1 v2).rcv = v0.rcv :=
  (kept_State_joinTile (m := 65536) (by decide) (.refl _ _)).rcv rfl
@[simp] theorem State.joinTile_ou {v0 : State} {v1 : Nat} {v2 : Nat} : (State.joinTile v0 v1 v2).ou = v0.ou :=
  (kept_State_joinTile (m := 131072) (by decide) (.refl _ _)).ou rfl
@[simp] theorem State.joinTile_mono {v0 : State} {v1 : Nat} {v2 : Nat} : (State.joinTile v0 v1 v2).mono = v0.mono :=
  (kept_State_joinTile (m := 262144) (by decide) (.refl _ _)).mono rfl
@[simp] theorem State.joinTile_ft {v0 : State} {v1 : Nat} {v2 : Nat} : (State.joinTile v0 v1 v2).ft = v0.ft :=
  (kept_State_joinTile (m := 524288) (by decide) (.refl _ _)).ft rfl
@[simp] theorem State.joinTile_me {v0 : State} {v1 : Nat} {v2 : Nat} : (State.joinTile v0 v1 v2).me = v0.me :=
  (kept_State_joinTile (m := 1048576) (by decide) (.refl _ _)).me rfl
@[simp] theorem State.joinTile_dce {v0 : State} {v1 : Nat} {v2 : Nat} : (State.joinTile v0 v1 v2).dce = v0.dce :=
  (kept_State_joinTile (m := 2097152) (by decide) (.refl _ _)).dce rfl
@[simp] theorem State.joinTile_fr {v0 : State} {v1 : Nat} {v2 : Nat} : (State.joinTile v0 v1 v2).fr = v0.fr :=
  (kept_State_joinTile (m := 4194304) (by decide) (.refl _ _)).fr rfl
@[simp] theorem State.joinTile_sb {v0 : State} {v1 : Nat} {v2 : Nat} : (State.joinTile v0 v1 v2).sb = v0.sb :=
  (kept_State_joinTile (m := 8388608) (by decide) (.refl _ _)).sb rfl
@[simp] theorem State.joinTile_pln {v0 : State} {v1 : Nat} {v2 : Nat} : (State.joinTile v0 v1 v2).pln = v0.pln :=
  (kept_State_joinTile (m := 16777216) (by decide) (.refl _ _)).pln rfl
@[simp] theorem State.joinTile_lc {v0 : State} {v1 : Nat} {v2 : Nat} : (State.joinTile v0 v1 v2).lc = v0.lc :=
  (kept_State_joinTile (m := 33554432) (by decide) (.refl _ _)).lc rfl
@[simp] theorem State.joinTile_fuse {v0 : State} {v1 : Nat} {v2 : Nat} : (State.joinTile v0 v1 v2).fuse = v0.fuse :=
  (kept_State_joinTile (m := 67108864) (by decide) (.refl _ _)).fuse rfl
@[simp] theorem State.joinTile_sg {v0 : State} {v1 : Nat} {v2 : Nat} : (State.joinTile v0 v1 v2).sg = v0.sg :=
  (kept_State_joinTile (m := 134217728) (by decide) (.refl _ _)).sg rfl
@[simp] theorem State.joinTile_urg {v0 : State} {v1 : Nat} {v2 : Nat} : (State.joinTile v0 v1 v2).urg = v0.urg :=
  (kept_State_joinTile (m := 268435456) (by decide) (.refl _ _)).urg rfl

@[simp] theorem State.drawKey_pending {v0 : State} {v1 : Nat} : (State.drawKey v0 v1).pending = v0.pending :=
  (kept_State_drawKey (m := 1) (by decide) (.refl _ _)).pending rfl
@[simp] theorem State.drawKey_out {v0 : State} {v1 : Nat} : (State.drawKey v0 v1).out = v0.out :=
  (kept_State_drawKey (m := 2) (by decide) (.refl _ _)).out rfl
@[simp] theorem State.drawKey_now {v0 : State} {v1 : Nat} : (State.drawKey v0 v1).now = v0.now :=
  (kept_State_drawKey (m := 4) (by decide) (.refl _ _)).now rfl
@[simp] theorem State.drawKey_tie {v0 : State} {v1 : Nat} : (State.drawKey v0 v1).tie = v0.tie :=
  (kept_State_drawKey (m := 8) (by decide) (.refl _ _)).tie rfl
@[simp] theorem State.drawKey_dev {v0 : State} {v1 : Nat} : (State.drawKey v0 v1).dev = v0.dev :=
  (kept_State_drawKey (m := 64) (by decide) (.refl _ _)).dev rfl
@[simp] theorem State.drawKey_hostMem {v0 : State} {v1 : Nat} : (State.drawKey v0 v1).hostMem = v0.hostMem :=
  (kept_State_drawKey (m := 128) (by decide) (.refl _ _)).hostMem rfl
@[simp] theorem State.drawKey_lost {v0 : State} {v1 : Nat} : (State.drawKey v0 v1).lost = v0.lost :=
  (kept_State_drawKey (m := 256) (by decide) (.refl _ _)).lost rfl
@[simp] theorem State.drawKey_drw {v0 : State} {v1 : Nat} : (State.drawKey v0 v1).drw = v0.drw :=
  (kept_State_drawKey (m := 1024) (by decide) (.refl _ _)).drw rfl
@[simp] theorem State.drawKey_lat {v0 : State} {v1 : Nat} : (State.drawKey v0 v1).lat = v0.lat :=
  (kept_State_drawKey (m := 2048) (by decide) (.refl _ _)).lat rfl
@[simp] theorem State.drawKey_tu {v0 : State} {v1 : Nat} : (State.drawKey v0 v1).tu = v0.tu :=
  (kept_State_drawKey (m := 4096) (by decide) (.refl _ _)).tu rfl
@[simp] theorem State.drawKey_ts {v0 : State} {v1 : Nat} : (State.drawKey v0 v1).ts = v0.ts :=
  (kept_State_drawKey (m := 8192) (by decide) (.refl _ _)).ts rfl
@[simp] theorem State.drawKey_hg {v0 : State} {v1 : Nat} : (State.drawKey v0 v1).hg = v0.hg :=
  (kept_State_drawKey (m := 32768) (by decide) (.refl _ _)).hg rfl
@[simp] theorem State.drawKey_rcv {v0 : State} {v1 : Nat} : (State.drawKey v0 v1).rcv = v0.rcv :=
  (kept_State_drawKey (m := 65536) (by decide) (.refl _ _)).rcv rfl
@[simp] theorem State.drawKey_ou {v0 : State} {v1 : Nat} : (State.drawKey v0 v1).ou = v0.ou :=
  (kept_State_drawKey (m := 131072) (by decide) (.refl _ _)).ou rfl
@[simp] theorem State.drawKey_mono {v0 : State} {v1 : Nat} : (State.drawKey v0 v1).mono = v0.mono :=
  (kept_State_drawKey (m := 262144) (by decide) (.refl _ _)).mono rfl
@[simp] theorem State.drawKey_ft {v0 : State} {v1 : Nat} : (State.drawKey v0 v1).ft = v0.ft :=
  (kept_State_drawKey (m := 524288) (by decide) (.refl _ _)).ft rfl
@[simp] theorem State.drawKey_me {v0 : State} {v1 : Nat} : (State.drawKey v0 v1).me = v0.me :=
  (kept_State_drawKey (m := 1048576) (by decide) (.refl _ _)).me rfl
@[simp] theorem State.drawKey_dce {v0 : State} {v1 : Nat} : (State.drawKey v0 v1).dce = v0.dce :=
  (kept_State_drawKey (m := 2097152) (by decide) (.refl _ _)).dce rfl
@[simp] theorem State.drawKey_fr {v0 : State} {v1 : Nat} : (State.drawKey v0 v1).fr = v0.fr :=
  (kept_State_drawKey (m := 4194304) (by decide) (.refl _ _)).fr rfl
@[simp] theorem State.drawKey_sb {v0 : State} {v1 : Nat} : (State.drawKey v0 v1).sb = v0.sb :=
  (kept_State_drawKey (m := 8388608) (by decide) (.refl _ _)).sb rfl
@[simp] theorem State.drawKey_pln {v0 : State} {v1 : Nat} : (State.drawKey v0 v1).pln = v0.pln :=
  (kept_State_drawKey (m := 16777216) (by decide) (.refl _ _)).pln rfl
@[simp] theorem State.drawKey_lc {v0 : State} {v1 : Nat} : (State.drawKey v0 v1).lc = v0.lc :=
  (kept_State_drawKey (m := 33554432) (by decide) (.refl _ _)).lc rfl
@[simp] theorem State.drawKey_fuse {v0 : State} {v1 : Nat} : (State.drawKey v0 v1).fuse = v0.fuse :=
  (kept_State_drawKey (m := 67108864) (by decide) (.refl _ _)).fuse rfl
@[simp] theorem State.drawKey_sg {v0 : State} {v1 : Nat} : (State.drawKey v0 v1).sg = v0.sg :=
  (kept_State_drawKey (m := 134217728) (by decide) (.refl _ _)).sg rfl
@[simp] theorem State.drawKey_urg {v0 : State} {v1 : Nat} : (State.drawKey v0 v1).urg = v0.urg :=
  (kept_State_drawKey (m := 268435456) (by decide) (.refl _ _)).urg rfl

@[simp] theorem State.beginTeardown_pending {v0 : State} {v1 : Nat} {v2 : Nat} {v3 : Bool} {v4 : Option (Nat × Nat)} : (State.beginTeardown v0 v1 v2 v3 v4).pending = v0.pending :=
  (kept_State_beginTeardown (m := 1) (by decide) (.refl _ _)).pending rfl
@[simp] theorem State.beginTeardown_now {v0 : State} {v1 : Nat} {v2 : Nat} {v3 : Bool} {v4 : Option (Nat × Nat)} : (State.beginTeardown v0 v1 v2 v3 v4).now = v0.now :=
  (kept_State_beginTeardown (m := 4) (by decide) (.refl _ _)).now rfl
@[simp] theorem State.beginTeardown_tie {v0 : State} {v1 : Nat} {v2 : Nat} {v3 : Bool} {v4 : Option (Nat × Nat)} : (State.beginTeardown v0 v1 v2 v3 v4).tie = v0.tie :=
  (kept_State_beginTeardown (m := 8) (by decide) (.refl _ _)).tie rfl
@[simp] theorem State.beginTeardown_hg {v0 : State} {v1 : Nat} {v2 : Nat} {v3 : Bool} {v4 : Option (Nat × Nat)} : (State.beginTeardown v0 v1 v2 v3 v4).hg = v0.hg :=
  (kept_State_beginTeardown (m := 32768) (by decide) (.refl _ _)).hg rfl
@[simp] theorem State.beginTeardown_mono {v0 : State} {v1 : Nat} {v2 : Nat} {v3 : Bool} {v4 : Option (Nat × Nat)} : (State.beginTeardown v0 v1 v2 v3 v4).mono = v0.mono :=
  (kept_State_beginTeardown (m := 262144) (by decide) (.refl _ _)).mono rfl
@[simp] theorem State.beginTeardown_pln {v0 : State} {v1 : Nat} {v2 : Nat} {v3 : Bool} {v4 : Option (Nat × Nat)} : (State.beginTeardown v0 v1 v2 v3 v4).pln = v0.pln :=
  (kept_State_beginTeardown (m := 16777216) (by decide) (.refl _ _)).pln rfl
@[simp] theorem State.beginTeardown_lc {v0 : State} {v1 : Nat} {v2 : Nat} {v3 : Bool} {v4 : Option (Nat × Nat)} : (State.beginTeardown v0 v1 v2 v3 v4).lc = v0.lc :=
  (kept_State_beginTeardown (m := 33554432) (by decide) (.refl _ _)).lc rfl
@[simp] theorem State.beginTeardown_fuse {v0 : State} {v1 : Nat} {v2 : Nat} {v3 : Bool} {v4 : Option (Nat × Nat)} : (State.beginTeardown v0 v1 v2 v3 v4).fuse = v0.fuse :=
  (kept_State_beginTeardown (m := 67108864) (by decide) (.refl _ _)).fuse rfl
@[simp] theorem State.beginTeardown_urg {v0 : State} {v1 : Nat} {v2 : Nat} {v3 : Bool} {v4 : Option (Nat × Nat)} : (State.beginTeardown v0 v1 v2 v3 v4).urg = v0.urg :=
  (kept_State_beginTeardown (m := 268435456) (by decide) (.refl _ _)).urg rfl

@[simp] theorem State.clearTag_pending {v0 : State} {v1 : Nat} : (State.clearTag v0 v1).pending = v0.pending :=
  (kept_State_clearTag (m := 1) (by decide) (.refl _ _)).pending rfl
@[simp] theorem State.clearTag_now {v0 : State} {v1 : Nat} : (State.clearTag v0 v1).now = v0.now :=
  (kept_State_clearTag (m := 4) (by decide) (.refl _ _)).now rfl
@[simp] theorem State.clearTag_tie {v0 : State} {v1 : Nat} : (State.clearTag v0 v1).tie = v0.tie :=
  (kept_State_clearTag (m := 8) (by decide) (.refl _ _)).tie rfl
@[simp] theorem State.clearTag_hg {v0 : State} {v1 : Nat} : (State.clearTag v0 v1).hg = v0.hg :=
  (kept_State_clearTag (m := 32768) (by decide) (.refl _ _)).hg rfl
@[simp] theorem State.clearTag_mono {v0 : State} {v1 : Nat} : (State.clearTag v0 v1).mono = v0.mono :=
  (kept_State_clearTag (m := 262144) (by decide) (.refl _ _)).mono rfl
@[simp] theorem State.clearTag_me {v0 : State} {v1 : Nat} : (State.clearTag v0 v1).me = v0.me :=
  (kept_State_clearTag (m := 1048576) (by decide) (.refl _ _)).me rfl
@[simp] theorem State.clearTag_sb {v0 : State} {v1 : Nat} : (State.clearTag v0 v1).sb = v0.sb :=
  (kept_State_clearTag (m := 8388608) (by decide) (.refl _ _)).sb rfl
@[simp] theorem State.clearTag_pln {v0 : State} {v1 : Nat} : (State.clearTag v0 v1).pln = v0.pln :=
  (kept_State_clearTag (m := 16777216) (by decide) (.refl _ _)).pln rfl
@[simp] theorem State.clearTag_lc {v0 : State} {v1 : Nat} : (State.clearTag v0 v1).lc = v0.lc :=
  (kept_State_clearTag (m := 33554432) (by decide) (.refl _ _)).lc rfl
@[simp] theorem State.clearTag_fuse {v0 : State} {v1 : Nat} : (State.clearTag v0 v1).fuse = v0.fuse :=
  (kept_State_clearTag (m := 67108864) (by decide) (.refl _ _)).fuse rfl
@[simp] theorem State.clearTag_urg {v0 : State} {v1 : Nat} : (State.clearTag v0 v1).urg = v0.urg :=
  (kept_State_clearTag (m := 268435456) (by decide) (.refl _ _)).urg rfl

@[simp] theorem State.abortAll_pending {v0 : State} {v1 : Nat} : (State.abortAll v0 v1).pending = v0.pending :=
  (kept_State_abortAll (m := 1) (by decide) (.refl _ _)).pending rfl
@[simp] theorem State.abortAll_now {v0 : State} {v1 : Nat} : (State.abortAll v0 v1).now = v0.now :=
  (kept_State_abortAll (m := 4) (by decide) (.refl _ _)).now rfl
@[simp] theorem State.abortAll_tie {v0 : State} {v1 : Nat} : (State.abortAll v0 v1).tie = v0.tie :=
  (kept_State_abortAll (m := 8) (by decide) (.refl _ _)).tie rfl
@[simp] theorem State.abortAll_free {v0 : State} {v1 : Nat} : (State.abortAll v0 v1).free = v0.free :=
  (kept_State_abortAll (m := 16) (by decide) (.refl _ _)).free rfl
@[simp] theorem State.abortAll_dev {v0 : State} {v1 : Nat} : (State.abortAll v0 v1).dev = v0.dev :=
  (kept_State_abortAll (m := 64) (by decide) (.refl _ _)).dev rfl
@[simp] theorem State.abortAll_hostMem {v0 : State} {v1 : Nat} : (State.abortAll v0 v1).hostMem = v0.hostMem :=
  (kept_State_abortAll (m := 128) (by decide) (.refl _ _)).hostMem rfl
@[simp] theorem State.abortAll_lost {v0 : State} {v1 : Nat} : (State.abortAll v0 v1).lost = v0.lost :=
  (kept_State_abortAll (m := 256) (by decide) (.refl _ _)).lost rfl
@[simp] theorem State.abortAll_cabs {v0 : State} {v1 : Nat} : (State.abortAll v0 v1).cabs = v0.cabs :=
  (kept_State_abortAll (m := 512) (by decide) (.refl _ _)).cabs rfl
@[simp] theorem State.abortAll_drw {v0 : State} {v1 : Nat} : (State.abortAll v0 v1).drw = v0.drw :=
  (kept_State_abortAll (m := 1024) (by decide) (.refl _ _)).drw rfl
@[simp] theorem State.abortAll_lat {v0 : State} {v1 : Nat} : (State.abortAll v0 v1).lat = v0.lat :=
  (kept_State_abortAll (m := 2048) (by decide) (.refl _ _)).lat rfl
@[simp] theorem State.abortAll_tu {v0 : State} {v1 : Nat} : (State.abortAll v0 v1).tu = v0.tu :=
  (kept_State_abortAll (m := 4096) (by decide) (.refl _ _)).tu rfl
@[simp] theorem State.abortAll_ts {v0 : State} {v1 : Nat} : (State.abortAll v0 v1).ts = v0.ts :=
  (kept_State_abortAll (m := 8192) (by decide) (.refl _ _)).ts rfl
@[simp] theorem State.abortAll_mix {v0 : State} {v1 : Nat} : (State.abortAll v0 v1).mix = v0.mix :=
  (kept_State_abortAll (m := 16384) (by decide) (.refl _ _)).mix rfl
@[simp] theorem State.abortAll_hg {v0 : State} {v1 : Nat} : (State.abortAll v0 v1).hg = v0.hg :=
  (kept_State_abortAll (m := 32768) (by decide) (.refl _ _)).hg rfl
@[simp] theorem State.abortAll_rcv {v0 : State} {v1 : Nat} : (State.abortAll v0 v1).rcv = v0.rcv :=
  (kept_State_abortAll (m := 65536) (by decide) (.refl _ _)).rcv rfl
@[simp] theorem State.abortAll_ou {v0 : State} {v1 : Nat} : (State.abortAll v0 v1).ou = v0.ou :=
  (kept_State_abortAll (m := 131072) (by decide) (.refl _ _)).ou rfl
@[simp] theorem State.abortAll_mono {v0 : State} {v1 : Nat} : (State.abortAll v0 v1).mono = v0.mono :=
  (kept_State_abortAll (m := 262144) (by decide) (.refl _ _)).mono rfl
@[simp] theorem State.abortAll_ft {v0 : State} {v1 : Nat} : (State.abortAll v0 v1).ft = v0.ft :=
  (kept_State_abortAll (m := 524288) (by decide) (.refl _ _)).ft rfl
@[simp] theorem State.abortAll_me {v0 : State} {v1 : Nat} : (State.abortAll v0 v1).me = v0.me :=
  (kept_State_abortAll (m := 1048576) (by decide) (.refl _ _)).me rfl
@[simp] theorem State.abortAll_dce {v0 : State} {v1 : Nat} : (State.abortAll v0 v1).dce = v0.dce :=
  (kept_State_abortAll (m := 2097152) (by decide) (.refl _ _)).dce rfl
@[simp] theorem State.abortAll_sb {v0 : State} {v1 : Nat} : (State.abortAll v0 v1).sb = v0.sb :=
  (kept_State_abortAll (m := 8388608) (by decide) (.refl _ _)).sb rfl
@[simp] theorem State.abortAll_pln {v0 : State} {v1 : Nat} : (State.abortAll v0 v1).pln = v0.pln :=
  (kept_State_abortAll (m := 16777216) (by decide) (.refl _ _)).pln rfl
@[simp] theorem State.abortAll_lc {v0 : State} {v1 : Nat} : (State.abortAll v0 v1).lc = v0.lc :=
  (kept_State_abortAll (m := 33554432) (by decide) (.refl _ _)).lc rfl
@[simp] theorem State.abortAll_fuse {v0 : State} {v1 : Nat} : (State.abortAll v0 v1).fuse = v0.fuse :=
  (kept_State_abortAll (m := 67108864) (by decide) (.refl _ _)).fuse rfl
@[simp] theorem State.abortAll_sg {v0 : State} {v1 : Nat} : (State.abortAll v0 v1).sg = v0.sg :=
  (kept_State_abortAll (m := 134217728) (by decide) (.refl _ _)).sg rfl
@[simp] theorem State.abortAll_urg {v0 : State} {v1 : Nat} : (State.abortAll v0 v1).urg = v0.urg :=
  (kept_State_abortAll (m := 268435456) (by decide) (.refl _ _)).urg rfl

@[simp] theorem State.powerCycle_pending {v0 : State} {v1 : Nat} {v2 : Nat} : (State.powerCycle v0 v1 v2).pending = v0.pending :=
  (kept_State_powerCycle (m := 1) (by decide) (.refl _ _)).pending rfl
@[simp] theorem State.powerCycle_now {v0 : State} {v1 : Nat} {v2 : Nat} : (State.powerCycle v0 v1 v2).now = v0.now :=
  (kept_State_powerCycle (m := 4) (by decide) (.refl _ _)).now rfl
@[simp] theorem State.powerCycle_tie {v0 : State} {v1 : Nat} {v2 : Nat} : (State.powerCycle v0 v1 v2).tie = v0.tie :=
  (kept_State_powerCycle (m := 8) (by decide) (.refl _ _)).tie rfl
@[simp] theorem State.powerCycle_free {v0 : State} {v1 : Nat} {v2 : Nat} : (State.powerCycle v0 v1 v2).free = v0.free :=
  (kept_State_powerCycle (m := 16) (by decide) (.refl _ _)).free rfl
@[simp] theorem State.powerCycle_regs {v0 : State} {v1 : Nat} {v2 : Nat} : (State.powerCycle v0 v1 v2).regs = v0.regs :=
  (kept_State_powerCycle (m := 32) (by decide) (.refl _ _)).regs rfl
@[simp] theorem State.powerCycle_dev {v0 : State} {v1 : Nat} {v2 : Nat} : (State.powerCycle v0 v1 v2).dev = v0.dev :=
  (kept_State_powerCycle (m := 64) (by decide) (.refl _ _)).dev rfl
@[simp] theorem State.powerCycle_hostMem {v0 : State} {v1 : Nat} {v2 : Nat} : (State.powerCycle v0 v1 v2).hostMem = v0.hostMem :=
  (kept_State_powerCycle (m := 128) (by decide) (.refl _ _)).hostMem rfl
@[simp] theorem State.powerCycle_lost {v0 : State} {v1 : Nat} {v2 : Nat} : (State.powerCycle v0 v1 v2).lost = v0.lost :=
  (kept_State_powerCycle (m := 256) (by decide) (.refl _ _)).lost rfl
@[simp] theorem State.powerCycle_cabs {v0 : State} {v1 : Nat} {v2 : Nat} : (State.powerCycle v0 v1 v2).cabs = v0.cabs :=
  (kept_State_powerCycle (m := 512) (by decide) (.refl _ _)).cabs rfl
@[simp] theorem State.powerCycle_drw {v0 : State} {v1 : Nat} {v2 : Nat} : (State.powerCycle v0 v1 v2).drw = v0.drw :=
  (kept_State_powerCycle (m := 1024) (by decide) (.refl _ _)).drw rfl
@[simp] theorem State.powerCycle_lat {v0 : State} {v1 : Nat} {v2 : Nat} : (State.powerCycle v0 v1 v2).lat = v0.lat :=
  (kept_State_powerCycle (m := 2048) (by decide) (.refl _ _)).lat rfl
@[simp] theorem State.powerCycle_tu {v0 : State} {v1 : Nat} {v2 : Nat} : (State.powerCycle v0 v1 v2).tu = v0.tu :=
  (kept_State_powerCycle (m := 4096) (by decide) (.refl _ _)).tu rfl
@[simp] theorem State.powerCycle_ts {v0 : State} {v1 : Nat} {v2 : Nat} : (State.powerCycle v0 v1 v2).ts = v0.ts :=
  (kept_State_powerCycle (m := 8192) (by decide) (.refl _ _)).ts rfl
@[simp] theorem State.powerCycle_mix {v0 : State} {v1 : Nat} {v2 : Nat} : (State.powerCycle v0 v1 v2).mix = v0.mix :=
  (kept_State_powerCycle (m := 16384) (by decide) (.refl _ _)).mix rfl
@[simp] theorem State.powerCycle_hg {v0 : State} {v1 : Nat} {v2 : Nat} : (State.powerCycle v0 v1 v2).hg = v0.hg :=
  (kept_State_powerCycle (m := 32768) (by decide) (.refl _ _)).hg rfl
@[simp] theorem State.powerCycle_rcv {v0 : State} {v1 : Nat} {v2 : Nat} : (State.powerCycle v0 v1 v2).rcv = v0.rcv :=
  (kept_State_powerCycle (m := 65536) (by decide) (.refl _ _)).rcv rfl
@[simp] theorem State.powerCycle_ou {v0 : State} {v1 : Nat} {v2 : Nat} : (State.powerCycle v0 v1 v2).ou = v0.ou :=
  (kept_State_powerCycle (m := 131072) (by decide) (.refl _ _)).ou rfl
@[simp] theorem State.powerCycle_mono {v0 : State} {v1 : Nat} {v2 : Nat} : (State.powerCycle v0 v1 v2).mono = v0.mono :=
  (kept_State_powerCycle (m := 262144) (by decide) (.refl _ _)).mono rfl
@[simp] theorem State.powerCycle_ft {v0 : State} {v1 : Nat} {v2 : Nat} : (State.powerCycle v0 v1 v2).ft = v0.ft :=
  (kept_State_powerCycle (m := 524288) (by decide) (.refl _ _)).ft rfl
@[simp] theorem State.powerCycle_me {v0 : State} {v1 : Nat} {v2 : Nat} : (State.powerCycle v0 v1 v2).me = v0.me :=
  (kept_State_powerCycle (m := 1048576) (by decide) (.refl _ _)).me rfl
@[simp] theorem State.powerCycle_dce {v0 : State} {v1 : Nat} {v2 : Nat} : (State.powerCycle v0 v1 v2).dce = v0.dce :=
  (kept_State_powerCycle (m := 2097152) (by decide) (.refl _ _)).dce rfl
@[simp] theorem State.powerCycle_fr {v0 : State} {v1 : Nat} {v2 : Nat} : (State.powerCycle v0 v1 v2).fr = v0.fr :=
  (kept_State_powerCycle (m := 4194304) (by decide) (.refl _ _)).fr rfl
@[simp] theorem State.powerCycle_sb {v0 : State} {v1 : Nat} {v2 : Nat} : (State.powerCycle v0 v1 v2).sb = v0.sb :=
  (kept_State_powerCycle (m := 8388608) (by decide) (.refl _ _)).sb rfl
@[simp] theorem State.powerCycle_lc {v0 : State} {v1 : Nat} {v2 : Nat} : (State.powerCycle v0 v1 v2).lc = v0.lc :=
  (kept_State_powerCycle (m := 33554432) (by decide) (.refl _ _)).lc rfl
@[simp] theorem State.powerCycle_fuse {v0 : State} {v1 : Nat} {v2 : Nat} : (State.powerCycle v0 v1 v2).fuse = v0.fuse :=
  (kept_State_powerCycle (m := 67108864) (by decide) (.refl _ _)).fuse rfl
@[simp] theorem State.powerCycle_sg {v0 : State} {v1 : Nat} {v2 : Nat} : (State.powerCycle v0 v1 v2).sg = v0.sg :=
  (kept_State_powerCycle (m := 134217728) (by decide) (.refl _ _)).sg rfl
@[simp] theorem State.powerCycle_urg {v0 : State} {v1 : Nat} {v2 : Nat} : (State.powerCycle v0 v1 v2).urg = v0.urg :=
  (kept_State_powerCycle (m := 268435456) (by decide) (.refl _ _)).urg rfl

@[simp] theorem State.takeDeferred_pending {v0 : State} : (State.takeDeferred v0).pending = v0.pending :=
  (kept_State_takeDeferred (m := 1) (by decide) (.refl _ _)).pending rfl
@[simp] theorem State.takeDeferred_now {v0 : State} : (State.takeDeferred v0).now = v0.now :=
  (kept_State_takeDeferred (m := 4) (by decide) (.refl _ _)).now rfl
@[simp] theorem State.takeDeferred_tie {v0 : State} : (State.takeDeferred v0).tie = v0.tie :=
  (kept_State_takeDeferred (m := 8) (by decide) (.refl _ _)).tie rfl
@[simp] theorem State.takeDeferred_mono {v0 : State} : (State.takeDeferred v0).mono = v0.mono :=
  (kept_State_takeDeferred (m := 262144) (by decide) (.refl _ _)).mono rfl
@[simp] theorem State.takeDeferred_lc {v0 : State} : (State.takeDeferred v0).lc = v0.lc :=
  (kept_State_takeDeferred (m := 33554432) (by decide) (.refl _ _)).lc rfl
@[simp] theorem State.takeDeferred_fuse {v0 : State} : (State.takeDeferred v0).fuse = v0.fuse :=
  (kept_State_takeDeferred (m := 67108864) (by decide) (.refl _ _)).fuse rfl

@[simp] theorem State.lowerSignal_pending {v0 : State} {v1 : Nat} {v2 : Nat} {v3 : Bool} {v4 : Nat} : (State.lowerSignal v0 v1 v2 v3 v4).pending = v0.pending :=
  (kept_State_lowerSignal (m := 1) (by decide) (.refl _ _)).pending rfl
@[simp] theorem State.lowerSignal_out {v0 : State} {v1 : Nat} {v2 : Nat} {v3 : Bool} {v4 : Nat} : (State.lowerSignal v0 v1 v2 v3 v4).out = v0.out :=
  (kept_State_lowerSignal (m := 2) (by decide) (.refl _ _)).out rfl
@[simp] theorem State.lowerSignal_now {v0 : State} {v1 : Nat} {v2 : Nat} {v3 : Bool} {v4 : Nat} : (State.lowerSignal v0 v1 v2 v3 v4).now = v0.now :=
  (kept_State_lowerSignal (m := 4) (by decide) (.refl _ _)).now rfl
@[simp] theorem State.lowerSignal_tie {v0 : State} {v1 : Nat} {v2 : Nat} {v3 : Bool} {v4 : Nat} : (State.lowerSignal v0 v1 v2 v3 v4).tie = v0.tie :=
  (kept_State_lowerSignal (m := 8) (by decide) (.refl _ _)).tie rfl
@[simp] theorem State.lowerSignal_free {v0 : State} {v1 : Nat} {v2 : Nat} {v3 : Bool} {v4 : Nat} : (State.lowerSignal v0 v1 v2 v3 v4).free = v0.free :=
  (kept_State_lowerSignal (m := 16) (by decide) (.refl _ _)).free rfl
@[simp] theorem State.lowerSignal_dev {v0 : State} {v1 : Nat} {v2 : Nat} {v3 : Bool} {v4 : Nat} : (State.lowerSignal v0 v1 v2 v3 v4).dev = v0.dev :=
  (kept_State_lowerSignal (m := 64) (by decide) (.refl _ _)).dev rfl
@[simp] theorem State.lowerSignal_hostMem {v0 : State} {v1 : Nat} {v2 : Nat} {v3 : Bool} {v4 : Nat} : (State.lowerSignal v0 v1 v2 v3 v4).hostMem = v0.hostMem :=
  (kept_State_lowerSignal (m := 128) (by decide) (.refl _ _)).hostMem rfl
@[simp] theorem State.lowerSignal_lost {v0 : State} {v1 : Nat} {v2 : Nat} {v3 : Bool} {v4 : Nat} : (State.lowerSignal v0 v1 v2 v3 v4).lost = v0.lost :=
  (kept_State_lowerSignal (m := 256) (by decide) (.refl _ _)).lost rfl
@[simp] theorem State.lowerSignal_cabs {v0 : State} {v1 : Nat} {v2 : Nat} {v3 : Bool} {v4 : Nat} : (State.lowerSignal v0 v1 v2 v3 v4).cabs = v0.cabs :=
  (kept_State_lowerSignal (m := 512) (by decide) (.refl _ _)).cabs rfl
@[simp] theorem State.lowerSignal_drw {v0 : State} {v1 : Nat} {v2 : Nat} {v3 : Bool} {v4 : Nat} : (State.lowerSignal v0 v1 v2 v3 v4).drw = v0.drw :=
  (kept_State_lowerSignal (m := 1024) (by decide) (.refl _ _)).drw rfl
@[simp] theorem State.lowerSignal_tu {v0 : State} {v1 : Nat} {v2 : Nat} {v3 : Bool} {v4 : Nat} : (State.lowerSignal v0 v1 v2 v3 v4).tu = v0.tu :=
  (kept_State_lowerSignal (m := 4096) (by decide) (.refl _ _)).tu rfl
@[simp] theorem State.lowerSignal_ts {v0 : State} {v1 : Nat} {v2 : Nat} {v3 : Bool} {v4 : Nat} : (State.lowerSignal v0 v1 v2 v3 v4).ts = v0.ts :=
  (kept_State_lowerSignal (m := 8192) (by decide) (.refl _ _)).ts rfl
@[simp] theorem State.lowerSignal_mix {v0 : State} {v1 : Nat} {v2 : Nat} {v3 : Bool} {v4 : Nat} : (State.lowerSignal v0 v1 v2 v3 v4).mix = v0.mix :=
  (kept_State_lowerSignal (m := 16384) (by decide) (.refl _ _)).mix rfl
@[simp] theorem State.lowerSignal_hg {v0 : State} {v1 : Nat} {v2 : Nat} {v3 : Bool} {v4 : Nat} : (State.lowerSignal v0 v1 v2 v3 v4).hg = v0.hg :=
  (kept_State_lowerSignal (m := 32768) (by decide) (.refl _ _)).hg rfl
@[simp] theorem State.lowerSignal_rcv {v0 : State} {v1 : Nat} {v2 : Nat} {v3 : Bool} {v4 : Nat} : (State.lowerSignal v0 v1 v2 v3 v4).rcv = v0.rcv :=
  (kept_State_lowerSignal (m := 65536) (by decide) (.refl _ _)).rcv rfl
@[simp] theorem State.lowerSignal_ou {v0 : State} {v1 : Nat} {v2 : Nat} {v3 : Bool} {v4 : Nat} : (State.lowerSignal v0 v1 v2 v3 v4).ou = v0.ou :=
  (kept_State_lowerSignal (m := 131072) (by decide) (.refl _ _)).ou rfl
@[simp] theorem State.lowerSignal_mono {v0 : State} {v1 : Nat} {v2 : Nat} {v3 : Bool} {v4 : Nat} : (State.lowerSignal v0 v1 v2 v3 v4).mono = v0.mono :=
  (kept_State_lowerSignal (m := 262144) (by decide) (.refl _ _)).mono rfl
@[simp] theorem State.lowerSignal_ft {v0 : State} {v1 : Nat} {v2 : Nat} {v3 : Bool} {v4 : Nat} : (State.lowerSignal v0 v1 v2 v3 v4).ft = v0.ft :=
  (kept_State_lowerSignal (m := 524288) (by decide) (.refl _ _)).ft rfl
@[simp] theorem State.lowerSignal_me {v0 : State} {v1 : Nat} {v2 : Nat} {v3 : Bool} {v4 : Nat} : (State.lowerSignal v0 v1 v2 v3 v4).me = v0.me :=
  (kept_State_lowerSignal (m := 1048576) (by decide) (.refl _ _)).me rfl
@[simp] theorem State.lowerSignal_dce {v0 : State} {v1 : Nat} {v2 : Nat} {v3 : Bool} {v4 : Nat} : (State.lowerSignal v0 v1 v2 v3 v4).dce = v0.dce :=
  (kept_State_lowerSignal (m := 2097152) (by decide) (.refl _ _)).dce rfl
@[simp] theorem State.lowerSignal_fr {v0 : State} {v1 : Nat} {v2 : Nat} {v3 : Bool} {v4 : Nat} : (State.lowerSignal v0 v1 v2 v3 v4).fr = v0.fr :=
  (kept_State_lowerSignal (m := 4194304) (by decide) (.refl _ _)).fr rfl
@[simp] theorem State.lowerSignal_sb {v0 : State} {v1 : Nat} {v2 : Nat} {v3 : Bool} {v4 : Nat} : (State.lowerSignal v0 v1 v2 v3 v4).sb = v0.sb :=
  (kept_State_lowerSignal (m := 8388608) (by decide) (.refl _ _)).sb rfl
@[simp] theorem State.lowerSignal_pln {v0 : State} {v1 : Nat} {v2 : Nat} {v3 : Bool} {v4 : Nat} : (State.lowerSignal v0 v1 v2 v3 v4).pln = v0.pln :=
  (kept_State_lowerSignal (m := 16777216) (by decide) (.refl _ _)).pln rfl
@[simp] theorem State.lowerSignal_lc {v0 : State} {v1 : Nat} {v2 : Nat} {v3 : Bool} {v4 : Nat} : (State.lowerSignal v0 v1 v2 v3 v4).lc = v0.lc :=
  (kept_State_lowerSignal (m := 33554432) (by decide) (.refl _ _)).lc rfl
@[simp] theorem State.lowerSignal_fuse {v0 : State} {v1 : Nat} {v2 : Nat} {v3 : Bool} {v4 : Nat} : (State.lowerSignal v0 v1 v2 v3 v4).fuse = v0.fuse :=
  (kept_State_lowerSignal (m := 67108864) (by decide) (.refl _ _)).fuse rfl
@[simp] theorem State.lowerSignal_sg {v0 : State} {v1 : Nat} {v2 : Nat} {v3 : Bool} {v4 : Nat} : (State.lowerSignal v0 v1 v2 v3 v4).sg = v0.sg :=
  (kept_State_lowerSignal (m := 134217728) (by decide) (.refl _ _)).sg rfl
@[simp] theorem State.lowerSignal_urg {v0 : State} {v1 : Nat} {v2 : Nat} {v3 : Bool} {v4 : Nat} : (State.lowerSignal v0 v1 v2 v3 v4).urg = v0.urg :=
  (kept_State_lowerSignal (m := 268435456) (by decide) (.refl _ _)).urg rfl

@[simp] theorem State.leave_pending {v0 : State} {v1 : Flight} : (State.leave v0 v1).pending = v0.pending :=
  (kept_State_leave (m := 1) (by decide) (.refl _ _)).pending rfl
@[simp] theorem State.leave_out {v0 : State} {v1 : Flight} : (State.leave v0 v1).out = v0.out :=
  (kept_State_leave (m := 2) (by decide) (.refl _ _)).out rfl
@[simp] theorem State.leave_now {v0 : State} {v1 : Flight} : (State.leave v0 v1).now = v0.now :=
  (kept_State_leave (m := 4) (by decide) (.refl _ _)).now rfl
@[simp] theorem State.leave_tie {v0 : State} {v1 : Flight} : (State.leave v0 v1).tie = v0.tie :=
  (kept_State_leave (m := 8) (by decide) (.refl _ _)).tie rfl
@[simp] theorem State.leave_free {v0 : State} {v1 : Flight} : (State.leave v0 v1).free = v0.free :=
  (kept_State_leave (m := 16) (by decide) (.refl _ _)).free rfl
@[simp] theorem State.leave_dev {v0 : State} {v1 : Flight} : (State.leave v0 v1).dev = v0.dev :=
  (kept_State_leave (m := 64) (by decide) (.refl _ _)).dev rfl
@[simp] theorem State.leave_hostMem {v0 : State} {v1 : Flight} : (State.leave v0 v1).hostMem = v0.hostMem :=
  (kept_State_leave (m := 128) (by decide) (.refl _ _)).hostMem rfl
@[simp] theorem State.leave_lost {v0 : State} {v1 : Flight} : (State.leave v0 v1).lost = v0.lost :=
  (kept_State_leave (m := 256) (by decide) (.refl _ _)).lost rfl
@[simp] theorem State.leave_lat {v0 : State} {v1 : Flight} : (State.leave v0 v1).lat = v0.lat :=
  (kept_State_leave (m := 2048) (by decide) (.refl _ _)).lat rfl
@[simp] theorem State.leave_ts {v0 : State} {v1 : Flight} : (State.leave v0 v1).ts = v0.ts :=
  (kept_State_leave (m := 8192) (by decide) (.refl _ _)).ts rfl
@[simp] theorem State.leave_mix {v0 : State} {v1 : Flight} : (State.leave v0 v1).mix = v0.mix :=
  (kept_State_leave (m := 16384) (by decide) (.refl _ _)).mix rfl
@[simp] theorem State.leave_hg {v0 : State} {v1 : Flight} : (State.leave v0 v1).hg = v0.hg :=
  (kept_State_leave (m := 32768) (by decide) (.refl _ _)).hg rfl
@[simp] theorem State.leave_rcv {v0 : State} {v1 : Flight} : (State.leave v0 v1).rcv = v0.rcv :=
  (kept_State_leave (m := 65536) (by decide) (.refl _ _)).rcv rfl
@[simp] theorem State.leave_ou {v0 : State} {v1 : Flight} : (State.leave v0 v1).ou = v0.ou :=
  (kept_State_leave (m := 131072) (by decide) (.refl _ _)).ou rfl
@[simp] theorem State.leave_mono {v0 : State} {v1 : Flight} : (State.leave v0 v1).mono = v0.mono :=
  (kept_State_leave (m := 262144) (by decide) (.refl _ _)).mono rfl
@[simp] theorem State.leave_ft {v0 : State} {v1 : Flight} : (State.leave v0 v1).ft = v0.ft :=
  (kept_State_leave (m := 524288) (by decide) (.refl _ _)).ft rfl
@[simp] theorem State.leave_me {v0 : State} {v1 : Flight} : (State.leave v0 v1).me = v0.me :=
  (kept_State_leave (m := 1048576) (by decide) (.refl _ _)).me rfl
@[simp] theorem State.leave_dce {v0 : State} {v1 : Flight} : (State.leave v0 v1).dce = v0.dce :=
  (kept_State_leave (m := 2097152) (by decide) (.refl _ _)).dce rfl
@[simp] theorem State.leave_fr {v0 : State} {v1 : Flight} : (State.leave v0 v1).fr = v0.fr :=
  (kept_State_leave (m := 4194304) (by decide) (.refl _ _)).fr rfl
@[simp] theorem State.leave_sb {v0 : State} {v1 : Flight} : (State.leave v0 v1).sb = v0.sb :=
  (kept_State_leave (m := 8388608) (by decide) (.refl _ _)).sb rfl
@[simp] theorem State.leave_pln {v0 : State} {v1 : Flight} : (State.leave v0 v1).pln = v0.pln :=
  (kept_State_leave (m := 16777216) (by decide) (.refl _ _)).pln rfl
@[simp] theorem State.leave_lc {v0 : State} {v1 : Flight} : (State.leave v0 v1).lc = v0.lc :=
  (kept_State_leave (m := 33554432) (by decide) (.refl _ _)).lc rfl
@[simp] theorem State.leave_fuse {v0 : State} {v1 : Flight} : (State.leave v0 v1).fuse = v0.fuse :=
  (kept_State_leave (m := 67108864) (by decide) (.refl _ _)).fuse rfl
@[simp] theorem State.leave_sg {v0 : State} {v1 : Flight} : (State.leave v0 v1).sg = v0.sg :=
  (kept_State_leave (m := 134217728) (by decide) (.refl _ _)).sg rfl
@[simp] theorem State.leave_urg {v0 : State} {v1 : Flight} : (State.leave v0 v1).urg = v0.urg :=
  (kept_State_leave (m := 268435456) (by decide) (.refl _ _)).urg rfl

@[simp] theorem State.closeFlight_pending {v0 : State} {v1 : Flight} {v2 : Ending} : (State.closeFlight v0 v1 v2).pending = v0.pending :=
  (kept_State_closeFlight (m := 1) (by decide) (.refl _ _)).pending rfl
@[simp] theorem State.closeFlight_now {v0 : State} {v1 : Flight} {v2 : Ending} : (State.closeFlight v0 v1 v2).now = v0.now :=
  (kept_State_closeFlight (m := 4) (by decide) (.refl _ _)).now rfl
@[simp] theorem State.closeFlight_tie {v0 : State} {v1 : Flight} {v2 : Ending} : (State.closeFlight v0 v1 v2).tie = v0.tie :=
  (kept_State_closeFlight (m := 8) (by decide) (.refl _ _)).tie rfl
@[simp] theorem State.closeFlight_ts {v0 : State} {v1 : Flight} {v2 : Ending} : (State.closeFlight v0 v1 v2).ts = v0.ts :=
  (kept_State_closeFlight (m := 8192) (by decide) (.refl _ _)).ts rfl
@[simp] theorem State.closeFlight_hg {v0 : State} {v1 : Flight} {v2 : Ending} : (State.closeFlight v0 v1 v2).hg = v0.hg :=
  (kept_State_closeFlight (m := 32768) (by decide) (.refl _ _)).hg rfl
@[simp] theorem State.closeFlight_mono {v0 : State} {v1 : Flight} {v2 : Ending} : (State.closeFlight v0 v1 v2).mono = v0.mono :=
  (kept_State_closeFlight (m := 262144) (by decide) (.refl _ _)).mono rfl
@[simp] theorem State.closeFlight_ft {v0 : State} {v1 : Flight} {v2 : Ending} : (State.closeFlight v0 v1 v2).ft = v0.ft :=
  (kept_State_closeFlight (m := 524288) (by decide) (.refl _ _)).ft rfl
@[simp] theorem State.closeFlight_me {v0 : State} {v1 : Flight} {v2 : Ending} : (State.closeFlight v0 v1 v2).me = v0.me :=
  (kept_State_closeFlight (m := 1048576) (by decide) (.refl _ _)).me rfl
@[simp] theorem State.closeFlight_dce {v0 : State} {v1 : Flight} {v2 : Ending} : (State.closeFlight v0 v1 v2).dce = v0.dce :=
  (kept_State_closeFlight (m := 2097152) (by decide) (.refl _ _)).dce rfl
@[simp] theorem State.closeFlight_fr {v0 : State} {v1 : Flight} {v2 : Ending} : (State.closeFlight v0 v1 v2).fr = v0.fr :=
  (kept_State_closeFlight (m := 4194304) (by decide) (.refl _ _)).fr rfl
@[simp] theorem State.closeFlight_sb {v0 : State} {v1 : Flight} {v2 : Ending} : (State.closeFlight v0 v1 v2).sb = v0.sb :=
  (kept_State_closeFlight (m := 8388608) (by decide) (.refl _ _)).sb rfl
@[simp] theorem State.closeFlight_pln {v0 : State} {v1 : Flight} {v2 : Ending} : (State.closeFlight v0 v1 v2).pln = v0.pln :=
  (kept_State_closeFlight (m := 16777216) (by decide) (.refl _ _)).pln rfl
@[simp] theorem State.closeFlight_lc {v0 : State} {v1 : Flight} {v2 : Ending} : (State.closeFlight v0 v1 v2).lc = v0.lc :=
  (kept_State_closeFlight (m := 33554432) (by decide) (.refl _ _)).lc rfl
@[simp] theorem State.closeFlight_fuse {v0 : State} {v1 : Flight} {v2 : Ending} : (State.closeFlight v0 v1 v2).fuse = v0.fuse :=
  (kept_State_closeFlight (m := 67108864) (by decide) (.refl _ _)).fuse rfl
@[simp] theorem State.closeFlight_urg {v0 : State} {v1 : Flight} {v2 : Ending} : (State.closeFlight v0 v1 v2).urg = v0.urg :=
  (kept_State_closeFlight (m := 268435456) (by decide) (.refl _ _)).urg rfl

@[simp] theorem State.writeReg_pending {v0 : State} {v1 : Nat} {v2 : Word} : (State.writeReg v0 v1 v2).pending = v0.pending :=
  (kept_State_writeReg (m := 1) (by decide) (.refl _ _)).pending rfl
@[simp] theorem State.writeReg_tie {v0 : State} {v1 : Nat} {v2 : Word} : (State.writeReg v0 v1 v2).tie = v0.tie :=
  (kept_State_writeReg (m := 8) (by decide) (.refl _ _)).tie rfl
@[simp] theorem State.writeReg_fuse {v0 : State} {v1 : Nat} {v2 : Word} : (State.writeReg v0 v1 v2).fuse = v0.fuse :=
  (kept_State_writeReg (m := 67108864) (by decide) (.refl _ _)).fuse rfl

@[simp] theorem State.chipReset_pending {v0 : State} : (State.chipReset v0).pending = v0.pending :=
  (kept_State_chipReset (m := 1) (by decide) (.refl _ _)).pending rfl
@[simp] theorem State.chipReset_now {v0 : State} : (State.chipReset v0).now = v0.now :=
  (kept_State_chipReset (m := 4) (by decide) (.refl _ _)).now rfl
@[simp] theorem State.chipReset_tie {v0 : State} : (State.chipReset v0).tie = v0.tie :=
  (kept_State_chipReset (m := 8) (by decide) (.refl _ _)).tie rfl
@[simp] theorem State.chipReset_free {v0 : State} : (State.chipReset v0).free = v0.free :=
  (kept_State_chipReset (m := 16) (by decide) (.refl _ _)).free rfl
@[simp] theorem State.chipReset_hostMem {v0 : State} : (State.chipReset v0).hostMem = v0.hostMem :=
  (kept_State_chipReset (m := 128) (by decide) (.refl _ _)).hostMem rfl
@[simp] theorem State.chipReset_mono {v0 : State} : (State.chipReset v0).mono = v0.mono :=
  (kept_State_chipReset (m := 262144) (by decide) (.refl _ _)).mono rfl
@[simp] theorem State.chipReset_lc {v0 : State} : (State.chipReset v0).lc = v0.lc :=
  (kept_State_chipReset (m := 33554432) (by decide) (.refl _ _)).lc rfl
@[simp] theorem State.chipReset_fuse {v0 : State} : (State.chipReset v0).fuse = v0.fuse :=
  (kept_State_chipReset (m := 67108864) (by decide) (.refl _ _)).fuse rfl

@[simp] theorem State.objSettle_pending {v0 : State} {v1 : Nat} : (State.objSettle v0 v1).pending = v0.pending :=
  (kept_State_objSettle (m := 1) (by decide) (.refl _ _)).pending rfl
@[simp] theorem State.objSettle_out {v0 : State} {v1 : Nat} : (State.objSettle v0 v1).out = v0.out :=
  (kept_State_objSettle (m := 2) (by decide) (.refl _ _)).out rfl
@[simp] theorem State.objSettle_now {v0 : State} {v1 : Nat} : (State.objSettle v0 v1).now = v0.now :=
  (kept_State_objSettle (m := 4) (by decide) (.refl _ _)).now rfl
@[simp] theorem State.objSettle_tie {v0 : State} {v1 : Nat} : (State.objSettle v0 v1).tie = v0.tie :=
  (kept_State_objSettle (m := 8) (by decide) (.refl _ _)).tie rfl
@[simp] theorem State.objSettle_free {v0 : State} {v1 : Nat} : (State.objSettle v0 v1).free = v0.free :=
  (kept_State_objSettle (m := 16) (by decide) (.refl _ _)).free rfl
@[simp] theorem State.objSettle_regs {v0 : State} {v1 : Nat} : (State.objSettle v0 v1).regs = v0.regs :=
  (kept_State_objSettle (m := 32) (by decide) (.refl _ _)).regs rfl
@[simp] theorem State.objSettle_dev {v0 : State} {v1 : Nat} : (State.objSettle v0 v1).dev = v0.dev :=
  (kept_State_objSettle (m := 64) (by decide) (.refl _ _)).dev rfl
@[simp] theorem State.objSettle_hostMem {v0 : State} {v1 : Nat} : (State.objSettle v0 v1).hostMem = v0.hostMem :=
  (kept_State_objSettle (m := 128) (by decide) (.refl _ _)).hostMem rfl
@[simp] theorem State.objSettle_lost {v0 : State} {v1 : Nat} : (State.objSettle v0 v1).lost = v0.lost :=
  (kept_State_objSettle (m := 256) (by decide) (.refl _ _)).lost rfl
@[simp] theorem State.objSettle_cabs {v0 : State} {v1 : Nat} : (State.objSettle v0 v1).cabs = v0.cabs :=
  (kept_State_objSettle (m := 512) (by decide) (.refl _ _)).cabs rfl
@[simp] theorem State.objSettle_lat {v0 : State} {v1 : Nat} : (State.objSettle v0 v1).lat = v0.lat :=
  (kept_State_objSettle (m := 2048) (by decide) (.refl _ _)).lat rfl
@[simp] theorem State.objSettle_tu {v0 : State} {v1 : Nat} : (State.objSettle v0 v1).tu = v0.tu :=
  (kept_State_objSettle (m := 4096) (by decide) (.refl _ _)).tu rfl
@[simp] theorem State.objSettle_ts {v0 : State} {v1 : Nat} : (State.objSettle v0 v1).ts = v0.ts :=
  (kept_State_objSettle (m := 8192) (by decide) (.refl _ _)).ts rfl
@[simp] theorem State.objSettle_mix {v0 : State} {v1 : Nat} : (State.objSettle v0 v1).mix = v0.mix :=
  (kept_State_objSettle (m := 16384) (by decide) (.refl _ _)).mix rfl
@[simp] theorem State.objSettle_hg {v0 : State} {v1 : Nat} : (State.objSettle v0 v1).hg = v0.hg :=
  (kept_State_objSettle (m := 32768) (by decide) (.refl _ _)).hg rfl
@[simp] theorem State.objSettle_rcv {v0 : State} {v1 : Nat} : (State.objSettle v0 v1).rcv = v0.rcv :=
  (kept_State_objSettle (m := 65536) (by decide) (.refl _ _)).rcv rfl
@[simp] theorem State.objSettle_ou {v0 : State} {v1 : Nat} : (State.objSettle v0 v1).ou = v0.ou :=
  (kept_State_objSettle (m := 131072) (by decide) (.refl _ _)).ou rfl
@[simp] theorem State.objSettle_mono {v0 : State} {v1 : Nat} : (State.objSettle v0 v1).mono = v0.mono :=
  (kept_State_objSettle (m := 262144) (by decide) (.refl _ _)).mono rfl
@[simp] theorem State.objSettle_ft {v0 : State} {v1 : Nat} : (State.objSettle v0 v1).ft = v0.ft :=
  (kept_State_objSettle (m := 524288) (by decide) (.refl _ _)).ft rfl
@[simp] theorem State.objSettle_me {v0 : State} {v1 : Nat} : (State.objSettle v0 v1).me = v0.me :=
  (kept_State_objSettle (m := 1048576) (by decide) (.refl _ _)).me rfl
@[simp] theorem State.objSettle_dce {v0 : State} {v1 : Nat} : (State.objSettle v0 v1).dce = v0.dce :=
  (kept_State_objSettle (m := 2097152) (by decide) (.refl _ _)).dce rfl
@[simp] theorem State.objSettle_fr {v0 : State} {v1 : Nat} : (State.objSettle v0 v1).fr = v0.fr :=
  (kept_State_objSettle (m := 4194304) (by decide) (.refl _ _)).fr rfl
@[simp] theorem State.objSettle_sb {v0 : State} {v1 : Nat} : (State.objSettle v0 v1).sb = v0.sb :=
  (kept_State_objSettle (m := 8388608) (by decide) (.refl _ _)).sb rfl
@[simp] theorem State.objSettle_pln {v0 : State} {v1 : Nat} : (State.objSettle v0 v1).pln = v0.pln :=
  (kept_State_objSettle (m := 16777216) (by decide) (.refl _ _)).pln rfl
@[simp] theorem State.objSettle_lc {v0 : State} {v1 : Nat} : (State.objSettle v0 v1).lc = v0.lc :=
  (kept_State_objSettle (m := 33554432) (by decide) (.refl _ _)).lc rfl
@[simp] theorem State.objSettle_fuse {v0 : State} {v1 : Nat} : (State.objSettle v0 v1).fuse = v0.fuse :=
  (kept_State_objSettle (m := 67108864) (by decide) (.refl _ _)).fuse rfl
@[simp] theorem State.objSettle_sg {v0 : State} {v1 : Nat} : (State.objSettle v0 v1).sg = v0.sg :=
  (kept_State_objSettle (m := 134217728) (by decide) (.refl _ _)).sg rfl
@[simp] theorem State.objSettle_urg {v0 : State} {v1 : Nat} : (State.objSettle v0 v1).urg = v0.urg :=
  (kept_State_objSettle (m := 268435456) (by decide) (.refl _ _)).urg rfl

@[simp] theorem State.objRelease_pending {v0 : State} {v1 : Nat} : (State.objRelease v0 v1).pending = v0.pending :=
  (kept_State_objRelease (m := 1) (by decide) (.refl _ _)).pending rfl
@[simp] theorem State.objRelease_out {v0 : State} {v1 : Nat} : (State.objRelease v0 v1).out = v0.out :=
  (kept_State_objRelease (m := 2) (by decide) (.refl _ _)).out rfl
@[simp] theorem State.objRelease_now {v0 : State} {v1 : Nat} : (State.objRelease v0 v1).now = v0.now :=
  (kept_State_objRelease (m := 4) (by decide) (.refl _ _)).now rfl
@[simp] theorem State.objRelease_tie {v0 : State} {v1 : Nat} : (State.objRelease v0 v1).tie = v0.tie :=
  (kept_State_objRelease (m := 8) (by decide) (.refl _ _)).tie rfl
@[simp] theorem State.objRelease_free {v0 : State} {v1 : Nat} : (State.objRelease v0 v1).free = v0.free :=
  (kept_State_objRelease (m := 16) (by decide) (.refl _ _)).free rfl
@[simp] theorem State.objRelease_regs {v0 : State} {v1 : Nat} : (State.objRelease v0 v1).regs = v0.regs :=
  (kept_State_objRelease (m := 32) (by decide) (.refl _ _)).regs rfl
@[simp] theorem State.objRelease_dev {v0 : State} {v1 : Nat} : (State.objRelease v0 v1).dev = v0.dev :=
  (kept_State_objRelease (m := 64) (by decide) (.refl _ _)).dev rfl
@[simp] theorem State.objRelease_hostMem {v0 : State} {v1 : Nat} : (State.objRelease v0 v1).hostMem = v0.hostMem :=
  (kept_State_objRelease (m := 128) (by decide) (.refl _ _)).hostMem rfl
@[simp] theorem State.objRelease_lost {v0 : State} {v1 : Nat} : (State.objRelease v0 v1).lost = v0.lost :=
  (kept_State_objRelease (m := 256) (by decide) (.refl _ _)).lost rfl
@[simp] theorem State.objRelease_cabs {v0 : State} {v1 : Nat} : (State.objRelease v0 v1).cabs = v0.cabs :=
  (kept_State_objRelease (m := 512) (by decide) (.refl _ _)).cabs rfl
@[simp] theorem State.objRelease_lat {v0 : State} {v1 : Nat} : (State.objRelease v0 v1).lat = v0.lat :=
  (kept_State_objRelease (m := 2048) (by decide) (.refl _ _)).lat rfl
@[simp] theorem State.objRelease_tu {v0 : State} {v1 : Nat} : (State.objRelease v0 v1).tu = v0.tu :=
  (kept_State_objRelease (m := 4096) (by decide) (.refl _ _)).tu rfl
@[simp] theorem State.objRelease_ts {v0 : State} {v1 : Nat} : (State.objRelease v0 v1).ts = v0.ts :=
  (kept_State_objRelease (m := 8192) (by decide) (.refl _ _)).ts rfl
@[simp] theorem State.objRelease_mix {v0 : State} {v1 : Nat} : (State.objRelease v0 v1).mix = v0.mix :=
  (kept_State_objRelease (m := 16384) (by decide) (.refl _ _)).mix rfl
@[simp] theorem State.objRelease_hg {v0 : State} {v1 : Nat} : (State.objRelease v0 v1).hg = v0.hg :=
  (kept_State_objRelease (m := 32768) (by decide) (.refl _ _)).hg rfl
@[simp] theorem State.objRelease_rcv {v0 : State} {v1 : Nat} : (State.objRelease v0 v1).rcv = v0.rcv :=
  (kept_State_objRelease (m := 65536) (by decide) (.refl _ _)).rcv rfl
@[simp] theorem State.objRelease_ou {v0 : State} {v1 : Nat} : (State.objRelease v0 v1).ou = v0.ou :=
  (kept_State_objRelease (m := 131072) (by decide) (.refl _ _)).ou rfl
@[simp] theorem State.objRelease_mono {v0 : State} {v1 : Nat} : (State.objRelease v0 v1).mono = v0.mono :=
  (kept_State_objRelease (m := 262144) (by decide) (.refl _ _)).mono rfl
@[simp] theorem State.objRelease_ft {v0 : State} {v1 : Nat} : (State.objRelease v0 v1).ft = v0.ft :=
  (kept_State_objRelease (m := 524288) (by decide) (.refl _ _)).ft rfl
@[simp] theorem State.objRelease_me {v0 : State} {v1 : Nat} : (State.objRelease v0 v1).me = v0.me :=
  (kept_State_objRelease (m := 1048576) (by decide) (.refl _ _)).me rfl
@[simp] theorem State.objRelease_dce {v0 : State} {v1 : Nat} : (State.objRelease v0 v1).dce = v0.dce :=
  (kept_State_objRelease (m := 2097152) (by decide) (.refl _ _)).dce rfl
@[simp] theorem State.objRelease_fr {v0 : State} {v1 : Nat} : (State.objRelease v0 v1).fr = v0.fr :=
  (kept_State_objRelease (m := 4194304) (by decide) (.refl _ _)).fr rfl
@[simp] theorem State.objRelease_sb {v0 : State} {v1 : Nat} : (State.objRelease v0 v1).sb = v0.sb :=
  (kept_State_objRelease (m := 8388608) (by decide) (.refl _ _)).sb rfl
@[simp] theorem State.objRelease_pln {v0 : State} {v1 : Nat} : (State.objRelease v0 v1).pln = v0.pln :=
  (kept_State_objRelease (m := 16777216) (by decide) (.refl _ _)).pln rfl
@[simp] theorem State.objRelease_lc {v0 : State} {v1 : Nat} : (State.objRelease v0 v1).lc = v0.lc :=
  (kept_State_objRelease (m := 33554432) (by decide) (.refl _ _)).lc rfl
@[simp] theorem State.objRelease_fuse {v0 : State} {v1 : Nat} : (State.objRelease v0 v1).fuse = v0.fuse :=
  (kept_State_objRelease (m := 67108864) (by decide) (.refl _ _)).fuse rfl
@[simp] theorem State.objRelease_sg {v0 : State} {v1 : Nat} : (State.objRelease v0 v1).sg = v0.sg :=
  (kept_State_objRelease (m := 134217728) (by decide) (.refl _ _)).sg rfl
@[simp] theorem State.objRelease_urg {v0 : State} {v1 : Nat} : (State.objRelease v0 v1).urg = v0.urg :=
  (kept_State_objRelease (m := 268435456) (by decide) (.refl _ _)).urg rfl

end Sys2Proof.Machine
end

