-- ==== Sys2Proof/Tests/Slice0.lean ====
section
/-! SUPPORT. Small checks of the model: the operand lists no port carries, worked examples of the spec (each with its rule), and
for each statement a witness: a concrete state and operands that meet its hypotheses, clause by clause. -/
set_option maxRecDepth 20000
set_option Elab.async false
namespace Sys2Proof.Tests
open Sys2Proof Sys2Proof.Machine

/-! ### States to test in -/

/-- The block in RUN, with 64 MiB of working memory from 0 on. -/
def up : State := ({ pln := { phase := .run, ready := 15 } } : State).setReg rWorkSize 32

/-- Tiles 128 to 135; 1 GiB of shelf from 1 GiB on, an eighth of it reserve; function 2; every quota 4. -/
def conf : CabConf :=
  { func := 2, cfg := 8, bw := pack [(0, 64), (16, 64)], quotaA := pack [(0, 4), (16, 4), (32, 4), (48, 4)], quotaB := 4,
    tiles := [0, 0, 255, 0], shelf := [pack [(0, 512), (23, 512)]] }

/-- Cabinet 2 is LIVE, and its context 5. -/
def base : State :=
  let s := up.setCab 2 { st := .live, conf := conf, gen := 1, memFloor := 64, fabFloor := 64 }
  let s := s.setCtx 2 5 { st := .live, alloc := 1, root := 0x40000000 }
  [128, 129, 130].foldl (fun s t => s.setTile t { cab := some 2 }) s

/-- The context's page at 0x10000 is cached, in device memory and writable. -/
def mapped : State :=
  { base with tu := { base.tu with look := [{ cab := 2, ctx := 5, va := 0x10000, size := 65536, pa := 0x40010000, w := true, rm := false,
                                              host := false }] } }

/-- Object 0 of the context: a fence at 0x10000. -/
def fenced : State :=
  { mapped with drw := { mapped.drw with objs := [(0, { used := true, cab := 2, ctx := 5, base := 0x10000, len := 16, fence := true })],
                                         fresh := 1 } }

def handle0 : Nat := mkHandle 1 0

/-- A request of this asker for this address has failed with XLATE, and the asker has not looked since. -/
def refusing (a : Asker) (va : Nat) (s : State) (write : Bool := false) : State := s.addReq (a.req s va write (.failed stXlate uTu))

/-- Drawer 1 is LIVE with ring and record area in the page, and holds a descriptor with sequence number 9. -/
def flying (op : Nat) (stage : Stage) (body : List Byte) (count : Nat := 0) : State :=
  let f : Flight := { cab := 2, drawer := 1, ctx := 5, seq := 9, slot := 9, slots := 1, gen := 2, op := op, flags := 0, fence := 0,
                      fenceVal := 0, fenceOk := false, count := count, body := body, exts := [], refs := [], stage := stage, issuedAt := 0 }
  let s := fenced.setDrawer 2 1 { st := .live, ringBase := 0x11000, cqBase := 0x12000, cfg := pack [(0, 4), (8, 4), (16, 2)] |>.toNat,
                                  ctx := 5, tail := 10, head := 10, nextSeq := 10 }
  { s with drw := { s.drw with flights := [f] } }

/-- Thirty-two body bytes that begin with the given ones. -/
def bodyOf (bs : List Byte) : List Byte := bs ++ List.replicate (32 - bs.length) 0

/-! ### Operand lists that no port carries -/

theorem test_read_of_more_than_a_line_is_ill_formed : Instr.wf (.tileReadRequest 0 0 129 0 none) = false := by decide
theorem test_read_of_a_line_is_well_formed : Instr.wf (.tileReadRequest 0 (2 ^ 57 - 128) 128 0 none) = true := by decide
theorem test_read_beyond_57_bits_is_ill_formed : Instr.wf (.tileReadRequest 0 (2 ^ 57) 1 0 none) = false := by decide
theorem test_read_of_nothing_is_ill_formed : Instr.wf (.tileReadRequest 0 64 0 0 none) = false := by decide
theorem test_write_with_a_short_mask_is_ill_formed :
    Instr.wf (.tileWriteRequest 0 0 [true] (List.replicate 128 0) 0 none) = false := by decide
set_option maxRecDepth 4000 in
theorem test_write_with_short_data_is_ill_formed :
    Instr.wf (.tileWriteRequest 0 0 (List.replicate 128 true) [0] 0 none) = false := by decide
theorem test_gate_request_past_its_line_is_ill_formed :
    Instr.wf (.stackGateRequest 0 .platform 0xC00 none 120 9 none) = false := by decide
theorem test_gate_write_with_short_data_is_ill_formed :
    Instr.wf (.stackGateRequest 0 .platform 0xC00 none 0 8 (some [0])) = false := by decide
theorem test_ill_formed_read_faults :
    exec (.tileReadRequest 0 0 129 0 none) up = .fault (.illFormed "TILE_READ_REQUEST") := by rfl

/-! ### Witnesses for the statements -/

theorem witness_StepRunsTheFrontCommand : State.reset.pending = [] ∧
    ({ State.reset with pending := [.hgWake] } : State).pending = .hgWake :: [] ∧ ({ up with pln := { up.pln with power := 4 } } : State).pln.power = 4 := by decide

theorem witness_MemoryStaysCanonical : Memory.wf (up.devPut 128 [7]).dev = true ∧ Memory.wf up.hostMem = true ∧
    ∃ t, step (up.devPut 128 [7]) = .next t := ⟨by decide, by decide, _, rfl⟩

theorem witness_BurnedLifeCycleBitsStayBurned : (1 : Nat) < 1024 ∧
    ({ up with fuse := { up.fuse with lc := 3 } } : State).fuse.lc &&& 1 = 1 ∧
    ∃ t, step { up with fuse := { up.fuse with lc := 3 } } = .next t := ⟨by decide, by decide, _, rfl⟩

theorem witness_CommandsChangeOnlyTheirPieces : (∃ t, exec .hgWake up = .next t) ∧ Piece.ts ∉ mayChange .hgWake ∧
    Piece.dev ∉ mayChange .porRise ∧ Piece.fuse ∉ mayChange .hgWake := ⟨⟨_, rfl⟩, by decide, by decide, by decide⟩

theorem witness_EveryWellFormedCommandCompletes : Instr.wf (.tileReadRequest 0 127 1 0 none) = true ∧ tileReadWf 0 129 = false ∧
    tileWriteWf 0 [] [] = false ∧ gateReqWf .platform 0 129 none = false ∧
    gateReqWf (.cab 256) 0 8 none = false ∧ up.tapUp = true ∧ up.dbgLevel = some 3 ∧
    (State.reset.tapUp && State.reset.dbgLevel == some 3) = false := by decide

theorem witness_OnlyTheReachingFunctionCommands : (1 : Func) ≠ 0 ∧ State.reset.hostUp = false ∧ up.mayOperate 0 2 = false ∧
    base.mayOperate 3 2 = false := by decide

theorem witness_CounterReadsReturnAndClear : up.hostUp = true ∧ State.reset.hostUp = false ∧ base.mayOperate 2 2 = true ∧
    base.mayOperate 0 2 = true ∧ up.mayOperate 0 2 = false ∧ (base.wakeBlock 1).regHeld rLatGstat = false ∧
    (base.wakeCab 2 1).regHeld (rLatStat 2) = false ∧ ((base.setUnitSt uLatch { phase := .hold }).wakeBlock 1).regHeld rLatGstat = true ∧
    ((base.setUnitSt uLatch { phase := .hold }).wakeCab 2 1).regHeld (rLatStat 2) = true := by decide

theorem witness_NopsAndCommandsWhileBusy : base.mayOperate 2 2 = true ∧ base.hostUp = true ∧
    (∀ o ∈ [rWin 2, 0x8D0020, 0xA00300], (base.wakeBlock 1).regHeld o = false) ∧
    ∀ r ∈ [(0x400, rCtxResult 2), (0x4C0, rMobjResult 2), (0x440, rDrwResult 2), (0x800, rLatResult 2), (0x500, rQry 2 0)],
      let s := base.setRfld r.2 63 63 0
      (base.wakeCab 2 1).regHeld (rWin 2 + r.1) = false ∧ (s.wakeCab 2 1).rfld r.2 63 63 = 0 ∧ s.mayOperate 2 2 = true ∧
      (s.wakeCab 2 1).regHeld (rWin 2 + r.1) = false := by decide

/-- Cabinet 7 in BUILD, with the partition registers of `conf` moved to tiles 136 to 143, the next GiB and function 3. -/
def building : State :=
  let s := base.setCab 7 { st := .build }
  let s := s.setReg (rCabFunc 7) 3
  let s := s.setReg (rCabBw 7) conf.bw
  let s := s.setReg (rQuotaA 7) conf.quotaA
  let s := s.setReg (rQuotaB 7) conf.quotaB
  let s := s.setReg (rCabTile 7 2) 0xFF00
  let s := s.setReg (rCabCfg 7) conf.cfg
  s.setReg (rShelf 7 0) (pack [(0, 1024), (23, 512)])

/-- Cabinet 2's partition registers hold what is in force. -/
def applying : State :=
  let s := base.setReg (rCabFunc 2) conf.func
  let s := s.setReg (rCabBw 2) conf.bw
  let s := s.setReg (rQuotaA 2) conf.quotaA
  let s := s.setReg (rQuotaB 2) conf.quotaB
  let s := s.setReg (rCabTile 2 2) 0xFF
  let s := s.setReg (rCabCfg 2) conf.cfg
  s.setReg (rShelf 2 0) (pack [(0, 512), (23, 512)])

theorem witness_CabinetCommandsAndTheirChecks :
    (building.wakeBlock 1).regHeld (rWin 7) = false ∧ ((up.setCab 2 { work := .destroying }).cab 2).work ≠ .none ∧ ((up.wakeBlock 1).cab 2).work = .none ∧
    ((up.wakeBlock 1).cab 2).st = .free ∧ ((building.wakeBlock 1).cab 7).st = .build ∧ ((building.wakeBlock 1).cab 7).work = .none ∧
    ((base.setCab 7 { st := .build }).cabChecks 7 ((base.setCab 7 { st := .build }).request 7)).1 ≠ .none := by decide
theorem witness_ActivateChecks : ((building.wakeBlock 1).cabChecks 7 ((building.wakeBlock 1).request 7)).1 = .none := by decide
theorem witness_ApplyChecks :
    let u := applying.wakeBlock 1
    let q := u.request 2
    (u.cab 2).st = .live ∧ q.fn = (u.cab 2).conf.fn ∧ q.integ = (u.cab 2).conf.integ ∧ (u.cabChecks 2 q).1 = .none ∧
    (∀ k ∈ (u.cab 2).conf.tileList, k ∈ q.tileList) ∧
    q.reservePieces = ({ q with shelf := (u.cab 2).conf.shelf, cfg := (u.cab 2).conf.cfg } : CabConf).reservePieces ∧
    mapGet none 2 (u.cabChecks 2 q).2.mix.rekey = none ∧ (u.cabChecks 2 q).2.mix.reinit = none := by decide
theorem witness_ApplyRefused :
    let u := (applying.setReg (rCabBw 2) (pack [(0, 1025)])).wakeBlock 1
    (u.cab 2).st = .live ∧ (u.request 2).fn = (u.cab 2).conf.fn ∧ (u.request 2).integ = (u.cab 2).conf.integ ∧
    (u.cabChecks 2 (u.request 2)).1 ≠ .none := by decide

theorem witness_CabinetCommandsEndAndWindowsClose :
    let s := up.setCab 7 { st := .build, work := .activating, conf := conf }
    let a := base.setCab 2 { base.cab 2 with work := .applying }
    let d := up.setCab 2 { st := .clear, work := .destroying, gen := 3 }
    s.frozen = false ∧ s.resetting uPlinth = false ∧ (s.cab 7).work = .activating ∧ (s.cab 7).keyWait = false ∧ (s.cab 7).floorsAt ≤ s.now ∧
    (up.cab 7).work ≠ .activating ∧ (a.cab 2).work = .applying ∧ (a.cab 2).next = none ∧ (a.cab 2).oldReserve = [] ∧
    (a.cab 2).removing = [] ∧ (a.cab 2).floorsAt ≤ a.now ∧
    (d.cab 2).work = .destroying ∧ (d.cab 2).removing = [] ∧ d.useContexts 2 = 0 ∧ d.mix.reinit = none ∧
    (({ base with now := 1000000 } : State).cab 2).winAt < 1000000 / 1000000 * 1000000 := by decide

/-- The state a command of cabinet 2's window acts on. -/
def took (s : State) (r : Nat) : State := ((s.wakeCab 2 1).accept r).getD s

/-- The state a chip-wide command acts on. -/
def tookChip (s : State) (r : Nat) : State := ((s.wakeBlock 1).accept r).getD s

theorem witness_takes :
    ∀ r ∈ [(0x400, rCtxResult 2), (0x4C0, rMobjResult 2), (0x440, rDrwResult 2), (0x800, rLatResult 2), (0x500, rQry 2 0)],
    fenced.mayOperate 2 2 = true ∧ (fenced.wakeCab 2 1).regHeld (rWin 2 + r.1) = false ∧
    (fenced.wakeCab 2 1).accept r.2 = some (took fenced r.2) := by decide +kernel
theorem witness_takesChip :
    ∀ r ∈ [(0x1000, rRstResult), (0x8D0020, rRiResult), (0xF00008, rLcResult), (0xA00300, rStopResult), (0x10040, rPwrResult)],
    base.hostUp = true ∧ (base.wakeBlock 1).regHeld r.1 = false ∧ (base.wakeBlock 1).accept r.2 = some (tookChip base r.2) := by decide +kernel

/-- The quotas of `base` are used up. -/
def full (s : State) : State :=
  s.setCab 2 { s.cab 2 with conf := { conf with quotaA := pack [(0, 0), (16, 0), (32, 1), (48, 0)], quotaB := 0 } }

theorem witness_ContextsAreAllocatedAndTornDown :
    let u := took (base.setReg (rCtxArg0 2) (pack [(12, 0x40000)])) (rCtxResult 2)
    let d := base.setCtx 2 5 { st := .dying, byCmd := true }
    quotaContexts ((full base).cab 2).conf ≤ (full base).useContexts 2 ∧
    base.useContexts 2 < quotaContexts (base.cab 2).conf ∧ (took base (rCtxResult 2)).inShelfFree 2 0 4096 = false ∧
    u.inShelfFree 2 (u.rfld (rCtxArg0 2) 43 12 * 4096) 4096 = true ∧ u.useContexts 2 < 16384 ∧
    (base.ctx 2 6).st = .free ∧ (base.ctx 2 5).st = .live ∧ (d.ctx 2 5).st = .dying ∧ d.contextGone 2 5 = true ∧
    (attachAll 2 5 (fenceWord stAbandoned uDrawer (2 ^ 48 - 1)) (d.fencesOf 2 5) d).1 = true := by decide +kernel

/-- The arguments of a CREATE for context 5. -/
def creating (at' len kind : Nat) : State :=
  took (((base.setReg (rMobjArg 2 0) (pack [(0, at')])).setReg (rMobjArg 2 1) (pack [(0, len)])).setReg (rMobjArg 2 2)
    (pack [(16, kind), (0, 5)])) (rMobjResult 2)
theorem witness_ObjectsOverRegisters :
    (creating 0 0 0).rfld (rMobjArg 2 1) 56 0 = 0 ∧
    2 ^ 57 < (creating (2 ^ 57 - 16) 17 0).rfld (rMobjArg 2 0) 56 0 + (creating (2 ^ 57 - 16) 17 0).rfld (rMobjArg 2 1) 56 0 ∧
    ¬ (2 ^ 57 < (creating (2 ^ 57 - 16) 16 1).rfld (rMobjArg 2 0) 56 0 + (creating (2 ^ 57 - 16) 16 1).rfld (rMobjArg 2 1) 56 0) ∧
    (creating 0 15 1).rfld (rMobjArg 2 2) 16 16 = 1 ∧ (creating 0 15 1).rfld (rMobjArg 2 1) 56 0 < 16 ∧
    ((creating 0 16 1).ctx 2 ((creating 0 16 1).rfld (rMobjArg 2 2) 13 0)).st = .live ∧
    ¬ (quotaObjs ((creating 0 16 1).cab 2).conf ≤ (creating 0 16 1).useObjs 2) ∧
    quotaObjs ((full base).cab 2).conf ≤ (full base).useObjs 2 ∧
    fenced.named 2 handle0 = true ∧ (fenced.obj 0).withdrawn = false ∧ base.named 2 handle0 = false ∧
    (base.ctx 2 5).st = .live ∧ (base.ctx 2 6).st ≠ .live := by decide +kernel

/-- The arguments of a drawer CREATE for context 5: rings of 16 slots. -/
def drawing (mode : Nat) : State :=
  took (base.setReg (rDrwArg 2 2) (pack [(32, 5), (16, mode), (8, 4), (0, 4)])) (rDrwResult 2)
theorem witness_DrawersOverRegisters :
    let u := drawing 2
    let a := u.reg (rDrwArg 2 2)
    quotaDrawers ((full base).cab 2).conf ≤ (full base).useDrawers 2 ∧ ¬ (quotaDrawers (u.cab 2).conf ≤ u.useDrawers 2) ∧
    (u.ctx 2 (fld a 45 32)).st = .live ∧ u.useDrawers 2 < 8192 ∧
    ((4 ≤ fld a 4 0 ∧ fld a 4 0 ≤ 20) ∧ (4 ≤ fld a 12 8 ∧ fld a 12 8 ≤ 20) ∧ fld a 17 16 ≠ 0 ∧ fld a 19 18 ≠ 3 ∧
      ¬ (fld a 19 18 = 1 ∧ fld a 17 16 = 1) ∧ ¬ (fld a 20 20 = 1 ∧ (u.ctx 2 (fld a 45 32)).pasidEn = false) ∧
      u.rfld (rDrwArg 2 0) 56 0 % 64 = 0 ∧ u.rfld (rDrwArg 2 1) 56 0 % 64 = 0) ∧
    fld ((drawing 0).reg (rDrwArg 2 2)) 17 16 = 0 ∧
    ((took base (rDrwResult 2)).drawer 2 1).st = .free ∧ ((flying 0 .validated []).drawer 2 1).st = .live ∧
    (flying 0 .validated []).inflight 2 1 ≠ 0 ∧ (base.setDrawer 2 1 { st := .live }).inflight 2 1 = 0 ∧
    ((base.setDrawer 2 1 { st := .stopped }).drawer 2 1).st = .stopped ∧ ((base.setDrawer 2 1 { st := .error }).drawer 2 1).st = .error ∧
    ((base.setDrawer 2 1 { st := .dying }).drawer 2 1).st = .dying := by decide +kernel

/-- The arguments of an ARM of object 0 for context 5. -/
def arming (s : State) (a2 a3 : Word) : State :=
  took (((s.setReg (rLatArg 2 0) (pack [(32, 5), (0, handle0)])).setReg (rLatArg 2 2) a2).setReg (rLatArg 2 3) a3) (rLatResult 2)

/-- Latch 3 watches object 0. -/
def watching (st : LatchState) : State :=
  { fenced with lat := { fenced.lat with latches := [(3, { st := st, cab := 2, fence := handle0, obj := 0, ctx := 5, threshold := 7, dirty := true })] } }

theorem witness_LatchesArmRearmAndDisarm :
    let u := arming fenced 0 0
    (u.ctx 2 (u.rfld (rLatArg 2 0) 45 32)).st = .live ∧ u.owns 2 5 (u.rfld (rLatArg 2 0) 31 0) = true ∧ (u.obj 0).fence = true ∧
    u.latchOf 2 (u.obj 0).orig = none ∧ ¬ (quotaLatches (u.cab 2).conf ≤ u.useLatches 2) ∧
    quotaLatches ((arming (full fenced) 0 0).cab 2).conf ≤ (arming (full fenced) 0 0).useLatches 2 ∧
    (took base (rLatResult 2)).owns 2 5 0 = false ∧ ((took base (rLatResult 2)).ctx 2 0).st ≠ .live ∧
    (arming (watching .watch) 0 0).latchOf 2 0 = some 3 ∧ ((arming (watching .watch) 0 0).latch 3).st = .watch ∧
    ((arming (watching .armed) 0 0).latch 3).st ≠ .watch ∧
    (arming fenced 4 1).rfld (rLatArg 2 3) 0 0 = 1 ∧ (arming fenced 4 1).rfld (rLatArg 2 2) 56 0 % 8 ≠ 0 ∧
    ((watching .armed).latch 3).cab = 2 ∧ (watching .armed).waiters 3 = [] ∧ ((watching .spent).latch 3).st = .spent ∧
    (watching .armed).lat.waits = [] ∧ ((watching .armed).latch 4).st = .free := by decide +kernel
theorem witness_ArmOfAPlainObject :
    let s : State := { fenced with drw := { fenced.drw with objs := [(0, { used := true, cab := 2, ctx := 5, len := 16 })] } }
    ((arming s 0 0).ctx 2 5).st = .live ∧ (arming s 0 0).owns 2 5 handle0 = true ∧ ((arming s 0 0).obj 0).fence = false := by decide +kernel

theorem witness_LatchesEvaluatePollAndSignal :
    let s := watching .armed
    let a := latAsker 2 5
    let polled (at' due : Nat) : State :=
      { s with mono := 5, lat := { s.lat with latches := [(3, { s.latch 3 with host := true, nextPoll := at', pollDue := due })] } }
    let lost : State := { s with tu := { s.tu with look := [] } }
    let f := flying 0x30 .issued (bodyOf [0, 0, 0, 0, 0, 0, 0x10, 0, 7, 0, 0, 0, 0, 0, 0, 0])
    s.frozen = false ∧ s.resetting uLatch = false ∧ (s.latch 3).dirty = true ∧ (s.latch 4).dirty = false ∧ (s.latch 3).st = .armed ∧
    (s.xlate a (s.obj 0).base false).1 = .ok false 0x40010000 false ∧
    ((s.xlate a (s.obj 0).base false).2.readAt a false 0x40010000 16).1 = .ok (List.replicate 16 0) ∧
    ((s.xlate a (s.obj 0).base false).2.readAt a false 0x40010000 16).2.waiters 3 = [] ∧ (s.latch 3).mirrorEn = false ∧
    (polled 6 6).mono < ((polled 6 6).latch 3).nextPoll ∧ ((polled 5 5).latch 3).nextPoll ≤ (polled 5 5).mono ∧
    ((polled 5 5).latch 3).nextPoll ≤ ((polled 5 5).latch 3).pollDue ∧ ((polled 5 4).latch 3).pollDue < ((polled 5 4).latch 3).nextPoll ∧
    8 * base.pollDemand ≤ 2 ^ 32 * base.cycles ∧ (s.readFence 2 5 0).1 = .ok 0 0 false 0x40010000 ∧
    (lost.readFence 2 5 0).1 = .wait ∧ ((refusing (latAsker 2 5) 0x10000 lost).readFence 2 5 0).1 = .bad stXlate uTu none ∧
    ((polled 5 5).latch 3).host = true ∧
    mapGet 0 2 s.lat.starveAt ≤ s.mono ∧ (∀ w ∈ s.lat.waits, w.cab = 2 → w.latch ≠ none) ∧
    (f.issuedOp 2 1 9 0x30).isSome = true ∧ (f.issuedOp 2 1 9 0x30).map (fun f => leAt f.body 0 1) = some 0 ∧
    (f.signalFence (latAsker 2 5) 0x10000 7).1 = .ok () ∧ ((full base).signalFence (latAsker 2 9) 0x10000 7).1 ≠ .ok () := by decide +kernel

theorem witness_WaitsAttachAndEnd :
    let f := flying 0x31 .issued (bodyOf [0, 0, 0x10, 0, 0, 0, 0, 0, 7])
    let g := { f with lat := (watching .armed).lat }
    let w (k : Option Nat) (d : Option Nat) : State :=
      { fenced with mono := 5, lat := { fenced.lat with waits := [{ cab := 2, drawer := 1, seq := 9, obj := 0, fence := handle0, value := 7, latch := k, deadline := d }] } }
    let timed : State := flying 0x31 .issued (bodyOf [0, 0, 0x10, 0, 1, 0, 0, 0, 7])
    (f.issuedOp 2 1 9 0x31).isSome = true ∧ (f.readFence 2 5 0).1 = .ok 0 0 false 0x40010000 ∧
    timed.lat.waits = [] ∧ (timed.issuedOp 2 1 9 0x31).map (fun f => leAt f.body 4 4) = some 1 ∧ timed.mono < 0 + 1 * 1000 ∧
    0 + 1 * 1000 ≤ ({ timed with mono := 1000 } : State).mono ∧ fenceVerdict 0 0 7 = none ∧ fenceVerdict 0 0 0 = some { status := stDone } ∧
    (g.readFence 2 5 0).2.latchOf 2 0 = some 3 ∧ (f.readFence 2 5 0).2.latchOf 2 0 = none ∧
    quotaLatches (((full f).readFence 2 5 0).2.cab 2).conf ≤ ((full f).readFence 2 5 0).2.useLatches 2 ∧
    (2 ^ 63 - 2 < 2 ^ 63 - 1 ∧ 2 ^ 63 - 1 < 2 ^ 64) ∧ 1 ≤ (2 ^ 60) / 2 ^ 60 ∧ 11 * 2 ^ 60 / 2 ^ 60 ≤ 11 ∧ 11 < 12 * 2 ^ 60 / 2 ^ 60 ∧
    ((w none (some 5)).lat.waits.find? (fun w => w.cab == 2 && w.drawer == 1 && w.seq == 9)).map (·.deadline) = some (some 5) ∧
    ((w (some 3) (some 6)).lat.waits.find? (fun w => w.cab == 2 && w.drawer == 1 && w.seq == 9)).map (·.latch) = some (some 3) ∧
    ((w none none).lat.waits.find? (fun w => w.cab == 2 && w.drawer == 1 && w.seq == 9)).map (·.deadline) = some none := by decide +kernel

theorem witness_DoorbellsMoveOrAreCounted :
    let s := flying 0 .validated []
    let d := s.drawer 2 1
    s.hostUp = true ∧ s.resetting uHost = false ∧ s.boundCab 2 = some 2 ∧ s.boundCab 3 = none ∧ (8 : Nat) < 65536 ∧ (8 : Nat) % 8 = 0 ∧ (7 : Nat) % 8 ≠ 0 ∧ (s.cab 2).st = .live ∧
    s.funcOf 2 = 2 ∧ ¬ (s.funcOf 2 = 0) ∧ ¬ (d.st = .free ∨ d.st = .dying) ∧ (s.drawer 2 2).st = .free ∧ d.cfg.testBit 20 = false ∧
    ({ d with cfg := 2 ^ 20 } : Drawer).cfg.testBit 20 = true ∧
    sub32 26 d.tail ≤ 2 ^ d.ringLog2 - sub32 d.tail d.head ∧ ¬ (sub32 27 d.tail ≤ 2 ^ d.ringLog2 - sub32 d.tail d.head) ∧
    sub32 9 d.cqHead ≤ sub32 (s.doneLow 2 1 % 2 ^ 32) d.cqHead ∧ ¬ (sub32 10 d.cqHead ≤ sub32 (s.doneLow 2 1 % 2 ^ 32) d.cqHead) ∧
    (65536 : Nat) ≤ 65536 := by decide +kernel

theorem witness_DescriptorsAreFetchedIssuedAndRecorded :
    let s := fenced.setDrawer 2 1 { st := .live, ringBase := 0x11000, cqBase := 0x12000, cfg := (pack [(0, 4), (8, 4), (16, 2)]).toNat, ctx := 5, tail := 1 }
    let d := s.drawer 2 1
    let bad := refusing (drwAsker 2 1 6 false) 0x30000 (s.setDrawer 2 1 { d with ringBase := 0x30000, ctx := 6 })
    let e := flying 0x01 (.ended { status := stDone }) []
    let q (k : Byte) := flying 0x40 .issued (bodyOf [0, 0, 0x10, 0, 0, 0, 0, 0, k])
    let u := s.passTurn 2 1
    let two := { (s.setDrawer 2 2 d) with drw := { (s.setDrawer 2 2 d).drw with turn := [(groupKey 2 d, 2)] } }
    s.mayFetch 2 1 = true ∧ base.mayFetch 2 1 = false ∧ s.turnWaits 2 1 = false ∧ two.turnWaits 2 1 = true ∧
    (readSlots 2 1 d 1 0 u).1 = .ok [List.replicate 64 0] ∧
    1 + extOf d.gen (List.replicate 64 0) = 1 ∧ 1 ≤ sub32 d.tail d.head ∧ (readSlots 2 1 d 0 1 (readSlots 2 1 d 1 0 u).2).1 = .ok [] ∧
    bad.turnWaits 2 1 = false ∧ (match (readSlots 2 1 (bad.drawer 2 1) 1 0 (bad.passTurn 2 1)).1 with | .bad _ _ => true | _ => false) = true ∧
    (flying 1 .validated []).mayFetch 2 1 = false ∧ bad.mayFetch 2 1 = true ∧
    (s.flight 2 1 9).isNone = true ∧ ((flying 1 .validated []).flight 2 1 9).map (·.stage) = some .validated ∧
    ((flying 1 .validated []).drawer 2 1).st ≠ .dying ∧ ((flying 1 .validated []).flight 2 1 9).map (fun f => (flying 1 .validated []).earlierFlights f) = some [] ∧
    (e.flight 2 1 9).map (·.stage) = some (.ended { status := stDone }) ∧ (e.flight 2 1 9).map (fun f => (f.recorded, f.fenced)) = some (false, false) ∧
    (e.flight 2 1 9).map (fun f => (writeRecord f { status := stDone } e).1) = some (.ok ()) ∧
    ((q 0).issuedOp 2 1 9 0x40).map (fun f => leAt f.body 8 1) = some 0 ∧ ((q 1).issuedOp 2 1 9 0x40).map (fun f => leAt f.body 8 1) = some 1 ∧
    ((q 0).vaWrite { src := .drw false, unit := uDrawer, cab := 2, ctx := 5, tag := drwKey 2 1 + 1 } 0x10000
      (((q 0).queryContext 2 5).flatMap (toLe 8))).1 = .ok () := by decide +kernel

/-- Command 4 of the cabinet: the descriptor of `flying`, one tile. -/
def command (ph : CmdPhase) : Cmd :=
  { cab := 2, n := 4, ctx := 5, alloc := 1, desc := some (1, 9), op := 1, direct := false, prio := 0, tilesN := 1, key := 0, code := 0, aux := 0,
    ntokens := 0, outs := [], phase := ph, readyAt := 0, waitFrom := 0, tiles := [128], done := [] }

/-- The cabinet's one command, on tile 128 unless it waits. -/
def running (c : Cmd) : State :=
  let s := flying 0x01 .running []
  let s := s.setTile 128 { cab := some 2, busy := c.phase != .waiting, cmd := if c.phase == .waiting then none else some 4 }
  { s with ts := { s.ts with cmds := [c] } }

/-- A KERNEL of TILES 1. -/
def kernel (tiles : Byte) : State := flying 0x01 .issued (bodyOf [0, 0, 0x10, 0, tiles, 0, 0, 0])

theorem witness_TileCommandsReachTilesInOrder :
    let s := kernel 1
    let w := running (command .waiting)
    s.frozen = false ∧ s.resetting uTs = false ∧ (s.issuedOp 2 1 9 0x01).isSome = true ∧
    ((flying 0x02 .issued (bodyOf [0, 0, 0x10, 0, 1])).issuedOp 2 1 9 0x02).isSome = true ∧
    (s.issuedOp 2 1 9 0x01).map (fun f => decide ((s.cab 2).conf.tileList.length < (tileCommand s f).tilesN)) = some false ∧
    ((kernel 9).issuedOp 2 1 9 0x01).map (fun f => decide (((kernel 9).cab 2).conf.tileList.length < (tileCommand (kernel 9) f).tilesN)) = some true ∧
    (s.issuedOp 2 1 9 0x01).map (fun f => s.shadowFits 2 (tileCommand s f).outs) = some true ∧ (s.ctx 2 5).resid ≠ .lost ∧
    s.readyOrder 2 = [] ∧ ((w.renewWaits 2).endHopeless 2).readyOrder 2 = [command .waiting] ∧
    ((w.renewWaits 2).endHopeless 2).placeable (command .waiting) = true ∧
    w.mono < (command .waiting).waitFrom + w.rfld (rTsCfg 2) 47 32 * 1000 ∧
    (command .waiting).waitFrom + ({ w with mono := 20000 } : State).rfld (rTsCfg 2) 47 32 * 1000 ≤ 20000 := by decide +kernel

theorem witness_PlacementOrderAndCost : (running (command .waiting)).readyOrder 2 = command .waiting :: [] ∧
    (command .waiting).tilesN ≤ ((running (command .waiting)).eligible (command .waiting)).length := by decide +kernel

/-- R191's example: context 5 of a cabinet with tiles 129, 131, 133 and 134 free, a KERNEL of TILES 2 and KEY 0x0041. -/
def placing : State :=
  let s := running { command .waiting with tilesN := 2, key := 0x41 }
  let s := [128, 130].foldl (fun s t => s.setTile t {}) s
  let s := s.setTile 129 { cab := some 2, last := some (5, 1), keys := [0x41] }
  let s := s.setTile 131 { cab := some 2, last := some (7, 2), keys := [0x41] }
  let s := s.setTile 133 { cab := some 2, last := some (5, 1) }
  s.setTile 134 { cab := some 2 }
theorem test_placement_costs_of_R191 :
    [129, 131, 133, 134].map (placing.placeCost { command .waiting with tilesN := 2, key := 0x41 }) = [0, 13000, 10000, 10000] := by
  decide +kernel
theorem test_placement_of_R191 : placing.cheapest { command .waiting with tilesN := 2, key := 0x41 } = [129, 133] := by decide +kernel

/-- Tile 128 is told to kill its command, which has these tiles left to answer. -/
def killed (left : List Nat) : State :=
  (running (command (.killing left))).setTile 128 { cab := some 2, busy := true, killing := true, cmd := some 4 }
theorem witness_KillsReplayAndReportsEndRuns :
    let s := running (command .running)
    let k := killed [128]
    k.frozen = false ∧ k.tie.tiles.testBit 128 = true ∧ (s.tile 128).killing = false ∧ (k.tile 128).killing = true ∧
    (k.tile 128).cmd = some 4 ∧ (k.tile 128).cab = some 2 ∧ k.cmd 2 4 = some (command (.killing [128])) ∧
    [128].filter (fun y => y != 128) = [] ∧ [128, 129].filter (fun y => y != 128) ≠ [] ∧ (killed [128, 129]).cmd 2 4 = some (command (.killing [128, 129])) ∧
    (command (.killing [128])).gone = false ∧ (command (.killing [128])).fail = none ∧ ¬ ((k.tile 128).killAt + 2000 ≤ k.mono) ∧
    (({ k with mono := 2000 } : State).tile 128).killAt + 2000 ≤ 2000 ∧
    s.runOn 128 = some (command .running) ∧ s.runOn 129 = none ∧ (129 : Nat) ∈ ({ command .running with done := [129] } : Cmd).done ∧
    (∀ y ∈ (command .running).tiles, y ∈ 128 :: (command .running).done) ∧ (∃ y ∈ ({ command .running with tiles := [128, 129] } : Cmd).tiles, y ∉ [128]) ∧
    (command .running).said = none ∧ (command .running).deny = none ∧ (command .running).direct = false ∧
    ((s.setTile 129 { cab := some 2, clearing := true }).tile 129).clearing = true ∧ (s.tile 129).clearing = false := by decide +kernel

/-- R479: the unit of the earliest request that got the status, whichever answer came first. -/
theorem test_errorOfTheEarliestRequest :
    (((command .running).gets { ord := 3, status := stXlate, unit := uTu }).gets { ord := 1, status := stXlate, unit := uRouter }).returned
      stXlate = some (stXlate, uRouter) := by decide

theorem witness_TileRequestsAreServed :
    let s := running (command .running)
    let d := running { command .running with direct := true }
    let q : Req := { id := 0, src := .tile 128 false, unit := uTile 128, cab := 2, ctx := 5, owner := some (.cmd 2 4), tag := 3, va := 0x10000,
                     write := false, len := 8, data := [], mask := [], phase := .miss false, since := 0 }
    s.frozen = false ∧ s.tie.tiles.testBit 128 = true ∧ (s.tile 128).killing = false ∧ s.resetting (uTile 128) = false ∧
    s.runOn 128 = some (command .running) ∧ 128 ∉ (command .running).done ∧ (0x10000 : Nat) < 2 ^ 57 ∧ 0x10000 % 128 + 8 ≤ 128 ∧
    s.resetting uTu = false ∧ (s.setUnitSt uTu { phase := .hold }).resetting uTu = true ∧
    s.lookup 2 5 0x30000 = none ∧ (s.lookup 2 5 0x10000).map (fun e => (e.pa, e.host, e.w)) = some (0x40010000, false, true) ∧
    s.cmd 2 4 = some (command .running) ∧
    (((s.addReq q).resolve 0x40010000 8).readLoc { m := .cab 2, unit := uTile 128, ctx := some 5 } 0x40010000 (s.ownPlace (.cmd 2 4) 0x40010000) 8).1 = .ok (List.replicate 8 0) ∧
    (placeRuns { src := .tile 128 true, unit := uTile 128, cab := 2, ctx := 5 } false 0x40010000
      (maskRuns 0 (List.replicate 128 true) (List.replicate 128 7)) d).1 = .ok () := by decide +kernel

/-- A swap of context 5 under way. -/
def swapping (w : Swap) (x : Ctx) : State :=
  let s := fenced.setCtx 2 5 x
  { s with ts := { s.ts with swaps := [w] } }
def loading : Swap := { cab := 2, ctx := 5, load := true, desc := none, started := true, va := 0x10000, tiles := [128], zero := true, stiles := 1 }

theorem witness_SwapDescriptorsBindAndSave :
    let i := flying 0x50 .issued (bodyOf [0, 0, 0x10, 0, 0, 0, 0, 0, 0, 0, 0, 0, 0, 0, 0, 0, 1, 0, 0])
    let o := flying 0x51 .issued (bodyOf [0, 0, 0, 0, 0, 0, 0, 0, 0, 0, 0, 0, 0, 0, 0, 0, 1, 0, 2])
    i.frozen = false ∧ i.resetting uTs = false ∧ (i.issuedOp 2 1 9 0x50).map (fun f => bitsOf (leAt f.body 16 2) 8 0) = some 1 ∧
    (i.cab 2).conf.tileList.length = 8 ∧ i.swapOf 2 5 = none ∧ (i.ctx 2 5).resid ≠ .resident ∧
    ((i.setCtx 2 5 { i.ctx 2 5 with resid := .resident, saveVa := 0x10000, stiles := 1 }).ctx 2 5).resid = .resident ∧
    ((i.setCtx 2 5 { i.ctx 2 5 with resid := .lost, saveVa := 0x10000, stiles := 1 }).ctx 2 5).resid = .lost ∧
    (o.issuedOp 2 1 9 0x51).map (fun f => (leAt f.body 18 1).testBit 1) = some true ∧ (o.ctx 2 5).resid = .unbound ∧
    (swapping loading (base.ctx 2 5)).swapOf 2 5 ≠ none ∧
    (let m := flying 0x51 .issued (bodyOf (toLe 4 handle0 ++ toLe 4 0 ++ toLe 8 0 ++ [1, 0, 0, 0]))
     (m.issuedOp 2 1 9 0x51).map (fun f => ((leAt f.body 18 1).testBit 1, leAt f.body 0 4)) = some (false, handle0) ∧ handle0 ≠ 0 ∧
     ((m.setCtx 2 5 { m.ctx 2 5 with resid := .out }).ctx 2 5).resid ≠ .unbound) := by decide +kernel

theorem witness_SwapsEndAndFollowTheRules :
    let s := swapping loading { base.ctx 2 5 with resid := .inProgress }
    let v : Swap := { loading with load := false, zero := false, discard := true }
    let q := (running (command .waiting)).setCtx 2 5 { base.ctx 2 5 with resid := .out, saveVa := 0x10000, stiles := 1 }
    s.frozen = false ∧ (s.setTile 128 { cab := some 2, clearing := true }).loadReady loading = false ∧ base.swapOf 2 5 = none ∧ s.swapOf 2 5 = some loading ∧ s.loadReady loading = true ∧ loading.zero = true ∧
    (swapping v (base.ctx 2 5)).swapOf 2 5 = some v ∧ v.load = false ∧
    (swapping v (base.ctx 2 5)).runningOf 2 5 = [] ∧ v.discard = true ∧
    q.swapOf 2 5 = none ∧ (q.readyOrder 2).find? (fun c => c.ctx == 5) = some (command .waiting) ∧ (q.ctx 2 5).resid = .out ∧ q.swapHolds 2 5 = false ∧
    q.residents 2 = [] ∧ s.swapsOut 2 = false ∧ q.swapsOut 2 = false ∧
    ({ q with pln := { q.pln with entries := [{ cab := some 2, target := 2, left := [], start := 0 }] } } : State).swapsOut 2 = true := by decide +kernel
/-- Context 6 is resident and blocked since 0; context 5 is swapped out with a ready command. -/
def stalling : State :=
  let s := (running (command .waiting)).setCtx 2 5 { base.ctx 2 5 with resid := .out, saveVa := 0x10000, stiles := 8 }
  let s := s.setCtx 2 6 { st := .live, resid := .resident, stiles := 1, tiles := [129], blockedAt := some 0 }
  { s with mono := 100000000, lat := { s.lat with waits := [{ cab := 2, drawer := 3, seq := 0, obj := 0, fence := handle0, value := 7, latch := none, deadline := none }] } }
theorem witness_StallEviction :
    let s := (stalling.setDrawer 2 3 { st := .live, ctx := 6 })
    let s : State := { s with drw := { s.drw with flights := s.drw.flights ++
      [{ cab := 2, drawer := 3, ctx := 6, seq := 0, slot := 0, slots := 1, gen := 2, op := 0x31, flags := 0, fence := 0, fenceVal := 0, fenceOk := false,
         count := 0, body := [], exts := [], refs := [], stage := .running, issuedAt := 0 }] } }
    s.residents 2 = [6] ∧ s.activity 2 6 = 1 ∧ (s.ctx 2 6).blockedAt = some 0 ∧ 0 + max 1 (s.rfld (rTsCfg 2) 15 0) * 1000 < s.mono ∧
    (∃ e ∈ s.drw.ctxs, e.1 / 16384 = 2 ∧ e.2.resid = .out ∧ s.readyCmd 2 (e.1 % 16384) = true ∧ s.shortOfTiles 2 (e.1 % 16384) = true) := by decide +kernel

/-- A waiting request of context 5. -/
def request (ph : ReqPhase) : Req :=
  { id := 0, src := .tile 128 false, unit := uTile 128, cab := 2, ctx := 5, owner := some (.cmd 2 4), tag := 3, va := 0x30000, write := false,
    len := 8, data := [], mask := [], phase := ph, since := 0 }
def requesting (ph : ReqPhase) (ws : List Walk := []) : State :=
  { running (command .running) with tu := { (running (command .running)).tu with reqs := [request ph], walks := ws, nextReq := 1 } }

theorem witness_WalksStartAndEnd :
    let s := requesting (.miss false)
    let w : Walk := { cab := 2, ctx := 5, page := 3 }
    let h := requesting .walk [w]
    s.frozen = false ∧ s.resetting uTu = false ∧ s.tu.reqs.find? (fun r => r.id == 0) = some (request (.miss false)) ∧
    s.tu.reqs.find? (fun r => r.id == 1) = none ∧ (request .ats).phase = .ats ∧
    ¬ (∃ w ∈ s.tu.walks, w.cab = 2 ∧ w.ctx = 5 ∧ w.page = 3) ∧ (∃ w ∈ h.tu.walks, w.cab = 2 ∧ w.ctx = 5 ∧ w.page = 3) ∧
    ¬ (512 ≤ s.tu.walks.length) ∧ 512 ≤ (requesting (.miss true) (List.replicate 512 { w with cab := 3 })).tu.walks.length ∧
    (h.walk 2 5 (3 * 65536)).1 ≠ .malformed := by decide +kernel
theorem witness_WalkOfAMalformedEntry :
    ((({ requesting .walk with dev := memWrite 0x40000000 (toLe 8 (1 + 4 * 2 ^ 60)) [] } : State)).walk 2 5 (3 * 65536)).1 = .malformed := by decide +kernel

/-- The fault queue of the cabinet is on, in host memory. -/
def queueing (rs : List FaultRec) (ph : ReqPhase) : State :=
  let s := requesting ph
  let s := s.setReg (rFqCfg 2) (pack [(8, 4), (1, 1), (0, 1)])
  { s with tu := { s.tu with faults := rs }, hg := { s.hg with cfg := [(2, 0x83)] } }
def record0 (w : Bool) : FaultRec :=
  { cab := 2, f := 0, ctx := 5, page := 3, level := 0, kind := 1, write := false, unit := uTile 128, written := w, writtenAt := 0, since := 0 }

theorem witness_FaultsAreRecordedAndAnswered :
    let s := queueing [record0 false] (.fault 0)
    let slot (w : Nat) : State := { queueing [record0 true] (.fault 0) with hostMem := memWrite 32 (toLe 4 w ++ toLe 4 0) [] }
    let on := pack [(8, 4), (1, 1), (0, 1)]
    s.frozen = false ∧ s.resetting uTu = false ∧ s.tu.faults.find? (fun r => r.cab == 2 && !r.written) = some (record0 false) ∧
    (requesting .walk).tu.faults.find? (fun r => r.cab == 2 && !r.written) = none ∧ s.fqOn 2 = true ∧ s.fqRoom (record0 false) = true ∧
    (queueing [{ record0 true with f := 0 }, { record0 false with f := 16 }] .walk).fqRoom { record0 false with f := 16 } = false ∧
    s.reg (rFqNotify 2) = 0 ∧ s.rfld (rFqCfg 2) 1 1 = 1 ∧ s.funcBme (s.funcOf 2) = true ∧
    (slot 1).answered 2 0 1 = true ∧ (slot 2).answered 2 0 2 = true ∧ (slot 0).answered 2 0 1 = false ∧ (slot 0).answered 2 0 2 = false ∧
    s.tu.reqs.find? (fun r => r.id == 0) = some (request (.fault 0)) ∧ s.mono < (request (.fault 0)).since + s.faultNs ∧
    (request (.fault 0)).since + ({ s with mono := s.faultNs } : State).faultNs ≤ s.faultNs ∧ (∃ g, (request (.pri 4)).phase = .pri g) ∧
    (request .priWait).phase = .priWait ∧
    s.hostUp = true ∧ (s.wakeBlock 1).regHeld (rFqCfg 2) = false ∧ fld ((base.wakeBlock 1).reg (rFqCfg 2)) 0 0 = 0 ∧ (base.wakeBlock 1).fqReady 2 (setFld on 0 0 0) = true ∧
    (base.wakeBlock 1).fqReady 2 (pack [(8, 3), (1, 1)]) = false ∧ fld ((s.wakeBlock 1).reg (rFqCfg 2)) 0 0 = 1 :=
  ⟨by decide, by decide, by decide, by decide, by decide, by decide, by decide, by decide, by decide, by decide, by decide +kernel, by decide +kernel,
    by decide +kernel, by decide +kernel, by decide, by decide, by decide, ⟨4, rfl⟩, rfl, by decide, by decide +kernel, by decide, by decide, by decide,
    by decide⟩

theorem witness_HostPagesAndWithdrawals :
    let s := requesting .ats
    let w (i : Nat) : Withdrawal := { id := i, ctxs := [(2, 5)], lo := 0, hi := 4096, host := some (2, 3), desc := none }
    let d (ws : List Withdrawal) (s : State) : State := { s with tu := { s.tu with withdraws := ws } }
    s.tu.reqs.find? (fun q => q.id == 0) = some (request .ats) ∧ (request .ats).phase = .ats ∧ s.funcBme (s.funcOf 2) = false ∧
    (queueing [] .ats).funcBme ((queueing [] .ats).funcOf 2) = true ∧ fld (mapGet 0 2 (queueing [] .ats).hg.cfg) 8 8 = 0 ∧
    fld (mapGet 0 2 ({ (queueing [] .ats) with hg := { (queueing [] .ats).hg with cfg := [(2, 0x183)] } } : State).hg.cfg) 8 8 = 1 ∧
    2 ∉ (queueing [] .ats).tu.priOff ∧ (request .ats).service = true ∧ (request .ats).capped = false ∧
    (4, 2) ∈ ({ requesting (.pri 4) with tu := { (requesting (.pri 4)).tu with priOpen := [(4, 2)] } } : State).tu.priOpen ∧
    (requesting (.pri 4)).tu.reqs.filter (fun r => r.phase == .pri 4) = [request (.pri 4)] ∧ (∀ q ∈ (requesting (.pri 4)).tu.reqs, q.phase ≠ .priWait) ∧
    ((d (List.replicate 32 (w 0)) base).tu.withdraws.filter (fun w => w.host.any (fun h => h.1 == 2))).length = 32 ∧
    (base.tu.withdraws.filter (fun w => w.host.any (fun h => h.1 == 2))).length < 32 ∧
    (d [w 0] base).tu.withdraws.find? (fun w => w.id == 0) = some (w 0) ∧ base.tu.withdraws.find? (fun w => w.id == 0) = none ∧
    (∃ v ∈ (d [w 0, w 1] base).tu.withdraws, v.id < 1 ∧ v.host ≠ none ∧ v.host.map (·.1) = (w 1).host.map (·.1)) ∧
    ¬ (∃ v ∈ (d [w 0] base).tu.withdraws, v.id < 0 ∧ v.host ≠ none ∧ v.host.map (·.1) = (w 0).host.map (·.1)) ∧
    ¬ (∃ c ∈ (w 0).ctxs, ∃ x ∈ base.ts.cmds, x.cab = c.1 ∧ x.ctx = c.2) ∧
    (∃ x ∈ (killed [128]).ts.cmds, x.cab = 2 ∧ x.ctx = 5 ∧ x.phase = .killing [128]) ∧ base.tu.atsOpen = [] ∧ base.tu.reqs = [] ∧
    base.tu.priOpen = [] ∧ 7 ∈ ({ base with tu := { base.tu with atsOpen := [7] } } : State).tu.atsOpen := by decide +kernel

/-- The command has written one granule's shadow; its home is 0x40010000, its pool granule the first of the reserve. -/
def shadowed (s : State) : State :=
  { s with tu := { s.tu with grans := [(0x40010000 / 8192, { shadow := some (.cmd 2 4, conf.poolGran 0), map := 2 ^ 64 - 1 })] } }
theorem witness_CommittedShadowsBecomeCurrent :
    let s := shadowed (running (command .committing))
    s.frozen = false ∧ s.resetting uTu = false ∧ s.cmd 2 4 = some (command .committing) ∧ (running (command .running)).cmd 2 4 = some (command .running) ∧
    base.cmd 2 4 = none ∧ (State.fillAll { m := .cab 2, unit := uTu, ctx := some 5 } (s.shadowsOf (.cmd 2 4)) s).1 = .ok () ∧
    s.shadowsOf (.cmd 2 4) = [0x40010000 / 8192] ∧ (s.gran (0x40010000 / 8192)).shadow = some (.cmd 2 4, conf.poolGran 0) ∧
    0x40010005 / 8192 = 0x40010000 / 8192 := by decide +kernel

/-- A granule is CURRENT in the reserve, and the low threshold asks for it. -/
def current : State :=
  { base.setRfld rTuCfg 37 32 63 with
    tu := { base.tu with reqs := [request .shadow], grans := [(0x40010000 / 8192, { cur := some (conf.poolGran 0), age := 1 })] } }
theorem witness_ShadowStallsAndSettling :
    let s := requesting .shadow
    let l : State := { shadowed (running (command .running)) with mono := 10 ^ 9, tu := { (shadowed (running (command .running))).tu with reqs := [request .shadow] } }
    s.tu.reqs.find? (fun r => r.id == 0) = some (request .shadow) ∧ (request .shadow).phase = .shadow ∧ 0 < s.freeFor (request .shadow) ∧ 2 ∉ s.tu.frozen ∧
    (∃ r ∈ l.tu.reqs, r.cab = 2 ∧ r.phase = .shadow ∧ r.since + max 1 (l.rfld rTuCfg 31 16) * 1000 ≤ l.mono) ∧
    ¬ (∃ r ∈ s.tu.reqs, r.cab = 2 ∧ r.phase = .shadow ∧ r.since + max 1 (s.rfld rTuCfg 31 16) * 1000 ≤ s.mono) ∧
    l.dceHolders 2 = [] ∧ l.shadowHolders 2 = [command .running] ∧
    (let c : DceCmd := { cab := 2, drawer := 1, seq := 9, ctx := 5, kind := .route, direct := false, started := true }
     let d : State := { s with dce := { s.dce with cmds := [c] }, tu := { s.tu with grans := [(8, { shadow := some (c.owner, conf.poolGran 0) })] } }
     d.dceHolders 2 = [c] ∧ d.shadowHolders 2 = []) ∧
    current.jobTakes (0x40010000 / 8192) { desc := none, cab := 2, grans := [0x40010000 / 8192], bad := none } = true ∧
    current.settleLow 2 = true ∧ current.oldestCurrent 2 = some (0x40010000 / 8192) ∧ current.homeOf 2 (0x40010000 / 8192) = true ∧
    (current.gran (0x40010000 / 8192)).cur = some (conf.poolGran 0) ∧ (current.gran (0x40010000 / 8192)).shadow = none ∧
    base.oldestCurrent 2 = none := by decide +kernel
theorem witness_SettlingCopies :
    (current.copyHome { m := .cab 2, unit := uTu } (0x40010000 / 8192) (conf.poolGran 0)).1 = .ok () ∧
    (({ current with mix := { current.mix with badData := [conf.poolGran 0 * 64] } } : State).copyHome { m := .cab 2, unit := uTu } (0x40010000 / 8192)
      (conf.poolGran 0)).1 ≠ .ok () := by decide +kernel

/-- An ADVISE of object 0 with this advice. -/
def advising (k : Byte) (n : Nat) : State := flying 0x12 .issued (bodyOf [0, 0, 0x10, 0, k]) n
theorem witness_AdviceActsOnItsRange :
    (advising 1 16).frozen = false ∧ ((advising 1 16).advise 2 1 9 1).isSome = true ∧
    (let pages (s : State) (va : Nat) := (s.advise 2 1 9 1).map fun f => (pagesFrom (adviseAsker f) va 16 2 0 s).1.1
     let bad := (advising 1 16).advise 2 1 9 1 |>.map fun f => (pagesFrom (adviseAsker f) 0x30000 16 2 0 (refusing (adviseAsker f) 0x30000 (advising 1 16))).1.1
     pages (advising 1 16) 0x10000 = some (.ok ()) ∧ bad = some (.bad stXlate uTu) ∧ pages (advising 1 16) 0x30000 = some .wait) ∧
    ((advising 2 16).advise 2 1 9 2).isSome = true ∧ ((advising 3 16).advise 2 1 9 3).isSome = true ∧
    (advising 3 16).walkRoom 2 = true ∧ ({ advising 3 16 with tu := { mapped.tu with walks := List.replicate 512 { cab := 3, ctx := 5, page := 3 } } } : State).walkRoom 2 = false ∧
    (let bad : State := { advising 3 16 with dev := memWrite 0x40000000 (toLe 8 (1 + 4 * 2 ^ 60)) [] }
     (reachedGrans 2 5 0x10000 16 1 0x10000 (advising 3 16)).1 = .ok [0x40010000 / 8192] ∧
     (reachedGrans 2 5 0x30000 16 1 0x30000 (advising 3 16)).1 = .ok [] ∧
     (match (reachedGrans 2 5 0x30000 16 1 0x30000 bad).1 with | .bad _ _ => true | _ => false) = true) ∧
    ((advising 4 0).advise 2 1 9 4).map (·.count) = some 0 ∧
    ((advising 4 16).advise 2 1 9 4).map (fun f => (f.count, leAt f.body 5 1)) = some (16, 0) := by decide +kernel

/-- The cabinet's batcher, with room and one group. -/
def batching (b : SbCab) (s : State) : State :=
  ((s.setReg (rSbCfg 2) (pack [(48, 256), (32, 128), (0, 1)])).setReg (rSbArea 2) 0x40020000).setSbc 2 b
def group : SbGroup :=
  { id := 3, ctx := 5, obj := 0, base := 0x10000, chunk := 64, rowsMax := 4, margin := 0, area := 0, areaVa := 0x10000, maxPos := 64, dec := 0, pre := 0,
    samples := 0, layers := [] }
def live : SbReq :=
  { drawer := 1, seq := 9, ctx := 5, slot := 0, model := 0, fallback := none, tokens := handle0, progress := 0, cancel := 0, maxNew := 4, deadline := 0,
    stop := 0, prompt := 8, total := 8, left := 8 }

theorem witness_TheBatcherTurnsOnAndOff :
    let s := batching {} base
    let b (budget max : Nat) : State := s.setReg (rSbCfg 2) (pack [(48, budget), (32, max)])
    s.hostUp = true ∧ (s.wakeBlock 1).regHeld (rSbCfg 2) = false ∧ ((s.wakeBlock 1).sbc 2).st = .off ∧ s.sbCheck 2 = 0 ∧ ((batching { st := .idle } base).sbc 2).st ≠ .off ∧
    ((batching { st := .idle } base).sbc 2).waits = [] ∧
    (b 127 1).sbCheck 2 = 1 ∧ (b 128 1).sbCheck 2 = 2 ∧ (b 192 64).sbCheck 2 = 0 ∧ (b 192 65).sbCheck 2 = 2 ∧ (b 16384 16256).sbCheck 2 = 0 ∧
    ((b 192 64).setReg (rSbArea 2) 0).sbCheck 2 = 3 ∧ (b 192 0).sbCheck 2 = 2 := by decide +kernel

/-- A REQUEST for the model of object 0: 8 prompt tokens, 4 new ones. -/
def asking (b : SbCab) : State := batching b (flying 0x03 .issued (bodyOf [0, 0, 0x10, 0, 0, 0, 0, 0, 0, 0, 0x10, 0, 0, 0, 0, 0, 8, 0, 0, 0, 4]))
theorem witness_RequestsAreAdmitted :
    let s := asking { st := .idle, groups := [group] }
    let w (b : Bool) : SbWait := { drawer := 1, seq := 9, ctx := 5, objs := [0], news := [], stale := b }
    let f := s.issuedOp 2 1 9 0x03
    s.frozen = false ∧ s.resetting uBatcher = false ∧ f.isSome = true ∧ (s.sbc 2).waits = [] ∧
    (f.map fun f => match (requestCheck f s).1 with | .ok news => some news | _ => none) = some (some []) ∧
    (f.map fun f => (requestCheck f s).2.admits f) = some true ∧ (f.map fun f => s.admits f) = some true ∧
    (f.map fun f => match (requestCheck f (asking {})).1 with | .no _ => true | _ => false) = some true ∧
    (f.map fun f => (asking { st := .idle, groups := [group], window := 1 }).admits f) = some false ∧
    (∀ b ∈ [true, false], ((asking { st := .idle, groups := [group], waits := [w b] }).sbc 2).waits.find? (fun w => w.drawer == 1 && w.seq == 9) =
      some (w b)) := by
  decide +kernel

/-- A step's one group, whose layer command is command 4. -/
def stepping (c : Cmd) (b : SbCab) : State := batching b (running { c with desc := none })
theorem witness_BoundariesAndSteps :
    let q (b : SbCab) := batching b (flying 0x03 .running [])
    let done : SbGroup := { group with run := .running, cmd := some 4 }
    let s := stepping (command (.finished stDone 0)) { st := .run, groups := [done], reqs := [live] }
    ((q {}).sbc 2).st = .off ∧ ((q { st := .idle }).sbc 2).reqs = [] ∧ ((q { st := .idle, drain := true }).sbc 2).drain = true ∧
    ((q { st := .idle, reqs := [live] }).sbc 2).reqs ≠ [] ∧ (q { st := .idle, reqs := [live] }).reqGone 2 live = false ∧
    s.stepDone 2 (s.sbc 2) = false ∧ ((q { st := .form }).sbc 2).st = .form ∧
    (writeTables 2 0 0 256 [group] (q { st := .form, groups := [group] })).1 = .ok [group] ∧ group.run ≠ .running ∧ done.run = .running ∧
    (s.ctx 2 5).st = .live ∧ s.cmd 2 4 = some { command (.finished stDone 0) with desc := none } ∧
    (s.sbc 2).groups.find? (fun g => g.cmd == some 4) = some done ∧ base.cmd 2 4 = none ∧
    (q { st := .run }).stepDone 2 ((q { st := .run }).sbc 2) = true ∧
    (q { st := .idle }).quiesces 2 = false ∧ ((q { st := .idle }).cab 2).power = 0 ∧ ((q { st := .idle }).sbc 2).fresh = false ∧
    (let e : State := q { st := .run, reqs := [live] }
     let asked : State := { e with pln := { e.pln with entries := [{ cab := some 2, target := 2, left := [uBatcher], start := 0 }] } }
     asked.quiesces 2 = true ∧ (closeStep 2 (e.sbc 2) e).1.wait = false) := by decide +kernel

theorem witness_BatchesStayWithinTheBudget :
    let qs := [{ live with stage := .decode }, live]
    (qs.filter (fun q => q.stage == .decode)).length + 64 * (qs.filter (fun q => q.stage == .pending)).length ≤ 128 ∧
    (∀ q ∈ qs, 64 ≤ 64 ∧ 64 % 64 = 0 ∧ q.left = 8) := by decide +kernel

/-- A named channel 0 with handle generation 1, in this state. -/
def channel (c : Chan) (s : State) : State := s.setChan 0 { c with cab := 2, ctx := 5 }
/-- A MOVE of two segments through the channel handle, or none. -/
def moving (h : Bool) (n : Nat) : State :=
  let hb : List Byte := if h then toLe 4 (chanHandle 1 0) else toLe 4 0
  flying 0x10 .issued (bodyOf (List.replicate 24 0 ++ hb)) n
theorem witness_MovesFindTheirChannelAndStart :
    (moving false 0).frozen = false ∧ (moving false 0).resetting uDrawer = false ∧ ((moving false 0).issuedOp 2 1 9 0x10).map (·.count) = some 0 ∧
    ((moving false 8192).issuedOp 2 1 9 0x10).map (fun f => leAt f.body 24 4) = some 0 ∧ (moving false 8192).freeChan = some 0 ∧
    ((flying 0x11 .issued (bodyOf []) 8192).issuedOp 2 1 9 0x11).isSome = true ∧
    ((moving true 8192).issuedOp 2 1 9 0x10).map (fun f => leAt f.body 24 4) = some (chanHandle 1 0) ∧
    (channel { st := .idle } (moving true 8192)).liveChan 2 5 (chanHandle 1 0) = some 0 ∧ (moving true 8192).liveChan 2 5 (chanHandle 1 0) = none ∧
    ((channel { st := .idle, queue := [(1, 9)] } (moving true 8192)).me.chans.find? (fun e => e.2.cab == 2 && e.2.queue.head? == some (1, 9))).map (·.1) = some 0 ∧
    ((channel { st := .run, queue := [(1, 9)] } (moving true 8192)).chan 0).st ≠ .idle := by decide +kernel
/-- Every channel is in use. -/
def crowded : State := { moving false 8192 with me := { (moving false 8192).me with chans := (List.range 1024).map (fun i => (i, { st := .run })) } }
theorem listed_everywhere (v : Chan) (i : Nat) : ∀ l : List Nat, i ∈ l → mapFind i (l.map fun j => (j, v)) = some v
  | j :: r, h => by
    by_cases e : j = i
    · simp [mapFind, e]
    · simp only [List.map_cons, mapFind, e, if_false]
      exact listed_everywhere v i r (by simpa [Ne.symm e] using h)
theorem witness_MovesWaitForAChannel : crowded.freeChan = none ∧ (2, 1, 9) ∉ crowded.me.waits := by
  refine ⟨List.find?_eq_none.2 fun i h => ?_, by decide⟩
  have : crowded.chan i = { st := .run } := by
    simp only [State.chan, mapGet, crowded, listed_everywhere { st := .run } i _ h, Option.getD_some]
  simp [this]

/-- A channel that moves 8,192 bytes within the page. -/
def moves : Chan := { st := .run, src := 0x10000, dst := 0x14000, count := 8192, cur := some (1, 9) }
theorem witness_SegmentsAreStagedAndWritten :
    let s := channel moves (moving true 8192)
    let g : Seg := { k := 0, bs := List.replicate 4 0 }
    let w := channel { moves with count := 4, staged := [g] } (moving true 4)
    let bad := refusing ((w.chan 0).asker 0 64) 0x30000 w true
    s.resetting (uEngine 0) = false ∧ s.jobOf 0 = none ∧ s.nextSeg 0 = 0 ∧ s.readWaits 0 = true ∧ w.readWaits 0 = false ∧ s.me.avoid = [] ∧
    s.slotFor 2 = true ∧ s.grants false 0 = true ∧ (s.chan 0).short = false ∧ (s.setJob 1 0 0).jobOf 1 = some (0, 0) ∧
    (s.setChan 1 { s.chan 0 with ctx := 5 }).grants false 1 = false ∧ (s.chan 0).pre = false ∧ (s.chan 0).sfmt = (s.chan 0).dfmt ∧
    (w.chan 0).staged.find? (fun g => g.k == 0) = some g ∧ (∀ g ∈ (w.chan 0).staged, g.k ≠ 1) ∧ w.jobOf 64 = none ∧ w.carried true 0 0 = false ∧
    w.grants true 0 = true ∧ ((w.setJob 64 0 0).setJob 65 0 1).jobOf 64 = some (0, 0) ∧ (w.setJob 65 0 0).carried true 0 0 = true ∧
    ((w.granted true 0).chanWrite (w.chan 0) 0 64 0x14000 g.bs).1 = .ok () ∧ ((w.granted true 0).chanWrite (w.chan 0) 0 64 0x30000 g.bs).1 = .wait ∧
    (match ((bad.granted true 0).chanWrite (w.chan 0) 0 64 0x30000 g.bs).1 with | .bad _ _ => true | _ => false) = true ∧
    ((channel { moves with count := 0 } (moving true 0)).chan 0).finished = true := by decide +kernel
/-- The staging slots are all taken by cabinet 2 while cabinet 3 is entitled to them. -/
def unslotted : State :=
  let s := channel moves (moving true 8192)
  let s := { s with cabs := [(2, { s.cab 2 with memFloor := 0 }), (3, { memFloor := 1024 })] }
  s.setChan 1 { moves with cab := 3, ctx := 5 }
theorem witness_SegmentWaitsForASlot : unslotted.slotFor 2 = false ∧ unslotted.readWaits 0 = true ∧ (0, 0) ∉ unslotted.me.avoid := by decide +kernel
theorem witness_SegmentIsRead :
    let s := (channel { moves with count := 4 } (moving true 4)).granted false 0
    let bad := refusing ((s.chan 0).asker 0 0) 0x30000 s
    (s.chanRead (s.chan 0) 0 0 0x10000 4).1 = .ok (List.replicate 4 0) ∧ (s.chanRead (s.chan 0) 0 0 0x30000 4).1 = .wait ∧
    (match (bad.chanRead (s.chan 0) 0 0 0x30000 4).1 with | .bad _ _ => true | _ => false) = true := by decide +kernel
theorem witness_TransfersEndAndChannelsFree :
    let s := channel { moves with count := 0 } base
    (s.chan 0).finished = true ∧ (s.chan 0).st = .run ∧ (s.chan 0).cur ≠ none ∧ (s.chan 0).anon = false ∧ (s.chan 0).drop = false ∧
    ((channel { moves with count := 0, direct := true, cur := none } base).chan 0).direct = true ∧ (base.chan 0).st ≠ .idle ∧ (base.chan 0).dying = false ∧
    ((channel { st := .idle, dying := true } base).chan 0).queue = [] ∧ ((channel { moves with count := 0, pre := true } base).chan 0).pre = true := by
  decide +kernel

theorem witness_ChannelsAndDirectTransfers :
    let c (x : Chan) := (channel x base).wakeBlock 1
    let d (b : Byte) := flying 0x61 .issued (bodyOf (toLe 4 (chanHandle 1 0) ++ [b]))
    let n := flying 0x60 .issued (bodyOf [0, 0, 0x10, 0])
    ((c {}).chan 0).st = .free ∧ ((c { st := .run }).chan 0).st = .run ∧ fld (0 : Word) 5 5 = 0 ∧ fld (0 : Word) 1 1 = 0 ∧ ((c { st := .draining }).chan 0).quiet = false ∧
    ((c { moves with st := .draining }).chan 0).staged = [] ∧ ((c { moves with st := .draining }).chan 0).finished = false ∧
    ((c { st := .idle }).chan 0).count = 0 ∧ (moveCounts 0 0 4).isNone = false ∧ ((c { st := .idle, src := 2 ^ 44, count := 4 }).chan 0).src = 2 ^ 44 ∧
    (n.issuedOp 2 1 9 0x60).isSome = true ∧ n.freeChan = some 0 ∧ n.chansFree = 1024 ∧ n.rfld (rMeClim 2) 10 0 ≠ 0 ∧
    ((n.takeChan 0 2 5 false).vaWrite { src := .drw false, unit := uDrawer, cab := 2, ctx := 5, tag := drwKey 2 1 + 1 } 0x10000
      (toLe 8 (chanHandle 1 0))).1 = .ok () ∧
    (channel { st := .idle } n).rfld (rMeClim 2) 10 0 ≠ 0 ∧ ((n.setReg (rMeClim 2) 0).rfld (rMeClim 2) 10 0 ≤ 0) ∧
    ((d 0).issuedOp 2 1 9 0x61).map (fun f => (leAt f.body 4 1).testBit 0) = some false ∧
    ((d 1).issuedOp 2 1 9 0x61).map (fun f => (leAt f.body 4 1).testBit 0) = some true ∧
    (d 0).liveChan 2 5 (chanHandle 1 0) = none ∧ (channel { st := .idle } (d 0)).liveChan 2 5 (chanHandle 1 0) = some 0 := by decide +kernel

/-- The landing of group 0: one expert, one rank, one row of one FP32 element. -/
def landing0 : Landing :=
  { cab := 2, group := 0, ctx := 5, handle := handle0, base := 0x10000, h := 1, fmt := 0, lexperts := 1, ranks := 1, cap := 1, bufs2 := false, arrive := 0,
    consumed := 0, resv := 0, last := [some 7] }
/-- A DISPATCH of this mode, with the landing bound or not. -/
def dispatching (mode : Byte) (stage : Stage) (ls : List Landing) : State :=
  let s := flying 0x20 stage (bodyOf ([mode, 0, 1, 0] ++ toLe 4 handle0 ++ toLe 8 7 ++ toLe 4 1 ++ toLe 2 1 ++ [0, 0, 1, 0, 1, 0, 1, 0, 0, 0]))
  { s with dce := { s.dce with landings := ls } }
theorem witness_LandingsRoutesAndReturns :
    let l := dispatching 2 .issued []
    let u := dispatching 3 .issued [landing0]
    l.frozen = false ∧ l.resetting uDce = false ∧ (l.dispatch 2 1 9 2).isSome = true ∧ l.landing 2 0 = none ∧
    (dispatching 2 .issued [landing0]).landing 2 0 ≠ none ∧
    (l.dispatch 2 1 9 2).map (fun f => (landingOf l f, (l.reserve 2 (touched 0x10000 8192)).isSome)) =
      some ({ landing0 with last := [none] }, true) ∧ l.reserve 2 (2 ^ 20) = none ∧
    (u.dispatch 2 1 9 3).isSome = true ∧ (dispatching 3 .issued []).landing 2 0 = none ∧ u.landing 2 0 = some landing0 ∧
    ({ landing0 with unland := true } : Landing).unland = true ∧ l.dispatch 2 1 9 3 = none ∧ u.dispatch 2 1 9 2 = none := by decide +kernel

/-- A home table of one expert at the one rank, and a ROUTE of one row under way. -/
def homes0 : List Byte := toLe 2 1 ++ toLe 2 1 ++ toLe 4 1 ++ List.replicate 56 0 ++ toLe 4 (2 * 65536) ++ toLe 4 (2 ^ 31)
def exchange (k : DceKind) (ph : DcePhase) : DceCmd :=
  { cab := 2, drawer := 1, seq := 9, ctx := 5, kind := k, direct := false, phase := ph, ticket := 3, homes := homes0,
    peers := [{ node := 0, cab := 2, ticket := 3 }], epoch := 6, deadline := 100, slot := some 8 }
def ticket0 : Ticket :=
  { cab := 2, num := 3, ctx := 5, rows := 1, k := 1, h := 1, rfmt := 0, ranks := [(0, 2)], retVa := 0x10000, routVa := 0x11000, resv := 1 }
/-- The exchange, with an installed table in slot 8 and the command's ticket. -/
def exchanging (mode : Byte) (c : DceCmd) (ls : List Landing) : State :=
  let s := dispatching mode .running ls
  { s with tu := { s.tu with look := s.tu.look.map (fun e => { e with rm := true }) }, dce := { s.dce with cmds := [c], tickets := [ticket0] },
           ft := { s.ft with slots := [(8, { st := .held, cab := 2, version := 1, bytes := List.replicate 1088 0 })],
                             refs := [{ cab := 2, drawer := 1, seq := 9, slot := 8, version := 1 }] } }
theorem witness_RoutesRun :
    let s := exchanging 0 (exchange .route .queued) []
    let c := exchange .route .queued
    s.dispatch 2 1 9 0 = none ∧ s.dceCmd 2 1 9 = some c ∧ (s.flight 2 1 9).isSome = true ∧ s.routeReady c = true ∧
    (exchanging 0 (exchange .route .staging) []).routeReady (exchange .route .staging) = false ∧
    (let r := s.updDce c (fun x => { x with started := true })
     (s.flight 2 1 9).map (fun f => decide (((r.vaRead c.asker (r.extVa f 12) (routeRows f * logitStride f 1)).1 = .ok (List.replicate 64 0)) ∧
       ((r.vaRead c.asker (r.extVa f 0) (routeRows f * 64)).1 = .ok (List.replicate 64 0)))) = some true ∧
     (s.flight 2 1 9).map (fun f => (r.dceWrite { c with started := true } (r.extVa f 24) (List.replicate 16 0)).1) = some .ok) ∧
    (let d := dispatching 0 .issued []
     (d.dispatch 2 1 9 0).isSome = true ∧ d.dceCmd 2 1 9 = none ∧ (d.endFlight 2 1 9 { status := stBound, unit := some uDce }).dceCmd 2 1 9 = none ∧
     (d.dispatch 2 1 9 0).map (fun f => decide ((d.obj (handleIdx (leAt f.body 4 4))).len < 64)) = some true) := by decide +kernel
theorem witness_ReturnsRun :
    let s := exchanging 1 (exchange .ret .queued) [landing0]
    let c := exchange .ret .queued
    s.dispatch 2 1 9 1 = none ∧ s.dceCmd 2 1 9 = some c ∧ c.phase = .queued ∧ s.dceHeld c = false ∧ s.dceMayStart c = true ∧ s.landing 2 0 = some landing0 ∧
    (s.flight 2 1 9).map (fun f => match (readRanks c.asker landing0 (retStep f) (retBytes f) 0x10000 (List.range 1) (s.updDce c (fun x => { x with started := true }))).1 with
      | .ok _ => true | _ => false) = some true ∧
    ((dispatching 1 .issued []).dispatch 2 1 9 1).map (fun f => (returnCheck f (dispatching 1 .issued [])).isSome) = some true := by decide +kernel

/-- Cabinet 2 holds job 7; port 0 is UP; a packet of the job comes to this node. -/
def listening (s : State) : State :=
  { (s.setReg (rFrJob 2) (pack [(32, 1), (16, 5), (0, 7)])).setReg rFrNode 0 with fr := { s.fr with ports := [(0, { st := .up })] } }
def packet0 (ty : Nat) (arg0 : Nat := 0) (pay : List Byte := []) : Packet :=
  { ty := ty, src := 3, srcCab := 4, job := 7, epoch := 6, arg0 := arg0, arg1 := 3, payload := pay }
/-- The state in which it acts. -/
def heard (s : State) (p : Packet) : State := (s.arrives (some 0) p).2
theorem witness_hears : ∀ ty ∈ [ptSet, ptSeal, ptCommit, ptDiscard, ptSetrsp, ptWrite, ptRead, ptWack, ptRdata, ptSignal, ptSack],
    let s := listening base
    (packet0 ty).dst = s.node ∧ (s.port 0).st = .up ∧ s.portsStopped = false ∧ s.resetting uRouter = false ∧
    s.arrives (some 0) (packet0 ty) = (some 2, heard s (packet0 ty)) := by decide +kernel

/-- A set being received, and the state that holds it. -/
def set0 : InSet := { id := 0, cab := 2, job := 7, node := 3, scab := 4, epoch := 6, ticket := 3 }
def receiving (i : InSet) (s : State) : State := listening { s with dce := { s.dce with sets := [i] } }
def sealed0 (ret : Bool) : SealInfo := { step := 8, count := 0, xb := 4, cap := 1, rank := 0, ret := ret }
theorem witness_SetsAndReplies :
    let p := packet0 ptSet
    let u := heard (listening base) p
    let late : State := { u with dce := { u.dce with seen := [{ cab := 2, node := 3, scab := 4, key := .sent 3, epoch := 7 }] } }
    (heard (receiving set0 base) p).setOf 2 p = some set0 ∧ u.setOf 2 p = none ∧ u.lateSet 2 p = false ∧ late.setOf 2 p = none ∧ late.lateSet 2 p = true ∧
    (heard (receiving { set0 with staged := true } base) p).setOf 2 p = some { set0 with staged := true } ∧ set0.commit = false ∧
    (∀ l ∈ base.dce.landings, l.cab ≠ 2) ∧
    (receiving { set0 with fin := some (sealed0 true), staged := true, commit := true } base).inSet 2 0 =
      some { set0 with fin := some (sealed0 true), staged := true, commit := true } := by decide +kernel
theorem witness_Replies :
    let s (ph : DcePhase) := heard (listening (exchanging 0 { exchange .route ph with peers := [{ node := 3, cab := 4, ticket := 3 }] } [])) (packet0 ptSetrsp 1)
    let c (ph : DcePhase) : DceCmd := { exchange .route ph with peers := [{ node := 3, cab := 4, ticket := 3 }] }
    (s .staging).answeredBy 2 (packet0 ptSetrsp 1) = some (c .staging, some 0) ∧ (s .committing).answeredBy 2 (packet0 ptSetrsp 2) = some (c .committing, some 0) ∧
    (s .staging).answeredBy 2 { packet0 ptSetrsp 1 with srcCab := 9 } = some (c .staging, none) ∧ (s .queued).answeredBy 2 (packet0 ptSetrsp 1) = none ∧
    (packet0 ptSetrsp 3).arg0 % 256 = 3 ∧ (packet0 ptSetrsp 4).arg0 % 256 = 4 := by decide +kernel

theorem witness_CombinesGatherAndTimeOut :
    let c := exchange .combine .gathering
    let b := bodyOf (toLe 2 3 ++ [0, 0] ++ toLe 4 handle0)
    let s0 := flying 0x21 .running b
    let t : Ticket := { ticket0 with rows := 0, returned := [0] }
    let s : State := { s0 with dce := { s0.dce with cmds := [c], tickets := [t] } }
    let i (ts : List Ticket) : State := { flying 0x21 .issued b with dce := { s0.dce with tickets := ts } }
    let k (ts : List Ticket) := ((i ts).issuedOp 2 1 9 0x21).map (fun f => combineCheck f (i ts))
    k [] = some (some dceDenied) ∧ k [t] = some none ∧ k [{ t with aborted := true }] = some none ∧
    ((i [t]).issuedOp 2 1 9 0x21).map (fun f => (i [t]).ticket 2 (combineTicket f)) = some (some t) ∧
    s.dceCmd 2 1 9 = some c ∧ s.ticket 2 3 = some t ∧ s.dceHeld c = false ∧ t.returned.length = t.ranks.length ∧
    ticket0.returned.length ≠ ticket0.ranks.length ∧
    ({ s with dce := { s.dce with tickets := [ticket0] } } : State).ticket 2 3 = some ticket0 ∧
    (s.vaRead c.asker 0x11000 0).1 = .ok [] ∧ (s.flight 2 1 9).map combineStats = some false ∧ c.direct = false ∧
    (s.commitOwner c.owner { m := .cab 2, unit := uTu, ctx := some 5 }).1 = .ok () ∧
    s.mono < c.deadline ∧ c.deadline ≤ ({ s with mono := 100 } : State).mono ∧ (exchange .combine .queued).phase = .queued := by decide +kernel

/-- The table of R276. -/
def table276 : List Byte :=
  let seg (a b c d : Nat) : List Byte := toLe 4 a ++ toLe 4 b ++ toLe 4 c ++ toLe 4 d
  [0, 1, 0, 0] ++ toLe 4 0x3F600000 ++ toLe 8 0xC010000000000000 ++ toLe 8 0x4020000000000000 ++ toLe 4 0 ++ toLe 4 0x3F600000 ++ toLe 4 0x3D000000 ++
  List.replicate 28 0 ++ (List.replicate 40 (seg 0x3F400000 0 0 0)).flatten ++ seg 0x3F400000 0x3E000000 0x3D800000 0xBD000000 ++
  (List.replicate 23 (seg 0x3F600000 0 0 0)).flatten
theorem test_table276_is_1088_bytes : table276.length = 1088 := by decide +kernel
theorem test_table276_inside_segment_40 : tblEval table276 (fp32.decode 0x3F8F0000) = fp32.decode 0x3F600000 := by decide +kernel
theorem test_table276_at_its_seam : tblEval table276 (fp32.decode 0x3F900000) = fp32.decode 0x3F600000 := by decide +kernel
theorem test_table276_seam_41 : tblSample table276 40 16 = fp32.decode 0x3F680000 ∧ chkHeader table276 = false := by decide +kernel

/-- A TABLE_LOAD of this operation under way, or issued. -/
def tabling (op : Byte) (stage : Stage) (os : List TableOp) (st : SlotState) : State :=
  let s := flying 0x22 stage (bodyOf ([op, 0, 0, 0] ++ toLe 4 handle0 ++ toLe 8 0 ++ toLe 4 8 ++ toLe 4 handle0 ++ toLe 8 8))
  { s with ft := { s.ft with slots := [(8, { st := st, cab := 2, version := 1, bytes := table276 })], ops := os } }
def top (op : Nat) (checked : Bool) (b : List Byte) : TableOp := { cab := 2, drawer := 1, seq := 9, op := op, slot := 8, bytes := b, checked := checked }
theorem witness_TablesLoadAndTableOperations :
    let l := tabling 0 .issued [] .held
    l.frozen = false ∧ l.resetting uDce = false ∧ (l.tableFlight 2 1 9 0).isSome = true ∧ l.opOf 2 1 9 = none ∧ l.useTables 2 = 1 ∧ quotaTables (l.cab 2).conf = 4 ∧ quotaTables ((full l).cab 2).conf = 0 ∧
    (let r (l : State) : State := let r := l.setSlot 0 { l.slot 0 with st := .loading, cab := 2 }
       { r with ft := { r.ft with ops := r.ft.ops ++ [{ cab := 2, drawer := 1, seq := 9, op := 0, slot := 0 }] } }
     let m (f : Flight) := refusing (tableAsker f) 0x10000 { l with tu := { l.tu with look := [] } }
     l.freeSlot = some 0 ∧ (l.tableFlight 2 1 9 0).map (fun f => ((r l).readImage f).1) = some (.ok (List.replicate 1088 0)) ∧
     (l.tableFlight 2 1 9 0).map (fun f => match ((r (m f)).readImage f).1 with | .bad _ _ => true | _ => false) = some true) ∧
    ((tabling 1 .issued [] .held).tableFlight 2 1 9 1).isSome = true ∧ (tabling 1 .issued [] .held).slotTakes 2 8 = true ∧
    (tabling 1 .issued [] .loading).slotTakes 2 8 = false ∧ ((tabling 1 .issued [] .held).tableFlight 2 1 9 1).map (fun f => leAt f.body 16 2) = some 8 ∧
    ((tabling 2 .issued [] .held).tableFlight 2 1 9 2).isSome = true ∧ (tabling 2 .issued [] .held).slotHeld 2 8 = true := by decide +kernel
theorem witness_TableOperations :
    let s := tabling 0 .running [top 0 false table276] .loading
    let b := tabling 0 .running [top 0 false (List.replicate 1088 0)] .loading
    let r := tabling 1 .running [top 1 true table276] .replacing
    s.opOf 2 1 9 = some (top 0 false table276) ∧ (s.flight 2 1 9).isSome = true ∧ s.opFirst (top 0 false table276) = true ∧
    ((tabling 0 .running [{ top 1 false [] with seq := 8 }, top 0 false table276] .loading).opFirst (top 0 false table276)) = false ∧
    b.opOf 2 1 9 = some (top 0 false (List.replicate 1088 0)) ∧ (loaderCheck (List.replicate 1088 0)).isSome = true ∧
    (s.flight 2 1 9).map (fun f => (s.vaWrite (tableAsker f) ((s.obj (handleIdx (leAt f.body 20 4))).base + leAt f.body 24 8) (toLe 8 8)).1) = some (.ok ()) ∧
    (tabling 1 .running [top 1 false table276] .held).slotHeld 2 8 = true ∧
    (tabling 1 .running [top 1 false table276] .freeing).slotHeld 2 8 = false ∧ table276 ≠ [] ∧ r.opOf 2 1 9 = some (top 1 true table276) ∧
    r.slotQuiet (top 1 true table276) = true ∧
    ({ r with ft := { r.ft with refs := [{ cab := 2, drawer := 3, seq := 4, slot := 8, version := 1 }] } } : State).slotQuiet (top 1 true table276) = false ∧
    (tabling 2 .running [top 2 true []] .freeing).slotQuiet (top 2 true []) = true := by decide +kernel

/-- A line request at gate 0, granted or not. -/
def gateLine0 (sent : Bool) : GateReq := { tag := 0, m := .cab 2, unit := uTile 128, ctx := some 5, p := 0x40000000, len := 8, data := none, since := 0, sent := sent }
def gating (rs : List GateReq) (g : Nat) (s : State) : State := s.setGate g { reqs := rs, next := 1 }
theorem witness_GatesAndMixing :
    let g := (base.gateOf 0x40000000).1
    gateReqWf (.cab 2) 0x40000000 8 none = true ∧ g < base.gateCount ∧ base.resetting (uGate g) = false ∧ base.stopServes (.cab 2) 0x40000000 false = true ∧
    ¬ (base.installed < 0x40000000 + 8 ∨ (base.gateOf (base.place (.cab 2) 0x40000000)).1 ≠ g ∨
      base.rfld (rSgQlim g) 8 0 ≤ ((base.gate g).reqs.filter (fun r => r.m.number == (Master.cab 2).number)).length) ∧
    (base.installed < 2 ^ 44 + 8) ∧ base.reach (.cab 2) 0x40000000 = true ∧ base.reach (.cab 3) 0x40000000 = false ∧
    base.quarantined 2 (base.place (.cab 2) 0x40000000) = false ∧
    (let q : State := { base with mix := { base.mix with reinit := some (2, 0x40000000, 8192) } }
     q.quarantined 2 (q.place (.cab 2) 0x40000000) = true ∧ q.reach (.cab 2) 0x40000000 = true) ∧
    (base.setReg (rSgQlim g) 1).rfld (rSgQlim g) 8 0 ≤ ((gating [gateLine0 false] g base).gate g).reqs.length ∧
    ((gating [gateLine0 true] g base).gate g).reqs.find? (fun r => r.sent && r.tag == 0 && r.held.isNone) = some (gateLine0 true) ∧
    (base.gate g).reqs.find? (fun r => r.sent && r.tag == 0 && r.held.isNone) = none ∧
    base.now / 1000 * 1000 ≤ base.urg.interval ∧ ({ base with now := 1000 } : State).urg.interval < 1000 / 1000 * 1000 := by decide +kernel
theorem witness_GateGrants :
    let g := (base.gateOf 0x40000000).1
    let s := gating [gateLine0 false] g base
    (s.gate g).paused = false ∧ (s.gate g).waiting 2 ≠ [] ∧ mapGet none 2 (s.gate g).pace = none ∧
    (s.gate g).cyc = 0 ∧ ¬ (8 ≤ (s.gate g).slots) ∧ 8 ≤ ((base.setGate g { slots := 8 }).gate g).slots ∧ base.gatePick g 0 = none ∧
    ((s.setGate g ((s.gate g).cycle 0)).gatePick g 0).map (·.1) = some 2 := by decide +kernel
theorem witness_MixCommands :
    let r (k : Rekey) : State := { base with mix := { base.mix with rekey := [(2, some k)], remix := [5], reinit := some (2, 0x40000000, 8192) } }
    let arg (a l : Nat) := tookChip ((base.setReg (rRiArg 0) (BitVec.ofNat 64 (a + 2))).setReg (rRiArg 1) (BitVec.ofNat 64 l)) rRiResult
    (r { wm := 0, old := none }).frozen = false ∧ mapGet none 2 (r { wm := 0, old := none }).mix.rekey = some { wm := 0, old := none } ∧
    5 ∈ (r { wm := 0, old := none }).mix.remix ∧ (6 : Nat) ∉ (r { wm := 0, old := none }).mix.remix ∧ mapGet none 2 base.mix.rekey = none ∧ base.mix.reinit = none ∧
    ((r { wm := 0, old := none }).cab 2).conf.size = 2 ^ 30 ∧
    ¬ (((arg 0x40000000 8192).cab ((arg 0x40000000 8192).rfld (rRiArg 0) 7 0)).st ≠ .live) ∧
    (arg 0x40000000 8192).rfld (rRiArg 0) 43 13 * 8192 = 0x40000000 ∧ (arg 0x40000000 8192).rfld (rRiArg 1) 43 13 * 8192 = 8192 ∧
    (∃ r ∈ ((arg 0x40000000 8192).cab 2).conf.ranges, r.2.1 ≤ 0x40000000 ∧ 0x40000000 + 8192 ≤ r.2.1 + r.2.2) ∧
    (∃ r ∈ ((arg 0x7FFFE000 8192).cab 2).conf.ranges, r.2.1 ≤ 0x7FFFE000 ∧ 0x7FFFE000 + 8192 ≤ r.2.1 + r.2.2) ∧
    ¬ (∃ r ∈ ((arg 0x7FFFE000 16384).cab 2).conf.ranges, r.2.1 ≤ 0x7FFFE000 ∧ 0x7FFFE000 + 16384 ≤ r.2.1 + r.2.2) ∧
    (arg 0x40000000 0).rfld (rRiArg 1) 43 13 * 8192 = 0 := by decide +kernel

theorem witness_FloorWritesAreCheckedWhole : base.hostUp = true ∧ (base.wakeBlock 1).memSum = 64 ∧ (base.wakeBlock 1).fabSum = 64 ∧
    (0 : Nat) < base.gateCount ∧ base.failsFloor 7 { conf with bw := pack [(0, 944), (16, 928)] } = false ∧
    base.failsFloor 7 { conf with bw := pack [(0, 961)] } = true := by decide +kernel

theorem witness_UrgencyWiresGetStuckAfterTheLimit :
    let s := (base.setReg (rUrgMap 3) (pack [(14, 2), (0, 2)])).setReg rUrgCfg 5
    let u (m : Nat) : State := { s with mono := m, urg := { s.urg with since := [(3, some 0)], force := [(3, some 0)] } }
    base.coreUp = true ∧ (u 0).frozen = false ∧ mapGet none 3 (u 0).urg.force = some 0 ∧ mapGet none 3 s.urg.force = none ∧ (u 0).wireOn 3 = true ∧ (u 0).rfld rUrgCfg 15 0 = 5 ∧
    (u 4999).mono < 0 + 5 * 1000 ∧ 0 + 5 * 1000 ≤ (u 5000).mono ∧ State.reset.coreUp = false := by decide +kernel

/-- Port 0 in this state. -/
def ported (x : Port) : State := { base with fr := { base.fr with ports := [(0, x)] } }
theorem witness_PortsAndDiscovery :
    ((ported { link := true }).wakeBlock 1).port 0 = { link := true } ∧ ((ported {}).port 0).st = .down ∧ ((ported {}).port 0).link = false ∧
    ((ported { st := .disc }).port 0).queue = [] ∧ ((ported { st := .miswired }).port 0).st = .miswired ∧ base.resetting (uPort 0) = false ∧
    base.tie.ports.testBit 0 = true ∧ (8 : Nat) ∈ [8, 4, 2] ∧ (3 : Nat) ∉ [8, 4, 2] ∧ ((ported { st := .up }).port 0).st ≠ .down ∧
    ((ported { st := .disc }).port 0).discAt ≤ (ported { st := .disc }).mono ∧ (ported { st := .disc, discAt := 1 }).mono < 1 ∧
    ((ported { st := .held }).port 0).st ∈ [PortState.miswired, .up, .held] ∧ (packet0 ptDisc).ty = ptDisc := by decide +kernel

/-- Node 0 of a ring of 16 in dimension 0; port 0 is UP towards node 1. -/
def ring0 (s : State) : State :=
  { ((listening s).setReg rFrCfg (pack [(8, 1), (16, 15), (0, 1)])) with fr := { s.fr with ports := [(0, { st := .up, node := 1 })] } }
def beyond (ty hops dst : Nat) : Packet := { packet0 ty with hops := hops, dst := dst }
theorem witness_TransitAbortsAndMarkers :
    let s := ring0 base
    let k (t : Nat) : State := { s with mono := t, fr := { s.fr with cache := [{ job := 7, origin := 3, serial := 1, time := 0 }] } }
    let a := { packet0 ptAbort with payload := toLe 2 7 ++ toLe 2 3 ++ toLe 2 1 }
    let v (st : StopState) : State := { s with ou := { s.ou with stop := st, stopId := 5 } }
    s.resetting uRouter = false ∧ (s.port 0).st = .up ∧ s.portsStopped = false ∧ linkLocal (beyond ptWrite 0 1) = false ∧ (beyond ptWrite 0 1).dst ≠ s.node ∧
    (let u (p : Packet) : State := s.carry (uPort 0) (if p.job = 0 then none else s.jobCab p.job) p.size
     (u (beyond ptWrite 0 1)).routeOf (beyond ptWrite 0 1) = .via 0 (beyond ptWrite 0 1) false ∧
     (u (beyond ptWrite 15 1)).routeOf (beyond ptWrite 15 1) = .hopDrop ∧
     (u (beyond ptWack 0 16)).routeOf { beyond ptWack 0 16 with phase := 2 } = .lost) ∧
    (match s.routeOf (beyond ptWrite 14 1) with | .via .. => true | _ => false) = true ∧
    (beyond ptWack 0 16).req = false ∧ (beyond ptWrite 0 16).req = true ∧
    (match (s.bump rFrCnt 63 48).routeOf (unreachOf s.node { beyond ptWrite 0 16 with src := 1, phase := 2 }) with | .via .. => true | _ => false) = true ∧
    linkLocal (packet0 ptDisc) = true ∧ (packet0 ptUnreach).dst = s.node ∧
    (∃ x ∈ (k 999999).fr.cache, x.job = leAt a.payload 0 2 ∧ x.origin = 3 ∧ x.serial = 1 ∧ (k 999999).mono < x.time + 1000000) ∧
    ¬ (∃ x ∈ (k 1000000).fr.cache, (k 1000000).mono < x.time + 1000000) ∧ s.jobCab 7 = some 2 ∧
    (v .idle).ou.stop = .idle ∧ (v .armed).ou.stopId = leAt (toLe 2 5) 0 2 ∧ (v .stopped).ou.stop = .stopped ∧ (v .stopping).ou.stopId ≠ 6 ∧ s.coreUp = true := by
  decide +kernel

/-- The job of cabinet 2 in context 5; a packet about address 0x10000 of 8 bytes, request 1. -/
def about (ty va : Nat) (st : Nat := 0) : Packet := { packet0 ty with status := st, payload := toLe 8 va ++ toLe 4 8 ++ toLe 4 1 ++ List.replicate 8 0 }
def remoteReq (w : RemoteWork) : RemoteReq := { id := 1, cab := 2, node := 3, job := 7, epoch := 6, owner := none, work := w, len := 8, deadline := 100 }
def awaiting (w : RemoteWork) (s : State) : State := let u := listening s; { u with fr := { u.fr with reqs := [remoteReq w] } }
theorem witness_RemoteAccessesAndSignals :
    let p := about ptWrite 0x10000
    let u := heard (listening mapped) p
    let d := toLe 8 0 ++ toLe 4 8 ++ toLe 4 1
    (listening mapped).arrives (some 0) p = (some 2, u) ∧ leAt p.payload 0 8 = 0x10000 ∧ leAt p.payload 8 4 = 8 ∧ reqId p = 1 ∧ u.jobCtx 2 = 5 ∧
    (u.vaWrite (inboundAsker 2 5 p true) 0x10000 (List.replicate 8 0)).1 = .ok () ∧ 2 ^ 57 < leAt (about ptWrite (2 ^ 57 - 7)).payload 0 8 + 8 ∧
    ¬ (2 ^ 57 < leAt (about ptWrite (2 ^ 57 - 8)).payload 0 8 + 8) ∧
    (match ((refusing (inboundAsker 2 5 p true) 0x30000 u true).vaWrite (inboundAsker 2 5 p true) 0x30000 (List.replicate 8 0)).1 with | .bad _ _ => true | _ => false) = true ∧
    (u.vaRead (inboundAsker 2 5 p false) 0x10000 8).1 = .ok (List.replicate 8 0) ∧
    (match ((refusing (inboundAsker 2 5 p false) 0x30000 u).vaRead (inboundAsker 2 5 p false) 0x30000 8).1 with | .bad _ _ => true | _ => false) = true ∧ d.length = 16 := by decide +kernel
theorem witness_RepliesToRemoteRequests :
    let h (w : RemoteWork) (ty : Nat) := heard (awaiting w base) (about ty 0)
    (h (.write 128 3) ptWack).repliedTo 2 (about ptWack 0) 1 = some (remoteReq (.write 128 3)) ∧ (h (.read 128 3) ptRdata).repliedTo 2 (about ptRdata 0) 1 = some (remoteReq (.read 128 3)) ∧
    (heard (listening base) (about ptWack 0)).repliedTo 2 (about ptWack 0) 1 = none ∧ (about ptWack 0).status = stDone ∧ (about ptWack 0 stDenied).status ≠ stDone ∧
    ((((h (.write 128 3) ptWack).dropRemote 1).tileMoves 128).sameWrite (remoteReq (.write 128 3))) = [] ∧ ptWack ∈ [ptWack, ptRdata] := by decide +kernel
theorem witness_RemoteSignals :
    let f := flying 0x30 .issued (bodyOf ([1, 0, 0, 0] ++ toLe 4 (5 * 65536 + 3) ++ toLe 8 7))
    let w := awaiting (.signal 1 9) base
    let s : State := { watching .armed with lat := { (watching .armed).lat with latches := [(3, { (watching .armed).latch 3 with exportEn := true, exportId := 5 })] } }
    let p := { packet0 ptSignal with payload := toLe 4 5 ++ toLe 4 1 ++ toLe 8 7 }
    let k := { packet0 ptSack with payload := toLe 4 0 ++ toLe 4 1 ++ toLe 8 0 }
    f.frozen = false ∧ f.resetting uLatch = false ∧ (f.issuedOp 2 1 9 0x30).map (fun f => leAt f.body 0 1) = some 1 ∧ f.jobValid 2 = false ∧ (listening f).jobValid 2 = true ∧
    w.fr.reqs.find? (fun r => r.cab == 2 && r.work == .signal 1 9) = some (remoteReq (.signal 1 9)) ∧ w.mono < (remoteReq (.signal 1 9)).deadline ∧
    (remoteReq (.signal 1 9)).deadline ≤ ({ w with mono := 100 } : State).mono ∧
    (heard (listening s) p).exporter 2 5 = some 3 ∧ (heard (listening base) p).exporter 2 5 = none ∧ leAt p.payload 8 8 = 7 ∧
    ((heard (listening s) p).signalFence (latAsker 2 5) 0x10000 7).1 = .ok () ∧
    (heard w k).repliedTo 2 k (signalId k) = some (remoteReq (.signal 1 9)) ∧ (heard (listening base) k).repliedTo 2 k (signalId k) = none := by decide +kernel

theorem witness_JobTagsKeysAndAborts :
    let u := (listening base).wakeBlock 1
    let b := base.wakeBlock 1
    base.hostUp = true ∧ u.jobValid 2 = true ∧ u.rfld (rFrJob 2) 33 33 = fld (0 : Word) 33 33 ∧ b.jobValid 2 = false ∧ fld (0 : Word) 15 0 = b.jobTag 2 ∧
    ¬ (fld (0 : Word) 33 33 ≠ b.rfld (rFrJob 2) 33 33) ∧ fld (pack [(32, 1)]) 32 32 = 1 ∧ u.rfld (rFrJob 2) 33 33 = 0 / 2 ∧ u.rfld (rFrJob 2) 33 33 ≠ 2 / 2 ∧
    b.tagAllowed 2 = false := by decide +kernel
/-- A tag and a key are written; VALID is 0. -/
def untagged : State :=
  { base.setReg (rFrJob 2) (pack [(16, 5), (0, 7)]) with fr := { base.fr with keyed := [(2, 0)], ports := [(0, { st := .up, node := 1 })] } }
theorem witness_NoCabinetHoldsTheTag : untagged.jobCab 7 = none := by decide +kernel
theorem witness_TagAllowed : untagged.tagAllowed 2 = true := by
  simp only [State.tagAllowed]
  rw [show untagged.jobTag 2 = 7 by decide +kernel, witness_NoCabinetHoldsTheTag]
  decide +kernel
theorem witness_AbortOfATagNotHeld : untagged.resetting uRouter = false ∧ (untagged.port 0).st = .up ∧ untagged.portsStopped = false ∧
    untagged.fr.cache = [] ∧ untagged.jobCab (leAt (packet0 ptAbort 0 (toLe 2 7)).payload 0 2) = none :=
  ⟨by decide, by decide, by decide, by decide, witness_NoCabinetHoldsTheTag⟩

/-- Unit `u` in this phase of an ENGINE reset detected at 0. -/
def inReset (u : Nat) (ph : UnitPhase) (at' : Nat := 0) : State := { base.setUnitSt u { phase := ph, cls := 4 } with mono := at' }
def searching (x : Suspect) (at' : Nat) : State :=
  { base with mono := at', rcv := { base.rcv with searches := [{ unit := uTs, left := [x], began := 0 }] } }
theorem witness_FaultsBeginEngineResets :
    let h := { running (command .running) with mono := 2000000 }
    base.frozen = false ∧ base.ou.stop = .idle ∧ base.unitExists 0xF00 = false ∧ base.unitExists uTs = true ∧ base.hangSeen uTs = true ∧
    base.hangSeen (uTile 128) = false ∧ h.hangSeen (uTile 128) = true ∧ h.unitExists (uTile 128) = true ∧
    ({ base with ou := { base.ou with stop := .stopped } } : State).ou.stop ≠ .idle ∧ base.coreUp = true ∧ (base.loseArrays uTs [0]).ou.stop = .idle ∧
    ((inReset uTs .hold).unitSt uTs).phase = .hold ∧ ((inReset uTs .reset).unitSt uTs).phase = .reset ∧ uTs / 256 ∉ [3, 4, 9, 0xC] ∧
    ((inReset uTs .resync).unitSt uTs).phase = .resync ∧ ((inReset uTs .resync).unitSt uTs).wait = [] ∧ uTs / 256 ≠ 0xD ∧
    (inReset uTs .hold 10000).resetting uTs = true ∧ 0 + UnitPhase.limit .hold ≤ (inReset uTs .hold 10000).mono ∧
    (inReset uTs .hold 9999).mono < 0 + UnitPhase.limit .hold ∧ (inReset uTs .reset 250000).mono = UnitPhase.limit .reset ∧
    (inReset uTs .resync 440000).mono = UnitPhase.limit .resync ∧
    (let x : Suspect := { cab := 2, ctx := 5, start := 0, cmds := [4] }
     let s := searching x 99
     s.rcv.searches.find? (fun r => r.unit == uTs) = some { unit := uTs, left := [x], began := 0 } ∧ s.resetting uTs = false ∧ s.replayDone x = true ∧
     ({ running (command .running) with rcv := s.rcv } : State).replayDone x = false ∧
     max 1 (s.rfld rRcvCfg 43 32) * 1000 = 200000) ∧ base.rcv.searches = [] ∧ (inReset uTs .resync).rcv.searches = [] := by decide +kernel

/-- RST_ARG of context 5 of cabinet 2, and a unit. -/
def aiming (u : Nat) (s : State) : State := tookChip (s.setReg rRstArg (pack [(32, 5), (16, 2), (0, u)])) rRstResult
theorem abortAll_rcv (s : State) (r : Nat) : (s.abortAll r).rcv = s.rcv :=
  (kept_State_abortAll (m := 2 ^ 16) (by decide) (.refl _ s)).rcv (by decide)
theorem witness_ResetCommandsAct :
    let u := aiming (uTile 128) base
    let v (x : Ctx) := aiming uTs (base.setCtx 2 5 x)
    let c := aiming uTs (base.setReg rChestBase 0x80000000)
    let idle := List.replicate 64 (0 : Byte)
    u.lc.job = none ∧ (aiming 0 { base with lc := { base.lc with job := some { pairs := [1], step := .first } } }).lc.job ≠ none ∧
    (aiming 0 { base with ou := { base.ou with stop := .armed } }).ou.stop ≠ .idle ∧ fld (u.reg rRstArg) 23 16 = 2 ∧ fld (u.reg rRstArg) 45 32 = 5 ∧
    u.ou.stop = .idle ∧ ((v {}).ctx 2 5).st = .free ∧ ((v { st := .dying }).ctx 2 5).st = .dying ∧ (u.ctx 2 5).st = .live ∧ u.rcv.cabResets = [] ∧
    (u.ctx 2 5).resetting = false ∧ (aiming 0xF00 base).unitExists 0xF00 = false ∧ u.unitExists (u.rfld rRstArg 11 0) = true ∧ u.rfld rRstArg 11 0 ≠ uPlinth ∧
    (u.cab 2).st = .live ∧ ((aiming 0 (base.setCab 2 {})).cab 2).st ≠ .live ∧ ((aiming 0 (base.setCab 2 {})).cab 2).work = .none ∧
    (u.requested uPlinth 4 none none).rcv.dump = none ∧ (u.requested uPlinth 5 none none).rcv.dump = none ∧
    ((u.requested uPlinth 0 none none).startDump 1 uPlinth idle none).1 = false ∧
    ((c.requested uPlinth 0 none none).startDump 1 uPlinth idle none).1 = true ∧ u.rfld rRstArg 11 0 / 256 = 0xD ∧
    u.pln.power = 0 ∧ (aiming 0 { base with pln := { base.pln with power := 2, waking := true } }).pln.power ≠ 0 ∧
    ({ base with pln := { base.pln with power := 2, waking := true } } : State).hostUp = true := by decide +kernel

theorem witness_TrayReset : (((aiming 0 base).requested uPlinth 5 none none).abortAll 3).rcv.dump = none := by
  rw [abortAll_rcv]
  decide +kernel

/-- A CABINET reset of cabinet 2, begun at 0, at this time. -/
def cabReset (s : State) (at' : Nat) : State := { s with mono := at', rcv := { s.rcv with cabResets := [{ cab := 2, began := some 0 }] } }
theorem witness_ContextAndCabinetResetsAndDumps :
    let x (r : Bool) (at' : Nat) : State := { base.setCtx 2 5 { base.ctx 2 5 with resetting := r } with mono := at' }
    base.frozen = false ∧ ((x true 0).ctx 2 5).resetting = true ∧ (x true 0).contextClear 2 5 = true ∧ (x false 0).ctx 2 5 = base.ctx 2 5 ∧
    ({ running (command .running) with mono := 0 } : State).contextClear 2 5 = false ∧ (x true 99999).mono < ((x true 99999).ctx 2 5).since + 100000 ∧
    ((x true 100000).ctx 2 5).since + 100000 ≤ (x true 100000).mono ∧ (x true 100000).ts.cmds = [] ∧ (x true 100000).dce.cmds = [] ∧
    ((x true 100000).escalate uPlinth 3 (some 2)).rcv.wait ≠ .context 2 5 ∧
    (cabReset base 0).rcv.cabResets.find? (fun r => r.cab == 2) = some { cab := 2, began := some 0 } ∧ base.rcv.cabResets = [] ∧
    (∃ c ∈ (cabReset (running (command .running)) 0).ts.cmds, c.cab = 2 ∧ c.onTiles = true) ∧ (cabReset base 0).ts.cmds = [] ∧
    0 + 1000000 ≤ (cabReset base 1000000).mono ∧ 0 + 2000000 ≤ (cabReset base 2000000).mono := by decide +kernel
/-- A dump under way. -/
def dump0 (next : Option DumpNext) : Dump := { host := true, trigger := 1, first := uPlinth, tStart := 0, seq := 0, rcd := List.replicate 64 0, next := next, since := 0 }
def dumping (next : Option DumpNext) (at' : Nat) : State := { base with mono := at', rcv := { base.rcv with dump := some (dump0 next) } }
theorem witness_FaultRingAndDumps :
    let u := base.wakeBlock 1
    let w (k : Nat) : Word := pack [(8, k), (2, 0), (1, 1)]
    let chip : DumpNext := { level := 4, reason := 3, unit := uPlinth }
    base.hostUp = true ∧ u.rfld rFltCfg 0 0 = 0 ∧ (u.setReg rFltCfg 1).rfld rFltCfg 0 0 = 1 ∧ u.fltReady (w 3) = false ∧ u.fltReady (w 4) = true ∧ u.fltReady (w 16) = true ∧
    u.fltReady (w 17) = false ∧ base.rcv.dump = none ∧ (dumping none 0).rcv.dump = some (dump0 none) ∧ mapFind uPlinth (dump0 none).bad = none ∧
    (dumping none 0).resetting uOu = false ∧ (dumping none 0).dumpLimit (dump0 none) = false ∧ (dumping (some chip) 10000000000).dumpLimit (dump0 (some chip)) = true ∧
    (u.setReg rFltCfg 1).fltReady (w 4) = true ∧
    base.pln.phase ≠ .por ∧ State.reset.pln.phase = .por := by decide +kernel

/-- The block in this start-up phase, begun at 0. -/
def starting (ph : Phase) (ready : Nat) (at' : Nat := 0) : State := { pln := { phase := ph, ready := ready, req := ready }, now := at' }
theorem witness_ColdStartsAndMemoryRelease :
    let m (l : List Nat) : State := { starting .memory 15 with pln := { (starting .memory 15).pln with init := l } }
    State.reset.pln.phase = .por ∧ up.pln.phase ≠ .por ∧ (starting .fuse 0).pln.phase = .fuse ∧ openPairs (Fuses.burned {} { lc := 3 }).lc = [] ∧
    openPairs (Fuses.burned {} { lc := 1 }).lc = [1] ∧ (starting .lifecycle 0).lc.job = none ∧ highPair (starting .lifecycle 0).fuse.lc = 0 ∧
    highPair ({ starting .lifecycle 0 with fuse := { lc := 1023 } } : State).fuse.lc = 5 ∧ (starting .lifecycle 0).pln.afterChip = false ∧
    up.pln.phase = .run ∧ up.pln.held = false ∧ up.pln.power ≠ 4 ∧
    ({ up with pln := { up.pln with power := 4, ready := 0 } } : State).pln.ready = 0 ∧
    0 ∈ (m [0]).pln.init ∧ (m [0]).pln.init.filter (fun x => x != 0) = [] ∧ (m [0, 1]).pln.init.filter (fun x => x != 0) ≠ [] ∧ 1 ∉ (m [0]).pln.init ∧
    (starting .fuse 0 100000).pln.phaseAt + 100000 ≤ (starting .fuse 0 100000).now ∧ ¬ (0 + 100000 ≤ (starting .fuse 0 99999).now) ∧
    (starting .image 15).loading = true ∧ (starting .image 7).loading = false := by decide +kernel

theorem witness_RungsClockAndTimestamp :
    let r (req ready : Nat) (ph : Phase) : State := { pln := { phase := ph, req := req, ready := ready } }
    let w := { r 15 7 .run with pln := { (r 15 7 .run).pln with waking := true } }
    ((r 1 0 .power).pln.held = false ∧ (r 1 0 .power).pln.req.testBit 0 = true ∧ (r 1 0 .power).pln.ready.testBit 0 = false ∧ (0 ||| 2 ^ 0) ≠ 15) ∧
    ((r 15 7 .power).pln.req.testBit 3 = true ∧ (r 15 7 .power).pln.ready.testBit 3 = false ∧ (7 ||| 2 ^ 3) = 15 ∧ (r 15 7 .image).pln.phase = .image) ∧
    w.pln.waking = true ∧ ((r 7 15 .run).pln.req.testBit 3 = false ∧ (r 7 15 .run).pln.ready.testBit 3 = true) ∧
    (r 7 7 .run).nextLower 3 = some 2 ∧ (r 0 0 .run).nextLower 0 = none ∧ (r 15 15 .run).pln.req.testBit 3 = true ∧
    ((r 15 7 .power).pln.req.testBit 3 ≠ (r 15 7 .power).pln.ready.testBit 3) ∧
    (r 15 7 .power).pln.rungAt + 50000000 ≤ ({ r 15 7 .power with now := 50000000 } : State).now ∧ (r 15 7 .power).now < 50000000 ∧
    (r 15 15 .run).pln.ready.testBit 1 = true ∧ (1149 : Nat) < 1150 ∧ ¬ ((1150 : Nat) < 1150 ∨ 2250 < 1150) ∧ ¬ (2250 < 2250) ∧ up.hostUp = true ∧
    (39 : Word).toNat < (up.wakeBlock 1).now + 40 ∧ (up.wakeBlock 1).now + 40 ≤ (40 : Word).toNat := by decide +kernel

/-- A header of an unkeyed image with an empty body but END. -/
def header0 (magic fmt len : Nat) : List Byte := toLe 4 magic ++ toLe 2 fmt ++ toLe 2 0 ++ toLe 4 len ++ List.replicate 500 0
def recOf (ty : Byte) (b : List Byte) : List Byte := [ty, 0, 0, 0] ++ toLe 4 b.length ++ b
def imaging (len : Nat) (d : List Byte) : State := { starting .image 15 with pln := { (starting .image 15).pln with image := some { len := len, digest := d, svn := 0 } } }
theorem witness_TheImageIsLoadedRecordByRecord :
    let s := starting .image 15
    let c := List.replicate 208 (0 : Byte)
    s.loading = true ∧ s.pln.image = none ∧ (header0 0x4B58494D 3 8).length = 512 ∧ s.headerFails (header0 0xFFFFFFFF 0 0) = some 0x0E ∧
    s.headerFails (header0 0x4B58494D 3 9) = some 0x08 ∧ recordOk (recOf 0 []) = true ∧ recordOk (recOf 5 []) = false ∧
    (imaging 8 []).loading = true ∧ (imaging 8 []).pln.image = some { len := 8, digest := [], svn := 0 } ∧ recordOk (recOf 1 (toLe 8 0x8C0100 ++ toLe 8 5)) = true ∧
    0 + (recOf 1 (toLe 8 0x8C0100 ++ toLe 8 5)).length + 8 ≤ 32 ∧ imageReg 0x8C0100 = true ∧ (regRow 0x8C0100).isSome = true ∧ imageReg 0x100000 = false ∧
    recordOk (recOf 3 c) = true ∧ zeroAt c 1 7 = true ∧ recordOk (recOf 4 []) = true ∧
    recordOk (recOf 2 (List.replicate 8 0 ++ table276)) = true ∧ (List.replicate 8 (0 : Byte) ++ table276).length = 1096 ∧
    (loaderCheck (List.replicate 1088 0)).isSome = true ∧ ([] ++ recOf 0 []).length = 8 := by decide +kernel
theorem witness_GoodHeader : (starting .image 15).headerFails (header0 0x4B58494D 3 8) = none := by decide +kernel
theorem witness_EndDigests : (∃ m : Image, digest (m.body ++ recOf 0 []) = m.digest ∧ (m.body ++ recOf 0 []).length = m.len) ∧
    ∃ m : Image, digest (m.body ++ recOf 0 []) ≠ m.digest ∧ (m.body ++ recOf 0 []).length = m.len := by
  refine ⟨⟨{ len := 8, digest := digest ([] ++ recOf 0 []), svn := 0 }, rfl, rfl⟩, { len := 8, digest := [], svn := 0 }, fun h => ?_, rfl⟩
  have : (digest ([] ++ recOf 0 [])).length = 0 := by rw [h]; rfl
  simp [digest, toLe] at this

/-- The entry of cabinet 2 into SLEEP, whose Step Batcher and participant 0 have not answered. -/
def entry0 (left : List Nat) : Entry := { cab := some 2, target := 2, left := left, start := 0 }
def entering (left : List Nat) (at' : Nat := 0) : State := { base with mono := at', pln := { base.pln with entries := [entry0 left] } }
theorem witness_PowerEntriesExitsAndWakes :
    let u := tookChip base rPwrResult
    let at1 := base.setCab 2 { base.cab 2 with power := 1 }
    let v (t n : Nat) : Word := pack [(16, n), (8, 1), (4, t)]
    ((entering [uBatcher]).wakeBlock 1).pln.entries ≠ [] ∧ (base.wakeBlock 1).pln.entries = [] ∧ fld (v 0 2) 6 4 = 0 ∧ fld (v 5 2) 6 4 = 5 ∧
    fld (v 1 2) 8 8 = 1 ∧ fld (pack [(4, 4)]) 8 8 = 0 ∧ (u.cab 7).st ≠ .live ∧ (u.cab 2).st = .live ∧ (u.cab 2).power < 1 ∧
    ((tookChip at1 rPwrResult).cab 2).power = 1 := by decide +kernel
theorem witness_AutomaticEntries :
    let s (p : Nat) (m : Nat) : State := { (base.setReg (rPwrCab 2) (pack [(16, 3), (0, 7)])).setCab 2 { base.cab 2 with power := p } with mono := m }
    let b (m p : Nat) : State := (s p m).setReg rPwrCfg (pack [(33, 1), (32, 1)])
    (s 0 0).frozen = false ∧ ((s 0 0).cab 2).st = .live ∧ (s 0 0).mayEnter 2 = true ∧ (s 0 0).rfld (rPwrCab 2) 15 0 = 7 ∧ (s 0 0).noWork 2 = true ∧
    ((running (command .running)).setReg (rPwrCab 2) 7).noWork 2 = false ∧ ((s 0 7000).cab 2).idleAt + 7 * 1000 ≤ (s 0 7000).mono ∧
    (s 1 0).rfld (rPwrCab 2) 31 16 = 3 ∧ ((s 1 0).cab 2).power = 1 ∧ ((s 1 3000000).cab 2).idleAt + 3 * 1000000 ≤ (s 1 3000000).mono ∧
    (b 0 1).rfld rPwrCfg 32 32 = 1 ∧ (b 0 1).pln.power = 0 ∧ (b 0 1).allAtRest 1 = true ∧ (b 0 2).allAtRest 2 = true ∧ (b 0 0).allAtRest 1 = false ∧
    base.rfld rPwrCfg 33 33 = 0 ∧ base.pln.phase = .run := by decide +kernel
theorem witness_QuiesceAnswers :
    let s (l : List Nat) (m : Nat) : State := (entering l m).setReg (rQsMap 0) (pack [(15, 1), (0, uTile 128)])
    let r := (s [uBatcher] 0).setUnitSt uBatcher { phase := .hold }
    (s [uBatcher] 0).coreUp = true ∧ (s [uBatcher] 0).entryOf (some 2) = some (entry0 [uBatcher]) ∧ answerer (.unit ⟨uBatcher, by decide⟩) ∈ (entry0 [uBatcher]).left ∧
    answerer (.port 0) ∈ (entry0 [uBatcher, 0x1000]).left ∧ (s [uBatcher] 0).mayAck (entry0 [uBatcher]) (.unit ⟨uBatcher, by decide⟩) = true ∧
    (entry0 [uBatcher]).left.filter (fun x => x != uBatcher) = [] ∧ r.qsAnswer (entry0 [uBatcher]) uBatcher = .deny 4 ∧
    (s [uBatcher, 0x1000] 0).frozen = false ∧ (entry0 [uBatcher, 0x1000]).left.map (s [uBatcher, 0x1000] 0).answererUnit = [uBatcher, uTile 128] ∧
    0 + max 1 ((s [uBatcher] 0).rfld rPwrCfg 31 0) * 1000 = 250000000 ∧ (s [uBatcher] 249999999).mono < 250000000 ∧
    250000000 ≤ (s [uBatcher] 250000000).mono := by decide +kernel
theorem witness_Wakes : up.pln.phase = .run ∧ up.pln.held = false ∧ ({ up with pln := { up.pln with held := true } } : State).pln.held = true ∧
    (up.setReg rPwrWakeAt 5).reg rPwrWakeAt ≠ 0 ∧ ((up.setReg rPwrWakeAt 5).reg rPwrWakeAt).toNat ≤ ({ up.setReg rPwrWakeAt 5 with now := 5 } : State).now ∧
    (up.setReg rPwrWakeAt 5).now < ((up.setReg rPwrWakeAt 5).reg rPwrWakeAt).toNat ∧ up.reg rPwrWakeAt = 0 := by decide +kernel

/-- The block with its I3C address. -/
def trayed (s : State) : State := { s with pln := { s.pln with addr := some 8 } }
theorem witness_TrayRequestsAreAnswered :
    let s := trayed up
    s.trayUp = true ∧ s.pln.trayBusy < 4 ∧ 4 ≤ ({ s with pln := { s.pln with trayBusy := 4 } } : State).pln.trayBusy ∧ ¬ (s.lcKnown = true ∧ s.lc.state = 5) ∧
    (({ s with lc := { s.lc with state := 5 } } : State).lcKnown = true ∧ ({ s with lc := { s.lc with state := 5 } } : State).lc.state = 5) ∧
    leAt ([2] : List Byte) 0 1 ∉ [0, 3, 4] ∧ leAt ([3] : List Byte) 0 1 ∈ [0, 3, 4] ∧ s.pln.phase = .run ∧ (trayed (starting .memory 15)).trayUp = true ∧
    (trayed (starting .memory 15)).pln.phase ≠ .run ∧ (s.wakeBlock 4).pln.power = 0 ∧ s.pln.waking = false ∧ (∀ e ∈ s.pln.entries, e.cab ≠ none) ∧
    (6 : Byte).toNat ∉ [1, 2, 3, 4, 5, 0x30, 0x31, 0x32, 0x33] ∧ (0x10 : Byte).toNat = 0x10 ∧ up.pln.phase ∉ [Phase.por, .fuse] := by decide +kernel

/-- A life-cycle job at this step of pair 1. -/
def job0 (st : BurnStep) (sectors tries : Nat) (erase dump : Bool) : LcJob :=
  { pairs := [1], step := st, sectors := sectors, tries := tries, erase := erase, dump := dump, total := sectors }
def burning (j : LcJob) (at' : Nat := 0) : State := { up with now := at', lc := { up.lc with job := some j } }
theorem witness_LifeCycleTransitionsAndBurns :
    let u := tookChip base rLcResult
    let k := { base with lc := { base.lc with state := 3 } }
    u.mix.healthy = true ∧ u.tokenReason ((u.tokenRegs ++ List.replicate 256 0).take 256) = 1 ∧ lcTarget u.lc.state 1 = true ∧ lcTarget u.lc.state 2 = false ∧
    lcTarget u.lc.state 5 = true ∧ u.lcBusy = false ∧ (tookChip (burning (job0 .first 0 0 false false)) rLcResult).lcBusy = true ∧ lcScope u.lc.state 1 = none ∧
    lcScope (tookChip k rLcResult).lc.state 4 = some 1 ∧ (tookChip k rLcResult).lc.scopeOk.testBit 1 = false ∧
    (trayed up).trayUp = true ∧ (trayed up).lcAnswer 1 = .accepted ∧ (trayed k).lcAnswer 4 = .noScope ∧ (trayed k).lcAnswer 2 = .badTarget ∧
    up.tapUp = true ∧ up.dbgLevel = some 3 ∧ (up.emit (.tap up.lc.tapOut)).lcAnswer 1 = .accepted ∧ (up.emit (.tap up.lc.tapOut)).lcAnswer 0 ≠ .accepted := by decide +kernel
theorem witness_BurnsAndErases :
    let s := burning (job0 .first 2 2 false false)
    up.lc.job = none ∧ s.lc.job = some (job0 .first 2 2 false false) ∧ (job0 .first 2 2 false false).bitNo = some 0 ∧ (job0 .second 2 2 false false).bitNo = some 1 ∧
    3 ≤ (job0 .first 2 2 false false).tries + 1 ∧ (job0 .first 2 1 false false).tries + 1 < 3 ∧ (job0 .wipe 2 0 false false).bitNo = none ∧
    (job0 .wipe 2 0 false false).sectors ≠ 0 ∧ (job0 .wipe 1 0 true false).sectors = 1 ∧ (job0 .wipe 2 0 true false).sectors ≠ 1 ∧
    (job0 .first 1 0 false false).limit = 2010000000 ∧ 0 + (job0 .first 1 0 false false).limit ≤ (burning (job0 .first 1 0 false false) 2010000000).now ∧
    (burning (job0 .first 1 0 false false) 2009999999).now < 2010000000 := by decide +kernel

theorem witness_TheTestPortFollowsItsLevel :
    let l (n : Nat) (o : Bool) : State := { base with lc := { base.lc with state := n, openField := o } }
    let w := (base.wakeBlock 1)
    base.tapUp = true ∧ State.reset.tapUp = false ∧ base.dbgLevel = some 3 ∧ (l 2 false).dbgLevel = some 1 ∧ (l 3 false).dbgLevel = some 0 ∧
    (l 3 true).dbgLevel = some 2 ∧ (l 5 false).dbgLevel = none ∧ base.coreUp = true ∧ base.hostUp = true ∧ (8 : Nat) % 8 = 0 ∧ (4 : Nat) % 8 ≠ 0 ∧
    base.stopServes .platform 0x80000000 true = true ∧ ({ base with ou := { base.ou with unitsStopped := true } } : State).stopServes .platform 0x80000000 true = false ∧
    (w.devWrite { m := .platform, unit := uPlinth } 0x80000000 (toLe 8 5)).1 = .ok () ∧
    (w.devRead { m := .platform, unit := uPlinth } 0x80000000 8).1 = .ok (List.replicate 8 0) ∧
    (match (w.devRead { m := .platform, unit := uPlinth } 0x40000000 8).1 with | .bad st _ => st | _ => 0) = stDenied := by decide +kernel

/-- The observation shelf is 16 MiB; the sampler runs every µs. -/
def observing (at' : Nat) : State :=
  { (base.setReg rOuSize 256).setReg rSmpCfg (pack [(40, 0), (32, 4), (31, 1), (0, 1)]) with now := at' }
theorem witness_ObservationAndTheGlobalStop :
    let s := observing 1039
    s.frozen = false ∧ s.resetting uOu = false ∧ s.rfld rSmpCfg 31 31 = 1 ∧ s.pln.power = 0 ∧ s.now - 1000 < 40 ∧ s.ou.smpAt ≠ some 1000 ∧
    (s.setUnitSt uOu { phase := .hold }).resetting uOu = true ∧ (s.setUnitSt uOu { phase := .hold }).frozen = false ∧
    ¬ ((observing 1040).now - 1000 < 40) ∧ (3 : Byte).toNat ≤ 4 ∧ 4 < (5 : Byte).toNat ∧
    ((base.setReg rOuSize 256).setReg rSmpCfg 0).regionFits (smpRegion (pack [(40, 0), (32, 4)])) ((base.setReg rOuSize 256).setReg rSmpCfg 0).ouRegions = true ∧
    base.regionFits (smpRegion (pack [(40, 0), (32, 4)])) base.ouRegions = false ∧
    (base.setReg rOuSize 256).regionFits (trcRegion (pack [(40, 0), (32, 4)])) (base.setReg rOuSize 256).ouRegions = true := by decide +kernel
theorem witness_GlobalStop :
    let u (t : Nat) : State := tookChip ((observing 1039).setReg 0xA00308 (BitVec.ofNat 64 t)) rStopResult
    let v (st : StopState) (now : Nat) (b : Bool) : State := { base with now := now, ou := { base.ou with stop := st, t := 5, tu := 5, unitsStopped := b } }
    ((u 3039).reg 0xA00308).toNat = (u 3039).now + 2000 ∧ ((u 3038).reg 0xA00308).toNat < (u 3038).now + 2000 ∧ (u 3039).ou.stop = .idle ∧
    (v .armed 5 false).coreUp = true ∧ (v .armed 5 false).ou.t ≤ (v .armed 5 false).now ∧ (v .armed 4 false).now < (v .armed 4 false).ou.t ∧
    (v .stopping 5 false).ou.tu ≤ 5 ∧ (v .stopping 1000005 true).ou.tu + 1000000 ≤ (v .stopping 1000005 true).now ∧ (v .stopping 5 true).portsReady = true ∧
    ({ v .stopping 5 true with fr := { base.fr with ports := [(0, { st := .up, lstate := .opened })] } } : State).portsReady = false ∧
    ((v .stopped 7005 true).setReg rStopCfg (pack [(16, 7)])).rfld rStopCfg 47 16 = 7 ∧ 5 + 7 * 1000 ≤ (v .stopped 7005 true).now ∧
    (base.setReg rStopCfg 0).rfld rStopCfg 47 16 = 0 := by decide +kernel

theorem witness_RegisterHostAndFunctionAccesses :
    let u := base.wakeBlock 1
    let h : HostAccess := { func := 0, addr := 0x80000000, len := 8, data := none }
    let x : State := { base with ou := { base.ou with unitsStopped := true } }
    base.hostUp = true ∧ u.rfld 0x10 63 63 = 0 ∧ (u.setReg 0x10 (pack [(63, 1)])).rfld 0x10 63 63 = 1 ∧ base.boundCab 2 = some 2 ∧ base.boundCab 3 = none ∧
    (4 : Nat) ≠ 8 ∧ (8 : Nat) % 8 = 0 ∧ 0x400 ≤ 0xFF8 ∧ 0xFF8 < 0x1000 ∧ State.reset.hostUp = false ∧ base.stopLets h = true ∧ x.stopLets h = false ∧
    u.hostMaster 0 = some .platform ∧ u.hostMaster 2 = some (.cab 2) ∧ u.hostMaster 3 = none ∧
    (u.devRead { m := .platform, unit := uHost } 0x80000000 8).1 = .ok (List.replicate 8 0) ∧
    (match (u.devRead { m := .cab 2, unit := uHost } 0x80000000 8).1 with | .bad _ _ => true | _ => false) = true ∧
    base.ou.unitsStopped = false ∧ (∀ e ∈ u.hg.flr, e.1 ≠ 2) ∧ u.boundCab 2 = some 2 ∧ u.boundCab 3 = none := by decide +kernel

/-! The clauses about what waits: for a queue, for its turn among the committing commands, for a unit in reset. -/

theorem witness_MovesJoinTheirChannelsQueue :
    let m := flying 0x10 .validated (bodyOf (List.replicate 24 0 ++ toLe 4 (chanHandle 1 0))) 8192
    let q (c : Chan) := (channel c (flying 0x61 .issued (bodyOf (toLe 4 (chanHandle 1 0))))).namedChan 2 5 (chanHandle 1 0)
    (m.flight 2 1 9).map (fun f => (f.op, f.gen, f.stage, f.count, leAt f.body 24 4)) = some (0x10, 2, .validated, 8192, chanHandle 1 0) ∧
    (channel { st := .idle } m).liveChan 2 5 (chanHandle 1 0) = some 0 ∧ (channel { st := .idle, dying := true } m).liveChan 2 5 (chanHandle 1 0) = none ∧
    ((flying 0x10 .running []).flight 2 1 9).map (·.stage) = some .running ∧ q { st := .idle } = some 0 ∧ q { st := .idle, gen := 2 } = none ∧
    (2, 1, 9) ∈ ({ m with me := { m.me with waits := [(2, 1, 9)] } } : State).me.waits := by decide +kernel

/-- 4,096 committing commands run. -/
def busy4096 : State := { base with ts := { base.ts with cmds := List.replicate 4096 (command .running) } }
theorem witness_CommittingCommandsWaitForTheirTurn :
    let k := exchange .combine .queued
    let t : Ticket := { ticket0 with rows := 0, returned := [0] }
    let s : State := { flying 0x21 .running [] with dce := { base.dce with cmds := [k], tickets := [t] } }
    busy4096.dceMayStart (exchange .ret .queued) = false ∧ busy4096.mayCommit = false ∧ base.mayCommit = true ∧ base.dceMayStart k = true ∧
    s.dceCmd 2 1 9 = some k ∧ k.phase = .queued ∧ (s.flight 2 1 9).isSome = true ∧ s.ticket 2 3 = some t ∧ s.dceHeld k = false := by decide +kernel

theorem witness_TableOperationsFollowEachOther :
    let o := top 0 true table276
    let r := { top 2 false [] with drawer := 3 }
    let q (st : SlotState) := tabling 0 .running [r] st
    (q .held).ft.ops.find? (fun x => x.slot == o.slot) = some r ∧ r.op = 2 ∧ r.checked = false ∧ (q .held).slotHeld 2 8 = true ∧
    (q .free).slotHeld 2 8 = false ∧ (q .free).ft.ops.length = 1 ∧ r ∈ (q .free).ft.ops ∧ r.slot = o.slot := by decide +kernel

/-- The offsets of the registers these statements write, of a block in which the Host Gate is in service or in its reset. -/
def offsets : List Nat := [rSgNcfloor 3, rFrNcfloor, rFrCfg, rPgCfg 2, rFrJob 2, rFrJob 2 + 8, 0x900088, rCsel 5, rSmpCfg, rTrcCfg, 0xA00218, 0x600018]
def hostHeld : State := base.setUnitSt uHost { phase := .hold }
theorem witness_RegistersAreReachedOrHeld : base.hostUp = true ∧ hostHeld.hostUp = true ∧ (∀ o ∈ offsets, (base.wakeBlock 1).regHeld o = false) ∧
    (∀ o ∈ offsets.take 10, (hostHeld.wakeBlock 1).regHeld o = true) ∧
    (base.wakeFor 0x410400).regHeld 0x410400 = false ∧ (hostHeld.wakeFor 0x410400).regHeld 0x410400 = true ∧
    (base.wakeCab 2 1).regHeld (rWin 2 + 0x400) = false ∧ (hostHeld.wakeCab 2 1).regHeld (rWin 2 + 0x400) = true ∧
    hostHeld.resetting uHost = true ∧ base.resetting uHost = false ∧ base.boundCab 2 = some 2 ∧ base.boundCab 3 = none ∧
    ((flying 1 .validated []).drawer 2 1).st = .live ∧ (base.drawer 2 1).st = .free ∧ ((base.setDrawer 2 1 { st := .dying }).drawer 2 1).st = .dying := by
  decide +kernel

theorem witness_NeighboursAreChecked :
    let m (p : Port) : State := { ring0 base with fr := { base.fr with ports := [(0, p)] } }
    let r := (ring0 base).setUnitSt uRouter { phase := .hold }
    (ring0 base).nodeValid (ring0 base).node = true ∧ (ring0 base).nodeValid ((ring0 base).port 0).node = true ∧ (ring0 base).neighbourOk 0 = true ∧
    (m { node := 0 }).nodeValid ((m { node := 0 }).port 0).node = true ∧ (m { node := 0 }).neighbourOk 0 = false ∧
    r.neighbourOk 0 = true ∧ r.resetting uRouter = true ∧ (ring0 base).resetting uRouter = false := by decide +kernel

theorem witness_ResetsWithinResets :
    let s (u : Nat) := { base with rcv := { base.rcv with units := [(u, { phase := .resync })] } }
    let c := aiming uTs (cabReset base 0)
    let x := aiming uTs (base.setCtx 2 5 { base.ctx 2 5 with resetting := true })
    let p : State := base.setReg (rQsMap 0) (pack [(0, uTile 128)])
    let b : State := trayed { up with pln := { up.pln with trayBusy := 4 } }
    (s uTs).frozen = false ∧ ((s uTs).unitSt uTs).phase = .resync ∧ ((s uTs).unitSt uTs).wait = [] ∧
    (∃ r ∈ c.rcv.cabResets, r.cab = 2) ∧ (c.ctx 2 5).st = .live ∧ c.ou.stop = .idle ∧ (x.ctx 2 5).resetting = true ∧ (∀ r ∈ x.rcv.cabResets, r.cab ≠ 2) ∧
    (aiming uTs { base with ou := { base.ou with stop := .armed } }).ou.stop ≠ .idle ∧
    (aiming uTs { base with ou := { base.ou with stop := .armed } }).unitExists uTs = true ∧
    p.unitExists (p.qsUnit 0) = true ∧ (base.setReg (rQsMap 0) (pack [(0, 0xF00)])).unitExists 0xF00 = false ∧ b.trayUp = true ∧ 4 ≤ b.pln.trayBusy := by
  decide +kernel

/-! ### Worked examples of the spec -/

/-- What a command answers, where that is a next state. -/
def ran (i : Instr) (s : State) : Option State := match exec i s with | .next t => some t | _ => none

/-- R498: function 2, bound to cabinet 2, reads 4 bytes at aperture offset 0x041C. -/
theorem test_blk_err_of_R498 :
    (ran (.badRegisterAccess 2 0x41C 4 false) base).map (fun t => (t.reg 0x10, t.out.head?)) =
      some (0x800210241C000004, some (.bytes (List.replicate 4 0))) := by decide +kernel

/-- R482: the second granule of cabinet 2's shelf lies in gate 1 at 8 GiB. -/
theorem test_interleave_of_R482 : base.gateOf 0x001800002000 = (1, 0x000200000000) := by decide +kernel

/-- Chapter 18: the indexed offsets it computes. -/
theorem test_indexed_offsets : rFqCfg 5 = 0x4100A8 ∧ rSgLat 11 0x101 = 0x8B2808 := by decide

/-- Chapter 03's error chain: the MOVE's error word, relayed by the WAIT. -/
theorem test_error_words_of_chapter_03 : fenceWord stIntegrity 0x903 0x1234 = 0x3903000000001234 ∧
    fenceVerdict 0x7FFFFFFFFFFFFFFF 0x3903000000001234 41 = some { status := 3, unit := some 0x903, relay := some 0x3903000000001234 } := by decide +kernel

/-- Chapter 04: record 41, of a MOVE of context 12 on read engine 3. -/
theorem test_fault_record_of_chapter_04 :
    leAt (tuRecord
               { cab := 1, f := 41, ctx := 12, page := 0x0040123, level := 0, kind := 1, write := false, unit := 0x703, written := false, writtenAt := 0,
                 since := 0 } 1 0) 0 8 = 0x00000029000C0101 := by decide +kernel

/-- Chapter 07: 32 FP32 elements to MXFP8 with E4M3 elements, and those to BF16. -/
def mx8 : List Byte := [0x7C, 0x55, 0xEB, 0x01] ++ List.replicate 28 0 ++ [0x78]
theorem test_mxfp8_of_chapter_07 :
    (writeGroup 5 false (readGroup 0 32 (toLe 4 0x40400000 ++ toLe 4 0x3DCCCCCD ++ toLe 4 0xBF333333 ++ toLe 4 0x3727C5AC ++ List.replicate 112 0))).1 = mx8 := by
  decide +kernel
theorem test_mxfp8_back_to_bf16 :
    ((writeGroup 1 false (readGroup 5 32 mx8)).1).take 10 = toLe 2 0x4040 ++ toLe 2 0x3DD0 ++ toLe 2 0xBF30 ++ toLe 2 0x3780 ++ toLe 2 0 := by decide +kernel

/-- Chapter 08: a slice of 256 rows of 4,096 BF16 elements; the places of row 37's two choices at their homes. -/
def landing8 (g : Nat) : Landing :=
  { landing0 with group := g, base := 0, h := 4096, fmt := 1, lexperts := 2, ranks := 4, cap := 256, bufs2 := true, last := [none, none] }
theorem test_slice_of_chapter_08 : (landing8 0).slice = 2105344 ∧
    ((landing8 0).tagVa 500 0 2 9, (landing8 0).rowVa 500 0 2 9, (landing8 0).tagVa 500 0 2 3, (landing8 0).rowVa 500 0 2 3) =
      (4210788, 4285504, 4210764, 4236352) := by decide +kernel

/-- Chapter 08: elements 0 to 3 of row 37 at COMBINE, BF16 rows, weights 0.5. -/
theorem test_combine_of_chapter_08 :
    let rcd := toLe 8 0 ++ (toLe 2 0 ++ [1, 0] ++ toLe 4 0x3F000000) ++ (toLe 2 2 ++ [1, 0] ++ toLe 4 0x3F000000)
    let row (j : Nat) := readGroup 1 4 (if j = 0 then toLe 2 0x3FC0 ++ toLe 2 0xBE80 ++ toLe 2 0x4000 ++ toLe 2 0x4040
      else toLe 2 0x3F00 ++ toLe 2 0x3E80 ++ toLe 2 0x7FC0 ++ toLe 2 0x3C24)
    (writeGroup 1 false (combineRow 4 2 rcd row)).1 = toLe 2 0x3F80 ++ toLe 2 0 ++ toLe 2 0x7FC0 ++ toLe 2 0x3FC1 := by decide +kernel

/-- Chapter 09: a row of 2^127 has itself as mean and root mean square, and variance 0 (eight elements stand for the 4,096). -/
theorem test_statistics_of_chapter_09 :
    statRecord (readGroup 1 8 ((List.replicate 8 (toLe 2 0x7F00)).flatten)) 0 = toLe 4 0x7F000000 ++ toLe 4 0 ++ toLe 4 0x7F000000 ++ toLe 4 0 := by decide +kernel

/-- Chapter 05's batch, with 3,000 decoding requests counted and the others as given: budget 16,384, CHUNK_MAX 8,192. -/
theorem test_batch_of_chapter_05 :
    let q (st : ReqStage) (n left : Nat) : SbReq := { live with seq := n, stage := st, left := left }
    let x := formBatch (16384 - 3000) (fun _ => 8192) [q .prefill 1 20000, q .prefill 2 5000, q .pending 3 1000, q .pending 4 40]
    (x.1.map (·.chunk), x.2 + 3000) = ([8192, 5000, 64, 40], 16376) := by decide +kernel

/-- R432: pair 2 taken, pair 3 half burned. -/
theorem test_half_burned_pair_is_completed : openPairs 0x1F = [3] ∧ highPair 0x1F = 3 ∧ openPairs 0x0F = [] ∧ highPair 0x0F = 2 := by decide

/-- R69, R82: a doorbell write to a drawer that is FREE is dropped and counted. -/
theorem test_doorbell_of_a_free_drawer :
    (ran (.doorbellWrite 2 8 8 none 0) base).map (fun t => (t.reg (rDbDrops 2), t.reg rDbGdrops)) = some (0x10000, 0x10000) := by decide +kernel

/-- A reset of the block leaves the cabinets FREE and no tile with a cabinet; `por_n` falling forgets device memory. -/
theorem test_por_assert_forgets_device_memory : (ran .porAssert (up.devPut 128 [7])).map (·.dev) = some [] := by decide +kernel

/-- R420: rung 0 is ready, and the next is requested. -/
theorem test_rung_order : (ran (.rungReady 0 true) (starting .power 0)).map (·.pln.req) = some 0 ∧
    (ran (.rungReady 0 true) { starting .power 0 with pln := { (starting .power 0).pln with req := 1 } }).map (·.pln.req) = some 3 := by decide +kernel

/-- R93: a signal below the fence's value leaves it, and is counted. -/
theorem test_lower_signal :
    let s := fenced.devPut 0x40010000 (toLe 8 9)
    (s.signalFence (latAsker 2 5) 0x10000 8).2.reg (rLatStat 2) = 0x0001000000000000 ∧
    ((s.signalFence (latAsker 2 5) 0x10000 8).2.readFence 2 5 0).1 = .ok 9 0 false 0x40010000 ∧ ((s.signalFence (latAsker 2 5) 0x10000 10).2.readFence 2 5 0).1 = .ok 10 0 false 0x40010000 := by
  decide +kernel

/-- R328: the levels of the trees of chapter 11's ranges. -/
theorem test_levels_of_chapter_11 : treeDepth 12582912 = 8 ∧ treeDepth 78643200 = 9 ∧ treeDepth 100663296 = 9 ∧ treeDepth 8 = 1 := by decide

/-- R327, R338: a first access to a 1 GiB range (six levels) fetches a metadata line and five nodes; the next finds the line and
its leaf. -/
theorem test_node_path_is_cached :
    let s := base.setCab 2 { st := .live, conf := { conf with cfg := 0x108 }, gen := 1, memFloor := 64, fabFloor := 64 }
    let w : Who := { m := .cab 2, unit := 0xD80 }
    let g := (s.gateOf 0x40010000).1
    let a := s.metaLookup g w 0x40010000
    let b := a.metaLookup g w 0x40010000
    (a.reg (rMdc g), b.reg (rMdc g)) = (0x0000000600000006, 0x0000000600000008) := by decide +kernel

end Sys2Proof.Tests
end

section
/-! PROOFS. Doorbells (R67 to R71): the conditions of R69 as propositions, in their order; the function's page that a doorbell
write reaches; and what a write does there. -/

namespace Sys2Proof.Machine

/-! ### The conditions of R69 -/

/-- Condition 2 of R69: cabinet `n` is LIVE and bound to the function. -/
abbrev State.OwnsPage (s : State) (func n : Nat) : Prop := (s.cab n).st = .live ∧ s.funcOf n = func

/-- What condition 3 of R69 excludes: the drawer is FREE or DYING. -/
abbrev Drawer.Closed (d : Drawer) : Prop := d.st = .free ∨ d.st = .dying

/-- Condition 4 of R69: with PASID_CHECK 1 the write carries the PASID of the drawer's context. -/
abbrev State.NamesContext (s : State) (n : Nat) (d : Drawer) (pasid : Option Nat) : Prop :=
  d.cfg.testBit 20 = true → pasid = some (s.ctx n d.ctx).pasid

/-- Condition 5 of R69: the new TAIL stays within the room of the descriptor ring. -/
abbrev Drawer.HasRoom (d : Drawer) (v : Word) : Prop :=
  sub32 (fld v 31 0) d.tail ≤ 2 ^ d.ringLog2 - sub32 d.tail d.head

/-- Condition 6 of R69: the new CQ_HEAD passes no record that has not been written. -/
abbrev State.RecordsDone (s : State) (n i : Nat) (v : Word) : Prop :=
  sub32 (fld v 63 32) (s.drawer n i).cqHead ≤ sub32 (s.doneLow n i % 2 ^ 32) (s.drawer n i).cqHead

section
variable {s : State} {func n i len off : Nat} {pasid : Option Nat} {v : Word}

/-- The order of R69's conditions, each as a proposition. -/
theorem doorbellFails_eq : s.doorbellFails func n i len off pasid v =
    if len ≠ 8 ∨ off % 8 ≠ 0 then some 48
    else if ¬ s.OwnsPage func n then some 0
    else if (s.drawer n i).Closed then some 16
    else if ¬ s.NamesContext n (s.drawer n i) pasid then some 0
    else if ¬ (s.drawer n i).HasRoom v then some 32
    else if ¬ s.RecordsDone n i v then some 32
    else none := by
  simp only [State.doorbellFails, Bool.or_eq_true, Bool.and_eq_true, bne_iff_ne, beq_iff_eq, ne_eq, Bool.not_and,
    Bool.not_eq_eq_eq_not, Bool.not_true, beq_eq_false_iff_ne, Decidable.not_and_iff_not_or_not, Classical.not_imp,
    ge_iff_le, Nat.not_le]

theorem doorbellFails_form (h : len ≠ 8 ∨ off % 8 ≠ 0) : s.doorbellFails func n i len off pasid v = some 48 := by
  rw [doorbellFails_eq, if_pos h]

theorem not_badForm (ha : off % 8 = 0) : ¬ ((8 : Nat) ≠ 8 ∨ off % 8 ≠ 0) := by simp [ha]

theorem doorbellFails_owner (ha : off % 8 = 0) (ho : ¬ s.OwnsPage func n) :
    s.doorbellFails func n i 8 off pasid v = some 0 := by
  rw [doorbellFails_eq, if_neg (not_badForm ha), if_pos ho]

/-- Past the first two conditions the drawer, the PASID and the two counts decide. -/
theorem doorbellFails_of_owned (ha : off % 8 = 0) (ho : s.OwnsPage func n) :
    s.doorbellFails func n i 8 off pasid v =
    if (s.drawer n i).Closed then some 16
    else if ¬ s.NamesContext n (s.drawer n i) pasid then some 0
    else if ¬ (s.drawer n i).HasRoom v then some 32
    else if ¬ s.RecordsDone n i v then some 32
    else none := by
  rw [doorbellFails_eq, if_neg (not_badForm ha), if_neg (not_not_intro ho)]

theorem doorbellFails_free (ha : off % 8 = 0) (ho : s.OwnsPage func n) (hf : (s.drawer n i).Closed) :
    s.doorbellFails func n i 8 off pasid v = some 16 := by
  rw [doorbellFails_of_owned ha ho, if_pos hf]

theorem doorbellFails_pasid (ha : off % 8 = 0) (ho : s.OwnsPage func n) (hf : ¬ (s.drawer n i).Closed)
    (hn : ¬ s.NamesContext n (s.drawer n i) pasid) : s.doorbellFails func n i 8 off pasid v = some 0 := by
  rw [doorbellFails_of_owned ha ho, if_neg hf, if_pos hn]

/-- Past the first four conditions the two counts decide, and both failures count in STALE. -/
theorem doorbellFails_of_named (ha : off % 8 = 0) (ho : s.OwnsPage func n) (hf : ¬ (s.drawer n i).Closed)
    (hn : s.NamesContext n (s.drawer n i) pasid) : s.doorbellFails func n i 8 off pasid v =
    if ¬ (s.drawer n i).HasRoom v then some 32 else if ¬ s.RecordsDone n i v then some 32 else none := by
  rw [doorbellFails_of_owned ha ho, if_neg hf, if_neg (not_not_intro hn)]

theorem doorbellFails_stale (ha : off % 8 = 0) (ho : s.OwnsPage func n) (hf : ¬ (s.drawer n i).Closed)
    (hn : s.NamesContext n (s.drawer n i) pasid) (hs : ¬ (s.drawer n i).HasRoom v ∨ ¬ s.RecordsDone n i v) :
    s.doorbellFails func n i 8 off pasid v = some 32 := by
  rw [doorbellFails_of_named ha ho hf hn]
  by_cases hr : (s.drawer n i).HasRoom v
  · rw [if_neg (not_not_intro hr), if_pos (hs.resolve_left (not_not_intro hr))]
  · rw [if_pos hr]

theorem doorbellFails_none (ha : off % 8 = 0) (ho : s.OwnsPage func n) (hf : ¬ (s.drawer n i).Closed)
    (hn : s.NamesContext n (s.drawer n i) pasid) (hr : (s.drawer n i).HasRoom v) (hd : s.RecordsDone n i v) :
    s.doorbellFails func n i 8 off pasid v = none := by
  rw [doorbellFails_of_named ha ho hf hn, if_neg (not_not_intro hr), if_neg (not_not_intro hd)]

/-! ### What a doorbell write does at its page -/

theorem doorbell_of_fails {lo : Nat} (h : s.doorbellFails func n (off / 8) len off pasid v = some lo) :
    doorbell func n off len pasid v s = s.dropDoorbell n lo := by
  simp only [doorbell, h]

/-- The drawer after an accepted doorbell (R69). -/
def Drawer.rung (d : Drawer) (v : Word) : Drawer :=
  { d with tail := fld v 31 0, cqHead := fld v 63 32, dbCount := (d.dbCount + 1) % 2 ^ 32 }

theorem doorbell_of_accepted (h : s.doorbellFails func n (off / 8) len off pasid v = none) :
    doorbell func n off len pasid v s =
      (s.setDrawer n (off / 8) ((s.drawer n (off / 8)).rung v)).wakeCab n 1 := by
  simp only [doorbell, h, Drawer.rung]

end

/-! ### Which page a write reaches (R67, R71) -/

/-- Byte `off` of the doorbell region is, for function `func`, byte `o` of cabinet `n`'s page: the platform's region holds every
page, a tenant's the page of its cabinet. -/
def State.AtPage (s : State) (func off n o : Nat) : Prop :=
  (func = 0 ∧ off = 65536 * n + o) ∨ (func ≠ 0 ∧ s.boundCab func = some n ∧ off = o)

section
variable {s : State} {func n o off len : Nat} {pasid : Option Nat} {v : Word} (hup : s.hostUp = true)
  (hres : s.resetting uHost = false)
include hup hres

theorem doorbellWrite_unbound (hf : func ≠ 0) (hb : s.boundCab func = none) :
    doorbellWrite func off len pasid v s = s.bump rDbGdrops 15 0 := by
  simp [doorbellWrite, hup, hres, hf, hb]

theorem doorbellWrite_beyond_page (hf : func ≠ 0) (hb : s.boundCab func = some n) (ho : 65536 ≤ off) :
    doorbellWrite func off len pasid v s = s := by
  simp [doorbellWrite, hup, hres, hf, hb, Nat.not_lt.mpr ho]

theorem doorbellWrite_at_page (h : s.AtPage func off n o) (ho : o < 65536) :
    doorbellWrite func off len pasid v s = doorbell func n o len pasid v s := by
  obtain ⟨rfl, rfl⟩ | ⟨hf, hb, rfl⟩ := h
  · have hn : (65536 * n + o) / 65536 = n := by omega
    have hm : (65536 * n + o) % 65536 = o := by omega
    simp [doorbellWrite, hup, hres, hn, hm]
  · simp [doorbellWrite, hup, hres, hf, hb, ho]

end

/-! ### DOORBELL_WRITE -/

theorem exec_doorbellWrite (f : Func) (off : Fin 16777216) (len : Nat) (pasid : Option Pasid) (v : Word) (s : State) :
    exec (.doorbellWrite f off len pasid v) s = .next (doorbellWrite f.val off.val len (pasid.map (·.val)) v s) := rfl

/-- Settles O17. A write that reaches a page is `doorbell` there, and the first of R69's conditions that fails, taken in order,
says which field counts it. -/
theorem doorbellsMoveOrAreCounted : Obligations.DoorbellsMoveOrAreCounted := by
  unfold Obligations.DoorbellsMoveOrAreCounted
  intro f n o off pasid v s hup hres
  refine ⟨fun hf hb len => ?unbound, fun hf hb ho len => ?beyond, fun hpage ho => ?page⟩
  case unbound =>
    rw [exec_doorbellWrite, doorbellWrite_unbound hup hres (Fin.val_ne_zero_iff.mpr hf) hb]
  case beyond =>
    rw [Idles, exec_doorbellWrite, doorbellWrite_beyond_page hup hres (Fin.val_ne_zero_iff.mpr hf) hb ho]
  case page =>
    have hat : s.AtPage f.val off.val n o := by
      simpa [State.AtPage, Fin.val_eq_zero_iff] using hpage
    have hexec (len : Nat) : exec (.doorbellWrite f off len pasid v) s =
        .next (doorbell f.val n o len (pasid.map (·.val)) v s) := by
      rw [exec_doorbellWrite, doorbellWrite_at_page hup hres hat ho]
    have hdrop (len lo : Nat) (h : s.doorbellFails f.val n (o / 8) len o (pasid.map (·.val)) v = some lo) :
        exec (.doorbellWrite f off len pasid v) s = .next (s.dropDoorbell n lo) := by
      rw [hexec, doorbell_of_fails h]
    refine ⟨fun len h => hdrop len 48 (doorbellFails_form h), fun ha hno => hdrop 8 0 (doorbellFails_owner ha hno),
      fun ha hown hf => hdrop 8 16 (doorbellFails_free ha hown hf),
      fun ha hown hf hn => hdrop 8 0 (doorbellFails_pasid ha hown hf hn),
      fun ha hown hf hn hs => hdrop 8 32 (doorbellFails_stale ha hown hf hn hs), fun ha hown hf hn hr hd => ?_⟩
    rw [hexec, doorbell_of_accepted (doorbellFails_none ha hown hf hn hr hd)]
    rfl

end Sys2Proof.Machine
end

section
/-! PROOFS. The floors of the non-cabinet masters (R300, log 104): the platform function's access to a chip-wide register, the
write of SG_NCFLOOR and of FR_NCFLOOR, and the FLOOR check against the non-cabinet sum of every gate. -/

namespace Sys2Proof.Machine

/-! ### An access of the platform function (R495, R496) -/

section
variable {s : State} {off : Nat} {v : Option Word} {f : State → State}

/-- A register that the platform function reaches takes the access in the woken block. -/
theorem platform_of_mayReach (h : s.mayReach off) : s.platform 0 off v f = f (s.wakeBlock 1) := by
  obtain ⟨hup, hfree⟩ := h
  rw [State.platform, if_pos ⟨rfl, hup⟩, State.access, hfree, if_neg Bool.false_ne_true]

theorem platform_of_tenant {func : Nat} (h : func ≠ 0) : s.platform func off v f = s := if_neg fun hp => h hp.1

end

/-! ### The non-cabinet sums of the gates -/

theorem foldl_max_le_iff {m : Nat} : ∀ {l : List Nat} {a : Nat}, l.foldl max a ≤ m ↔ a ≤ m ∧ ∀ x ∈ l, x ≤ m
  | [], a => by simp only [List.foldl_nil, List.not_mem_nil, false_implies, implies_true, and_true]
  | y :: l, a => by
    simp only [List.foldl_cons, foldl_max_le_iff (l := l), Nat.max_le, List.forall_mem_cons, and_assoc]

/-- The sum of gate `g`'s two non-cabinet floors. -/
abbrev State.ncFloorSum (s : State) (g : Nat) : Nat := s.rfld (rSgNcfloor g) 10 0 + s.rfld (rSgNcfloor g) 26 16

theorem gateNcFloor_le_iff {s : State} {m : Nat} : s.gateNcFloor ≤ m ↔ ∀ g, g < s.gateCount → s.ncFloorSum g ≤ m := by
  simp only [State.gateNcFloor, foldl_max_le_iff, Nat.zero_le, true_and, List.forall_mem_map, List.mem_range]

/-- A floor fits beside the largest non-cabinet sum exactly where it fits beside that of each gate; where no gate is installed
the floor alone has to fit. -/
theorem add_gateNcFloor_le_iff {s : State} {a m : Nat} :
    a + s.gateNcFloor ≤ m ↔ a ≤ m ∧ ∀ g, g < s.gateCount → a + s.ncFloorSum g ≤ m := by
  by_cases ha : a ≤ m
  · have h (x : Nat) : a + x ≤ m ↔ x ≤ m - a := by omega
    simp only [h, gateNcFloor_le_iff, ha, true_and]
  · have hn : ¬ a + s.gateNcFloor ≤ m := by omega
    simp only [hn, ha, false_and]

/-- The FLOOR check passes exactly where each of its four sums is at most 1,024 (R43). -/
theorem failsFloor_eq_false_iff {s : State} {n : Nat} {q : CabConf} :
    s.failsFloor n q = false ↔ q.memFloor ≤ 1024 ∧ q.fabFloor ≤ 1024 ∧
      q.memFloor + ((s.floorCabs (some n)).map CabConf.memFloor).sum + s.gateNcFloor ≤ 1024 ∧
      q.fabFloor + ((s.floorCabs (some n)).map CabConf.fabFloor).sum + s.rfld rFrNcfloor 10 0 ≤ 1024 := by
  simp only [State.failsFloor, Bool.or_eq_false_iff, decide_eq_false_iff_not, Nat.not_lt, and_assoc]

/-! ### The two writes -/

theorem exec_sgNcfloorWrite (f : Func) (g : GateId) (v : Word) (s : State) : exec (.sgNcfloorWrite f g v) s =
    .next (s.platform f.val (rSgNcfloor g.val) (some v) (ncFloor g.val v)) := rfl

theorem exec_frNcfloorWrite (f : Func) (v : Word) (s : State) : exec (.frNcfloorWrite f v) s =
    .next (s.platform f.val rFrNcfloor (some v) (frFloor v)) := rfl

theorem exec_sgNcfloorWrite_platform {s : State} {g : GateId} (v : Word) (h : s.mayReach (rSgNcfloor g.val)) :
    exec (.sgNcfloorWrite 0 g v) s = .next (ncFloor g.val v (s.wakeBlock 1)) := by
  rw [exec_sgNcfloorWrite, Fin.val_zero, platform_of_mayReach h]

theorem exec_frNcfloorWrite_platform {s : State} (v : Word) (h : s.mayReach rFrNcfloor) :
    exec (.frNcfloorWrite 0 v) s = .next (frFloor v (s.wakeBlock 1)) := by
  rw [exec_frNcfloorWrite, Fin.val_zero, platform_of_mayReach h]

/-- Settles O42. Each write is one check over the whole value in the woken block, on the sum of log 104; the FLOOR check against
the largest non-cabinet sum is the check against each gate's. -/
theorem floorWritesAreCheckedWhole : Obligations.FloorWritesAreCheckedWhole := by
  unfold Obligations.FloorWritesAreCheckedWhole
  refine ⟨fun g v s hsg hfr => ⟨?sg, ?fr, fun f hf => ?tenant⟩, fun s n q => ?check⟩
  case sg => rw [exec_sgNcfloorWrite_platform v hsg, ncFloor]
  case fr => rw [exec_frNcfloorWrite_platform v hfr, frFloor]
  case tenant =>
    have hf : f.val ≠ 0 := Fin.val_ne_zero_iff.mpr hf
    exact ⟨by rw [Idles, exec_sgNcfloorWrite, platform_of_tenant hf],
      by rw [Idles, exec_frNcfloorWrite, platform_of_tenant hf]⟩
  case check =>
    rw [failsFloor_eq_false_iff, add_gateNcFloor_le_iff]
    constructor
    · rintro ⟨hm, hf, ⟨hmem, hgates⟩, hfab⟩
      exact ⟨hm, hf, hmem, hfab, hgates⟩
    · rintro ⟨hm, hf, hmem, hfab, hgates⟩
      exact ⟨hm, hf, ⟨hmem, hgates⟩, hfab⟩

end Sys2Proof.Machine
end

section
/-! PROOFS. The urgency wires (R302 to R304): what a register's field reads after it is set, what `syncWires` notes and leaves,
the change of a wire's sampled level, and the stuck limit. -/

namespace Sys2Proof.Machine

/-! ### A field of a word after it is set -/

/-- The low 64 bits of a number hold every field below bit 64. -/
theorem bitsOf_mod_word {hi lo : Nat} (h : hi < 64) (hle : lo ≤ hi) (n : Nat) : bitsOf (n % 2 ^ 64) hi lo = bitsOf n hi lo := by
  have hsplit : 2 ^ 64 = 2 ^ lo * 2 ^ (64 - lo) := by rw [← Nat.pow_add, Nat.add_sub_cancel' (by omega)]
  rw [bitsOf, bitsOf, hsplit, Nat.mod_mul_right_div_self, Nat.mod_mod_of_dvd _ (Nat.pow_dvd_pow 2 (by omega))]

/-- A number with the field [hi:lo] taken out: the bits above it and the bits below. -/
theorem sub_bitsOf (n hi lo : Nat) : n - bitsOf n hi lo * 2 ^ lo =
    (n / 2 ^ lo / 2 ^ (hi + 1 - lo) * 2 ^ (hi + 1 - lo)) * 2 ^ lo + n % 2 ^ lo := by
  have hlow := Nat.div_add_mod' n (2 ^ lo)
  have hfield := Nat.div_add_mod' (n / 2 ^ lo) (2 ^ (hi + 1 - lo))
  have hmul := congrArg (· * 2 ^ lo) hfield
  simp only [Nat.add_mul] at hmul
  rw [bitsOf]
  omega

theorem fld_setFld_same {hi lo : Nat} (h : hi < 64) (hle : lo ≤ hi) (w : Word) (v : Nat) :
    fld (setFld w hi lo v) hi lo = v % 2 ^ (hi + 1 - lo) := by
  have hlow : w.toNat % 2 ^ lo < 2 ^ lo := Nat.mod_lt _ (Nat.two_pow_pos lo)
  rw [fld, setFld, BitVec.toNat_ofNat, bitsOf_mod_word h hle, fld, sub_bitsOf, bitsOf, Nat.add_right_comm, ← Nat.add_mul,
    Nat.mul_comm, Nat.mul_add_div (Nat.two_pow_pos lo), Nat.div_eq_of_lt hlow, Nat.add_zero, Nat.mul_add_mod', Nat.mod_mod]

theorem State.rfld_lt (s : State) (off hi lo : Nat) : s.rfld off hi lo < 2 ^ (hi + 1 - lo) := Nat.mod_lt _ (Nat.two_pow_pos _)

theorem State.rfld_setRfld_same {hi lo : Nat} (h : hi < 64) (hle : lo ≤ hi) (s : State) (off v : Nat) :
    (s.setRfld off hi lo v).rfld off hi lo = v % 2 ^ (hi + 1 - lo) := by
  rw [State.rfld, State.setRfld, State.reg_setReg_same, fld_setFld_same h hle]

/-- The wires' state is no register. -/
theorem State.rfld_setUrg (s : State) (x : UrgUnit) (off hi lo : Nat) :
    ({ s with urg := x } : State).rfld off hi lo = s.rfld off hi lo := rfl

/-! ### What `syncWires` notes (R304) -/

section
variable (s : State)

@[simp] theorem State.syncWires_since : s.syncWires.urg.since = s.urg.since := rfl
@[simp] theorem State.syncWires_dead : s.syncWires.urg.dead = s.urg.dead := rfl
@[simp] theorem State.syncWires_rfld (off hi lo : Nat) : s.syncWires.rfld off hi lo = s.rfld off hi lo := rfl
@[simp] theorem State.syncWires_wireOn (i : Nat) : s.syncWires.wireOn i = s.wireOn i := rfl

end

theorem mapFind_map_keys {α : Type} (f : Nat → α) (i : Nat) : ∀ l : List Nat,
    mapFind i (l.map fun j => (j, f j)) = if i ∈ l then some (f i) else none
  | [] => rfl
  | j :: l => by
    by_cases e : j = i
    · rw [List.map_cons, mapFind, if_pos e, if_pos (List.mem_cons.mpr (.inl e.symm)), e]
    · simp only [List.map_cons, mapFind, if_neg e, mapFind_map_keys f i l, List.mem_cons, Ne.symm e, false_or]

/-- Each wire in force keeps the moment it came in force, or takes this one; of the others nothing is noted. -/
theorem State.syncWires_force (s : State) {i : Nat} (hi : i < 32) : mapGet none i s.syncWires.urg.force =
    if s.wireOn i then some ((mapGet none i s.urg.force).getD s.mono) else none := by
  have hmem : i ∈ (List.range 32).filter s.wireOn ↔ s.wireOn i = true := by
    rw [List.mem_filter, List.mem_range, and_iff_right hi]
  rw [State.syncWires, mapGet, mapFind_map_keys _ i]
  simp only [hmem]
  split <;> rfl

/-- A wire that is treated as deasserted is not in force. -/
theorem State.wireOn_of_mem_dead {s : State} {i : Nat} (h : i ∈ s.urg.dead) : s.wireOn i = false := by
  rw [State.wireOn, List.contains_iff_mem.mpr h, Bool.not_true, Bool.and_false, Bool.false_and]

/-! ### A wire's sampled level (R303) -/

/-- LEVEL with bit `i` at a level. -/
def levelWith (i : Nat) (level : Bool) (lv : Nat) : Nat := if level then lv ||| 2 ^ i else lv - (lv &&& 2 ^ i)

theorem testBit_sub_two_pow {n i : Nat} (h : n.testBit i = true) : (n - 2 ^ i).testBit i = false := by
  have hdiv : (n - 2 ^ i) / 2 ^ i = n / 2 ^ i - 1 := by
    have hone := Nat.sub_mul_div n (2 ^ i) 1
    rwa [Nat.mul_one] at hone
  simp only [Nat.testBit_eq_decide_div_mod_eq, decide_eq_true_eq, decide_eq_false_iff_not, hdiv] at h ⊢
  omega

theorem and_two_pow_of_testBit {n i : Nat} (h : n.testBit i = true) : n &&& 2 ^ i = 2 ^ i := by
  refine Nat.eq_of_testBit_eq fun j => ?_
  rw [Nat.testBit_and, Nat.testBit_two_pow]
  by_cases e : i = j
  · rw [← e, h, Bool.true_and]
  · rw [decide_eq_false e, Bool.and_false]

theorem and_two_pow_of_not_testBit {n i : Nat} (h : n.testBit i = false) : n &&& 2 ^ i = 0 := by
  refine Nat.eq_of_testBit_eq fun j => ?_
  rw [Nat.testBit_and, Nat.testBit_two_pow, Nat.zero_testBit]
  by_cases e : i = j
  · rw [← e, h, Bool.false_and]
  · rw [decide_eq_false e, Bool.and_false]

theorem levelWith_testBit (i : Nat) (level : Bool) (lv : Nat) : (levelWith i level lv).testBit i = level := by
  cases level with
  | true => rw [levelWith, if_pos rfl, Nat.testBit_or, Nat.testBit_two_pow_self, Bool.or_true]
  | false =>
    rw [levelWith, if_neg Bool.false_ne_true]
    cases h : lv.testBit i with
    | false => rw [and_two_pow_of_not_testBit h, Nat.sub_zero, h]
    | true => rw [and_two_pow_of_testBit h, testBit_sub_two_pow h]

section
variable (i : Nat) (level : Bool) (s : State)

/-- The state in which a change of wire `i` is sampled, before the wires in force are noted. -/
def wireSampled : State :=
  let u := s.setRfld rUrgStat 31 0 (levelWith i level (s.rfld rUrgStat 31 0))
  { u with urg := { u.urg with
      since := mapSet none i (if level then some ((mapGet none i u.urg.since).getD u.mono) else none) u.urg.since
      dead := if level then u.urg.dead else u.urg.dead.filter (fun j => j != i) } }

theorem wireChange_eq : wireChange i level s = (wireSampled i level s).syncWires := rfl

theorem wireChange_since : mapGet none i (wireChange i level s).urg.since =
    if level then some ((mapGet none i s.urg.since).getD s.mono) else none := by
  rw [wireChange_eq, State.syncWires_since, wireSampled, mapGet_set_same, State.setRfld_urg, State.setRfld_mono]

theorem wireChange_dead : (wireChange i level s).urg.dead =
    if level then s.urg.dead else s.urg.dead.filter (fun j => j != i) := by
  rw [wireChange_eq, State.syncWires_dead, wireSampled, State.setRfld_urg]

variable {i}

theorem wireChange_level (hi : i < 32) : ((wireChange i level s).rfld rUrgStat 31 0).testBit i = level := by
  have h : (wireChange i level s).rfld rUrgStat 31 0 = levelWith i level (s.rfld rUrgStat 31 0) % 2 ^ 32 := by
    rw [wireChange_eq, State.syncWires_rfld, wireSampled, State.rfld_setUrg, State.rfld_setRfld_same (by decide) (by decide)]
  rw [h, Nat.testBit_mod_two_pow, levelWith_testBit, decide_eq_true hi, Bool.true_and]

theorem wireChange_force (hi : i < 32) : mapGet none i (wireChange i level s).urg.force =
    if (wireChange i level s).wireOn i then some ((mapGet none i s.urg.force).getD s.mono) else none := by
  rw [wireChange_eq, State.syncWires_wireOn, State.syncWires_force _ hi, wireSampled, State.setRfld_urg, State.setRfld_mono]

end

/-! ### The stuck limit (R304) -/

section
variable {i : Nat} {s : State}

/-- The state in which wire `i` is flagged in STUCK and treated as deasserted. -/
def wireFlagged (i : Nat) (s : State) : State :=
  let u := s.setRfld rUrgStat 63 32 (s.rfld rUrgStat 63 32 ||| 2 ^ i)
  ({ u with urg := { u.urg with dead := i :: u.urg.dead } } : State).syncWires

theorem wireStuck_of_not_noted (h : mapGet none i s.urg.force = none) : wireStuck i s = s := by
  simp only [wireStuck, h]

/-- Of a wire noted in force since `r`, the limit flags exactly one that is in force still, with a limit, and as long as it. -/
theorem wireStuck_of_noted {r : Nat} (h : mapGet none i s.urg.force = some r) : wireStuck i s =
    if s.wireOn i = true ∧ s.rfld rUrgCfg 15 0 ≠ 0 ∧ r + s.rfld rUrgCfg 15 0 * 1000 ≤ s.mono then wireFlagged i s else s := by
  simp only [wireStuck, h, Bool.and_eq_true, bne_iff_ne, decide_eq_true_eq, and_assoc]
  rfl

theorem wireFlagged_dead : (wireFlagged i s).urg.dead = i :: s.urg.dead := by
  simp only [wireFlagged, State.syncWires_dead, State.setRfld_urg]

theorem wireFlagged_wireOn : (wireFlagged i s).wireOn i = false := by
  refine State.wireOn_of_mem_dead ?_
  rw [wireFlagged_dead]
  exact List.mem_cons_self

theorem wireFlagged_stuck (hi : i < 32) : (wireFlagged i s).rfld rUrgStat 63 32 = s.rfld rUrgStat 63 32 ||| 2 ^ i := by
  have h : (wireFlagged i s).rfld rUrgStat 63 32 = (s.rfld rUrgStat 63 32 ||| 2 ^ i) % 2 ^ 32 := by
    rw [wireFlagged, State.syncWires_rfld, State.rfld_setUrg, State.rfld_setRfld_same (by decide) (by decide)]
  have hold : s.rfld rUrgStat 63 32 < 2 ^ 32 := s.rfld_lt rUrgStat 63 32
  rw [h, Nat.mod_eq_of_lt (Nat.or_lt_two_pow hold (Nat.pow_lt_pow_right (by decide) hi))]

end

/-! ### URGENCY_WIRE_CHANGE and URGENCY_STUCK -/

theorem exec_urgencyWireChange (i : Fin 32) (b : Bool) (s : State) :
    exec (.urgencyWireChange i b) s = .next (if s.coreUp then wireChange i.val b s else s) := rfl

theorem exec_urgencyStuck (i : Fin 32) (s : State) :
    exec (.urgencyStuck i) s = .next (if s.frozen then s else wireStuck i.val s) := rfl

theorem exec_urgencyStuck_running {s : State} (i : Fin 32) (h : s.frozen = false) :
    exec (.urgencyStuck i) s = .next (wireStuck i.val s) := by
  rw [exec_urgencyStuck, h, if_neg Bool.false_ne_true]

/-- Settles O43. A change of level is noted in LEVEL, `since` and `force` (in force at once, log 102, by the count of log 16);
URGENCY_STUCK flags the wire exactly at or past its limit. -/
theorem urgencyWiresGetStuckAfterTheLimit : Obligations.UrgencyWiresGetStuckAfterTheLimit := by
  unfold Obligations.UrgencyWiresGetStuckAfterTheLimit
  intro i s
  refine ⟨fun b hup => ?sampled, fun b hdown => ?down, fun hrun hnone => ?unnoted, fun r hrun hr => ⟨fun hno => ?early,
    fun hon hlim hlate => ?late⟩⟩
  case sampled =>
    exact ⟨wireChange i.val b s, by rw [exec_urgencyWireChange, if_pos hup], wireChange_since _ b s, wireChange_dead _ b s,
      wireChange_level b s i.isLt, wireChange_force b s i.isLt⟩
  case down => rw [Idles, exec_urgencyWireChange, hdown, if_neg Bool.false_ne_true]
  case unnoted => rw [Idles, exec_urgencyStuck_running i hrun, wireStuck_of_not_noted hnone]
  case early =>
    rw [Idles, exec_urgencyStuck_running i hrun, wireStuck_of_noted hr, if_neg]
    rintro ⟨hon, hlim, hlate⟩
    obtain hoff | hzero | hbefore := hno
    · exact Bool.false_ne_true (hoff.symm.trans hon)
    · exact hlim hzero
    · omega
  case late =>
    exact ⟨wireFlagged i.val s, by rw [exec_urgencyStuck_running i hrun, wireStuck_of_noted hr, if_pos ⟨hon, hlim, hlate⟩],
      wireFlagged_dead, wireFlagged_wireOn, wireFlagged_stuck i.isLt⟩

end Sys2Proof.Machine
end

section
/-! PROOFS. What every step keeps: memory in canonical form (O2) and the burned life-cycle fuse bits (O3); and the command whose
frame is wider than the list given for it (O4). -/

namespace Sys2Proof.Machine

/-! ### What every command and every step keeps -/

/-- By each command's own `kept` lemma, no field named. -/
theorem exec_kept : ∀ (c : Sys2Proof.Instr) (s t : State), exec c s = .next t → Kept 0 s t
  | .cabNop .., s, t, h => kept_execCabNop (Nat.zero_and _) (.refl _ s) t h
  | .cabBuild .., s, t, h => kept_execCabBuild (Nat.zero_and _) (.refl _ s) t h
  | .cabActivate .., s, t, h => kept_execCabActivate (Nat.zero_and _) (.refl _ s) t h
  | .cabApply .., s, t, h => kept_execCabApply (Nat.zero_and _) (.refl _ s) t h
  | .cabDestroy .., s, t, h => kept_execCabDestroy (Nat.zero_and _) (.refl _ s) t h
  | .activateComplete .., s, t, h => kept_execActivateComplete (Nat.zero_and _) (.refl _ s) t h
  | .applyComplete .., s, t, h => kept_execApplyComplete (Nat.zero_and _) (.refl _ s) t h
  | .cabinetTeardownComplete .., s, t, h => kept_execCabinetTeardownComplete (Nat.zero_and _) (.refl _ s) t h
  | .reportWindowClose, s, t, h => kept_execReportWindowClose (Nat.zero_and _) (.refl _ s) t h
  | .floorIntervalEnd .., s, t, h => kept_execFloorIntervalEnd (Nat.zero_and _) (.refl _ s) t h
  | .ctxNop .., s, t, h => kept_execCtxNop (Nat.zero_and _) (.refl _ s) t h
  | .ctxAlloc .., s, t, h => kept_execCtxAlloc (Nat.zero_and _) (.refl _ s) t h
  | .ctxFree .., s, t, h => kept_execCtxFree (Nat.zero_and _) (.refl _ s) t h
  | .contextTeardownComplete .., s, t, h => kept_execContextTeardownComplete (Nat.zero_and _) (.refl _ s) t h
  | .mobjNop .., s, t, h => kept_execMobjNop (Nat.zero_and _) (.refl _ s) t h
  | .mobjCreate .., s, t, h => kept_execMobjCreate (Nat.zero_and _) (.refl _ s) t h
  | .mobjAlias .., s, t, h => kept_execMobjAlias (Nat.zero_and _) (.refl _ s) t h
  | .mobjRelease .., s, t, h => kept_execMobjRelease (Nat.zero_and _) (.refl _ s) t h
  | .drwNop .., s, t, h => kept_execDrwNop (Nat.zero_and _) (.refl _ s) t h
  | .drwCreate .., s, t, h => kept_execDrwCreate (Nat.zero_and _) (.refl _ s) t h
  | .drwStop .., s, t, h => kept_execDrwStop (Nat.zero_and _) (.refl _ s) t h
  | .drwStart .., s, t, h => kept_execDrwStart (Nat.zero_and _) (.refl _ s) t h
  | .drwDestroy .., s, t, h => kept_execDrwDestroy (Nat.zero_and _) (.refl _ s) t h
  | .qryContext .., s, t, h => kept_execQryContext (Nat.zero_and _) (.refl _ s) t h
  | .qryCabinet .., s, t, h => kept_execQryCabinet (Nat.zero_and _) (.refl _ s) t h
  | .doorbellWrite .., s, t, h => kept_execDoorbellWrite (Nat.zero_and _) (.refl _ s) t h
  | .descriptorFetch .., s, t, h => kept_execDescriptorFetch (Nat.zero_and _) (.refl _ s) t h
  | .descriptorIssue .., s, t, h => kept_execDescriptorIssue (Nat.zero_and _) (.refl _ s) t h
  | .descriptorComplete .., s, t, h => kept_execDescriptorComplete (Nat.zero_and _) (.refl _ s) t h
  | .kernelDesc .., s, t, h => kept_execKernelDesc (Nat.zero_and _) (.refl _ s) t h
  | .layerStep .., s, t, h => kept_execLayerStep (Nat.zero_and _) (.refl _ s) t h
  | .requestDesc .., s, t, h => kept_execRequestDesc (Nat.zero_and _) (.refl _ s) t h
  | .moveDesc .., s, t, h => kept_execMoveDesc (Nat.zero_and _) (.refl _ s) t h
  | .prefetchDesc .., s, t, h => kept_execPrefetchDesc (Nat.zero_and _) (.refl _ s) t h
  | .adviseWillneed .., s, t, h => kept_execAdviseWillneed (Nat.zero_and _) (.refl _ s) t h
  | .adviseDontneed .., s, t, h => kept_execAdviseDontneed (Nat.zero_and _) (.refl _ s) t h
  | .adviseSettle .., s, t, h => kept_execAdviseSettle (Nat.zero_and _) (.refl _ s) t h
  | .adviseInvalidate .., s, t, h => kept_execAdviseInvalidate (Nat.zero_and _) (.refl _ s) t h
  | .dispatchRoute .., s, t, h => kept_execDispatchRoute (Nat.zero_and _) (.refl _ s) t h
  | .dispatchReturn .., s, t, h => kept_execDispatchReturn (Nat.zero_and _) (.refl _ s) t h
  | .dispatchLand .., s, t, h => kept_execDispatchLand (Nat.zero_and _) (.refl _ s) t h
  | .dispatchUnland .., s, t, h => kept_execDispatchUnland (Nat.zero_and _) (.refl _ s) t h
  | .combineDesc .., s, t, h => kept_execCombineDesc (Nat.zero_and _) (.refl _ s) t h
  | .tableLoadLoad .., s, t, h => kept_execTableLoadLoad (Nat.zero_and _) (.refl _ s) t h
  | .tableLoadReplace .., s, t, h => kept_execTableLoadReplace (Nat.zero_and _) (.refl _ s) t h
  | .tableLoadFree .., s, t, h => kept_execTableLoadFree (Nat.zero_and _) (.refl _ s) t h
  | .signalLocal .., s, t, h => kept_execSignalLocal (Nat.zero_and _) (.refl _ s) t h
  | .signalRemote .., s, t, h => kept_execSignalRemote (Nat.zero_and _) (.refl _ s) t h
  | .waitDesc .., s, t, h => kept_execWaitDesc (Nat.zero_and _) (.refl _ s) t h
  | .queryContext .., s, t, h => kept_execQueryContext (Nat.zero_and _) (.refl _ s) t h
  | .queryCabinet .., s, t, h => kept_execQueryCabinet (Nat.zero_and _) (.refl _ s) t h
  | .swapIn .., s, t, h => kept_execSwapIn (Nat.zero_and _) (.refl _ s) t h
  | .swapOut .., s, t, h => kept_execSwapOut (Nat.zero_and _) (.refl _ s) t h
  | .channelCreate .., s, t, h => kept_execChannelCreate (Nat.zero_and _) (.refl _ s) t h
  | .channelDestroy .., s, t, h => kept_execChannelDestroy (Nat.zero_and _) (.refl _ s) t h
  | .latNop .., s, t, h => kept_execLatNop (Nat.zero_and _) (.refl _ s) t h
  | .latArm .., s, t, h => kept_execLatArm (Nat.zero_and _) (.refl _ s) t h
  | .latRearm .., s, t, h => kept_execLatRearm (Nat.zero_and _) (.refl _ s) t h
  | .latDisarm .., s, t, h => kept_execLatDisarm (Nat.zero_and _) (.refl _ s) t h
  | .latEval .., s, t, h => kept_execLatEval (Nat.zero_and _) (.refl _ s) t h
  | .latchEvaluate .., s, t, h => kept_execLatchEvaluate (Nat.zero_and _) (.refl _ s) t h
  | .hostFencePoll .., s, t, h => kept_execHostFencePoll (Nat.zero_and _) (.refl _ s) t h
  | .starvedWaitPoll .., s, t, h => kept_execStarvedWaitPoll (Nat.zero_and _) (.refl _ s) t h
  | .waitTimeout .., s, t, h => kept_execWaitTimeout (Nat.zero_and _) (.refl _ s) t h
  | .remoteSignalTimeout .., s, t, h => kept_execRemoteSignalTimeout (Nat.zero_and _) (.refl _ s) t h
  | .walkStart .., s, t, h => kept_execWalkStart (Nat.zero_and _) (.refl _ s) t h
  | .walkComplete .., s, t, h => kept_execWalkComplete (Nat.zero_and _) (.refl _ s) t h
  | .faultRecordWrite .., s, t, h => kept_execFaultRecordWrite (Nat.zero_and _) (.refl _ s) t h
  | .faultRetry .., s, t, h => kept_execFaultRetry (Nat.zero_and _) (.refl _ s) t h
  | .faultFail .., s, t, h => kept_execFaultFail (Nat.zero_and _) (.refl _ s) t h
  | .faultTimeout .., s, t, h => kept_execFaultTimeout (Nat.zero_and _) (.refl _ s) t h
  | .tuFqEnable .., s, t, h => kept_execTuFqEnable (Nat.zero_and _) (.refl _ s) t h
  | .tuFqDisable .., s, t, h => kept_execTuFqDisable (Nat.zero_and _) (.refl _ s) t h
  | .atsCompletion .., s, t, h => kept_execAtsCompletion (Nat.zero_and _) (.refl _ s) t h
  | .prgResponse .., s, t, h => kept_execPrgResponse (Nat.zero_and _) (.refl _ s) t h
  | .atsInvalidate .., s, t, h => kept_execAtsInvalidate (Nat.zero_and _) (.refl _ s) t h
  | .withdrawalComplete .., s, t, h => kept_execWithdrawalComplete (Nat.zero_and _) (.refl _ s) t h
  | .commitByRemap .., s, t, h => kept_execCommitByRemap (Nat.zero_and _) (.refl _ s) t h
  | .shadowStallResume .., s, t, h => kept_execShadowStallResume (Nat.zero_and _) (.refl _ s) t h
  | .shadowWaitExpiry .., s, t, h => kept_execShadowWaitExpiry (Nat.zero_and _) (.refl _ s) t h
  | .settleGranule .., s, t, h => kept_execSettleGranule (Nat.zero_and _) (.refl _ s) t h
  | .sbEnable .., s, t, h => kept_execSbEnable (Nat.zero_and _) (.refl _ s) t h
  | .sbDisable .., s, t, h => kept_execSbDisable (Nat.zero_and _) (.refl _ s) t h
  | .admissionPass .., s, t, h => kept_execAdmissionPass (Nat.zero_and _) (.refl _ s) t h
  | .stepBoundary .., s, t, h => kept_execStepBoundary (Nat.zero_and _) (.refl _ s) t h
  | .batchTablesWritten .., s, t, h => kept_execBatchTablesWritten (Nat.zero_and _) (.refl _ s) t h
  | .layerCommit .., s, t, h => kept_execLayerCommit (Nat.zero_and _) (.refl _ s) t h
  | .placement .., s, t, h => kept_execPlacement (Nat.zero_and _) (.refl _ s) t h
  | .bypassLimitExpiry .., s, t, h => kept_execBypassLimitExpiry (Nat.zero_and _) (.refl _ s) t h
  | .killAck .., s, t, h => kept_execKillAck (Nat.zero_and _) (.refl _ s) t h
  | .killAckLate .., s, t, h => kept_execKillAckLate (Nat.zero_and _) (.refl _ s) t h
  | .autoSwapIn .., s, t, h => kept_execAutoSwapIn (Nat.zero_and _) (.refl _ s) t h
  | .swapLoadComplete .., s, t, h => kept_execSwapLoadComplete (Nat.zero_and _) (.refl _ s) t h
  | .swapSaveComplete .., s, t, h => kept_execSwapSaveComplete (Nat.zero_and _) (.refl _ s) t h
  | .stallEviction .., s, t, h => kept_execStallEviction (Nat.zero_and _) (.refl _ s) t h
  | .tileDone .., s, t, h => kept_execTileDone (Nat.zero_and _) (.refl _ s) t h
  | .tileProgress .., s, t, h => kept_execTileProgress (Nat.zero_and _) (.refl _ s) t h
  | .tileFatal .., s, t, h => kept_execTileFatal (Nat.zero_and _) (.refl _ s) t h
  | .tileClearAck .., s, t, h => kept_execTileClearAck (Nat.zero_and _) (.refl _ s) t h
  | .tileReadRequest .., s, t, h => kept_execTileReadRequest (Nat.zero_and _) (.refl _ s) t h
  | .tileWriteRequest .., s, t, h => kept_execTileWriteRequest (Nat.zero_and _) (.refl _ s) t h
  | .moveStart .., s, t, h => kept_execMoveStart (Nat.zero_and _) (.refl _ s) t h
  | .segmentRead .., s, t, h => kept_execSegmentRead (Nat.zero_and _) (.refl _ s) t h
  | .segmentWrite .., s, t, h => kept_execSegmentWrite (Nat.zero_and _) (.refl _ s) t h
  | .moveComplete .., s, t, h => kept_execMoveComplete (Nat.zero_and _) (.refl _ s) t h
  | .prefetchComplete .., s, t, h => kept_execPrefetchComplete (Nat.zero_and _) (.refl _ s) t h
  | .chPause .., s, t, h => kept_execChPause (Nat.zero_and _) (.refl _ s) t h
  | .chUnpause .., s, t, h => kept_execChUnpause (Nat.zero_and _) (.refl _ s) t h
  | .channelDrained .., s, t, h => kept_execChannelDrained (Nat.zero_and _) (.refl _ s) t h
  | .chStart .., s, t, h => kept_execChStart (Nat.zero_and _) (.refl _ s) t h
  | .directTransferEnd .., s, t, h => kept_execDirectTransferEnd (Nat.zero_and _) (.refl _ s) t h
  | .channelFree .., s, t, h => kept_execChannelFree (Nat.zero_and _) (.refl _ s) t h
  | .setPacket .., s, t, h => kept_execSetPacket (Nat.zero_and _) (.refl _ s) t h
  | .sealPacket .., s, t, h => kept_execSealPacket (Nat.zero_and _) (.refl _ s) t h
  | .commitPacket .., s, t, h => kept_execCommitPacket (Nat.zero_and _) (.refl _ s) t h
  | .landingCommit .., s, t, h => kept_execLandingCommit (Nat.zero_and _) (.refl _ s) t h
  | .discardPacket .., s, t, h => kept_execDiscardPacket (Nat.zero_and _) (.refl _ s) t h
  | .setrspStaged .., s, t, h => kept_execSetrspStaged (Nat.zero_and _) (.refl _ s) t h
  | .setrspCommitted .., s, t, h => kept_execSetrspCommitted (Nat.zero_and _) (.refl _ s) t h
  | .setrspRefused .., s, t, h => kept_execSetrspRefused (Nat.zero_and _) (.refl _ s) t h
  | .setrspDiscarded .., s, t, h => kept_execSetrspDiscarded (Nat.zero_and _) (.refl _ s) t h
  | .combineCompute .., s, t, h => kept_execCombineCompute (Nat.zero_and _) (.refl _ s) t h
  | .dcePeerTimeout .., s, t, h => kept_execDcePeerTimeout (Nat.zero_and _) (.refl _ s) t h
  | .tableLoaderCheck .., s, t, h => kept_execTableLoaderCheck (Nat.zero_and _) (.refl _ s) t h
  | .tableReplaceComplete .., s, t, h => kept_execTableReplaceComplete (Nat.zero_and _) (.refl _ s) t h
  | .tableFreeComplete .., s, t, h => kept_execTableFreeComplete (Nat.zero_and _) (.refl _ s) t h
  | .stackGateRequest .., s, t, h => kept_execStackGateRequest (Nat.zero_and _) (.refl _ s) t h
  | .gateGrant .., s, t, h => kept_execGateGrant (Nat.zero_and _) (.refl _ s) t h
  | .stackGateResponse .., s, t, h => kept_execStackGateResponse (Nat.zero_and _) (.refl _ s) t h
  | .groupRemixComplete .., s, t, h => kept_execGroupRemixComplete (Nat.zero_and _) (.refl _ s) t h
  | .rekeyChunkConverted .., s, t, h => kept_execRekeyChunkConverted (Nat.zero_and _) (.refl _ s) t h
  | .keyDraw .., s, t, h => kept_execKeyDraw (Nat.zero_and _) (.refl _ s) t h
  | .urgencyWireChange .., s, t, h => kept_execUrgencyWireChange (Nat.zero_and _) (.refl _ s) t h
  | .urgencyStuck .., s, t, h => kept_execUrgencyStuck (Nat.zero_and _) (.refl _ s) t h
  | .sgNcfloorWrite .., s, t, h => kept_execSgNcfloorWrite (Nat.zero_and _) (.refl _ s) t h
  | .frNcfloorWrite .., s, t, h => kept_execFrNcfloorWrite (Nat.zero_and _) (.refl _ s) t h
  | .mixRiNop .., s, t, h => kept_execMixRiNop (Nat.zero_and _) (.refl _ s) t h
  | .mixReinit .., s, t, h => kept_execMixReinit (Nat.zero_and _) (.refl _ s) t h
  | .mixReinitComplete, s, t, h => kept_execMixReinitComplete (Nat.zero_and _) (.refl _ s) t h
  | .fabricEnable .., s, t, h => kept_execFabricEnable (Nat.zero_and _) (.refl _ s) t h
  | .portEnable .., s, t, h => kept_execPortEnable (Nat.zero_and _) (.refl _ s) t h
  | .portDisable .., s, t, h => kept_execPortDisable (Nat.zero_and _) (.refl _ s) t h
  | .linkUp .., s, t, h => kept_execLinkUp (Nat.zero_and _) (.refl _ s) t h
  | .phyLossOfLink .., s, t, h => kept_execPhyLossOfLink (Nat.zero_and _) (.refl _ s) t h
  | .controlWordTimeout .., s, t, h => kept_execControlWordTimeout (Nat.zero_and _) (.refl _ s) t h
  | .flitCrcError .., s, t, h => kept_execFlitCrcError (Nat.zero_and _) (.refl _ s) t h
  | .flitRetryLimit .., s, t, h => kept_execFlitRetryLimit (Nat.zero_and _) (.refl _ s) t h
  | .discPacket .., s, t, h => kept_execDiscPacket (Nat.zero_and _) (.refl _ s) t h
  | .discTimer .., s, t, h => kept_execDiscTimer (Nat.zero_and _) (.refl _ s) t h
  | .fabricTransit .., s, t, h => kept_execFabricTransit (Nat.zero_and _) (.refl _ s) t h
  | .unreachPacket .., s, t, h => kept_execUnreachPacket (Nat.zero_and _) (.refl _ s) t h
  | .writePacket .., s, t, h => kept_execWritePacket (Nat.zero_and _) (.refl _ s) t h
  | .wackPacket .., s, t, h => kept_execWackPacket (Nat.zero_and _) (.refl _ s) t h
  | .readPacket .., s, t, h => kept_execReadPacket (Nat.zero_and _) (.refl _ s) t h
  | .rdataPacket .., s, t, h => kept_execRdataPacket (Nat.zero_and _) (.refl _ s) t h
  | .signalPacket .., s, t, h => kept_execSignalPacket (Nat.zero_and _) (.refl _ s) t h
  | .sackPacket .., s, t, h => kept_execSackPacket (Nat.zero_and _) (.refl _ s) t h
  | .abortPacket .., s, t, h => kept_execAbortPacket (Nat.zero_and _) (.refl _ s) t h
  | .abortCacheExpiry, s, t, h => kept_execAbortCacheExpiry (Nat.zero_and _) (.refl _ s) t h
  | .markerPacket .., s, t, h => kept_execMarkerPacket (Nat.zero_and _) (.refl _ s) t h
  | .ledgerPacket .., s, t, h => kept_execLedgerPacket (Nat.zero_and _) (.refl _ s) t h
  | .jobTagSet .., s, t, h => kept_execJobTagSet (Nat.zero_and _) (.refl _ s) t h
  | .jobTagClear .., s, t, h => kept_execJobTagClear (Nat.zero_and _) (.refl _ s) t h
  | .jobTxkeyFlip .., s, t, h => kept_execJobTxkeyFlip (Nat.zero_and _) (.refl _ s) t h
  | .frJobkeyWrite .., s, t, h => kept_execFrJobkeyWrite (Nat.zero_and _) (.refl _ s) t h
  | .frAbortWrite .., s, t, h => kept_execFrAbortWrite (Nat.zero_and _) (.refl _ s) t h
  | .hangDetected .., s, t, h => kept_execHangDetected (Nat.zero_and _) (.refl _ s) t h
  | .sramError .., s, t, h => kept_execSramError (Nat.zero_and _) (.refl _ s) t h
  | .engineResetHoldDone .., s, t, h => kept_execEngineResetHoldDone (Nat.zero_and _) (.refl _ s) t h
  | .engineResetLogicDone .., s, t, h => kept_execEngineResetLogicDone (Nat.zero_and _) (.refl _ s) t h
  | .engineResetResyncDone .., s, t, h => kept_execEngineResetResyncDone (Nat.zero_and _) (.refl _ s) t h
  | .searchReplayComplete .., s, t, h => kept_execSearchReplayComplete (Nat.zero_and _) (.refl _ s) t h
  | .searchClearTimer .., s, t, h => kept_execSearchClearTimer (Nat.zero_and _) (.refl _ s) t h
  | .engineResetLimitMiss .., s, t, h => kept_execEngineResetLimitMiss (Nat.zero_and _) (.refl _ s) t h
  | .rstNop .., s, t, h => kept_execRstNop (Nat.zero_and _) (.refl _ s) t h
  | .rstContext .., s, t, h => kept_execRstContext (Nat.zero_and _) (.refl _ s) t h
  | .rstEngine .., s, t, h => kept_execRstEngine (Nat.zero_and _) (.refl _ s) t h
  | .rstCabinet .., s, t, h => kept_execRstCabinet (Nat.zero_and _) (.refl _ s) t h
  | .rstChip .., s, t, h => kept_execRstChip (Nat.zero_and _) (.refl _ s) t h
  | .rstTray .., s, t, h => kept_execRstTray (Nat.zero_and _) (.refl _ s) t h
  | .rstDump .., s, t, h => kept_execRstDump (Nat.zero_and _) (.refl _ s) t h
  | .rstUnretire .., s, t, h => kept_execRstUnretire (Nat.zero_and _) (.refl _ s) t h
  | .contextResetComplete .., s, t, h => kept_execContextResetComplete (Nat.zero_and _) (.refl _ s) t h
  | .contextResetLimitMiss .., s, t, h => kept_execContextResetLimitMiss (Nat.zero_and _) (.refl _ s) t h
  | .cabinetResetDirectLimit .., s, t, h => kept_execCabinetResetDirectLimit (Nat.zero_and _) (.refl _ s) t h
  | .cabinetResetComplete .., s, t, h => kept_execCabinetResetComplete (Nat.zero_and _) (.refl _ s) t h
  | .cabinetResetLimitMiss .., s, t, h => kept_execCabinetResetLimitMiss (Nat.zero_and _) (.refl _ s) t h
  | .fltEnable .., s, t, h => kept_execFltEnable (Nat.zero_and _) (.refl _ s) t h
  | .dumpReadTimeout .., s, t, h => kept_execDumpReadTimeout (Nat.zero_and _) (.refl _ s) t h
  | .dumpComplete, s, t, h => kept_execDumpComplete (Nat.zero_and _) (.refl _ s) t h
  | .dumpLimitExpiry, s, t, h => kept_execDumpLimitExpiry (Nat.zero_and _) (.refl _ s) t h
  | .plinthWatchdogExpiry, s, t, h => kept_execPlinthWatchdogExpiry (Nat.zero_and _) (.refl _ s) t h
  | .porRise, s, t, h => kept_execPorRise (Nat.zero_and _) (.refl _ s) t h
  | .wakeN, s, t, h => kept_execWakeN (Nat.zero_and _) (.refl _ s) t h
  | .fuseLoadComplete .., s, t, h => kept_execFuseLoadComplete (Nat.zero_and _) (.refl _ s) t h
  | .lifecyclePhaseComplete, s, t, h => kept_execLifecyclePhaseComplete (Nat.zero_and _) (.refl _ s) t h
  | .lifecycleLimitMiss, s, t, h => kept_execLifecycleLimitMiss (Nat.zero_and _) (.refl _ s) t h
  | .rungReady .., s, t, h => kept_execRungReady (Nat.zero_and _) (.refl _ s) t h
  | .rungReadyLost .., s, t, h => kept_execRungReadyLost (Nat.zero_and _) (.refl _ s) t h
  | .rungTimeout .., s, t, h => kept_execRungTimeout (Nat.zero_and _) (.refl _ s) t h
  | .imageHeader .., s, t, h => kept_execImageHeader (Nat.zero_and _) (.refl _ s) t h
  | .imageRegRecord .., s, t, h => kept_execImageRegRecord (Nat.zero_and _) (.refl _ s) t h
  | .imageTableRecord .., s, t, h => kept_execImageTableRecord (Nat.zero_and _) (.refl _ s) t h
  | .imageCabinetRecord .., s, t, h => kept_execImageCabinetRecord (Nat.zero_and _) (.refl _ s) t h
  | .imageTrimRecord .., s, t, h => kept_execImageTrimRecord (Nat.zero_and _) (.refl _ s) t h
  | .imageEndRecord .., s, t, h => kept_execImageEndRecord (Nat.zero_and _) (.refl _ s) t h
  | .imageFlashTimeout .., s, t, h => kept_execImageFlashTimeout (Nat.zero_and _) (.refl _ s) t h
  | .startPhaseTimeout, s, t, h => kept_execStartPhaseTimeout (Nat.zero_and _) (.refl _ s) t h
  | .memInitDone .., s, t, h => kept_execMemInitDone (Nat.zero_and _) (.refl _ s) t h
  | .memInitFail .., s, t, h => kept_execMemInitFail (Nat.zero_and _) (.refl _ s) t h
  | .blkLockSet .., s, t, h => kept_execBlkLockSet (Nat.zero_and _) (.refl _ s) t h
  | .clockMeasure .., s, t, h => kept_execClockMeasure (Nat.zero_and _) (.refl _ s) t h
  | .plnTsLoadWrite .., s, t, h => kept_execPlnTsLoadWrite (Nat.zero_and _) (.refl _ s) t h
  | .pwrNop .., s, t, h => kept_execPwrNop (Nat.zero_and _) (.refl _ s) t h
  | .pwrEnter .., s, t, h => kept_execPwrEnter (Nat.zero_and _) (.refl _ s) t h
  | .pwrExit .., s, t, h => kept_execPwrExit (Nat.zero_and _) (.refl _ s) t h
  | .cabinetIdleTimer .., s, t, h => kept_execCabinetIdleTimer (Nat.zero_and _) (.refl _ s) t h
  | .cabinetSleepTimer .., s, t, h => kept_execCabinetSleepTimer (Nat.zero_and _) (.refl _ s) t h
  | .blockAutoIdle, s, t, h => kept_execBlockAutoIdle (Nat.zero_and _) (.refl _ s) t h
  | .blockAutoSleep, s, t, h => kept_execBlockAutoSleep (Nat.zero_and _) (.refl _ s) t h
  | .qsAck .., s, t, h => kept_execQsAck (Nat.zero_and _) (.refl _ s) t h
  | .qsDeny .., s, t, h => kept_execQsDeny (Nat.zero_and _) (.refl _ s) t h
  | .qsTimeout .., s, t, h => kept_execQsTimeout (Nat.zero_and _) (.refl _ s) t h
  | .hgWake, s, t, h => kept_execHgWake (Nat.zero_and _) (.refl _ s) t h
  | .pwrWakeAtExpiry, s, t, h => kept_execPwrWakeAtExpiry (Nat.zero_and _) (.refl _ s) t h
  | .i3cEntdaa .., s, t, h => kept_execI3cEntdaa (Nat.zero_and _) (.refl _ s) t h
  | .getInfo .., s, t, h => kept_execGetInfo (Nat.zero_and _) (.refl _ s) t h
  | .getTime .., s, t, h => kept_execGetTime (Nat.zero_and _) (.refl _ s) t h
  | .getPower .., s, t, h => kept_execGetPower (Nat.zero_and _) (.refl _ s) t h
  | .setPower .., s, t, h => kept_execSetPower (Nat.zero_and _) (.refl _ s) t h
  | .getSensors .., s, t, h => kept_execGetSensors (Nat.zero_and _) (.refl _ s) t h
  | .mctpUnsupportedCommand .., s, t, h => kept_execMctpUnsupportedCommand (Nat.zero_and _) (.refl _ s) t h
  | .tcAcknowledge .., s, t, h => kept_execTcAcknowledge (Nat.zero_and _) (.refl _ s) t h
  | .mctpRepeatTimer, s, t, h => kept_execMctpRepeatTimer (Nat.zero_and _) (.refl _ s) t h
  | .lcNop .., s, t, h => kept_execLcNop (Nat.zero_and _) (.refl _ s) t h
  | .lcChallenge .., s, t, h => kept_execLcChallenge (Nat.zero_and _) (.refl _ s) t h
  | .lcSubmit .., s, t, h => kept_execLcSubmit (Nat.zero_and _) (.refl _ s) t h
  | .lcTransition .., s, t, h => kept_execLcTransition (Nat.zero_and _) (.refl _ s) t h
  | .fuseBurnAck .., s, t, h => kept_execFuseBurnAck (Nat.zero_and _) (.refl _ s) t h
  | .flashSectorErased .., s, t, h => kept_execFlashSectorErased (Nat.zero_and _) (.refl _ s) t h
  | .tapBypass, s, t, h => kept_execTapBypass (Nat.zero_and _) (.refl _ s) t h
  | .tapIdcode, s, t, h => kept_execTapIdcode (Nat.zero_and _) (.refl _ s) t h
  | .tapLcStatus, s, t, h => kept_execTapLcStatus (Nat.zero_and _) (.refl _ s) t h
  | .tapLcChallenge, s, t, h => kept_execTapLcChallenge (Nat.zero_and _) (.refl _ s) t h
  | .tapLcToken .., s, t, h => kept_execTapLcToken (Nat.zero_and _) (.refl _ s) t h
  | .tapLcTransition .., s, t, h => kept_execTapLcTransition (Nat.zero_and _) (.refl _ s) t h
  | .tapDbgReg .., s, t, h => kept_execTapDbgReg (Nat.zero_and _) (.refl _ s) t h
  | .tapDbgMem .., s, t, h => kept_execTapDbgMem (Nat.zero_and _) (.refl _ s) t h
  | .tapPrivate k, s, t, h => kept_execTapPrivate (v0 := k) (Nat.zero_and _) (.refl _ s) t h
  | .mctpLcGet .., s, t, h => kept_execMctpLcGet (Nat.zero_and _) (.refl _ s) t h
  | .mctpLcChallenge .., s, t, h => kept_execMctpLcChallenge (Nat.zero_and _) (.refl _ s) t h
  | .mctpLcToken .., s, t, h => kept_execMctpLcToken (Nat.zero_and _) (.refl _ s) t h
  | .mctpLcTransition .., s, t, h => kept_execMctpLcTransition (Nat.zero_and _) (.refl _ s) t h
  | .sampleInstant, s, t, h => kept_execSampleInstant (Nat.zero_and _) (.refl _ s) t h
  | .sensorReading .., s, t, h => kept_execSensorReading (Nat.zero_and _) (.refl _ s) t h
  | .ouSmpEnable .., s, t, h => kept_execOuSmpEnable (Nat.zero_and _) (.refl _ s) t h
  | .ouTrcEnable .., s, t, h => kept_execOuTrcEnable (Nat.zero_and _) (.refl _ s) t h
  | .ouCselWrite .., s, t, h => kept_execOuCselWrite (Nat.zero_and _) (.refl _ s) t h
  | .ouTrcMarkWrite .., s, t, h => kept_execOuTrcMarkWrite (Nat.zero_and _) (.refl _ s) t h
  | .ouStopNop .., s, t, h => kept_execOuStopNop (Nat.zero_and _) (.refl _ s) t h
  | .ouStopSchedule .., s, t, h => kept_execOuStopSchedule (Nat.zero_and _) (.refl _ s) t h
  | .ouStopCancel .., s, t, h => kept_execOuStopCancel (Nat.zero_and _) (.refl _ s) t h
  | .ouStopResume .., s, t, h => kept_execOuStopResume (Nat.zero_and _) (.refl _ s) t h
  | .stopTimeReached, s, t, h => kept_execStopTimeReached (Nat.zero_and _) (.refl _ s) t h
  | .unitsStop, s, t, h => kept_execUnitsStop (Nat.zero_and _) (.refl _ s) t h
  | .stopCaptureComplete, s, t, h => kept_execStopCaptureComplete (Nat.zero_and _) (.refl _ s) t h
  | .stopPortRecordTimer, s, t, h => kept_execStopPortRecordTimer (Nat.zero_and _) (.refl _ s) t h
  | .stopAutoResume, s, t, h => kept_execStopAutoResume (Nat.zero_and _) (.refl _ s) t h
  | .badRegisterAccess .., s, t, h => kept_execBadRegisterAccess (Nat.zero_and _) (.refl _ s) t h
  | .registerWrite .., s, t, h => kept_execRegisterWrite (Nat.zero_and _) (.refl _ s) t h
  | .hostMemoryAccess .., s, t, h => kept_execHostMemoryAccess (Nat.zero_and _) (.refl _ s) t h
  | .hostReadCompletion .., s, t, h => kept_execHostReadCompletion (Nat.zero_and _) (.refl _ s) t h
  | .functionConfig .., s, t, h => kept_execFunctionConfig (Nat.zero_and _) (.refl _ s) t h
  | .flr .., s, t, h => kept_execFlr (Nat.zero_and _) (.refl _ s) t h
  | .dbDropsRead .., s, t, h => kept_execDbDropsRead (Nat.zero_and _) (.refl _ s) t h
  | .dbGdropsRead .., s, t, h => kept_execDbGdropsRead (Nat.zero_and _) (.refl _ s) t h
  | .latStatRead .., s, t, h => kept_execLatStatRead (Nat.zero_and _) (.refl _ s) t h
  | .latGstatRead .., s, t, h => kept_execLatGstatRead (Nat.zero_and _) (.refl _ s) t h
  | .tuGstatRead .., s, t, h => kept_execTuGstatRead (Nat.zero_and _) (.refl _ s) t h
  | .tuCstatRead .., s, t, h => kept_execTuCstatRead (Nat.zero_and _) (.refl _ s) t h
  | .sbGstatRead .., s, t, h => kept_execSbGstatRead (Nat.zero_and _) (.refl _ s) t h
  | .sbCntRead .., s, t, h => kept_execSbCntRead (Nat.zero_and _) (.refl _ s) t h
  | .tsGstatRead .., s, t, h => kept_execTsGstatRead (Nat.zero_and _) (.refl _ s) t h
  | .tsCntRead .., s, t, h => kept_execTsCntRead (Nat.zero_and _) (.refl _ s) t h
  | .tsCnt2Read .., s, t, h => kept_execTsCnt2Read (Nat.zero_and _) (.refl _ s) t h
  | .meGstatRead .., s, t, h => kept_execMeGstatRead (Nat.zero_and _) (.refl _ s) t h
  | .meCstatRead .., s, t, h => kept_execMeCstatRead (Nat.zero_and _) (.refl _ s) t h
  | .dceGstatRead .., s, t, h => kept_execDceGstatRead (Nat.zero_and _) (.refl _ s) t h
  | .dceCstatRead .., s, t, h => kept_execDceCstatRead (Nat.zero_and _) (.refl _ s) t h
  | .ftCstatRead .., s, t, h => kept_execFtCstatRead (Nat.zero_and _) (.refl _ s) t h
  | .sgStatRead .., s, t, h => kept_execSgStatRead (Nat.zero_and _) (.refl _ s) t h
  | .sgLatRead .., s, t, h => kept_execSgLatRead (Nat.zero_and _) (.refl _ s) t h
  | .sgMixstatRead .., s, t, h => kept_execSgMixstatRead (Nat.zero_and _) (.refl _ s) t h
  | .sgMdcRead .., s, t, h => kept_execSgMdcRead (Nat.zero_and _) (.refl _ s) t h
  | .sgRemixRead .., s, t, h => kept_execSgRemixRead (Nat.zero_and _) (.refl _ s) t h
  | .mixGstatRead .., s, t, h => kept_execMixGstatRead (Nat.zero_and _) (.refl _ s) t h
  | .frCntRead .., s, t, h => kept_execFrCntRead (Nat.zero_and _) (.refl _ s) t h
  | .frCnt2Read .., s, t, h => kept_execFrCnt2Read (Nat.zero_and _) (.refl _ s) t h
  | .pgCntRead .., s, t, h => kept_execPgCntRead (Nat.zero_and _) (.refl _ s) t h
  | .rcvStatRead .., s, t, h => kept_execRcvStatRead (Nat.zero_and _) (.refl _ s) t h
  | .chestStatRead .., s, t, h => kept_execChestStatRead (Nat.zero_and _) (.refl _ s) t h
  | .pwrRefuseCountRead .., s, t, h => kept_execPwrRefuseCountRead (Nat.zero_and _) (.refl _ s) t h
  | .plnTsStatRead .., s, t, h => kept_execPlnTsStatRead (Nat.zero_and _) (.refl _ s) t h
  | .ouGstatRead .., s, t, h => kept_execOuGstatRead (Nat.zero_and _) (.refl _ s) t h
  | .porAssert, s, t, h => kept_execPorAssert (Nat.zero_and _) (.refl _ s) t h

theorem dequeued_kept (s : State) (r : List Sys2Proof.Instr) : Kept 0 s { s with pending := r } :=
  keptUpd (w := 1) (s := s) (Nat.zero_and _) (by constructor <;> first | exact .inl rfl | exact .inr rfl) rfl rfl rfl (.refl _ _)

theorem step_kept {s t : State} (h : step s = .next t) : Kept 0 s t := by
  unfold step at h
  split at h
  case h_1 => exact keptNext (kept_State_tick (Nat.zero_and _) (.refl _ _)) t h
  case h_2 c r _ => exact (dequeued_kept s r).trans (exec_kept c _ t h)

/-- Settles O2. -/
theorem memoryStaysCanonical : Obligations.MemoryStaysCanonical := by
  unfold Obligations.MemoryStaysCanonical
  exact fun s t hdev hhost h => ⟨(step_kept h).devWf hdev, (step_kept h).hostWf hhost⟩

/-- Settles O3. -/
theorem burnedLifeCycleBitsStayBurned : Obligations.BurnedLifeCycleBitsStayBurned := by
  unfold Obligations.BurnedLifeCycleBitsStayBurned
  exact fun s t b hb hburned h => (step_kept h).burned b hb hburned

/-! ### A page request group's response that answers no group -/

/-- The block in RUN, with a global stop armed. -/
def stopArmed : State := { pln := { phase := .run, ready := 15 }, ou := { stop := .armed } }

/-- A response to nothing outstanding breaks the port's protocol (R473), and an armed stop defers the fault event (R463). -/
theorem exec_prgResponse_stopArmed : exec (.prgResponse 0 0) stopArmed = .next
    { stopArmed with rcv := { stopArmed.rcv with deferred := [(uHost, 6, none)] } } := by
  rfl

/-- Refutes O4: PRG_RESPONSE in a state with nothing outstanding and a stop armed adds to the fault events deferred, which are of
the recovery state, and `mayChange` does not list that piece for it. -/
theorem not_commandsChangeOnlyTheirPieces : ¬ Obligations.CommandsChangeOnlyTheirPieces := by
  unfold Obligations.CommandsChangeOnlyTheirPieces
  rintro ⟨hframe, -, -⟩
  have hrcv : ({ stopArmed.rcv with deferred := [(uHost, 6, none)] } : RcvUnit) = stopArmed.rcv :=
    hframe _ _ _ exec_prgResponse_stopArmed .rcv (by decide)
  exact absurd (congrArg RcvUnit.deferred hrcv) (by decide)

/-! ### A step -/

/-- Settles O1. -/
theorem stepRunsTheFrontCommand : Obligations.StepRunsTheFrontCommand := by
  unfold Obligations.StepRunsTheFrontCommand
  refine ⟨fun c r s h => ?front, fun s h => ?idle⟩
  case front => simp only [step, h]
  case idle => simp only [step, h, State.tick]

/-- Two choices agree when their conditions are equivalent and their branches agree. -/
theorem ite_of_iff {α : Type _} {b c : Prop} [Decidable b] [Decidable c] {x y u v : α}
    (h : b ↔ c) (ht : x = u) (he : y = v) : (if b then x else y) = if c then u else v :=
  ite_congr (propext h) (fun _ => ht) (fun _ => he)

end Sys2Proof.Machine
end

section
/-! PROOFS. Which commands stop, and how (O6): the operand lists that no port carries fault, a TAP code of the scan chains at OPEN_ALL is
refused, and everything else answers a next state. -/

namespace Sys2Proof.Machine

/-- How a command ends: it answers a next state, or it is ill-formed and faults by its name, or it is a TAP code behind which
the scan chains lie open. -/
inductive Outcomes (c : Sys2Proof.Instr) (s : State) : Prop
  | answers (t : State) (h : exec c s = .next t)
  | illFormed (name : String) (hwf : c.wf = false) (h : exec c s = .fault (.illFormed name))
  | scanChain (k : Fin 16) (hc : c = .tapPrivate k) (hopen : (s.tapUp && s.dbgLevel == some 3) = true)
      (h : exec c s = .refused .scanChain)

section
variable (s : State) (t : Sys2Proof.TileId) (va len : Nat) (mask : List Bool) (data : List Sys2Proof.Byte) (tag : Fin 1024)
  (remote : Option (Fin 65536)) (g : Sys2Proof.GateId) (m : Sys2Proof.Master) (u : Sys2Proof.UnitId) (x : Option Sys2Proof.CtxId)
  (a : Nat) (d : Option (List Sys2Proof.Byte)) (k : Fin 16)

theorem exec_tileReadRequest_illFormed (h : tileReadWf va len = false) :
    exec (.tileReadRequest t va len tag remote) s = .fault (.illFormed "TILE_READ_REQUEST") :=
  if_neg (ne_true_of_eq_false h)

theorem exec_tileWriteRequest_illFormed (h : tileWriteWf va mask data = false) :
    exec (.tileWriteRequest t va mask data tag remote) s = .fault (.illFormed "TILE_WRITE_REQUEST") :=
  if_neg (ne_true_of_eq_false h)

theorem exec_stackGateRequest_illFormed (h : gateReqWf m a len d = false) :
    exec (.stackGateRequest g m u x a len d) s = .fault (.illFormed "STACK_GATE_REQUEST") :=
  if_neg (ne_true_of_eq_false h)

theorem exec_tapPrivate_open (h : (s.tapUp && s.dbgLevel == some 3) = true) : exec (.tapPrivate k) s = .refused .scanChain :=
  if_pos h

theorem outcomes_tileReadRequest : Outcomes (.tileReadRequest t va len tag remote) s := by
  cases h : tileReadWf va len with
  | true => exact .answers _ (if_pos h)
  | false => exact .illFormed _ h (exec_tileReadRequest_illFormed s t va len tag remote h)

theorem outcomes_tileWriteRequest : Outcomes (.tileWriteRequest t va mask data tag remote) s := by
  cases h : tileWriteWf va mask data with
  | true => exact .answers _ (if_pos h)
  | false => exact .illFormed _ h (exec_tileWriteRequest_illFormed s t va mask data tag remote h)

theorem outcomes_stackGateRequest : Outcomes (.stackGateRequest g m u x a len d) s := by
  cases h : gateReqWf m a len d with
  | true => exact .answers _ (if_pos h)
  | false => exact .illFormed _ h (exec_stackGateRequest_illFormed s len g m u x a d h)

theorem outcomes_tapPrivate : Outcomes (.tapPrivate k) s := by
  cases h : (s.tapUp && s.dbgLevel == some 3) with
  | true => exact .scanChain k rfl h (exec_tapPrivate_open s k h)
  | false => exact .answers _ (if_neg (ne_true_of_eq_false h))

end

theorem exec_outcomes (c : Sys2Proof.Instr) (s : State) : Outcomes c s := by
  cases c
  case tileReadRequest => exact outcomes_tileReadRequest ..
  case tileWriteRequest => exact outcomes_tileWriteRequest ..
  case stackGateRequest => exact outcomes_stackGateRequest ..
  case tapPrivate => exact outcomes_tapPrivate ..
  case discPacket port _ => cases port <;> exact .answers _ rfl
  case markerPacket port _ => cases port <;> exact .answers _ rfl
  case ledgerPacket port _ => cases port <;> exact .answers _ rfl
  all_goals exact .answers _ rfl

/-- Settles O6. -/
theorem everyWellFormedCommandCompletes : Obligations.EveryWellFormedCommandCompletes := by
  unfold Obligations.EveryWellFormedCommandCompletes
  refine ⟨fun c s hwf hopen => ?completes, fun t va len g r s h => ?_, fun t va m d g r s h => ?_, fun g m u x a len d s h => ?_,
    fun k s hup hlevel => ?_, fun c s f h => ?faults⟩
  case completes =>
    cases exec_outcomes c s with
    | answers t h => exact ⟨t, h⟩
    | illFormed _ h => exact absurd (hwf.symm.trans h) (by decide)
    | scanChain k hc h => exact absurd ((hopen k hc).symm.trans h) (by decide)
  · exact exec_tileReadRequest_illFormed s t va len g r h
  · exact exec_tileWriteRequest_illFormed s t va m d g r h
  · exact exec_stackGateRequest_illFormed s len g m u x a d h
  · exact exec_tapPrivate_open s k (by simp [hup, hlevel])
  case faults =>
    cases exec_outcomes c s with
    | answers t h' => exact absurd (h.symm.trans h') nofun
    | illFormed _ hwf => exact hwf
    | scanChain k _ _ h' => exact absurd (h.symm.trans h') nofun

end Sys2Proof.Machine
end

section
/-! PROOFS. Accesses of functions that do not reach a register (O7; R12, R20, R496). -/

namespace Sys2Proof.Machine

variable {s : State} {c : Sys2Proof.Instr} {func n off : Nat} {v : Option Word} {g : State → State}

theorem State.platform_unreached (h : ¬ (func = 0 ∧ s.hostUp = true)) : s.platform func off v g = s := if_neg h

theorem State.operate_unreached (h : s.mayOperate func n = false) :
    s.operate func n off v g = if s.hostUp = true ∧ func = 0 then s.wakeBlock 1 else s := by
  simp only [State.operate, h, Bool.false_eq_true, if_false, Bool.and_eq_true, beq_iff_eq]

/-- A command that is a platform function's access idles for another function, and before release. -/
theorem idles_of_platform (e : exec c s = .next (s.platform func off v g)) (h : ¬ (func = 0 ∧ s.hostUp = true)) : Idles c s :=
  e.trans (congrArg _ (State.platform_unreached h))

/-- A command of a cabinet's window acts only from a function that reaches the LIVE cabinet. -/
theorem exec_of_operate (e : exec c s = .next (s.operate func n off v g)) (h : s.mayOperate func n = false) :
    exec c s = .next (if s.hostUp = true ∧ func = 0 then s.wakeBlock 1 else s) :=
  e.trans (congrArg _ (State.operate_unreached h))

theorem not_platform {f : Sys2Proof.Func} (h : f ≠ 0 ∨ s.hostUp = false) : ¬ (f.val = 0 ∧ s.hostUp = true) := by
  rintro ⟨hf, hup⟩
  rcases h with h | h
  · exact h (Fin.ext hf)
  · exact absurd (hup.symm.trans h) (by decide)

/-- Settles O7. -/
theorem onlyTheReachingFunctionCommands : Obligations.OnlyTheReachingFunctionCommands := by
  unfold Obligations.OnlyTheReachingFunctionCommands
  refine ⟨fun f s n v i g p k j h => ?chip, fun f s n x i l h => ?window⟩
  case chip =>
    have hf := not_platform h
    simp only [List.forall_mem_cons, List.not_mem_nil, false_implies, implies_true, and_true]
    and_intros
    all_goals exact idles_of_platform rfl hf
  case window =>
    simp only [List.forall_mem_cons, List.not_mem_nil, false_implies, implies_true, and_true]
    have hfunc : f.val = 0 ↔ f = 0 := ⟨fun h => Fin.ext h, congrArg _⟩
    simp only [← hfunc]
    and_intros
    all_goals exact exec_of_operate rfl h


end Sys2Proof.Machine
end

section
/-! PROOFS. The block's own records (fault ring, trace ring) are charged to masters that are no cabinet: writing them changes no
cabinet, context or drawer. What waking the block or a cabinet leaves of them. -/

namespace Sys2Proof.Machine

/-- Cabinets, contexts, objects and drawers are the same in both states. -/
structure CabsKept (s t : State) : Prop where
  cabs : t.cabs = s.cabs
  drw : t.drw = s.drw

namespace CabsKept

theorem refl (s : State) : CabsKept s s := ⟨rfl, rfl⟩

theorem trans {s t u : State} (h : CabsKept s t) (k : CabsKept t u) : CabsKept s u := ⟨k.cabs.trans h.cabs, k.drw.trans h.drw⟩

/-- An operation whose mask names neither field. -/
theorem of_kept {s t : State} (h : Kept 1536 s t) : CabsKept s t := ⟨h.cabs (by decide), h.drw (by decide)⟩

theorem of_eq {s t u : State} (hc : t.cabs = s.cabs) (hd : t.drw = s.drw) (k : CabsKept t u) : CabsKept s u := trans ⟨hc, hd⟩ k

theorem ite {c : Prop} [Decidable c] {s t u : State} (h : CabsKept s t) (k : CabsKept s u) : CabsKept s (if c then t else u) := by
  split <;> assumption

theorem foldl {α : Type} {f : State → α → State} (hf : ∀ s x, CabsKept s (f s x)) (l : List α) (s : State) :
    CabsKept s (l.foldl f s) := by
  induction l generalizing s with
  | nil => exact refl s
  | cons x r ih => exact (hf s x).trans (ih _)

theorem cab {s t : State} (h : CabsKept s t) (n : Nat) : t.cab n = s.cab n := by rw [State.cab, State.cab, h.cabs]

theorem ctx {s t : State} (h : CabsKept s t) (n c : Nat) : t.ctx n c = s.ctx n c := by rw [State.ctx, State.ctx, h.drw]

theorem drawer {s t : State} (h : CabsKept s t) (n i : Nat) : t.drawer n i = s.drawer n i := by
  rw [State.drawer, State.drawer, h.drw]

end CabsKept

/-! ### Own records -/

/-- A master that is no cabinet. -/
def Master.IsBlock (m : Sys2Proof.Master) : Prop := ∀ n, m ≠ .cab n

theorem charge_cabsKept {w : Who} (hm : Master.IsBlock w.m) (s : State) (g l : Nat) : CabsKept s (s.charge g w l) := by
  unfold State.charge
  extract_lets v n pace t
  have ht : CabsKept s t := ⟨rfl, rfl⟩
  split
  case h_1 n hn => exact absurd hn (hm n)
  case h_2 => exact ht

theorem noteDenied_cabsKept {m : Sys2Proof.Master} (hm : Master.IsBlock m) (s : State) (g : Nat) (w : Bool) (p : Nat) :
    CabsKept s (s.noteDenied g m w p) := by
  unfold State.noteDenied
  extract_lets t u
  have ht : CabsKept s t := .of_kept (kept_State_bump (by decide) (.refl _ _))
  have hu : CabsKept s u := .ite ht (ht.trans (.of_kept (kept_State_setReg (by decide) (.refl _ _))))
  split
  case h_1 n => exact absurd rfl (hm n)
  case h_2 => exact hu

theorem ownWrite_cabsKept {m : Sys2Proof.Master} (hm : Master.IsBlock m) (s : State) (unit p : Nat) (bs : List Sys2Proof.Byte) :
    CabsKept s (s.ownWrite m unit p bs).2.2 := by
  unfold State.ownWrite
  split
  · exact .refl s
  · split
    · exact noteDenied_cabsKept hm ..
    · exact .of_kept (kept_State_bump (by decide) (kept_State_tally (by decide) (.refl _ _)))
    · extract_lets t part
      have ht : CabsKept s t := .foldl (fun s i => charge_cabsKept (w := { m := m, unit := unit }) hm ..) _ s
      exact ht.trans ⟨rfl, rfl⟩

theorem ringPut_cabsKept (s : State) (host : Bool) (p : Nat) (bs : List Sys2Proof.Byte) : CabsKept s (s.ringPut host p bs).2 := by
  unfold State.ringPut
  split
  · split
    next h => exact .of_kept (keptPair2 h (kept_State_hostWrite (by decide) (.refl _ _)))
    next h => exact .of_kept (keptPair2 h (kept_State_hostWrite (by decide) (.refl _ _)))
  · extract_lets r
    have hr : CabsKept s r.2.2 := ownWrite_cabsKept (fun n h => by cases h) ..
    exact .ite (hr.trans ⟨rfl, rfl⟩) hr

theorem bump_cabsKept (s : State) (r a b : Nat) : CabsKept s (s.bump r a b) := ⟨State.bump_cabs, State.bump_drw⟩

theorem ringPut_pair {s t : State} {host b : Bool} {p : Nat} {bs : List Sys2Proof.Byte} (h : s.ringPut host p bs = (b, t)) :
    CabsKept s t := by
  have := ringPut_cabsKept s host p bs
  rwa [h] at this

theorem ringRecord_cabsKept (s : State) (e : FaultEv) : CabsKept s (s.ringRecord e) := by
  unfold State.ringRecord
  extract_lets c log2 f
  split
  · exact .refl s
  split
  · exact bump_cabsKept ..
  split
  next t h => exact (ringPut_pair h).trans (bump_cabsKept ..)
  next t h =>
    extract_lets _ u
    have hu : CabsKept s u := (ringPut_pair h).trans ⟨State.setRfld_cabs, State.setRfld_drw⟩
    split
    · exact hu
    · split
      next v k => exact hu.trans (ringPut_pair k)
      next v k => exact (hu.trans (ringPut_pair k)).trans (bump_cabsKept ..)

theorem ouRecord_cabsKept (s : State) (cfg head stat f size : Nat) (rcd : Nat → List Sys2Proof.Byte) :
    CabsKept s (s.ouRecord cfg head stat f size rcd).1 := by
  have own (base : Nat) (bs : List Sys2Proof.Byte) {q : Option Nat} {b : Bool} {t : State}
      (h : s.ownWrite .observe uOu base bs = (q, b, t)) : CabsKept s t := by
    have := ownWrite_cabsKept (m := .observe) (fun n h => by cases h) s uOu base bs
    rwa [h] at this
  unfold State.ouRecord
  extract_lets c log2 full base
  split
  · exact bump_cabsKept ..
  split
  next t h =>
    exact ((own _ _ h).trans (.ite (bump_cabsKept ..) (.refl _))).trans (.of_kept (kept_State_setRfld (by decide) (.refl _ _)))
  next t h => exact ((own _ _ h).trans (ringRecord_cabsKept ..)).trans (bump_cabsKept ..)
  next t h => exact (own _ _ h).trans (bump_cabsKept ..)

theorem trace_cabsKept (s : State) (ev unit : Nat) (cab ctx : Option Nat) (a0 a1 : Nat) :
    CabsKept s (s.trace ev unit cab ctx a0 a1) := by
  unfold State.trace
  extract_lets c f r
  have hr : CabsKept s r.1 := ouRecord_cabsKept ..
  exact .ite (.ite (bump_cabsKept ..) (.ite (hr.trans ⟨rfl, rfl⟩) hr)) (.refl s)

theorem traceStop_cabsKept (s : State) : CabsKept s s.traceStop := trace_cabsKept ..

theorem stopTrigger_cabsKept (s : State) (b : Nat) : CabsKept s (s.stopTrigger b) := by
  unfold State.stopTrigger
  split
  · split
    · refine CabsKept.of_eq ?_ ?_ (traceStop_cabsKept _) <;> rfl
    · exact bump_cabsKept ..
  · exact .refl s

theorem faultEvent_cabsKept (s : State) (e : FaultEv) : CabsKept s (s.faultEvent e) := by
  unfold State.faultEvent
  extract_lets t u
  have hu : CabsKept s u := (ringRecord_cabsKept ..).trans (trace_cabsKept ..)
  exact .ite (hu.trans (stopTrigger_cabsKept ..)) hu

/-! ### Waking -/

theorem blockState_cabsKept (s : State) (p : Nat) : CabsKept s (s.blockState p) := by
  unfold State.blockState
  extract_lets _ t
  have ht : CabsKept s t := ⟨rfl, rfl⟩
  exact (ht.trans (trace_cabsKept ..)).trans ⟨State.sendTray_cabs, State.sendTray_drw⟩

theorem abortEntry_cabsKept (s : State) (e : Entry) (unit reason : Nat) : CabsKept s (s.abortEntry e unit reason) :=
  .of_kept (kept_State_abortEntry (by decide) (.refl _ _))

theorem wakeBlock_cabsKept (s : State) (src : Nat) : CabsKept s (s.wakeBlock src) := by
  unfold State.wakeBlock
  extract_lets t _ u
  have ht : CabsKept s t := .foldl (fun s e => abortEntry_cabsKept ..) _ s
  have hu : CabsKept s u := ht.trans ⟨rfl, rfl⟩
  exact .ite (ht.trans (blockState_cabsKept ..))
    (.ite (.ite (hu.trans (.of_kept (kept_State_raiseRung (by decide) (.refl _ _)))) hu) ht)

/-- Waking a cabinet leaves everything of it but its power state and its idle time. -/
theorem wakeCab_cab (s : State) (n src : Nat) :
    ∃ t, (s.wakeCab n src).cab n = { s.cab n with power := 0, idleAt := t } := by
  unfold State.wakeCab
  extract_lets a c b
  have ha : CabsKept s a := .foldl (fun s e => abortEntry_cabsKept ..) _ s
  have hb : b.cab n = { s.cab n with power := 0, idleAt := a.mono } := by
    have := (wakeBlock_cabsKept (a.setCab n { c with power := 0, idleAt := a.mono }) src).cab n
    rw [State.cab_setCab_same] at this
    rw [← ha.cab n]
    exact this
  refine ⟨a.mono, ?_⟩
  split
  · exact hb
  · rw [(trace_cabsKept ..).cab n, ← hb]
    rfl

theorem wakeCab_st (s : State) (n src : Nat) : ((s.wakeCab n src).cab n).st = (s.cab n).st := by
  obtain ⟨t, h⟩ := wakeCab_cab s n src
  rw [h]

end Sys2Proof.Machine
end

section
/-! PROOFS. The registers whose read clears (O8; R13, R493): a stored RC register is taken whole, by the platform function and, in
a window, by the function that reaches the cabinet. -/

namespace Sys2Proof.Machine

/-! ### A stored RC register -/

/-- The row of an aligned offset has RC bits, and these are they. -/
abbrev ClearsOnRead (off rc : Nat) : Prop := off % 8 = 0 ∧ rc ≠ 0 ∧ (regRow off).map RegRow.rc = some rc


variable {off rc : Nat}

theorem readReg_of_stored {s : State} (h : ClearsOnRead off rc) (hv : s.view off = none) : s.readReg off = s.reg off := by
  obtain ⟨halign, -, hrow⟩ := h
  obtain ⟨r, hr, -⟩ := Option.map_eq_some_iff.mp hrow
  simp [State.readReg, halign, hv, hr]

theorem afterRead_of_stored {s : State} (h : ClearsOnRead off rc) (hv : s.view off = none) :
    s.afterRead off = s.setReg off (s.reg off &&& ~~~ BitVec.ofNat 64 rc) := by
  obtain ⟨-, hrc, hrow⟩ := h
  obtain ⟨r, hr, rfl⟩ := Option.map_eq_some_iff.mp hrow
  simp [State.afterRead, hv, hr, hrc, readClears]

/-- Taking a stored RC register: its data goes out, its RC bits are cleared. -/
theorem takeReg_of_stored {s : State} (h : ClearsOnRead off rc) (hv : ∀ o, (s.emit o).view off = none) (hv' : s.view off = none) :
    s.takeReg off = (s.emit (.read (s.reg off))).setReg off (s.reg off &&& ~~~ BitVec.ofNat 64 rc) := by
  rw [State.takeReg, readReg_of_stored h hv', afterRead_of_stored h (hv _)]
  rfl

theorem access_of_free {s : State} {a : HeldAccess} {g : State → State} (h : s.regHeld off = false) : s.access off a g = g s :=
  if_neg (ne_true_of_eq_false h)

theorem access_of_held {s : State} {a : HeldAccess} {g : State → State} (h : s.regHeld off = true) :
    s.access off a g = { s with hg := { s.hg with regs := s.hg.regs ++ [a] } } := if_pos h

/-- A chip-wide RC register that no unit shows otherwise is a counter register. -/
theorem takesCounter_of {c : Sys2Proof.Func → Sys2Proof.Instr} (e : ∀ f s, exec (c f) s = readPlatform f.val off s)
    (h : ClearsOnRead off rc) (hv : ∀ s : State, s.view off = none) : TakesCounter c off rc := by
  intro s u
  refine ⟨fun hup hfree => ?_, fun hup hheld => ?_, fun f hf => ?_⟩
  · rw [e, readPlatform, State.platform, if_pos ⟨rfl, hup⟩, access_of_free hfree, takeReg_of_stored h (fun _ => hv _) (hv _)]
  · rw [e, readPlatform, State.platform, if_pos ⟨rfl, hup⟩, access_of_held hheld]
    rfl
  · rw [e, readPlatform, State.platform_unreached (not_platform hf)]

/-! ### Which RC registers are stored: no unit shows them otherwise -/

section
variable (s : State) (n : Nat)

theorem view_mega4 (h : off / 0x100000 = 4) : s.view off = s.viewTu off := by simp only [State.view, h]; rfl
theorem view_mega5 (h : off / 0x100000 = 5) : s.view off = s.viewSbTs off := by simp only [State.view, h]; rfl
theorem view_mega6 (h : off / 0x100000 = 6) : s.view off = s.viewMe off := by simp only [State.view, h]; rfl
theorem view_mega7 (h : off / 0x100000 = 7) : s.view off = s.viewDce off := by simp only [State.view, h]; rfl
theorem view_mega8 (h : off / 0x100000 = 8) : s.view off = s.viewMix off := by simp only [State.view, h]; rfl
theorem view_mega9 (h : off / 0x100000 = 9) : s.view off = s.viewFab off := by simp only [State.view, h]; rfl

theorem view_tuCstat (h : n < 256) : s.view (rTuCstat n) = none := by
  unfold rTuCstat
  rw [view_mega4 s (by omega)]
  exact if_neg (by omega)

theorem view_sbCnt (h : n < 256) : s.view (rSbCnt n) = none := by
  unfold rSbCnt
  rw [view_mega5 s (by omega), State.viewSbTs, if_pos (by omega)]
  have ho : (0x510028 + n * 0x40) % 0x40 = 0x28 := by omega
  simp [ho]

theorem view_tsCnt (h : n < 256) : s.view (rTsCnt n) = none := by
  unfold rTsCnt
  rw [view_mega5 s (by omega), State.viewSbTs, if_neg (by omega), if_neg (by omega), if_neg (by omega), if_neg (by omega)]

theorem view_tsCnt2 (h : n < 256) : s.view (rTsCnt2 n) = none := by
  unfold rTsCnt2
  rw [view_mega5 s (by omega), State.viewSbTs, if_neg (by omega), if_neg (by omega), if_neg (by omega), if_neg (by omega)]

theorem view_meCstat (h : n < 256) : s.view (rMeCstat n) = none := by
  unfold rMeCstat
  rw [view_mega6 s (by omega), State.viewMe, if_neg (by omega), if_neg (by omega)]

theorem view_dceCstat (h : n < 256) : s.view (rDceCstat n) = none := by
  unfold rDceCstat
  rw [view_mega7 s (by omega), State.viewDce, if_neg (by omega), if_neg (by omega), if_neg (by omega), if_neg (by omega)]

theorem view_ftCstat (h : n < 256) : s.view (rFtCstat n) = none := by
  unfold rFtCstat
  rw [view_mega7 s (by omega), State.viewDce, if_neg (by omega), if_neg (by omega), if_neg (by omega), if_neg (by omega)]

/-- Of a gate's registers only the floor sum, at 0x20, is shown by the unit. -/
theorem view_gate {g o : Nat} (hg : g < 12) (ho : o < 0x10000) (hne : o ≠ 0x20) : s.view (0x800000 + o + g * 0x10000) = none := by
  rw [view_mega8 s (by omega), State.viewMix, if_neg (by omega), if_neg (by omega), if_neg (by omega)]

theorem view_pgCnt (p : Nat) (h : p < 48) : s.view (rPgCnt p) = none := by
  unfold rPgCnt
  rw [view_mega9 s (by omega), State.viewFab, if_neg (by omega), if_neg (by omega), if_pos (by omega)]
  have ho : (0x901010 + p * 0x1000) % 0x1000 = 0x10 := by omega
  rw [ho]
  rfl

theorem view_window {o : Nat} (hn : n < 256) (ho : o < 0x1000) : s.view (rWin n + o) = s.viewWindow n o := by
  have hm : (rWin n + o) / 0x100000 = 1 := by unfold rWin; omega
  have hcab : (rWin n + o - 0x100000) / 0x1000 = n := by unfold rWin; omega
  have hoff : (rWin n + o) % 0x1000 = o := by unfold rWin; omega
  simp only [State.view, hm, hcab, hoff]
  rfl

/-- A LIVE cabinet's operating register that is no view of a drawer or a latch is stored. -/
theorem view_operating {o : Nat} (hn : n < 256) (ho : o < 0x1000) (hop : 0x400 ≤ o) (hd : o < 0x480 ∨ 0x4C0 ≤ o)
    (hl : o < 0x840 ∨ 0x860 ≤ o) (hlive : (s.cab n).st = .live) : s.view (rWin n + o) = none := by
  rw [view_window s n hn ho, State.viewWindow, if_neg (by omega), if_neg (by omega), if_neg (by omega), if_neg (by simp [hlive]),
    if_neg (by omega), if_neg (by omega)]

/-- Where the cabinet is not LIVE an operating register shows its reset value (R20). -/
theorem view_operating_dead {o : Nat} (hn : n < 256) (ho : o < 0x1000) (hop : 0x400 ≤ o) (hlive : (s.cab n).st ≠ .live) :
    s.view (rWin n + o) = some (regReset (rWin n + o)) := by
  rw [view_window s n hn ho, State.viewWindow, if_neg (by omega), if_neg (by omega), if_neg (by omega), if_pos ⟨hop, hlive⟩]

end

/-! ### An operating register of a window -/

theorem takesOperating_of {c : Sys2Proof.Func → Sys2Proof.Instr} {n o : Nat} {rv : Word} (hn : n < 256) (ho : o < 0x1000)
    (hop : 0x400 ≤ o) (hd : o < 0x480 ∨ 0x4C0 ≤ o) (hl : o < 0x840 ∨ 0x860 ≤ o)
    (e : ∀ f s, exec (c f) s = readOperating f.val n o s) (h : ClearsOnRead (rWin n + o) rc) (hrv : regReset (rWin n + o) = rv) :
    TakesOperating c n o rc rv := by
  intro s f u
  refine ⟨fun hmay hfree => ?taken, fun hmay hheld => ?held, fun hup hmay => ?unreached, fun hup => ?down⟩
  case taken =>
    have hlive : (u.cab n).st = .live := by
      rw [wakeCab_st]
      simp only [State.mayOperate, Bool.and_eq_true, beq_iff_eq] at hmay
      exact hmay.1.2
    have hv : ∀ o', (u.emit o').view (rWin n + o) = none := fun o' => view_operating _ n hn ho hop hd hl hlive
    rw [e, readOperating, if_pos hmay, State.operate, if_pos hmay, access_of_free hfree,
      takeReg_of_stored h hv (view_operating _ n hn ho hop hd hl hlive)]
  case held =>
    rw [e, readOperating, if_pos hmay, State.operate, if_pos hmay, access_of_held hheld]
    rfl
  case unreached =>
    rw [e, readOperating, if_neg (ne_true_of_eq_false hmay), if_pos hup]
    by_cases hf : f = 0
    · subst hf
      have hdead : (s.cab n).st ≠ .live := by
        intro hlive
        simp [State.mayOperate, hup, hlive] at hmay
      have halign : (rWin n + o) % 8 = 0 := h.1
      simp [State.readReg, halign, view_operating_dead s n hn ho hop hdead, hrv]
    · have hf0 : f.val ≠ 0 := fun h => hf (Fin.ext h)
      rw [if_neg hf0, if_neg hf]
  case down =>
    have hmay : s.mayOperate f.val n = false := by simp [State.mayOperate, hup]
    rw [e, readOperating, if_neg (ne_true_of_eq_false hmay), if_neg (ne_true_of_eq_false hup)]

/-! ### The rows of the indexed RC registers in the register map -/

/-- The row may hold an offset of `[lo, hi)`. -/
def RegRow.near (lo hi : Nat) (r : RegRow) : Bool := decide (r.base < hi) && decide (lo ≤ r.base + r.s1 * r.n1 + r.s2 * r.n2)

theorem RegRow.le_of_has {r : RegRow} {off : Nat} (h : r.has off = true) :
    r.base ≤ off ∧ off ≤ r.base + r.s1 * r.n1 + r.s2 * r.n2 := by
  simp only [RegRow.has, Bool.and_eq_true, decide_eq_true_eq] at h
  obtain ⟨⟨⟨hbase, hi⟩, halign⟩, hn2⟩ := h
  generalize (if r.n1 ≤ 1 then 0 else (off - r.base) / r.s1) = i at hi halign hn2
  have he : off - r.base - i * r.s1 ≤ r.s2 * r.n2 := by
    rw [← Nat.mod_add_div (off - r.base - i * r.s1) r.s2, halign, Nat.zero_add]
    exact Nat.mul_le_mul_left _ (Nat.le_of_lt hn2)
  have hrow : i * r.s1 ≤ r.s1 * r.n1 := by
    rw [Nat.mul_comm]
    exact Nat.mul_le_mul_left _ (Nat.le_of_lt hi)
  omega

/-- An offset of a range is looked up among the rows near it. -/
theorem regRow_eq_near {lo hi off : Nat} (hlo : lo ≤ off) (hhi : off < hi) :
    regRow off = (regRows.filter (RegRow.near lo hi)).find? (fun r => r.has off) := by
  rw [List.find?_filter, regRow]
  congr 1
  funext r
  cases hr : r.has off with
  | false => simp
  | true =>
    obtain ⟨hbase, hend⟩ := RegRow.le_of_has hr
    have hnear : r.near lo hi = true := by
      simp only [RegRow.near, Bool.and_eq_true, decide_eq_true_eq]
      omega
    simp [hnear]

/-- As `ClearsOnRead`, by the rows near `[lo, hi)`. -/
abbrev NearClears (lo hi off rc : Nat) : Prop :=
  off % 8 = 0 ∧ rc ≠ 0 ∧ ((regRows.filter (RegRow.near lo hi)).find? (fun r => r.has off)).map RegRow.rc = some rc

theorem clears_of_near {lo hi off rc : Nat} (h : NearClears lo hi off rc) (hlo : lo ≤ off) (hhi : off < hi) :
    ClearsOnRead off rc := by
  rwa [ClearsOnRead, regRow_eq_near hlo hhi]

theorem near_tuCstat : ∀ n : Fin 256, NearClears 0x420000 0x420800 (rTuCstat n) all64 := by decide +kernel
theorem near_sbCnt : ∀ n : Fin 256, NearClears 0x510000 0x514000 (rSbCnt n) all64 := by decide +kernel
theorem near_tsCnt : ∀ n : Fin 256, NearClears 0x530000 0x532000 (rTsCnt n) all64 := by decide +kernel
theorem near_tsCnt2 : ∀ n : Fin 256, NearClears 0x530000 0x532000 (rTsCnt2 n) all64 := by decide +kernel
theorem near_meCstat : ∀ n : Fin 256, NearClears 0x660000 0x660800 (rMeCstat n) all64 := by decide +kernel
theorem near_dceCstat : ∀ n : Fin 256, NearClears 0x710000 0x711000 (rDceCstat n) all64 := by decide +kernel
theorem near_ftCstat : ∀ n : Fin 256, NearClears 0x721000 0x721800 (rFtCstat n) (mk 63 32) := by decide +kernel
theorem near_sgStat : ∀ g : Fin 12, NearClears 0x800000 0x8C0000 (rSgStat g) (mk 63 16) := by decide +kernel
theorem near_mixStat : ∀ g : Fin 12, NearClears 0x800000 0x8C0000 (rMixStat g) all64 := by decide +kernel
theorem near_mdc : ∀ g : Fin 12, NearClears 0x800000 0x8C0000 (rMdc g) all64 := by decide +kernel
theorem near_remix : ∀ g : Fin 12, NearClears 0x800000 0x8C0000 (rRemix g) all64 := by decide +kernel
theorem near_pgCnt : ∀ p : Fin 48, NearClears 0x901000 0x931000 (rPgCnt p) all64 := by decide +kernel
theorem near_dbDrops : ∀ n : Fin 256, NearClears 0x100000 0x200000 (rDbDrops n) all64 := by decide +kernel
theorem near_latStat : ∀ n : Fin 256, NearClears 0x100000 0x200000 (rLatStat n) all64 := by decide +kernel
theorem near_sgLat : ∀ (g : Fin 12) (m : Fin 258), NearClears 0x800000 0x8C0000 (rSgLat g m) (mk 63 48 + mk 31 0) := by decide +kernel

theorem clears_tuCstat (n : Fin 256) : ClearsOnRead (rTuCstat n) all64 :=
  clears_of_near (near_tuCstat n) (by unfold rTuCstat; omega) (by unfold rTuCstat; omega)

theorem clears_sbCnt (n : Fin 256) : ClearsOnRead (rSbCnt n) all64 :=
  clears_of_near (near_sbCnt n) (by unfold rSbCnt; omega) (by unfold rSbCnt; omega)

theorem clears_tsCnt (n : Fin 256) : ClearsOnRead (rTsCnt n) all64 :=
  clears_of_near (near_tsCnt n) (by unfold rTsCnt; omega) (by unfold rTsCnt; omega)

theorem clears_tsCnt2 (n : Fin 256) : ClearsOnRead (rTsCnt2 n) all64 :=
  clears_of_near (near_tsCnt2 n) (by unfold rTsCnt2; omega) (by unfold rTsCnt2; omega)

theorem clears_meCstat (n : Fin 256) : ClearsOnRead (rMeCstat n) all64 :=
  clears_of_near (near_meCstat n) (by unfold rMeCstat; omega) (by unfold rMeCstat; omega)

theorem clears_dceCstat (n : Fin 256) : ClearsOnRead (rDceCstat n) all64 :=
  clears_of_near (near_dceCstat n) (by unfold rDceCstat; omega) (by unfold rDceCstat; omega)

theorem clears_ftCstat (n : Fin 256) : ClearsOnRead (rFtCstat n) (mk 63 32) :=
  clears_of_near (near_ftCstat n) (by unfold rFtCstat; omega) (by unfold rFtCstat; omega)

theorem clears_sgStat (g : Fin 12) : ClearsOnRead (rSgStat g) (mk 63 16) :=
  clears_of_near (near_sgStat g) (by unfold rSgStat; omega) (by unfold rSgStat; omega)

theorem clears_mixStat (g : Fin 12) : ClearsOnRead (rMixStat g) all64 :=
  clears_of_near (near_mixStat g) (by unfold rMixStat; omega) (by unfold rMixStat; omega)

theorem clears_mdc (g : Fin 12) : ClearsOnRead (rMdc g) all64 :=
  clears_of_near (near_mdc g) (by unfold rMdc; omega) (by unfold rMdc; omega)

theorem clears_remix (g : Fin 12) : ClearsOnRead (rRemix g) all64 :=
  clears_of_near (near_remix g) (by unfold rRemix; omega) (by unfold rRemix; omega)

theorem clears_pgCnt (p : Fin 48) : ClearsOnRead (rPgCnt p) all64 :=
  clears_of_near (near_pgCnt p) (by unfold rPgCnt; omega) (by unfold rPgCnt; omega)

theorem clears_dbDrops (n : Fin 256) : ClearsOnRead (rDbDrops n) all64 :=
  clears_of_near (near_dbDrops n) (by unfold rDbDrops rWin; omega) (by unfold rDbDrops rWin; omega)

theorem clears_latStat (n : Fin 256) : ClearsOnRead (rLatStat n) all64 :=
  clears_of_near (near_latStat n) (by unfold rLatStat rWin; omega) (by unfold rLatStat rWin; omega)

theorem clears_sgLat (g : Fin 12) (m : Fin 258) : ClearsOnRead (rSgLat g m) (mk 63 48 + mk 31 0) :=
  clears_of_near (near_sgLat g m) (by unfold rSgLat; omega) (by unfold rSgLat; omega)

/-- A look-up in the rows near a range that finds a row without a reset value. -/
theorem regReset_of_near {lo hi off : Nat} (h : ((regRows.filter (RegRow.near lo hi)).find? (fun r => r.has off)).map RegRow.reset = some 0)
    (hlo : lo ≤ off) (hhi : off < hi) : regReset off = 0 := by
  rw [← regRow_eq_near hlo hhi] at h
  obtain ⟨r, hr, h0⟩ := Option.map_eq_some_iff.mp h
  simp [regReset, hr, h0]

/-- The row's reset value is 0, by the rows near the windows. -/
abbrev WindowResets0 (off : Nat) : Prop :=
  ((regRows.filter (RegRow.near 0x100000 0x200000)).find? (fun r => r.has off)).map RegRow.reset = some 0

theorem window_dbDrops : ∀ n : Fin 256, WindowResets0 (rDbDrops n) := by decide +kernel
theorem window_latStat : ∀ n : Fin 256, WindowResets0 (rLatStat n) := by decide +kernel

theorem reset_dbDrops (n : Fin 256) : regReset (rDbDrops n) = 0 :=
  regReset_of_near (window_dbDrops n) (by unfold rDbDrops rWin; omega) (by unfold rDbDrops rWin; omega)

theorem reset_latStat (n : Fin 256) : regReset (rLatStat n) = 0 :=
  regReset_of_near (window_latStat n) (by unfold rLatStat rWin; omega) (by unfold rLatStat rWin; omega)

/-- Settles O8. -/
theorem counterReadsReturnAndClear : Obligations.CounterReadsReturnAndClear := by
  unfold Obligations.CounterReadsReturnAndClear
  have chip {c : Sys2Proof.Func → Sys2Proof.Instr} {off rc : Nat} (h : ClearsOnRead off rc) (hv : ∀ s : State, s.view off = none)
      (e : ∀ f s, exec (c f) s = readPlatform f.val off s) : TakesCounter c off rc := takesCounter_of e h hv
  and_intros
  · exact chip (by decide +kernel) (fun _ => rfl) (fun _ _ => rfl)
  · exact chip (by decide +kernel) (fun _ => rfl) (fun _ _ => rfl)
  · exact chip (by decide +kernel) (fun _ => rfl) (fun _ _ => rfl)
  · intro n
    rw [Nat.mul_comm]
    exact chip (clears_tuCstat n) (fun s => view_tuCstat s n n.isLt) (fun _ _ => rfl)
  · exact chip (by decide +kernel) (fun _ => rfl) (fun _ _ => rfl)
  · intro n
    rw [Nat.mul_comm]
    exact chip (clears_sbCnt n) (fun s => view_sbCnt s n n.isLt) (fun _ _ => rfl)
  · exact chip (by decide +kernel) (fun _ => rfl) (fun _ _ => rfl)
  · intro n
    rw [Nat.mul_comm]
    exact chip (clears_tsCnt n) (fun s => view_tsCnt s n n.isLt) (fun _ _ => rfl)
  · intro n
    rw [Nat.mul_comm]
    exact chip (clears_tsCnt2 n) (fun s => view_tsCnt2 s n n.isLt) (fun _ _ => rfl)
  · exact chip (by decide +kernel) (fun _ => rfl) (fun _ _ => rfl)
  · intro n
    rw [Nat.mul_comm]
    exact chip (clears_meCstat n) (fun s => view_meCstat s n n.isLt) (fun _ _ => rfl)
  · exact chip (by decide +kernel) (fun _ => rfl) (fun _ _ => rfl)
  · intro n
    rw [Nat.mul_comm]
    exact chip (clears_dceCstat n) (fun s => view_dceCstat s n n.isLt) (fun _ _ => rfl)
  · intro n
    rw [Nat.mul_comm]
    exact chip (clears_ftCstat n) (fun s => view_ftCstat s n n.isLt) (fun _ _ => rfl)
  · intro g
    rw [Nat.mul_comm]
    exact chip (clears_sgStat g) (fun s => view_gate (o := 0x18) s g.isLt (by decide) (by decide)) (fun _ _ => rfl)
  · intro g m
    have hoff : 0x802000 + 0x10000 * g.val + 8 * m.val = rSgLat g.val m.val := by unfold rSgLat; omega
    have hview (s : State) : s.view (rSgLat g.val m.val) = none := by
      have := view_gate (o := 0x2000 + m.val * 8) s g.isLt (by omega) (by omega)
      rwa [show 0x800000 + (0x2000 + m.val * 8) + g.val * 0x10000 = rSgLat g.val m.val by unfold rSgLat; omega] at this
    rw [hoff]
    exact chip (clears_sgLat g m) hview (fun _ _ => rfl)
  · intro g
    rw [Nat.mul_comm]
    exact chip (clears_mixStat g) (fun s => view_gate (o := 0x3008) s g.isLt (by decide) (by decide)) (fun _ _ => rfl)
  · intro g
    rw [Nat.mul_comm]
    exact chip (clears_mdc g) (fun s => view_gate (o := 0x3018) s g.isLt (by decide) (by decide)) (fun _ _ => rfl)
  · intro g
    rw [Nat.mul_comm]
    exact chip (clears_remix g) (fun s => view_gate (o := 0x3020) s g.isLt (by decide) (by decide)) (fun _ _ => rfl)
  · exact chip (by decide +kernel) (fun _ => rfl) (fun _ _ => rfl)
  · exact chip (by decide +kernel) (fun _ => rfl) (fun _ _ => rfl)
  · exact chip (by decide +kernel) (fun _ => rfl) (fun _ _ => rfl)
  · intro n
    rw [Nat.mul_comm]
    exact chip (clears_pgCnt n) (fun s => view_pgCnt s n n.isLt) (fun _ _ => rfl)
  · exact chip (by decide +kernel) (fun _ => rfl) (fun _ _ => rfl)
  · exact chip (by decide +kernel) (fun _ => rfl) (fun _ _ => rfl)
  · exact chip (by decide +kernel) (fun _ => rfl) (fun _ _ => rfl)
  · exact chip (by decide +kernel) (fun _ => rfl) (fun _ _ => rfl)
  · exact chip (by decide +kernel) (fun _ => rfl) (fun _ _ => rfl)
  · exact fun n => takesOperating_of n.isLt (by decide) (by decide) (by decide) (by decide) (fun _ _ => rfl) (clears_dbDrops n)
      (reset_dbDrops n)
  · exact fun n => takesOperating_of n.isLt (by decide) (by decide) (by decide) (by decide) (fun _ _ => rfl) (clears_latStat n)
      (reset_latStat n)

end Sys2Proof.Machine
end

section
/-! PROOFS. Commands of command registers (R53): the register takes the write, or a command that finds READY 0 is lost; NOP (O9). -/

namespace Sys2Proof.Machine

variable {s u : State} {c : Sys2Proof.Instr} {f n o off res : Nat} {v : Option Word} {g : State → State}

/-! ### What a command register's write runs -/

theorem operate_of_mayCommand (h : s.mayCommand f n o) : s.operate f n o v g = g (s.wakeCab n 1) := by
  obtain ⟨hmay, hfree⟩ := h
  rw [State.operate, if_pos hmay, access_of_free hfree]

theorem exec_of_mayCommand (e : exec c s = .next (s.operate f n o v g)) (h : s.mayCommand f n o) :
    exec c s = .next (g (s.wakeCab n 1)) :=
  e.trans (congrArg _ (operate_of_mayCommand h))

theorem exec_of_mayReach (e : exec c s = .next (s.platform 0 off v g)) (h : s.mayReach off) : exec c s = .next (g (s.wakeBlock 1)) :=
  e.trans (congrArg _ (platform_of_mayReach h))

/-- A register that no reset holds is reached once the block is released (R495). -/
theorem mayReach_of_neverHeld (h : neverHeld off = true) (hup : s.hostUp = true) : s.mayReach off :=
  ⟨hup, by rw [State.regHeld, h]; rfl⟩

/-! ### READY -/

theorem accept_of_busy (h : s.rfld res 63 63 = 0) : s.accept res = none := if_pos h

theorem command_of_busy {e : State → Nat × Nat × State} (h : s.rfld res 63 63 = 0) :
    s.command res e = s.setRfld res 62 62 1 := by
  simp only [State.command, accept_of_busy h, State.overrun]

theorem command_of_accept {e : State → Nat × Nat × State} (h : s.accept res = some u) :
    s.command res e = (e u).2.2.result res (e u).1 (e u).2.1 := by
  simp only [State.command, h]

/-- A command of a window's register whose READY is 0 is lost. -/
theorem exec_lost (e : exec c s = .next (s.operate f n o v g)) (h : s.mayCommand f n o) (hg : ∀ w : State, w.rfld res 63 63 = 0 → g w = w.setRfld res 62 62 1)
    (hbusy : (s.wakeCab n 1).rfld res 63 63 = 0) : exec c s = .next ((s.wakeCab n 1).setRfld res 62 62 1) := by
  rw [exec_of_mayCommand e h, hg _ hbusy]

theorem ctxFree_of_busy {n x : Nat} (w : State) (h : w.rfld (rCtxResult n) 63 63 = 0) :
    ctxFree n x w = w.setRfld (rCtxResult n) 62 62 1 := by
  simp only [ctxFree, accept_of_busy h, State.overrun]

theorem drwDestroy_of_busy {n i : Nat} (w : State) (h : w.rfld (rDrwResult n) 63 63 = 0) :
    drwDestroy n i w = w.setRfld (rDrwResult n) 62 62 1 := by
  simp only [drwDestroy, accept_of_busy h, State.overrun]

theorem queryCommand_of_busy {n : Nat} {q : State → List Nat} (w : State) (h : w.rfld (rQry n 0) 63 63 = 0) :
    queryCommand n q w = w.setRfld (rQry n 0) 62 62 1 := by
  simp only [queryCommand, accept_of_busy h, State.overrun]

/-! ### NOP -/

/-- What NOP does on its result register: a command that ends at once, or one that is lost. -/
def nopOn (u : State) (res : Nat) : State :=
  match u.accept res with
  | some v => v.result res errNone 0
  | none => u.setRfld res 62 62 1

theorem nopCommand_eq (u : State) (res : Nat) : nopCommand res u = nopOn u res := by
  unfold nopCommand State.command nopOn
  cases u.accept res <;> rfl

/-- The operation that a command word names, after it is set. -/
theorem fld_op (w : Word) (k : Nat) : fld (setFld w 3 0 k) 3 0 = k % 16 := fld_setFld_same (by decide) (by decide) w k

theorem lcCmd_nop (u : State) (w : Word) : u.lcCmd (setFld w 3 0 0) = nopOn u rLcResult := by
  rw [State.lcCmd, if_pos (fld_op w 0), nopCommand_eq]

theorem stopCmd_nop (u : State) (w : Word) : u.stopCmd (setFld w 3 0 0) = nopOn u rStopResult := by
  rw [State.stopCmd, if_pos (fld_op w 0), nopCommand_eq]

theorem pwrCmd_nop (u : State) (w : Word) :
    u.pwrCmd (setFld w 3 0 0) = if u.pln.entries = [] then nopOn u rPwrResult else u.setRfld rPwrResult 62 62 1 := by
  by_cases h : u.pln.entries = []
  · rw [State.pwrCmd, if_neg (by simp [h]), if_pos (fld_op w 0), nopCommand_eq, if_pos h]
  · rw [State.pwrCmd, if_pos (by simp [h]), if_neg h, State.overrun]

theorem cabCmd_nop (u : State) (n : Nat) :
    u.cabCmd n 0 = if (u.cab n).work = .none then u else u.setCab n { u.cab n with dropped := true } := by
  by_cases h : (u.cab n).work = .none
  · rw [State.cabCmd, State.cabCommand, if_neg (by simp [h]), if_pos h]
    rfl
  · rw [State.cabCmd, State.cabCommand, if_pos (by simp [h]), if_neg h]

/-- Settles O9. -/
theorem nopsAndCommandsWhileBusy : Obligations.NopsAndCommandsWhileBusy := by
  unfold Obligations.NopsAndCommandsWhileBusy
  refine ⟨⟨fun f n s => ?windows, fun v s => ?chip, fun n s h => ?cabinet⟩, fun f n x i l s => ?busy⟩
  case windows =>
    refine ⟨fun h => ?_, fun h => ?_, fun h => ?_, fun h => ?_⟩
    all_goals exact (exec_of_mayCommand rfl h).trans (congrArg _ (nopCommand_eq ..))
  case chip =>
    refine ⟨fun hup => ?_, fun h => ?_, fun hup => ?_, fun h => ?_, fun hup => ?_⟩
    · exact (exec_of_mayReach rfl (mayReach_of_neverHeld (off := 0x1000) rfl hup)).trans (congrArg _ (nopCommand_eq ..))
    · exact (exec_of_mayReach rfl h).trans (congrArg _ (nopCommand_eq ..))
    · exact (exec_of_mayReach rfl (mayReach_of_neverHeld (off := 0xF00008) rfl hup)).trans (congrArg _ (lcCmd_nop ..))
    · exact (exec_of_mayReach rfl h).trans (congrArg _ (stopCmd_nop ..))
    · exact (exec_of_mayReach rfl (mayReach_of_neverHeld (off := 0x10040) rfl hup)).trans (congrArg _ (pwrCmd_nop ..))
  case cabinet => exact (exec_of_mayReach rfl h).trans (congrArg _ (cabCmd_nop ..))
  case busy =>
    simp only [List.forall_mem_cons, List.not_mem_nil, false_implies, implies_true, and_true]
    refine ⟨fun h hb => ⟨?_, ?_, ?free⟩, fun h hb => ⟨?_, ?_, ?_, ?_⟩, fun h hb => ⟨?_, ?_, ?_, ?_, ?destroy⟩,
      fun h hb => ⟨?_, ?_, ?_, ?_, ?_⟩, fun h hb => ⟨?queryContext, ?queryCabinet⟩⟩
    case free => exact exec_lost rfl h ctxFree_of_busy hb
    case destroy => exact exec_lost rfl h drwDestroy_of_busy hb
    case queryContext => exact exec_lost rfl h queryCommand_of_busy hb
    case queryCabinet => exact exec_lost rfl h queryCommand_of_busy hb
    all_goals exact exec_lost rfl h (fun w hw => command_of_busy hw) hb

end Sys2Proof.Machine
end

section
/-! PROOFS. Batch formation (O33; R169): what the third pass gives each request and what it takes from the room left. -/

namespace Sys2Proof.Machine

/-! ### Rounding up to 64 -/

theorem up64_le {a b : Nat} (hb : b % 64 = 0) (h : a ≤ b) : up64 a ≤ b := by unfold up64; omega

theorem le_up64 (a : Nat) : a ≤ up64 a := by unfold up64; omega

theorem up64_mod (a : Nat) : up64 a % 64 = 0 := by unfold up64; omega

/-! ### The third pass -/

/-- The chunk of a request after the third pass, with `room` left when its turn comes. -/
def grownChunk (chunkMax : SbReq → Nat) (room : Nat) (q : SbReq) : Nat :=
  min (up64 (min (chunkMax q) q.left) - up64 q.chunk) (64 * (room / 64))

theorem grownChunk_le_room (cm : SbReq → Nat) (room : Nat) (q : SbReq) : grownChunk cm room q ≤ room := by
  unfold grownChunk; omega

theorem growChunks_decode {cm : SbReq → Nat} {room : Nat} {q : SbReq} {r : List SbReq} (h : q.stage = .decode) :
    growChunks cm room (q :: r) = (q :: (growChunks cm room r).1, (growChunks cm room r).2) := by
  simp [growChunks, h]

theorem growChunks_other {cm : SbReq → Nat} {room : Nat} {q : SbReq} {r : List SbReq} (h : q.stage ≠ .decode) :
    growChunks cm room (q :: r) =
      ({ q with chunk := min q.left (up64 q.chunk + grownChunk cm room q) } :: (growChunks cm (room - grownChunk cm room q) r).1,
        (growChunks cm (room - grownChunk cm room q) r).2) := by
  simp [growChunks, h, grownChunk]

theorem growChunks_length (cm : SbReq → Nat) (qs : List SbReq) (room : Nat) : (growChunks cm room qs).1.length = qs.length := by
  induction qs generalizing room with
  | nil => rfl
  | cons q r ih =>
    by_cases h : q.stage = .decode
    · simp [growChunks_decode h, ih]
    · simp [growChunks_other h, ih]

theorem growChunks_room_le (cm : SbReq → Nat) (qs : List SbReq) (room : Nat) : (growChunks cm room qs).2 ≤ room := by
  induction qs generalizing room with
  | nil => exact Nat.le_refl _
  | cons q r ih =>
    by_cases h : q.stage = .decode
    · rw [growChunks_decode h]; exact ih room
    · rw [growChunks_other h]; exact Nat.le_trans (ih _) (Nat.sub_le _ _)

/-- What the requests' chunks take of the budget, in whole 64s. -/
def chunkCost (qs : List SbReq) : Nat := ((qs.filter (fun q => q.stage != .decode)).map (fun q => up64 q.chunk)).sum

theorem chunkCost_decode {q : SbReq} {r : List SbReq} (h : q.stage = .decode) : chunkCost (q :: r) = chunkCost r := by
  simp [chunkCost, h]

theorem chunkCost_other {q : SbReq} {r : List SbReq} (h : q.stage ≠ .decode) : chunkCost (q :: r) = up64 q.chunk + chunkCost r := by
  simp [chunkCost, h]

/-- The third pass spends no more than it takes from the room. -/
theorem growChunks_cost (cm : SbReq → Nat) (qs : List SbReq) (room : Nat) :
    chunkCost (growChunks cm room qs).1 + (growChunks cm room qs).2 ≤ chunkCost qs + room := by
  induction qs generalizing room with
  | nil => exact Nat.le_refl _
  | cons q r ih =>
    by_cases h : q.stage = .decode
    · rw [growChunks_decode h, chunkCost_decode h, chunkCost_decode h]; exact ih room
    · have hgiven : grownChunk cm room q % 64 = 0 := by
        have := up64_mod q.chunk
        have := up64_mod (min (cm q) q.left)
        unfold grownChunk; omega
      have hchunk : up64 (min q.left (up64 q.chunk + grownChunk cm room q)) ≤ up64 q.chunk + grownChunk cm room q :=
        up64_le (by have := up64_mod q.chunk; omega) (Nat.min_le_right _ _)
      have hroom := grownChunk_le_room cm room q
      have := ih (room - grownChunk cm room q)
      rw [growChunks_other h, chunkCost_other h, chunkCost_other (by exact h)]
      dsimp only
      omega

/-- Each request of the batch is one of those given: a decoding one as it was, another with a chunk within its bounds. -/
theorem mem_growChunks {cm : SbReq → Nat} {x : SbReq} {qs : List SbReq} {room : Nat} (h : x ∈ (growChunks cm room qs).1) :
    ∃ q ∈ qs, (q.stage = .decode ∧ x = q) ∨ (q.stage ≠ .decode ∧ ∃ k, x = { q with chunk := k } ∧ k ≤ q.left ∧
      k ≤ max (up64 q.chunk) (up64 (min (cm q) q.left))) := by
  induction qs generalizing room with
  | nil => simp [growChunks] at h
  | cons q r ih =>
    by_cases hq : q.stage = .decode
    · rw [growChunks_decode hq, List.mem_cons] at h
      rcases h with rfl | h
      · exact ⟨x, List.mem_cons_self, .inl ⟨hq, rfl⟩⟩
      · obtain ⟨y, hy, k⟩ := ih h
        exact ⟨y, List.mem_cons_of_mem _ hy, k⟩
    · rw [growChunks_other hq, List.mem_cons] at h
      rcases h with h | h
      · refine ⟨q, List.mem_cons_self, .inr ⟨hq, _, h, Nat.min_le_left _ _, ?_⟩⟩
        unfold grownChunk
        omega
      · obtain ⟨y, hy, k⟩ := ih h
        exact ⟨y, List.mem_cons_of_mem _ hy, k⟩

/-! ### The first two passes -/

/-- A request as the first two passes leave it: 64 tokens at most for a pending one. -/
def firstChunk (q : SbReq) : SbReq := { q with chunk := if q.stage == .pending then min 64 q.left else 0 }

theorem firstChunk_filter (qs : List SbReq) (st : ReqStage) :
    ((qs.map firstChunk).filter (fun q => q.stage == st)).length = (qs.filter (fun q => q.stage == st)).length := by
  induction qs with
  | nil => rfl
  | cons q r ih =>
    rw [List.map_cons, List.filter_cons, List.filter_cons]
    change (if q.stage == st then _ else _ : List SbReq).length = _
    split <;> simp [ih]

theorem chunkCost_firstChunk (qs : List SbReq) :
    chunkCost (qs.map firstChunk) ≤ 64 * (qs.filter (fun q => q.stage == .pending)).length := by
  induction qs with
  | nil => exact Nat.le_refl _
  | cons q r ih =>
    rw [List.map_cons]
    cases hq : q.stage with
    | decode => simpa [chunkCost_decode (show (firstChunk q).stage = .decode from hq), hq] using ih
    | pending =>
      have hchunk : (firstChunk q).chunk ≤ 64 := by
        simp only [firstChunk, hq]
        exact Nat.min_le_left 64 q.left
      have : up64 (firstChunk q).chunk ≤ 64 := up64_le (by decide) hchunk
      rw [chunkCost_other (show (firstChunk q).stage ≠ .decode by rw [show (firstChunk q).stage = q.stage from rfl, hq]; decide)]
      simp only [List.filter_cons, hq, beq_self_eq_true, if_true, List.length_cons]
      omega
    | prefill =>
      have : up64 (firstChunk q).chunk = 0 := by simp [firstChunk, hq, up64]
      rw [chunkCost_other (show (firstChunk q).stage ≠ .decode by rw [show (firstChunk q).stage = q.stage from rfl, hq]; decide), this]
      simpa [hq] using ih

/-- The three passes, by the third one's. -/
theorem formBatch_eq (budget : Nat) (cm : SbReq → Nat) (qs : List SbReq) :
    formBatch budget cm qs =
      let x := growChunks cm (budget - (qs.filter (fun q => q.stage == .decode)).length -
        64 * (qs.filter (fun q => q.stage == .pending)).length) (qs.map firstChunk)
      (x.1, budget - x.2) := by
  rw [← firstChunk_filter qs .decode, ← firstChunk_filter qs .pending]
  rfl

/-- Settles O33. -/
theorem batchesStayWithinTheBudget : Obligations.BatchesStayWithinTheBudget := by
  unfold Obligations.BatchesStayWithinTheBudget
  intro budget chunkMax qs hfit hmax
  rw [formBatch_eq]
  generalize hroom : budget - (qs.filter (fun q => q.stage == .decode)).length -
    64 * (qs.filter (fun q => q.stage == .pending)).length = room
  have hcost := growChunks_cost chunkMax (qs.map firstChunk) room
  have hfirst := chunkCost_firstChunk qs
  have hleft := growChunks_room_le chunkMax (qs.map firstChunk) room
  refine ⟨Nat.sub_le _ _, (growChunks_length ..).trans (List.length_map _), ?cost, fun x hx hdec => ?decode, fun x hx => ?left,
    fun x hx hdec => ?limit⟩
  case cost =>
    change _ + chunkCost _ ≤ _
    dsimp only
    omega
  all_goals
    obtain ⟨y, hy, hcase⟩ := mem_growChunks hx
    obtain ⟨q, hq, rfl⟩ := List.mem_map.mp hy
    have hstage : (firstChunk q).stage = q.stage := rfl
    rcases hcase with ⟨hd, rfl⟩ | ⟨hd, k, rfl, hk, hmost⟩
  case decode.inl => simp [firstChunk, hdec.symm.trans hstage |>.symm]
  case decode.inr => exact absurd hdec hd
  case left.inl => simp [firstChunk, hstage ▸ hd]
  case left.inr => exact hk
  case limit.inl => exact absurd hd hdec
  case limit.inr =>
    obtain ⟨h64, hmod, hsame⟩ := hmax q hq
    have hbound : up64 (firstChunk q).chunk ≤ chunkMax q :=
      Nat.le_trans (up64_le (b := 64) (a := (firstChunk q).chunk) (by decide) (by unfold firstChunk; dsimp only; split <;> omega)) h64
    have hgrown : up64 (min (chunkMax (firstChunk q)) (firstChunk q).left) ≤ chunkMax q :=
      up64_le hmod (Nat.le_trans (Nat.min_le_left _ _) (Nat.le_of_eq (hsame _)))
    exact Nat.le_trans (Nat.le_trans hmost (Nat.max_le.2 ⟨hbound, hgrown⟩)) (Nat.le_of_eq (hsame k).symm)

end Sys2Proof.Machine
end

section
/-! PROOFS. The ready order and the cost of a placement (O20; R188, R190): sorting by a strict order. -/

namespace Sys2Proof.Machine

/-! ### Sorting by a strict order -/

/-- A Boolean comparison that is a strict order. -/
structure StrictBy {α : Type} (lt : α → α → Bool) : Prop where
  asymm : ∀ {a b}, lt a b = true → lt b a = false
  trans : ∀ {a b c}, lt a b = true → lt b c = true → lt a c = true

section
variable {α : Type} {lt : α → α → Bool}

theorem insertBy_perm (x : α) (l : List α) : (insertBy lt x l).Perm (x :: l) := by
  induction l with
  | nil => exact .refl _
  | cons y r ih =>
    unfold insertBy
    split
    · exact .refl _
    · exact (ih.cons y).trans (.swap x y r)

theorem sortBy_perm (l : List α) : (sortBy lt l).Perm l := by
  induction l with
  | nil => exact .refl _
  | cons x r ih => exact (insertBy_perm x _).trans (ih.cons x)

theorem insertBy_sorted (h : StrictBy lt) {x : α} {l : List α} (hl : l.Pairwise (fun a b => lt b a = false)) :
    (insertBy lt x l).Pairwise (fun a b => lt b a = false) := by
  induction l with
  | nil => exact List.pairwise_singleton _ _
  | cons y r ih =>
    obtain ⟨hy, hr⟩ := List.pairwise_cons.mp hl
    unfold insertBy
    split
    case isTrue hxy =>
      refine List.pairwise_cons.mpr ⟨fun z hz => ?_, hl⟩
      rcases List.mem_cons.mp hz with rfl | hz
      · exact h.asymm hxy
      · refine Bool.eq_false_iff.mpr fun hzx => ?_
        exact absurd ((hy z hz).symm.trans (h.trans hzx hxy)) (by decide)
    case isFalse hxy =>
      refine List.pairwise_cons.mpr ⟨fun z hz => ?_, ih hr⟩
      rcases List.mem_cons.mp ((insertBy_perm x r).mem_iff.mp hz) with rfl | hz
      · exact Bool.eq_false_iff.mpr hxy
      · exact hy z hz

theorem sortBy_sorted (h : StrictBy lt) (l : List α) : (sortBy lt l).Pairwise (fun a b => lt b a = false) := by
  induction l with
  | nil => exact List.Pairwise.nil
  | cons x r ih => exact insertBy_sorted h ih

/-- The first of a sorted list is of the list, and nothing of the list comes before it. -/
theorem sortBy_head (h : StrictBy lt) {l r : List α} {x : α} (e : sortBy lt l = x :: r) :
    x ∈ l ∧ ∀ y ∈ l, lt y x = false := by
  have hmem {y : α} : y ∈ x :: r ↔ y ∈ l := e ▸ (sortBy_perm l).mem_iff
  refine ⟨hmem.mp List.mem_cons_self, fun y hy => ?_⟩
  rcases List.mem_cons.mp (hmem.mpr hy) with rfl | hr
  · exact Bool.eq_false_iff.mpr fun hyy => absurd ((h.asymm hyy).symm.trans hyy) (by decide)
  · exact (List.pairwise_cons.mp (e ▸ sortBy_sorted h l)).1 y hr

end

/-! ### The two orders -/

theorem before_strict : StrictBy Cmd.before := by
  constructor
  · intro a b
    unfold Cmd.before
    rcases a.desc with _ | x <;> rcases b.desc with _ | y <;> grind
  · intro a b c
    unfold Cmd.before
    rcases a.desc with _ | x <;> rcases b.desc with _ | y <;> rcases c.desc with _ | z <;> grind

/-- Tiles by the cost of a placement, and by port at equal cost. -/
def State.cheaper (s : State) (c : Cmd) (a b : Nat) : Bool :=
  decide (s.placeCost c a < s.placeCost c b) || (s.placeCost c a == s.placeCost c b && decide (a < b))

theorem cheaper_iff {s : State} {c : Cmd} {a b : Nat} :
    s.cheaper c a b = true ↔ s.placeCost c a < s.placeCost c b ∨ (s.placeCost c a = s.placeCost c b ∧ a < b) := by
  simp [State.cheaper]

theorem cheaper_strict (s : State) (c : Cmd) : StrictBy (s.cheaper c) := by
  constructor
  · intro a b h
    rw [Bool.eq_false_iff, Ne, cheaper_iff]
    rw [cheaper_iff] at h
    omega
  · intro a b d h k
    rw [cheaper_iff] at h k ⊢
    omega

theorem ltNat_strict : StrictBy (fun a b : Nat => decide (a < b)) := by
  constructor
  · intro a b h
    rw [decide_eq_true_eq] at h
    exact decide_eq_false (by omega)
  · intro a b c h k
    rw [decide_eq_true_eq] at h k ⊢
    exact Nat.lt_trans h k

/-! ### The cheapest tiles -/

theorem cheapest_eq (s : State) (c : Cmd) :
    s.cheapest c = sortBy (fun a b => decide (a < b)) ((sortBy (s.cheaper c) (s.eligible c)).take c.tilesN) := rfl

theorem eligible_nodup (s : State) (c : Cmd) : (s.eligible c).Nodup := by
  have hall : (s.tilesOf c.cab).Nodup := List.nodup_range.filter _
  unfold State.eligible
  extract_lets all others
  refine List.Pairwise.filter _ ?_
  split
  · exact (hall.filter _).filter _
  · exact hall.filter _

theorem mem_cheapest {s : State} {c : Cmd} {t : Nat} :
    t ∈ s.cheapest c ↔ t ∈ (sortBy (s.cheaper c) (s.eligible c)).take c.tilesN := (sortBy_perm _).mem_iff

theorem cheapest_pairwise (s : State) (c : Cmd) : (s.cheapest c).Pairwise (· < ·) := by
  have hsorted := sortBy_sorted ltNat_strict ((sortBy (s.cheaper c) (s.eligible c)).take c.tilesN)
  have hnodup : (s.cheapest c).Nodup :=
    (sortBy_perm _).nodup_iff.mpr (((sortBy_perm _).nodup_iff.mpr (eligible_nodup s c)).sublist (List.take_sublist _ _))
  refine (hsorted.and hnodup).imp fun {a b} h => ?_
  obtain ⟨hle, hne⟩ := h
  rw [decide_eq_false_iff_not] at hle
  omega

/-- A tile that the placement takes is cheaper than one it leaves. -/
theorem cheapest_lt {s : State} {c : Cmd} {a b : Nat} (ha : a ∈ s.cheapest c) (hb : b ∈ s.eligible c) (hb' : b ∉ s.cheapest c) :
    s.placeCost c a < s.placeCost c b ∨ (s.placeCost c a = s.placeCost c b ∧ a < b) := by
  have hsorted := sortBy_sorted (cheaper_strict s c) (s.eligible c)
  have hin := (sortBy_perm (lt := s.cheaper c) (s.eligible c)).mem_iff.mpr hb
  rw [← List.take_append_drop c.tilesN (sortBy (s.cheaper c) (s.eligible c))] at hsorted hin
  have hdrop : b ∈ (sortBy (s.cheaper c) (s.eligible c)).drop c.tilesN :=
    (List.mem_append.mp hin).resolve_left fun h => hb' (mem_cheapest.mpr h)
  have hnot := (List.pairwise_append.mp hsorted).2.2 a (mem_cheapest.mp ha) b hdrop
  have hne : a ≠ b := fun h => hb' (h ▸ ha)
  rw [Bool.eq_false_iff, Ne, cheaper_iff] at hnot
  omega

/-- Settles O20. -/
theorem placementOrderAndCost : Obligations.PlacementOrderAndCost := by
  unfold Obligations.PlacementOrderAndCost
  refine ⟨fun s n h r e => ?order, fun s c hn => ⟨?_, cheapest_pairwise s c, fun t ht => ?_, fun a ha b hb hb' => cheapest_lt ha hb hb'⟩⟩
  case order =>
    obtain ⟨hmem, hfirst⟩ := sortBy_head before_strict e
    simp only [List.mem_filter, Bool.and_eq_true, beq_iff_eq] at hmem hfirst
    exact ⟨hmem.1, hmem.2.1, hmem.2.2, fun c hc hcab hready => hfirst c ⟨hc, hcab, hready⟩⟩
  · rw [cheapest_eq, (sortBy_perm _).length_eq, List.length_take, (sortBy_perm _).length_eq, Nat.min_eq_left hn]
  · exact (sortBy_perm _).mem_iff.mp (List.mem_of_mem_take (mem_cheapest.mp ht))

end Sys2Proof.Machine
end

section
/-! PROOFS. A unit's work while it serves; COMMIT_BY_REMAP and where a committed granule's bytes are read (O28; R137 to R140). -/

namespace Sys2Proof.Machine

/-! ### A unit that does its work -/

section
variable {s : State} {c : Sys2Proof.Instr} {u : Nat} {f : State → State}

theorem work_of_serves (h : s.serves u) : s.work u f = f s := by
  obtain ⟨hrun, hunit⟩ := h
  rw [State.work, hrun, hunit]
  rfl

theorem exec_of_work (e : exec c s = .next (s.work u f)) (h : s.serves u) : exec c s = .next (f s) :=
  e.trans (congrArg _ (work_of_serves h))

/-- A unit's event whose work leaves the state as it is changes nothing. -/
theorem idles_of_work (e : exec c s = .next (s.work u f)) (h : s.serves u) (hf : f s = s) : Idles c s :=
  (exec_of_work e h).trans (congrArg _ hf)

end

/-! ### COMMIT_BY_REMAP -/

section
variable {s v : State} {o : Owner} {w : Who}

theorem commitOwner_of_filled (h : State.fillAll w (s.shadowsOf o) s = (.ok (), v)) :
    s.commitOwner o w =
      let t := ((s.shadowsOf o).foldl State.makeCurrent v.passSeq).endHold o
      (.ok (), { t with tu := { t.tu with commits := t.tu.commits + 1 } }) := by
  simp only [State.commitOwner, h]

theorem commitOwner_of_failed {st u : Nat} (h : State.fillAll w (s.shadowsOf o) s = (.bad st u, v)) :
    s.commitOwner o w = (.bad st u, v.discardShadows o) := by
  simp only [State.commitOwner, h]

end

/-- What COMMIT_BY_REMAP does to the command it names. -/
def commitNamed (n k : Nat) (s : State) : State :=
  match s.cmd n k with
  | some c => if c.phase == .committing then commitCmd c s else s
  | none => s

theorem exec_commitByRemap {n : Sys2Proof.CabId} {k : Nat} {s : State} (h : s.serves uTu) :
    exec (.commitByRemap n k) s = .next (commitNamed n.val k s) := exec_of_work (f := commitNamed n.val k) rfl h

theorem commitNamed_of_committing {n k : Nat} {s : State} {c : Cmd} (hc : s.cmd n k = some c) (hp : c.phase = .committing) :
    commitNamed n k s = commitCmd c s := by
  simp only [commitNamed, hc, hp, beq_self_eq_true, if_true]

theorem commitNamed_of_other {n k : Nat} {s : State} (h : ∀ c, s.cmd n k = some c → c.phase ≠ .committing) :
    commitNamed n k s = s := by
  unfold commitNamed
  split
  case h_1 c hc => exact if_neg (by simpa using h c hc)
  case h_2 => rfl

/-! ### The granule map after a commit -/

/-- A granule's shadow is where its home's bytes lie once it is current, at home again where the home is its own shadow. -/
theorem locate_makeCurrent {s : State} {h x : Nat} {o : Owner} {p : Nat} (hs : (s.gran h).shadow = some (o, x)) (hp : p / 8192 = h) :
    (s.makeCurrent h).locate p = x * 8192 + p % 8192 := by
  have hgran (t : State) (a n i : Nat) : (t.touchDev a n).gran i = t.gran i := rfl
  unfold State.locate State.makeCurrent
  simp only [hs, hp, hgran]
  by_cases hx : x = h
  · rw [if_pos hx, State.gran_setGran_same]
    change p = _
    omega
  · rw [if_neg hx, State.gran_setGran_same]

/-- Settles O28. -/
theorem committedShadowsBecomeCurrent : Obligations.CommittedShadowsBecomeCurrent := by
  unfold Obligations.CommittedShadowsBecomeCurrent
  refine ⟨fun n k s hs => ⟨fun c hc hp => ?other, fun hc => ?none, fun c hc hp => ⟨fun v hfill => ?filled, fun v st u hfill => ?failed⟩⟩,
    fun s h x o p => locate_makeCurrent⟩
  case other =>
    rw [Idles, exec_commitByRemap hs, commitNamed_of_other fun c' hc' => Option.some.inj (hc.symm.trans hc') ▸ hp]
  case none => rw [Idles, exec_commitByRemap hs, commitNamed_of_other (by simp [hc])]
  case filled =>
    rw [exec_commitByRemap hs, commitNamed_of_committing hc hp, commitCmd, commitOwner_of_filled hfill]
  case failed =>
    rw [exec_commitByRemap hs, commitNamed_of_committing hc hp, commitCmd, commitOwner_of_failed hfill]

end Sys2Proof.Machine
end

section
/-! PROOFS. What follows once a window's command is taken up, the least number not in use, and why O12 fails. -/
namespace Sys2Proof.Machine

/-! ### A command that is taken up -/

section
variable {s u : State} {c : Sys2Proof.Instr} {f n o res : Nat} {v : Option Word}

/-- A command taken up acts on the accepted state and writes its result. -/
theorem exec_of_takes {e : State → Nat × Nat × State} (hexec : exec c s = .next (s.operate f n o v fun s => s.command res e))
    (h : s.takes f n o res u) : exec c s = .next ((e u).2.2.result res (e u).1 (e u).2.1) := by
  obtain ⟨hmay, hacc⟩ := h
  rw [exec_of_mayCommand hexec hmay, command_of_accept hacc]

/-- A command taken up that ends with a known code, value and state. -/
theorem exec_of_takes_eq {e : State → Nat × Nat × State} {err value : Nat} {t : State}
    (hexec : exec c s = .next (s.operate f n o v fun s => s.command res e))
    (h : s.takes f n o res u) (he : e u = (err, value, t)) : exec c s = .next (t.result res err value) := by
  rw [exec_of_takes hexec h, he]

end

/-! ### Numbers in use -/

/-- The first number that is not in use, where there is one. -/
theorem lowestFree_spec {used : Nat → Bool} {n : Nat} (h : ∃ i ≤ n, used i = false) :
    used (lowestFree used n) = false ∧ ∀ y < lowestFree used n, used y = true := by
  obtain ⟨i, hi, hfree⟩ := h
  cases hfind : (List.range (n + 1)).find? (fun i => !used i) with
  | none =>
    have := List.find?_range_eq_none.1 hfind i (by omega)
    simp [hfree] at this
  | some x =>
    obtain ⟨hx, -, hlow⟩ := List.find?_range_eq_some.1 hfind
    simpa [lowestFree, hfind] using And.intro hx hlow

/-- Dropping the entries of a key that is counted leaves fewer counted entries. -/
theorem counted_drop_lt {α : Type} {l : FMap α} {p : Nat × α → Bool} {e : Nat × α} (he : e ∈ l) (hp : p e = true) :
    ((l.filter (·.1 != e.1)).filter p).length < (l.filter p).length := by
  have hswap : (l.filter (·.1 != e.1)).filter p = (l.filter p).filter (·.1 != e.1) := by
    rw [List.filter_filter, List.filter_filter]
    exact List.filter_congr fun _ _ => Bool.and_comm _ _
  rw [hswap]
  refine List.length_filter_lt_length_iff_exists.2 ⟨e, List.mem_filter.2 ⟨he, hp⟩, ?_⟩
  rw [bne_self_eq_false]
  exact Bool.false_ne_true

/-- Of more keys than a list has entries with a property, one has no such entry. -/
theorem exists_key_not_counted {α : Type} (l : FMap α) (p : Nat × α → Bool) {key : Nat → Nat} (hkey : key.Injective) {m : Nat}
    (h : (l.filter p).length ≤ m) : ∃ i ≤ m, ∀ e ∈ l, e.1 = key i → p e = false := by
  induction m generalizing l with
  | zero =>
    refine ⟨0, Nat.le_refl _, fun e he _ => ?_⟩
    have hnil := List.length_eq_zero_iff.1 (Nat.le_zero.1 h)
    exact Bool.eq_false_iff.2 (List.filter_eq_nil_iff.1 hnil e he)
  | succ m ih =>
    by_cases hlast : ∃ e ∈ l, e.1 = key (m + 1) ∧ p e = true
    case neg =>
      exact ⟨m + 1, Nat.le_refl _, fun e he hk => Bool.eq_false_iff.2 fun hp => hlast ⟨e, he, hk, hp⟩⟩
    case pos =>
      obtain ⟨e, he, hek, hp⟩ := hlast
      have hlt := counted_drop_lt he hp
      obtain ⟨i, hi, hnone⟩ := ih (l.filter (·.1 != e.1)) (by omega)
      refine ⟨i, by omega, fun d hd hdk => hnone d (List.mem_filter.2 ⟨hd, bne_iff_ne.2 fun hde => ?_⟩) hdk⟩
      have : i = m + 1 := hkey (by rw [← hdk, hde, hek])
      omega

theorem mapFind_mem {α : Type} {k : Nat} {v : α} : ∀ {m : FMap α}, mapFind k m = some v → (k, v) ∈ m
  | (j, w) :: r, h => by
    rw [mapFind] at h
    split at h
    · next hj => cases h; subst hj; exact .head _
    · exact .tail _ (mapFind_mem h)

/-- A listed value with a property is found under its key only if an entry with that key has the property. -/
theorem mapGet_of_entries {α : Type} {d : α} {k : Nat} {m : FMap α} {p : Nat × α → Bool} (hd : p (k, d) = false)
    (h : ∀ e ∈ m, e.1 = k → p e = false) : p (k, mapGet d k m) = false := by
  rw [mapGet]
  cases hf : mapFind k m with
  | none => exact hd
  | some v => exact h _ (mapFind_mem hf) rfl

/-! ### Contexts (R54, R55) -/

/-- Below 16,384 contexts in use, one of the first numbers is free. -/
theorem exists_free_ctx {u : State} {n : Nat} (h : u.useContexts n < 16384) :
    ∃ i ≤ u.useContexts n, ((u.ctx n i).st != CtxState.free) = false := by
  obtain ⟨i, hi, hnone⟩ := exists_key_not_counted u.drw.ctxs (fun e => e.1 / 16384 == n && e.2.st != .free)
    (key := ctxKey n) (fun a b hab => Nat.add_left_cancel hab) (Nat.le_refl (u.useContexts n))
  refine ⟨i, hi, ?_⟩
  have := mapGet_of_entries (d := {}) (by simp) hnone
  have hdiv : ctxKey n i / 16384 = n := by unfold ctxKey; omega
  simpa [hdiv, State.ctx] using this

/-! ### The incarnation of an allocated context -/

/-- The count of allocations that names context 0 of cabinet 2 after a command. -/
def allocOf : Host.Outcome State Fault Refusal → Nat
  | .next t => (t.ctx 2 0).alloc
  | _ => 0

/-- The block in RUN; cabinet 2 is LIVE with tile 128, bound to function 2, with quotas of 4, one GiB of shelf from one GiB on
and an eighth of it reserve. -/
def oneLive : State :=
  (({ pln := { phase := .run, ready := 15 } } : State).setReg rWorkSize 32).setCab 2
    { st := .live, gen := 1, conf := { func := 2, cfg := 8, quotaA := pack [(0, 4), (16, 4), (32, 4), (48, 4)], quotaB := 4,
                                       tiles := [0, 0, 1, 0], shelf := [pack [(0, 512), (23, 512)]] } }

/-- With a root for the next context in the cabinet's shelf. -/
def rooted : State := oneLive.setReg (rCtxArg0 2) (pack [(12, 0x40000)])

theorem rooted_takes : rooted.takes 2 2 0x400 (rCtxResult 2) (((rooted.wakeCab 2 1).accept (rCtxResult 2)).getD rooted) := by
  unfold State.takes State.mayCommand
  decide +kernel

/-- Refutes O12: the context that ALLOC makes carries the count of allocations after its own, 1 for the first of `rooted`, where
the statement gives it the count before, 0. -/
theorem not_contextsAreAllocatedAndTornDown : ¬ Obligations.ContextsAreAllocatedAndTornDown := by
  unfold Obligations.ContextsAreAllocatedAndTornDown
  intro h
  have halloc : allocOf (exec (.ctxAlloc 2 2) rooted) = 1 := by decide +kernel
  obtain ⟨-, -, hroom⟩ := h.1 2 2 rooted _ rooted_takes
  obtain ⟨x, -, hlow, hexec⟩ := hroom (by decide +kernel) (by decide +kernel) (by decide +kernel)
  have hx : x = 0 := by
    refine Nat.eq_zero_of_not_pos fun hpos => ?_
    exact hlow 0 (by omega) (by decide +kernel)
  subst hx
  rw [hexec] at halloc
  exact absurd halloc (by decide +kernel)

end Sys2Proof.Machine
end

section
/-! PROOFS. Memory objects, queries and drawers over the registers (O13; R56 to R63, R84 to R86). -/
namespace Sys2Proof.Machine

/-! ### Memory objects (R56 to R58) -/

section
variable {u : State} {n : Nat}

/-- The checks of CREATE (R57). -/
def objBad (base len : Nat) (fence : Bool) : Prop := len = 0 ∨ 2 ^ 57 < base + len ∨ (fence = true ∧ (len < 16 ∨ base % 16 ≠ 0))

theorem mobjCreate_of_bad (h : objBad (u.rfld (rMobjArg n 0) 56 0) (u.rfld (rMobjArg n 1) 56 0) (u.rfld (rMobjArg n 2) 16 16 == 1)) :
    mobjCreate n u = (errArg, 0, u) := if_pos h

/-- CREATE past its checks is decided by the context, the quota and the handle taken. -/
theorem mobjCreate_of_good (h : ¬ objBad (u.rfld (rMobjArg n 0) 56 0) (u.rfld (rMobjArg n 1) 56 0) (u.rfld (rMobjArg n 2) 16 16 == 1)) :
    mobjCreate n u = if (u.ctx n (u.rfld (rMobjArg n 2) 13 0)).st != .live then (errNoCtx, 0, u)
      else if quotaObjs (u.cab n).conf ≤ u.useObjs n then (errQuota, 0, u)
      else (errNone, mkHandle (u.objTake.2.obj u.objTake.1).gen u.objTake.1, u.objTake.2.setObj u.objTake.1
        { gen := (u.objTake.2.obj u.objTake.1).gen, used := true, orig := u.objTake.1, cab := n,
          ctx := u.rfld (rMobjArg n 2) 13 0, base := u.rfld (rMobjArg n 0) 56 0, len := u.rfld (rMobjArg n 1) 56 0,
          host := u.rfld (rMobjArg n 2) 17 17 == 1, fence := u.rfld (rMobjArg n 2) 16 16 == 1 }) := if_neg h

theorem objTake_obj (u : State) (i : Nat) : u.objTake.2.obj i = u.obj i := by
  unfold State.objTake
  split
  · rfl
  · split <;> rfl

/-- A second handle takes the fields of the original it names, read before or after its own entry is chosen. -/
theorem mobjAlias_handle (orig ctx : Nat) : (u.newHandle fun _ o => { u.obj orig with
      gen := o.gen, withdrawn := false, orig := orig, ctx := ctx, refs := 0 }) =
    (errNone, mkHandle (u.objTake.2.obj u.objTake.1).gen u.objTake.1, u.objTake.2.setObj u.objTake.1
      { u.objTake.2.obj orig with gen := (u.objTake.2.obj u.objTake.1).gen, withdrawn := false, orig := orig, ctx := ctx, refs := 0 }) := by
  rw [objTake_obj u orig]
  rfl

end

/-! ### Queries (R84 to R86) -/

theorem queryCommand_of_accept {s u : State} {n : Nat} {f : State → List Nat} (h : s.accept (rQry n 0) = some u) :
    queryCommand n f s = u.putQuery n (f u) := by
  simp only [queryCommand, h]

theorem exec_qryContext_of_takes {s u : State} {f : Sys2Proof.Func} {n : Sys2Proof.CabId} {x : Sys2Proof.CtxId}
    (h : s.takes f.val n.val 0x500 (rQry n.val 0) u) : exec (.qryContext f n x) s = .next (u.putQuery n.val (u.queryCtx n.val x.val)) :=
  (exec_of_mayCommand rfl h.1).trans (congrArg _ (queryCommand_of_accept h.2))

theorem exec_qryCabinet_of_takes {s u : State} {f : Sys2Proof.Func} {n : Sys2Proof.CabId}
    (h : s.takes f.val n.val 0x500 (rQry n.val 0) u) : exec (.qryCabinet f n) s = .next (u.putQuery n.val (u.queryCabinet n.val)) :=
  (exec_of_mayCommand rfl h.1).trans (congrArg _ (queryCommand_of_accept (f := fun s => s.queryCabinet n.val) h.2))

/-- The words of a query lie in eight registers of their own. -/
theorem putQuery_reg (u : State) (n : Nat) {ws : List Nat} (h : ws.length = 8) {k : Nat} (hk : k < 8) :
    (u.putQuery n ws).reg (rQry n k) = BitVec.ofNat 64 (ws.getD k 0) := by
  match ws, h with
  | [a, b, c, d, e, f, g, i], _ =>
    match k, hk with
    | 0, _ | 1, _ | 2, _ | 3, _ | 4, _ | 5, _ | 6, _ | 7, _ => simp [State.putQuery, List.zipIdx, State.reg_setReg, rQry]

/-! ### Drawers (R60 to R63) -/

theorem rfld_of_regs {s t : State} (h : s.regs = t.regs) (off hi lo : Nat) : s.rfld off hi lo = t.rfld off hi lo := by
  rw [State.rfld, State.rfld, State.reg, State.reg, h]

theorem result_drawer (s : State) (res err v n i : Nat) : (s.result res err v).drawer n i = s.drawer n i := by
  rw [State.drawer, State.drawer, State.result_drw]

theorem result_reg (s : State) (res err v : Nat) :
    (s.result res err v).reg res = pack [(63, 1), (62, s.rfld res 62 62), (56, err), (0, v % 2 ^ 32)] :=
  State.reg_setReg_same ..

section
variable {u : State} {n i : Nat}

/-- Below 8,192 drawers in use, one of the first indices is free. -/
theorem exists_free_drawer (h : u.useDrawers n < 8192) : ∃ i ≤ u.useDrawers n, ((u.drawer n i).st != .free) = false := by
  obtain ⟨i, hi, hnone⟩ := exists_key_not_counted u.drw.drawers (fun e => e.1 / 8192 == n && e.2.st != .free)
    (key := drwKey n) (fun a b hab => Nat.add_left_cancel hab) (Nat.le_refl (u.useDrawers n))
  refine ⟨i, hi, ?_⟩
  have := mapGet_of_entries (d := {}) (by simp) hnone
  have hdiv : drwKey n i / 8192 = n := by unfold drwKey; omega
  simpa [hdiv, State.drawer] using this

theorem settleDrawer_of_busy (h : u.inflight n i ≠ 0) : u.settleDrawer n i = u := by
  rw [State.settleDrawer, if_pos (by simpa using h)]

/-- A STOPPING drawer with nothing in flight is STOPPED (R63). -/
theorem settleDrawer_stopping (h : u.inflight n i = 0) (hst : (u.drawer n i).st = .stopping) :
    u.settleDrawer n i = u.setDrawer n i { u.drawer n i with st := .stopped } := by
  rw [State.settleDrawer, if_neg (by simpa using h)]
  simp only [hst]

/-- A drawer that a command destroys and that has nothing in flight is gone, and the command ends (R53, R63). -/
theorem settleDrawer_dying (h : u.inflight n i = 0) (hst : (u.drawer n i).st = .dying) (hcmd : (u.drawer n i).byCmd = true) :
    ∃ w : State, u.settleDrawer n i = w.result (rDrwResult n) errNone i ∧ w.drawer n i = {} ∧ w.regs = u.regs := by
  rw [State.settleDrawer, if_neg (by simpa using h)]
  simp only [hst, hcmd, if_true]
  exact ⟨_, rfl, State.drawer_setDrawer_same u n i {}, rfl⟩

theorem drwStop_of_free (h : (u.drawer n i).st = .free) : drwStop n i u = (errStale, 0, u) := by simp only [drwStop, h]

theorem drwStop_of_not_live (hf : (u.drawer n i).st ≠ .free) (hl : (u.drawer n i).st ≠ .live) :
    drwStop n i u = (errState, 0, u) := by
  unfold drwStop
  split
  · contradiction
  · contradiction
  · rfl

theorem drwStop_of_live (h : (u.drawer n i).st = .live) :
    drwStop n i u = (errNone, i, (u.setDrawer n i { u.drawer n i with st := .stopping }).settleDrawer n i) := by
  simp only [drwStop, h]

theorem drwStart_of_free (h : (u.drawer n i).st = .free) : drwStart n i u = (errStale, 0, u) := by simp only [drwStart, h]

theorem drwStart_of_stopped (h : (u.drawer n i).st = .stopped ∨ (u.drawer n i).st = .error) :
    drwStart n i u = (errNone, i, u.setDrawer n i { u.drawer n i with st := .live }) := by
  rcases h with h | h <;> simp only [drwStart, h]

theorem drwStart_of_busy (h : (u.drawer n i).st = .live ∨ (u.drawer n i).st = .stopping ∨ (u.drawer n i).st = .dying) :
    drwStart n i u = (errState, 0, u) := by
  rcases h with h | h | h <;> simp only [drwStart, h]

/-- STOP of a LIVE drawer with nothing in flight (R63). -/
theorem drwStop_drawer (h : (u.drawer n i).st = .live) (hfl : u.inflight n i = 0) :
    (drwStop n i u).2.2.drawer n i = { u.drawer n i with st := .stopped } := by
  rw [drwStop_of_live h, settleDrawer_stopping (by exact hfl) (by simp)]
  simp

theorem flights_of_none (h : u.inflight n i = 0) : u.drw.flights.filter (fun g => g.cab == n && g.drawer == i) = [] :=
  List.eq_nil_of_length_eq_zero h

theorem drwDestroy_of_accept {s : State} (h : s.accept (rDrwResult n) = some u) : drwDestroy n i s = match (u.drawer n i).st with
    | .free => u.result (rDrwResult n) errStale 0
    | .dying => u.result (rDrwResult n) errState 0
    | _ => (((({ u with drw := { u.drw with drwBusy := n :: u.drw.drwBusy } }).setDrawer n i
        { u.drawer n i with st := .dying, byCmd := true }).cancelFlights
          (u.drw.flights.filter (fun g => g.cab == n && g.drawer == i))).settleDrawer n i) := by
  simp only [drwDestroy, h]
  rfl

theorem exec_drwDestroy_of_takes {s : State} {f : Sys2Proof.Func} {n : Sys2Proof.CabId} {i : Sys2Proof.DrawerId}
    (h : s.takes f.val n.val 0x440 (rDrwResult n.val) u) : exec (.drwDestroy f n i) s = .next (match (u.drawer n i).st with
    | .free => u.result (rDrwResult n) errStale 0
    | .dying => u.result (rDrwResult n) errState 0
    | _ => (((({ u with drw := { u.drw with drwBusy := n.val :: u.drw.drwBusy } }).setDrawer n i
        { u.drawer n i with st := .dying, byCmd := true }).cancelFlights
          (u.drw.flights.filter (fun g => g.cab == n.val && g.drawer == i.val))).settleDrawer n i)) :=
  (exec_of_mayCommand rfl h.1).trans (congrArg _ (drwDestroy_of_accept h.2))

/-- A field of value 0 adds nothing to a word. -/
theorem pack_skip (l r : List (Nat × Nat)) (k : Nat) : pack (l ++ (k, 0) :: r) = pack (l ++ r) := by
  rw [pack, pack, List.foldl_append, List.foldl_append, List.foldl_cons, Nat.zero_mul, Nat.add_zero]

/-- What a command that ends without error leaves in its result register (R53). -/
theorem result_none_reg (w : State) (res : Nat) {v : Nat} (hv : v < 2 ^ 32) :
    (w.result res errNone v).reg res = pack [(63, 1), (62, w.rfld res 62 62), (0, v)] := by
  rw [result_reg, Nat.mod_eq_of_lt hv]
  exact pack_skip [(63, 1), (62, _)] [(0, _)] 56

/-- DESTROY of a drawer that is in use and not DYING (R61, R63). -/
theorem exec_drwDestroy_of_open {s : State} {f : Sys2Proof.Func} {n : Sys2Proof.CabId} {i : Sys2Proof.DrawerId}
    (h : s.takes f.val n.val 0x440 (rDrwResult n.val) u) (hf : (u.drawer n i).st ≠ .free) (hd : (u.drawer n i).st ≠ .dying) :
    exec (.drwDestroy f n i) s = .next
      (((({ u with drw := { u.drw with drwBusy := n.val :: u.drw.drwBusy } }).setDrawer n i
        { u.drawer n i with st := .dying, byCmd := true }).cancelFlights
          (u.drw.flights.filter (fun g => g.cab == n.val && g.drawer == i.val))).settleDrawer n i) := by
  rw [exec_drwDestroy_of_takes h]
  split
  · contradiction
  · contradiction
  · rfl

end

/-- The configurations that CREATE takes (R60): ring sizes, GEN, MODE, PASID and the alignment of both rings. -/
def drwLegal (a : Word) (pasidEn : Bool) (ring cq : Nat) : Prop :=
  (4 ≤ fld a 4 0 ∧ fld a 4 0 ≤ 20) ∧ (4 ≤ fld a 12 8 ∧ fld a 12 8 ≤ 20) ∧ fld a 17 16 ≠ 0 ∧ fld a 19 18 ≠ 3 ∧
    ¬ (fld a 19 18 = 1 ∧ fld a 17 16 = 1) ∧ ¬ (fld a 20 20 = 1 ∧ pasidEn = false) ∧ ring % 64 = 0 ∧ cq % 64 = 0

section
variable {u : State} {n : Nat}

/-- CREATE below the quota for a LIVE context is decided by its configuration. -/
theorem drwCreate_of_room (hquota : ¬ quotaDrawers (u.cab n).conf ≤ u.useDrawers n)
    (hctx : (u.ctx n (fld (u.reg (rDrwArg n 2)) 45 32)).st = .live) :
    (¬ drwLegal (u.reg (rDrwArg n 2)) (u.ctx n (fld (u.reg (rDrwArg n 2)) 45 32)).pasidEn (u.rfld (rDrwArg n 0) 56 0)
      (u.rfld (rDrwArg n 1) 56 0) → drwCreate n u = (errArg, 0, u)) ∧
    (drwLegal (u.reg (rDrwArg n 2)) (u.ctx n (fld (u.reg (rDrwArg n 2)) 45 32)).pasidEn (u.rfld (rDrwArg n 0) 56 0)
      (u.rfld (rDrwArg n 1) 56 0) → drwCreate n u =
        (errNone, lowestFree (fun i => (u.drawer n i).st != .free) (u.useDrawers n),
          u.setDrawer n (lowestFree (fun i => (u.drawer n i).st != .free) (u.useDrawers n))
            { st := .live, ringBase := u.rfld (rDrwArg n 0) 56 0, cqBase := u.rfld (rDrwArg n 1) 56 0,
              cfg := fld (u.reg (rDrwArg n 2)) 27 0, ctx := fld (u.reg (rDrwArg n 2)) 45 32 })) := by
  unfold drwCreate drwLegal
  rw [if_neg hquota, if_neg (by simp [hctx])]
  refine ⟨fun h => if_pos ?_, fun h => if_neg ?_⟩
  all_goals
    simp only [Bool.or_eq_true, Bool.and_eq_true, Bool.not_eq_true', Bool.and_eq_false_iff, decide_eq_false_iff_not, beq_iff_eq,
      bne_iff_ne]
    grind

end

/-- Settles O13. -/
theorem objectsDrawersAndQueriesOverRegisters : Obligations.ObjectsDrawersAndQueriesOverRegisters := by
  unfold Obligations.ObjectsDrawersAndQueriesOverRegisters
  refine ⟨fun f n s u h => ?objects, fun f n x s u h => ?queries, fun f n s u h => ?create, fun f n i s u h => ?drawers⟩
  case objects =>
    refine ⟨fun hb => ?_, fun hb hc => ?_, fun hb hc hq => ?_, fun hb hc hq => ?_, fun hc => ?_, fun hc hst => ?_,
      fun hc hn hw hq => ?_, fun hc hn hw hq => ?_, fun hn => ?_, fun hn => ?_⟩
    · exact exec_of_takes_eq rfl h (mobjCreate_of_bad hb)
    · exact exec_of_takes_eq rfl h ((mobjCreate_of_good hb).trans (if_pos (by simpa using hc)))
    · exact exec_of_takes_eq rfl h ((mobjCreate_of_good hb).trans (by rw [if_neg (by simpa using hc), if_pos hq]))
    · exact exec_of_takes_eq rfl h ((mobjCreate_of_good hb).trans (by rw [if_neg (by simpa using hc), if_neg hq]))
    · exact exec_of_takes_eq rfl h (if_pos (by simpa using hc))
    · refine exec_of_takes_eq rfl h ((if_neg (by simpa using hc)).trans (if_pos ?_))
      rcases hst with hst | hst <;> simp [hst]
    · exact exec_of_takes_eq rfl h ((if_neg (by simpa using hc)).trans ((if_neg (by simp [hn, hw])).trans (if_pos hq)))
    · refine exec_of_takes_eq rfl h ((if_neg (by simpa using hc)).trans ((if_neg (by simp [hn, hw])).trans ((if_neg hq).trans ?_)))
      exact mobjAlias_handle ..
    · exact exec_of_takes_eq rfl h (if_neg (by simp [hn]))
    · exact exec_of_takes_eq rfl h (if_pos hn)
  case queries =>
    refine ⟨fun hc => ?_, fun hc => ?_, ?_, fun ws hws k hk => putQuery_reg u n hws hk⟩
    · rw [exec_qryContext_of_takes h, State.queryCtx, if_pos (by simp [hc])]
    · rw [exec_qryContext_of_takes h, State.queryCtx, if_neg (by simp [hc])]
    · exact exec_qryCabinet_of_takes h
  case create =>
    refine ⟨fun hq => ?_, fun hq hc => ?_, fun hq hc hl => ?_, fun hq hc hl hroom => ?_⟩
    · exact exec_of_takes_eq rfl h (if_pos hq)
    · exact exec_of_takes_eq rfl h ((if_neg hq).trans (if_pos (by simpa using hc)))
    · exact exec_of_takes_eq rfl h ((drwCreate_of_room hq hc).1 hl)
    · obtain ⟨hfree, hlow⟩ := lowestFree_spec (exists_free_drawer hroom)
      exact ⟨_, by simpa using hfree, fun j hj => by simpa using hlow j hj, exec_of_takes_eq rfl h ((drwCreate_of_room hq hc).2 hl)⟩
  case drawers =>
    refine ⟨fun hd => ?free, fun hf hl => ?notLive, fun hl hfl => ?stopping, fun hl hfl => ?stopped, fun hd => ?start,
      fun hd => ?noStart, fun hd => ?dying, fun hf hd hfl => ?destroy, fun hf hd hfl => ?gone⟩
    case free =>
      simp only [List.forall_mem_cons, List.not_mem_nil, false_implies, implies_true, and_true]
      refine ⟨exec_of_takes_eq rfl h (drwStop_of_free hd), exec_of_takes_eq rfl h (drwStart_of_free hd), ?_⟩
      rw [exec_drwDestroy_of_takes h, hd]
    case notLive => exact exec_of_takes_eq rfl h (drwStop_of_not_live hf hl)
    case stopping => exact exec_of_takes_eq rfl h ((drwStop_of_live hl).trans (by rw [settleDrawer_of_busy (by exact hfl)]))
    case stopped => exact ⟨_, exec_of_takes rfl h, (result_drawer ..).trans (drwStop_drawer hl hfl)⟩
    case start => exact exec_of_takes_eq rfl h (drwStart_of_stopped hd)
    case noStart => exact exec_of_takes_eq rfl h (drwStart_of_busy hd)
    case dying => rw [exec_drwDestroy_of_takes h, hd]
    case destroy => exact exec_drwDestroy_of_open h hf hd
    case gone =>
      refine ⟨_, exec_drwDestroy_of_open h hf hd, ?_⟩
      obtain ⟨w, hw, hgone, hregs⟩ := settleDrawer_dying
        (u := ({ u with drw := { u.drw with drwBusy := n.val :: u.drw.drwBusy } }).setDrawer n i
          { u.drawer n i with st := .dying, byCmd := true }) hfl (by simp) (by simp)
      rw [flights_of_none hfl, State.cancelFlights, List.foldl_nil, hw]
      refine ⟨(result_drawer ..).trans hgone, ?_⟩
      rw [result_none_reg w _ (by omega), rfld_of_regs (t := u) hregs]

end Sys2Proof.Machine
end

section
/-! PROOFS. The latch commands (O14; R104, R110). -/
namespace Sys2Proof.Machine

/-! ### ARM -/

section
variable {u : State} {n : Nat}

/-- What ARM does for a fence its context owns, from the options and the latch that watches the fence. -/
def armOwned (u : State) (n : Nat) : Nat × Nat × State :=
  if u.rfld (rLatArg n 3) 0 0 = 1 ∧ u.rfld (rLatArg n 2) 56 0 % 8 ≠ 0 then (errArg, 0, u)
  else if u.rfld (rLatArg n 3) 8 8 = 1 ∧ u.exporter n (u.rfld (rLatArg n 3) 27 16) ≠ none then (errArg, 0, u)
  else match u.latchOf n (u.obj (handleIdx (u.rfld (rLatArg n 0) 31 0))).orig with
    | some k => (errNone, k, (u.setLatch k (armFields u n (u.latch k))).evalLatch k)
    | none => if u.useLatches n < quotaLatches (u.cab n).conf then
        (errNone, u.freeLatch, ((u.setLatch u.freeLatch (armFields u n { watchLatch u n (u.rfld (rLatArg n 0) 45 32)
          (u.rfld (rLatArg n 0) 31 0) (u.obj (handleIdx (u.rfld (rLatArg n 0) 31 0))).orig with
            fence := u.rfld (rLatArg n 0) 31 0 })).shareLatch u.freeLatch).evalLatch u.freeLatch)
      else (errQuota, 0, u)

theorem latArm_of_dead (h : (u.ctx n (u.rfld (rLatArg n 0) 45 32)).st ≠ .live) : latArm n u = (errNoCtx, 0, u) :=
  if_pos (by simpa using h)

section
variable (hctx : (u.ctx n (u.rfld (rLatArg n 0) 45 32)).st = .live)
include hctx

theorem latArm_of_stale (h : u.owns n (u.rfld (rLatArg n 0) 45 32) (u.rfld (rLatArg n 0) 31 0) = false) :
    latArm n u = (errStale, 0, u) :=
  (if_neg (by simp [hctx])).trans (if_pos (by simp [h]))

variable (hown : u.owns n (u.rfld (rLatArg n 0) 45 32) (u.rfld (rLatArg n 0) 31 0) = true)
include hown

theorem latArm_of_no_fence (h : (u.obj (handleIdx (u.rfld (rLatArg n 0) 31 0))).fence = false) : latArm n u = (errArg, 0, u) :=
  (if_neg (by simp [hctx])).trans ((if_neg (by simp [hown])).trans (if_pos (by simp [h])))

variable (hfence : (u.obj (handleIdx (u.rfld (rLatArg n 0) 31 0))).fence = true)
include hfence

theorem latArm_of_used {k : Nat} (hk : u.latchOf n (u.obj (handleIdx (u.rfld (rLatArg n 0) 31 0))).orig = some k)
    (hst : (u.latch k).st ≠ .watch) : latArm n u = (errState, 0, u) :=
  (if_neg (by simp [hctx])).trans ((if_neg (by simp [hown])).trans ((if_neg (by simp [hfence])).trans (if_pos (by simp [hk, hst]))))

theorem latArm_of_owned (h : ∀ k, u.latchOf n (u.obj (handleIdx (u.rfld (rLatArg n 0) 31 0))).orig = some k → (u.latch k).st = .watch) :
    latArm n u = armOwned u n := by
  refine (if_neg (by simp [hctx])).trans ((if_neg (by simp [hown])).trans ((if_neg (by simp [hfence])).trans ((if_neg ?_).trans ?_)))
  · cases hcur : u.latchOf n (u.obj (handleIdx (u.rfld (rLatArg n 0) 31 0))).orig with
    | none => simp
    | some k => simp [h k hcur]
  · simp only [armOwned, Option.isSome_iff_ne_none] <;> rfl

end

section
variable (hmirror : ¬ (u.rfld (rLatArg n 3) 0 0 = 1 ∧ u.rfld (rLatArg n 2) 56 0 % 8 ≠ 0))
variable (hexport : ¬ (u.rfld (rLatArg n 3) 8 8 = 1 ∧ u.exporter n (u.rfld (rLatArg n 3) 27 16) ≠ none))
include hmirror hexport

theorem armOwned_of_watched {k : Nat} (hk : u.latchOf n (u.obj (handleIdx (u.rfld (rLatArg n 0) 31 0))).orig = some k) :
    armOwned u n = (errNone, k, (u.setLatch k (armFields u n (u.latch k))).evalLatch k) := by
  simp only [armOwned, if_neg hmirror, if_neg hexport, hk]

theorem armOwned_of_unwatched (hk : u.latchOf n (u.obj (handleIdx (u.rfld (rLatArg n 0) 31 0))).orig = none) :
    armOwned u n = if u.useLatches n < quotaLatches (u.cab n).conf then
        (errNone, u.freeLatch, ((u.setLatch u.freeLatch (armFields u n { watchLatch u n (u.rfld (rLatArg n 0) 45 32)
          (u.rfld (rLatArg n 0) 31 0) (u.obj (handleIdx (u.rfld (rLatArg n 0) 31 0))).orig with
            fence := u.rfld (rLatArg n 0) 31 0 })).shareLatch u.freeLatch).evalLatch u.freeLatch)
      else (errQuota, 0, u) := by
  simp only [armOwned, if_neg hmirror, if_neg hexport, hk]

end

theorem armOwned_of_bad (h : (u.rfld (rLatArg n 3) 0 0 = 1 ∧ u.rfld (rLatArg n 2) 56 0 % 8 ≠ 0) ∨
    (u.rfld (rLatArg n 3) 8 8 = 1 ∧ u.exporter n (u.rfld (rLatArg n 3) 27 16) ≠ none)) : armOwned u n = (errArg, 0, u) := by
  unfold armOwned
  split
  · rfl
  · next hm => rw [if_pos (h.resolve_left hm)]

end

/-! ### REARM, DISARM and EVAL -/

section
variable {u : State} {n k : Nat}

theorem ownLatch_of (hst : (u.latch k).st ≠ .free) (hcab : (u.latch k).cab = n) : u.ownLatch n k = true := by
  simp [State.ownLatch, hst, hcab]

theorem ownLatch_of_other (h : (u.latch k).st = .free ∨ (u.latch k).cab ≠ n) : u.ownLatch n k = false := by
  rcases h with h | h <;> simp [State.ownLatch, h]

theorem latch_not_free (h : (u.latch k).st = .armed ∨ (u.latch k).st = .spent) : (u.latch k).st ≠ .free := by
  rcases h with h | h <;> simp [h]

theorem latch_not_watch (h : (u.latch k).st = .armed ∨ (u.latch k).st = .spent) : ((u.latch k).st == .watch) = false := by
  rcases h with h | h <;> simp [h]

/-- A latch as DISARM leaves it while WAITs are at it (R104). -/
def Latch.disarmed (x : Latch) : Latch :=
  { x with st := .watch, threshold := 0, mirrorEn := false, mirrorVa := 0, exportEn := false, exportId := 0, pollUs := 0 }

theorem waiters_setLatch (u : State) (j k : Nat) (v : Latch) : (u.setLatch j v).waiters k = u.waiters k := rfl

/-- A latch is FREE once released, unless a WAIT of its cabinet starves (R104, R108). -/
theorem releaseLatch_of_none (h : u.lat.waits.find? (fun w => w.cab == (u.latch k).cab && w.latch == none) = none) :
    u.releaseLatch k = u.setLatch k {} := by
  have h' : (u.setLatch k {}).lat.waits.find? (fun w => w.cab == (u.latch k).cab && w.latch == none) = none := h
  simp only [State.releaseLatch, h']

theorem disarm_of_waiters (h : u.waiters k ≠ []) : u.disarm k = u.setLatch k (u.latch k).disarmed := by
  rw [State.disarm, ← Latch.disarmed, State.settleLatch, waiters_setLatch, if_neg (by simpa using fun _ => h)]

/-- DISARM of a latch without WAITs, where no WAIT of its cabinet starves, lets it go (R104). -/
theorem disarm_latch_of_none (hcab : (u.latch k).cab = n) (h : u.waiters k = [])
    (hstarve : ∀ w ∈ u.lat.waits, w.cab = n → w.latch ≠ none) : (u.disarm k).latch k = {} := by
  have hfind : u.lat.waits.find? (fun w => w.cab == (u.latch k).cab && w.latch == none) = none := by
    simpa [hcab] using hstarve
  rw [State.disarm, ← Latch.disarmed, State.settleLatch, waiters_setLatch, h, State.latch_setLatch_same, if_pos (by rfl),
    releaseLatch_of_none (by rw [State.latch_setLatch_same]; exact hfind), State.latch_setLatch_same]

end

/-- The value of a command that ends without error, as read in its result register (R53). -/
theorem result_none_value (s : State) (res : Nat) {v : Nat} (hv : v < 2 ^ 32) : (s.result res errNone v).rfld res 31 0 = v := by
  rw [State.rfld, result_none_reg s res hv, fld, bitsOf]
  simp only [pack, List.foldl, BitVec.toNat_ofNat]
  omega

/-- Settles O14. -/
theorem latchesArmRearmAndDisarm : Obligations.LatchesArmRearmAndDisarm := by
  unfold Obligations.LatchesArmRearmAndDisarm
  refine ⟨fun f n s u h => ?arm, fun f n l s u h => ?others⟩
  case arm =>
    refine ⟨fun hc => ?_, fun hc ho => ?_, fun hc ho hf => ?_, fun k hc ho hf hk hw => ?_, fun hc ho hf hk hb => ?_,
      fun k hc ho hf hk hw hm he => ?_, fun hc ho hf hk hm he hq => ?_, fun hc ho hf hk hm he hq => ?_⟩
    · exact exec_of_takes_eq rfl h (latArm_of_dead hc)
    · exact exec_of_takes_eq rfl h (latArm_of_stale hc ho)
    · exact exec_of_takes_eq rfl h (latArm_of_no_fence hc ho hf)
    · exact exec_of_takes_eq rfl h (latArm_of_used hc ho hf hk hw)
    · exact exec_of_takes_eq rfl h ((latArm_of_owned hc ho hf hk).trans (armOwned_of_bad hb))
    · refine exec_of_takes_eq rfl h ((latArm_of_owned hc ho hf fun j hj => ?_).trans (armOwned_of_watched hm he hk))
      cases hk.symm.trans hj
      exact hw
    · refine exec_of_takes_eq rfl h ((latArm_of_owned hc ho hf fun j hj => ?_).trans ((armOwned_of_unwatched hm he hk).trans (if_neg ?_)))
      · cases hk.symm.trans hj
      · exact Nat.not_lt.2 hq
    · refine exec_of_takes_eq rfl h ((latArm_of_owned hc ho hf fun j hj => ?_).trans ((armOwned_of_unwatched hm he hk).trans (if_pos ?_)))
      · cases hk.symm.trans hj
      · exact Nat.not_le.1 hq
  case others =>
    refine ⟨fun hx => ?stale, fun hx hcab => ⟨?_, ?_⟩, fun hx hcab => ⟨?rearm, fun hw => ?_, fun hw hst => ?_⟩, fun hx hcab => ?eval⟩
    case stale =>
      have hown := ownLatch_of_other hx
      simp only [List.forall_mem_cons, List.not_mem_nil, false_implies, implies_true, and_true]
      exact ⟨exec_of_takes_eq rfl h (if_pos (by simp [hown])), exec_of_takes_eq rfl h (if_pos (by simp [hown])),
        exec_of_takes_eq rfl h (if_pos (by simp [hown]))⟩
    case eval => exact exec_of_takes_eq rfl h (if_neg (by simp [ownLatch_of hx hcab]))
    case rearm => exact exec_of_takes_eq rfl h ((if_neg (by simp [ownLatch_of (latch_not_free hx) hcab])).trans
        (if_neg (by simp [latch_not_watch hx])))
    · exact exec_of_takes_eq rfl h ((if_neg (by simp [ownLatch_of (by simp [hx]) hcab])).trans (if_pos (by simp [hx])))
    · exact exec_of_takes_eq rfl h ((if_neg (by simp [ownLatch_of (by simp [hx]) hcab])).trans (if_pos (by simp [hx])))
    · exact exec_of_takes_eq rfl h ((if_neg (by simp [ownLatch_of (latch_not_free hx) hcab])).trans
        ((if_neg (by simp [latch_not_watch hx])).trans (by rw [disarm_of_waiters hw]; rfl)))
    · refine ⟨_, exec_of_takes_eq rfl h ((if_neg (by simp [ownLatch_of (latch_not_free hx) hcab])).trans
        (if_neg (by simp [latch_not_watch hx]))), ?_, ?_⟩
      · rw [State.latch, State.result_lat]
        exact disarm_latch_of_none hcab hw hst
      · exact result_none_value _ _ (by omega)

end Sys2Proof.Machine
end

section
/-! PROOFS. Latches evaluate, polls run, a local SIGNAL acts, and WAITs attach and end (O15, O16; R91 to R108, R506). -/
namespace Sys2Proof.Machine

/-! ### Evaluation (R101, R104) -/

section
variable {s v w : State} {n : Nat}

theorem latchHit_of_no_mirror (h : (s.latch n).mirrorEn = false) (val : Nat) :
    s.latchHit n val = s.setLatch n { s.latch n with st := .spent } := by
  have hwrite : s.mirrorWrite n val = (true, s) := if_neg (by simp [h])
  rw [State.latchHit, hwrite]
  rfl

theorem settleLatch_of_waiting (h : (s.latch n).st ≠ .watch) : s.settleLatch n = s :=
  if_neg (by simp [h])

theorem evalLatch_of_wait (hst : (s.latch n).st ≠ .free)
    (hread : s.readFence (s.latch n).cab (s.latch n).ctx (s.latch n).obj = (.wait, v)) :
    s.evalLatch n = v.setLatch n { v.latch n with dirty := true } := by
  rw [State.evalLatch, if_neg (by simpa using hst)]
  simp only [hread]

theorem evalLatch_of_bad {st u : Nat} {k : Option (Bool × Nat)} (hst : (s.latch n).st ≠ .free)
    (hread : s.readFence (s.latch n).cab (s.latch n).ctx (s.latch n).obj = (.bad st u k, v)) :
    s.evalLatch n = v.latchFails n st u k := by
  rw [State.evalLatch, if_neg (by simpa using hst)]
  simp only [hread]

/-- The fence's first two words show an error (R89). -/
def fenceErrs (val : Nat) : Bool := decide (2 ^ 63 ≤ val ∨ val = fenceError)

/-- A latch after a read of `val` at `p` (R101). -/
def Latch.read (x : Latch) (host : Bool) (p val : Nat) : Latch :=
  { x with dirty := false, known := true, host := host, pa := p, errored := fenceErrs val, last := val % 2 ^ 63,
           regress := if val % 2 ^ 63 < x.last then min (x.regress + 1) 65535 else x.regress }

/-- An ARMED latch without a mirror and without WAITs keeps what it read, and is SPENT at its threshold (R104). -/
theorem evalLatch_of_armed {val w1 p : Nat} {host : Bool} (hst : (s.latch n).st = .armed)
    (hread : s.readFence (s.latch n).cab (s.latch n).ctx (s.latch n).obj = (.ok val w1 host p, w))
    (hwait : w.waiters n = []) (hmirror : (s.latch n).mirrorEn = false) :
    (s.evalLatch n).latch n = { (s.latch n).read host p val with
      st := if fenceErrs val = true ∨ (s.latch n).threshold ≤ val then .spent else .armed } := by
  have hw : ∀ y, ((w.tally uLatch 4 (some (s.latch n).cab)).setLatch n y).waiters n = [] := fun y => by
    rw [waiters_setLatch, State.waiters, State.tally_lat]
    exact hwait
  rw [State.evalLatch, if_neg (by simp [hst])]
  simp only [hread, hw, List.foldl_nil, hst]
  rw [settleLatch_of_waiting (by simp)]
  by_cases hhit : fenceErrs val = true ∨ (s.latch n).threshold ≤ val
  · rw [if_pos (by simpa [fenceErrs] using hhit), latchHit_of_no_mirror (by simpa using hmirror), if_pos hhit]
    simp [Latch.read, fenceErrs]
  · rw [if_neg (by simpa [fenceErrs] using hhit), if_neg hhit]
    simp [Latch.read, fenceErrs, hst]

theorem readFence_of_read {cab ctx obj p : Nat} {host rm : Bool} {bs : List Byte}
    (hx : s.xlate (latAsker cab ctx) (s.obj obj).base false = (.ok host p rm, v))
    (hr : v.readAt (latAsker cab ctx) host p 16 = (.ok bs, w)) :
    s.readFence cab ctx obj = (.ok (leAt bs 0 8) (leAt bs 8 8) host p, w) := by
  simp only [State.readFence, hx, hr]

end

/-! ### Polls (R103, R108) -/

section
variable {s : State} {n : Nat}

theorem hostPoll_of_not_due (h : (s.latch n).st = .free ∨ (s.latch n).host = false ∨ s.mono < (s.latch n).nextPoll) :
    hostPoll n s = s := by
  refine if_neg ?_
  rcases h with h | h | h
  · simp [h]
  · simp [h]
  · simp [Nat.not_le.2 h]

theorem hostPoll_of_due (hst : (s.latch n).st ≠ .free) (hhost : (s.latch n).host = true) (hdue : (s.latch n).nextPoll ≤ s.mono) :
    hostPoll n s = (((if (s.latch n).pollDue < (s.latch n).nextPoll then s.bump rLatGstat 31 16 else s)).setLatch n
      ((if (s.latch n).pollDue < (s.latch n).nextPoll then s.bump rLatGstat 31 16 else s).schedulePoll (s.latch n))).evalLatch n :=
  if_pos (by simp [hst, hhost, hdue])

theorem reg_bump_other {off o hi lo k : Nat} (h : o ≠ off) : (s.bump off hi lo k).reg o = s.reg o := by
  rw [State.bump, State.setRfld, State.reg_setReg, if_neg h]

theorem rfld_bump_other {off o hi lo k a b : Nat} (h : o ≠ off) : (s.bump off hi lo k).rfld o a b = s.rfld o a b := by
  rw [State.rfld, State.rfld, reg_bump_other h]

/-- Counting a late poll leaves the poll intervals. -/
theorem pollUs_bump (x : Latch) : (s.bump rLatGstat 31 16).pollUs x = s.pollUs x := by
  have hne : rLatCfg x.cab ≠ rLatGstat := by unfold rLatCfg rWin rLatGstat; omega
  rw [State.pollUs, State.pollUs, rfld_bump_other hne]

theorem schedulePoll_bump (x : Latch) : (s.bump rLatGstat 31 16).schedulePoll x = s.schedulePoll x := by
  have hcycles : (s.bump rLatGstat 31 16).cycles = s.cycles := rfld_bump_other (by decide)
  have hdemand : (s.bump rLatGstat 31 16).pollDemand = s.pollDemand := by
    simp only [State.pollDemand, State.bump_lat, pollUs_bump]
  simp only [State.schedulePoll, State.stretch, pollUs_bump, hcycles, hdemand, State.bump_mono]

/-- Within the poll budget no interval is stretched (R103). -/
theorem stretch_of_budget (h : 8 * s.pollDemand ≤ 2 ^ 32 * s.cycles) (ns : Nat) : s.stretch ns = ns := by
  by_cases hb : 2 ^ 32 * s.cycles = 0
  · exact if_pos hb
  · refine (if_neg hb).trans ?_
    rw [Nat.max_eq_left h, Nat.mul_div_cancel _ (Nat.pos_of_ne_zero hb)]

theorem starvedPoll_of_none (hdue : mapGet 0 n s.lat.starveAt ≤ s.mono) (h : ∀ w ∈ s.lat.waits, w.cab = n → w.latch ≠ none) :
    starvedPoll n s = { s with lat := { s.lat with
      starveAt := mapSet 0 n (s.mono + max 1 (s.rfld (rLatCfg n) 47 32) * 1000) s.lat.starveAt } } := by
  have hnone : s.lat.waits.filter (fun w => w.cab == n && w.latch == none) = [] := by simpa using h
  rw [starvedPoll, if_pos hdue]
  simp only [hnone, List.foldl_nil]

end

/-! ### SIGNAL (R96, R97) -/

section
variable {s : State} {f : Flight} {n : Sys2Proof.CabId} {d : Sys2Proof.DrawerId} {q : Sys2Proof.Seq}

theorem exec_signalLocal (h : s.serves uLatch) (hop : s.issuedOp n.val d.val q.val 0x30 = some f) (hlocal : leAt f.body 0 1 = 0) :
    exec (.signalLocal n d q) s = .next (signalLocal f s) := by
  refine (exec_of_work rfl h).trans (congrArg _ ?_)
  simp only [hop, hlocal, if_true]

end

/-! ### WAIT (R98, R99) -/

theorem fenceVerdict_of_value {v w1 value : Nat} (h : v < 2 ^ 63 - 1) :
    fenceVerdict v w1 value = if value ≤ v then some { status := stDone } else none :=
  if_neg (by unfold fenceError; omega)

/-- An error word's code, where it is one of R89's, ends the WAIT; another is FORMAT (R99). -/
theorem fenceVerdict_of_error {v w1 value : Nat} (h : 2 ^ 63 - 1 ≤ v) (hw : w1 < 2 ^ 64) :
    fenceVerdict v w1 value = if 1 ≤ w1 / 2 ^ 60 ∧ w1 / 2 ^ 60 ≤ 11 then
      some { status := w1 / 2 ^ 60, unit := some (w1 / 2 ^ 48 % 4096), relay := some (BitVec.ofNat 64 w1) }
    else some { status := stFormat, unit := some uLatch } := by
  have hcode : bitsOf w1 63 60 = w1 / 2 ^ 60 := by rw [bitsOf]; omega
  have hunit : bitsOf w1 59 48 = w1 / 2 ^ 48 % 4096 := rfl
  refine (if_pos (by unfold fenceError; omega)).trans ?_
  rw [hcode, hunit]

section
variable {s v : State} {f : Flight} {x w1 p : Nat} {host : Bool} {n : Sys2Proof.CabId} {d : Sys2Proof.DrawerId} {q : Sys2Proof.Seq}

theorem exec_waitDesc (h : s.serves uLatch) (hop : s.issuedOp n.val d.val q.val 0x31 = some f) :
    exec (.waitDesc n d q) s = .next ((waitIssue f s).noteActivity f.cab f.ctx) := by
  refine (exec_of_work rfl h).trans (congrArg _ ?_)
  simp only [hop]

/-- The WAIT that a descriptor attaches at latch `k`, or starves with. -/
def waitOf (s : State) (f : Flight) (k : Option Nat) : Waiting :=
  { cab := f.cab, drawer := f.drawer, seq := f.seq, obj := (s.obj (handleIdx (leAt f.body 0 4))).orig, fence := leAt f.body 0 4,
    value := leAt f.body 8 8, latch := k, deadline := waitLimit f }

section
variable (hread : s.readFence f.cab f.ctx (s.obj (handleIdx (leAt f.body 0 4))).orig = (.ok x w1 host p, v))
include hread

theorem waitIssue_of_verdict {e : Ending} (h : fenceVerdict x w1 (leAt f.body 8 8) = some e) :
    waitIssue f s = v.endFlight f.cab f.drawer f.seq e := by
  simp only [waitIssue, hread, h]

variable (hnone : fenceVerdict x w1 (leAt f.body 8 8) = none)
include hnone

theorem waitIssue_of_latch {k : Nat} (hk : v.latchOf f.cab (s.obj (handleIdx (leAt f.body 0 4))).orig = some k) :
    (waitIssue f s).lat = { v.lat with waits := v.lat.waits ++ [waitOf s f (some k)] } := by
  have hk' : (v.startFlight f).latchOf f.cab (s.obj (handleIdx (leAt f.body 0 4))).orig = some k := hk
  simp only [waitIssue, hread, hnone, hk']
  rfl

theorem waitIssue_of_starve (hk : v.latchOf f.cab (s.obj (handleIdx (leAt f.body 0 4))).orig = none)
    (hfull : quotaLatches (v.cab f.cab).conf ≤ v.useLatches f.cab) :
    (waitIssue f s).lat = { v.lat with waits := v.lat.waits ++ [waitOf s f none] } := by
  have hk' : (v.startFlight f).latchOf f.cab (s.obj (handleIdx (leAt f.body 0 4))).orig = none := hk
  have hfull' : ¬ (v.startFlight f).useLatches f.cab < quotaLatches ((v.startFlight f).cab f.cab).conf := Nat.not_lt.2 hfull
  simp only [waitIssue, hread, hnone, hk', if_neg hfull', State.bump_lat]
  rfl

end

/-! ### WAIT_TIMEOUT (R99) -/

/-- A WAIT's deadline has passed. -/
def passed (s : State) (at' : Option Nat) : Bool := at'.any (fun d => decide (d ≤ s.mono))

theorem waitTimeout_of_waiting {cab drawer seq : Nat} {w : Waiting}
    (hw : s.lat.waits.find? (fun w => w.cab == cab && w.drawer == drawer && w.seq == seq) = some w) :
    waitTimeout cab drawer seq s = if passed s w.deadline then
      (match w.latch with
        | some k => ((s.endWait w { status := stTimeout, unit := some uLatch }).bump (rLatStat cab) 31 24).settleLatch k
        | none => (s.endWait w { status := stTimeout, unit := some uLatch }).bump (rLatStat cab) 31 24) else s := by
  simp only [waitTimeout, hw]
  rfl

theorem waitTimeout_of_issued {cab drawer seq : Nat}
    (hw : s.lat.waits.find? (fun w => w.cab == cab && w.drawer == drawer && w.seq == seq) = none)
    (hop : s.issuedOp cab drawer seq 0x31 = some f) :
    waitTimeout cab drawer seq s = if passed s (waitLimit f) then
      (s.endFlight cab drawer seq { status := stTimeout, unit := some uLatch }).bump (rLatStat cab) 31 24 else s := by
  simp only [waitTimeout, hw, hop]
  rfl

end

/-- Settles O15. -/
theorem latchesEvaluatePollAndSignal : Obligations.LatchesEvaluatePollAndSignal := by
  unfold Obligations.LatchesEvaluatePollAndSignal
  refine ⟨fun l s v w host rm p bs h => ⟨fun hd => ?clean, fun hd hst hx hr hw hm => ?armed, fun hd hst hr => ?wait,
    fun st u k hd hst hr => ?bad⟩, ⟨fun l s h => ⟨fun hx => ?notDue, fun hst hh hn hp => ?due, fun hst hh hn hp => ?late, rfl,
    fun hb => congrArg _ (stretch_of_budget hb _)⟩, fun n s h => ⟨fun hn => ?early, fun hn hw => ?starved⟩⟩,
    fun n d q s v f h hop hlocal => ⟨fun hs => ?_, fun st u hs => ?_, fun hs => ?_⟩⟩
  case clean => exact idles_of_work rfl h (if_neg (by simp [hd]))
  case armed =>
    refine ⟨_, exec_of_work rfl h, ?_⟩
    dsimp only
    rw [if_pos hd, evalLatch_of_armed hst (readFence_of_read hx hr) hw hm]
    rfl
  case wait => exact (exec_of_work rfl h).trans (congrArg _ ((if_pos hd).trans (evalLatch_of_wait hst hr)))
  case bad => exact (exec_of_work rfl h).trans (congrArg _ ((if_pos hd).trans (evalLatch_of_bad hst hr)))
  case notDue => exact idles_of_work rfl h (hostPoll_of_not_due hx)
  case due =>
    refine (exec_of_work rfl h).trans (congrArg _ ((hostPoll_of_due hst hh hn).trans ?_))
    rw [if_neg (Nat.not_lt.2 hp)]
  case late =>
    refine (exec_of_work rfl h).trans (congrArg _ ((hostPoll_of_due hst hh hn).trans ?_))
    rw [if_pos hp, schedulePoll_bump]
  case early => exact idles_of_work rfl h (if_neg (Nat.not_le.2 hn))
  case starved => exact ⟨_, exec_of_work rfl h, by rw [starvedPoll_of_none hn hw]; exact mapGet_set_same ..⟩
  all_goals
    rw [exec_signalLocal h hop hlocal, signalLocal]
    simp only [hs]

/-- Settles O16. -/
theorem waitsAttachAndEnd : Obligations.WaitsAttachAndEnd := by
  unfold Obligations.WaitsAttachAndEnd
  refine ⟨fun n d q s v f x w1 p host h hop => ?issue, fun v w1 value hv hw => ⟨fun hlt hle => ?met, fun hlt hle => ?unmet,
    fun hge h1 h11 => ?code, fun hge hbad => ?format⟩, fun n d q s w h hw => ?attached, fun n d q s f h hw hop => ?stalled⟩
  case issue =>
    intro obj us due w hread
    refine ⟨fun e he => ?_, fun k hnone hk => ⟨_, exec_waitDesc h hop, ?_⟩, fun hnone hk hfull => ⟨_, exec_waitDesc h hop, ?_⟩⟩
    · rw [exec_waitDesc h hop, waitIssue_of_verdict hread he]
    · exact State.noteActivity_lat.trans (waitIssue_of_latch hread hnone hk)
    · exact State.noteActivity_lat.trans (waitIssue_of_starve hread hnone hk hfull)
  case met => rw [fenceVerdict_of_value hlt, if_pos hle]
  case unmet => rw [fenceVerdict_of_value hlt, if_neg (by omega)]
  case code => rw [fenceVerdict_of_error hge hw, if_pos ⟨h1, h11⟩]
  case format => rw [fenceVerdict_of_error hge hw, if_neg (by omega)]
  case attached =>
    refine ⟨fun t ht hlt => ?_, fun ht => ?_, fun t ht hle hl => ?_, fun t k ht hle hl => ?_⟩
    · exact idles_of_work rfl h ((waitTimeout_of_waiting hw).trans (if_neg (by simp [passed, ht, hlt])))
    · exact idles_of_work rfl h ((waitTimeout_of_waiting hw).trans (if_neg (by simp [passed, ht])))
    · refine (exec_of_work rfl h).trans (congrArg _ ((waitTimeout_of_waiting hw).trans ((if_pos (by simp [passed, ht, hle])).trans ?_)))
      simp only [hl]
    · refine (exec_of_work rfl h).trans (congrArg _ ((waitTimeout_of_waiting hw).trans ((if_pos (by simp [passed, ht, hle])).trans ?_)))
      simp only [hl]
  case stalled =>
    refine ⟨fun hx => ?_, fun hne hle => ?_⟩
    · refine idles_of_work rfl h ((waitTimeout_of_issued hw hop).trans (if_neg ?_))
      rcases hx with hx | hx
      · simp [passed, waitLimit, hx]
      · by_cases h0 : leAt f.body 4 4 = 0 <;> simp [passed, waitLimit, h0, hx]
    · exact (exec_of_work rfl h).trans (congrArg _ ((waitTimeout_of_issued hw hop).trans (if_pos (by simp [passed, waitLimit, hne, hle]))))

end Sys2Proof.Machine
end

section
/-! PROOFS. Why O19 fails: BYPASS_LIMIT_EXPIRY first lets held commands whose wait is over enter the order (R188, R194). -/
namespace Sys2Proof.Machine

/-- The holds of the commands after a command. -/
def holdsAfter : Host.Outcome State Fault Refusal → List (List Hold)
  | .next t => t.ts.cmds.map (·.holds)
  | _ => []

/-- A command that heads the order of cabinet 2 and was held for an APPLY that is over. -/
def lapsed : Cmd :=
  { cab := 2, n := 4, ctx := 5, alloc := 1, desc := none, op := 1, direct := false, prio := 0, tilesN := 1, key := 0, code := 0,
    aux := 0, ntokens := 0, outs := [], phase := .waiting, readyAt := 0, waitFrom := 0, tiles := [], done := [],
    holds := [.applyEnd] }

/-- The command is the only one, of context 5; tile 128 is free. -/
def lapsing : State :=
  let s := (oneLive.setCtx 2 5 { st := .live, alloc := 1, root := 0x40000000 }).setTile 128 { cab := some 2 }
  { s with ts := { s.ts with cmds := [lapsed] } }

/-- Refutes O19: the head of the order waits behind a hold that is over, and its bypass limit has not passed. The statement
leaves the state as it is; BYPASS_LIMIT_EXPIRY drops the hold and starts its wait afresh. -/
theorem not_tileCommandsReachTilesInOrder : ¬ Obligations.TileCommandsReachTilesInOrder := by
  unfold Obligations.TileCommandsReachTilesInOrder
  rintro ⟨-, -, hbypass⟩
  obtain ⟨-, hhead⟩ := hbypass 2 lapsing (by unfold State.serves; decide +kernel)
  obtain ⟨hearly, -⟩ := hhead lapsed [] (by decide +kernel)
  have hsame : exec (.bypassLimitExpiry 2) lapsing = .next lapsing := hearly (by decide +kernel)
  have hholds : holdsAfter (exec (.bypassLimitExpiry 2) lapsing) = [[]] := by decide +kernel
  rw [hsame] at hholds
  exact absurd hholds (by decide +kernel)

end Sys2Proof.Machine
end

section
/-! PROOFS. Kills, replays, tile reports and tile events (O21; R139, R192 to R194, R371, R479, R480). -/
namespace Sys2Proof.Machine

/-- A fold leaves what each of its steps leaves. -/
theorem foldl_leaves {α β : Type} {p : State → β} {f : State → α → State} (hf : ∀ s x, p (f s x) = p s) (l : List α) (s : State) :
    p (l.foldl f s) = p s := by
  induction l generalizing s with
  | nil => rfl
  | cons x r ih => exact (ih _).trans (hf s x)

/-! ### Commands under their number -/

section
variable {s : State} {m k : Nat} {c : Cmd}

theorem Cmd.is_of_cmd (h : s.cmd m k = some c) : c.cab = m ∧ c.n = k := by
  simpa [Cmd.is] using List.find?_some h

/-- A command found under its number is still found after the commands are mapped with their numbers kept. -/
theorem cmd_of_map {t : State} {f : Cmd → Cmd} (ht : t.ts.cmds = s.ts.cmds.map f) (hf : ∀ x, (f x).is m k = x.is m k)
    (h : s.cmd m k = some c) : t.cmd m k = some (f c) := by
  have hcomp : (fun x : Cmd => x.is m k) ∘ f = fun x => x.is m k := funext hf
  rw [State.cmd, ht, List.find?_map, hcomp]
  exact congrArg (Option.map f) h

theorem cmd_of_cmds {t : State} (ht : t.ts.cmds = s.ts.cmds) : t.cmd m k = s.cmd m k := by rw [State.cmd, State.cmd, ht]

/-- The commands found under updated numbers. -/
theorem cmd_updCmd {j i : Nat} {f : Cmd → Cmd} (hf : ∀ x, (f x).is m k = x.is m k) (h : s.cmd m k = some c) :
    (s.updCmd j i f).cmd m k = some (if c.is j i then f c else c) :=
  cmd_of_map (f := fun x => if x.is j i then f x else x) rfl (fun x => by split <;> simp [hf]) h

theorem cmd_updCmd_same {f : Cmd → Cmd} (hf : ∀ x, x.is m k = true → (f x).is m k = true) (h : s.cmd m k = some c) :
    (s.updCmd m k f).cmd m k = some (f c) := by
  have hmap := cmd_of_map (t := s.updCmd m k f) (f := fun x => if x.is m k then f x else x) rfl
    (fun x => by split <;> simp_all) h
  rwa [if_pos (by simpa using List.find?_some h)] at hmap

/-- Commands whose waits are over stay waiting; they wait from now (R188). -/
theorem cmd_renewWaits (n : Nat) (h : s.cmd m k = some c) : ∃ c', (s.renewWaits n).cmd m k = some c' ∧ c'.phase = c.phase ∧
    c'.replay = c.replay ∧ c'.tiles = c.tiles ∧ (c'.waitFrom = c.waitFrom ∨ c'.waitFrom = s.mono) := by
  unfold State.renewWaits
  generalize s.ts.cmds.filter (fun c => c.cab == n && c.phase == .waiting && c.holds != [] && !c.holds.any (s.holding n)) = l
  induction l generalizing s c with
  | nil => exact ⟨c, h, rfl, rfl, rfl, .inl rfl⟩
  | cons x r ih =>
    have hx := cmd_updCmd (j := n) (i := x.n) (f := fun y => { y with holds := [], waitFrom := s.mono }) (fun _ => rfl) h
    have hnote : ((s.updCmd n x.n fun y => { y with holds := [], waitFrom := s.mono }).noteActivity n x.ctx).cmd m k = _ :=
      (cmd_of_cmds (congrArg _ State.noteActivity_ts)).trans hx
    obtain ⟨c', hc', hph, hrep, htl, hwait⟩ := ih hnote
    refine ⟨c', hc', hph.trans (by split <;> rfl), hrep.trans (by split <;> rfl), htl.trans (by split <;> rfl), ?_⟩
    rw [State.noteActivity_mono] at hwait
    split at hwait
    · exact .inr (hwait.elim id id)
    · exact hwait

end

/-! ### Freed tiles and discarded shadows leave the commands -/

section
variable (s : State) (t : Nat)

theorem chargeBusy_ts (n x ns : Nat) : (s.chargeBusy n x ns).ts = s.ts := by
  unfold State.chargeBusy
  dsimp only
  split <;> rfl

theorem setTile_cmds (v : Tile) : (s.setTile t v).ts.cmds = s.ts.cmds := rfl

theorem deliverTables_cmds : (s.deliverTables t).ts.cmds = s.ts.cmds := by
  unfold State.deliverTables
  refine (setTile_cmds ..).trans (foldl_leaves (p := fun s => s.ts.cmds) ?_ _ _)
  exact fun _ _ => rfl

theorem pushLeaving_cmds : (s.pushLeaving t).ts.cmds = s.ts.cmds := by
  unfold State.pushLeaving
  dsimp only
  split <;> rfl

theorem freeTile_cmds (st : Nat) : (s.freeTile t st).ts.cmds = s.ts.cmds := by
  unfold State.freeTile
  rw [pushLeaving_cmds, deliverTables_cmds, State.tally_ts]
  rw [setTile_cmds]
  split
  · split
    · rw [chargeBusy_ts]
    · rfl
  · rfl

theorem freeTiles_cmds (l : List Nat) (st : Nat) : (s.freeTiles l st).ts.cmds = s.ts.cmds :=
  foldl_leaves (p := fun s => s.ts.cmds) (fun s t => freeTile_cmds s t st) l s

/-- Discarding an owner's shadows only ends the holds that wait for it (R140, R141). -/
theorem discardShadows_ts (o : Owner) : (s.discardShadows o).ts = (s.endHold o).ts := by
  unfold State.discardShadows
  refine foldl_leaves (p := fun s => s.ts) ?_ _ _
  exact fun _ _ => rfl

end

/-! ### The end of a kill (R193, R194) -/

section
variable {s : State} {c : Cmd}

/-- A command that has been killed, as it waits again (R193). -/
def Cmd.again (c : Cmd) (mono : Nat) : Cmd :=
  { c with phase := .waiting, tiles := [], done := [], errors := [], said := none, deny := none, stuck := false, replay := true,
           waitFrom := mono }

theorem cmd_replayed {m k x : Nat} (h : s.cmd m k = some c) :
    ∃ c', (((s.updCmd m k (·.again s.mono)).noteActivity m x).renewWaits m).cmd m k = some c' ∧ c'.phase = .waiting ∧
      c'.replay = true ∧ c'.tiles = [] ∧ c'.waitFrom = s.mono := by
  have hnote : ((s.updCmd m k (·.again s.mono)).noteActivity m x).cmd m k = some (c.again s.mono) :=
    (cmd_of_cmds (congrArg _ State.noteActivity_ts)).trans (cmd_updCmd_same (fun _ hx => hx) h)
  obtain ⟨c', hc', hph, hrep, htl, hwait⟩ := cmd_renewWaits m hnote
  rw [State.noteActivity_mono] at hwait
  exact ⟨c', hc', hph, hrep, htl, hwait.elim id id⟩

/-- A killed command that neither failed nor lost its context waits again as a replay, from now, with no tiles. -/
theorem cmd_finishKill {d : Cmd} (h : s.cmd c.cab c.n = some d) (hgone : c.gone = false) (hfail : c.fail = none) :
    ∃ c', (s.finishKill c).cmd c.cab c.n = some c' ∧ c'.phase = .waiting ∧ c'.replay = true ∧ c'.tiles = [] ∧ c'.waitFrom = s.mono := by
  have hmono : (((s.discardShadows (.cmd c.cab c.n)).dropReqsOf (.cmd c.cab c.n)).freeTiles c.tiles stKilled).mono = s.mono :=
    (kept_State_freeTiles (m := 262144) (by decide)
      (kept_State_dropReqsOf (by decide) (kept_State_discardShadows (by decide) (.refl _ _)))).mono rfl
  have hcmd : (((s.discardShadows (.cmd c.cab c.n)).dropReqsOf (.cmd c.cab c.n)).freeTiles c.tiles stKilled).cmd c.cab c.n = _ :=
    cmd_of_map ((freeTiles_cmds ..).trans (congrArg TsUnit.cmds (discardShadows_ts ..))) (fun _ => rfl) h
  obtain ⟨c', hc', hph, hrep, htl, hwait⟩ := cmd_replayed (x := c.ctx) hcmd
  simp only [State.finishKill, hgone, hfail, Bool.false_and]
  exact ⟨c', hc', hph, hrep, htl, hwait.trans hmono⟩

end

/-! ### The end of a run (R139, R140) -/

section
variable {s : State} {c : Cmd}

/-- A run of a committing command that ends without an error goes on to its commit, with its tiles free. -/
theorem cmd_endRun {d : Cmd} (h : s.cmd c.cab c.n = some d) (hfail : c.fail = none) (hsaid : c.said = none) (hdeny : c.deny = none)
    (hdirect : c.direct = false) : ∃ z, (s.endRun c).cmd c.cab c.n = some z ∧ z.phase = .committing ∧ z.tiles = [] := by
  have hbad : (c.fail.or (c.said.bind c.returned)).or c.deny = none := by rw [hfail, hsaid, hdeny]; rfl
  have hfree : (s.freeTiles c.tiles stDone).cmd c.cab c.n = some d := (cmd_of_cmds (freeTiles_cmds ..)).trans h
  simp only [State.endRun, hbad, hdirect, Bool.false_and]
  exact ⟨_, (cmd_of_cmds (by rw [State.noteActivity_ts]; rfl)).trans
    (cmd_updCmd_same (f := fun x => { x with phase := .committing, tiles := [] }) (fun _ hx => hx) hfree), rfl, rfl⟩

end

/-! ### Events at a tile port -/

section
variable {s : State} {t : Sys2Proof.TileId} {c : Sys2Proof.Instr} {f : State → State}

/-- An event at a present tile port while the block advances. -/
theorem exec_of_atTile (e : exec c s = .next (s.atTile t.val f)) (hrun : s.frozen = false) (htie : s.tie.tiles.testBit t.val = true) :
    exec c s = .next (f s) := by
  refine e.trans (congrArg _ (if_pos ?_))
  rw [hrun, htie]
  rfl

theorem idles_of_atTile (e : exec c s = .next (s.atTile t.val f)) (hrun : s.frozen = false)
    (htie : s.tie.tiles.testBit t.val = true) (hf : f s = s) : Idles c s :=
  (exec_of_atTile e hrun htie).trans (congrArg _ hf)

end

section
variable {s : State} {t : Nat}

/-- A tile of a killed command acknowledges: another is left, or the kill is over. -/
theorem ackKill_of_killing {m k : Nat} {c : Cmd} {left : List Nat} (hkill : (s.tile t).killing = true) (hcmd : (s.tile t).cmd = some k)
    (hcab : (s.tile t).cab = some m) (hc : s.cmd m k = some c) (hph : c.phase = .killing left) :
    s.ackKill t = if left.filter (fun y => y != t) = [] then
        (s.setTile t { s.tile t with killing := false }).finishKill { c with phase := .killing [] }
      else (s.setTile t { s.tile t with killing := false }).updCmd m k
        fun y => { y with phase := .killing (left.filter (fun y => y != t)) } := by
  simp only [State.ackKill, hkill, hcmd, hcab, hc, hph]

theorem killAcked_of_killing (h : (s.tile t).killing = true) : killAcked t s = s.ackKill t := if_pos h

theorem killAcked_of_not (h : (s.tile t).killing = false) : killAcked t s = s.tileBreaks t := if_neg (by simp [h])

/-- What a report of a running tile does (R473, R479). -/
theorem tileDone_of_run {st : Nat} {c : Cmd} (hkill : (s.tile t).killing = false) (hrun : s.runOn t = some c) :
    tileDone t st s = if t ∈ c.done ∨ (st ≠ stDone ∧ c.returned st = none) then s.tileBreaks t
      else
        let c' : Cmd := { c with done := t :: c.done, said := c.said.or (if st = stDone then none else some st) }
        let u := (s.updCmd c.cab c.n fun _ => c').setTile t { s.tile t with progress := s.mono }
        if ∀ y ∈ c.tiles, y ∈ t :: c.done then u.endRun c' else u := by
  rw [tileDone, if_neg (by simp [hkill])]
  simp only [hrun]
  by_cases hdone : t ∈ c.done
  · rw [if_pos (by simpa using hdone), if_pos (.inl hdone)]
  · rw [if_neg (by simpa using hdone)]
    by_cases hst : st ≠ stDone ∧ c.returned st = none
    · rw [if_pos hst, if_pos (.inr hst)]
    · rw [if_neg hst, if_neg (not_or.2 ⟨hdone, hst⟩)]
      simp only [List.all_eq_true, List.contains_iff_mem]

/-- A report that is neither a second one nor of a status no request returned breaks nothing. -/
theorem not_bad_report {st : Nat} {c : Cmd} (hd : ¬ t ∈ c.done) (hst : st = stDone ∨ c.returned st ≠ none) :
    ¬ (t ∈ c.done ∨ st ≠ stDone ∧ c.returned st = none) :=
  not_or.2 ⟨hd, fun ⟨hne, hnone⟩ => hst.elim hne fun hret => hret hnone⟩

theorem tileDone_of_no_run {st : Nat} (hkill : (s.tile t).killing = false) (hrun : s.runOn t = none) :
    tileDone t st s = s.tileBreaks t := by
  rw [tileDone, if_neg (by simp [hkill])]
  simp only [hrun]

theorem runOn_eq_some {c : Cmd} (h : s.runOn t = some c) : ∃ m k, s.cmd m k = some c := by
  unfold State.runOn at h
  split at h
  · obtain ⟨d, hd, hphase⟩ := Option.bind_eq_some_iff.1 h
    split at hphase
    · cases hphase
      exact ⟨_, _, hd⟩
    · cases hphase
  · cases h

theorem clearAcked_of_clearing (h : (s.tile t).clearing = true) : clearAcked t s =
    ((s.setTile t { s.tile t with clearing := false, progress := s.mono }).clearedFor t).tileLeft t := if_pos h

theorem clearAcked_of_not (h : (s.tile t).clearing = false) : clearAcked t s = s.tileBreaks t := if_neg (by simp [h])

theorem clearedFor_of_no_cmd (h : (s.tile t).cmd = none) : s.clearedFor t = s := by
  simp only [State.clearedFor, h]

theorem tileLeft_of_staying (hcab : (s.tile t).cab ≠ none) (h : (s.tile t).leaving = false) : s.tileLeft t = s := by
  obtain ⟨n, hn⟩ := Option.ne_none_iff_exists'.1 hcab
  simp only [State.tileLeft, hn, h, Bool.false_and]
  rfl

end

/-- Settles O21. -/
theorem killsReplayAndReportsEndRuns : Obligations.KillsReplayAndReportsEndRuns := by
  unfold Obligations.KillsReplayAndReportsEndRuns
  refine ⟨fun t s hrun htie => ⟨fun hk => ?stray, fun k m c left hk hcmd hcab hc hph => ⟨fun hl => ?more, fun hl hg hf => ?last⟩,
    fun hk hlate => ?late, fun hk => ?early⟩, fun t st s hrun htie => ⟨fun hk => ?killed, fun hk hnone => ?noRun,
    fun c hk hc => ⟨fun hbad => ?bad, fun hd hst hy => ?noted, fun hd hst hy => ⟨?ended, fun hsaid hfail hdeny hdir => ?commit⟩⟩⟩,
    fun t s htie => ⟨fun hrun => ?progress, fun hup => ?fatal, fun hrun hc => ?cleared, fun hrun hc hl hcmd hcab => ?idleClear,
      fun hrun hc => ?strayClear⟩⟩
  case stray => exact (exec_of_atTile rfl hrun htie).trans (congrArg _ (killAcked_of_not hk))
  case more =>
    exact (exec_of_atTile rfl hrun htie).trans (congrArg _ ((killAcked_of_killing hk).trans
      ((ackKill_of_killing hk hcmd hcab hc hph).trans (if_neg hl))))
  case last =>
    obtain ⟨rfl, rfl⟩ := Cmd.is_of_cmd hc
    refine ⟨_, (exec_of_atTile rfl hrun htie).trans (congrArg _ ((killAcked_of_killing hk).trans
      ((ackKill_of_killing hk hcmd hcab hc hph).trans (if_pos hl)))), ?_⟩
    exact cmd_finishKill (c := { c with phase := .killing [] }) (d := c) hc hg hf
  case late => exact (exec_of_atTile rfl hrun htie).trans (congrArg _ (if_pos (by simp [hk, hlate])))
  case early =>
    refine idles_of_atTile rfl hrun htie (if_neg ?_)
    rcases hk with hk | hk
    · simp [hk]
    · simp [Nat.not_le.2 hk]
  case killed => exact idles_of_atTile rfl hrun htie (if_pos hk)
  case noRun =>
    exact (exec_of_atTile rfl hrun htie).trans (congrArg _ (tileDone_of_no_run hk hnone))
  case bad => exact (exec_of_atTile rfl hrun htie).trans (congrArg _ ((tileDone_of_run hk hc).trans (if_pos hbad)))
  case noted =>
    refine (exec_of_atTile rfl hrun htie).trans (congrArg _ ((tileDone_of_run hk hc).trans ((if_neg (not_bad_report hd hst)).trans (if_neg ?_))))
    obtain ⟨y, hmem, hnot⟩ := hy
    exact fun hall => hnot (hall y hmem)
  case ended => exact (exec_of_atTile rfl hrun htie).trans (congrArg _ ((tileDone_of_run hk hc).trans ((if_neg (not_bad_report hd hst)).trans (if_pos hy))))
  case commit =>
    obtain ⟨m, k, hmk⟩ := runOn_eq_some hc
    obtain ⟨rfl, rfl⟩ := Cmd.is_of_cmd hmk
    exact cmd_endRun (c := { c with done := t.val :: c.done, said := c.said.or (if st.val = stDone then none else some st.val) })
      (cmd_updCmd_same (fun _ _ => by simp [Cmd.is]) hmk) hfail hsaid hdeny hdir
  case progress =>
    exact exec_of_atTile (f := fun s => s.setTile t.val { s.tile t.val with progress := s.mono }) rfl hrun htie
  case fatal => exact congrArg _ (if_pos (by rw [hup, htie]; rfl))
  case cleared => exact (exec_of_atTile rfl hrun htie).trans (congrArg _ (clearAcked_of_clearing hc))
  case idleClear =>
    have hexec : exec (.tileClearAck t) s = .next (clearAcked t.val s) := exec_of_atTile rfl hrun htie
    rw [hexec, clearAcked_of_clearing hc, clearedFor_of_no_cmd (by simpa using hcmd), tileLeft_of_staying (by simpa using hcab) (by simpa using hl)]
  case strayClear => exact (exec_of_atTile rfl hrun htie).trans (congrArg _ (clearAcked_of_not hc))

end Sys2Proof.Machine
end

section
/-! PROOFS. Local requests of a running tile (O22; R122, R133, R478). -/
namespace Sys2Proof.Machine

/-- A tile's run after one more request, its hang timer restarted. -/
def State.asking (s : State) (c : Cmd) (t : Nat) : State := (s.asked c).setTile t { s.tile t with progress := s.mono }

/-- A tile's local request under the next request number. -/
def State.tileReq (s : State) (c : Cmd) (t tag va : Nat) (write : Bool) (len : Nat) (mask : List Bool) (data : List Byte) : Req :=
  { id := s.tu.nextReq, src := .tile t write, unit := uTile t, cab := c.cab, ctx := c.ctx, owner := some (.cmd c.cab c.n),
    tag := tag, va := va, write := write, len := len, data := data, mask := mask, phase := .miss false, since := s.mono, ord := c.asks }

section
variable {s : State} {c : Cmd} {t : Nat}

theorem tileRequest_of_run {inLine : Bool} {f : Cmd → State → State} (hkill : (s.tile t).killing = false)
    (hreset : s.resetting (uTile t) = false) (hrun : s.runOn t = some c) (hdone : t ∉ c.done) (hline : inLine = true) :
    s.tileRequest t inLine f = f c (s.asking c t) := by
  rw [State.tileRequest, if_neg (by simp [hkill, hreset])]
  simp only [hrun]
  exact if_neg (by simp [hdone, hline])

/-- A request whose page no look-aside entry covers, or which meets the unit's reset, waits for its walk (R122, R155). -/
theorem retryTile_of_miss {r : Req} (h : s.lookup r.cab r.ctx r.va = none ∨ s.resetting uTu = true) :
    retryTile r ((s.asking c t).addReq r) = ((s.asking c t).addReq r).setReq { r with phase := .miss false, since := s.mono } := by
  have hnone : (if ((s.asking c t).addReq r).resetting uTu then none
      else ((s.asking c t).addReq r).lookup r.cab r.ctx r.va) = none := by
    rcases h with h | h
    · exact (congrArg (fun x => if s.resetting uTu then none else x) h).trans (ite_self _)
    · exact if_pos h
  simp only [retryTile, hnone]
  rfl

/-- A request that a device entry permits goes on at its page (R122). -/
theorem retryTile_of_hit {r : Req} {e : Lookaside} (hreset : s.resetting uTu = false) (hlook : s.lookup r.cab r.ctx r.va = some e)
    (hhost : e.host = false) (hmay : r.write = true → e.w = true) :
    retryTile r ((s.asking c t).addReq r) = serveTile r false (e.pa + (r.va - e.va)) e.rm ((s.asking c t).addReq r) := by
  have hsome : (if ((s.asking c t).addReq r).resetting uTu then none
      else ((s.asking c t).addReq r).lookup r.cab r.ctx r.va) = some e := (if_neg (ne_true_of_eq_false hreset)).trans hlook
  have huse : ((s.asking c t).addReq r).useLook r.asker e r.va r.write =
      (.ok false (e.pa + (r.va - e.va)) e.rm, (s.asking c t).addReq r) := by
    rw [State.useLook, if_neg (by simp [hhost]), if_neg]
    simpa using hmay
  simp only [retryTile, hsome, huse, tileGoes]

/-- A request lies among the recorded ones, as it is set. -/
theorem setReq_mem (r r' : Req) (h : r'.id = s.tu.nextReq) : r' ∈ ((s.addReq r).setReq r').tu.reqs :=
  List.mem_map.2 ⟨{ r with id := s.tu.nextReq }, List.mem_append.2 (.inr (List.mem_singleton.2 rfl)), if_pos (by simp [h])⟩

/-- A run is found with one more request. -/
theorem cmd_asking (h : s.cmd c.cab c.n = some c) (r : Req) :
    ((s.asking c t).addReq r).cmd c.cab c.n = some { c with asks := c.asks + 1 } :=
  (cmd_of_cmds rfl).trans (cmd_updCmd_same (f := fun x => { x with asks := x.asks + 1 }) (fun _ hx => hx) h)

/-- A local read of device bytes that can be done gives the tile its bytes (R122). -/
theorem serveTile_of_read {r : Req} {p : Nat} {rm : Bool} {bs : List Byte} {v : State} {d : Cmd} (hsrc : r.src = .tile t false)
    (hcmd : s.ownerCmd r.owner = some d)
    (hread : (s.resolve p r.len).readLoc { m := .cab d.cab, unit := r.unit, ctx := some d.ctx } p
      (if d.direct then s.locate p else s.ownPlace (.cmd d.cab d.n) p) r.len = (.ok bs, v)) :
    serveTile r false p rm s = (v.dropReq r.id).emit (.tileRead t r.tag stDone bs) := by
  simp only [serveTile, hsrc, hcmd]
  simp only [Bool.not_false, if_true, Bool.false_eq_true, if_false, hread]

/-- A write of a DIRECT run that stores answers DONE (R122). -/
theorem serveTile_of_direct_write {r : Req} {p : Nat} {rm : Bool} {v : State} {d : Cmd} (hsrc : r.src = .tile t true)
    (hcmd : s.ownerCmd r.owner = some d) (hdirect : d.direct = true)
    (hwrite : placeRuns { src := r.src, unit := r.unit, cab := d.cab, ctx := d.ctx } false p (maskRuns 0 r.mask r.data) s = (.ok (), v)) :
    serveTile r false p rm s = (v.dropReq r.id).emit (.tileWrite t r.tag stDone) := by
  rw [hsrc] at hwrite
  simp only [serveTile, hsrc, hcmd]
  simp only [Bool.not_true, Bool.false_eq_true, if_false, hdirect, if_true, hwrite]

theorem tileReads_of_run {va len tag : Nat} (hkill : (s.tile t).killing = false)
    (hreset : s.resetting (uTile t) = false) (hrun : s.runOn t = some c) (hdone : t ∉ c.done) (hline : va % 128 + len ≤ 128) :
    tileReads t va len tag none s =
      retryTile (s.tileReq c t tag va false len [] []) ((s.asking c t).addReq (s.tileReq c t tag va false len [] [])) :=
  tileRequest_of_run hkill hreset hrun hdone (by simpa using hline)

theorem tileWrites_of_run {va tag : Nat} {mask : List Bool} {data : List Byte} (hkill : (s.tile t).killing = false)
    (hreset : s.resetting (uTile t) = false) (hrun : s.runOn t = some c) (hdone : t ∉ c.done) :
    tileWrites t va mask data tag none s =
      retryTile (s.tileReq c t tag va true 128 mask data) ((s.asking c t).addReq (s.tileReq c t tag va true 128 mask data)) :=
  tileRequest_of_run hkill hreset hrun hdone rfl

end

section
variable {s : State} {t : Sys2Proof.TileId} {va len : Nat} {tag : Fin 1024} {mask : List Bool} {data : List Byte}

theorem exec_tileReadRequest (hrun : s.frozen = false) (htie : s.tie.tiles.testBit t.val = true) (hva : va < 2 ^ 57)
    (hlen : 1 ≤ len) (hline : va % 128 + len ≤ 128) :
    exec (.tileReadRequest t va len tag none) s = .next (tileReads t.val va len tag.val none s) := by
  have hwf : tileReadWf va len = true := by
    rw [tileReadWf, decide_eq_true hva, decide_eq_true hlen, decide_eq_true (Nat.le_trans (Nat.le_add_left ..) hline)]
    rfl
  exact exec_of_atTile (f := tileReads t.val va len tag.val none) (if_pos hwf) hrun htie

theorem exec_tileWriteRequest (hrun : s.frozen = false) (htie : s.tie.tiles.testBit t.val = true) (hva : va < 2 ^ 57)
    (hline : va % 128 = 0) (hmask : mask.length = 128) (hdata : data.length = 128) :
    exec (.tileWriteRequest t va mask data tag none) s = .next (tileWrites t.val va mask data tag.val none s) := by
  have hwf : tileWriteWf va mask data = true := by
    rw [tileWriteWf, decide_eq_true hva, hline, hmask, hdata]
    rfl
  exact exec_of_atTile (f := tileWrites t.val va mask data tag.val none) (if_pos hwf) hrun htie

end

/-- Settles O22. -/
theorem tileRequestsAreServed : Obligations.TileRequestsAreServed := by
  unfold Obligations.TileRequestsAreServed
  intro t va tag s c hrun htie hkill hreset hon hdone hva
  refine ⟨fun len hlen hline hmiss => ?miss, fun len e v bs hlen hline htu hlook hhost hcmd hread => ?read,
    fun mask data e v hline hmask hdata htu hlook hhost hw hdirect hcmd hwrite => ?write⟩
  case miss =>
    refine ⟨_, exec_tileReadRequest hrun htie hva hlen hline, ?_⟩
    rw [tileReads_of_run hkill hreset hon hdone hline, retryTile_of_miss hmiss]
    exact ⟨rfl, _, setReq_mem _ _ rfl, rfl⟩
  case read =>
    rw [exec_tileReadRequest hrun htie hva hlen hline, tileReads_of_run hkill hreset hon hdone hline,
      retryTile_of_hit htu hlook hhost (by rintro ⟨⟩)]
    exact congrArg _ (serveTile_of_read rfl (cmd_asking hcmd _) hread)
  case write =>
    rw [exec_tileWriteRequest hrun htie hva hline hmask hdata, tileWrites_of_run hkill hreset hon hdone,
      retryTile_of_hit htu hlook hhost (fun _ => hw)]
    exact congrArg _ (serveTile_of_direct_write rfl (cmd_asking hcmd _) hdirect hwrite)

end Sys2Proof.Machine
end

section
/-! PROOFS. Swap descriptors, the ends of swaps, and automatic swaps (O23, O24; R199 to R206, R210). -/
namespace Sys2Proof.Machine

/-! ### SWAP_IN and SWAP_OUT (R200 to R204) -/

section
variable {s : State} {f : Flight}

/-- A SWAP_IN names the binding that the context has (R200). -/
def ownBinding (s : State) (f : Flight) : Prop :=
  (s.ctx f.cab f.ctx).resid ≠ .unbound ∧
    (s.ctx f.cab f.ctx).saveVa = (s.obj (handleIdx (leAt f.body 0 4))).base + leAt f.body 8 8 ∧
    (s.ctx f.cab f.ctx).stiles = bitsOf (leAt f.body 16 2) 8 0

/-- The load that a SWAP_IN begins. -/
def loadOf (s : State) (f : Flight) : Swap :=
  { cab := f.cab, ctx := f.ctx, load := true, desc := some (f.drawer, f.seq),
    va := (s.obj (handleIdx (leAt f.body 0 4))).base + leAt f.body 8 8, zero := (leAt f.body 18 1).testBit 0,
    pin := (leAt f.body 18 1).testBit 1, nosave := (leAt f.body 18 1).testBit 2, stiles := bitsOf (leAt f.body 16 2) 8 0,
    prior := (s.ctx f.cab f.ctx).resid }

theorem swapInIssue_of_many (h : (s.cab f.cab).conf.tileList.length < bitsOf (leAt f.body 16 2) 8 0) :
    swapInIssue f s = s.endFlight f.cab f.drawer f.seq { status := stDenied, unit := some uTs } := if_pos h

section
variable (hfit : ¬ (s.cab f.cab).conf.tileList.length < bitsOf (leAt f.body 16 2) 8 0)
include hfit

theorem swapInIssue_of_swap (h : s.swapOf f.cab f.ctx ≠ none) : swapInIssue f s = s :=
  (if_neg hfit).trans (if_pos (by simpa [Option.isSome_iff_ne_none] using h))

variable (hnone : s.swapOf f.cab f.ctx = none)
include hnone

theorem swapInIssue_of_resident (h : (s.ctx f.cab f.ctx).resid = .resident) :
    (ownBinding s f → swapInIssue f s = s.endFlight f.cab f.drawer f.seq { status := stDone }) ∧
    (¬ ownBinding s f → swapInIssue f s = s.endFlight f.cab f.drawer f.seq { status := stDenied, unit := some uTs }) := by
  have hissue : swapInIssue f s = s.endFlight f.cab f.drawer f.seq
      (if (s.ctx f.cab f.ctx).resid != .unbound &&
        (s.ctx f.cab f.ctx).saveVa == (s.obj (handleIdx (leAt f.body 0 4))).base + leAt f.body 8 8 &&
        (s.ctx f.cab f.ctx).stiles == bitsOf (leAt f.body 16 2) 8 0 then { status := stDone }
        else { status := stDenied, unit := some uTs }) :=
    (if_neg hfit).trans ((if_neg (by simp [hnone])).trans (if_pos (by simp [h])))
  refine ⟨fun hown => hissue.trans (congrArg _ (if_pos ?_)), fun hown => hissue.trans (congrArg _ (if_neg ?_))⟩
  · simpa [ownBinding, and_assoc] using hown
  · simpa [ownBinding, and_assoc] using hown

theorem swapInIssue_of_lost (h : (s.ctx f.cab f.ctx).resid = .lost) (hown : ownBinding s f)
    (hzero : (leAt f.body 18 1).testBit 0 = false) :
    swapInIssue f s = s.endFlight f.cab f.drawer f.seq (s.lostEnding f.cab f.ctx) := by
  refine (if_neg hfit).trans ((if_neg (by simp [hnone])).trans ((if_neg (by simp [h])).trans (if_pos ?_)))
  obtain ⟨hbound, hva, hst⟩ := hown
  simp [h, hva, hst, hzero]

theorem swapInIssue_of_load (h : (s.ctx f.cab f.ctx).resid ≠ .resident)
    (hlost : ¬ ((s.ctx f.cab f.ctx).resid = .lost ∧ ownBinding s f ∧ (leAt f.body 18 1).testBit 0 = false)) :
    swapInIssue f s = ({ s.startFlight f with ts := { s.ts with swaps := s.ts.swaps ++ [loadOf s f] } }).gather (loadOf s f) := by
  refine (if_neg hfit).trans ((if_neg (by simp [hnone])).trans ((if_neg (by simpa using h)).trans (if_neg ?_)))
  simpa [ownBinding, and_assoc] using hlost

end

theorem swapOutIssue_of_many (h : (s.cab f.cab).conf.tileList.length < bitsOf (leAt f.body 16 2) 8 0) :
    swapOutIssue f s = s.endFlight f.cab f.drawer f.seq { status := stDenied, unit := some uTs } := if_pos h

/-- Where a SWAP_OUT saves (R202). -/
def saveVaOf (s : State) (f : Flight) : Nat :=
  if leAt f.body 0 4 = 0 then (s.ctx f.cab f.ctx).saveVa else (s.obj (handleIdx (leAt f.body 0 4))).base + leAt f.body 8 8

/-- The save that a SWAP_OUT begins. -/
def saveOf (s : State) (f : Flight) : Swap :=
  { cab := f.cab, ctx := f.ctx, load := false, desc := some (f.drawer, f.seq), va := saveVaOf s f, tiles := (s.ctx f.cab f.ctx).tiles,
    discard := (leAt f.body 18 1).testBit 0 || (s.ctx f.cab f.ctx).nosave, unbind := (leAt f.body 18 1).testBit 1,
    stiles := (s.ctx f.cab f.ctx).stiles, prior := .resident }

/-- The tiles of a swap are BUSY until it ends (R187). -/
def State.holdTiles (s : State) (l : List Nat) : State :=
  l.foldl (fun s t => s.setTile t { s.tile t with busy := true, progress := s.mono }) s

theorem holdTiles_busy (l : List Nat) (k : Nat) (h : k ∈ l ∨ (s.tile k).busy = true) : ((s.holdTiles l).tile k).busy = true := by
  induction l generalizing s with
  | nil => exact h.resolve_left (List.not_mem_nil)
  | cons t r ih =>
    refine ih ?_
    rw [State.tile_setTile]
    by_cases hk : k = t
    · exact .inr (by rw [if_pos hk])
    · exact h.imp (fun hmem => (List.mem_cons.1 hmem).resolve_left hk) (fun hb => by rwa [if_neg hk])

theorem holdTiles_swaps (l : List Nat) : (s.holdTiles l).ts.swaps = s.ts.swaps := by
  refine foldl_leaves (p := fun s => s.ts.swaps) ?_ _ _
  exact fun _ _ => rfl

section
variable (hfit : ¬ (s.cab f.cab).conf.tileList.length < bitsOf (leAt f.body 16 2) 8 0)
include hfit

theorem swapOutIssue_of_swap (h : s.swapOf f.cab f.ctx ≠ none) : swapOutIssue f s = s :=
  (if_neg hfit).trans (if_pos (by simpa [Option.isSome_iff_ne_none] using h))

variable (hnone : s.swapOf f.cab f.ctx = none)
include hnone

theorem swapOutIssue_of_resident (h : (s.ctx f.cab f.ctx).resid = .resident) : swapOutIssue f s =
    ({ (s.startFlight f).holdTiles (s.ctx f.cab f.ctx).tiles with
      ts := { ((s.startFlight f).holdTiles (s.ctx f.cab f.ctx).tiles).ts with
        swaps := ((s.startFlight f).holdTiles (s.ctx f.cab f.ctx).tiles).ts.swaps ++ [saveOf s f] } }).setCtx f.cab f.ctx
      { (if leAt f.body 0 4 = 0 then s.ctx f.cab f.ctx
          else { s.ctx f.cab f.ctx with saveVa := saveVaOf s f, stiles := bitsOf (leAt f.body 16 2) 8 0 }) with resid := .outProgress } :=
  (if_neg hfit).trans ((if_neg (by simp [hnone])).trans (if_pos (by simp [h])))

/-- A SWAP_OUT of a context that is not resident: what becomes of the binding (R202, log 143). -/
theorem swapOutIssue_of_other (h : (s.ctx f.cab f.ctx).resid ≠ .resident) : swapOutIssue f s =
    (if (leAt f.body 18 1).testBit 1 then s.setCtx f.cab f.ctx { s.ctx f.cab f.ctx with
        resid := .unbound, saveVa := 0, stiles := 0, pin := false, nosave := false, lostStatus := 0, lostUnit := 0 }
      else if leAt f.body 0 4 = 0 || (s.ctx f.cab f.ctx).resid == .unbound then s
      else s.setCtx f.cab f.ctx { s.ctx f.cab f.ctx with saveVa := saveVaOf s f, stiles := bitsOf (leAt f.body 16 2) 8 0 }).endFlight
        f.cab f.drawer f.seq { status := stDone } :=
  (if_neg hfit).trans ((if_neg (by simp [hnone])).trans (if_neg (by simpa using h)))

end

end

section
variable {s : State} {f : Flight} {n : Sys2Proof.CabId} {d : Sys2Proof.DrawerId} {q : Sys2Proof.Seq}

theorem exec_swapIn (h : s.serves uTs) (hop : s.issuedOp n.val d.val q.val 0x50 = some f) :
    exec (.swapIn n d q) s = .next (swapInIssue f s) := by
  refine (exec_of_work rfl h).trans (congrArg _ ?_)
  simp only [swapIn, hop]

theorem exec_swapOut (h : s.serves uTs) (hop : s.issuedOp n.val d.val q.val 0x51 = some f) :
    exec (.swapOut n d q) s = .next (swapOutIssue f s) := by
  refine (exec_of_work rfl h).trans (congrArg _ ?_)
  simp only [hop]

end

/-- Settles O23. -/
theorem swapDescriptorsBindAndSave : Obligations.SwapDescriptorsBindAndSave := by
  unfold Obligations.SwapDescriptorsBindAndSave
  refine ⟨fun n d q s f h hop => ⟨fun hm => ?_, fun hm hs => ?_, fun hm hs hr ho => ?_, fun hm hs hr ho => ?_,
    fun hm hs hr ho hz => ?_, fun hm hs hr hl => ?_⟩, fun n d q s f h hop => ⟨fun hm => ?_, fun hm hs => ?_, fun hm hs hr => ?save,
    fun hm hs hr hu => ?unbind, fun hm hs hr hu hh => ?leave, fun hm hs hr hu hh hb => ?rebind⟩⟩
  · rw [exec_swapIn h hop, swapInIssue_of_many hm]
  · exact (exec_swapIn h hop).trans (congrArg _ (swapInIssue_of_swap hm hs))
  · rw [exec_swapIn h hop, (swapInIssue_of_resident hm hs hr).1 ho]
  · rw [exec_swapIn h hop, (swapInIssue_of_resident hm hs hr).2 ho]
  · rw [exec_swapIn h hop, swapInIssue_of_lost hm hs hr ho hz]
  · exact (exec_swapIn h hop).trans (congrArg _ (swapInIssue_of_load hm hs hr hl))
  · rw [exec_swapOut h hop, swapOutIssue_of_many hm]
  · exact (exec_swapOut h hop).trans (congrArg _ (swapOutIssue_of_swap hm hs))
  case save =>
    refine ⟨_, (exec_swapOut h hop).trans (congrArg _ (swapOutIssue_of_resident hm hs hr)), ?_, ?_, ?_, fun k hk => ?_⟩
    · rw [State.ctx_setCtx_same]
    · rw [State.ctx_setCtx_same]
      by_cases hh : leAt f.body 0 4 = 0
      · simp only [if_pos hh]
      · simp only [if_neg hh, saveVaOf]
    · exact congrArg (· ++ _) (holdTiles_swaps _)
    · exact holdTiles_busy _ k (.inl hk)
  case unbind => rw [exec_swapOut h hop, swapOutIssue_of_other hm hs hr, if_pos hu]
  case leave =>
    rw [exec_swapOut h hop, swapOutIssue_of_other hm hs hr, if_neg (by simp [hu]), if_pos]
    rcases hh with hh | hh <;> simp [hh]
  case rebind =>
    rw [exec_swapOut h hop, swapOutIssue_of_other hm hs hr, if_neg (by simp [hu]), if_neg (by simp [hh, hb])]
    rfl

end Sys2Proof.Machine
end

section
/-! PROOFS. The ends of swaps, automatic swap-ins and the stall rule (O24; R203 to R206, R210). -/
namespace Sys2Proof.Machine

/-! ### What the end of a swap leaves of the context -/

/-- A context as it was, but for the moment it was blocked. -/
def Ctx.SameBinding (a b : Ctx) : Prop := b.resid = a.resid ∧ b.tiles = a.tiles ∧ b.saveVa = a.saveVa

/-- The residency, tiles and save address of a context are kept. -/
def BindingKept (s t : State) (n x : Nat) : Prop := (s.ctx n x).SameBinding (t.ctx n x)

section
variable {s t u : State} {n x : Nat}

theorem BindingKept.of_drw (h : t.drw.ctxs = s.drw.ctxs) : BindingKept s t n x := by
  have hctx : t.ctx n x = s.ctx n x := by rw [State.ctx, State.ctx, h]
  rw [BindingKept, hctx]
  exact ⟨rfl, rfl, rfl⟩

theorem BindingKept.trans (h : BindingKept s t n x) (k : BindingKept t u n x) : BindingKept s u n x := by
  obtain ⟨h1, h2, h3⟩ := h
  obtain ⟨k1, k2, k3⟩ := k
  exact ⟨k1.trans h1, k2.trans h2, k3.trans h3⟩

theorem BindingKept.setCtx {a b : Nat} {v : Ctx} (h : (s.ctx a b).SameBinding v) : BindingKept s (s.setCtx a b v) n x := by
  have hget : (s.setCtx a b v).ctx n x = if ctxKey n x = ctxKey a b then v else s.ctx n x := mapGet_set ..
  rw [BindingKept, hget]
  split
  · next hk =>
    have : s.ctx n x = s.ctx a b := by rw [State.ctx, hk, ← State.ctx]
    rwa [this]
  · exact ⟨rfl, rfl, rfl⟩

theorem noteActivity_binding (a b : Nat) : BindingKept s (s.noteActivity a b) n x := by
  unfold State.noteActivity
  dsimp only
  split
  · exact .of_drw rfl
  · split
    · split
      · exact .setCtx ⟨rfl, rfl, rfl⟩
      · exact .of_drw rfl
    · split
      · exact .setCtx ⟨rfl, rfl, rfl⟩
      · exact .of_drw rfl

theorem endFlight_ctxs (a d q : Nat) (e : Ending) : (s.endFlight a d q e).drw.ctxs = s.drw.ctxs := by
  have hupd : ∀ (u : State) (g : Flight → Flight), (u.updFlight a d q g).drw.ctxs = u.drw.ctxs := fun _ _ => rfl
  unfold State.endFlight
  dsimp only
  rw [hupd]
  split
  · split
    · rw [State.tally_drw]
    · rfl
  · rfl

theorem endSwapDesc_ctxs (w : Swap) (e : Ending) : (s.endSwapDesc w e).drw.ctxs = s.drw.ctxs := by
  unfold State.endSwapDesc
  split
  · exact endFlight_ctxs ..
  · rfl

theorem countSwap_drw (w : Swap) (k : Nat) : (s.countSwap w k).drw = s.drw := (trace_cabsKept ..).drw

theorem evict_ctx : ((s.evict n x).ctx n x).resid = .outProgress ∧ ((s.evict n x).ctx n x).tiles = (s.ctx n x).tiles ∧
    ((s.evict n x).ctx n x).saveVa = (s.ctx n x).saveVa := by
  have h : (s.evict n x).ctx n x = { s.ctx n x with resid := .outProgress } := by
    rw [State.evict, State.ctx, State.bump_drw]
    exact State.ctx_setCtx_same ..
  rw [h]
  exact ⟨rfl, rfl, rfl⟩

end

/-! ### Loads (R201, R204) -/

section
variable {s : State} {w : Swap}

/-- A load's tiles hold the context's state. -/
def loadHeld (w : Swap) (s : State) : State :=
  w.tiles.foldl (fun s t => s.setTile t { s.tile t with busy := false, resident := some w.ctx }) s

/-- The context of a load that has ended. -/
def loadBound (w : Swap) (s : State) : State :=
  s.setCtx w.cab w.ctx { s.ctx w.cab w.ctx with resid := .resident, saveVa := w.va, stiles := w.stiles, pin := w.pin,
                                                nosave := w.nosave, tiles := w.tiles, lastRun := s.mono,
                                                lostStatus := 0, lostUnit := 0 }

/-- The load is counted, and its descriptor ends. -/
def loadNoted (w : Swap) (s : State) : State :=
  let s := (s.dropSwap w.cab w.ctx).bump (rTsCnt w.cab) 31 16
  ((s.countSwap w (if w.zero then 0 else w.tiles.length * s.stateBytes)).endSwapDesc w { status := stDone }).noteActivity w.cab w.ctx

/-- The end of a load before R210 is looked at. -/
def loadEnd (w : Swap) (s : State) : State := loadNoted w (loadBound w (loadHeld w s))

theorem loadDone_eq : loadDone w s = if (loadEnd w s).swapsOut w.cab then (loadEnd w s).evict w.cab w.ctx else loadEnd w s := rfl

theorem loadNoted_binding : BindingKept s (loadNoted w s) w.cab w.ctx := by
  refine BindingKept.trans (.of_drw ?_) (noteActivity_binding ..)
  rw [endSwapDesc_ctxs, countSwap_drw, State.bump_drw]
  rfl

theorem loadEnd_ctx : ((loadEnd w s).ctx w.cab w.ctx).resid = .resident ∧ ((loadEnd w s).ctx w.cab w.ctx).tiles = w.tiles ∧
    ((loadEnd w s).ctx w.cab w.ctx).saveVa = w.va := by
  obtain ⟨hresid, htiles, hva⟩ := loadNoted_binding (s := loadBound w (loadHeld w s)) (w := w)
  rw [loadBound, State.ctx_setCtx_same] at hresid htiles hva
  exact ⟨hresid, htiles, hva⟩

theorem endSwapDesc_pln (e : Ending) : (s.endSwapDesc w e).pln = s.pln :=
  (kept_State_endSwapDesc (m := 16777216) (by decide) (.refl _ _)).pln rfl

theorem countSwap_pln (k : Nat) : (s.countSwap w k).pln = s.pln :=
  (kept_State_countSwap (m := 16777216) (by decide) (.refl _ _)).pln rfl

theorem loadEnd_pln : (loadEnd w s).pln = s.pln := by
  have hnoted : (loadNoted w (loadBound w (loadHeld w s))).pln = (loadHeld w s).pln := by
    rw [loadNoted, State.noteActivity_pln, endSwapDesc_pln, countSwap_pln, State.bump_pln]
    rfl
  refine hnoted.trans (foldl_leaves (p := fun s => s.pln) ?_ _ _)
  exact fun _ _ => rfl

theorem swapsOut_of_pln {t : State} (h : t.pln = s.pln) (n : Nat) : t.swapsOut n = s.swapsOut n := by
  rw [State.swapsOut, State.swapsOut, h]

/-- A load that ends makes the context resident on its tiles, and on the way to SLEEP or DEEP it goes out again (R204, R210). -/
theorem loadDone_ctx {r : State} (hpln : s.pln = r.pln) :
    ((loadDone w s).ctx w.cab w.ctx).resid = (if r.swapsOut w.cab = true then Resid.outProgress else Resid.resident) ∧
    ((loadDone w s).ctx w.cab w.ctx).tiles = w.tiles ∧ ((loadDone w s).ctx w.cab w.ctx).saveVa = w.va := by
  obtain ⟨hresid, htiles, hva⟩ := loadEnd_ctx (s := s) (w := w)
  rw [loadDone_eq, swapsOut_of_pln (loadEnd_pln.trans hpln)]
  split
  · obtain ⟨eresid, etiles, eva⟩ := evict_ctx (s := loadEnd w s) (n := w.cab) (x := w.ctx)
    exact ⟨eresid, etiles.trans htiles, eva.trans hva⟩
  · exact ⟨hresid, htiles, hva⟩

theorem loadTiles_pln (k : Nat) (l : List Nat) (bs : List Byte) : (loadTiles k l bs s).pln = s.pln :=
  (kept_loadTiles (m := 16777216) (by decide) (.refl _ _)).pln rfl

theorem vaRead_pln (a : Asker) (va k : Nat) : (s.vaRead a va k).2.pln = s.pln :=
  (kept_State_vaRead (m := 16777216) (by decide) (.refl _ _)).pln rfl

/-- What a load does whose tiles are ready. -/
theorem swapLoad_of_ready {n x : Nat} (hw : s.swapOf n x = some w) (hready : s.loadReady w = true) :
    swapLoad n x s = if w.zero then loadDone w (loadTiles s.stateBytes w.tiles (List.replicate (w.tiles.length * s.stateBytes) 0) s)
      else match s.vaRead w.asker w.va (w.tiles.length * s.stateBytes) with
        | (.wait, s) => s
        | (.bad st u, s) => loadFails w st u s
        | (.ok bs, v) => loadDone w (loadTiles v.stateBytes w.tiles bs v) := by
  simp only [swapLoad, hw]
  exact (if_pos hready).trans rfl

theorem swapOf_key {n x : Nat} (hw : s.swapOf n x = some w) : w.cab = n ∧ w.ctx = x := by
  simpa using List.find?_some hw

/-- A load that can be done makes its context resident (R204, R210). -/
theorem swapLoad_ctx {n x : Nat} {v : State} {bs : List Byte} (hw : s.swapOf n x = some w) (hready : s.loadReady w = true)
    (h : w.zero = true ∨ s.vaRead w.asker w.va (w.tiles.length * s.stateBytes) = (.ok bs, v)) :
    ((swapLoad n x s).ctx n x).resid = (if s.swapsOut n = true then Resid.outProgress else Resid.resident) ∧
    ((swapLoad n x s).ctx n x).tiles = w.tiles ∧ ((swapLoad n x s).ctx n x).saveVa = w.va := by
  obtain ⟨rfl, rfl⟩ := swapOf_key hw
  rw [swapLoad_of_ready hw hready]
  by_cases hz : w.zero = true
  · rw [if_pos hz]
    exact loadDone_ctx (loadTiles_pln ..)
  · have hv : v.pln = s.pln := by
      rw [← vaRead_pln (s := s) w.asker w.va (w.tiles.length * s.stateBytes), h.resolve_left hz]
    rw [if_neg hz, h.resolve_left hz]
    exact loadDone_ctx ((loadTiles_pln ..).trans hv)

/-! ### Saves (R202, R204) -/

/-- The state that a save leaves, with the context's tiles cleared. -/
def saveFreed (w : Swap) (s : State) : State :=
  let s := w.tiles.foldl (fun s t => s.setTile t { s.tile t with busy := s.ts.swaps.any (fun v => v.load && v.tiles.contains t) }) s
  let keep := w.tiles.filter (fun t => (s.tile t).busy)
  let s := s.freeState w.cab w.ctx
  keep.foldl (fun s t => s.setTile t { s.tile t with busy := true }) s

theorem saveDone_eq (k : Nat) : saveDone w k s =
    ((((((saveFreed w s).setCtx w.cab w.ctx (if w.unbind then { (saveFreed w s).ctx w.cab w.ctx with
        resid := .unbound, saveVa := 0, stiles := 0, pin := false, nosave := false }
      else { (saveFreed w s).ctx w.cab w.ctx with resid := .out })).dropSwap w.cab w.ctx).bump (rTsCnt w.cab) 15 0).countSwap
        w k).endSwapDesc w { status := stDone }).noteActivity w.cab w.ctx := rfl

theorem freeState_tiles (n x : Nat) : ((s.freeState n x).ctx n x).tiles = [] := by
  rw [State.freeState, State.ctx_setCtx_same]

theorem saveFreed_tiles : ((saveFreed w s).ctx w.cab w.ctx).tiles = [] := by
  refine Eq.trans (foldl_leaves (p := fun s => (s.ctx w.cab w.ctx).tiles) ?_ _ _) (freeState_tiles ..)
  exact fun _ _ => rfl

/-- A save that ends leaves the context bound and swapped out, or unbound, without tiles (R202, R204). -/
theorem saveDone_ctx (k : Nat) : ((saveDone w k s).ctx w.cab w.ctx).resid = (if w.unbind then Resid.unbound else Resid.out) ∧
    ((saveDone w k s).ctx w.cab w.ctx).tiles = [] := by
  rw [saveDone_eq]
  generalize hx : (if w.unbind then { (saveFreed w s).ctx w.cab w.ctx with
      resid := .unbound, saveVa := 0, stiles := 0, pin := false, nosave := false }
    else { (saveFreed w s).ctx w.cab w.ctx with resid := .out } : Ctx) = x
  have hbound : x.resid = (if w.unbind then Resid.unbound else Resid.out) ∧ x.tiles = [] := by
    rw [← hx]
    split
    · exact ⟨rfl, saveFreed_tiles⟩
    · exact ⟨rfl, saveFreed_tiles⟩
  have hkept : BindingKept ((saveFreed w s).setCtx w.cab w.ctx x) (((((((saveFreed w s).setCtx w.cab w.ctx x).dropSwap w.cab
      w.ctx).bump (rTsCnt w.cab) 15 0).countSwap w k).endSwapDesc w { status := stDone }).noteActivity w.cab w.ctx) w.cab w.ctx := by
    refine BindingKept.trans (.of_drw ?_) (noteActivity_binding ..)
    rw [endSwapDesc_ctxs, countSwap_drw, State.bump_drw]
    rfl
  obtain ⟨hresid, htiles, -⟩ := hkept
  rw [State.ctx_setCtx_same] at hresid htiles
  exact ⟨hresid.trans hbound.1, htiles.trans hbound.2⟩

theorem swapSave_of_busy {n x : Nat} {data : List Byte} (hw : s.swapOf n x = some w) (h : w.load = true ∨ s.runningOf n x ≠ []) :
    swapSave n x data s = s := by
  simp only [swapSave, hw]
  refine if_pos ?_
  rcases h with h | h
  · simp [h]
  · simp [h]

/-- What a save does whose runs have ended. -/
theorem swapSave_of_ended {n x : Nat} {data : List Byte} (hw : s.swapOf n x = some w) (hload : w.load = false)
    (hrun : s.runningOf n x = []) : swapSave n x data s = if w.discard then saveDone w 0 s
      else if data.length ≠ w.tiles.length * s.stateBytes then s
      else match s.vaWrite w.asker w.va data with
        | (.wait, s) => s
        | (.bad st u, s) => saveFails w st u s
        | (.ok _, s) => saveDone w data.length s := by
  simp only [swapSave, hw]
  exact (if_neg (by simp [hload, hrun])).trans rfl

/-- A save that can be done leaves its context without tiles (R202, R204). -/
theorem swapSave_ctx {n x : Nat} {v : State} {data : List Byte} (hw : s.swapOf n x = some w) (hload : w.load = false)
    (hrun : s.runningOf n x = [])
    (h : w.discard = true ∨ (data.length = w.tiles.length * s.stateBytes ∧ s.vaWrite w.asker w.va data = (.ok (), v))) :
    ((swapSave n x data s).ctx n x).resid = (if w.unbind then Resid.unbound else Resid.out) ∧
    ((swapSave n x data s).ctx n x).tiles = [] := by
  obtain ⟨rfl, rfl⟩ := swapOf_key hw
  rw [swapSave_of_ended hw hload hrun]
  by_cases hd : w.discard = true
  · rw [if_pos hd]
    exact saveDone_ctx 0
  · obtain ⟨hlen, hwrite⟩ := h.resolve_left hd
    rw [if_neg hd, if_neg (Classical.not_not.2 hlen), hwrite]
    exact saveDone_ctx data.length

/-! ### Automatic swap-in and the stall rule (R205, R206) -/

/-- The load that a READY command of a swapped-out context begins. -/
def autoLoad (s : State) (n x : Nat) (c : Cmd) : Swap :=
  { cab := n, ctx := x, load := true, desc := none, va := (s.ctx n x).saveVa, pin := (s.ctx n x).pin, nosave := (s.ctx n x).nosave,
    stiles := (s.ctx n x).stiles, prior := .out, trig := some c.n }

theorem autoSwap_of_none {n x : Nat} (hw : s.swapOf n x = none) : autoSwap n x s =
    match (s.readyOrder n).find? (fun c => c.ctx == x) with
    | some c => if (s.ctx n x).resid == .out && !s.swapHolds n x && !s.swapsOut n then
        ({ s with ts := { s.ts with swaps := s.ts.swaps ++ [autoLoad s n x c] } }).gather (autoLoad s n x c)
      else s
    | none => s := by
  simp only [autoSwap, hw] <;> rfl

theorem autoSwap_of_load {n x : Nat} (hw : s.swapOf n x = some w) (h : w.load = true) : autoSwap n x s = s.gather w := by
  simp only [autoSwap, hw]
  exact if_pos h

theorem longestBlocked_eq_none {n : Nat} : ∀ {l : List Nat}, longestBlocked s n l = none → l = []
  | [], _ => rfl
  | c :: r, h => by
    rw [longestBlocked] at h
    split at h
    · cases h
    · split at h <;> cases h

/-- The context blocked longest is one of them, and none was blocked before it (R206). -/
theorem longestBlocked_spec {n c : Nat} : ∀ {l : List Nat}, longestBlocked s n l = some c →
    c ∈ l ∧ ∀ d ∈ l, (s.ctx n c).blockedAt.getD 0 ≤ (s.ctx n d).blockedAt.getD 0
  | [], h => by cases h
  | a :: r, h => by
    rw [longestBlocked] at h
    split at h
    · next hr =>
      cases h
      rw [longestBlocked_eq_none hr]
      exact ⟨.head _, fun d hd => List.mem_singleton.1 hd ▸ Nat.le_refl _⟩
    · next b hr =>
      obtain ⟨hmem, hlow⟩ := longestBlocked_spec hr
      split at h
      · next hle =>
        cases h
        exact ⟨.head _, List.forall_mem_cons.2 ⟨Nat.le_refl _, fun d hd => Nat.le_trans hle (hlow d hd)⟩⟩
      · next hle =>
        cases h
        exact ⟨.tail _ hmem, List.forall_mem_cons.2 ⟨Nat.le_of_lt (Nat.lt_of_not_le hle), hlow⟩⟩

/-- Every resident context of the cabinet is blocked past its limit, and one waits that no tiles suffice for (R206). -/
def stalled (s : State) (n : Nat) : Prop :=
  (∀ c ∈ s.residents n, s.activity n c = 1 ∧ ∃ t, (s.ctx n c).blockedAt = some t ∧
    t + max 1 (s.rfld (rTsCfg n) 15 0) * 1000 < s.mono) ∧
  ∃ e ∈ s.drw.ctxs, e.1 / 16384 = n ∧ e.2.resid = .out ∧ s.readyCmd n (e.1 % 16384) = true ∧ s.shortOfTiles n (e.1 % 16384) = true

theorem stallEvict_of_not {n : Nat} (h : ¬ stalled s n) : stallEvict n s = s := by
  refine if_neg fun hif => h ?_
  simpa [stalled, Option.any_eq_true, and_assoc] using hif

theorem stallEvict_of_stalled {n : Nat} (h : stalled s n) : stallEvict n s = match longestBlocked s n (s.residents n) with
    | some c => (s.evict n c).bump (rTsCnt2 n) 63 48
    | none => s := by
  refine if_pos ?_
  simpa [stalled, Option.any_eq_true, and_assoc] using h

end

/-- Settles O24. -/
theorem swapsEndAndFollowTheRules : Obligations.SwapsEndAndFollowTheRules := by
  unfold Obligations.SwapsEndAndFollowTheRules
  refine ⟨fun n x data s v h => ⟨fun hnone => ⟨?_, ?_⟩, fun w hw => ⟨fun hr => ?notReady, fun bs hr hread => ?loaded,
    fun st u hr hz hread => ?loadFails, fun hb => ?busy, fun hl hrun hdone => ?saved, fun st u hl hrun hd hlen hwr => ?saveFails⟩⟩,
    fun n x s h => ⟨fun hnone hno => ?noAuto, fun c hnone hc hout hhold hsw => ?auto, fun w hw hl => ?gather,
      ⟨fun hst => ?noStall, fun hst hne => ?stall⟩⟩⟩
  · exact idles_of_work rfl h (by simp only [swapLoad, hnone])
  · exact idles_of_work rfl h (by simp only [swapSave, hnone])
  case notReady =>
    refine idles_of_work rfl h ?_
    simp only [swapLoad, hw]
    exact if_neg (by simp [hr])
  case loaded =>
    exact ⟨_, exec_of_work rfl h, swapLoad_ctx hw hr hread⟩
  case loadFails =>
    refine (exec_of_work rfl h).trans (congrArg _ ((swapLoad_of_ready hw hr).trans ?_))
    rw [if_neg (by simp [hz]), hread]
  case busy => exact idles_of_work rfl h (swapSave_of_busy hw hb)
  case saved => exact ⟨_, exec_of_work rfl h, swapSave_ctx hw hl hrun hdone⟩
  case saveFails =>
    refine (exec_of_work rfl h).trans (congrArg _ ((swapSave_of_ended hw hl hrun).trans ?_))
    rw [if_neg (by simp [hd]), if_neg (by simpa using hlen), hwr]
  case noAuto =>
    refine idles_of_work rfl h ((autoSwap_of_none hnone).trans ?_)
    split
    · next c hc =>
      refine if_neg ?_
      rcases hno with hno | hno | hno | hno
      · rw [hno] at hc
        cases hc
      · simp [hno]
      · simp [hno]
      · simp [hno]
    · rfl
  case auto =>
    refine (exec_of_work rfl h).trans (congrArg _ ((autoSwap_of_none hnone).trans ?_))
    rw [hc]
    exact if_pos (by simp [hout, hhold, hsw])
  case gather => exact (exec_of_work rfl h).trans (congrArg _ (autoSwap_of_load hw hl))
  case noStall =>
    refine idles_of_work rfl h ?_
    by_cases hs : stalled s n.val
    · rw [stallEvict_of_stalled hs, hst.resolve_left (Classical.not_not.2 hs)]
      rfl
    · exact stallEvict_of_not hs
  case stall =>
    obtain ⟨c, hc⟩ := Option.ne_none_iff_exists'.1 (fun hnone => hne (longestBlocked_eq_none hnone))
    obtain ⟨hmem, hlow⟩ := longestBlocked_spec hc
    refine ⟨c, hmem, hlow, (exec_of_work rfl h).trans (congrArg _ ((stallEvict_of_stalled hst).trans ?_))⟩
    rw [hc]

end Sys2Proof.Machine
end

section
/-! PROOFS. Table walks (O25; R118, R123, R124). -/
namespace Sys2Proof.Machine

section
variable {s : State} {id : Nat} {r : Req}

/-- The walk of a request's context and page is under way. -/
def walkHere (s : State) (r : Req) : Prop := ∃ w ∈ s.tu.walks, w.cab = r.cab ∧ w.ctx = r.ctx ∧ w.page = r.va / 65536

theorem walkStartReq_of_none (h : s.tu.reqs.find? (fun r => r.id == id) = none) : walkStartReq id s = s := by
  simp only [walkStartReq, h]

theorem walkStartReq_of_other (h : s.tu.reqs.find? (fun r => r.id == id) = some r) (hph : ∀ k, r.phase ≠ .miss k) :
    walkStartReq id s = s := by
  simp only [walkStartReq, h]

/-- What a waiting miss does: it joins its walk, waits for a slot, or takes one (R123). -/
theorem walkStartReq_of_miss {k : Bool} (h : s.tu.reqs.find? (fun r => r.id == id) = some r) (hph : r.phase = .miss k) :
    (walkHere s r → walkStartReq id s = (s.setReq { r with phase := .walk }).bump (rTuCstat r.cab) 47 32) ∧
    (¬ walkHere s r → walkStartReq id s = if s.walkRoom r.cab then
        { s.setReq { r with phase := .walk } with tu := { (s.setReq { r with phase := .walk }).tu with
          walks := s.tu.walks ++ [{ cab := r.cab, ctx := r.ctx, page := r.va / 65536 }] } }
      else if k then s else (s.setReq { r with phase := .miss true }).bump rTuGstat 63 48) := by
  simp only [walkStartReq, h, hph]
  refine ⟨fun hw => if_pos ?_, fun hw => (if_neg ?_).trans ?_⟩
  · simpa [walkHere, and_assoc] using hw
  · simpa [walkHere, and_assoc] using hw
  · cases s.walkRoom r.cab <;> rfl

/-- A slot is refused where all 512 are taken, or where the cabinet has its share and another's miss waits (R123). -/
theorem walkRoom_eq_false_iff (n : Nat) : s.walkRoom n = false ↔ 512 ≤ s.tu.walks.length ∨
    ((∃ q ∈ s.tu.reqs, q.cab ≠ n ∧ ∃ j, q.phase = .miss j) ∧
      max 16 (512 * (s.cab n).memFloor / 1024) ≤ (s.tu.walks.filter (fun w => w.cab == n)).length) := by
  rw [State.walkRoom]
  simp only [Bool.and_eq_false_iff, decide_eq_false_iff_not, Nat.not_lt, Bool.not_eq_false', Bool.and_eq_true, List.any_eq_true,
    bne_iff_ne, decide_eq_true_eq]
  refine or_congr_right (and_congr_left fun _ => exists_congr fun q => and_congr_right fun _ => and_congr_right fun _ => ?_)
  split
  · next j hj => exact ⟨fun _ => ⟨j, hj⟩, fun _ => rfl⟩
  · next hno => exact ⟨fun h => Bool.noConfusion h, fun ⟨j, hj⟩ => absurd hj (hno j)⟩

end

section
variable {s : State} {n x page : Nat}

theorem walkEnds_of_none (h : ¬ ∃ w ∈ s.tu.walks, w.cab = n ∧ w.ctx = x ∧ w.page = page) : walkEnds n x page s = s :=
  if_neg (by simpa [and_assoc] using h)

/-- The state in which a walk has left its slot. -/
def walkFreed (s : State) (n x page : Nat) : State :=
  { s with tu := { s.tu with walks := s.tu.walks.filter (fun w => !(w.cab == n && w.ctx == x && w.page == page)) } }

/-- The requests attached to a walk. -/
def walkMine (s : State) (n x page : Nat) : List Req :=
  s.tu.reqs.filter (fun r => r.cab == n && r.ctx == x && r.va / 65536 == page && r.phase == .walk)

/-- A walk's end, for every attached request (R118, R124). -/
theorem walkEnds_of_walk (h : ∃ w ∈ s.tu.walks, w.cab = n ∧ w.ctx = x ∧ w.page = page) : walkEnds n x page s =
    match ((walkFreed s n x page).walk n x (page * 65536)).1 with
    | .malformed => (walkMine s n x page).foldl (fun s r => s.failReq r stXlate uTu true)
        (((walkFreed s n x page).walk n x (page * 65536)).2.bump rTuGstat 47 32)
    | .fail st u => (walkMine s n x page).foldl (fun s r => s.failReq r st u true) ((walkFreed s n x page).walk n x (page * 65536)).2
    | e => (walkMine s n x page).foldl (fun s r => tileGoes r (s.afterWalk r.asker r.va r.write e))
        ((walkFreed s n x page).walk n x (page * 65536)).2 :=
  if_pos (by simpa [and_assoc] using h)

end

/-- Settles O25. -/
theorem walksStartAndEnd : Obligations.WalksStartAndEnd := by
  unfold Obligations.WalksStartAndEnd
  refine ⟨fun id s h => ⟨fun hnone => idles_of_work rfl h (walkStartReq_of_none hnone), fun r hr =>
    ⟨fun hph => idles_of_work rfl h (walkStartReq_of_other hr hph), fun k hk => ⟨fun hw => ?joins, fun hw hf ht => ?counted,
      fun hw hf ht => ?refused, fun hw hf => ?starts⟩⟩⟩, fun n x page s h => ⟨fun hw => idles_of_work rfl h (walkEnds_of_none hw),
    fun hw he => ?malformed, fun st v hw he => ?fails, fun hw hm hf => ?goes⟩⟩
  case joins => exact (exec_of_work rfl h).trans (congrArg _ ((walkStartReq_of_miss hr hk).1 hw))
  case counted =>
    refine idles_of_work rfl h (((walkStartReq_of_miss hr hk).2 hw).trans ?_)
    rw [(walkRoom_eq_false_iff _).2 hf, ht]
    rfl
  case refused =>
    refine (exec_of_work rfl h).trans (congrArg _ (((walkStartReq_of_miss hr hk).2 hw).trans ?_))
    rw [(walkRoom_eq_false_iff _).2 hf, ht]
    rfl
  case starts =>
    have hroom : s.walkRoom r.cab = true := by
      rw [← Bool.not_eq_false, walkRoom_eq_false_iff]
      exact hf
    refine ⟨_, exec_of_work rfl h, ?_⟩
    dsimp only
    rw [(walkStartReq_of_miss hr hk).2 hw, if_pos hroom]
  case malformed =>
    refine (exec_of_work rfl h).trans (congrArg _ ((walkEnds_of_walk hw).trans ?_))
    rw [walkFreed, he]
    rfl
  case fails =>
    refine (exec_of_work rfl h).trans (congrArg _ ((walkEnds_of_walk hw).trans ?_))
    rw [walkFreed, he]
    rfl
  case goes =>
    refine (exec_of_work rfl h).trans (congrArg _ ((walkEnds_of_walk hw).trans ?_))
    split
    · next he => exact absurd he hm
    · next st v he => exact absurd he (hf st v)
    · rfl

end Sys2Proof.Machine
end

section
/-! PROOFS. Host pages and withdrawals (O27; R125 to R127, R147, R473). -/
namespace Sys2Proof.Machine

/-! ### Completions of translations (R125) -/

section
variable {s : State} {id : Nat} {q : Req} {pr r w : Bool} {addr size : Nat}

/-- The state in which a translation request is no longer outstanding. -/
def atsClosed (s : State) (id : Nat) : State :=
  { s with tu := { s.tu with atsOpen := s.tu.atsOpen.filter (fun x => x != id) } }

/-- The first entry with one property is the first with both, where it has the other. -/
theorem find?_and {α : Type} {p o : α → Bool} {x : α} : ∀ {l : List α}, l.find? p = some x → o x = true →
    l.find? (fun y => p y && o y) = some x
  | y :: l, h, ho => by
    rw [List.find?_cons] at h ⊢
    split at h
    · next hp =>
      cases h
      simp [hp, ho]
    · next hp =>
      simp only [hp, Bool.false_and]
      exact find?_and h ho

theorem atsDone_of_ats (hq : s.tu.reqs.find? (fun q => q.id == id) = some q) (hph : q.phase = .ats) :
    atsDone id pr r w addr size s = atsAnswer q pr r w addr size (atsClosed s id) := by
  have hfind : s.tu.reqs.find? (fun q => q.id == id && q.phase == .ats) = some q := find?_and hq (by simp [hph])
  simp only [atsDone, hfind]
  rfl

theorem atsDone_of_gone (h : ∀ q ∈ s.tu.reqs, q.id ≠ id) : atsDone id pr r w addr size s =
    if id ∈ s.tu.atsOpen then atsClosed s id else (atsClosed s id).faultOn uHost 6 none := by
  have hfind : s.tu.reqs.find? (fun q => q.id == id && q.phase == .ats) = none :=
    List.find?_eq_none.2 fun q hq => by simp [h q hq]
  simp only [atsDone, hfind, List.contains_iff_mem]
  rfl

theorem atsClosed_of_not_mem (h : id ∉ s.tu.atsOpen) : atsClosed s id = s := by
  have hfilter : s.tu.atsOpen.filter (fun x => x != id) = s.tu.atsOpen :=
    List.filter_eq_self.2 fun x hx => by simpa using ne_of_mem_of_not_mem hx h
  rw [atsClosed, hfilter]

theorem atsAnswer_of_refused (h : ¬ (pr = true ∧ (if q.write = true then w = true else r = true))) :
    atsAnswer q pr r w addr size s = hostFault { q with since := s.mono } s := by
  refine if_neg ?_
  cases hw : q.write <;> simpa [hw] using h

/-- A host fault is DENIED without bus mastering (R127). -/
theorem hostFault_of_no_master (h : s.funcBme (s.funcOf q.cab) = false) : hostFault q s = s.failReq q stDenied uHost true :=
  if_pos (by simp [h])

theorem hostFault_of_no_pages (h : s.funcBme (s.funcOf q.cab) = true)
    (hno : q.service = false ∨ fld (mapGet 0 (s.funcOf q.cab) s.hg.cfg) 8 8 = 0 ∨ s.funcOf q.cab ∈ s.tu.priOff) :
    hostFault q s = (s.failReq q stXlate uTu true).priFail := by
  refine (if_neg (by simp [h])).trans (if_pos ?_)
  simp only [Bool.or_eq_true, Bool.not_eq_true', decide_eq_true_eq, List.contains_iff_mem, or_assoc]
  exact hno

theorem hostFault_of_pages (h : s.funcBme (s.funcOf q.cab) = true) (hserve : q.service = true)
    (hpri : fld (mapGet 0 (s.funcOf q.cab) s.hg.cfg) 8 8 = 1) (hon : s.funcOf q.cab ∉ s.tu.priOff) :
    hostFault q s = pageRequest q { s with tu := { s.tu with
      reqs := updWhere (fun x => x.id == q.id) (fun x => { x with since := s.mono }) s.tu.reqs } } :=
  (if_neg (by simp [h])).trans (if_neg (by
    simp only [Bool.or_eq_true, Bool.not_eq_true', decide_eq_true_eq, List.contains_iff_mem, hserve, hpri]
    exact not_or.2 ⟨by decide, hon⟩))

end

/-! ### Responses to page requests (R127) -/

section
variable {s : State} {g : Nat} {r : Req}

/-- The state in which a page request group has its response. -/
def prgClosed (s : State) (g code : Nat) : State :=
  { s with tu := { s.tu with
      priOpen := s.tu.priOpen.filter (fun e => e.1 != g),
      priOff := (((s.tu.priOpen.filter (fun e => e.1 == g && code == 15)).map (·.2)).filter (fun f => !s.tu.priOff.contains f)) ++
        s.tu.priOff } }

theorem priRefill_of_none (h : ∀ q ∈ s.tu.reqs, q.phase ≠ .priWait) : priRefill s = s := by
  have hnone : s.tu.reqs.filter (fun r => r.phase == .priWait) = [] :=
    List.filter_eq_nil_iff.2 fun q hq => by simpa using h q hq
  rw [priRefill, hnone]
  rfl

/-- A response to a group of one request. -/
theorem prgDone_of_one {code : Nat} (h : s.tu.reqs.filter (fun r => r.phase == .pri g) = [r]) : prgDone g code s = priRefill
    (if code = 0 then ((prgClosed s g code).setReq { r with phase := .ats }).askAts r.id r.cab r.ctx r.va r.write
      else ((prgClosed s g code).failReq r stXlate uTu true).priFail) := by
  simp only [prgDone, h]
  rfl

theorem prgDone_of_stray {code : Nat} (hopen : ∀ e ∈ s.tu.priOpen, e.1 ≠ g) (h : ∀ q ∈ s.tu.reqs, q.phase ≠ .pri g) :
    prgDone g code s = s.faultOn uHost 6 none := by
  have hnone : s.tu.reqs.filter (fun r => r.phase == .pri g) = [] :=
    List.filter_eq_nil_iff.2 fun q hq => by simpa using h q hq
  have hshut : s.tu.priOpen.any (fun e => e.1 == g) = false := by simpa using hopen
  simp only [prgDone, hnone, hshut]
  rfl

theorem prgClosed_of_not_stop {code : Nat} (h : code ≠ 15) : prgClosed s g code =
    { s with tu := { s.tu with priOpen := s.tu.priOpen.filter (fun e => e.1 != g) } } := by
  have hnone : s.tu.priOpen.filter (fun e => e.1 == g && code == 15) = [] :=
    List.filter_eq_nil_iff.2 fun e he => by simp [h]
  rw [prgClosed, hnone]
  rfl

/-- A Response Failure stops its function's page requests (R127). -/
theorem mem_priOff_prgClosed {fn : Nat} (h : (g, fn) ∈ s.tu.priOpen) : fn ∈ (prgClosed s g 15).tu.priOff := by
  by_cases hoff : fn ∈ s.tu.priOff
  · exact List.mem_append.2 (.inr hoff)
  · refine List.mem_append.2 (.inl (List.mem_filter.2 ⟨List.mem_map.2 ⟨(g, fn), List.mem_filter.2 ⟨h, by simp⟩, rfl⟩, ?_⟩))
    simpa using hoff

theorem setReq_phase {r' q : Req} (h : q ∈ (s.setReq r').tu.reqs) : (q ∈ s.tu.reqs ∧ q.id ≠ r'.id) ∨ q = r' := by
  obtain ⟨x, hx, hxq⟩ := List.mem_map.1 h
  split at hxq
  · exact .inr hxq.symm
  · next hne =>
    subst hxq
    exact .inl ⟨hx, by simpa using hne⟩

/-- A request that fails is dropped, or kept as failed until its asker looks (R118). -/
theorem failReq_tu (st u : Nat) (hard : Bool) : (s.failReq r st u hard).tu = (s.dropReq r.id).tu ∨
    (s.failReq r st u hard).tu = (s.setReq { r with phase := .failed st u }).tu := by
  have hnote : ∀ t : State, (t.noteErr r.owner r.ord st u hard).tu = t.tu := fun t => by
    unfold State.noteErr
    split <;> rfl
  unfold State.failReq
  split
  · dsimp only
    split
    · exact .inl (hnote _)
    · exact .inl (hnote _)
  · exact .inr rfl

/-- Of the requests after a failed one only those with other numbers go on. -/
theorem failReq_reqs {st u : Nat} {hard : Bool} {q : Req} (h : q ∈ (s.failReq r st u hard).tu.reqs) :
    (q ∈ s.tu.reqs ∧ q.id ≠ r.id) ∨ q.phase = .failed st u := by
  rcases failReq_tu (s := s) (r := r) st u hard with htu | htu
  · rw [htu] at h
    exact .inl (by simpa using List.mem_filter.1 h)
  · rw [htu] at h
    exact (setReq_phase h).imp_right fun hq => congrArg Req.phase hq

theorem failReq_pri (st u : Nat) (hard : Bool) : (s.failReq r st u hard).tu.priOff = s.tu.priOff ∧
    (s.failReq r st u hard).tu.priOpen = s.tu.priOpen := by
  rcases failReq_tu (s := s) (r := r) st u hard with htu | htu <;> rw [htu] <;> exact ⟨rfl, rfl⟩

/-- A response that is not Success fails its group's one request; no request of the group is left (R127). -/
theorem prgDone_of_failure {code : Nat} (h : s.tu.reqs.filter (fun r => r.phase == .pri g) = [r])
    (hwait : ∀ q ∈ s.tu.reqs, q.phase ≠ .priWait) (hcode : code ≠ 0) :
    (prgDone g code s).tu.priOff = (prgClosed s g code).tu.priOff ∧ (∀ e ∈ (prgDone g code s).tu.priOpen, e.1 ≠ g) ∧
    ¬ ∃ q ∈ (prgDone g code s).tu.reqs, q.phase = .pri g := by
  have hreq : ∀ q ∈ (((prgClosed s g code).failReq r stXlate uTu true).priFail).tu.reqs,
      (q ∈ s.tu.reqs ∧ q.id ≠ r.id) ∨ q.phase = .failed stXlate uTu := fun q hq => by
    rw [State.priFail, State.bump_tu] at hq
    exact failReq_reqs (s := prgClosed s g code) hq
  rw [prgDone_of_one h, if_neg hcode, priRefill_of_none]
  · rw [State.priFail, State.bump_tu]
    obtain ⟨hoff, hopen⟩ := failReq_pri (s := prgClosed s g code) (r := r) stXlate uTu true
    refine ⟨hoff, fun e he => ?_, fun ⟨q, hq, hpri⟩ => ?_⟩
    · rw [hopen] at he
      simpa using (List.mem_filter.1 he).2
    · rcases failReq_reqs hq with ⟨hmem, hid⟩ | hfailed
      · have hone : q ∈ [r] := by
          rw [← h]
          exact List.mem_filter.2 ⟨hmem, by simpa using hpri⟩
        exact hid (congrArg _ (List.mem_singleton.1 hone))
      · exact absurd (hpri.symm.trans hfailed) (by rintro ⟨⟩)
  · intro q hq
    rcases hreq q hq with ⟨hmem, -⟩ | hfailed
    · exact hwait q hmem
    · rw [hfailed]
      rintro ⟨⟩

/-- Success asks again (R127). -/
theorem prgDone_of_success (h : s.tu.reqs.filter (fun r => r.phase == .pri g) = [r]) (hwait : ∀ q ∈ s.tu.reqs, q.phase ≠ .priWait) :
    prgDone g 0 s = ((prgClosed s g 0).setReq { r with phase := .ats }).askAts r.id r.cab r.ctx r.va r.write := by
  rw [prgDone_of_one h, if_pos rfl, priRefill_of_none]
  intro q hq
  rcases setReq_phase (s := prgClosed s g 0) (r' := { r with phase := .ats }) hq with ⟨hmem, -⟩ | rfl
  · exact hwait q hmem
  · rintro ⟨⟩

end

/-! ### Withdrawals (R126, R147) -/

section
variable {s : State}

theorem renewHost_withdraws (r : Req) : (s.renewHost r).tu.withdraws = s.tu.withdraws ∧ (s.renewHost r).tu.nextWd = s.tu.nextWd ∧
    (s.renewHost r).tu.look = s.tu.look := by
  unfold State.renewHost
  split <;> exact ⟨rfl, rfl, rfl⟩

/-- An ATS withdrawal waits behind the others of the unit, and drops the cached host leaves of its range. -/
theorem withdraw_host (cs : List (Nat × Nat)) (lo hi : Nat) (h : Nat × Nat) :
    (s.withdraw cs lo hi (some h) none).tu.withdraws = s.tu.withdraws ++
      [{ id := s.tu.nextWd, ctxs := cs, lo := lo, hi := hi, host := some h, desc := none }] ∧
    (s.withdraw cs lo hi (some h) none).tu.look = s.tu.look.filter (fun e =>
      !(e.host && cs.contains (e.cab, e.ctx) && overlaps e.va e.size lo (hi - lo))) := by
  have hkeep : ∀ (l : List Req) (t : State), (l.foldl State.renewHost t).tu.withdraws = t.tu.withdraws ∧
      (l.foldl State.renewHost t).tu.nextWd = t.tu.nextWd ∧ (l.foldl State.renewHost t).tu.look = t.tu.look := fun l t =>
    ⟨foldl_leaves (p := fun s => s.tu.withdraws) (fun s r => (renewHost_withdraws (s := s) r).1) l t,
      foldl_leaves (p := fun s => s.tu.nextWd) (fun s r => (renewHost_withdraws (s := s) r).2.1) l t,
      foldl_leaves (p := fun s => s.tu.look) (fun s r => (renewHost_withdraws (s := s) r).2.2) l t⟩
  unfold State.withdraw
  simp only [Option.isSome_some, if_true]
  refine ⟨?_, (hkeep _ _).2.2⟩
  rw [(hkeep _ _).1, (hkeep _ _).2.1]

/-- What completes a withdrawal that nothing holds back (R126, R147). -/
def withdrawn (s : State) (w : Withdrawal) (id : Nat) : State :=
  let s := ({ s with tu := { s.tu with withdraws := s.tu.withdraws.filter (fun v => v.id != id) } }).passSeq
  let s := match w.host with
    | some (f, t) => s.emit (.invalidated f t)
    | none => s
  match w.desc with
  | some (c, d, q) => s.endFlight c d q { status := stDone }
  | none => s

/-- A descriptor that ends DONE changes only the descriptors in flight. -/
theorem endFlight_done (c d q : Nat) : (s.endFlight c d q { status := stDone }).regs = s.regs ∧
    (s.endFlight c d q { status := stDone }).tu = s.tu ∧ (s.endFlight c d q { status := stDone }).out = s.out := ⟨rfl, rfl, rfl⟩

theorem passSeq_reg : s.passSeq.reg rTuSeq = BitVec.ofNat 64 (((s.reg rTuSeq).toNat + 1) % 2 ^ 48) := State.reg_setReg_same ..

theorem withdrawn_spec (w : Withdrawal) (id : Nat) :
    (withdrawn s w id).reg rTuSeq = BitVec.ofNat 64 (((s.reg rTuSeq).toNat + 1) % 2 ^ 48) ∧
    (withdrawn s w id).tu.withdraws = s.tu.withdraws.filter (fun v => v.id != id) ∧
    ∀ f g, w.host = some (f, g) → (withdrawn s w id).out = .invalidated f g :: s.out := by
  obtain ⟨seq, ctxs, lo, hi, host, desc⟩ := w
  have hseq := passSeq_reg (s := { s with tu := { s.tu with withdraws := s.tu.withdraws.filter (fun v => v.id != id) } })
  cases host with
  | none =>
    cases desc with
    | none => exact ⟨hseq, rfl, fun _ _ h => nomatch h⟩
    | some d => exact ⟨hseq, rfl, fun _ _ h => nomatch h⟩
  | some x =>
    cases desc with
    | none => exact ⟨hseq, rfl, fun f g h => by cases h; rfl⟩
    | some d => exact ⟨hseq, rfl, fun f g h => by cases h; rfl⟩

end

section
variable {s : State} {id : Nat} {w : Withdrawal}

/-- What holds a withdrawal back: an earlier one of its function, or a kill it caused (R126, R147). -/
def heldBack (s : State) (w : Withdrawal) (id : Nat) : Prop :=
  (∃ v ∈ s.tu.withdraws, v.id < id ∧ v.host ≠ none ∧ v.host.map (·.1) = w.host.map (·.1)) ∨
  ∃ c ∈ w.ctxs, ∃ x ∈ s.ts.cmds, x.cab = c.1 ∧ x.ctx = c.2 ∧ ∃ l, x.phase = .killing l

theorem heldBack_iff : heldBack s w id ↔
    (s.tu.withdraws.any (fun v => decide (v.id < id) && v.host.isSome && v.host.map (·.1) == w.host.map (·.1)) ||
      w.ctxs.any (fun c => s.ts.cmds.any (fun x => x.cab == c.1 && x.ctx == c.2 &&
        match x.phase with | .killing _ => true | _ => false))) = true := by
  unfold heldBack
  simp only [Bool.or_eq_true, List.any_eq_true, Bool.and_eq_true, decide_eq_true_eq, beq_iff_eq, Option.isSome_iff_ne_none, and_assoc]
  refine or_congr_right (exists_congr fun c => and_congr_right fun _ => exists_congr fun x => and_congr_right fun _ =>
    and_congr_right fun _ => and_congr_right fun _ => ?_)
  split
  · next l hl => exact ⟨fun _ => rfl, fun _ => ⟨l, hl⟩⟩
  · next hno => exact ⟨fun ⟨l, hl⟩ => absurd hl (hno l), fun h => Bool.noConfusion h⟩

theorem exec_withdrawalComplete (h : s.serves uTu) (hw : s.tu.withdraws.find? (fun w => w.id == id) = some w) :
    (heldBack s w id → exec (.withdrawalComplete id) s = .next s) ∧
    (¬ heldBack s w id → exec (.withdrawalComplete id) s = .next (withdrawn s w id)) := by
  refine ⟨fun hb => (exec_of_work rfl h).trans (congrArg _ ?_), fun hb => (exec_of_work rfl h).trans (congrArg _ ?_)⟩
  · simp only [hw]
    exact if_pos (heldBack_iff.1 hb)
  · simp only [hw]
    exact (if_neg (mt heldBack_iff.2 hb)).trans rfl

end

/-- Settles O27. -/
theorem hostPagesAndWithdrawals : Obligations.HostPagesAndWithdrawals := by
  unfold Obligations.HostPagesAndWithdrawals
  refine ⟨⟨fun id pr r w addr size s q h hq hph => ⟨fun hg => ?granted, fun hg hb => ?noMaster, fun hg hb hno => ?noPages,
    fun hg hb hserve hpri hon => ?pages⟩, fun g code s r h hone hwait => ⟨fun hc => ?success, fun hc => ?invalid,
    fun fn hc hfn => ?stops⟩, fun id g pr r w addr size code s h => ⟨fun ho hq => ?stray, fun ho hq => ?gone, fun ho hq => ?strayGroup⟩⟩,
    fun f tag p addr len s h => ⟨fun hfull => ?full, fun hroom => ?accepted⟩, fun id s h => ⟨fun hnone => ?_, fun w hw =>
    ⟨fun hb => ?_, fun he hk => ⟨_, (exec_withdrawalComplete h hw).2 (not_or.2 ⟨he, hk⟩), ?_⟩⟩⟩⟩
  case granted =>
    refine (exec_of_work rfl h).trans (congrArg _ ((atsDone_of_ats hq hph).trans (if_pos ?_)))
    obtain ⟨hpr, hrw⟩ := hg
    rw [hpr, Bool.true_and]
    split <;> simp_all
  case noMaster =>
    exact (exec_of_work rfl h).trans (congrArg _ ((atsDone_of_ats hq hph).trans ((atsAnswer_of_refused hg).trans (hostFault_of_no_master hb))))
  case noPages =>
    exact (exec_of_work rfl h).trans (congrArg _ ((atsDone_of_ats hq hph).trans ((atsAnswer_of_refused hg).trans
      (hostFault_of_no_pages hb hno))))
  case pages =>
    exact (exec_of_work rfl h).trans (congrArg _ ((atsDone_of_ats hq hph).trans ((atsAnswer_of_refused hg).trans
      (hostFault_of_pages hb hserve hpri hon))))
  case success =>
    refine (exec_of_work rfl h).trans (congrArg _ ?_)
    rw [hc, prgDone_of_success hone hwait, prgClosed_of_not_stop (by decide)]
  case invalid =>
    obtain ⟨hoff, -, hleft⟩ := prgDone_of_failure (code := code.val) hone hwait (by omega)
    refine ⟨_, exec_of_work rfl h, hoff.trans ?_, hleft⟩
    rw [prgClosed_of_not_stop (by omega)]
  case stops =>
    obtain ⟨hoff, hopen, hleft⟩ := prgDone_of_failure (code := code.val) hone hwait (by omega)
    refine ⟨_, exec_of_work rfl h, ?_, hopen, hleft⟩
    rw [hoff, hc]
    exact mem_priOff_prgClosed hfn
  case stray =>
    refine (exec_of_work rfl h).trans (congrArg _ ((atsDone_of_gone hq).trans ((if_neg ho).trans ?_)))
    rw [atsClosed_of_not_mem ho]
  case gone => exact (exec_of_work rfl h).trans (congrArg _ ((atsDone_of_gone hq).trans (if_pos ho)))
  case strayGroup => exact (exec_of_work rfl h).trans (congrArg _ (prgDone_of_stray ho hq))
  case full => exact idles_of_work rfl h (if_neg (Nat.not_lt.2 hfull))
  case accepted =>
    refine ⟨_, exec_of_work rfl h, ?_⟩
    dsimp only
    rw [if_pos hroom]
    obtain ⟨hwd, hlook⟩ := withdraw_host (s := s.bump rTuGstat 31 16) (s.ctxsOfFunc f.val (p.map (·.val))) addr (addr + len)
      (f.val, tag.val)
    refine ⟨by rw [hwd, State.bump_tu], fun e he hhost hmem hover => ?_⟩
    rw [hlook] at he
    have := (List.mem_filter.1 he).2
    simp [hhost, hmem, hover] at this
  · refine idles_of_work rfl h ?_
    simp only [hnone]
  · exact (exec_withdrawalComplete h hw).1 hb
  · obtain ⟨hseq, hwd, hout⟩ := withdrawn_spec (s := s) w id
    refine ⟨hseq, fun v hv => ?_, hout⟩
    rw [hwd] at hv
    simpa using (List.mem_filter.1 hv).2

end Sys2Proof.Machine
end

section
/-! PROOFS. Shadow stalls, settling and ADVISE (O29, O30; R142, R143, R150, R151). -/
namespace Sys2Proof.Machine

/-! ### Stalled writes (R142) -/

/-- Of a list that is not empty, a command that started latest. -/
theorem latestStart_of_ne_nil : ∀ {l : List Cmd}, l ≠ [] → ∃ c, latestStart l = some c ∧ c ∈ l ∧ ∀ d ∈ l, d.start ≤ c.start
  | [], h => absurd rfl h
  | [c], _ => ⟨c, rfl, .head _, fun d hd => List.mem_singleton.1 hd ▸ Nat.le_refl _⟩
  | c :: b :: r, _ => by
    obtain ⟨d, hd, hmem, hlate⟩ := latestStart_of_ne_nil (l := b :: r) (List.cons_ne_nil _ _)
    have heq : latestStart (c :: b :: r) = if c.start ≤ d.start then some d else some c := by
      rw [latestStart, hd]
    rw [heq]
    split
    · next hle => exact ⟨d, rfl, .tail _ hmem, List.forall_mem_cons.2 ⟨hle, hlate⟩⟩
    · next hle => exact ⟨c, rfl, .head _, List.forall_mem_cons.2 ⟨Nat.le_refl _, fun e he => Nat.le_trans (hlate e he) (Nat.le_of_lt (Nat.lt_of_not_le hle))⟩⟩

theorem latestDce_of_ne_nil : ∀ {l : List DceCmd}, l ≠ [] → ∃ c, latestDce l = some c ∧ c ∈ l ∧ ∀ d ∈ l, d.start ≤ c.start
  | [], h => absurd rfl h
  | [c], _ => ⟨c, rfl, .head _, fun d hd => List.mem_singleton.1 hd ▸ Nat.le_refl _⟩
  | c :: b :: r, _ => by
    obtain ⟨d, hd, hmem, hlate⟩ := latestDce_of_ne_nil (l := b :: r) (List.cons_ne_nil _ _)
    have heq : latestDce (c :: b :: r) = if c.start ≤ d.start then some d else some c := by
      rw [latestDce, hd]
    rw [heq]
    split
    · next hle => exact ⟨d, rfl, .tail _ hmem, List.forall_mem_cons.2 ⟨hle, hlate⟩⟩
    · next hle => exact ⟨c, rfl, .head _, List.forall_mem_cons.2 ⟨Nat.le_refl _, fun e he => Nat.le_trans (hlate e he) (Nat.le_of_lt (Nat.lt_of_not_le hle))⟩⟩

section
variable {s : State} {n : Nat}

/-- A write of the cabinet has been stalled past its limit (R142). -/
def lateWrite (s : State) (n : Nat) : Prop :=
  ∃ r ∈ s.tu.reqs, r.cab = n ∧ r.phase = .shadow ∧ r.since + max 1 (s.rfld rTuCfg 31 16) * 1000 ≤ s.mono

/-- The limits of the cabinet's stalled writes start again. -/
def freshWaits (s : State) (n : Nat) : State :=
  { s with tu := { s.tu with reqs := updWhere (fun r => r.cab == n && r.phase == .shadow) (fun r => { r with since := s.mono }) s.tu.reqs } }

theorem lateWrite_iff : s.tu.reqs.any (fun r => r.cab == n && r.phase == .shadow &&
    decide (r.since + max 1 (s.rfld rTuCfg 31 16) * 1000 ≤ s.mono)) = true ↔ lateWrite s n := by
  simp [lateWrite, and_assoc]

theorem shadowExpiry_of_not (h : ¬ lateWrite s n ∨ n ∈ s.tu.frozen) : shadowExpiry n s = s := by
  refine if_neg ?_
  rw [Bool.and_eq_true, lateWrite_iff]
  rcases h with h | h
  · exact fun hc => h hc.1
  · simp [h]

section
variable (hlate : lateWrite s n) (hrun : n ∉ s.tu.frozen)
include hlate hrun

theorem shadowExpiry_of_late : shadowExpiry n s = match latestStart (s.shadowHolders n), latestDce (s.dceHolders n) with
    | some c, none => freshWaits ((s.killCmd n c.n 3 [.granules (s.poolShadows (.cmd n c.n))]).bump (rTuCstat n) 31 16) n
    | none, some d => freshWaits ((s.killDce d 3 [.granules (s.poolShadows d.owner)]).bump (rTuCstat n) 31 16) n
    | some c, some d =>
      if c.start ≤ d.start then freshWaits ((s.killDce d 3 [.granules (s.poolShadows d.owner)]).bump (rTuCstat n) 31 16) n
      else freshWaits ((s.killCmd n c.n 3 [.granules (s.poolShadows (.cmd n c.n))]).bump (rTuCstat n) 31 16) n
    | none, none => s := by
  refine (if_pos ?_).trans rfl
  rw [Bool.and_eq_true, lateWrite_iff]
  exact ⟨hlate, by simpa using hrun⟩

/-- Where only tile commands hold shadows, the one that started latest is killed (R142). -/
theorem shadowExpiry_of_tiles (hdce : s.dceHolders n = []) (htiles : s.shadowHolders n ≠ []) :
    ∃ c ∈ s.shadowHolders n, (∀ d ∈ s.shadowHolders n, d.start ≤ c.start) ∧ shadowExpiry n s =
      freshWaits ((s.killCmd n c.n 3 [.granules (s.poolShadows (.cmd n c.n))]).bump (rTuCstat n) 31 16) n := by
  obtain ⟨c, hc, hmem, hstart⟩ := latestStart_of_ne_nil htiles
  refine ⟨c, hmem, hstart, (shadowExpiry_of_late hlate hrun).trans ?_⟩
  simp only [hc, hdce, latestDce]

/-- Where only dispatch commands hold shadows, the one that started latest is killed (R142). -/
theorem shadowExpiry_of_dce (hdce : s.dceHolders n ≠ []) (htiles : s.shadowHolders n = []) :
    ∃ c ∈ s.dceHolders n, (∀ d ∈ s.dceHolders n, d.start ≤ c.start) ∧ shadowExpiry n s =
      freshWaits ((s.killDce c 3 [.granules (s.poolShadows c.owner)]).bump (rTuCstat n) 31 16) n := by
  obtain ⟨c, hc, hmem, hstart⟩ := latestDce_of_ne_nil hdce
  refine ⟨c, hmem, hstart, (shadowExpiry_of_late hlate hrun).trans ?_⟩
  simp only [hc, htiles, latestStart]

end

end

theorem exec_shadowStallResume {s : State} {id : Nat} {r : Req} (h : s.serves uTu)
    (hr : s.tu.reqs.find? (fun r => r.id == id) = some r) : exec (.shadowStallResume id) s =
      .next (if r.phase == .shadow && decide (0 < s.freeFor r) && !s.tu.frozen.contains r.cab then releaseReq r s else s) := by
  refine (exec_of_work rfl h).trans (congrArg _ ?_)
  simp only [hr]

/-! ### Settling (R143) -/

section
variable {s : State} {n h : Nat}

/-- A settling job of the cabinet may take the granule. -/
def inJob (s : State) (n h : Nat) : Prop := ∃ j ∈ s.tu.settles, j.cab = n ∧ s.jobTakes h j = true

/-- The low threshold may take the granule. -/
def lowTakes (s : State) (n h : Nat) : Prop := s.settleLow n = true ∧ s.oldestCurrent n = some h

theorem inJob_iff : s.tu.settles.any (fun j => j.cab == n && s.jobTakes h j) = true ↔ inJob s n h := by
  simp [inJob]

theorem settleTake_of_not (hjob : ¬ inJob s n h) (hlow : ¬ lowTakes s n h) : settleTake n h s = s := by
  have hj : s.tu.settles.any (fun j => j.cab == n && s.jobTakes h j) = false := by
    rw [← Bool.not_eq_true, inJob_iff]
    exact hjob
  rw [settleTake, hj]
  refine (if_neg (by simp)).trans (if_neg ?_)
  rw [lowTakes] at hlow
  simp only [Bool.false_or, Bool.and_eq_true, beq_iff_eq]
  exact fun hc => hlow hc.2

/-- The granule's outcome reaches the settling jobs of the cabinet. -/
def jobsAfter (s : State) (n h : Nat) (r : Res Unit) : State :=
  endJobs { s with tu := { s.tu with settles := s.tu.settles.map (fun j => if j.cab == n then jobAfter h r j else j) } }

section
variable {c : Nat} (hcur : (s.gran h).cur = some c) (hshadow : (s.gran h).shadow = none)
include hcur hshadow

omit hshadow in
/-- A granule whose turn it is is settled (R143). -/
theorem settleTake_of_turn {r : Res Unit} {v : State} (hturn : inJob s n h ∨ lowTakes s n h) (hhome : s.homeOf n h = true)
    (hgran : s.settleGran n h = (some r, v)) : settleTake n h s = jobsAfter v n h r := by
  have hgo : (s.tu.settles.any (fun j => j.cab == n && s.jobTakes h j) ||
      (s.settleLow n && s.oldestCurrent n == some h)) = true := by
    rw [Bool.or_eq_true, inJob_iff, Bool.and_eq_true, beq_iff_eq]
    exact hturn
  rw [settleTake]
  refine (if_neg (by simp [hcur])).trans ((if_pos (by rw [hhome, hgo]; rfl)).trans ?_)
  rw [hgran]
  rfl

theorem settleGran_of_ok {v : State} (hcopy : s.copyHome { m := .cab n, unit := uTu } h c = (.ok (), v)) :
    s.settleGran n h = (some (.ok ()), ((v.setGran h {}).passSeq).bump (rTuCstat n) 15 0) := by
  simp only [State.settleGran, hcur, hshadow, hcopy]
  rfl

theorem settleGran_of_bad {v : State} {st u : Nat} (hcopy : s.copyHome { m := .cab n, unit := uTu } h c = (.bad st u, v)) :
    s.settleGran n h = (some (.bad st u), v.setGran h { s.gran h with failed := true }) := by
  simp only [State.settleGran, hcur, hshadow, hcopy]
  rfl

end

theorem endJobs_grans : (endJobs s).tu.grans = s.tu.grans := by
  unfold endJobs
  refine foldl_leaves (p := fun s => s.tu.grans) (fun t j => ?_) _ _
  split
  · split
    · rw [State.endFlight_tu]
    · rfl
  · rfl

theorem renewWaits_tu (k : Nat) : (s.renewWaits k).tu = s.tu :=
  (kept_State_renewWaits (m := 4096) (by decide) (.refl _ _)).tu rfl

theorem gran_of_grans {t : State} (ht : t.tu.grans = s.tu.grans) : t.gran h = s.gran h := by rw [State.gran, State.gran, ht]

end

/-- Settles O29. -/
theorem shadowStallsAndSettling : Obligations.ShadowStallsAndSettling := by
  unfold Obligations.ShadowStallsAndSettling
  refine ⟨⟨fun id s r h hr => ⟨fun hno => ?stays, fun hph hfree hrun => ?resumes⟩, fun n s h => ⟨fun hno => ?early,
    fun hl hrun hd ht => ?tiles, fun hl hrun hd ht => ?dce⟩⟩, fun n k s h => ⟨fun hj hl => ?notTurn,
    fun c v ht hh hc hs hcopy => ?home, fun c v st u ht hh hc hs hcopy => ?fails⟩⟩
  case stays =>
    refine (exec_shadowStallResume h hr).trans (congrArg _ (if_neg ?_))
    rcases hno with hno | hno | hno <;> simp [hno]
  case resumes => exact (exec_shadowStallResume h hr).trans (congrArg _ (if_pos (by simp [hph, hfree, hrun])))
  case early => exact idles_of_work rfl h (shadowExpiry_of_not hno)
  case tiles =>
    obtain ⟨c, hmem, hstart, heq⟩ := shadowExpiry_of_tiles hl hrun hd ht
    exact ⟨c, hmem, hstart, _, exec_of_work rfl h, heq⟩
  case dce =>
    obtain ⟨c, hmem, hstart, heq⟩ := shadowExpiry_of_dce hl hrun hd ht
    exact ⟨c, hmem, hstart, _, exec_of_work rfl h, heq⟩
  case notTurn =>
    refine (exec_of_work rfl h).trans (congrArg _ ?_)
    rw [settleOne, settleTake_of_not hj hl]
  case home =>
    refine (exec_of_work rfl h).trans (congrArg _ ?_)
    rw [settleOne, settleTake_of_turn hc ht hh (settleGran_of_ok hc hs hcopy)]
    rfl
  case fails =>
    refine ⟨_, exec_of_work rfl h, ?_⟩
    dsimp only
    rw [settleOne, settleTake_of_turn hc ht hh (settleGran_of_bad hc hs hcopy), gran_of_grans (congrArg _ (renewWaits_tu ..))]
    exact (gran_of_grans endJobs_grans).trans (State.gran_setGran_same ..)

/-! ### ADVISE (R150, R151) -/

section
variable {s v : State} {f : Flight} {n : Sys2Proof.CabId} {d : Sys2Proof.DrawerId} {q : Sys2Proof.Seq} (h : s.serves uTu)
include h

theorem exec_adviseWillneed (hop : s.advise n.val d.val q.val 1 = some f) : exec (.adviseWillneed n d q) s = .next (adviseWillneed f s) := by
  refine (exec_of_work rfl h).trans (congrArg _ ?_)
  simp only [hop]

theorem exec_adviseDontneed (hop : s.advise n.val d.val q.val 2 = some f) : exec (.adviseDontneed n d q) s = .next
    ((s.dropLook f.cab f.ctx (adviseRange s f).1 ((adviseRange s f).1 + (adviseRange s f).2)).done f) := by
  refine (exec_of_work rfl h).trans (congrArg _ ?_)
  simp only [hop]

theorem exec_adviseSettle (hop : s.advise n.val d.val q.val 3 = some f) : exec (.adviseSettle n d q) s = .next (adviseSettle f s) := by
  refine (exec_of_work rfl h).trans (congrArg _ ?_)
  simp only [hop]

theorem exec_adviseInvalidate (hop : s.advise n.val d.val q.val 4 = some f) : exec (.adviseInvalidate n d q) s = .next
    (if f.count = 0 then s.done f else (s.startFlight f).withdraw (if leAt f.body 5 1 = 0 then [(f.cab, f.ctx)]
      else (s.drw.ctxs.filter (fun e => e.1 / 16384 == f.cab && e.2.st != .free)).map (fun e => (f.cab, e.1 % 16384)))
        (leAt f.body 8 8) (leAt f.body 8 8 + f.count) none (some (f.cab, f.drawer, f.seq))) := by
  refine (exec_of_work rfl h).trans (congrArg _ ?_)
  simp only [hop]

end

section
variable {s v : State} {f : Flight}

/-- The pass of WILLNEED over its range. -/
def willneedPages (s : State) (f : Flight) : (Acc Unit × Nat) × State :=
  pagesFrom (adviseAsker f) (adviseRange s f).1 (adviseRange s f).2 ((adviseRange s f).2 / 65536 + 2) f.prog s

theorem adviseWillneed_of_ok {k : Nat} (h : willneedPages s f = ((.ok (), k), v)) : adviseWillneed f s = v.done f := by
  rw [willneedPages] at h
  simp only [adviseWillneed, h]

theorem adviseWillneed_of_wait {k : Nat} (h : willneedPages s f = ((.wait, k), v)) :
    adviseWillneed f s = v.updFlight f.cab f.drawer f.seq fun x => { x with prog := k } := by
  rw [willneedPages] at h
  simp only [adviseWillneed, h]

theorem adviseWillneed_of_bad {k st u : Nat} (h : willneedPages s f = ((.bad st u, k), v)) :
    adviseWillneed f s = v.endFlight f.cab f.drawer f.seq { status := st, unit := some u } := by
  rw [willneedPages] at h
  simp only [adviseWillneed, h]

/-- The granules that a SETTLE's range reaches. -/
def settleReach (s : State) (f : Flight) : Res (List Nat) × State :=
  reachedGrans f.cab f.ctx (adviseRange s f).1 (adviseRange s f).2 (((adviseRange s f).1 % 65536 + (adviseRange s f).2 + 65535) / 65536)
    ((adviseRange s f).1 / 65536 * 65536) s

/-- The settling that a SETTLE begins over its current granules. -/
def settleJob (f : Flight) (gs : List Nat) : Settling :=
  { desc := some (f.cab, f.drawer, f.seq), cab := f.cab, grans := gs, bad := none }

theorem adviseSettle_of_full (h : s.walkRoom f.cab = false) : adviseSettle f s = s := if_pos (by simp [h])

theorem adviseSettle_of_bad {st u : Nat} (hroom : s.walkRoom f.cab = true) (h : settleReach s f = (.bad st u, v)) :
    adviseSettle f s = v.endFlight f.cab f.drawer f.seq { status := st, unit := some u } := by
  rw [settleReach] at h
  simp only [adviseSettle, hroom, h]
  rfl

theorem adviseSettle_of_ok {hs : List Nat} (hroom : s.walkRoom f.cab = true) (h : settleReach s f = (.ok hs, v)) :
    adviseSettle f s = if hs.filter (fun h => (v.gran h).cur.isSome) = [] then v.done f else
      { v.startFlight f with
        tu := { v.tu with settles := v.tu.settles ++ [settleJob f (hs.filter fun h => (v.gran h).cur.isSome)] } } := by
  rw [settleReach] at h
  simp only [adviseSettle, hroom, h]
  rfl

end

/-- Settles O30. -/
theorem adviceActsOnItsRange : Obligations.AdviceActsOnItsRange := by
  unfold Obligations.AdviceActsOnItsRange
  intro n d q s v f h
  refine ⟨fun hop => ⟨fun k hk => ?_, fun k hk => ?_, fun k st u hk => ?_⟩, fun hop => ?_, fun hop => ⟨fun hroom => ?_,
    fun st u hroom hr => ?_, fun hs hroom hr => ⟨fun hg => ?_, fun hg => ?_⟩⟩, fun hop => ⟨fun hc => ?_, fun hc h5 => ?_, fun hc h5 => ?_⟩⟩
  · exact (exec_adviseWillneed h hop).trans (congrArg _ (adviseWillneed_of_ok hk))
  · exact (exec_adviseWillneed h hop).trans (congrArg _ (adviseWillneed_of_wait hk))
  · exact (exec_adviseWillneed h hop).trans (congrArg _ (adviseWillneed_of_bad hk))
  · exact exec_adviseDontneed h hop
  · exact (exec_adviseSettle h hop).trans (congrArg _ (adviseSettle_of_full hroom))
  · exact (exec_adviseSettle h hop).trans (congrArg _ (adviseSettle_of_bad hroom hr))
  · exact (exec_adviseSettle h hop).trans (congrArg _ ((adviseSettle_of_ok hroom hr).trans (if_pos hg)))
  · refine ⟨_, (exec_adviseSettle h hop).trans (congrArg _ ((adviseSettle_of_ok hroom hr).trans (if_neg hg))), rfl⟩
  · exact (exec_adviseInvalidate h hop).trans (congrArg _ (if_pos hc))
  · exact (exec_adviseInvalidate h hop).trans (congrArg _ ((if_neg hc).trans (by rw [if_pos h5])))
  · exact (exec_adviseInvalidate h hop).trans (congrArg _ ((if_neg hc).trans (by rw [if_neg h5])))

end Sys2Proof.Machine
end

section
/-! PROOFS. The Step Batcher over its registers, its requests and its steps (O31, O32; R158 to R181). -/
namespace Sys2Proof.Machine

/-! ### Enable and disable (R165, R179) -/

/-- Bit 0 of a word is no part of the fields above it. -/
theorem fld_setFld_bit0 {hi lo : Nat} (hlo : lo ≠ 0) (w : Word) (k : Nat) : fld (setFld w 0 0 k) hi lo = fld w hi lo := by
  obtain ⟨m, rfl⟩ := Nat.exists_eq_succ_of_ne_zero hlo
  have hhalf : (setFld w 0 0 k).toNat / 2 = w.toNat / 2 := by
    have hw := w.isLt
    simp only [setFld, fld, bitsOf, BitVec.toNat_ofNat]
    omega
  simp only [fld, bitsOf, Nat.pow_succ', ← Nat.div_div_eq_div_mul, hhalf]

section
variable {s : State} {n : Nat}

/-- The state a write of SB_CFG leaves once BUDGET and MAX_LIVE are stored. -/
def sbStored (s : State) (n : Nat) (v : Word) : State :=
  s.setReg (rSbCfg n) (pack [(48, fld v 62 48), (32, fld v 45 32)])

theorem sbCfgWrite_en_of_off {v : Word} (h : (s.sbc n).st = .off) : sbCfgWrite n (setFld v 0 0 1) s =
    if (sbStored s n v).sbCheck n = 0 then
      ((sbStored s n v).setRfld (rSbCfg n) 0 0 1).setSbc n { nextId := (s.sbc n).nextId, last := (s.sbc n).last, st := .idle }
    else (sbStored s n v).setSbc n { s.sbc n with err := (sbStored s n v).sbCheck n } := by
  have hen : fld (setFld v 0 0 1) 0 0 = 1 := fld_setFld_same (by decide) (by decide) v 1
  simp only [sbCfgWrite, h, hen, fld_setFld_bit0 (Nat.succ_ne_zero _), sbStored, beq_self_eq_true, if_true]

theorem sbCfgWrite_en_of_on {v : Word} (h : (s.sbc n).st ≠ .off) : sbCfgWrite n (setFld v 0 0 1) s =
    (s.setRfld (rSbCfg n) 0 0 1).setSbc n { s.sbc n with drain := false } := by
  have hen : fld (setFld v 0 0 1) 0 0 = 1 := fld_setFld_same (by decide) (by decide) v 1
  simp only [sbCfgWrite, beq_eq_false_iff_ne.2 h, hen, beq_self_eq_true, if_true, Bool.false_eq_true, if_false]

theorem sbCfgWrite_dis_of_off {v : Word} (h : (s.sbc n).st = .off) : sbCfgWrite n (setFld v 0 0 0) s = sbStored s n v := by
  have hen : fld (setFld v 0 0 0) 0 0 = 0 := fld_setFld_same (by decide) (by decide) v 0
  simp only [sbCfgWrite, h, hen, fld_setFld_bit0 (Nat.succ_ne_zero _), sbStored, beq_self_eq_true, if_true]
  rfl

theorem sbCfgWrite_dis_of_on {v : Word} (h : (s.sbc n).st ≠ .off) : sbCfgWrite n (setFld v 0 0 0) s =
    ((s.setRfld (rSbCfg n) 0 0 0).setSbc n { s.sbc n with drain := true }).failWaits n := by
  have hen : fld (setFld v 0 0 0) 0 0 = 0 := fld_setFld_same (by decide) (by decide) v 0
  simp only [sbCfgWrite, beq_eq_false_iff_ne.2 h, hen, Bool.false_eq_true, if_false]
  rfl

theorem failWaits_of_none (h : (s.sbc n).waits = []) : s.failWaits n = s.setSbc n { s.sbc n with waits := [] } := by
  simp only [State.failWaits, h, List.foldl_nil]

theorem sbCfgWrite_dis_of_drained {v : Word} (h : (s.sbc n).st ≠ .off) (hw : (s.sbc n).waits = []) :
    ((sbCfgWrite n (setFld v 0 0 0) s).sbc n = { s.sbc n with drain := true }) ∧
    (sbCfgWrite n (setFld v 0 0 0) s).rfld (rSbCfg n) 0 0 = 0 := by
  have hnone : (((s.setRfld (rSbCfg n) 0 0 0).setSbc n { s.sbc n with drain := true }).sbc n).waits = [] := by
    rw [State.sbc_setSbc_same]
    exact hw
  rw [sbCfgWrite_dis_of_on h, failWaits_of_none hnone]
  refine ⟨?_, State.rfld_setRfld_same (by decide) (by decide) s _ 0⟩
  rw [State.sbc_setSbc_same, State.sbc_setSbc_same, ← hw]

end

theorem answers_drain {n : Sys2Proof.CabId} {v : Word} {s : State} (h : s.mayReach (rSbCfg n.val))
    (hon : ((s.wakeBlock 1).sbc n.val).st ≠ .off) (hw : ((s.wakeBlock 1).sbc n.val).waits = []) :
    Answers (.sbDisable 0 n v) s fun t =>
      t.sbc n.val = { (s.wakeBlock 1).sbc n.val with drain := true } ∧ t.rfld (rSbCfg n.val) 0 0 = 0 :=
  ⟨_, exec_of_mayReach rfl h, sbCfgWrite_dis_of_drained hon hw⟩

/-- Settles O31. -/
theorem theBatcherTurnsOnAndOff : Obligations.TheBatcherTurnsOnAndOff := by
  unfold Obligations.TheBatcherTurnsOnAndOff
  refine ⟨fun n v s h => ⟨fun hoff hbad => ?_, fun hoff hok => ?_, fun hon => ?_, fun hoff => ?_, fun hon hw => ?_⟩, fun s n => ?checks⟩
  · exact (exec_of_mayReach rfl h).trans (congrArg _ ((sbCfgWrite_en_of_off hoff).trans (if_neg hbad)))
  · exact (exec_of_mayReach rfl h).trans (congrArg _ ((sbCfgWrite_en_of_off hoff).trans (if_pos hok)))
  · exact (exec_of_mayReach rfl h).trans (congrArg _ (sbCfgWrite_en_of_on hon))
  · exact (exec_of_mayReach rfl h).trans (congrArg _ (sbCfgWrite_dis_of_off hoff))
  · exact answers_drain h hon hw
  case checks =>
    intro b m area budget live
    have h1 : (s.budget n % 64 == 0 && decide (128 ≤ s.budget n) && decide (s.budget n ≤ 16384)) = true ↔ budget := by
      simp [budget, b, and_assoc]
    have h2 : (decide (1 ≤ s.maxLive n) && decide (s.maxLive n ≤ s.budget n - 128)) = true ↔ live := by
      simp [live, m, b]
    have hcheck : s.sbCheck n = if ¬ budget then 1 else if ¬ live then 2 else if ¬ area then 3 else
        if (s.cab n).st ≠ .live then 4 else 0 := by
      simp only [State.sbCheck, Bool.not_eq_true', ← Bool.not_eq_true, h1, h2, bne_iff_ne]
      rfl
    rw [hcheck]
    exact ⟨fun hb => if_pos hb, fun hb hl => (if_neg (not_not_intro hb)).trans (if_pos hl),
      fun hb hl ha => (if_neg (not_not_intro hb)).trans ((if_neg (not_not_intro hl)).trans (if_pos ha)),
      fun hb hl ha hc => (if_neg (not_not_intro hb)).trans ((if_neg (not_not_intro hl)).trans ((if_neg (not_not_intro ha)).trans (if_pos hc))),
      fun hb hl ha hc => (if_neg (not_not_intro hb)).trans ((if_neg (not_not_intro hl)).trans ((if_neg (not_not_intro ha)).trans
        (if_neg (not_not_intro hc))))⟩

end Sys2Proof.Machine
end

section
/-! PROOFS. Requests, step boundaries and steps (O32; R158, R161 to R166, R171, R172, R181). -/
namespace Sys2Proof.Machine

section
variable {s t : State} {n d q : Nat}

/-- An issued descriptor's flight carries its own cabinet, drawer and sequence number. -/
theorem issuedOp_key {op : Nat} {f : Flight} (h : s.issuedOp n d q op = some f) : f.cab = n ∧ f.drawer = d ∧ f.seq = q := by
  unfold State.issuedOp at h
  split at h
  · next g hg =>
    split at h
    · have hkey := List.find?_some hg
      rw [← Option.some.inj h]
      simpa [Flight.is, and_assoc] using hkey
    · cases h
  · cases h

theorem sbc_of_sb (h : s.sb = t.sb) : s.sbc n = t.sbc n := by
  rw [State.sbc, h, State.sbc]

theorem endFlight_flights (e : Ending) : (s.endFlight n d q e).drw.flights =
    updWhere (fun f => f.is n d q) (fun f => if f.stage.isEnded then f else { f with stage := .ended e }) s.drw.flights := by
  have hupd : ∀ (u : State) (g : Flight → Flight), (u.updFlight n d q g).drw.flights = updWhere (fun f => f.is n d q) g u.drw.flights :=
    fun _ _ => rfl
  unfold State.endFlight
  dsimp only
  rw [hupd]
  split
  · split
    · rw [State.tally_drw]
    · rfl
  · rfl

@[simp] theorem startFlight_sb (f : Flight) : (s.startFlight f).sb = s.sb := rfl

@[simp] theorem writeRq_sb (k : Nat) : (s.writeRq n k).sb = s.sb :=
  (kept_State_writeRq (m := 8388608) (by decide) (.refl _ _)).sb rfl

@[simp] theorem passRq_sb (qs : List SbReq) : (s.passRq n qs).sb = s.sb :=
  (kept_State_passRq (m := 8388608) (by decide) (.refl _ _)).sb rfl

end

/-! ### REQUEST and admission (R158, R161, R162) -/

section
variable {s v : State} {f : Flight}

/-- The batcher once a request is admitted: it is the last of the live ones, and no longer waits. -/
theorem admitRequest_reqs (news : List SbGroup) : ∃ r : SbReq, ((s.admitRequest f news).sbc f.cab).reqs = (s.sbc f.cab).reqs ++ [r] ∧
    r.drawer = f.drawer ∧ r.seq = f.seq ∧ r.stage = .pending ∧ r.arrived = false := by
  unfold State.admitRequest
  dsimp only
  rw [sbc_of_sb State.wakeCab_sb, sbc_of_sb (startFlight_sb _), sbc_of_sb (writeRq_sb _), State.sbc_setSbc_same]
  exact ⟨_, rfl, rfl, rfl, rfl, rfl⟩

theorem requestGo_of_wait (h : requestCheck f s = (.wait, v)) : requestGo f s = s.keepStall v f.cab := by
  simp only [requestGo, h]

theorem requestGo_of_no {e : Ending} (h : requestCheck f s = (.no e, v)) :
    (requestGo f s).drw.flights = (v.endFlight f.cab f.drawer f.seq e).drw.flights ∧
    ∀ x ∈ ((requestGo f s).sbc f.cab).waits, (x.drawer == f.drawer && x.seq == f.seq) = false := by
  simp only [requestGo, h]
  refine ⟨by rw [endFlight_flights, endFlight_flights, State.setSbc_drw], fun x hx => ?_⟩
  rw [sbc_of_sb State.endFlight_sb, State.sbc_setSbc_same] at hx
  exact Bool.not_eq_true' _ ▸ (List.mem_filter.1 hx).2

theorem requestGo_of_admitted {news : List SbGroup} (h : requestCheck f s = (.ok news, v)) (ha : v.admits f = true) :
    requestGo f s = v.admitRequest f news := by
  simp only [requestGo, h, ha, if_true]

theorem requestGo_of_waiting {news : List SbGroup} (h : requestCheck f s = (.ok news, v)) (ha : v.admits f = false) :
    ∃ w ∈ ((requestGo f s).sbc f.cab).waits, w.drawer = f.drawer ∧ w.seq = f.seq ∧ w.news = news := by
  refine ⟨{ drawer := f.drawer, seq := f.seq, ctx := f.ctx, objs := requestObjs v f, news := news }, ?_, rfl, rfl, rfl⟩
  simp only [requestGo, h, ha, Bool.false_eq_true, if_false]
  split
  · rw [State.sbc_setSbc_same]
    exact List.mem_append_right _ (.head _)
  · rw [sbc_of_sb State.bump_sb, State.sbc_setSbc_same]
    exact List.mem_append_right _ (.head _)

end

section
variable {s : State} {n : Sys2Proof.CabId} {d : Sys2Proof.DrawerId} {q : Sys2Proof.Seq} {f : Flight}

/-- The request that waits at admission under this drawer and sequence number. -/
def waitsAt (d q : Nat) (w : SbWait) : Bool := w.drawer == d && w.seq == q

theorem idles_requestDesc (h : s.serves uBatcher) (hop : s.issuedOp n.val d.val q.val 0x03 = some f)
    (hw : ∃ w ∈ (s.sbc n.val).waits, waitsAt d.val q.val w = true) : Idles (.requestDesc n d q) s := by
  refine idles_of_work rfl h ?_
  simp only [hop]
  exact if_pos (List.any_eq_true.2 hw)

theorem exec_requestDesc (h : s.serves uBatcher) (hop : s.issuedOp n.val d.val q.val 0x03 = some f)
    (hw : ∀ w ∈ (s.sbc n.val).waits, waitsAt d.val q.val w = false) : exec (.requestDesc n d q) s = .next (requestGo f s) := by
  refine (exec_of_work rfl h).trans (congrArg _ ?_)
  simp only [hop]
  exact if_neg fun hc => by
    obtain ⟨w, hmem, hat⟩ := List.any_eq_true.1 hc
    exact absurd ((hw w hmem).symm.trans hat) (by decide)

theorem idles_admissionPass (h : s.serves uBatcher) (hw : ∀ w ∈ (s.sbc n.val).waits, waitsAt d.val q.val w = false) :
    Idles (.admissionPass n d q) s := by
  refine idles_of_work rfl h ?_
  have hnone : (s.sbc n.val).waits.find? (waitsAt d.val q.val) = none :=
    List.find?_eq_none.2 fun w hmem => by rw [hw w hmem]; decide
  unfold waitsAt at hnone
  simp only [admissionPass, hnone]
  split
  · next heq => cases heq
  · rfl

theorem admissionPass_of_find {w : SbWait} (hop : s.issuedOp n.val d.val q.val 0x03 = some f)
    (hw : (s.sbc n.val).waits.find? (waitsAt d.val q.val) = some w) : admissionPass n.val d.val q.val s =
    if !s.admits f then s else if w.stale then requestGo f s else s.admitRequest f w.news := by
  unfold waitsAt at hw
  simp only [admissionPass, hop, hw]

section
variable {w : SbWait} (h : s.serves uBatcher) (hop : s.issuedOp n.val d.val q.val 0x03 = some f)
  (hw : (s.sbc n.val).waits.find? (waitsAt d.val q.val) = some w)
include h hop hw

theorem exec_admissionPass_stands (ha : s.admits f = true) (hstale : w.stale = false) :
    exec (.admissionPass n d q) s = .next (s.admitRequest f w.news) := by
  refine (exec_of_work rfl h).trans (congrArg _ ((admissionPass_of_find hop hw).trans ?_))
  rw [ha, hstale]
  exact (if_neg (by decide)).trans (if_neg (by decide))

theorem exec_admissionPass_again (ha : s.admits f = true) (hstale : w.stale = true) :
    exec (.admissionPass n d q) s = .next (requestGo f s) := by
  refine (exec_of_work rfl h).trans (congrArg _ ((admissionPass_of_find hop hw).trans ?_))
  rw [ha, hstale]
  exact (if_neg (by decide)).trans (if_pos rfl)

theorem idles_admissionPass_full (ha : s.admits f = false) : Idles (.admissionPass n d q) s := by
  refine idles_of_work rfl h ((admissionPass_of_find hop hw).trans ?_)
  rw [ha]
  rfl

end

end

/-! ### The boundary (R165, R166) -/

/-- The names of requests. -/
def reqNames (qs : List SbReq) : List (Nat × Nat) := qs.map fun q => (q.drawer, q.seq)

theorem reqNames_map {g : SbReq → SbReq} (hg : ∀ q, (g q).drawer = q.drawer ∧ (g q).seq = q.seq) (qs : List SbReq) :
    reqNames (qs.map g) = reqNames qs := by
  rw [reqNames, List.map_map]
  exact List.map_congr_left fun q _ => Prod.ext (hg q).1 (hg q).2

theorem reqNames_growChunks (chunkMax : SbReq → Nat) : ∀ (room : Nat) (qs : List SbReq),
    reqNames (growChunks chunkMax room qs).1 = reqNames qs
  | _, [] => rfl
  | room, q :: r => by
    unfold growChunks
    dsimp only
    split
    · exact congrArg (_ :: ·) (reqNames_growChunks chunkMax _ r)
    · exact congrArg (_ :: ·) (reqNames_growChunks chunkMax _ r)

theorem reqNames_formBatch (budget : Nat) (chunkMax : SbReq → Nat) (qs : List SbReq) :
    reqNames (formBatch budget chunkMax qs).1 = reqNames qs := by
  refine (reqNames_growChunks _ _ _).trans (reqNames_map ?_ qs)
  exact fun _ => ⟨rfl, rfl⟩

section
variable {s : State} {n : Nat} {b : SbCab}

theorem changed_kept (b : SbCab) (gs : List SbGroup) : (b.changed gs).step = b.step ∧ (b.changed gs).drain = b.drain := ⟨rfl, rfl⟩

/-- With no live request no step is formed: the batcher is IDLE, or OFF after a DRAIN. -/
theorem formStep_of_empty (h : b.reqs = []) : ((formStep n b s).sbc n).st = (if b.drain then .off else .idle) ∧
    ((formStep n b s).sbc n).drain = false ∧ ((formStep n b s).sbc n).groups = [] ∧ ((formStep n b s).sbc n).step = b.step := by
  unfold formStep
  dsimp only
  rw [if_pos h, State.sbc_setSbc_same]
  exact ⟨rfl, rfl, rfl, rfl⟩

/-- The next step is formed from the live requests. -/
theorem formStep_of_reqs (h : b.reqs ≠ []) : ((formStep n b s).sbc n).st = .form ∧ ((formStep n b s).sbc n).at_ = s.now ∧
    ((formStep n b s).sbc n).window = 0 ∧ reqNames ((formStep n b s).sbc n).reqs = reqNames b.reqs ∧
    ((formStep n b s).sbc n).step = b.step := by
  unfold formStep
  dsimp only
  rw [if_neg h, sbc_of_sb (passRq_sb _), sbc_of_sb State.bump_sb, State.sbc_setSbc_same]
  refine ⟨rfl, rfl, rfl, ?_, rfl⟩
  dsimp only
  refine (reqNames_map ?_ _).trans ((reqNames_formBatch _ _ _).trans (reqNames_map ?_ _))
  · exact fun _ => ⟨rfl, rfl⟩
  · exact fun _ => ⟨rfl, rfl⟩

theorem formStep_step : ((formStep n b s).sbc n).step = b.step := by
  by_cases h : b.reqs = []
  · exact (formStep_of_empty h).2.2.2
  · exact (formStep_of_reqs h).2.2.2.2

/-- At a boundary whose requests neither are torn down nor have a CANCEL to read, every request stays. -/
theorem openStep_of_live (hlive : ∀ q ∈ b.reqs, s.reqGone n q = false) (hcancel : b.fresh = false ∨ ∀ q ∈ b.reqs, q.cancel = 0) :
    (openStep n b s).s = s ∧ (openStep n b s).wait = false ∧
    (openStep n b s).stay = if b.fresh then b.reqs.map SbReq.switch else b.reqs := by
  have hgone : b.reqs.filter (s.reqGone n) = [] := List.filter_eq_nil_iff.2 fun q hq => by rw [hlive q hq]; decide
  have hfold : ∀ (qs : List SbReq) (c : Closing), (∀ q ∈ qs, q.cancel = 0) → qs.foldl (cancelOne n) c = c := by
    intro qs c hz
    induction qs with
    | nil => rfl
    | cons q r ih =>
      rw [List.foldl_cons, cancelOne, if_pos (hz q (.head _))]
      exact ih fun x hx => hz x (.tail _ hx)
  unfold openStep
  dsimp only
  rw [hgone, List.foldl_nil]
  rcases hcancel with hf | hz
  · rw [hf]
    exact ⟨rfl, rfl, rfl⟩
  · rw [hfold _ _ hz]
    cases b.fresh <;> exact ⟨rfl, rfl, rfl⟩

theorem switch_names (q : SbReq) : q.switch.drawer = q.drawer ∧ q.switch.seq = q.seq := by
  unfold SbReq.switch
  split <;> exact ⟨rfl, rfl⟩

end

section
variable {s : State} {n : Nat}

theorem stepBoundary_of_idle (h : (s.sbc n).st = .idle) : stepBoundary n s =
    if ((s.sbc n).reqs = [] ∧ (s.sbc n).drain = false) ∨ s.quiesces n = true ∨ (s.cab n).power ≠ 0 then s
    else if (openStep n (s.sbc n) s).wait then s.keepStall (openStep n (s.sbc n) s).s n
    else formStep n { (openStep n (s.sbc n) s).s.sbc n with reqs := (openStep n (s.sbc n) s).stay } (openStep n (s.sbc n) s).s := by
  simp only [stepBoundary, h]
  refine ite_congr ?_ (fun _ => rfl) (fun _ => rfl)
  simp [or_assoc]

/-- The boundary at which every request stays forms the step. -/
theorem stepBoundary_forms (h : (s.sbc n).st = .idle) (hquiet : ¬ (s.quiesces n = true ∨ (s.cab n).power ≠ 0))
    (hwork : (s.sbc n).reqs ≠ [] ∨ (s.sbc n).drain = true) (hlive : ∀ q ∈ (s.sbc n).reqs, s.reqGone n q = false)
    (hcancel : (s.sbc n).fresh = false ∨ ∀ q ∈ (s.sbc n).reqs, q.cancel = 0) : stepBoundary n s =
    formStep n { s.sbc n with reqs := if (s.sbc n).fresh then (s.sbc n).reqs.map SbReq.switch else (s.sbc n).reqs } s := by
  obtain ⟨hs, hwait, hstay⟩ := openStep_of_live hlive hcancel
  rw [stepBoundary_of_idle h, if_neg, hwait, hs, hstay]
  · rfl
  · rintro (⟨hnil, hd⟩ | hq)
    · rcases hwork with hw | hw
      · exact hw hnil
      · exact absurd (hd.symm.trans hw) (by decide)
    · exact hquiet hq

theorem stepBoundary_drained (h : (s.sbc n).st = .idle) (hquiet : ¬ (s.quiesces n = true ∨ (s.cab n).power ≠ 0))
    (hnil : (s.sbc n).reqs = []) (hdrain : (s.sbc n).drain = true) : ((stepBoundary n s).sbc n).st = .off ∧
    ((stepBoundary n s).sbc n).drain = false ∧ ((stepBoundary n s).sbc n).groups = [] := by
  have hnone : ∀ p : SbReq → Prop, ∀ q ∈ (s.sbc n).reqs, p q := by rw [hnil]; exact fun _ _ hx => absurd hx List.not_mem_nil
  rw [stepBoundary_forms h hquiet (.inr hdrain) (hnone _) (.inr (hnone _))]
  obtain ⟨hoff, hclear, hgroups, -⟩ := formStep_of_empty (n := n) (s := s)
    (b := { s.sbc n with reqs := if (s.sbc n).fresh then (s.sbc n).reqs.map SbReq.switch else (s.sbc n).reqs }) (by simp [hnil])
  exact ⟨hoff.trans (if_pos hdrain), hclear, hgroups⟩

theorem stepBoundary_formed (h : (s.sbc n).st = .idle) (hquiet : ¬ (s.quiesces n = true ∨ (s.cab n).power ≠ 0))
    (hreqs : (s.sbc n).reqs ≠ []) (hlive : ∀ q ∈ (s.sbc n).reqs, s.reqGone n q = false)
    (hcancel : (s.sbc n).fresh = false ∨ ∀ q ∈ (s.sbc n).reqs, q.cancel = 0) : ((stepBoundary n s).sbc n).st = .form ∧
    ((stepBoundary n s).sbc n).at_ = s.now ∧ ((stepBoundary n s).sbc n).window = 0 ∧
    reqNames ((stepBoundary n s).sbc n).reqs = reqNames (s.sbc n).reqs := by
  rw [stepBoundary_forms h hquiet (.inl hreqs) hlive hcancel]
  obtain ⟨hform, hat, hwin, hnames, -⟩ := formStep_of_reqs (n := n) (s := s)
    (b := { s.sbc n with reqs := if (s.sbc n).fresh then (s.sbc n).reqs.map SbReq.switch else (s.sbc n).reqs })
    (by dsimp only; split <;> simp [hreqs])
  refine ⟨hform, hat, hwin, hnames.trans ?_⟩
  dsimp only
  split
  · exact reqNames_map switch_names _
  · rfl

/-- The step that a boundary of RUN closes, with what stays. -/
def closing (s : State) (n : Nat) : Closing × List SbGroup :=
  closeStep n { s.sbc n with groups := (s.sbc n).groups.map SbGroup.settled } s

/-- The state after items 1 to 8 of the boundary, with the step traced and counted. -/
def closedState (s : State) (n : Nat) : State :=
  ((closing s n).1.s.trace 0x05 uBatcher (some n) none (s.sbc n).step (pack [(48, ((s.sbc n).groups.map (fun g => g.rows.length)).sum),
    (32, (s.sbc n).charge), (0, min (s.now - (s.sbc n).at_) (2 ^ 32 - 1))]).toNat).tally uBatcher 4 (some n)

/-- The batcher with its step closed. -/
def closedCab (s : State) (n : Nat) : SbCab :=
  { (closedState s n).sbc n with
    reqs := (closing s n).1.stay, groups := (closing s n).2, step := ((s.sbc n).step + 1) % 2 ^ 48,
    last := pack [(48, ((s.sbc n).groups.map (fun g => g.rows.length)).sum), (32, (s.sbc n).charge),
      (0, min (s.now - (s.sbc n).at_) (2 ^ 32 - 1))] }

theorem stepBoundary_of_run (h : (s.sbc n).st = .run) (hdone : s.stepDone n (s.sbc n) = true) : stepBoundary n s =
    if (closing s n).1.wait then s.keepStall (closing s n).1.s n
    else if (closing s n).1.stay != [] && s.quiesces n then (closedState s n).setSbc n (closedCab s n).rest
    else formStep n (closedCab s n) (closedState s n) := by
  simp only [stepBoundary, h, hdone]
  rfl

theorem stepBoundary_closes (h : (s.sbc n).st = .run) (hdone : s.stepDone n (s.sbc n) = true) (hw : (closing s n).1.wait = false) :
    ((stepBoundary n s).sbc n).step = ((s.sbc n).step + 1) % 2 ^ 48 ∧
    ((closing s n).1.stay ≠ [] → s.quiesces n = true → ((stepBoundary n s).sbc n).st = .idle) ∧
    ((closing s n).1.stay ≠ [] → s.quiesces n = false → ((stepBoundary n s).sbc n).st = .form) := by
  have hiff : ((closing s n).1.stay != [] && s.quiesces n) = true ↔ (closing s n).1.stay ≠ [] ∧ s.quiesces n = true := by
    rw [Bool.and_eq_true, bne_iff_ne]
  rw [stepBoundary_of_run h hdone, hw, if_neg Bool.false_ne_true, ite_of_iff hiff rfl rfl]
  by_cases hrest : (closing s n).1.stay ≠ [] ∧ s.quiesces n = true
  · rw [if_pos hrest, State.sbc_setSbc_same]
    exact ⟨rfl, fun _ _ => rfl, fun _ hq => absurd (hrest.2.symm.trans hq) (by decide)⟩
  · rw [if_neg hrest]
    exact ⟨formStep_step, fun hstay hq => absurd ⟨hstay, hq⟩ hrest, fun hstay _ => (formStep_of_reqs hstay).1⟩

end

/-! ### Batch tables and layers (R171, R172) -/

section
variable {s v : State} {n : Nat}

theorem tablesWritten_of_ok {gs : List SbGroup} (h : (s.sbc n).st = .form)
    (hw : writeTables n (s.sbc n).step (s.sbc n).at_ (s.budget n) (s.sbc n).groups s = (.ok gs, v)) : tablesWritten n s =
    (gs.filter (fun g => g.run == .running)).foldl (fun s g =>
      if (s.ctx n g.ctx).st != .live then s.setSbc n ((s.sbc n).updGroup g.settled) else issueLayer n g s)
      (v.setSbc n { v.sbc n with groups := gs, st := .run }) := by
  simp only [tablesWritten, h, hw]
  rfl

theorem tablesWritten_of_wait (h : (s.sbc n).st = .form)
    (hw : writeTables n (s.sbc n).step (s.sbc n).at_ (s.budget n) (s.sbc n).groups s = (.wait, v)) :
    tablesWritten n s = s.keepStall v n := by
  simp only [tablesWritten, h, hw]
  rfl

theorem layerCommit_of_finished {k st u : Nat} {c : Cmd} {g : SbGroup} (hc : s.cmd n k = some c)
    (hg : (s.sbc n).groups.find? (fun g => g.cmd == some k) = some g) (hp : c.phase = .finished st u) : layerCommit n k s =
    if st ≠ stDone then (s.dropCmd n k).setSbc n ((s.sbc n).updGroup { g with run := .failed st u, cmd := none })
    else issueLayer n { g with tau := g.tau + (c.endAt - c.first.getD g.since), layer := g.layer + 1, cmd := none } (s.dropCmd n k) := by
  simp only [layerCommit, hc, hg, hp]

end

/-- Settles O32. -/
theorem requestsBoundariesAndSteps : Obligations.RequestsBoundariesAndSteps := by
  unfold Obligations.RequestsBoundariesAndSteps
  refine ⟨fun n d q s v f h hop => ?requests, fun n s h => ?boundary, fun n s v h => ?tables⟩
  case requests =>
    obtain ⟨hcab, hdrawer, hseq⟩ := issuedOp_key hop
    refine ⟨fun hw => idles_requestDesc h hop hw, fun hw => ⟨fun e hc => ?_, fun news hc ha => ?_, fun news hc ha => ?_, fun hc => ?_⟩,
      fun hw => idles_admissionPass h hw, fun w hw => ⟨fun ha hstale => ?_, fun news ha hstale hc hva => ?_, fun e ha hstale hc => ?_,
        fun ha hstale hc => ?_, fun ha => ?_⟩⟩
    · exact ⟨_, exec_requestDesc h hop hw, (requestGo_of_no hc).1⟩
    · exact ⟨(exec_requestDesc h hop hw).trans (congrArg _ (requestGo_of_admitted hc ha)), admitRequest_reqs news⟩
    · exact ⟨_, exec_requestDesc h hop hw, requestGo_of_waiting hc ha⟩
    · exact (exec_requestDesc h hop hw).trans (congrArg _ (requestGo_of_wait hc))
    · exact exec_admissionPass_stands h hop hw ha hstale
    · exact (exec_admissionPass_again h hop hw ha hstale).trans (congrArg _ (requestGo_of_admitted hc hva))
    · refine ⟨_, exec_admissionPass_again h hop hw ha hstale, (requestGo_of_no hc).1, ?_⟩
      rw [← hdrawer, ← hseq]
      exact (requestGo_of_no hc).2
    · exact (exec_admissionPass_again h hop hw ha hstale).trans (congrArg _ (requestGo_of_wait hc))
    · exact idles_admissionPass_full h hop hw ha
  case boundary =>
    refine ⟨fun hst => ?_, fun hst hno => ?_, fun hst hdone => ?_, fun hst hq hnil hdrain => ?_, fun hst hq hreqs hlive hcancel => ?_,
      fun hst hdone hw => ?_, fun hst hdone hw => ?_⟩
    · refine idles_of_work rfl h ?_
      rcases hst with hst | hst <;> simp only [stepBoundary, hst]
    · exact idles_of_work rfl h ((stepBoundary_of_idle hst).trans (if_pos hno))
    · refine idles_of_work rfl h ?_
      simp only [stepBoundary, hst, hdone]
      rfl
    · exact ⟨_, exec_of_work rfl h, stepBoundary_drained hst hq hnil hdrain⟩
    · exact ⟨_, exec_of_work rfl h, stepBoundary_formed hst hq hreqs hlive hcancel⟩
    · exact (exec_of_work rfl h).trans (congrArg _ ((stepBoundary_of_run hst hdone).trans (if_pos hw)))
    · exact ⟨_, exec_of_work rfl h, stepBoundary_closes hst hdone hw⟩
  case tables =>
    refine ⟨fun hst => ?_, fun gs hst hw hrun => ?_, fun g hst hw hrun hlive => ?_, fun hst hw => ?_, fun k hk => ?_,
      fun k c g st u hc hg hp => ⟨fun hne => ?_, fun heq => ?_⟩⟩
    · refine idles_of_work rfl h ?_
      exact if_pos (bne_iff_ne.2 hst)
    · have hnone : gs.filter (fun g => g.run == .running) = [] := List.filter_eq_nil_iff.2 fun g hg => by
        rw [beq_iff_eq]; exact hrun g hg
      refine ⟨_, (exec_of_work rfl h).trans (congrArg _ ((tablesWritten_of_ok hst hw).trans (by rw [hnone, List.foldl_nil]))), ?_⟩
      dsimp only
      rw [State.sbc_setSbc_same]
      exact ⟨rfl, rfl⟩
    · refine (exec_of_work rfl h).trans (congrArg _ ((tablesWritten_of_ok hst hw).trans ?_))
      have hctx : ∀ b : SbCab, ((v.setSbc n.val b).ctx n.val g.ctx).st = .live := fun _ => hlive
      simp only [List.filter_cons, hrun, beq_self_eq_true, if_true, List.filter_nil, List.foldl_cons, List.foldl_nil, hctx]
      rfl
    · exact (exec_of_work rfl h).trans (congrArg _ (tablesWritten_of_wait hst hw))
    · refine idles_of_work rfl h ?_
      simp only [layerCommit, hk]
    · exact (exec_of_work rfl h).trans (congrArg _ ((layerCommit_of_finished hc hg hp).trans (if_pos hne)))
    · exact (exec_of_work rfl h).trans (congrArg _ ((layerCommit_of_finished hc hg hp).trans (if_neg (not_not_intro heq))))

end Sys2Proof.Machine
end

section
/-! PROOFS. MOVE, PREFETCH, channels and direct transfers (O34, O36; R217 to R223, R227 to R229). -/
namespace Sys2Proof.Machine

section
variable {s v : State} {f : Flight} {i j : Nat}

theorem State.chan_setChan_idem (c c' : Chan) : ((s.setChan i c).setChan i c').chan i = c' := State.chan_setChan_same _ _ _

theorem chan_of_me {t : State} (h : s.me = t.me) : s.chan i = t.chan i := by
  rw [State.chan, h, State.chan]

/-! ### MOVE (R217, R219, R221) -/

/-- The channel on which a MOVE's transfer has been loaded. -/
theorem loadMove_chan : ((s.loadMove i f).chan i).cur = some (f.drawer, f.seq) ∧
    ((s.loadMove i f).chan i).st = (if (s.chan i).pause && !(s.chan i).dying then .pausedReady else .run) ∧
    ((s.loadMove i f).chan i).anon = (s.chan i).anon ∧ ((s.loadMove i f).chan i).cab = (s.chan i).cab ∧
    ((s.loadMove i f).chan i).count = f.count ∧ ((s.loadMove i f).chan i).queue = (s.chan i).queue := by
  unfold State.loadMove
  dsimp only
  have hupd : ∀ (u : State) (a d q : Nat) (g : Flight → Flight), (u.updFlight a d q g).chan i = u.chan i := fun _ _ _ _ _ => rfl
  rw [hupd, State.chan_setChan_same]
  exact ⟨rfl, rfl, rfl, rfl, rfl, rfl⟩

theorem anonMove_of_some (h : s.freeChan = some i) : s.anonMove f = (({ s with me := { s.me with
    waits := s.me.waits.filter (fun w => w != (f.cab, f.drawer, f.seq)) } } : State).takeChan i f.cab f.ctx true).loadMove i f := by
  unfold State.anonMove
  rw [h]

theorem anonMove_of_no_chan (h : s.freeChan = none) : s.anonMove f = if s.me.waits.contains (f.cab, f.drawer, f.seq) then s else
    (({ s with me := { s.me with waits := s.me.waits ++ [(f.cab, f.drawer, f.seq)] } }).bump (rMeCstat f.cab) 63 48).bump rMeGstat 47 32 := by
  unfold State.anonMove
  rw [h]

theorem anonMove_of_free (h : s.freeChan = some i) : ((s.anonMove f).chan i).cur = some (f.drawer, f.seq) ∧
    ((s.anonMove f).chan i).st = .run ∧ ((s.anonMove f).chan i).anon = true ∧ ((s.anonMove f).chan i).cab = f.cab ∧
    ((s.anonMove f).chan i).count = f.count := by
  have htake : ∀ u : State, (u.takeChan i f.cab f.ctx true).chan i =
      { st := .idle, gen := (u.chan i).gen, anon := true, cab := f.cab, ctx := f.ctx } := fun _ => State.chan_setChan_same _ _ _
  rw [anonMove_of_some h]
  obtain ⟨hcur, hst, hanon, hcab, hcount, -⟩ := loadMove_chan (s := ({ s with me := { s.me with
    waits := s.me.waits.filter (fun w => w != (f.cab, f.drawer, f.seq)) } } : State).takeChan i f.cab f.ctx true) (i := i) (f := f)
  rw [htake] at hst hanon hcab
  exact ⟨hcur, hst, hanon, hcab, hcount⟩

theorem anonMove_of_waiting (h : s.freeChan = none) (hw : (f.cab, f.drawer, f.seq) ∈ s.me.waits) : s.anonMove f = s := by
  rw [anonMove_of_no_chan h]
  exact if_pos (List.contains_iff_mem.2 hw)

theorem anonMove_of_none (h : s.freeChan = none) (hw : (f.cab, f.drawer, f.seq) ∉ s.me.waits) : s.anonMove f =
    (({ s with me := { s.me with waits := s.me.waits ++ [(f.cab, f.drawer, f.seq)] } }).bump (rMeCstat f.cab) 63 48).bump rMeGstat 47 32 := by
  rw [anonMove_of_no_chan h]
  exact if_neg fun hc => hw (List.contains_iff_mem.1 hc)

/-- A MOVE with a channel handle, validated, joins that channel's queue. -/
theorem queueMove_eq : s.queueMove f = if f.op = 0x10 ∧ f.gen ≠ 1 ∧ f.stage = .validated ∧ f.count ≠ 0 ∧ leAt f.body 24 4 ≠ 0 then
    ((s.liveChan f.cab f.ctx (leAt f.body 24 4)).map fun i => s.setChan i { s.chan i with queue := (s.chan i).queue ++ [(f.drawer, f.seq)] }).getD s
    else s := by
  unfold State.queueMove
  refine ite_congr ?_ (fun _ => ?_) (fun _ => rfl)
  · simp [and_assoc]
  · cases s.liveChan f.cab f.ctx (leAt f.body 24 4) <;> rfl

end

section
variable {s : State} {f : Flight} {n : Sys2Proof.CabId} {d : Sys2Proof.DrawerId} {q : Sys2Proof.Seq}

/-- The channel handle a MOVE names; a PREFETCH names none. -/
def moveHandle (op : Nat) (f : Flight) : Nat := if op = 0x11 ∨ f.gen = 1 then 0 else leAt f.body 24 4

/-- An issued MOVE or PREFETCH. -/
theorem exec_move (h : s.serves uDrawer) {e : Sys2Proof.Instr × Nat} (he : e ∈ [(Sys2Proof.Instr.moveDesc n d q, 0x10), (Sys2Proof.Instr.prefetchDesc n d q, 0x11)])
    (hop : s.issuedOp n.val d.val q.val e.2 = some f) : exec e.1 s = .next
    (if f.count = 0 then s.endFlight f.cab f.drawer f.seq { status := stDone }
      else if moveHandle e.2 f = 0 then s.anonMove f else s.startFlight f) := by
  simp only [List.mem_cons, List.not_mem_nil, or_false] at he
  rcases he with rfl | rfl
  · refine (exec_of_work rfl h).trans (congrArg _ ?_)
    have hmove : moveHandle 0x10 f = if f.gen = 1 then 0 else leAt f.body 24 4 := by simp [moveHandle]
    simp only [hop, moveIssue, hmove]
  · refine (exec_of_work rfl h).trans (congrArg _ ?_)
    have hpre : moveHandle 0x11 f = 0 := by simp [moveHandle]
    simp only [hop, hpre, if_true]

theorem exec_moveStart (h : s.serves uDrawer) (hf : s.flight n.val d.val q.val = some f) :
    ((n.val, d.val, q.val) ∈ s.me.waits → exec (.moveStart n d q) s = .next (s.anonMove f)) ∧
    ((n.val, d.val, q.val) ∉ s.me.waits →
      (s.me.chans.find? (fun e => e.2.cab == n.val && e.2.queue.head? == some (d.val, q.val)) = none → Idles (.moveStart n d q) s) ∧
      ∀ i c, s.me.chans.find? (fun e => e.2.cab == n.val && e.2.queue.head? == some (d.val, q.val)) = some (i, c) →
        exec (.moveStart n d q) s = .next (if c.st = .idle ∧ f.stage = .running then
          (s.setChan i { c with queue := c.queue.tail }).loadMove i f else s)) := by
  refine ⟨fun hw => ?_, fun hw => ⟨fun hnone => ?_, fun i c hsome => ?_⟩⟩
  · refine (exec_of_work rfl h).trans (congrArg _ ?_)
    simp only [moveStart, hf]
    exact if_pos (List.contains_iff_mem.2 hw)
  · refine idles_of_work rfl h ?_
    simp only [moveStart, hf, hnone]
    exact if_neg fun hc => hw (List.contains_iff_mem.1 hc)
  · refine (exec_of_work rfl h).trans (congrArg _ ?_)
    simp only [moveStart, hf, hsome]
    refine (if_neg fun hc => hw (List.contains_iff_mem.1 hc)).trans ?_
    exact ite_of_iff (by simp) rfl rfl

end

/-- Settles O34. -/
theorem movesFindTheirChannelAndStart : Obligations.MovesFindTheirChannelAndStart := by
  unfold Obligations.MovesFindTheirChannelAndStart
  refine ⟨fun n d q s h e he f hop => ⟨fun hc => ?_, fun i hc hh hi => ?_, fun hc hh hi hw => ?_, fun hc hh hi hw => ?_, fun hc hh => ?_⟩,
    fun s f => ⟨fun i hj hl => ?_, fun hj => ?_⟩, fun n d q s h => ⟨fun hf => ?_, fun f hf => ⟨fun hw => ?_, fun hn hw => ?_,
      fun i c hsome hw => ⟨fun hno => ?_, fun hst hstage => ⟨?_, ?_, ?_, ?_⟩⟩⟩⟩⟩
  · exact (exec_move h he hop).trans (congrArg _ (if_pos hc))
  · exact ⟨_, (exec_move h he hop).trans (congrArg _ ((if_neg hc).trans (if_pos hh))), anonMove_of_free hi⟩
  · exact (exec_move h he hop).trans (congrArg _ ((if_neg hc).trans ((if_pos hh).trans (anonMove_of_waiting hi hw))))
  · exact (exec_move h he hop).trans (congrArg _ ((if_neg hc).trans ((if_pos hh).trans (anonMove_of_none hi hw))))
  · exact (exec_move h he hop).trans (congrArg _ ((if_neg hc).trans (if_neg hh)))
  · rw [queueMove_eq, if_pos hj, hl]
    rfl
  · rcases hj with hj | hl
    · rw [queueMove_eq, if_neg hj]
    · rw [queueMove_eq, hl]
      exact ite_self _
  · refine idles_of_work rfl h ?_
    simp only [moveStart, hf]
  · exact (exec_moveStart h hf).1 hw
  · exact ((exec_moveStart h hf).2 hw).1 hn
  · refine (((exec_moveStart h hf).2 hw).2 i c hsome).trans (congrArg _ (if_neg ?_))
    rcases hno with hno | hno
    · exact fun hc => hno hc.1
    · exact fun hc => hno hc.2
  · exact (((exec_moveStart h hf).2 hw).2 i c hsome).trans (congrArg _ (if_pos ⟨hst, hstage⟩))
  · exact loadMove_chan.1
  · rw [loadMove_chan.2.1, State.chan_setChan_same]
  · rw [loadMove_chan.2.2.2.2.2, State.chan_setChan_same]

/-! ### Channel registers (R227 to R229) -/

theorem fld_setFld_bit1 (w : Word) (k : Nat) : fld (setFld w 1 1 k) 5 5 = fld w 5 5 ∧ fld (setFld w 1 1 k) 0 0 = fld w 0 0 := by
  have hw := w.isLt
  simp only [setFld, fld, bitsOf, BitVec.toNat_ofNat]
  omega

section
variable {s v : State} {i : Nat} {w : Word}

theorem writeChCtrl_of_free (h : (s.chan i).st = .free) : s.writeChCtrl i w = s := if_pos (beq_iff_eq.2 h)

theorem dropChanReqs_chan (j : Nat) (reads : Bool) : (s.dropChanReqs j reads).chan i = s.chan i := rfl

/-- PAUSE 1 of a running transfer: it drains, but goes on in DYING. -/
theorem pauseChan_of_run (h : (s.chan i).st = .run) :
    (s.pauseChan i).chan i = { s.chan i with pause := true, st := if (s.chan i).dying then .run else .draining } := by
  unfold State.pauseChan
  dsimp only
  rw [if_neg (by simp [h])]
  cases hd : (s.chan i).dying
  · rw [if_neg Bool.false_ne_true, dropChanReqs_chan, State.chan_setChan_same, Chan.pauses, h, hd]
    rfl
  · rw [if_pos rfl, State.chan_setChan_same, Chan.pauses, h, hd]
    rfl

theorem writeChCtrl_of_busy (hfree : (s.chan i).st ≠ .free) (hidle : (s.chan i).st ≠ .idle) (h5 : fld w 5 5 = 0) (h0 : fld w 0 0 = 0) :
    s.writeChCtrl i w = if fld w 1 1 = 1 then (s.setChan i (s.chan i)).pauseChan i else (s.setChan i (s.chan i)).unpauseChan i := by
  simp only [State.writeChCtrl, beq_eq_false_iff_ne.2 hfree, beq_eq_false_iff_ne.2 hidle, h5, h0, Bool.false_and, Bool.false_eq_true,
    if_false]
  rfl

theorem writeChCtrl_pauses (h : (s.chan i).st = .run) (h5 : fld w 5 5 = 0) (h0 : fld w 0 0 = 0) :
    (s.writeChCtrl i (setFld w 1 1 1)).chan i = { s.chan i with pause := true, st := if (s.chan i).dying then .run else .draining } := by
  have hone : fld (setFld w 1 1 1) 1 1 = 1 := fld_setFld_same (by decide) (by decide) w 1
  obtain ⟨h5', h0'⟩ := fld_setFld_bit1 w 1
  rw [writeChCtrl_of_busy (by simp [h]) (by simp [h]) (h5'.trans h5) (h0'.trans h0), if_pos hone,
    pauseChan_of_run (by rw [State.chan_setChan_same]; exact h), State.chan_setChan_same]

theorem writeChCtrl_resumes (h : (s.chan i).st = .paused ∨ (s.chan i).st = .pausedReady ∨ (s.chan i).st = .draining)
    (hq : (s.chan i).quiet = false) (h5 : fld w 5 5 = 0) (h0 : fld w 0 0 = 0) :
    (s.writeChCtrl i (setFld w 1 1 0)).chan i = { s.chan i with pause := false, st := .run } := by
  have hzero : fld (setFld w 1 1 0) 1 1 = 0 := fld_setFld_same (by decide) (by decide) w 0
  obtain ⟨h5', h0'⟩ := fld_setFld_bit1 w 0
  have hfree : (s.chan i).st ≠ .free := by rcases h with h | h | h <;> simp [h]
  have hidle : (s.chan i).st ≠ .idle := by rcases h with h | h | h <;> simp [h]
  have hheld : ((s.chan i).st == .draining || (s.chan i).st == .paused || (s.chan i).st == .pausedReady) = true := by
    rcases h with h | h | h <;> simp [h]
  rw [writeChCtrl_of_busy hfree hidle (h5'.trans h5) (h0'.trans h0), hzero, if_neg (by decide)]
  unfold State.unpauseChan
  dsimp only
  rw [State.chan_setChan_same, if_neg (by simpa using hfree), State.chan_setChan_same, hheld, hq]
  rfl

theorem channelDrained_of_drained (h : (s.chan i).st = .draining) (hs : (s.chan i).staged = []) : channelDrained i s =
    (s.setChan i { (s.chan i).rebase with st := .paused }).bump rMeGstat 31 16 := if_pos (by simp [h, hs])

theorem channelDrained_of_not (h : (s.chan i).st ≠ .draining ∨ (s.chan i).staged ≠ []) : channelDrained i s = s := by
  refine if_neg ?_
  rcases h with h | h <;> simp [h]

/-- The channel as a write of CH_CTRL with START 1 and PAUSE 0 leaves its registers. -/
def startedChan (c : Chan) (w : Word) : Chan :=
  { c with dfmt := fld w 23 20, sfmt := fld w 19 16, sat := fld w 8 8 == 1, phys := fld w 4 4 == 1, pause := false }

/-- A direct transfer that R223 or PHYS does not allow. -/
def badTransfer (c : Chan) : Prop := 11 ≤ c.sfmt ∨ 11 ≤ c.dfmt ∨ moveCounts c.sfmt c.dfmt c.count = none ∨
  (c.phys = true ∧ (2 ^ 44 ≤ c.src ∨ 2 ^ 44 ≤ c.dst))

open Classical in
theorem startDirect_chan (hst : (s.chan i).st = .idle) (hanon : (s.chan i).anon = false) (hdying : (s.chan i).dying = false)
    (hq : (s.chan i).queue = []) :
    ((s.chan i).count = 0 → (s.startDirect i).chan i = { s.chan i with status := stDone, done := true }) ∧
    ((s.chan i).count ≠ 0 → badTransfer (s.chan i) → (s.startDirect i).chan i = { s.chan i with status := stFormat, done := true }) ∧
    ((s.chan i).count ≠ 0 → ¬ badTransfer (s.chan i) → (s.startDirect i).chan i = { (s.chan i).load (s.chan i).src (s.chan i).dst (s.chan i).count
      (s.chan i).sfmt (s.chan i).dfmt (s.chan i).sat with direct := true, pre := false, noFault := false }) := by
  have hno : ((s.chan i).st != .idle || (s.chan i).anon || (s.chan i).dying || !(s.chan i).queue.isEmpty) = false := by
    simp [hst, hanon, hdying, hq]
  have hbad : (decide (11 ≤ (s.chan i).sfmt) || decide (11 ≤ (s.chan i).dfmt) || (moveCounts (s.chan i).sfmt (s.chan i).dfmt (s.chan i).count).isNone
      || ((s.chan i).phys && (decide (2 ^ 44 ≤ (s.chan i).src) || decide (2 ^ 44 ≤ (s.chan i).dst)))) = true ↔ badTransfer (s.chan i) := by
    simp [badTransfer, or_assoc]
  have heq : s.startDirect i = if (s.chan i).count = 0 then s.setChan i { s.chan i with status := stDone, done := true }
      else if badTransfer (s.chan i) then s.setChan i { s.chan i with status := stFormat, done := true }
      else s.setChan i { (s.chan i).load (s.chan i).src (s.chan i).dst (s.chan i).count
        (s.chan i).sfmt (s.chan i).dfmt (s.chan i).sat with direct := true, pre := false, noFault := false } := by
    unfold State.startDirect
    dsimp only
    rw [if_neg (by rw [hno]; decide)]
    exact ite_of_iff Iff.rfl rfl (ite_of_iff hbad rfl rfl)
  refine ⟨fun hc => ?_, fun hc hb => ?_, fun hc hb => ?_⟩
  · rw [heq, if_pos hc, State.chan_setChan_same]
  · rw [heq, if_neg hc, if_pos hb, State.chan_setChan_same]
  · rw [heq, if_neg hc, if_neg hb, State.chan_setChan_same]

theorem writeChCtrl_starts (h5 : fld w 5 5 = 0) (h1 : fld w 1 1 = 0) (hst : (s.chan i).st = .idle) (hdying : (s.chan i).dying = false) :
    ∃ t : State, s.writeChCtrl i (setFld w 0 0 1) = t.startDirect i ∧ t.chan i = startedChan (s.chan i) w := by
  have hb : ∀ hi lo : Nat, fld (setFld w 0 0 1) hi (lo + 1) = fld w hi (lo + 1) := fun _ lo => fld_setFld_bit0 (Nat.succ_ne_zero lo) w 1
  have hone : fld (setFld w 0 0 1) 0 0 = 1 := fld_setFld_same (by decide) (by decide) w 1
  have hcopy : s.writeChCtrl i (setFld w 0 0 1) = ((s.setChan i { s.chan i with
      dfmt := fld w 23 20, sfmt := fld w 19 16, sat := fld w 8 8 == 1, phys := fld w 4 4 == 1 }).unpauseChan i).startDirect i := by
    simp only [State.writeChCtrl, hst, hdying, hb, h5, h1, hone]
    rfl
  refine ⟨_, hcopy, ?_⟩
  unfold State.unpauseChan
  dsimp only
  rw [State.chan_setChan_same, if_neg (by simp [hst]), State.chan_setChan_same, startedChan, hst]
  rfl

/-- START of an idle named channel with an empty queue (R229). -/
theorem writeChCtrl_direct (h5 : fld w 5 5 = 0) (h1 : fld w 1 1 = 0) (hst : (s.chan i).st = .idle) (hanon : (s.chan i).anon = false)
    (hdying : (s.chan i).dying = false) (hq : (s.chan i).queue = []) :
    ((s.chan i).count = 0 → (s.writeChCtrl i (setFld w 0 0 1)).chan i = { startedChan (s.chan i) w with status := stDone, done := true }) ∧
    ((s.chan i).count ≠ 0 → badTransfer (startedChan (s.chan i) w) →
      (s.writeChCtrl i (setFld w 0 0 1)).chan i = { startedChan (s.chan i) w with status := stFormat, done := true }) ∧
    ((s.chan i).count ≠ 0 → ¬ badTransfer (startedChan (s.chan i) w) → ((s.writeChCtrl i (setFld w 0 0 1)).chan i).st = .run ∧
      ((s.writeChCtrl i (setFld w 0 0 1)).chan i).direct = true ∧ ((s.writeChCtrl i (setFld w 0 0 1)).chan i).src = (s.chan i).src ∧
      ((s.writeChCtrl i (setFld w 0 0 1)).chan i).dst = (s.chan i).dst ∧ ((s.writeChCtrl i (setFld w 0 0 1)).chan i).count = (s.chan i).count) := by
  obtain ⟨t, heq, ht⟩ := writeChCtrl_starts h5 h1 hst hdying
  obtain ⟨hdone, hbad, hruns⟩ := startDirect_chan (s := t) (i := i) (by rw [ht]; exact hst) (by rw [ht]; exact hanon) (by rw [ht]; exact hdying)
    (by rw [ht]; exact hq)
  rw [ht] at hdone hbad hruns
  rw [heq]
  refine ⟨hdone, hbad, fun hc hb => ?_⟩
  rw [hruns hc hb]
  exact ⟨rfl, rfl, rfl, rfl, rfl⟩

/-! ### CHANNEL_CREATE and CHANNEL_DESTROY (R218, R219) -/

/-- The cabinet is at its limit of named channels, or 64 channels are free. -/
def chansFull (s : State) (f : Flight) : Prop :=
  s.rfld (rMeClim f.cab) 10 0 ≤ (s.me.chans.filter (fun e => e.2.st != .free && !e.2.anon && e.2.cab == f.cab)).length ∨ s.chansFree ≤ 64

theorem channelCreate_of_full {f : Flight} (h : chansFull s f) : channelCreate f s =
    (s.bump (rMeCstat f.cab) 47 32).endFlight f.cab f.drawer f.seq { status := stDenied, unit := some uDrawer } := by
  unfold channelCreate
  rw [chansFull] at h
  rw [if_pos h]

theorem channelCreate_of_ok {f : Flight} (h : ¬ chansFull s f) (hi : s.freeChan = some i)
    (hw : (s.takeChan i f.cab f.ctx false).vaWrite { src := .drw false, unit := uDrawer, cab := f.cab, ctx := f.ctx, tag := drwKey f.cab f.drawer + 1 }
      ((s.obj (handleIdx (leAt f.body 0 4))).base + leAt f.body 8 8) (toLe 8 (chanHandle (s.chan i).gen i)) = (.ok (), v)) :
    channelCreate f s = v.endFlight f.cab f.drawer f.seq { status := stDone } := by
  have hgen : ((s.takeChan i f.cab f.ctx false).chan i).gen = (s.chan i).gen := by rw [State.takeChan, State.chan_setChan_same]
  have hobj : ∀ k, (s.takeChan i f.cab f.ctx false).obj k = s.obj k := fun _ => rfl
  unfold channelCreate
  rw [chansFull] at h
  rw [if_neg h, hi]
  dsimp only
  rw [hgen, hobj, hw]

theorem channelDestroy_of_some {f : Flight} (h : s.namedChan f.cab f.ctx (leAt f.body 0 4) = some i) : channelDestroy f s =
    if (leAt f.body 4 1).testBit 0 then
      ((s.startFlight f).setChan i { s.chan i with dying := true, destroys := (s.chan i).destroys ++ [(f.drawer, f.seq)] }).abortChan i abandoned
    else (s.startFlight f).setChan i { s.chan i with
      dying := true, destroys := (s.chan i).destroys ++ [(f.drawer, f.seq)], pause := false,
      st := if ((s.chan i).st == .draining || (s.chan i).st == .paused || (s.chan i).st == .pausedReady) && !(s.chan i).quiet then .run
        else (s.chan i).st } := by
  simp only [channelDestroy, h]

theorem channelDestroy_of_none {f : Flight} (h : s.namedChan f.cab f.ctx (leAt f.body 0 4) = none) :
    channelDestroy f s = s.endFlight f.cab f.drawer f.seq { status := stDone } := by
  simp only [channelDestroy, h]

end

section
variable {s : State} {f : Flight} {n : Sys2Proof.CabId} {d : Sys2Proof.DrawerId} {q : Sys2Proof.Seq}

theorem exec_channelCreate (h : s.serves uDrawer) (hop : s.issuedOp n.val d.val q.val 0x60 = some f) :
    exec (.channelCreate n d q) s = .next (channelCreate f s) := by
  refine (exec_of_work rfl h).trans (congrArg _ ?_)
  simp only [hop]

theorem exec_channelDestroy (h : s.serves uDrawer) (hop : s.issuedOp n.val d.val q.val 0x61 = some f) :
    exec (.channelDestroy n d q) s = .next (channelDestroy f s) := by
  refine (exec_of_work rfl h).trans (congrArg _ ?_)
  simp only [hop]

end

/-- Settles O36. -/
theorem channelsAndDirectTransfers : Obligations.ChannelsAndDirectTransfers := by
  unfold Obligations.ChannelsAndDirectTransfers
  refine ⟨fun i v s => ⟨fun h => ⟨fun hf => ⟨?_, ?_, ?_⟩, fun hr h5 h0 => ?_, fun hp hq h5 h0 => ?_⟩, fun h => ⟨fun hd hs => ?_, fun hn => ?_⟩⟩,
    fun i v s h h5 h1 => ?start, fun n d q s v f h => ⟨fun hop => ⟨fun hfull => ?_, fun i hfull hi hw => ?_⟩, fun hop => ⟨fun hn => ?_,
      fun i hi => ⟨fun hb => ?_, fun hb => ?_⟩⟩⟩⟩
  · exact (exec_of_mayReach rfl h).trans (congrArg _ (writeChCtrl_of_free hf))
  · exact (exec_of_mayReach rfl h).trans (congrArg _ (writeChCtrl_of_free hf))
  · exact (exec_of_mayReach rfl h).trans (congrArg _ (writeChCtrl_of_free hf))
  · exact ⟨_, exec_of_mayReach rfl h, writeChCtrl_pauses hr h5 h0⟩
  · exact ⟨_, exec_of_mayReach rfl h, writeChCtrl_resumes hp hq h5 h0⟩
  · exact (exec_of_work rfl h).trans (congrArg _ (channelDrained_of_drained hd hs))
  · exact idles_of_work rfl h (channelDrained_of_not hn)
  case start =>
    intro u c c' bad hst hanon hdying hq
    exact ⟨_, exec_of_mayReach rfl h, writeChCtrl_direct h5 h1 hst hanon hdying hq⟩
  · exact (exec_channelCreate h hop).trans (congrArg _ (channelCreate_of_full hfull))
  · exact (exec_channelCreate h hop).trans (congrArg _ (channelCreate_of_ok hfull hi hw))
  · exact (exec_channelDestroy h hop).trans (congrArg _ (channelDestroy_of_none hn))
  · exact (exec_channelDestroy h hop).trans (congrArg _ ((channelDestroy_of_some hi).trans (if_pos hb)))
  · exact (exec_channelDestroy h hop).trans (congrArg _ ((channelDestroy_of_some hi).trans (if_neg (by rw [hb]; decide))))

end Sys2Proof.Machine
end

section
/-! PROOFS. Landings, ROUTE, RETURN and COMBINE (O37, O39; R244 to R263). -/
namespace Sys2Proof.Machine

/-! ### LAND and UNLAND (R244, R246) -/

section
variable {s u : State} {f : Flight}

/-- The granules that a LAND's landing needs. -/
def landNeed (s : State) (f : Flight) : Nat :=
  touched (landingOf s f).base ((landingOf s f).nparts * (landingOf s f).partBytes)

theorem land_of_bound (h : s.landing f.cab (landingOf s f).group ≠ none) : land f s = s.endFlight f.cab f.drawer f.seq dceDenied :=
  if_pos (Option.isSome_iff_ne_none.2 h)

section
variable (h : s.landing f.cab (landingOf s f).group = none)
include h

theorem land_of_short (hr : s.reserve f.cab (landNeed s f) = none) : land f s = s.endFlight f.cab f.drawer f.seq dceDenied := by
  rw [landNeed] at hr
  unfold land
  dsimp only
  rw [if_neg (by simp [h]), hr]

theorem land_of_reserved (hr : s.reserve f.cab (landNeed s f) = some u) : land f s =
    ({ u with dce := { u.dce with landings := u.dce.landings ++ [{ landingOf s f with resv := landNeed s f }] } } : State).endFlight
      f.cab f.drawer f.seq { status := stDone } := by
  rw [landNeed] at hr ⊢
  unfold land
  dsimp only
  rw [if_neg (by simp [h]), hr]

end

theorem unlandIssue_of_none (h : s.landing f.cab (leAt f.body 1 1 % 16) = none) :
    unlandIssue f s = s.endFlight f.cab f.drawer f.seq dceDenied := by
  simp only [unlandIssue, h]

theorem unlandIssue_of_some {l : Landing} (h : s.landing f.cab (leAt f.body 1 1 % 16) = some l) : unlandIssue f s =
    if l.ctx ≠ f.ctx ∨ l.unland = true then s.endFlight f.cab f.drawer f.seq dceDenied
    else (s.startFlight f).unbind { l with desc := some (f.drawer, f.seq) } := by
  simp only [unlandIssue, h]
  exact ite_of_iff (by simp) rfl rfl

end

/-! ### ROUTE and RETURN (R247 to R258) -/

section
variable {s u v w : State} {f : Flight} {c : DceCmd}

theorem routeCheck_of_short (h : (s.obj (handleIdx (leAt f.body 4 4))).len < 64) :
    routeCheck f s = s.endFlight f.cab f.drawer f.seq { status := stBound, unit := some uDce } := if_pos h

theorem routeGo_of_none {n d q : Nat} (h : s.dceCmd n d q = none) : routeGo n d q s = s := by
  simp only [routeGo, h]

theorem routeGo_of_some {n d q : Nat} (hc : s.dceCmd n d q = some c) (hf : s.flight n d q = some f) : routeGo n d q s =
    if c.kind == .route && s.routeReady c then routeRun { c with started := true } f (s.startDce c) else s := by
  simp only [routeGo, hc, hf]

theorem returnGo_of_some {n d q : Nat} (hc : s.dceCmd n d q = some c) (hf : s.flight n d q = some f) : returnGo n d q s =
    if c.kind == .ret && c.phase == .queued && !s.dceHeld c && s.dceMayStart c then
      returnRun { c with started := true } f (s.startDce c) else s := by
  simp only [returnGo, hc, hf]

/-- The rows of a ROUTE with their choices and slots (R249 to R251). -/
def placedRows (c : DceCmd) (f : Flight) (v : State) (lg : List Byte) : List (Nat × List Placed) :=
  assignRows (homeCap c.homes) [] ((rowsOf (routeRows f) (logitStride f (homeExperts c.homes)) (logitStride f (homeExperts c.homes)) lg).map
    fun b => routeRow (v.slot (c.slot.getD 0)).bytes (routeK f) ((leAt f.body 3 1).testBit 0) (validLogits f c.homes b))

/-- The sets of a ROUTE (R253). -/
def routeSets (c : DceCmd) (f : Flight) (placed : List (Nat × List Placed)) (xs : List Byte) : List (Peer × List SetRow) :=
  c.peers.zipIdx.map fun e => (e.1, setTo c.homes e.2 placed
    (rowsOf (routeRows f) (up64 (rowBytes (routeX f) (routeH f))) (rowBytes (routeX f) (routeH f)) xs))

theorem routeRun_of_ok {lg xs : List Byte}
    (hlg : s.vaRead c.asker (s.extVa f 12) (routeRows f * logitStride f (homeExperts c.homes)) = (.ok lg, u))
    (hxs : u.vaRead c.asker (u.extVa f 0) (routeRows f * up64 (rowBytes (routeX f) (routeH f))) = (.ok xs, v))
    (hw : v.dceWrite c (v.extVa f 24) ((placedRows c f v lg).flatMap (fun p => routingRecord (routeK f) p.1 p.2)) = (.ok, w)) :
    routeRun c f s = (((w.bump (rDceCstat c.cab) 63 48
        ((placedRows c f v lg).map (fun p => (p.2.filter (fun x => x.flags == 2)).length)).sum).bump
        (rDceCstat c.cab) 47 32 ((placedRows c f v lg).filter (fun p => p.1 == 1 || p.1 == 4)).length).updTicket c.cab c.ticket
        (fun t => { t with sent := (routeSets c f (placedRows c f v lg) xs).map (fun x => x.2.length) })).startSets c
      (routeSets c f (placedRows c f v lg) xs)
      { step := leAt f.body 8 8, count := 0, xb := rowBytes (routeX f) (routeH f), cap := homeCap c.homes, rank := routeRank f,
        ret := false } := by
  unfold placedRows at hw
  unfold routeRun
  dsimp only
  rw [hlg]
  dsimp only
  rw [hxs]
  dsimp only
  rw [hw]
  rfl

theorem returnRun_of_ok {l : Landing} {sets : List (Peer × List SetRow)} (hl : s.landing f.cab (leAt f.body 1 1 % 16) = some l)
    (hr : readRanks c.asker l (retStep f) (retBytes f) ((s.obj (handleIdx (leAt f.body 4 4))).base + leAt f.body 32 8)
      (List.range l.ranks) s = (.ok sets, u)) : returnRun c f s =
    u.startSets c sets { step := retStep f, count := 0, xb := retBytes f, cap := l.cap, rank := 0, ret := true } := by
  simp only [returnRun, hl, hr]

end

section
variable {s : State} {f : Flight} {n : Sys2Proof.CabId} {d : Sys2Proof.DrawerId} {q : Sys2Proof.Seq}

theorem exec_dispatchLand (h : s.serves uDce) (hop : s.dispatch n.val d.val q.val 2 = some f) :
    exec (.dispatchLand n d q) s = .next (land f s) := by
  refine (exec_of_work rfl h).trans (congrArg _ ?_)
  simp only [hop]

theorem exec_dispatchUnland (h : s.serves uDce) (hop : s.dispatch n.val d.val q.val 3 = some f) :
    exec (.dispatchUnland n d q) s = .next (unlandIssue f s) := by
  refine (exec_of_work rfl h).trans (congrArg _ ?_)
  simp only [hop]

theorem exec_dispatchRoute_issued (h : s.serves uDce) (hop : s.dispatch n.val d.val q.val 0 = some f) :
    exec (.dispatchRoute n d q) s = .next (routeGo n.val d.val q.val (routeCheck f s)) := by
  refine (exec_of_work rfl h).trans (congrArg _ ?_)
  simp only [hop]

theorem exec_dispatchRoute (h : s.serves uDce) (hop : s.dispatch n.val d.val q.val 0 = none) :
    exec (.dispatchRoute n d q) s = .next (routeGo n.val d.val q.val s) := by
  refine (exec_of_work rfl h).trans (congrArg _ ?_)
  simp only [hop]

theorem exec_dispatchReturn_refused {e : Ending} (h : s.serves uDce) (hop : s.dispatch n.val d.val q.val 1 = some f)
    (he : returnCheck f s = some e) : exec (.dispatchReturn n d q) s = .next (s.endFlight f.cab f.drawer f.seq e) := by
  refine (exec_of_work rfl h).trans (congrArg _ ?_)
  simp only [hop, he]

theorem exec_dispatchReturn (h : s.serves uDce) (hop : s.dispatch n.val d.val q.val 1 = none) :
    exec (.dispatchReturn n d q) s = .next (returnGo n.val d.val q.val s) := by
  refine (exec_of_work rfl h).trans (congrArg _ ?_)
  simp only [hop]

end

/-- Settles O37. -/
theorem landingsRoutesAndReturns : Obligations.LandingsRoutesAndReturns := by
  unfold Obligations.LandingsRoutesAndReturns
  refine ⟨fun n d q s h => ⟨fun f hop => ⟨fun hl => ?_, fun hl hr => ?_, fun u hl hr => ?_⟩, fun f hop => ⟨fun hl => ?_, fun l hl =>
      ⟨fun hbad => ?_, fun hctx hu => ?_⟩⟩, fun hop => ?_, fun hop => ?_⟩,
    fun n d q s h => ⟨fun f hop _ hc hlen => ?_, ?route, fun c f hop hc hf hr => ?_, fun f e hop he => ?_, ?ret, fun c f hop hc hf hno => ?_⟩⟩
  · exact (exec_dispatchLand h hop).trans (congrArg _ (land_of_bound hl))
  · exact (exec_dispatchLand h hop).trans (congrArg _ (land_of_short hl hr))
  · exact (exec_dispatchLand h hop).trans (congrArg _ (land_of_reserved hl hr))
  · exact (exec_dispatchUnland h hop).trans (congrArg _ (unlandIssue_of_none hl))
  · exact (exec_dispatchUnland h hop).trans (congrArg _ ((unlandIssue_of_some hl).trans (if_pos hbad)))
  · refine (exec_dispatchUnland h hop).trans (congrArg _ ((unlandIssue_of_some hl).trans (if_neg ?_)))
    simp [hctx, hu]
  · refine idles_of_work rfl h ?_
    simp only [hop]
  · refine idles_of_work rfl h ?_
    simp only [hop]
  · exact (exec_dispatchRoute_issued h hop).trans (congrArg _ (by rw [routeCheck_of_short hlen]; exact routeGo_of_none hc))
  case route =>
    intro c f u v w lg xs hop hc hf hk hready xb ls r hlg hxs placed sets hw
    refine (exec_dispatchRoute h hop).trans (congrArg _ ((routeGo_of_some hc hf).trans ((if_pos ?_).trans ?_)))
    · rw [hk, hready]
      decide
    · exact routeRun_of_ok (c := { c with started := true }) hlg hxs hw
  · exact (exec_dispatchRoute h hop).trans (congrArg _ ((routeGo_of_some hc hf).trans (if_neg (by simp [hr]))))
  · exact exec_dispatchReturn_refused h hop he
  case ret =>
    intro c f l sets u hop hc hf hk hp hh hm hl hr
    refine (exec_dispatchReturn h hop).trans (congrArg _ ((returnGo_of_some hc hf).trans ((if_pos ?_).trans ?_)))
    · rw [hk, hp, hh, hm]
      decide
    · exact returnRun_of_ok (c := { c with started := true }) (l := l) hl hr
  · refine (exec_dispatchReturn h hop).trans (congrArg _ ((returnGo_of_some hc hf).trans (if_neg ?_)))
    rcases hno with hno | hno | hno <;> simp [hno]

/-! ### COMBINE (R259, R260, R263) -/

section
variable {s u v w z : State} {f : Flight} {c : DceCmd} {t : Ticket}

theorem combineIssue_of_bad {e : Ending} (h : combineCheck f s = some e) : combineIssue f s = s.endFlight f.cab f.drawer f.seq e := by
  simp only [combineIssue, h]

theorem combineIssue_of_aborted (h : combineCheck f s = none) (ht : s.ticket f.cab (combineTicket f) = some t) (ha : t.aborted = true) :
    combineIssue f s =
      (s.closeTicket f.cab (combineTicket f)).endFlight f.cab f.drawer f.seq { status := stAbortedPeer, unit := some uDce } := by
  simp only [combineIssue, h, ht, ha, if_true]

theorem combineIssue_of_ok (h : combineCheck f s = none) (ht : s.ticket f.cab (combineTicket f) = some t) (ha : t.aborted = false) :
    (combineIssue f s).dce.cmds = s.dce.cmds ++
      [{ cab := f.cab, drawer := f.drawer, seq := f.seq, ctx := f.ctx, kind := .combine, direct := s.runsDirect f,
         ticket := combineTicket f, phase := if s.runsDirect f || s.mayCommit then .gathering else .queued,
         deadline := s.mono + s.peerNs, start := s.mono, outs := combineOuts s f t }] := by
  simp only [combineIssue, h, ht, ha]
  rfl

section
variable {n d q : Nat} (hc : s.dceCmd n d q = some c) (hf : s.flight n d q = some f)
include hc hf

theorem combineGo_of_queued (hk : c.kind = .combine) (hp : c.phase = .queued) (ht : s.ticket n c.ticket = some t) : combineGo n d q s =
    if s.dceHeld c || !s.dceMayStart c then s
    else s.updDce c (fun x => { x with phase := .gathering, deadline := s.mono + s.peerNs, start := s.mono }) := by
  simp only [combineGo, hc, hf, hk, hp, ht]

theorem combineGo_of_missing (hk : c.kind = .combine) (hp : c.phase ≠ .queued) (ht : s.ticket n c.ticket = some t)
    (hm : t.returned.length ≠ t.ranks.length) : combineGo n d q s = s := by
  cases hphase : c.phase with
  | queued => exact absurd hphase hp
  | gathering =>
    simp only [combineGo, hc, hf, hk, hphase, ht]
    exact if_pos (by simp [hm])
  | staging => simp only [combineGo, hc, hf, hk, hphase]
  | committing => simp only [combineGo, hc, hf, hk, hphase]

/-- The state in which a COMBINE writes its rows: the rows it read have been carried. -/
def combined (c : DceCmd) (f : Flight) (t : Ticket) (v : State) (recs : List Byte) : State :=
  v.freeWord.2.carryRows c.cab t.rows ((((List.range t.rows).map (fun i => leAt recs (i * (8 + 8 * t.k) + 2) 2)).sum) * rowBytes t.rfmt t.h)
    (t.rows * combineOb f t)

theorem combineGo_of_all {recs area : List Byte} (hk : c.kind = .combine) (hp : c.phase = .gathering) (ht : s.ticket n c.ticket = some t)
    (hheld : s.dceHeld c = false) (hall : t.returned.length = t.ranks.length)
    (hrecs : s.vaRead c.asker t.routVa (t.rows * (8 + 8 * t.k)) = (.ok recs, u))
    (harea : u.vaRead c.asker t.retVa (t.rows * t.k * up64 (rowBytes t.rfmt t.h)) = (.ok area, v))
    (hstats : combineStats f = false) (hdirect : c.direct = false)
    (hw : writeRows c (up64 (combineOb f t)) (combineOb f t) t.rows
      (((combined c f t v recs).obj (handleIdx (leAt f.body 4 4))).base + leAt f.body 8 8)
      (combineRows f t v.freeWord.1 recs area).1 (combined c f t v recs) = (.ok, w))
    (hz : w.commitOwner c.owner { m := .cab c.cab, unit := uTu, ctx := some c.ctx } = (.ok (), z)) :
    combineGo n d q s = z.endDce c { status := stDone } := by
  unfold combined at hw
  simp only [combineGo, hc, hf, hk, hp, ht]
  rw [if_neg (by simp [hheld, hall]), hrecs]
  dsimp only
  rw [harea]
  dsimp only
  rw [hw]
  dsimp only
  rw [hstats, if_neg Bool.false_ne_true]
  dsimp only
  rw [hdirect, if_neg Bool.false_ne_true, hz]

end

/-- Every rank of a COMBINE has returned. -/
def allBack (s : State) (n : Nat) (c : DceCmd) : Prop :=
  c.kind = .combine ∧ ∃ t, s.ticket n c.ticket = some t ∧ t.returned.length = t.ranks.length

open Classical in
theorem peerTimeout_of_some {n d q : Nat} (hc : s.dceCmd n d q = some c) : peerTimeout n d q s =
    if c.phase ≠ .queued ∧ c.deadline ≤ s.mono ∧ ¬ allBack s n c then
      (if c.kind = .combine then s else s.discardPeers c none).endDce c { status := stTimeout, unit := some uDce } else s := by
  have hkind : (if (c.kind == .combine) = true then s else s.discardPeers c none) = if c.kind = .combine then s else s.discardPeers c none :=
    ite_of_iff beq_iff_eq rfl rfl
  simp only [peerTimeout, hc, hkind]
  refine ite_of_iff ?_ rfl rfl
  unfold allBack
  cases s.ticket n c.ticket <;> simp [and_assoc, Decidable.imp_iff_not_or]

end

/-- Settles O39. -/
theorem combinesGatherAndTimeOut : Obligations.CombinesGatherAndTimeOut := by
  unfold Obligations.CombinesGatherAndTimeOut
  intro n d q s h
  have hdesc : ∀ f, s.issuedOp n.val d.val q.val 0x21 = some f → exec (.combineDesc n d q) s = .next (combineIssue f s) := fun f hop => by
    refine (exec_of_work rfl h).trans (congrArg _ ?_)
    simp only [hop]
  refine ⟨fun f hop => ⟨fun e he => ?_, fun t he ht => ⟨fun ha => ?_, fun ha => ?_⟩⟩, fun c f t hc hf hk hp ht => ⟨fun hno => ?_, fun hh hm => ?_⟩,
    ?compute, fun c f t hc hf hk hp ht hm => ?_, fun c hc => ⟨fun hno => ?_, fun hp hd hb => ?_⟩⟩
  · exact (hdesc f hop).trans (congrArg _ (combineIssue_of_bad he))
  · exact (hdesc f hop).trans (congrArg _ (combineIssue_of_aborted he ht ha))
  · exact ⟨_, hdesc f hop, combineIssue_of_ok he ht ha⟩
  · refine idles_of_work rfl h ((combineGo_of_queued hc hf hk hp ht).trans (if_pos ?_))
    rcases hno with hno | hno <;> simp [hno]
  · exact (exec_of_work rfl h).trans (congrArg _ ((combineGo_of_queued hc hf hk hp ht).trans (if_neg (by simp [hh, hm]))))
  case compute =>
    intro c f t recs area u v w z hc hf hk hp ht hh hall hrecs harea hstats hdirect taken x hw hz
    exact (exec_of_work rfl h).trans (congrArg _ (combineGo_of_all hc hf hk hp ht hh hall hrecs harea hstats hdirect hw hz))
  · exact idles_of_work rfl h (combineGo_of_missing hc hf hk hp ht hm)
  · refine idles_of_work rfl h ((peerTimeout_of_some hc).trans (if_neg fun hgo => ?_))
    rcases hno with hno | hno | hno
    · exact hgo.1 hno
    · exact absurd hgo.2.1 (Nat.not_le.2 hno)
    · exact hgo.2.2 hno
  · exact (exec_of_work rfl h).trans (congrArg _ ((peerTimeout_of_some hc).trans (if_pos ⟨hp, hd, hb⟩)))

end Sys2Proof.Machine
end

section
/-! PROOFS. TABLE_LOAD and the operations of a slot (O40; R279 to R283). -/
namespace Sys2Proof.Machine

section
variable {s v : State} {f : Flight} {k : Nat}

/-! ### LOAD, REPLACE and FREE at issue -/

section
variable (h : s.opOf f.cab f.drawer f.seq = none)
include h

theorem loadTable_of_full (hfull : quotaTables (s.cab f.cab).conf ≤ s.useTables f.cab ∨ s.freeSlot = none) :
    loadTable f s = s.tableFails f stDenied uDce := by
  unfold loadTable
  rw [h]
  dsimp only
  by_cases hq : quotaTables (s.cab f.cab).conf ≤ s.useTables f.cab
  · rw [if_pos hq]
  · rw [if_neg hq, hfull.resolve_left hq]

/-- The state a LOAD reads its image in: its slot is LOADING, and its operation is the slot's. -/
def loadingState (s : State) (f : Flight) (k : Nat) : State :=
  { s.setSlot k { s.slot k with st := .loading, cab := f.cab } with
    ft := { (s.setSlot k { s.slot k with st := .loading, cab := f.cab }).ft with
      ops := (s.setSlot k { s.slot k with st := .loading, cab := f.cab }).ft.ops ++
        [{ cab := f.cab, drawer := f.drawer, seq := f.seq, op := 0, slot := k }] } }

theorem loadTable_of_room (hq : s.useTables f.cab < quotaTables (s.cab f.cab).conf) (hk : s.freeSlot = some k) :
    loadTable f s = loadRead f { cab := f.cab, drawer := f.drawer, seq := f.seq, op := 0, slot := k } (loadingState s f k) := by
  unfold loadTable
  rw [h]
  dsimp only
  rw [if_neg (Nat.not_le.2 hq), hk]
  rfl

end

theorem loadRead_of_bad {o : TableOp} {st u : Nat} (h : s.readImage f = (.bad st u, v)) : loadRead f o s =
    ((v.setSlot o.slot { version := (v.slot o.slot).version }).dropOp o).tableFails f st uDce := by
  simp only [loadRead, h]

theorem loadRead_of_ok {o : TableOp} {bs : List Byte} (h : s.readImage f = (.ok bs, v)) :
    loadRead f o s = (v.startFlight f).setOp { o with bytes := bs } := by
  simp only [loadRead, h]

theorem slot_loadingState : ((loadingState s f k).slot k).st = .loading := by
  have hft : (loadingState s f k).slot k = (s.setSlot k { s.slot k with st := .loading, cab := f.cab }).slot k := rfl
  rw [hft, State.slot_setSlot_same]

theorem replaceTable_of_not (h : s.slotTakes f.cab (leAt f.body 16 2) = false) : replaceTable f s = s.tableFails f stDenied uDce :=
  if_pos (by rw [h]; rfl)

theorem replaceTable_of_bad {st u : Nat} (h : s.slotTakes f.cab (leAt f.body 16 2) = true) (hr : s.readImage f = (.bad st u, v)) :
    replaceTable f s = v.tableFails f st uDce := by
  simp only [replaceTable, h, hr]
  rfl

theorem replaceTable_of_ok {bs : List Byte} (h : s.slotTakes f.cab (leAt f.body 16 2) = true) (hr : s.readImage f = (.ok bs, v)) :
    (replaceTable f s).ft.slots = v.ft.slots ∧ (replaceTable f s).ft.ops = v.ft.ops ++
      [{ cab := f.cab, drawer := f.drawer, seq := f.seq, op := 1, slot := leAt f.body 16 2, bytes := bs }] := by
  simp only [replaceTable, h, hr]
  exact ⟨rfl, rfl⟩

theorem freeTable_of_not (h : s.slotTakes f.cab (leAt f.body 16 2) = false) : freeTable f s = s.tableFails f stDenied uDce :=
  if_pos (by rw [h]; rfl)

/-! ### The next operation of a slot (R281) -/

theorem nextOp_of_free {r : TableOp} (hr : s.ft.ops.find? (fun x => x.slot == k) = some r) (hop : r.op = 2) (hc : r.checked = false)
    (hheld : s.slotHeld r.cab k = true) :
    s.nextOp k = (s.setSlot k { s.slot k with st := .freeing }).setOp { r with checked := true } := by
  obtain ⟨n, hn⟩ : ∃ n, s.ft.ops.length = n + 1 :=
    Nat.exists_eq_succ_of_ne_zero fun h0 => by rw [List.length_eq_zero_iff.1 h0] at hr; cases hr
  rw [State.nextOp, hn, State.nextOp.go, hr]
  simp only [hop, hc, hheld, bne_self_eq_false, Bool.or_self, Bool.false_eq_true, if_false, if_true]

theorem nextOp_of_lost {r : TableOp} (hr : s.ft.ops.find? (fun x => x.slot == k) = some r) (hop : r.op = 2) (hc : r.checked = false)
    (hheld : s.slotHeld r.cab k = false) (hlen : s.ft.ops.length = 1) :
    s.nextOp k = ((s.dropOp r).bump (rFtCstat r.cab) 47 32).endFlight r.cab r.drawer r.seq dceDenied := by
  rw [State.nextOp, hlen, State.nextOp.go, hr]
  simp only [hop, hc, hheld, bne_self_eq_false, Bool.or_self, Bool.false_eq_true, if_false, State.nextOp.go]
  rfl

theorem slotTakes_of_held {n : Nat} (h : s.slotHeld n k = true) : s.slotTakes n k = true := by
  simp only [State.slotHeld, Bool.and_eq_true] at h
  obtain ⟨⟨⟨hk, hst⟩, himg⟩, hcab⟩ := h
  simp [State.slotTakes, hk, hst, himg, hcab]

/-- The operation of a FREE. -/
def freeOp (f : Flight) : TableOp := { cab := f.cab, drawer := f.drawer, seq := f.seq, op := 2, slot := leAt f.body 16 2 }

/-- The state once a FREE stands behind its slot. -/
def freeQueued (s : State) (f : Flight) : State :=
  { s.startFlight f with ft := { (s.startFlight f).ft with ops := (s.startFlight f).ft.ops ++ [freeOp f] } }

theorem freeTable_of_held (h : s.slotHeld f.cab (leAt f.body 16 2) = true) (hnone : ∀ o ∈ s.ft.ops, o.slot ≠ leAt f.body 16 2) :
    freeTable f s = ((freeQueued s f).setSlot (leAt f.body 16 2) { s.slot (leAt f.body 16 2) with st := .freeing }).setOp
      { freeOp f with checked := true } := by
  have hmiss : s.ft.ops.filter (fun o => o.slot == leAt f.body 16 2) = [] :=
    List.filter_eq_nil_iff.2 fun o ho => by simpa using hnone o ho
  have hone : ((freeQueued s f).ft.ops.filter (fun o => o.slot == leAt f.body 16 2)).length = 1 := by
    have hops : (freeQueued s f).ft.ops = s.ft.ops ++ [freeOp f] := rfl
    rw [hops, List.filter_append, hmiss]
    simp [freeOp]
  have hfind : (freeQueued s f).ft.ops.find? (fun o => o.slot == leAt f.body 16 2) = some (freeOp f) := by
    have hops : (freeQueued s f).ft.ops = s.ft.ops ++ [freeOp f] := rfl
    rw [hops, List.find?_append, List.find?_eq_none.2 fun o ho => by simpa using hnone o ho]
    simp [freeOp]
  have hgo : freeTable f s = if ((freeQueued s f).ft.ops.filter (fun o => o.slot == leAt f.body 16 2)).length = 1 then
      (freeQueued s f).nextOp (leAt f.body 16 2) else freeQueued s f := by
    unfold freeTable
    dsimp only
    rw [slotTakes_of_held h]
    rfl
  rw [hgo, if_pos hone]
  exact nextOp_of_free hfind rfl rfl h

theorem freeTable_freeing (h : s.slotHeld f.cab (leAt f.body 16 2) = true) (hnone : ∀ o ∈ s.ft.ops, o.slot ≠ leAt f.body 16 2) :
    ((freeTable f s).slot (leAt f.body 16 2)).st = .freeing ∧
    ∃ o ∈ (freeTable f s).ft.ops, o.slot = leAt f.body 16 2 ∧ o.op = 2 ∧ o.checked = true := by
  rw [freeTable_of_held h hnone]
  constructor
  · have hft : ∀ (u : State) (o : TableOp), (u.setOp o).slot (leAt f.body 16 2) = u.slot (leAt f.body 16 2) := fun _ _ => rfl
    rw [hft, State.slot_setSlot_same]
  · refine ⟨{ freeOp f with checked := true }, ?_, rfl, rfl, rfl⟩
    refine List.mem_map.2 ⟨freeOp f, List.mem_append_right _ (.head _), ?_⟩
    exact if_pos (by simp [freeOp])

/-! ### The loader (R279) and the ends of REPLACE and FREE -/

section
variable {n d q : Nat} {o : TableOp} (ho : s.opOf n d q = some o) (hf : s.flight n d q = some f) (hop : o.op ≠ 2) (hc : o.checked = false)
include ho hf hop hc

omit hop hc in
theorem loaderStep_of_not (h : s.opFirst o = false ∨ o.bytes = []) : loaderStep n d q s = s := by
  simp only [loaderStep, ho, hf]
  exact if_pos (by rcases h with h | h <;> simp [h])

theorem loaderStep_of_first (hfirst : s.opFirst o = true) (hb : o.bytes ≠ []) :
    (∀ e, loaderCheck o.bytes = some e → loaderStep n d q s = s.loaderFails o e.1 e.2) ∧
    (∀ v, loaderCheck o.bytes = none → o.op = 0 →
      s.vaWrite (tableAsker f) ((s.obj (handleIdx (leAt f.body 20 4))).base + leAt f.body 24 8) (toLe 8 o.slot) = (.ok (), v) →
      loaderStep n d q s = v.installTable o) ∧
    (loaderCheck o.bytes = none → o.op ≠ 0 → loaderStep n d q s =
      if s.slotHeld n o.slot then (s.setSlot o.slot { s.slot o.slot with st := .replacing }).setOp { o with checked := true }
      else ((s.dropOp o).tableFails f stDenied uDce).nextOp o.slot) := by
  have hgo : (decide (o.op = 2) || o.checked || o.bytes == [] || !s.opFirst o) = false := by simp [hop, hc, hfirst, hb]
  refine ⟨fun e he => ?_, fun v he h0 hw => ?_, fun he h0 => ?_⟩
  · simp only [loaderStep, ho, hf, hgo, he, Bool.false_eq_true, if_false]
  · simp only [loaderStep, ho, hf, hgo, he, Bool.false_eq_true, if_false]
    rw [if_pos h0, hw]
  · simp only [loaderStep, ho, hf, hgo, he, h0, Bool.false_eq_true, if_false]

end

end

section
variable {s : State} {f : Flight} {n : Sys2Proof.CabId} {d : Sys2Proof.DrawerId} {q : Sys2Proof.Seq}

theorem exec_tableLoadLoad (h : s.serves uDce) (hop : s.tableFlight n.val d.val q.val 0 = some f) :
    exec (.tableLoadLoad n d q) s = .next (loadTable f s) := by
  refine (exec_of_work rfl h).trans (congrArg _ ?_)
  simp only [hop]

theorem exec_tableLoadReplace (h : s.serves uDce) (hop : s.tableFlight n.val d.val q.val 1 = some f) :
    exec (.tableLoadReplace n d q) s = .next (replaceTable f s) := by
  refine (exec_of_work rfl h).trans (congrArg _ ?_)
  simp only [hop]

theorem exec_tableLoadFree (h : s.serves uDce) (hop : s.tableFlight n.val d.val q.val 2 = some f) :
    exec (.tableLoadFree n d q) s = .next (freeTable f s) := by
  refine (exec_of_work rfl h).trans (congrArg _ ?_)
  simp only [hop]

theorem exec_tableReplaceComplete {o : TableOp} (h : s.serves uDce) (ho : s.opOf n.val d.val q.val = some o) :
    exec (.tableReplaceComplete n d q) s = .next
      (if o.op = 1 && o.checked && s.slotQuiet o then (s.installTable o).nextOp o.slot else s) := by
  refine (exec_of_work rfl h).trans (congrArg _ ?_)
  simp only [ho]

theorem exec_tableFreeComplete {o : TableOp} (h : s.serves uDce) (ho : s.opOf n.val d.val q.val = some o) :
    exec (.tableFreeComplete n d q) s = .next (if o.op = 2 && o.checked && s.slotQuiet o then freeDone o s else s) := by
  refine (exec_of_work rfl h).trans (congrArg _ ?_)
  simp only [ho]

end

/-- Settles O40. -/
theorem tablesLoadAndTableOperations : Obligations.TablesLoadAndTableOperations := by
  unfold Obligations.TablesLoadAndTableOperations
  refine ⟨fun n d q s h => ⟨fun f hop ho => ⟨fun hfull => ?_, fun k hq hk => ⟨slot_loadingState, fun st u v hr => ?_, fun bs v hr => ?_⟩⟩,
      fun f hop => ⟨fun hn => ?_, fun hy => ⟨fun st u v hr => ?_, fun bs v hr => ?_⟩⟩, fun f hop => ⟨fun hn => ?_, fun hh hnone => ?_⟩⟩,
    fun n d q s h => ⟨fun o f ho hf hop hc => ⟨fun hno => ?_, fun hfirst hb => ⟨fun e he => ?_, fun v he h0 hw => ?_, fun he h1 hh => ?_,
      fun he h1 hh => ?_⟩⟩, fun o r hr _ hop hc => ⟨fun hh => ?_, fun hh hl => ?_⟩, fun o ho hq hc => ⟨fun hop => ?_, fun hop => ?_⟩,
      fun o ho hq => ⟨?_, ?_⟩⟩⟩
  · exact (exec_tableLoadLoad h hop).trans (congrArg _ (loadTable_of_full ho hfull))
  · exact (exec_tableLoadLoad h hop).trans (congrArg _ ((loadTable_of_room ho hq hk).trans (loadRead_of_bad hr)))
  · exact (exec_tableLoadLoad h hop).trans (congrArg _ ((loadTable_of_room ho hq hk).trans (loadRead_of_ok hr)))
  · exact (exec_tableLoadReplace h hop).trans (congrArg _ (replaceTable_of_not hn))
  · exact (exec_tableLoadReplace h hop).trans (congrArg _ (replaceTable_of_bad hy hr))
  · exact ⟨_, exec_tableLoadReplace h hop, replaceTable_of_ok hy hr⟩
  · exact (exec_tableLoadFree h hop).trans (congrArg _ (freeTable_of_not hn))
  · exact ⟨_, exec_tableLoadFree h hop, freeTable_freeing hh hnone⟩
  · exact idles_of_work rfl h (loaderStep_of_not ho hf hno)
  · exact (exec_of_work rfl h).trans (congrArg _ ((loaderStep_of_first ho hf hop hc hfirst hb).1 e he))
  · exact (exec_of_work rfl h).trans (congrArg _ ((loaderStep_of_first ho hf hop hc hfirst hb).2.1 v he h0 hw))
  · exact (exec_of_work rfl h).trans (congrArg _ (((loaderStep_of_first ho hf hop hc hfirst hb).2.2 he (by omega)).trans (if_pos hh)))
  · exact (exec_of_work rfl h).trans (congrArg _ (((loaderStep_of_first ho hf hop hc hfirst hb).2.2 he (by omega)).trans
      (if_neg (by rw [hh]; decide))))
  · exact nextOp_of_free hr hop hc hh
  · exact nextOp_of_lost hr hop hc hh hl
  · exact (exec_tableReplaceComplete h ho).trans (congrArg _ (if_pos (by simp [hop, hc, hq])))
  · exact (exec_tableFreeComplete h ho).trans (congrArg _ (if_pos (by simp [hop, hc, hq])))
  · exact (exec_tableReplaceComplete h ho).trans (congrArg _ (if_neg (by simp [hq])))
  · exact (exec_tableFreeComplete h ho).trans (congrArg _ (if_neg (by simp [hq])))

end Sys2Proof.Machine
end

section
/-! PROOFS. Stack gates and mixing (O41; R296 to R323, R329 to R338). -/
namespace Sys2Proof.Machine

/-! ### The gates (R296, R297, R323) -/

section
variable {s : State} {g k : Nat}

theorem State.gate_setGate_same (s : State) (g : Nat) (v : SgUnit) : (s.setGate g v).gate g = v := mapGet_set_same _ _ _ _

theorem State.reach_setGate (s : State) (g : Nat) (v : SgUnit) (m : Master) (p : Nat) : (s.setGate g v).reach m p = s.reach m p := by
  cases m <;> rfl

theorem State.quarantined_setGate (s : State) (g : Nat) (v : SgUnit) (n p : Nat) : (s.setGate g v).quarantined n p = s.quarantined n p := rfl

/-- The gate with its next tag taken. -/
def tagTaken (s : State) (g : Nat) : State := s.setGate g { s.gate g with next := ((s.gate g).next + 1) % 4096 }

section
variable {m : Master} {unit p len : Nat} {ctx : Option Nat} {data : Option (List Byte)}

/-- The request does not come to the gate: it lies outside the gate's memory, or the master's queue is full. -/
def gateOut (s : State) (g : Nat) (m : Master) (p len : Nat) : Prop :=
  s.installed < p + len ∨ (s.gateOf (s.place m p)).1 ≠ g ∨
    s.rfld (rSgQlim g) 8 0 ≤ ((s.gate g).reqs.filter (fun r => r.m.number == m.number)).length

theorem gateRequest_of_out (h : gateOut s g m p len) : gateRequest g m unit ctx p len data s = s :=
  if_pos (by simpa [gateOut, or_assoc] using h)

section
variable (h : ¬ gateOut s g m p len)
include h

theorem gateRequest_of_unreached (hr : s.reach m p = false) : gateRequest g m unit ctx p len data s =
    ((tagTaken s g).noteDenied g m data.isSome p).gateAnswer g (s.gate g).next stDenied [] := by
  refine (if_neg (by simpa [gateOut, or_assoc] using h)).trans (if_pos ?_)
  rw [State.reach_setGate, hr]
  rfl

theorem gateRequest_of_quarantined {n : Nat} (hr : s.reach (.cab n) p = true) (hm : m = .cab n) (hq : s.quarantined n (s.place m p) = true) :
    gateRequest g m unit ctx p len data s =
      ((tagTaken s g).noteFail g { m := m, unit := unit, ctx := ctx } (s.place m p) .quarantined).2.gateAnswer g (s.gate g).next
        ((tagTaken s g).noteFail g { m := m, unit := unit, ctx := ctx } (s.place m p) .quarantined).1 [] := by
  subst hm
  refine (if_neg (by simpa [gateOut, or_assoc] using h)).trans ((if_neg ?_).trans (if_pos ?_))
  · rw [State.reach_setGate, hr]
    decide
  · exact hq

theorem gateRequest_of_joins (hr : s.reach m p = true) (hq : ∀ n, m = .cab n → s.quarantined n (s.place m p) = false) :
    gateRequest g m unit ctx p len data s = (tagTaken s g).setGate g { (tagTaken s g).gate g with
      reqs := ((tagTaken s g).gate g).reqs ++ [{ tag := (s.gate g).next, m := m, unit := unit, ctx := ctx, p := p, len := len, data := data,
                                                 since := s.now }] } := by
  refine (if_neg (by simpa [gateOut, or_assoc] using h)).trans ((if_neg ?_).trans (if_neg ?_))
  · rw [State.reach_setGate, hr]
    decide
  · cases m with
    | cab n => exact fun hc => absurd ((hq n rfl).symm.trans hc) (by decide)
    | _ => exact Bool.false_ne_true

end

theorem gate_tagTaken : (tagTaken s g).gate g = { s.gate g with next := ((s.gate g).next + 1) % 4096 } := State.gate_setGate_same _ _ _

end

/-! ### Cycles (R296) -/

theorem foldl_mapSet_mem {α : Type} [DecidableEq α] (d v : α) (k : Nat) : ∀ (l : List Nat) (m : FMap α), k ∈ l ∨ mapGet d k m = v →
    mapGet d k (l.foldl (fun m j => mapSet d j v m) m) = v
  | [], _, h => h.resolve_left List.not_mem_nil
  | j :: r, m, h => by
    refine foldl_mapSet_mem d v k r _ ?_
    rw [mapGet_set]
    by_cases hj : k = j
    · exact .inr (if_pos hj)
    · rw [if_neg hj]
      exact h.imp_left fun hk => (List.mem_cons.1 hk).resolve_left hj

/-- A master's run of waiting takes the first cycle it waits in as its origin. -/
theorem cycle_pace {v : SgUnit} {m : Nat} (hp : v.paused = false) (hm : m < 0x102) (hw : v.waiting m ≠ []) (hn : mapGet none m v.pace = none) :
    mapGet none m (v.cycle k).pace = some { k0 := k, g := 0 } := by
  simp only [SgUnit.cycle, hp, Bool.false_eq_true, if_false]
  refine foldl_mapSet_mem none _ m _ _ (.inl ?_)
  simp [List.mem_filter, hm, hw, hn]

theorem gateCycle_of_past (h : k < (s.gate g).cyc) : gateCycle g k s = s := if_pos h

theorem gateCycle_of_full (h : (s.gate g).cyc ≤ k) (hf : 8 ≤ ((s.gate g).cycle k).slots) :
    gateCycle g k s = s.setGate g ((s.gate g).cycle k) := (if_neg (Nat.not_lt.2 h)).trans (if_pos hf)

theorem gateCycle_of_none (h : (s.gate g).cyc ≤ k) (hf : ((s.gate g).cycle k).slots < 8)
    (hp : (s.setGate g ((s.gate g).cycle k)).gatePick g k = none) : gateCycle g k s = s.setGate g ((s.gate g).cycle k) := by
  refine (if_neg (Nat.not_lt.2 h)).trans ((if_neg (Nat.not_le.2 hf)).trans ?_)
  rw [hp]

theorem gateCycle_of_some {n : Nat} {floor : Bool} (h : (s.gate g).cyc ≤ k) (hf : ((s.gate g).cycle k).slots < 8)
    (hp : (s.setGate g ((s.gate g).cycle k)).gatePick g k = some (n, floor)) :
    gateCycle g k s = (s.setGate g ((s.gate g).cycle k)).gateGrant g n floor := by
  refine (if_neg (Nat.not_lt.2 h)).trans ((if_neg (Nat.not_le.2 hf)).trans ?_)
  rw [hp]

/-! ### Responses and intervals (R48, R310, R473) -/

theorem gateResponse_of_none {tag : Nat} {err : MemErr}
    (h : (s.gate g).reqs.find? (fun r => r.sent && r.tag == tag && r.held.isNone) = none) :
    gateResponse g tag err s = s.faultOn (uGate g) 6 none := by
  simp only [gateResponse, h]

theorem gateResponse_of_some {tag : Nat} {err : MemErr} {r : GateReq}
    (h : (s.gate g).reqs.find? (fun r => r.sent && r.tag == tag && r.held.isNone) = some r) (hs : s.ou.unitsStopped = false) :
    gateResponse g tag err s = s.gateComplete g r err := by
  simp only [gateResponse, h, hs, Bool.false_and, Bool.false_eq_true, if_false]

theorem intervalEnd_of_new (l : List Nat) (h : s.urg.interval < s.now / 1000 * 1000) :
    (intervalEnd l s).urg.interval = s.now / 1000 * 1000 ∧ (intervalEnd l s).fr.tx = [] ∧ (intervalEnd l s).fr.pace = [] := by
  unfold intervalEnd
  dsimp only
  rw [if_neg (Nat.not_le.2 h)]
  exact ⟨rfl, rfl, rfl⟩

end

/-! ### Re-mix (R330): caching a node leaves the majors as they are -/

section
variable {s : State}

theorem major_ite {c : Prop} [Decidable c] {a b : State} {x : FMap Nat} (ha : a.mix.major = x) (hb : b.mix.major = x) :
    (if c then a else b).mix.major = x := by
  split
  · exact ha
  · exact hb

theorem major_bump (off hi lo n : Nat) : (s.bump off hi lo n).mix.major = s.mix.major := by rw [State.bump_mix]

theorem major_charge (g : Nat) (w : Who) (n : Nat) : (s.charge g w n).mix.major = s.mix.major := by rw [State.charge_mix]

/-- A re-key of cabinet `n` begins: its key is drawn. -/
def rekeyDrawn (c : Cab) (n : Nat) (u : State) : State :=
  ({ u.newKey.2 with mix := { u.newKey.2.mix with
      rekeyWait := u.newKey.2.mix.rekeyWait.filter (fun m => m != n),
      rekey := mapSet none n (some { wm := 0, old := c.key }) u.newKey.2.mix.rekey } }).setCab n { c with key := some u.newKey.1 }

/-- The draw of a re-key's key waits for the random source. -/
def rekeyWaits (n : Nat) (u : State) : State :=
  { u with mix := { u.mix with rekeyWait := n :: u.mix.rekeyWait.filter (fun m => m != n) } }

theorem beginRekey_eq (n : Nat) : s.beginRekey n =
    if s.mix.healthy then rekeyDrawn (s.cab n) n (s.bump rMixGstat 63 48) else (rekeyWaits n s).bump rMixGstat 47 32 := rfl

/-- A re-key leaves the majors, the range under re-initialisation, the block key and the source's health. -/
theorem rekeyDrawn_mix (c : Cab) (n : Nat) (u : State) : (rekeyDrawn c n u).mix.major = u.mix.major ∧
    (rekeyDrawn c n u).mix.reinit = u.mix.reinit ∧ (rekeyDrawn c n u).mix.healthy = u.mix.healthy ∧
    (rekeyDrawn c n u).mix.blockKey = u.mix.blockKey ∧ (rekeyDrawn c n u).regs = u.regs := ⟨rfl, rfl, rfl, rfl, rfl⟩

theorem major_beginRekey (n : Nat) : (s.beginRekey n).mix.major = s.mix.major := by
  rw [beginRekey_eq]
  refine major_ite ?_ ?_
  · rw [(rekeyDrawn_mix _ _ _).1, major_bump]
  · rw [major_bump]
    rfl

theorem major_rekeyCheck (n v : Nat) : (s.rekeyCheck n v).mix.major = s.mix.major := by
  unfold State.rekeyCheck
  exact major_ite (major_ite rfl (major_beginRekey n)) rfl

theorem major_touchMeta (g : Nat) (w : Who) (k : MetaKey) (d : Bool) : (s.touchMeta g w k d).mix.major = s.mix.major := by
  unfold State.touchMeta
  dsimp only
  split
  · exact major_bump (rMdc g) 31 0 1
  · rw [major_charge, major_bump]
    exact major_bump (rMdc g) 31 0 1

theorem major_writeMeta (g : Nat) (k : MetaKey) : (s.writeMeta g k).mix.major = s.mix.major := by
  unfold State.writeMeta
  dsimp only
  split
  · rw [major_bump]
  · refine major_ite ?_ ?_
    · rw [major_charge, major_bump]
    · rw [major_rekeyCheck]
      split
      · rw [major_touchMeta]
        exact (major_charge ..).trans (major_bump ..)
      · exact (major_charge ..).trans (major_bump ..)

theorem major_evictMeta (g : Nat) : (s.evictMeta g).mix.major = s.mix.major := by
  have hdrop : ∀ (u : State) (e : MetaEntry), (u.dropMeta e).mix.major = u.mix.major := fun u e => by
    unfold State.dropMeta
    dsimp only
    split
    · rw [major_writeMeta]
    · rfl
  have hgo : ∀ (k : Nat) (u : State), (State.evictMeta.go g k u).mix.major = u.mix.major := by
    intro k
    induction k with
    | zero => exact fun _ => rfl
    | succ k ih =>
      intro u
      unfold State.evictMeta.go
      split
      · rw [ih, hdrop]
      · rfl
  exact hgo 64 s

theorem remixGroup_ended (grp : Nat) : grp ∉ (s.remixGroup grp).mix.remix ∧
    mapGet 0 grp (s.remixGroup grp).mix.major = mapGet 0 grp s.mix.major + 1 := by
  unfold State.remixGroup
  dsimp only
  refine ⟨by simp, ?_⟩
  rw [mapGet_set_same]
  split
  · split
    · rw [major_evictMeta, major_touchMeta, major_charge]
    · rw [major_charge]
  · rfl

/-! ### Re-keys, draws and re-initialised ranges (R319, R331, R337) -/

theorem rekeyChunk_of_none {n : Nat} (h : mapGet none n s.mix.rekey = none) : rekeyChunk n s = s := by
  simp only [rekeyChunk, h]

theorem rekeyChunk_of_some {n : Nat} {r : Rekey} (h : mapGet none n s.mix.rekey = some r) :
    mapGet none n (rekeyChunk n s).mix.rekey = if (s.cab n).conf.size ≤ r.wm + 65536 then none else some { r with wm := r.wm + 65536 } := by
  simp only [rekeyChunk, h]
  by_cases hw : (s.cab n).conf.size ≤ r.wm + 65536
  · rw [if_pos hw, if_pos hw, mapGet_set_same]
  · rw [if_neg hw, if_neg hw, mapGet_set_same]

/-- The random source is healthy and the block key is drawn. -/
def drawn (s : State) : Prop := s.mix.healthy = true ∧ s.mix.blockKey.isSome = true

theorem drawn_of_mix {t : State} (h : t.mix = s.mix) (hs : drawn s) : drawn t := by
  rw [drawn, h]
  exact hs

theorem drawn_drawBlockKey (h : s.mix.healthy = true) : drawn s.drawBlockKey := by
  unfold State.drawBlockKey
  by_cases hk : s.mix.blockKey.isSome = true
  · rw [if_pos hk]
    exact ⟨h, hk⟩
  · rw [if_neg hk, if_pos h]
    exact ⟨h, rfl⟩

theorem drawn_drawKey (n : Nat) (h : drawn s) : drawn (s.drawKey n) := by
  unfold State.drawKey
  dsimp only
  rw [if_pos h.1]
  exact drawn_of_mix (State.setCab_mix ..) h

theorem drawn_beginRekey (n : Nat) (h : drawn s) : drawn (s.beginRekey n) := by
  obtain ⟨-, -, hhealthy, hkey, -⟩ := rekeyDrawn_mix (s.cab n) n (s.bump rMixGstat 63 48)
  rw [beginRekey_eq, if_pos h.1, drawn, hhealthy, hkey, State.bump_mix]
  exact h

theorem drawn_chalAnswer (who : Nat) (h : drawn s) : drawn (s.chalAnswer who) :=
  drawn_of_mix ((kept_State_chalAnswer (m := 16384) (by decide) (.refl _ _)).mix rfl) h

theorem drawn_foldl {α : Type} {f : State → α → State} (hf : ∀ u x, drawn u → drawn (f u x)) (l : List α) (h : drawn s) : drawn (l.foldl f s) := by
  induction l generalizing s with
  | nil => exact h
  | cons x r ih => exact ih (hf s x h)

theorem drawn_keyDraw : drawn (keyDraw true s) := by
  refine drawn_foldl (fun _ x => drawn_chalAnswer x) _ ?_
  refine drawn_of_mix (s := List.foldl (fun s n => s.beginRekey n) _ _) rfl ?_
  exact drawn_foldl (fun _ x => drawn_beginRekey x) _ (drawn_foldl (fun _ x => drawn_drawKey x) _ (drawn_drawBlockKey rfl))

theorem reg_of_regs {t : State} (h : s.regs = t.regs) (off : Nat) : s.reg off = t.reg off := by
  rw [State.reg, State.reg, h]

theorem reg_beginRekey {off : Nat} (n : Nat) (h : off ≠ rMixGstat) : (s.beginRekey n).reg off = s.reg off := by
  obtain ⟨-, -, -, -, hregs⟩ := rekeyDrawn_mix (s.cab n) n (s.bump rMixGstat 63 48)
  rw [beginRekey_eq]
  split
  · rw [reg_of_regs hregs, reg_bump_other h]
  · rw [reg_bump_other h]
    rfl

theorem reg_rekeyStart {off : Nat} (n : Nat) (h : off ≠ rMixGstat) : (s.rekeyStart n).reg off = s.reg off := by
  unfold State.rekeyStart
  split
  · exact reg_beginRekey n h
  · rfl

theorem reinit_rekeyStart (n : Nat) : (s.rekeyStart n).mix.reinit = s.mix.reinit := by
  have hbegin : ∀ u : State, (u.beginRekey n).mix.reinit = u.mix.reinit := fun u => by
    obtain ⟨-, hreinit, -⟩ := rekeyDrawn_mix (u.cab n) n (u.bump rMixGstat 63 48)
    rw [beginRekey_eq]
    split
    · rw [hreinit, State.bump_mix]
    · rw [State.bump_mix]
      rfl
  unfold State.rekeyStart
  split
  · exact hbegin _
  · rfl

/-- READY and ERR of a result register after a command has ended with a code below 16. -/
theorem result_ready (res v : Nat) {err : Nat} (he : err < 16) :
    (s.result res err v).rfld res 63 63 = 1 ∧ (s.result res err v).rfld res 59 56 = err := by
  have hlost := s.rfld_lt res 62 62
  rw [State.rfld, State.rfld, result_reg]
  simp only [pack, List.foldl, fld, bitsOf, BitVec.toNat_ofNat]
  omega

theorem reinitDone_of_none (h : s.mix.reinit = none) : reinitDone s = s := by
  simp only [reinitDone, h]

theorem reinitDone_of_some {n a l : Nat} (h : s.mix.reinit = some (n, a, l)) : (reinitDone s).mix.reinit = none ∧
    (reinitDone s).rfld rRiResult 63 63 = 1 ∧ (reinitDone s).rfld rRiResult 59 56 = 0 := by
  have hends : ∀ u : State, u.mix.reinit = none → (((u.touchDev a l).result rRiResult errNone 0).rekeyStart n).mix.reinit = none ∧
      (((u.touchDev a l).result rRiResult errNone 0).rekeyStart n).rfld rRiResult 63 63 = 1 ∧
      (((u.touchDev a l).result rRiResult errNone 0).rekeyStart n).rfld rRiResult 59 56 = 0 := fun u hu => by
    rw [State.rfld, State.rfld, reg_rekeyStart n (by decide), reinit_rekeyStart, State.result_mix, State.touchDev_mix]
    exact ⟨hu, result_ready rRiResult 0 (by decide)⟩
  unfold reinitDone
  rw [h]
  dsimp only
  refine hends _ ?_
  dsimp only

/-- The checks of MIX_REINIT. -/
theorem mixCmd_reinit {u : State} (h : s.accept rRiResult = some u) : s.mixCmd 1 =
    if (u.cab (u.rfld (rRiArg 0) 7 0)).st ≠ .live ∨ mapGet none (u.rfld (rRiArg 0) 7 0) u.mix.rekey ≠ none then u.result rRiResult errState 0
    else if u.rfld (rRiArg 1) 43 13 * 8192 = 0 ∨ ∀ r ∈ (u.cab (u.rfld (rRiArg 0) 7 0)).conf.ranges,
        ¬ (r.2.1 ≤ u.rfld (rRiArg 0) 43 13 * 8192 ∧ u.rfld (rRiArg 0) 43 13 * 8192 + u.rfld (rRiArg 1) 43 13 * 8192 ≤ r.2.1 + r.2.2) then
      u.result rRiResult errArg 0
    else { u with mix := { u.mix with
      reinit := some (u.rfld (rRiArg 0) 7 0, u.rfld (rRiArg 0) 43 13 * 8192, u.rfld (rRiArg 1) 43 13 * 8192) } } := by
  have hlive : (((u.cab (u.rfld (rRiArg 0) 7 0)).st != .live || (mapGet none (u.rfld (rRiArg 0) 7 0) u.mix.rekey).isSome) = true) ↔
      (u.cab (u.rfld (rRiArg 0) 7 0)).st ≠ .live ∨ mapGet none (u.rfld (rRiArg 0) 7 0) u.mix.rekey ≠ none := by
    simp [Option.isSome_iff_ne_none]
  unfold State.mixCmd
  rw [if_neg (by decide), h]
  dsimp only
  rw [if_neg (by decide)]
  refine ite_of_iff hlive rfl (ite_of_iff ?_ rfl rfl)
  simp

end

section
variable {s : State} {g : Sys2Proof.GateId}

theorem exec_stackGateRequest {m : Master} {u : Sys2Proof.UnitId} {c : Option Sys2Proof.CtxId} {p len : Nat} {data : Option (List Byte)}
    (hwf : gateReqWf m p len data = true) (hcore : s.coreUp = true) (hg : g.val < s.gateCount) (hr : s.resetting (uGate g.val) = false)
    (hs : s.stopServes m p data.isSome = true) : exec (.stackGateRequest g m u c p len data) s =
    .next (gateRequest g.val m u.val (c.map (·.val)) p len data s) :=
  (if_pos hwf).trans (congrArg _ (if_pos (by simp [hcore, hg, hr, hs])))

theorem exec_gateGrant {k : Nat} (hcore : s.coreUp = true) (hr : s.resetting (uGate g.val) = false) :
    exec (.gateGrant g k) s = .next (gateCycle g.val k s) := congrArg _ (if_pos (by simp [hcore, hr]))

theorem exec_stackGateResponse {tag : Fin 4096} {err : MemErr} (hcore : s.coreUp = true) (hg : g.val < s.gateCount) :
    exec (.stackGateResponse g tag err) s = .next (gateResponse g.val tag.val err s) := congrArg _ (if_pos (by simp [hcore, hg]))

theorem exec_groupRemixComplete (grp : Nat) : exec (.groupRemixComplete grp) s =
    .next (if !s.frozen && s.mix.remix.contains grp then s.remixGroup grp else s) := rfl

theorem exec_rekeyChunkConverted (n : Sys2Proof.CabId) (hf : s.frozen = false) :
    exec (.rekeyChunkConverted n) s = .next (rekeyChunk n.val s) := congrArg Host.Outcome.next (if_neg (by rw [hf]; decide))

theorem exec_floorIntervalEnd (l : List Nat) (hcore : s.coreUp = true) : exec (.floorIntervalEnd l) s = .next (intervalEnd l s) :=
  congrArg Host.Outcome.next (if_pos hcore)

theorem exec_keyDraw (h : Bool) (hcore : s.coreUp = true) : exec (.keyDraw h) s = .next (keyDraw h s) :=
  congrArg Host.Outcome.next (if_pos hcore)

theorem exec_mixReinitComplete (hf : s.frozen = false) : exec .mixReinitComplete s = .next (reinitDone s) :=
  congrArg Host.Outcome.next (if_neg (by rw [hf]; decide))

end

/-- Settles O41. -/
theorem gatesAndMixing : Obligations.GatesAndMixing := by
  unfold Obligations.GatesAndMixing
  refine ⟨⟨?requests, ?cycles, fun g tag err s hcore hg => ⟨fun hnone => ?_, fun r hsome hs => ?_⟩, fun l s hcore => ⟨fun hold => ?_, fun hnew => ?_⟩⟩,
    fun s => ⟨fun hf => ⟨fun grp hgrp => ?_, fun grp hgrp => ?_, fun n hn => ?_, fun n r hr => ?_, fun hn => ?_, fun n a l hs => ?_⟩,
      fun h hcore => ?draw, fun u htake => ?reinit⟩⟩
  case requests =>
    intro g m u c p len data s hwf hcore hg hr hs v out
    refine ⟨fun hout => ?_, fun hout hreach => ?_, fun k hout hreach hm hq => ?_, fun hout hreach hq => ?_⟩
    · exact (exec_stackGateRequest hwf hcore hg hr hs).trans (congrArg _ (gateRequest_of_out hout))
    · exact (exec_stackGateRequest hwf hcore hg hr hs).trans (congrArg _ (gateRequest_of_unreached hout hreach))
    · exact (exec_stackGateRequest hwf hcore hg hr hs).trans (congrArg _ (gateRequest_of_quarantined hout (hm ▸ hreach) hm hq))
    · refine ⟨_, (exec_stackGateRequest hwf hcore hg hr hs).trans (congrArg _ (gateRequest_of_joins hout hreach hq)), ?_⟩
      dsimp only
      rw [State.gate_setGate_same, gate_tagTaken]
      exact ⟨rfl, rfl⟩
  case cycles =>
    intro g k s hcore hr v w u
    refine ⟨rfl, rfl, fun m hp hm hw hn => cycle_pace hp hm hw hn, fun hk => ?_, fun hk hfull => ?_, fun hk hroom hnone => ?_, fun n floor hk hroom hsome => ?_⟩
    · exact (exec_gateGrant hcore hr).trans (congrArg _ (gateCycle_of_past hk))
    · exact (exec_gateGrant hcore hr).trans (congrArg _ (gateCycle_of_full hk hfull))
    · exact (exec_gateGrant hcore hr).trans (congrArg _ (gateCycle_of_none hk hroom hnone))
    · exact (exec_gateGrant hcore hr).trans (congrArg _ (gateCycle_of_some hk hroom hsome))
  · exact (exec_stackGateResponse hcore hg).trans (congrArg _ (gateResponse_of_none hnone))
  · exact (exec_stackGateResponse hcore hg).trans (congrArg _ (gateResponse_of_some hsome hs))
  · exact (exec_floorIntervalEnd l hcore).trans (congrArg _ (if_pos hold))
  · exact ⟨_, exec_floorIntervalEnd l hcore, intervalEnd_of_new l hnew⟩
  · exact ⟨_, (exec_groupRemixComplete grp).trans (congrArg _ (if_pos (by simp [hf, hgrp]))), remixGroup_ended grp⟩
  · exact (exec_groupRemixComplete grp).trans (congrArg _ (if_neg (by simp [hgrp])))
  · exact (exec_rekeyChunkConverted n hf).trans (congrArg _ (rekeyChunk_of_none hn))
  · exact ⟨_, exec_rekeyChunkConverted n hf, rekeyChunk_of_some hr⟩
  · exact (exec_mixReinitComplete hf).trans (congrArg _ (reinitDone_of_none hn))
  · exact ⟨_, exec_mixReinitComplete hf, reinitDone_of_some hs⟩
  case draw =>
    refine ⟨_, exec_keyDraw h hcore, ?_⟩
    cases h with
    | true => exact ⟨drawn_keyDraw.1, fun _ => drawn_keyDraw.2, fun hc => absurd hc (by decide)⟩
    | false => exact ⟨rfl, fun hc => absurd hc (by decide), fun _ => rfl⟩
  case reinit =>
    intro n a l bad out
    have hexec : exec (.mixReinit 0) s = .next ((s.wakeBlock 1).mixCmd 1) :=
      exec_of_mayReach (g := fun s => s.mixCmd 1) rfl htake.1
    refine ⟨fun hbad => ?_, fun hbad hout => ?_, fun hbad hout => ?_⟩
    · exact hexec.trans (congrArg _ ((mixCmd_reinit htake.2).trans (if_pos hbad)))
    · exact hexec.trans (congrArg _ ((mixCmd_reinit htake.2).trans ((if_neg hbad).trans (if_pos hout))))
    · exact hexec.trans (congrArg _ ((mixCmd_reinit htake.2).trans ((if_neg hbad).trans (if_neg hout))))

end Sys2Proof.Machine
end

section
/-! PROOFS. Why O45 fails: an UNREACH leaves at the pace of the router's own traffic (R299, R355). -/
namespace Sys2Proof.Machine

/-- The first byte time of the injection stage that the command leaves free. -/
def stageAfter : Host.Outcome State Fault Refusal → Nat
  | .next t => t.fr.stage
  | _ => 0

/-- A ring of 16 nodes in dimension 0, of which this chip is node 0 and port 0 leads to node 1. -/
def ringed : State :=
  let s := (oneLive.setReg rFrNode 0).setReg rFrCfg (pack [(8, 1), (16, 15), (0, 1)])
  { s with fr := { s.fr with ports := [(0, { st := .up, node := 1 })] } }

/-- A request of node 1 for a node that no route reaches. -/
def stray : Sys2Proof.Packet := { ty := ptWrite, src := 1, dst := 16, phase := 2, srcCab := 4 }

/-- The state once the request is counted as dropped for want of a route. -/
def strayed : State := ((ringed.carry (uPort 0) (if stray.job = 0 then none else ringed.jobCab stray.job) stray.size).bump rFrCnt 63 48)

/-- Refutes O45: the dropped request's UNREACH takes its 32 bytes of the injection stage (R299), while the statement sends it
without a pace and leaves the stage as it was. -/
theorem not_transitAbortsAndMarkers : ¬ Obligations.TransitAbortsAndMarkers := by
  unfold Obligations.TransitAbortsAndMarkers
  rintro ⟨htransit, -, -⟩
  obtain ⟨hroute, -, -⟩ := htransit 0 stray ringed (by decide +kernel) (by decide +kernel) (by decide +kernel)
  obtain ⟨-, -, -, hlost⟩ := hroute (by decide +kernel) (by decide +kernel)
  have hsent : exec (.fabricTransit (some 0) stray) ringed = .next (strayed.portSend 0 (unreachOf strayed.node stray)) :=
    hlost 0 (unreachOf strayed.node stray) false (by decide +kernel) (by decide +kernel) (by decide +kernel)
  have hstage : stageAfter (exec (.fabricTransit (some 0) stray) ringed) ≠
      stageAfter (.next (strayed.portSend 0 (unreachOf strayed.node stray))) := by decide +kernel
  exact hstage (congrArg stageAfter hsent)

end Sys2Proof.Machine
end

section
/-! PROOFS. Inbound accesses, replies and remote signals (O46; R97, R105, R106, R197, R345, R356, R360). -/
namespace Sys2Proof.Machine

/-! ### Packets that come to be handled -/

section
variable {s u v : State} {port : Option Sys2Proof.PortId} {p : Sys2Proof.Packet} {n : Nat}

/-- A packet that comes to be handled is handled. -/
theorem receive_of_reaches (h : s.reaches port p v) (f : State → State) : s.receive port p f = f v := by
  obtain ⟨-, hreset, hport⟩ := h
  cases port with
  | none =>
    obtain ⟨hfrozen, hhere, rfl⟩ := hport
    simp only [State.receive, hfrozen, hreset, hhere, Bool.false_and, Bool.false_eq_true, if_false, if_true]
  | some q =>
    obtain ⟨hup, hstop, rfl⟩ := hport
    have hcarry : ∀ (a : Nat) (b : Option Nat) (c : Nat), (s.carry a b c).portsStopped = s.portsStopped := fun a b c => by
      rw [State.portsStopped, (kept_State_carry (m := 131072) (by decide) (.refl _ _)).ou rfl, State.portsStopped]
    simp only [State.receive, Option.isNone_some, Bool.and_false, Bool.false_eq_true, if_false, Port.upHeld, hup, beq_self_eq_true,
      Bool.true_or, if_true, hcarry, hstop]
    rfl

theorem packetHere_of_hears {ty : Nat} {f : Option Nat → Sys2Proof.Packet → State → State} (h : s.hears port p n u) (hty : p.ty = ty) :
    ∃ v, v.arrives (port.map (·.val)) p = (some n, u) ∧ packetHere port p ty f s = .next (f (port.map (·.val)) p v) := by
  obtain ⟨v, hreach, harrive⟩ := h
  refine ⟨v, harrive, congrArg _ ((if_pos ?_).trans (receive_of_reaches hreach _))⟩
  rw [hty, hreach.1]
  simp

/-! ### WRITE and READ (R345, R356) -/

section
variable {q : Option Nat} (h : s.arrives q p = (some n, u))
include h

/-- The acknowledgement's payload: the request ID. -/
def ackBody (p : Sys2Proof.Packet) : List Sys2Proof.Byte := toLe 12 0 ++ toLe 4 (reqId p)

/-- The bytes of an inbound WRITE. -/
def writeData (p : Sys2Proof.Packet) : List Sys2Proof.Byte := (p.payload.drop 16).take (leAt p.payload 8 4)

theorem onWrite_of_far (hva : 2 ^ 57 < leAt p.payload 0 8 + (writeData p).length) :
    onWrite q p s = u.reply n p ptWack stXlate (ackBody p) := by
  simp only [onWrite, h]
  exact if_pos hva

theorem onWrite_of_ok (hva : leAt p.payload 0 8 + (writeData p).length ≤ 2 ^ 57)
    (hw : u.vaWrite (inboundAsker n (u.jobCtx n) p true) (leAt p.payload 0 8) (writeData p) = (.ok (), v)) :
    onWrite q p s = v.reply n p ptWack stDone (ackBody p) := by
  rw [writeData] at hw
  simp only [onWrite, h, hw]
  exact if_neg (Nat.not_lt.2 hva)

theorem onWrite_of_bad {st w : Nat} (hva : leAt p.payload 0 8 + (writeData p).length ≤ 2 ^ 57)
    (hw : u.vaWrite (inboundAsker n (u.jobCtx n) p true) (leAt p.payload 0 8) (writeData p) = (.bad st w, v)) :
    onWrite q p s = v.reply n p ptWack st (ackBody p) := by
  rw [writeData] at hw
  simp only [onWrite, h, hw]
  exact if_neg (Nat.not_lt.2 hva)

theorem onRead_of_far (hva : 2 ^ 57 < leAt p.payload 0 8 + leAt p.payload 8 4) :
    onRead q p s = u.reply n p ptRdata stXlate (ackBody p) := by
  simp only [onRead, h]
  rw [if_pos hva, List.append_nil]
  rfl

theorem onRead_of_ok {bs : List Sys2Proof.Byte} (hva : leAt p.payload 0 8 + leAt p.payload 8 4 ≤ 2 ^ 57)
    (hr : u.vaRead (inboundAsker n (u.jobCtx n) p false) (leAt p.payload 0 8) (leAt p.payload 8 4) = (.ok bs, v)) :
    onRead q p s = v.reply n p ptRdata stDone (ackBody p ++ bs) := by
  simp only [onRead, h, hr]
  exact if_neg (Nat.not_lt.2 hva)

theorem onRead_of_bad {st w : Nat} (hva : leAt p.payload 0 8 + leAt p.payload 8 4 ≤ 2 ^ 57)
    (hr : u.vaRead (inboundAsker n (u.jobCtx n) p false) (leAt p.payload 0 8) (leAt p.payload 8 4) = (.bad st w, v)) :
    onRead q p s = v.reply n p ptRdata st (ackBody p) := by
  simp only [onRead, h, hr]
  rw [if_neg (Nat.not_lt.2 hva), List.append_nil]
  rfl

/-! ### WACK and RDATA (R197, R345) -/

theorem onReply_of_none (hr : u.repliedTo n p (reqId p) = none) : onReply q p s = u := by
  simp only [onReply, h, hr]

section
variable {r : RemoteReq} (hr : u.repliedTo n p (reqId p) = some r) {t tag : Nat}
include hr

theorem onReply_of_write (hty : p.ty = ptWack) (hw : r.work = .write t tag) : onReply q p s =
    if p.status = stDone then (if ((u.dropRemote r.id).tileMoves t).sameWrite r = [] then
      ((u.dropRemote r.id).tileMoves t).emit (.tileWrite t tag stDone) else (u.dropRemote r.id).tileMoves t)
    else (((u.dropWrite r).tileMoves t).noteErr r.owner r.ord p.status uRouter).emit (.tileWrite t tag p.status) := by
  simp only [onReply, h, hr, hw, hty, bne_self_eq_false, Bool.false_eq_true, if_false]
  by_cases hst : p.status = stDone
  · simp only [if_pos hst]
  · simp only [if_neg hst]

theorem onReply_of_read (hty : p.ty = ptRdata) (hw : r.work = .read t tag) : onReply q p s =
    if p.status = stDone then ((u.dropRemote r.id).tileMoves t).emit (.tileRead t tag stDone ((p.payload.drop 16).take r.len))
    else (((u.dropRemote r.id).tileMoves t).noteErr r.owner r.ord p.status uRouter).emit (.tileRead t tag p.status []) := by
  simp only [onReply, h, hr, hw, hty, bne_self_eq_false, Bool.false_eq_true, if_false]

end

/-! ### Fence signals (R97, R105, R106) -/

/-- The acknowledgement of a fence signal. -/
def sackBody (p : Sys2Proof.Packet) : List Sys2Proof.Byte := toLe 4 0 ++ toLe 4 (signalId p) ++ toLe 8 0

/-- A refused signal, counted. -/
def signalDenied (n : Nat) (p : Sys2Proof.Packet) (u : State) : State :=
  ((u.bump (rLatStat n) 15 0).bump rLatGstat 15 0).reply n p ptSack stDenied (sackBody p)

theorem onSignal_of_none (hk : u.exporter n (leAt p.payload 0 4 % 4096) = none) : onSignal q p s = signalDenied n p u := by
  simp only [onSignal, h, hk]
  rfl

theorem onSignal_of_large {k : Nat} (hk : u.exporter n (leAt p.payload 0 4 % 4096) = some k) (hv : 2 ^ 63 - 2 < leAt p.payload 8 8) :
    onSignal q p s = signalDenied n p u := by
  simp only [onSignal, h, hk]
  exact if_pos hv

theorem onSignal_of_ok {k : Nat} (hk : u.exporter n (leAt p.payload 0 4 % 4096) = some k) (hv : leAt p.payload 8 8 ≤ 2 ^ 63 - 2)
    (hs : u.signalFence (latAsker n (u.latch k).ctx) (u.obj (u.latch k).obj).base (leAt p.payload 8 8) = (.ok (), v)) :
    onSignal q p s = (v.setLatch k { v.latch k with dirty := true }).reply n p ptSack stDone (sackBody p) := by
  simp only [onSignal, h, hk, hs]
  exact if_neg (Nat.not_lt.2 hv)

theorem onSack_of_none (hr : u.repliedTo n p (signalId p) = none) : onSack q p s = u := by
  simp only [onSack, h, hr]

theorem onSack_of_signal {r : RemoteReq} {d k : Nat} (hr : u.repliedTo n p (signalId p) = some r) (hw : r.work = .signal d k) :
    onSack q p s = (u.dropRemote r.id).endFlight n d k
      (if p.status = stDone then { status := stDone } else { status := p.status, unit := some uRouter }) := by
  simp only [onSack, h, hr, hw]

end

end

section
variable {s : State} {n : Sys2Proof.CabId} {d : Sys2Proof.DrawerId} {q : Sys2Proof.Seq} {f : Flight}

theorem exec_signalRemote (h : s.serves uLatch) (hop : s.issuedOp n.val d.val q.val 0x30 = some f) (hr : leAt f.body 0 1 = 1) :
    exec (.signalRemote n d q) s = .next (signalRemote f s) := by
  refine (exec_of_work rfl h).trans (congrArg _ ?_)
  simp only [hop, hr, if_true]

theorem exec_remoteSignalTimeout {r : RemoteReq} (h : s.serves uLatch)
    (hr : s.fr.reqs.find? (fun r => r.cab == n.val && r.work == .signal d.val q.val) = some r) :
    exec (.remoteSignalTimeout n d q) s = .next (if r.deadline ≤ s.mono then s.endRemote r stTimeout uRouter else s) := by
  refine (exec_of_work rfl h).trans (congrArg _ ?_)
  simp only [hr]

end

/-- Settles O46. -/
theorem remoteAccessesAndSignals : Obligations.RemoteAccessesAndSignals := by
  unfold Obligations.RemoteAccessesAndSignals
  refine ⟨fun port p n s u v h => ?accesses, fun port p n s u h => ?replies, fun n d q s h => ?remote, fun port p n s u v h => ?signals⟩
  case accesses =>
    refine ⟨fun hty => ?_, fun hty => ?_⟩
    · obtain ⟨w, harrive, hexec⟩ := packetHere_of_hears (f := onWrite) h hty
      exact ⟨fun hva => hexec.trans (congrArg _ (onWrite_of_far harrive hva)),
        fun hva hw => hexec.trans (congrArg _ (onWrite_of_ok harrive hva hw)),
        fun _ _ hva hw => hexec.trans (congrArg _ (onWrite_of_bad harrive hva hw))⟩
    · obtain ⟨w, harrive, hexec⟩ := packetHere_of_hears (f := onRead) h hty
      exact ⟨fun hva => hexec.trans (congrArg _ (onRead_of_far harrive hva)),
        fun _ hva hr => hexec.trans (congrArg _ (onRead_of_ok harrive hva hr)),
        fun _ _ hva hr => hexec.trans (congrArg _ (onRead_of_bad harrive hva hr))⟩
  case replies =>
    refine ⟨fun hty hr => ?_, fun r t tag hr => ⟨fun hty hw hst hrest => ?_, fun hty hw hst => ?_, fun hty hw hst => ?_, fun hty hw hst => ?_⟩⟩
    · by_cases hwack : p.ty = ptWack
      · rw [if_pos hwack]
        obtain ⟨w, harrive, hexec⟩ := packetHere_of_hears (f := onReply) h hwack
        exact hexec.trans (congrArg _ (onReply_of_none harrive hr))
      · have hrdata : p.ty = ptRdata := by
          simp only [List.mem_cons, List.not_mem_nil, or_false] at hty
          exact hty.resolve_left hwack
        rw [if_neg hwack]
        obtain ⟨w, harrive, hexec⟩ := packetHere_of_hears (f := onReply) h hrdata
        exact hexec.trans (congrArg _ (onReply_of_none harrive hr))
    · obtain ⟨w, harrive, hexec⟩ := packetHere_of_hears (f := onReply) h hty
      exact hexec.trans (congrArg _ ((onReply_of_write harrive hr hty hw).trans ((if_pos hst).trans (if_pos hrest))))
    · obtain ⟨w, harrive, hexec⟩ := packetHere_of_hears (f := onReply) h hty
      exact hexec.trans (congrArg _ ((onReply_of_write harrive hr hty hw).trans (if_neg hst)))
    · obtain ⟨w, harrive, hexec⟩ := packetHere_of_hears (f := onReply) h hty
      exact hexec.trans (congrArg _ ((onReply_of_read harrive hr hty hw).trans (if_pos hst)))
    · obtain ⟨w, harrive, hexec⟩ := packetHere_of_hears (f := onReply) h hty
      exact hexec.trans (congrArg _ ((onReply_of_read harrive hr hty hw).trans (if_neg hst)))
  case remote =>
    refine ⟨fun f hop hone => ⟨fun hjob => ?_, fun hjob => ?_⟩, fun r hr => ⟨fun hearly => ?_, fun hlate => ?_⟩⟩
    · exact (exec_signalRemote h hop hone).trans (congrArg _ (if_pos (by rw [hjob]; rfl)))
    · exact (exec_signalRemote h hop hone).trans (congrArg _ (if_neg (by rw [hjob]; decide)))
    · exact (exec_remoteSignalTimeout h hr).trans (congrArg _ (if_neg (Nat.not_le.2 hearly)))
    · exact (exec_remoteSignalTimeout h hr).trans (congrArg _ (if_pos hlate))
  case signals =>
    refine ⟨fun hty => ?_, fun hty => ?_⟩
    · obtain ⟨w, harrive, hexec⟩ := packetHere_of_hears (f := onSignal) h hty
      exact ⟨fun hk => hexec.trans (congrArg _ (onSignal_of_none harrive hk)),
        fun _ hk hv => hexec.trans (congrArg _ (onSignal_of_large harrive hk hv)),
        fun _ hk hv hs => hexec.trans (congrArg _ (onSignal_of_ok harrive hk hv hs))⟩
    · obtain ⟨w, harrive, hexec⟩ := packetHere_of_hears (f := onSack) h hty
      exact ⟨fun hr => hexec.trans (congrArg _ (onSack_of_none harrive hr)),
        fun _ _ _ hr hw => hexec.trans (congrArg _ (onSack_of_signal harrive hr hw))⟩

end Sys2Proof.Machine
end

section
/-! PROOFS. Job tags, job keys and FR_ABORT (O47; R358 to R361). -/
namespace Sys2Proof.Machine

/-! ### A write of FR_JOB (R358, R359) -/

/-- VALID apart, the fields of a written word. -/
theorem fld_setFld_valid (v : Word) (k : Nat) : fld (setFld v 32 32 k) 33 33 = fld v 33 33 ∧
    fld (setFld v 32 32 k) 29 16 = fld v 29 16 ∧ fld (setFld v 32 32 k) 15 0 = fld v 15 0 := by
  have hv := v.isLt
  simp only [setFld, fld, bitsOf, BitVec.toNat_ofNat]
  omega

theorem fld_setFld_txkey (v : Word) (k : Nat) : fld (setFld v 33 33 k) 32 32 = fld v 32 32 := by
  have hv := v.isLt
  simp only [setFld, fld, bitsOf, BitVec.toNat_ofNat]
  omega

theorem setFld_txkey_self (v : Word) : setFld v 33 33 (fld v 33 33) = v := by
  have hv := v.isLt
  apply BitVec.eq_of_toNat_eq
  simp only [setFld, fld, bitsOf, BitVec.toNat_ofNat]
  omega

theorem setRfld_txkey_reg (s : State) (off : Nat) : (s.setRfld off 33 33 (s.rfld off 33 33)).reg off = s.reg off :=
  (State.reg_setReg_same _ _ _).trans (setFld_txkey_self _)

section
variable {s : State} {n : Nat} {v : Word}

/-- The state a write of FR_JOB leaves while VALID is 0, TXKEY and the tag being kept. -/
def tagStored (s : State) (n : Nat) (v : Word) : State :=
  s.setReg (rFrJob n) (pack [(33, fld v 33 33), (16, fld v 29 16), (0, fld v 15 0)])

theorem jobWrite_set_of_valid (hv : s.jobValid n = true) (hk : s.rfld (rFrJob n) 33 33 = fld v 33 33) :
    s.jobWrite n (setFld v 32 32 1) = s.setRfld (rFrJob n) 33 33 (fld v 33 33) := by
  obtain ⟨h33, -, -⟩ := fld_setFld_valid v 1
  have h32 : fld (setFld v 32 32 1) 32 32 = 1 := fld_setFld_same (by decide) (by decide) v 1
  simp only [State.jobWrite, hv, h33, h32, hk, bne_self_eq_false, if_true, Nat.one_ne_zero, if_false, Bool.false_eq_true]

theorem jobWrite_clear_of_valid (hv : s.jobValid n = true) (hk : s.rfld (rFrJob n) 33 33 = fld v 33 33) :
    s.jobWrite n (setFld v 32 32 0) = (s.clearTag n).setRfld (rFrJob n) 33 33 (fld v 33 33) := by
  obtain ⟨h33, -, -⟩ := fld_setFld_valid v 0
  have h32 : fld (setFld v 32 32 0) 32 32 = 0 := fld_setFld_same (by decide) (by decide) v 0
  simp only [State.jobWrite, hv, h33, h32, hk, bne_self_eq_false, if_true, if_false, Bool.false_eq_true]

theorem jobWrite_set_of_invalid (hv : s.jobValid n = false) (hk : s.rfld (rFrJob n) 33 33 = fld v 33 33)
    (ht : fld v 15 0 = s.jobTag n) : s.jobWrite n (setFld v 32 32 1) =
      if (tagStored s n v).tagAllowed n then (tagStored s n v).setRfld (rFrJob n) 32 32 1 else tagStored s n v := by
  obtain ⟨h33, h16, h0⟩ := fld_setFld_valid v 1
  have h32 : fld (setFld v 32 32 1) 32 32 = 1 := fld_setFld_same (by decide) (by decide) v 1
  simp only [State.jobWrite, hv, h33, h16, h0, h32, hk, ht, tagStored, bne_self_eq_false, if_true, if_false, Bool.false_eq_true,
    decide_true, Bool.true_and]

theorem jobWrite_clear_of_invalid (hv : s.jobValid n = false) (hk : s.rfld (rFrJob n) 33 33 = fld v 33 33)
    (ht : fld v 15 0 = s.jobTag n) : s.jobWrite n (setFld v 32 32 0) = tagStored s n v := by
  obtain ⟨h33, h16, h0⟩ := fld_setFld_valid v 0
  have h32 : fld (setFld v 32 32 0) 32 32 = 0 := fld_setFld_same (by decide) (by decide) v 0
  simp only [State.jobWrite, hv, h33, h16, h0, h32, hk, ht, tagStored, bne_self_eq_false, if_true, if_false, Bool.false_eq_true,
    Nat.zero_ne_one, decide_false, Bool.false_and]

theorem jobWrite_flip_of_valid (hv : s.jobValid n = true) (h1 : fld v 32 32 = 1) :
    s.jobWrite n (setFld v 33 33 (1 - s.rfld (rFrJob n) 33 33)) =
      (s.setRfld (rFrJob n) 33 33 (1 - s.rfld (rFrJob n) 33 33)).flipKey n := by
  have hlt : s.rfld (rFrJob n) 33 33 < 2 := State.rfld_lt s _ 33 33
  have h33 : fld (setFld v 33 33 (1 - s.rfld (rFrJob n) 33 33)) 33 33 = 1 - s.rfld (rFrJob n) 33 33 :=
    (fld_setFld_same (by decide) (by decide) v _).trans (Nat.mod_eq_of_lt (by omega))
  have hflip : (1 - s.rfld (rFrJob n) 33 33 != s.rfld (rFrJob n) 33 33) = true := bne_iff_ne.2 (by omega)
  simp only [State.jobWrite, hv, fld_setFld_txkey, h33, h1, hflip, if_true, Nat.one_ne_zero, if_false]

theorem jobKeyWrite_of_used {k : Nat} (hv : s.jobValid n = true) (hk : s.rfld (rFrJob n) 33 33 = k / 2) : s.jobKeyWrite n k v = s :=
  if_pos (by simp [hv, hk])

theorem jobKeyWrite_of_unused {k : Nat} (h : s.jobValid n = false ∨ s.rfld (rFrJob n) 33 33 ≠ k / 2) : s.jobKeyWrite n k v =
    { s with fr := { s.fr with keys := mapSet 0 (n * 4 + k) v.toNat s.fr.keys,
                               keyed := (n, k / 2) :: s.fr.keyed.filter (fun e => e != (n, k / 2)) } } := by
  refine if_neg fun hc => ?_
  obtain ⟨hv, hk⟩ := Bool.and_eq_true_iff.1 hc
  exact h.elim (fun hf => Bool.false_ne_true (hf.symm.trans hv)) fun hne => hne (beq_iff_eq.1 hk)

theorem abortJob_of_valid {r : Nat} (hv : s.jobValid n = true) : s.abortJob n r = (s.originateAbort n r).applyAbort n := if_pos hv

theorem abortJob_of_invalid {r : Nat} (hv : s.jobValid n = false) : s.abortJob n r = s := if_neg (by simp [hv])

end

/-- A write of FR_JOB, of a key or of FR_ABORT acts after it has waked the block. -/
theorem exec_jobTagSet {s : State} {n : Sys2Proof.CabId} {v : Word} (h : s.mayReach (rFrJob n.val)) :
    exec (.jobTagSet 0 n v) s = .next ((s.wakeBlock 1).jobWrite n.val (setFld v 32 32 1)) :=
  congrArg Host.Outcome.next (platform_of_mayReach h)

theorem exec_jobTagClear {s : State} {n : Sys2Proof.CabId} {v : Word} (h : s.mayReach (rFrJob n.val)) :
    exec (.jobTagClear 0 n v) s = .next ((s.wakeBlock 1).jobWrite n.val (setFld v 32 32 0)) :=
  congrArg Host.Outcome.next (platform_of_mayReach h)

theorem exec_jobTxkeyFlip {s : State} {n : Sys2Proof.CabId} {v : Word} (h : s.mayReach (rFrJob n.val)) :
    exec (.jobTxkeyFlip 0 n v) s = .next ((s.wakeBlock 1).jobWrite n.val (setFld v 33 33 (1 - (s.wakeBlock 1).rfld (rFrJob n.val) 33 33))) :=
  congrArg Host.Outcome.next (platform_of_mayReach
    (f := fun t => t.jobWrite n.val (setFld v 33 33 (1 - t.rfld (rFrJob n.val) 33 33))) h)

theorem exec_frJobkeyWrite {s : State} {n : Sys2Proof.CabId} {k : Fin 4} {v : Word} (h : s.mayReach (rFrJob n.val + 8 + 8 * k.val)) :
    exec (.frJobkeyWrite 0 n k v) s = .next ((s.wakeBlock 1).jobKeyWrite n.val k.val v) :=
  congrArg Host.Outcome.next (platform_of_mayReach h)

theorem exec_frAbortWrite {s : State} {v : Word} (h : s.mayReach 0x900088) :
    exec (.frAbortWrite 0 v) s = .next ((s.wakeBlock 1).abortJob (fld v 7 0) 5) :=
  congrArg Host.Outcome.next (platform_of_mayReach h)

/-- Settles O47, clause by clause from what a write of FR_JOB does in the woken block. -/
theorem jobTagsKeysAndAborts : Obligations.JobTagsKeysAndAborts := by
  intro n v s hjob habort u flip
  refine ⟨fun hv hk => ?_, fun hv hf ht => ?_, fun hv hf => ?_, fun hv h1 => ?_, fun k hk => ⟨fun hv hu => ?_, fun hu => ?_⟩,
    fun hv => ?_, fun hv => ?_⟩
  · refine ⟨_, exec_jobTagSet hjob, ?_⟩
    rw [jobWrite_set_of_valid hv hk, ← hk]
    exact ⟨setRfld_txkey_reg u _, State.setRfld_fr⟩
  · have hk : u.rfld (rFrJob n.val) 33 33 = fld v 33 33 := (Classical.not_not.1 hf).symm
    exact ⟨(exec_jobTagSet hjob).trans (congrArg Host.Outcome.next (jobWrite_set_of_invalid hv hk ht)),
      (exec_jobTagClear hjob).trans (congrArg Host.Outcome.next (jobWrite_clear_of_invalid hv hk ht))⟩
  · exact (exec_jobTagClear hjob).trans (congrArg Host.Outcome.next (jobWrite_clear_of_valid hv (Classical.not_not.1 hf).symm))
  · exact (exec_jobTxkeyFlip hjob).trans (congrArg Host.Outcome.next (jobWrite_flip_of_valid hv h1))
  · exact (exec_frJobkeyWrite hk).trans (congrArg Host.Outcome.next (jobKeyWrite_of_used hv hu))
  · exact (exec_frJobkeyWrite hk).trans (congrArg Host.Outcome.next (jobKeyWrite_of_unused hu))
  · exact (exec_frAbortWrite habort).trans (congrArg Host.Outcome.next (abortJob_of_valid hv))
  · exact (exec_frAbortWrite habort).trans (congrArg Host.Outcome.next (abortJob_of_invalid hv))

end Sys2Proof.Machine
end

section
/-! PROOFS. RST_CMD at each level (O49; R374, R379, R397, R398). -/
namespace Sys2Proof.Machine

/-! ### What a fault event leaves of the recovery state

A record in the fault ring counts in the ring's head; it leaves every other piece of chapter 13's state. -/

/-- The recovery state of `t` is that of `s`, but for the count of records in the fault ring. -/
def RcvKept (s t : State) : Prop := ∃ f, t.rcv = { s.rcv with faults := f }

theorem RcvKept.refl (s : State) : RcvKept s s := ⟨s.rcv.faults, rfl⟩

theorem RcvKept.of_eq {s t : State} (h : t.rcv = s.rcv) : RcvKept s t := ⟨s.rcv.faults, h⟩

theorem RcvKept.trans {s t u : State} (h : RcvKept s t) (h' : RcvKept t u) : RcvKept s u := by
  obtain ⟨f, hf⟩ := h
  obtain ⟨g, hg⟩ := h'
  exact ⟨g, by rw [hg, hf]⟩

theorem RcvKept.cabResets {s t : State} (h : RcvKept s t) : t.rcv.cabResets = s.rcv.cabResets := by
  obtain ⟨f, hf⟩ := h
  rw [hf]

theorem rcv_ringPut (s : State) (host : Bool) (p : Nat) (bs : List Sys2Proof.Byte) : (s.ringPut host p bs).2.rcv = s.rcv :=
  (kept_State_ringPut (m := 65536) (by decide) (.refl _ _)).rcv rfl

theorem rcv_ownWrite (s : State) (m : Master) (u p : Nat) (bs : List Sys2Proof.Byte) : (s.ownWrite m u p bs).2.2.rcv = s.rcv :=
  (kept_State_ownWrite (m := 65536) (by decide) (.refl _ _)).rcv rfl

theorem rcvKept_ringRecord (s : State) (e : FaultEv) : RcvKept s (s.ringRecord e) := by
  have hput : ∀ (t : State) (h : Bool) (p : Nat) (bs : List Sys2Proof.Byte) (b : Bool) (v : State),
      t.ringPut h p bs = (b, v) → v.rcv = t.rcv := fun t h p bs b v hv => by
    rw [← rcv_ringPut t h p bs, hv]
  unfold State.ringRecord
  dsimp only
  split
  · exact .refl s
  · split
    · exact .of_eq (State.bump_rcv ..)
    · split
      · next t heq => exact .of_eq ((State.bump_rcv ..).trans (hput _ _ _ _ _ _ heq))
      · next t heq =>
        have ht := hput _ _ _ _ _ _ heq
        have hnote : RcvKept s (({ t with rcv := { t.rcv with faults := s.rcv.faults + 1 } } : State).setRfld rFltStat 31 0
            ((s.rcv.faults + 1) % 2 ^ 32)) := ⟨s.rcv.faults + 1, by rw [State.setRfld_rcv, ht]⟩
        split
        · exact hnote
        · split
          · next heq2 => exact hnote.trans (.of_eq (hput _ _ _ _ _ _ heq2))
          · next heq2 => exact hnote.trans (.of_eq ((State.bump_rcv ..).trans (hput _ _ _ _ _ _ heq2)))

theorem rcvKept_ouRecord (s : State) {cfg head stat f size : Nat} (rcd : Nat → List Sys2Proof.Byte) :
    RcvKept s (s.ouRecord cfg head stat f size rcd).1 := by
  have hown : ∀ (p : Nat) (bs : List Sys2Proof.Byte) (a : Option Nat) (b : Bool) (v : State), s.ownWrite .observe uOu p bs = (a, b, v) → v.rcv = s.rcv :=
    fun p bs a b v hv => by rw [← rcv_ownWrite s .observe uOu p bs, hv]
  unfold State.ouRecord
  dsimp only
  split
  · exact .of_eq (State.bump_rcv ..)
  · split
    · next heq =>
      refine .of_eq ((State.setReg_rcv ..).trans ?_)
      split
      · exact (State.bump_rcv ..).trans (hown _ _ _ _ _ heq)
      · exact hown _ _ _ _ _ heq
    · next heq => exact (RcvKept.of_eq (hown _ _ _ _ _ heq)).trans ((rcvKept_ringRecord _ _).trans (.of_eq (State.bump_rcv ..)))
    · next heq => exact .of_eq ((State.bump_rcv ..).trans (hown _ _ _ _ _ heq))

theorem rcvKept_trace (s : State) (ev u : Nat) (c x : Option Nat) (a b : Nat) : RcvKept s (s.trace ev u c x a b) := by
  unfold State.trace
  dsimp only
  split
  · split
    · exact .of_eq (State.bump_rcv ..)
    · split
      · exact (rcvKept_ouRecord s _).trans (.of_eq rfl)
      · exact rcvKept_ouRecord s _
  · exact .refl s

/-- A REQUEST record triggers no stop. -/
theorem rcvKept_requested (s : State) (u action : Nat) (cab ctx : Option Nat) : RcvKept s (s.requested u action cab ctx) :=
  (rcvKept_ringRecord s _).trans (rcvKept_trace _ _ _ _ _ _ _)

/-! ### A command taken up -/

section
variable {c : Sys2Proof.Instr} {s u : State}

/-- A command of RST_CMD that is taken up while no life-cycle job runs and the block is in RUN. -/
theorem exec_of_rst {k : Nat} {g : State → State} (hexec : exec c s = .next (s.platform 0 0x1000 (some (cmdWord k)) fun t => t.rstCommand g))
    (h : s.takesChip 0x1000 rRstResult u) (hj : u.lc.job = none) (hp : u.pln.power = 0) : exec c s = .next (g u) := by
  obtain ⟨hreach, hacc⟩ := h
  have hjob : u.lc.job.isSome = false := by rw [hj]; rfl
  have hpow : (u.pln.power != 0) = false := bne_eq_false_iff_eq.2 hp
  rw [hexec, platform_of_mayReach hreach]
  simp only [State.rstCommand, hacc, hjob, hpow, if_false, Bool.false_eq_true]

theorem exec_of_rst_job {k : Nat} {g : State → State} (hexec : exec c s = .next (s.platform 0 0x1000 (some (cmdWord k)) fun t => t.rstCommand g))
    (h : s.takesChip 0x1000 rRstResult u) (hj : u.lc.job ≠ none) : exec c s = .next (u.result rRstResult errState (4 * 65536)) := by
  obtain ⟨hreach, hacc⟩ := h
  have hjob : u.lc.job.isSome = true := Option.isSome_iff_ne_none.2 hj
  rw [hexec, platform_of_mayReach hreach]
  simp only [State.rstCommand, hacc, hjob, if_true]

theorem exec_of_rst_asleep {k : Nat} {g : State → State} (hexec : exec c s = .next (s.platform 0 0x1000 (some (cmdWord k)) fun t => t.rstCommand g))
    (h : s.takesChip 0x1000 rRstResult u) (hj : u.lc.job = none) (hp : u.pln.power ≠ 0) : exec c s = .next (u.result rRstResult errState 0) := by
  obtain ⟨hreach, hacc⟩ := h
  have hjob : u.lc.job.isSome = false := by rw [hj]; rfl
  have hpow : (u.pln.power != 0) = true := bne_iff_ne.2 hp
  rw [hexec, platform_of_mayReach hreach]
  simp only [State.rstCommand, hacc, hjob, hpow, if_true, if_false, Bool.false_eq_true]

/-- Each reset command is one write of RST_CMD. -/
theorem exec_rst_mem {i : Sys2Proof.Instr}
    (hi : i ∈ ([.rstContext 0, .rstEngine 0, .rstCabinet 0, .rstChip 0, .rstTray 0, .rstDump 0, .rstUnretire 0] : List Sys2Proof.Instr)) (s : State) :
    ∃ k g, exec i s = .next (s.platform 0 0x1000 (some (cmdWord k)) fun t => t.rstCommand g) := by
  simp only [List.mem_cons, List.not_mem_nil, or_false] at hi
  obtain rfl | rfl | rfl | rfl | rfl | rfl | rfl := hi
  · exact ⟨1, rstContext, rfl⟩
  · exact ⟨2, rstEngine, rfl⟩
  · exact ⟨3, rstCabinet, rfl⟩
  · exact ⟨4, rstChip, rfl⟩
  · exact ⟨5, rstTray, rfl⟩
  · exact ⟨6, rstDump, rfl⟩
  · exact ⟨7, rstUnretire, rfl⟩

end

/-! ### The levels (R374, R379) -/

section
variable {u : State}

theorem not_idle {st : StopState} (h : st ≠ .idle) : (st != .idle) = true := bne_iff_ne.2 h

theorem rstContext_of_stop (h : u.ou.stop ≠ .idle) : rstContext u = u.result rRstResult errState 0 := if_pos (not_idle h)

theorem rstCabinet_of_stop (h : u.ou.stop ≠ .idle) : rstCabinet u = u.result rRstResult errState 0 := if_pos (by simp [h])

theorem rstContext_of_idle (h : u.ou.stop = .idle) :
    ((u.ctx (u.rfld rRstArg 23 16) (u.rfld rRstArg 45 32)).st = .free → rstContext u = u.result rRstResult errNoCtx 0) ∧
    ((u.ctx (u.rfld rRstArg 23 16) (u.rfld rRstArg 45 32)).st = .dying → rstContext u = u.result rRstResult errState 0) := by
  have hstop : (u.ou.stop != .idle) = false := by simp [h]
  constructor <;> intro hst <;> unfold State.rfld at hst <;> simp only [rstContext, hstop, hst, if_false, Bool.false_eq_true] <;> rfl

/-- Of a LIVE context, the reset joins its cabinet's or its own where one is under way. -/
theorem rstContext_of_live {n c : Nat} (hn : u.rfld rRstArg 23 16 = n) (hc : u.rfld rRstArg 45 32 = c) (h : u.ou.stop = .idle)
    (hst : (u.ctx n c).st = .live) : rstContext u =
      if (u.requested uPlinth 1 (some n) (some c)).rcv.cabResets.any (fun r => r.cab == n) then
        (u.requested uPlinth 1 (some n) (some c)).rstWait (.cabinet n)
      else if (u.ctx n c).resetting then (u.requested uPlinth 1 (some n) (some c)).rstWait (.context n c)
      else (((u.requested uPlinth 1 (some n) (some c)).countReset n).resetContext n c).rstWait (.context n c) := by
  have hstop : (u.ou.stop != .idle) = false := by simp [h]
  unfold State.rfld at hn hc
  simp only [rstContext, hn, hc, hstop, hst, if_false, Bool.false_eq_true]

theorem requested_cabResets (a n : Nat) (x y : Option Nat) :
    ((u.requested uPlinth a x y).rcv.cabResets.any (fun r => r.cab == n)) = u.rcv.cabResets.any (fun r => r.cab == n) := by
  rw [(rcvKept_requested u uPlinth a x y).cabResets]

theorem rstEngine_of_bad (h : u.unitExists (u.rfld rRstArg 11 0) = false ∨ u.rfld rRstArg 11 0 = uPlinth) :
    rstEngine u = u.result rRstResult errArg 0 := if_pos (by simpa using h)

theorem rstEngine_of_good (he : u.unitExists (u.rfld rRstArg 11 0) = true) (hp : u.rfld rRstArg 11 0 ≠ uPlinth) : rstEngine u =
    if u.ou.stop != .idle then u.result rRstResult errState 0
    else (u.rstWait (.engine (u.rfld rRstArg 11 0))).engineFault (u.rfld rRstArg 11 0) 0x0A none := if_neg (by simp [he, hp])

theorem rstCabinet_of_gone {n : Nat} (hn : u.rfld rRstArg 23 16 = n) (h : (u.cab n).st ≠ .live) (hw : (u.cab n).work = .none) :
    rstCabinet u = u.result rRstResult errState 0 := by
  subst hn
  exact if_pos (by simp [h, hw])

theorem rstCabinet_of_live {n : Nat} (hn : u.rfld rRstArg 23 16 = n) (hi : u.ou.stop = .idle) (h : (u.cab n).st = .live) :
    rstCabinet u = ((u.requested uPlinth 3 (some n) none).rstWait (.cabinet n)).startCabReset n := by
  subst hn
  exact if_neg (by simp [hi, h])

/-- No dump is being written: the reset is taken at once. -/
theorem afterDump_of_none {l r k : Nat} (h : u.rcv.dump = none) : u.afterDump l r k = u.takeReset l r k := by
  unfold State.afterDump
  rw [h]

theorem rstDump_of_started {t : State} (h : (u.requested uPlinth 0 none none).startDump 1 uPlinth (List.replicate 64 0) none = (true, t)) :
    rstDump u = t.rstWait .dump := by
  unfold rstDump
  rw [h]

theorem rstDump_of_skipped {t : State} (h : (u.requested uPlinth 0 none none).startDump 1 uPlinth (List.replicate 64 0) none = (false, t)) :
    rstDump u = t.result rRstResult errNone 0 := by
  unfold rstDump
  rw [h]
  rfl

end

/-! ### A tile port leaves RETIRED (R383) -/

theorem deliverSlot_retired (s : State) (k : Nat) (ts : List Nat) (t : Nat) : ((s.deliverSlot k ts).tile t).retired = (s.tile t).retired := by
  have hset : ∀ (s : State) (j : Nat) (x : Tile), x.retired = (s.tile j).retired → ((s.setTile j x).tile t).retired = (s.tile t).retired :=
    fun s j x hx => by
      rw [State.tile_setTile]
      split
      · next h => rw [hx, h]
      · rfl
  have htables : ∀ (s : State) (j : Nat), ((s.deliverTables j).tile t).retired = (s.tile t).retired := fun s j => by
    have hemit : ∀ i, State.tile (List.foldl (fun s k => s.emit (.tableTo j k (mapGet {} k s.ft.slots).bytes)) s (s.tile j).owed) i = s.tile i :=
      fun i => foldl_leaves (p := fun u => u.tile i) (f := fun s k => s.emit (.tableTo j k (mapGet {} k s.ft.slots).bytes)) (fun _ _ => rfl) _ _
    exact (hset _ j _ (by rw [hemit])).trans (congrArg Tile.retired (hemit t))
  refine foldl_leaves (p := fun u => (u.tile t).retired) (fun s j => ?_) ts s
  dsimp only
  split
  · exact hset s j _ rfl
  · exact (htables _ j).trans (hset s j _ rfl)

theorem retable_retired (s : State) (j t : Nat) : ((s.retable j).tile t).retired = (s.tile t).retired := by
  unfold State.retable
  refine (foldl_leaves (p := fun u => (u.tile t).retired) (fun s k => deliverSlot_retired s k [j] t) _ _).trans ?_
  rw [State.tile_setTile]
  split
  · next h => rw [h]
  · rfl

/-- A tile port of the scheduler is no longer retired, and gets its tables again. -/
def taken (s : State) (t : Nat) : State :=
  if (s.tile t).retired then (s.setTile t { s.tile t with retired := false }).retable t else s

theorem taken_tile (s : State) (t : Nat) : ((taken s t).tile t).retired = false := by
  unfold taken
  split
  · refine (retable_retired _ _ _).trans ?_
    rw [State.tile_setTile_same]
  · next h => exact Bool.eq_false_iff.2 h

theorem taken_unitSt (s : State) (t e : Nat) : (taken s t).unitSt e = s.unitSt e := by
  unfold taken
  split
  · exact congrArg (fun r : RcvUnit => mapGet {} e r.units) ((kept_State_retable (m := 65536) (by decide) (.refl _ _)).rcv rfl)
  · rfl

/-- The state of a unit in service again, its resets forgotten. -/
def UnitSt.returned (v : UnitSt) : UnitSt :=
  { v with resets := [], phase := if v.phase == .retired then .service else v.phase }

theorem UnitSt.returned_phase (v : UnitSt) : v.returned.phase ≠ .retired := by
  unfold UnitSt.returned
  dsimp only
  split
  · exact nofun
  · next h => exact fun hr => h (beq_iff_eq.2 hr)

/-- The state in which a tile port has returned, but for its bit in RCV_RETIRED. -/
def returned (s : State) (e : Nat) : State := taken (s.setUnitSt e (s.unitSt e).returned) (e % 256)

theorem returned_unitSt (s : State) (e : Nat) : (returned s e).unitSt e = (s.unitSt e).returned :=
  (taken_unitSt _ _ _).trans (State.unitSt_setUnitSt_same _ _ _)

theorem rstUnretire_of_bad {u : State} (h : u.rfld rRstArg 11 0 / 256 ≠ 0xD ∨ u.unitExists (u.rfld rRstArg 11 0) = false) :
    rstUnretire u = u.result rRstResult errArg 0 := if_pos h

theorem rstUnretire_of_good {u : State} {e : Nat} (he : u.rfld rRstArg 11 0 = e) (h : e / 256 = 0xD) (hx : u.unitExists e = true) : rstUnretire u =
    ((returned u e).setReg (rRetired (e % 256 / 64)) ((returned u e).reg (rRetired (e % 256 / 64)) &&&
      ~~~(BitVec.ofNat 64 (2 ^ (e % 256 % 64))))).result rRstResult errNone 0 := by
  subst he
  exact if_neg (by simp [h, hx])

/-- The bit that is cleared reads 0. -/
theorem getLsbD_andNot_twoPow (w : Word) {k : Nat} (h : k < 64) : (w &&& ~~~(BitVec.ofNat 64 (2 ^ k))).getLsbD k = false := by
  simp only [BitVec.getLsbD_and, BitVec.getLsbD_not, BitVec.getLsbD_ofNat, h, Nat.testBit_two_pow_self, decide_true, Bool.and_self,
    Bool.not_true, Bool.and_false]

/-- A command's result leaves the tiles and the units. -/
theorem State.tile_setReg (s : State) (r : Nat) (w : Word) (t : Nat) : (s.setReg r w).tile t = s.tile t :=
  congrArg (fun v : TsUnit => mapGet ({} : Tile) t v.tiles) (State.setReg_ts s r w)
theorem State.unitSt_setReg (s : State) (r : Nat) (w : Word) (u : Nat) : (s.setReg r w).unitSt u = s.unitSt u :=
  congrArg (fun v : RcvUnit => mapGet ({} : UnitSt) u v.units) (State.setReg_rcv s r w)

theorem State.tile_result (s : State) (r err v t : Nat) : (s.result r err v).tile t = s.tile t := State.tile_setReg ..
theorem State.unitSt_result (s : State) (r err v u : Nat) : (s.result r err v).unitSt u = s.unitSt u := State.unitSt_setReg ..

theorem rstUnretire_returns {u : State} {e : Nat} (he : u.rfld rRstArg 11 0 = e) (h : e / 256 = 0xD) (hx : u.unitExists e = true) :
    ((rstUnretire u).tile (e % 256)).retired = false ∧ ((rstUnretire u).unitSt e).resets = [] ∧ ((rstUnretire u).unitSt e).phase ≠ .retired ∧
    ((rstUnretire u).reg (rRetired (e % 256 / 64))).getLsbD (e % 64) = false := by
  have hoff : rRetired (e % 256 / 64) ≠ rRstResult := by unfold rRetired rRstResult; omega
  have hmod : e % 256 % 64 = e % 64 := by omega
  rw [rstUnretire_of_good he h hx, State.tile_result, State.tile_setReg, State.unitSt_result, State.unitSt_setReg, returned_unitSt]
  refine ⟨taken_tile _ _, rfl, UnitSt.returned_phase _, ?_⟩
  rw [State.result, State.reg_setReg, if_neg hoff, State.reg_setReg_same, hmod]
  exact getLsbD_andNot_twoPow _ (Nat.mod_lt _ (by decide))

/-- Settles O49. -/
theorem resetCommandsAct : Obligations.ResetCommandsAct := by
  intro s u h a n c e
  refine ⟨fun hj i hi => ?_, fun hj hp i hi => ?_, fun hj hp => ⟨fun hs => ⟨?_, ?_, fun hx hne => ?_⟩, fun hs => ⟨?_, ?_, fun hst => ?_, fun hst => ?_, ?_⟩,
    fun hbad => ?_, fun hx hne hs => ?_, fun hs hst hw => ?_, fun hs hst => ?_, fun hd => ?_, fun hd => ?_, fun t ht => ?_, fun t ht => ?_,
    fun hbad => ?_, fun he hx => ⟨_, exec_of_rst (g := rstUnretire) rfl h hj hp, rstUnretire_returns rfl he hx⟩⟩⟩
  · obtain ⟨k, g, hk⟩ := exec_rst_mem hi s
    exact exec_of_rst_job hk h hj
  · obtain ⟨k, g, hk⟩ := exec_rst_mem hi s
    exact exec_of_rst_asleep hk h hj hp
  · exact (exec_of_rst (g := rstContext) rfl h hj hp).trans (congrArg _ (rstContext_of_stop hs))
  · exact (exec_of_rst (g := rstCabinet) rfl h hj hp).trans (congrArg _ (rstCabinet_of_stop hs))
  · exact (exec_of_rst (g := rstEngine) rfl h hj hp).trans (congrArg _ ((rstEngine_of_good hx hne).trans (if_pos (not_idle hs))))
  · intro hst ⟨r, hr, hn⟩
    have hany : u.rcv.cabResets.any (fun r => r.cab == n) = true := List.any_eq_true.2 ⟨r, hr, beq_iff_eq.2 hn⟩
    refine (exec_of_rst (g := rstContext) rfl h hj hp).trans (congrArg _ ?_)
    rw [rstContext_of_live (n := n) (c := c) rfl rfl hs hst, requested_cabResets, if_pos hany]
  · intro hst hno hres
    have hany : u.rcv.cabResets.any (fun r => r.cab == n) = false := List.any_eq_false.2 fun r hr => by simpa using hno r hr
    refine (exec_of_rst (g := rstContext) rfl h hj hp).trans (congrArg _ ?_)
    rw [rstContext_of_live (n := n) (c := c) rfl rfl hs hst, requested_cabResets, hany, if_neg Bool.false_ne_true, if_pos hres]
  · exact (exec_of_rst (g := rstContext) rfl h hj hp).trans (congrArg _ ((rstContext_of_idle hs).1 hst))
  · exact (exec_of_rst (g := rstContext) rfl h hj hp).trans (congrArg _ ((rstContext_of_idle hs).2 hst))
  · intro hst hno hres
    have hany : u.rcv.cabResets.any (fun r => r.cab == n) = false := List.any_eq_false.2 fun r hr => by simpa using hno r hr
    refine (exec_of_rst (g := rstContext) rfl h hj hp).trans (congrArg _ ?_)
    rw [rstContext_of_live (n := n) (c := c) rfl rfl hs hst, requested_cabResets, hany, if_neg Bool.false_ne_true, if_neg (by rw [hres]; exact Bool.false_ne_true)]
  · exact (exec_of_rst (g := rstEngine) rfl h hj hp).trans (congrArg _ (rstEngine_of_bad hbad))
  · exact (exec_of_rst (g := rstEngine) rfl h hj hp).trans (congrArg _ ((rstEngine_of_good hx hne).trans (if_neg (by simp [hs]))))
  · exact (exec_of_rst (g := rstCabinet) rfl h hj hp).trans (congrArg _ (rstCabinet_of_gone rfl hst hw))
  · exact (exec_of_rst (g := rstCabinet) rfl h hj hp).trans (congrArg _ (rstCabinet_of_live rfl hs hst))
  · exact (exec_of_rst (g := rstChip) rfl h hj hp).trans (congrArg _ (afterDump_of_none hd))
  · exact (exec_of_rst (g := rstTray) rfl h hj hp).trans (congrArg _ (afterDump_of_none hd))
  · exact (exec_of_rst (g := rstDump) rfl h hj hp).trans (congrArg _ (rstDump_of_started ht))
  · exact (exec_of_rst (g := rstDump) rfl h hj hp).trans (congrArg _ (rstDump_of_skipped ht))
  · exact (exec_of_rst (g := rstUnretire) rfl h hj hp).trans (congrArg _ (rstUnretire_of_bad hbad))

end Sys2Proof.Machine
end

section
/-! PROOFS. Context and cabinet resets, the fault ring's configuration, dumps and the watchdog (O50; R372, R377, R382, R384, R391 to
R395). -/
namespace Sys2Proof.Machine

section
variable {c : Sys2Proof.Instr} {s : State} {f : State → State}

/-- An event of the core's own logic acts while the core is up and no stop holds the units. -/
theorem exec_of_awake (e : exec c s = .next (if s.frozen then s else f s)) (h : s.frozen = false) : exec c s = .next (f s) :=
  e.trans (congrArg Host.Outcome.next (if_neg (by rw [h]; exact Bool.false_ne_true)))

theorem idles_of_awake (e : exec c s = .next (if s.frozen then s else f s)) (h : s.frozen = false) (hf : f s = s) : Idles c s :=
  (exec_of_awake e h).trans (congrArg Host.Outcome.next hf)

/-- An event that needs only the core's power. -/
theorem exec_of_coreUp (e : exec c s = .next (if s.coreUp then f s else s)) (h : s.coreUp = true) : exec c s = .next (f s) :=
  e.trans (congrArg Host.Outcome.next (if_pos h))

end

/-! ### A context's reset (R377, R382) -/

section
variable {s : State} {n c : Nat}

theorem contextResetDone_of_clear (hr : (s.ctx n c).resetting = true) (hc : s.contextClear n c = true) :
    contextResetDone n c s = (s.setCtx n c { s.ctx n c with resetting := false }).endRst (.context n c) := if_pos (by simp [hr, hc])

theorem contextResetDone_of_not (h : (s.ctx n c).resetting = false ∨ s.contextClear n c = false) : contextResetDone n c s = s :=
  if_neg fun hc => by
    obtain ⟨hr, hclear⟩ := Bool.and_eq_true_iff.1 hc
    exact h.elim (fun hf => Bool.false_ne_true (hf.symm.trans hr)) fun hf => Bool.false_ne_true (hf.symm.trans hclear)

theorem contextLimit_of_early (h : s.mono < (s.ctx n c).since + 100000 ∨ ((s.ctx n c).resetting = false ∧ (s.ctx n c).st ≠ .dying)) :
    contextLimit n c s = s := by
  refine if_neg fun hc => ?_
  simp only [Bool.and_eq_true, Bool.or_eq_true, beq_iff_eq, decide_eq_true_eq] at hc
  obtain ⟨⟨hdue, -⟩, htime⟩ := hc
  rcases h with hlt | ⟨hres, hst⟩
  · omega
  · rcases hdue with h1 | h1
    · exact Bool.false_ne_true (hres.symm.trans h1)
    · exact hst h1

theorem contextLimit_of_late (ht : (s.ctx n c).since + 100000 ≤ s.mono) (hd : (s.ctx n c).resetting = true ∨ (s.ctx n c).st = .dying)
    (hts : ∀ k ∈ s.ts.cmds, k.direct = false) (hdce : ∀ k ∈ s.dce.cmds, k.direct = false)
    (hw : (s.escalate uPlinth 3 (some n)).rcv.wait ≠ .context n c) :
    contextLimit n c s = (s.escalate uPlinth 3 (some n)).startCabReset n := by
  have h1 : s.ts.cmds.any (fun k => k.cab == n && k.ctx == c && k.direct && k.onTiles) = false :=
    List.any_eq_false.2 fun k hk => by simp [hts k hk]
  have h2 : s.dce.cmds.any (fun k => k.cab == n && k.ctx == c && k.direct) = false :=
    List.any_eq_false.2 fun k hk => by simp [hdce k hk]
  have hdue : ((s.ctx n c).resetting || (s.ctx n c).st == .dying) = true := by simpa using hd
  unfold contextLimit
  dsimp only
  rw [h1, h2, hdue, decide_eq_true ht, if_pos (by rfl), if_neg (by simpa using hw)]

end

/-! ### A cabinet's reset (R391) -/

section
variable {s : State} {n : Nat}

theorem cabResetDone_of_none (h : s.rcv.cabResets.find? (fun r => r.cab == n) = none) : cabResetDone n s = s := by
  unfold cabResetDone
  rw [h]

/-- Without a reset of the cabinet no limit of one can pass. -/
theorem noCabReset_any (h : s.rcv.cabResets.find? (fun r => r.cab == n) = none) (p : Nat → Bool) :
    s.rcv.cabResets.any (fun r => r.cab == n && r.began.any p) = false :=
  List.any_eq_false.2 fun r hr => by simp [List.find?_eq_none.1 h r hr]

theorem cabReset_any {r : CabReset} {b : Nat} {p : Nat → Bool} (h : s.rcv.cabResets.find? (fun r => r.cab == n) = some r)
    (hb : r.began = some b) (hp : p b = true) : s.rcv.cabResets.any (fun r => r.cab == n && r.began.any p) = true :=
  List.any_eq_true.2 ⟨r, List.mem_of_find?_eq_some h, by rw [List.find?_some h, hb]; exact hp⟩

theorem cabDirectLimit_of_none (h : s.rcv.cabResets.find? (fun r => r.cab == n) = none) : cabDirectLimit n s = s :=
  if_neg (by rw [noCabReset_any h]; exact Bool.false_ne_true)

theorem cabDirectLimit_of_late {r : CabReset} {b : Nat} (h : s.rcv.cabResets.find? (fun r => r.cab == n) = some r) (hb : r.began = some b)
    (ht : b + 1000000 ≤ s.mono) : cabDirectLimit n s =
      ((s.ts.cmds.filter (fun c => c.cab == n && c.direct && c.onTiles)).flatMap (·.tiles)).foldl (fun s t => s.faultOn (uTile t) 4 none) s :=
  if_pos (cabReset_any h hb (decide_eq_true ht))

theorem cabResetDone_of_busy {r : CabReset} {b : Nat} (h : s.rcv.cabResets.find? (fun r => r.cab == n) = some r) (hb : r.began = some b)
    (hbusy : ∃ c ∈ s.ts.cmds, c.cab = n ∧ c.onTiles = true) : cabResetDone n s = s := by
  obtain ⟨c, hc, hcab, hon⟩ := hbusy
  have hany : s.ts.cmds.any (fun c => c.cab == n && c.onTiles) = true := List.any_eq_true.2 ⟨c, hc, by simp [hcab, hon]⟩
  unfold cabResetDone
  rw [h]
  dsimp only
  rw [hb]
  exact if_pos hany

/-- The state with a cabinet's epoch one higher and its reset ended. -/
def epochRaised (s : State) (n : Nat) : State :=
  { s with rcv := { s.rcv with cabEp := mapSet 1 n ((mapGet 1 n s.rcv.cabEp + 1) % 2 ^ 32) s.rcv.cabEp,
                               cabResets := s.rcv.cabResets.filter (fun r => r.cab != n) } }

theorem cabResetDone_of_clear {r : CabReset} {b : Nat} (h : s.rcv.cabResets.find? (fun r => r.cab == n) = some r) (hb : r.began = some b)
    (hclear : ∀ c ∈ s.ts.cmds, c.cab = n → c.onTiles = false) :
    cabResetDone n s = (((epochRaised s n).confirmTiles ((epochRaised s n).tilesOf n)).countReset n).endRst (.cabinet n) := by
  have hany : s.ts.cmds.any (fun c => c.cab == n && c.onTiles) = false :=
    List.any_eq_false.2 fun c hc => by
      intro hon
      simp only [Bool.and_eq_true, beq_iff_eq] at hon
      exact Bool.false_ne_true ((hclear c hc hon.1).symm.trans hon.2)
  unfold cabResetDone
  rw [h]
  dsimp only
  rw [hb]
  exact if_neg (by rw [hany]; exact Bool.false_ne_true)

/-- The end of RST_CMD's wait leaves the cabinets' resets and epochs. -/
theorem endRst_rcv (s : State) (w : RstWait) :
    (s.endRst w).rcv.cabResets = s.rcv.cabResets ∧ (s.endRst w).rcv.cabEp = s.rcv.cabEp ∧ (s.endRst w).cabs = s.cabs := by
  unfold State.endRst
  split
  · exact ⟨(congrArg RcvUnit.cabResets (State.result_rcv ..)).trans rfl, (congrArg RcvUnit.cabEp (State.result_rcv ..)).trans rfl, State.result_cabs ..⟩
  · exact ⟨rfl, rfl, rfl⟩

theorem confirmTiles_rcv (s : State) (ts : List Nat) : (s.confirmTiles ts).rcv = s.rcv :=
  (kept_State_confirmTiles (m := 65536) (by decide) (.refl _ _)).rcv rfl

theorem confirmTiles_cabs (s : State) (ts : List Nat) : (s.confirmTiles ts).cabs = s.cabs :=
  (kept_State_confirmTiles (m := 512) (by decide) (.refl _ _)).cabs rfl

theorem countReset_tot (s : State) (n : Nat) : ((s.countReset n).cab n).tot.resets = (s.cab n).tot.resets + 1 := by
  unfold State.countReset
  dsimp only
  rw [State.cab_setCab_same]

theorem cabResetDone_answers {r : CabReset} {b : Nat} (h : s.rcv.cabResets.find? (fun r => r.cab == n) = some r) (hb : r.began = some b)
    (hclear : ∀ c ∈ s.ts.cmds, c.cab = n → c.onTiles = false) :
    (∀ r ∈ (cabResetDone n s).rcv.cabResets, r.cab ≠ n) ∧
    mapGet 1 n (cabResetDone n s).rcv.cabEp = (mapGet 1 n s.rcv.cabEp + 1) % 2 ^ 32 ∧
    ((cabResetDone n s).cab n).tot.resets = (s.cab n).tot.resets + 1 := by
  have hrcv : ((((epochRaised s n).confirmTiles ((epochRaised s n).tilesOf n))).countReset n).rcv = (epochRaised s n).rcv :=
    confirmTiles_rcv _ _
  have hcab : ((epochRaised s n).confirmTiles ((epochRaised s n).tilesOf n)).cab n = s.cab n :=
    congrArg (mapGet ({} : Cab) n) (confirmTiles_cabs (epochRaised s n) _)
  obtain ⟨h1, h2, h3⟩ := endRst_rcv ((((epochRaised s n).confirmTiles ((epochRaised s n).tilesOf n))).countReset n) (.cabinet n)
  rw [cabResetDone_of_clear h hb hclear]
  refine ⟨fun x hx => ?_, ?_, ?_⟩
  · rw [h1, hrcv] at hx
    obtain ⟨-, hne⟩ := List.mem_filter.1 hx
    exact bne_iff_ne.1 hne
  · rw [h2, hrcv]
    exact mapGet_set_same _ _ _ _
  · refine (congrArg (fun m => (mapGet ({} : Cab) n m).tot.resets) h3).trans ((countReset_tot _ n).trans ?_)
    rw [hcab]

end

/-! ### The fault ring's configuration (R372) -/

section
variable {s : State} {v : Word}

/-- FLT_CFG as it is stored, but for EN. -/
def ringWord (v : Word) : Word := pack [(8, fld v 12 8), (2, fld v 2 2), (1, fld v 1 1)]

theorem fltWrite_en : s.fltWrite (setFld v 0 0 1) = if !s.fltReady (ringWord v) then s.setReg rFltCfg (ringWord v)
    else if s.rfld rFltCfg 0 0 = 1 then s.setReg rFltCfg (setFld (ringWord v) 0 0 1)
    else { (s.setReg rFltCfg (setFld (ringWord v) 0 0 1)).setReg rFltStat 0 with rcv := { s.rcv with faults := 0 } } := by
  have hen : fld (setFld v 0 0 1) 0 0 = 1 := fld_setFld_same (by decide) (by decide) v 1
  have h12 : fld (setFld v 0 0 1) 12 8 = fld v 12 8 := fld_setFld_bit0 (by decide) v 1
  have h2 : fld (setFld v 0 0 1) 2 2 = fld v 2 2 := fld_setFld_bit0 (by decide) v 1
  have h1 : fld (setFld v 0 0 1) 1 1 = fld v 1 1 := fld_setFld_bit0 (by decide) v 1
  unfold State.fltWrite
  dsimp only
  rw [h12, h2, h1, hen, if_neg Nat.one_ne_zero]
  rfl

theorem fltWrite_of_bad (h : s.fltReady (ringWord v) = false) : s.fltWrite (setFld v 0 0 1) = s.setReg rFltCfg (ringWord v) := by
  rw [fltWrite_en, if_pos (by rw [h]; rfl)]

theorem fltWrite_of_on (h : s.fltReady (ringWord v) = true) (hon : s.rfld rFltCfg 0 0 = 1) :
    s.fltWrite (setFld v 0 0 1) = s.setReg rFltCfg (setFld (ringWord v) 0 0 1) := by
  rw [fltWrite_en, if_neg (by rw [h]; exact Bool.false_ne_true), if_pos hon]

theorem fltWrite_of_off (h : s.fltReady (ringWord v) = true) (hoff : s.rfld rFltCfg 0 0 = 0) :
    (s.fltWrite (setFld v 0 0 1)).reg rFltCfg = setFld (ringWord v) 0 0 1 ∧ (s.fltWrite (setFld v 0 0 1)).reg rFltStat = 0 ∧
    (s.fltWrite (setFld v 0 0 1)).rcv.faults = 0 := by
  rw [fltWrite_en, if_neg (by rw [h]; exact Bool.false_ne_true), if_neg (by rw [hoff]; decide)]
  have hreg : ∀ off, ({ (s.setReg rFltCfg (setFld (ringWord v) 0 0 1)).setReg rFltStat 0 with rcv := { s.rcv with faults := 0 } } : State).reg off =
      ((s.setReg rFltCfg (setFld (ringWord v) 0 0 1)).setReg rFltStat 0).reg off := reg_of_regs rfl
  rw [hreg, hreg, State.reg_setReg, if_neg (by decide), State.reg_setReg_same]
  exact ⟨rfl, State.reg_setReg_same .., rfl⟩

end

/-! ### Dumps (R393 to R395) -/

section
variable {s : State}

theorem dumpReadTimeout_of_none (u off : Nat) (h : s.rcv.dump = none) : dumpReadTimeout u off s = s := by
  unfold dumpReadTimeout
  rw [h]

theorem dumpReadTimeout_of_some {u off : Nat} {d : Dump} (h : s.rcv.dump = some d) (ho : off ∈ unitRegs u) (hb : mapFind u d.bad = none) :
    dumpReadTimeout u off s = { s with rcv := { s.rcv with dump := some { d with bad := mapPut u off d.bad } } } := by
  unfold dumpReadTimeout
  rw [h]
  exact if_pos (by simp [ho, hb])

theorem dumpComplete_of_none (h : s.rcv.dump = none) : dumpComplete s = s := by
  unfold dumpComplete
  rw [h]

/-- What a complete dump writes: its records, then the header with its final state. -/
def dumpWritten (s : State) (d : Dump) : State :=
  let us := s.dumpUnits d.first
  let recs := us.map (fun u => s.unitRecord u (mapFind u d.bad) false)
  let fit := fitting (2 ^ 28) 4096 recs
  (((({ s with free := s.free + 1 } : State).chestWrite d.host 4096 (fit.flatMap pad64)).endHeader d
    (if fit.length = recs.length then 2 else 3) fit.length ((us.take fit.length).filter (s.unreadable d)).length).dumpEnded d)

theorem dumpComplete_of_some {d : Dump} (h : s.rcv.dump = some d) : dumpComplete s = dumpWritten s d := by
  unfold dumpComplete
  rw [h]
  rfl

theorem dumpExpiry_of_none (h : s.rcv.dump = none) : dumpExpiry s = s := by
  unfold dumpExpiry
  rw [h]

theorem dumpExpiry_of_some {d : Dump} (h : s.rcv.dump = some d) :
    dumpExpiry s = if s.dumpLimit d then (s.endHeader d 3 0 0).dumpEnded d else s := by
  unfold dumpExpiry
  rw [h]

end

theorem exec_cabinetResetLimitMiss {s : State} (n : Sys2Proof.CabId) (h : s.frozen = false) : exec (.cabinetResetLimitMiss n) s =
    .next (if s.rcv.cabResets.any (fun r => r.cab == n.val && r.began.any (fun t => decide (t + 2000000 ≤ s.mono))) then
      s.escalate uPlinth 4 (some n.val) else s) :=
  exec_of_awake (f := fun s => if s.rcv.cabResets.any (fun r => r.cab == n.val && r.began.any (fun t => decide (t + 2000000 ≤ s.mono))) then
    s.escalate uPlinth 4 (some n.val) else s) rfl h

theorem exec_fltEnable {s : State} (v : Word) (h : s.hostUp = true) :
    exec (.fltEnable 0 v) s = .next ((s.wakeBlock 1).fltWrite (setFld v 0 0 1)) :=
  exec_of_mayReach (g := fun s => s.fltWrite (setFld v 0 0 1)) rfl (mayReach_of_neverHeld (off := rFltCfg) rfl h)

/-- Settles O50. -/
theorem contextAndCabinetResetsAndDumps : Obligations.ContextAndCabinetResetsAndDumps := by
  refine ⟨⟨fun n c s hf => ?context, fun n s hf => ?cabinet⟩, fun v s hup => ?ring, fun u o s hs => ?dump, fun s hup => ?limit, fun s => ?watchdog⟩
  case context =>
    refine ⟨fun hr hc => ?_, fun hn => ?_, fun he => ?_, fun ht hd hts hdce hw => ?_⟩
    · exact (exec_of_awake (f := contextResetDone n.val c.val) rfl hf).trans (congrArg _ (contextResetDone_of_clear hr hc))
    · exact idles_of_awake (f := contextResetDone n.val c.val) rfl hf (contextResetDone_of_not hn)
    · exact idles_of_awake (f := contextLimit n.val c.val) rfl hf (contextLimit_of_early he)
    · exact (exec_of_awake (f := contextLimit n.val c.val) rfl hf).trans (congrArg _ (contextLimit_of_late ht hd hts hdce hw))
  case cabinet =>
    refine ⟨fun h => ⟨?_, ?_, ?_⟩, fun r b h hb => ⟨fun hbusy => ?_, fun hclear => ⟨_, exec_of_awake (f := cabResetDone n.val) rfl hf,
      cabResetDone_answers h hb hclear⟩, fun ht => ?_, fun ht => ?_⟩⟩
    · exact idles_of_awake (f := cabResetDone n.val) rfl hf (cabResetDone_of_none h)
    · exact idles_of_awake (f := cabDirectLimit n.val) rfl hf (cabDirectLimit_of_none h)
    · exact (exec_cabinetResetLimitMiss n hf).trans (congrArg _ (if_neg (by rw [noCabReset_any h]; exact Bool.false_ne_true)))
    · exact idles_of_awake (f := cabResetDone n.val) rfl hf (cabResetDone_of_busy h hb hbusy)
    · exact (exec_of_awake (f := cabDirectLimit n.val) rfl hf).trans (congrArg _ (cabDirectLimit_of_late h hb ht))
    · exact (exec_cabinetResetLimitMiss n hf).trans (congrArg _ (if_pos (cabReset_any h hb (decide_eq_true ht))))
  case ring =>
    refine ⟨fun hon hr => ?_, fun hr => ?_, fun hoff hr => ⟨_, exec_fltEnable v hup, fltWrite_of_off hr hoff⟩⟩
    · exact (exec_fltEnable v hup).trans (congrArg _ (fltWrite_of_on hr hon))
    · exact (exec_fltEnable v hup).trans (congrArg _ (fltWrite_of_bad hr))
  case dump =>
    refine ⟨fun h => ⟨?_, ?_⟩, fun d h ho hb => ?_, fun d h => ?_⟩
    · exact idles_of_work rfl hs (dumpReadTimeout_of_none u.val o.val h)
    · exact idles_of_work rfl hs (dumpComplete_of_none h)
    · exact (exec_of_work rfl hs).trans (congrArg _ (dumpReadTimeout_of_some h ho hb))
    · exact (exec_of_work rfl hs).trans (congrArg _ (dumpComplete_of_some h))
  case limit =>
    refine ⟨fun h => ?_, fun d h hl => ?_, fun d h hl => ?_⟩
    · exact (exec_of_coreUp (f := dumpExpiry) rfl hup).trans (congrArg _ (dumpExpiry_of_none h))
    · exact (exec_of_coreUp (f := dumpExpiry) rfl hup).trans (congrArg _ ((dumpExpiry_of_some h).trans (if_neg (by rw [hl]; exact Bool.false_ne_true))))
    · exact (exec_of_coreUp (f := dumpExpiry) rfl hup).trans (congrArg _ ((dumpExpiry_of_some h).trans (if_pos hl)))
  case watchdog =>
    refine ⟨fun h => ?_, fun h => ?_⟩
    · exact congrArg Host.Outcome.next (if_pos (beq_iff_eq.2 h))
    · exact congrArg Host.Outcome.next (if_neg (by simpa using h))

end Sys2Proof.Machine
end

section
/-! PROOFS. Cold starts, the rungs, the clock and the timestamp (O51, O52; R401, R402, R411, R420, R423, R424, R431, R432, R470, R486). -/
namespace Sys2Proof.Machine

/-- A command answers any state that equals the one it answers. -/
theorem exec_congr {c : Sys2Proof.Instr} {s a b : State} (he : exec c s = .next a) (hab : a = b) : exec c s = .next b := by rw [he, hab]

/-! ### Power-on, fuses and LIFECYCLE (R402, R423, R431, R432) -/

section
variable {s : State}

theorem fuseLoad_of_other (h : s.pln.phase ≠ .fuse) (f : Option Fuses) : fuseLoad f s = s := if_pos (bne_iff_ne.2 h)

theorem fuseLoad_of_failed (h : s.pln.phase = .fuse) : fuseLoad none s = s.halt 1 := if_neg (by simp [h])

/-- The state with the fuse words taken, LIFECYCLE begun. -/
def fused (s : State) (f : Fuses) : State :=
  { s with fuse := Fuses.burned s.fuse f, lc := { s.lc with raw := (Fuses.burned s.fuse f).lc },
           pln := { s.pln with phase := .lifecycle, phaseAt := s.now } }

theorem fuseLoad_of_whole {f : Fuses} (h : s.pln.phase = .fuse) (hopen : openPairs (Fuses.burned s.fuse f).lc = []) :
    fuseLoad (some f) s = fused s f := (if_neg (by simp [h])).trans (if_pos hopen)

theorem raiseRung_phase (s : State) : s.raiseRung.pln.phase = s.pln.phase := by
  unfold State.raiseRung
  split <;> rfl

/-- The state whose life-cycle state is in force. -/
def known (s : State) : State := { s with lc := { s.lc with state := highPair s.fuse.lc, completed := s.lc.raw != s.fuse.lc } }

theorem lifecycleDone_eq (hp : s.pln.phase = .lifecycle) (hj : s.lc.job = none) : lifecycleDone s =
    if highPair s.fuse.lc = 5 then (known s).halt 0x0F
    else ({ known s with pln := { s.pln with phase := .power, phaseAt := s.now } } : State).raiseRung :=
  if_pos (by rw [hp, hj]; rfl)

theorem lifecycleDone_of_live (hp : s.pln.phase = .lifecycle) (hj : s.lc.job = none) (h5 : highPair s.fuse.lc ≠ 5) :
    (lifecycleDone s).lc.state = highPair s.fuse.lc ∧ (lifecycleDone s).lc.completed = (s.lc.raw != s.fuse.lc) ∧
    (lifecycleDone s).pln.phase = .power := by
  rw [lifecycleDone_eq hp hj, if_neg h5, State.raiseRung_lc, raiseRung_phase]
  exact ⟨rfl, rfl, rfl⟩

theorem lifecycleDone_of_other (h : s.pln.phase ≠ .lifecycle ∨ s.lc.job ≠ none) : lifecycleDone s = s := by
  refine if_neg fun hc => ?_
  obtain ⟨hp, hj⟩ := Bool.and_eq_true_iff.1 hc
  exact h.elim (fun hne => hne (beq_iff_eq.1 hp)) fun hne => hne (Option.isNone_iff_eq_none.1 hj)

theorem halt_of_start (h : s.pln.afterChip = false) (code : Nat) : (s.halt code).lc = s.lc ∧ (s.halt code).pln.phase = .halted ∧
    (s.halt code).pln.fail = code := by
  unfold State.halt
  dsimp only
  rw [if_neg]
  · exact ⟨rfl, rfl, rfl⟩
  · exact fun hc => Bool.false_ne_true (h.symm.trans hc)

theorem wakePin_of_off (hp : s.pln.phase = .run) (hh : s.pln.held = false) (h4 : s.pln.power = 4) (hr : s.pln.ready = 0) :
    wakePin s = s.coldStart := by
  have hrun : (s.pln.phase != .run || s.pln.held) = false := by rw [hp, hh]; rfl
  rw [wakePin, hrun, if_neg Bool.false_ne_true, if_pos h4, if_pos hr]

theorem wakePin_of_on (hp : s.pln.phase = .run) (hh : s.pln.held = false) (h4 : s.pln.power ≠ 4) : wakePin s = s.wakeBlock 0 := by
  have hrun : (s.pln.phase != .run || s.pln.held) = false := by rw [hp, hh]; rfl
  rw [wakePin, hrun, if_neg Bool.false_ne_true, if_neg h4]

theorem wakePin_of_other (h : s.pln.phase ≠ .run ∨ s.pln.held = true) : wakePin s = s := if_pos (by simpa using h)

/-! ### Memory (R402, R404) -/

/-- A gate that the memory phase still waits for has answered. -/
def gateReady (s : State) (g : Nat) : State := { s with pln := { s.pln with init := s.pln.init.filter (fun x => x != g) } }

theorem memInitDone_of_due {g : Nat} (hp : s.pln.phase = .memory) (hg : g ∈ s.pln.init) :
    memInitDone g s = if (gateReady s g).pln.init = [] then (gateReady s g).release else gateReady s g := if_pos (by simp [hp, hg])

/-- The memory phase waits for the gate. -/
theorem memDue_iff (s : State) (g : Nat) : (s.pln.phase == .memory && s.pln.init.contains g) = true ↔ s.pln.phase = .memory ∧ g ∈ s.pln.init := by
  simp

theorem memInitDone_of_idle {g : Nat} (h : s.pln.phase ≠ .memory ∨ g ∉ s.pln.init) : memInitDone g s = s :=
  if_neg fun hc => h.elim (fun hn => hn ((memDue_iff s g).1 hc).1) fun hn => hn ((memDue_iff s g).1 hc).2

theorem exec_memInitFail (g : Sys2Proof.GateId) (s : State) : exec (.memInitFail g) s =
    .next (if s.pln.phase == .memory && s.pln.init.contains g.val then s.halt 0xD else s) := rfl

/-! ### Limits of the phases (R402) -/

theorem phaseTimeout_fuse (h : s.pln.phase = .fuse) : phaseTimeout s = if s.pln.phaseAt + 100000 ≤ s.now then s.halt 1 else s := by
  simp only [phaseTimeout, h, decide_eq_true_eq]

theorem phaseTimeout_image (h : s.pln.phase = .image) :
    phaseTimeout s = if s.loading = true ∧ s.pln.phaseAt + 150000000 ≤ s.now then s.flashFail else s := by
  simp only [phaseTimeout, h, Bool.and_eq_true, decide_eq_true_eq]

theorem phaseTimeout_memory (h : s.pln.phase = .memory) :
    phaseTimeout s = if s.pln.phaseAt + 100000000 ≤ s.now then s.halt 0xD else s := by
  simp only [phaseTimeout, h, decide_eq_true_eq]

end

/-- Settles O51. -/
theorem coldStartsAndMemoryRelease : Obligations.ColdStartsAndMemoryRelease := by
  refine ⟨fun s => ⟨fun h => ?_, fun h => ?_, rfl, fun h f => ?_, fun h => ?_, fun f h ho => ⟨_, rfl, ?_⟩,
    fun hp hj => ⟨fun h5 => ⟨_, rfl, lifecycleDone_of_live hp hj h5⟩, fun h5 ha => ⟨_, rfl, ?_⟩⟩, fun h => ?_, fun hp hh => ⟨fun h4 hr => ⟨_, rfl, ?_⟩, fun h4 => ?_⟩, fun h => ?_⟩,
    fun s => ⟨fun g hp hg => ⟨fun hl => ?_, fun hl => ?_, ?_⟩, fun g h => ⟨?_, ?_⟩, fun h => ?_, fun h => ?_, fun h => ?_⟩⟩
  · exact congrArg Host.Outcome.next (if_pos (beq_iff_eq.2 h))
  · exact congrArg Host.Outcome.next (if_neg fun hc => h (beq_iff_eq.1 hc))
  · exact exec_congr rfl (fuseLoad_of_other h f)
  · exact exec_congr rfl (fuseLoad_of_failed h)
  · dsimp only
    rw [fuseLoad_of_whole h ho]
    exact ⟨rfl, rfl, rfl, rfl⟩
  · dsimp only
    rw [lifecycleDone_eq hp hj, if_pos h5]
    obtain ⟨hlc, hphase, hfail⟩ := halt_of_start (s := known s) ha 0x0F
    exact ⟨(congrArg LcUnit.state hlc).trans h5, hphase, hfail⟩
  · exact exec_congr rfl (lifecycleDone_of_other h)
  · dsimp only
    rw [wakePin_of_off hp hh h4 hr]
    exact ⟨rfl, rfl, rfl, rfl⟩
  · exact exec_congr rfl (wakePin_of_on hp hh h4)
  · exact exec_congr rfl (wakePin_of_other h)
  · exact exec_congr rfl ((memInitDone_of_due hp hg).trans (if_neg hl))
  · exact exec_congr rfl ((memInitDone_of_due hp hg).trans (if_pos hl))
  · exact (exec_memInitFail g s).trans (congrArg Host.Outcome.next (if_pos ((memDue_iff s g.val).2 ⟨hp, hg⟩)))
  · exact exec_congr rfl (memInitDone_of_idle h)
  · exact (exec_memInitFail g s).trans (congrArg Host.Outcome.next (if_neg fun hc =>
      h.elim (fun hn => hn ((memDue_iff s g.val).1 hc).1) fun hn => hn ((memDue_iff s g.val).1 hc).2))
  · exact exec_congr rfl (phaseTimeout_fuse h)
  · exact exec_congr rfl (phaseTimeout_image h)
  · exact exec_congr rfl (phaseTimeout_memory h)

/-! ### The rungs (R402, R420) -/

section
variable {s : State} {r : Nat}

/-- The state with a ready of a rung risen, and with one fallen. -/
def readyUp (s : State) (r : Nat) : State := { s with pln := { s.pln with ready := s.pln.ready ||| 2 ^ r } }
def readyDown (s : State) (r : Nat) : State := { s with pln := { s.pln with ready := s.pln.ready - 2 ^ r } }

theorem rungUp_eq (hq : s.pln.req.testBit r = true) (hr : s.pln.ready.testBit r = false) : s.rungUp r =
    if (readyUp s r).pln.ready ≠ 15 then (readyUp s r).raiseRung
    else if s.pln.phase == .power then { readyUp s r with pln := { (readyUp s r).pln with phase := .image, phaseAt := s.now } }
    else if s.pln.phase == .image then { readyUp s r with pln := { (readyUp s r).pln with phaseAt := s.now } }
    else if s.pln.waking then (readyUp s r).woken
    else readyUp s r := if_pos (by rw [hq, hr]; rfl)

/-- The last rung is up. -/
theorem rungUp_of_last (hq : s.pln.req.testBit r = true) (hr : s.pln.ready.testBit r = false) (h15 : (readyUp s r).pln.ready = 15) :
    (s.pln.phase = .power → s.rungUp r = { readyUp s r with pln := { (readyUp s r).pln with phase := .image, phaseAt := s.now } }) ∧
    (s.pln.phase = .image → s.rungUp r = { readyUp s r with pln := { (readyUp s r).pln with phaseAt := s.now } }) ∧
    (s.pln.phase = .run → s.pln.waking = true → s.rungUp r = (readyUp s r).woken) := by
  rw [rungUp_eq hq hr, if_neg (Classical.not_not.2 h15)]
  refine ⟨fun hp => if_pos (beq_iff_eq.2 hp), fun hp => ?_, fun hp hw => ?_⟩
  · exact (if_neg (by rw [hp]; exact Bool.false_ne_true)).trans (if_pos (beq_iff_eq.2 hp))
  · exact (if_neg (by rw [hp]; exact Bool.false_ne_true)).trans ((if_neg (by rw [hp]; exact Bool.false_ne_true)).trans (if_pos hw))

theorem rungDown_of_next {q : Nat} (hq : s.pln.req.testBit r = false) (hr : s.pln.ready.testBit r = true)
    (hn : (readyDown s r).nextLower r = some q) : s.rungDown r =
      { readyDown s r with pln := { (readyDown s r).pln with req := (readyDown s r).pln.req - ((readyDown s r).pln.req &&& 2 ^ q),
                                                             rungAt := s.now } } := by
  have hc : (!s.pln.req.testBit r && s.pln.ready.testBit r) = true := by rw [hq, hr]; rfl
  unfold readyDown at hn
  unfold State.rungDown readyDown
  rw [if_pos hc]
  dsimp only
  rw [hn]

theorem rungDown_of_lowest (hq : s.pln.req.testBit r = false) (hr : s.pln.ready.testBit r = true)
    (hn : (readyDown s r).nextLower r = none) (hw : s.pln.waking = false) : s.rungDown r = readyDown s r := by
  have hc : (!s.pln.req.testBit r && s.pln.ready.testBit r) = true := by rw [hq, hr]; rfl
  unfold readyDown at hn
  unfold State.rungDown readyDown
  rw [if_pos hc]
  dsimp only
  rw [hn]
  exact if_neg (by simp [hw])

theorem rungTimeout_of_late (hb : s.pln.req.testBit r ≠ s.pln.ready.testBit r) (ht : s.pln.rungAt + 50000000 ≤ s.now) (hh : s.pln.held = false) :
    (s.pln.phase = .power ∨ s.pln.phase = .image → rungTimeout r s = s.halt (3 + r)) ∧
    (s.pln.phase = .run → rungTimeout r s = ({ s with pln := { s.pln with rungAt := s.now } } : State).powerCycle 4 uPlinth) := by
  have hc : (s.pln.req.testBit r == s.pln.ready.testBit r || decide (s.now < s.pln.rungAt + 50000000) || s.pln.held) = false := by
    simp only [hh, Bool.or_false, Bool.or_eq_false_iff, decide_eq_false_iff_not, beq_eq_false_iff_ne]
    exact ⟨hb, by omega⟩
  unfold rungTimeout
  rw [hc, if_neg Bool.false_ne_true]
  constructor
  · rintro (hp | hp) <;> rw [hp]
  · intro hp
    rw [hp]

theorem rungTimeout_of_early (h : s.pln.req.testBit r = s.pln.ready.testBit r ∨ s.now < s.pln.rungAt + 50000000) : rungTimeout r s = s := by
  refine if_pos ?_
  simp only [Bool.or_eq_true, beq_iff_eq, decide_eq_true_eq]
  exact .inl h

end

theorem exec_rungReady (r : Fin 4) (b : Bool) (s : State) :
    exec (.rungReady r b) s = .next (if s.pln.held then s else if b then s.rungUp r.val else s.rungDown r.val) := rfl

theorem exec_rungReady_of_running {s : State} (h : s.pln.held = false) (r : Fin 4) :
    exec (.rungReady r true) s = .next (s.rungUp r.val) ∧ exec (.rungReady r false) s = .next (s.rungDown r.val) := by
  rw [exec_rungReady, exec_rungReady, h]
  exact ⟨rfl, rfl⟩

theorem exec_rungReadyLost (r : Fin 4) (s : State) : exec (.rungReadyLost r) s =
    .next (if s.pln.req.testBit r.val && s.pln.ready.testBit r.val then (readyDown s r.val).powerCycle 4 uPlinth else s) := rfl

/-! ### The clock and the timestamp (R401, R424) -/

/-- The measured clock and its flag are fields of one register. -/
theorem fld_setFld_clock (w : Word) (k : Nat) : fld (setFld w 16 16 k) 11 0 = fld w 11 0 ∧ fld (setFld w 11 0 k) 16 16 = fld w 16 16 := by
  have hw := w.isLt
  simp only [setFld, fld, bitsOf, BitVec.toNat_ofNat]
  omega

section
variable {s : State}

theorem clockMeasure_of_idle (mhz : Nat) (h : s.pln.phase = .por ∨ s.pln.ready.testBit 1 = false) : clockMeasure mhz s = s :=
  if_pos (by simpa using h)

theorem clockMeasure_of_on (mhz : Nat) (hp : s.pln.phase ≠ .por) (hr : s.pln.ready.testBit 1 = true) : clockMeasure mhz s =
    if mhz < 1150 ∨ 2250 < mhz then (s.setRfld rPlnClk 11 0 mhz).setRfld rPlnClk 16 16 1 else s.setRfld rPlnClk 11 0 mhz :=
  if_neg (by simp [hp, hr])

theorem clockMeasure_answers {mhz : Nat} (hm : mhz < 4096) (hp : s.pln.phase ≠ .por) (hr : s.pln.ready.testBit 1 = true) :
    (clockMeasure mhz s).rfld rPlnClk 11 0 = mhz ∧
    (clockMeasure mhz s).rfld rPlnClk 16 16 = if mhz < 1150 ∨ 2250 < mhz then 1 else s.rfld rPlnClk 16 16 := by
  have hset : (s.setRfld rPlnClk 11 0 mhz).rfld rPlnClk 11 0 = mhz :=
    (State.rfld_setRfld_same (by decide) (by decide) s _ _).trans (Nat.mod_eq_of_lt hm)
  have hkeep : (s.setRfld rPlnClk 11 0 mhz).rfld rPlnClk 16 16 = s.rfld rPlnClk 16 16 := by
    rw [State.rfld, State.setRfld, State.reg_setReg_same, (fld_setFld_clock _ _).2, State.rfld]
  rw [clockMeasure_of_on mhz hp hr]
  by_cases hout : mhz < 1150 ∨ 2250 < mhz
  · rw [if_pos hout, if_pos hout]
    refine ⟨?_, State.rfld_setRfld_same (by decide) (by decide) _ _ 1⟩
    rw [State.rfld, State.setRfld, State.reg_setReg_same, (fld_setFld_clock _ _).1]
    exact hset
  · rw [if_neg hout, if_neg hout]
    exact ⟨hset, hkeep⟩

theorem loadTime_of_late {v : Nat} (h : v < s.now + 40) : s.loadTime v = s.bump rPlnTsStat 15 0 := if_pos h

theorem loadTime_now {v : Nat} (h : s.now + 40 ≤ v) : (s.loadTime v).now = v := by
  rw [State.loadTime, if_neg (by omega)]
  exact (kept_State_closeWindows (m := 4) (by decide) (.refl _ _)).now rfl

end

theorem exec_blkLockSet {s : State} (v : Word) (h : s.hostUp = true) : exec (.blkLockSet 0 v) s = .next ((s.wakeBlock 1).writePlain rLock v) :=
  exec_of_mayReach (g := fun s => s.writePlain rLock v) rfl (mayReach_of_neverHeld (off := rLock) rfl h)

theorem exec_plnTsLoadWrite {s : State} (v : Word) (h : s.hostUp = true) :
    exec (.plnTsLoadWrite 0 v) s = .next ((s.wakeBlock 1).loadTime v.toNat) :=
  exec_of_mayReach (g := fun s => s.loadTime v.toNat) rfl (mayReach_of_neverHeld (off := 0x10018) rfl h)

/-- Settles O52. -/
theorem rungsClockAndTimestamp : Obligations.RungsClockAndTimestamp := by
  refine ⟨fun r s => ⟨fun hh => ⟨fun hq hr => ⟨fun h15 => ?_, fun h15 hp => ?_, fun h15 hp => ?_, fun h15 hp hw => ?_⟩,
      fun hq hr => ⟨fun q hn => ?_, fun hn hw => ?_⟩⟩, fun hh b => ?_, fun hq hr => ?_, fun h => ?_,
      fun hb ht hh => ⟨fun hp => ?_, fun hp => ?_⟩, fun h => ?_⟩,
    fun s => ⟨fun mhz => ⟨fun h => ?_, fun hp hr => ⟨_, rfl, clockMeasure_answers mhz.isLt hp hr⟩⟩, fun v hup => exec_blkLockSet v hup,
      fun v hup => ⟨fun h => ?_, fun h => ⟨_, exec_plnTsLoadWrite v hup, loadTime_now h⟩⟩, fun f v hf => ⟨?_, ?_⟩⟩⟩
  · exact exec_congr (exec_rungReady_of_running hh r).1 ((rungUp_eq hq hr).trans (if_pos h15))
  · exact exec_congr (exec_rungReady_of_running hh r).1 ((rungUp_of_last hq hr h15).1 hp)
  · exact exec_congr (exec_rungReady_of_running hh r).1 ((rungUp_of_last hq hr h15).2.1 hp)
  · exact exec_congr (exec_rungReady_of_running hh r).1 ((rungUp_of_last hq hr h15).2.2 hp hw)
  · exact exec_congr (exec_rungReady_of_running hh r).2 (rungDown_of_next hq hr hn)
  · exact exec_congr (exec_rungReady_of_running hh r).2 (rungDown_of_lowest hq hr hn hw)
  · exact exec_congr (exec_rungReady r b s) (if_pos hh)
  · exact exec_congr (exec_rungReadyLost r s) (if_pos (by rw [hq, hr]; rfl))
  · exact exec_congr (exec_rungReadyLost r s) (if_neg (by rcases h with h | h <;> simp [h]))
  · exact exec_congr rfl ((rungTimeout_of_late hb ht hh).1 hp)
  · exact exec_congr rfl ((rungTimeout_of_late hb ht hh).2 hp)
  · exact exec_congr rfl (rungTimeout_of_early h)
  · exact exec_congr rfl (clockMeasure_of_idle mhz.val h)
  · exact exec_congr (exec_plnTsLoadWrite v hup) (loadTime_of_late h)
  · exact congrArg Host.Outcome.next (platform_of_tenant fun hv => hf (Fin.ext hv))
  · exact congrArg Host.Outcome.next (platform_of_tenant fun hv => hf (Fin.ext hv))

end Sys2Proof.Machine
end

section
/-! PROOFS. The configuration image (O53; R405 to R409). -/
namespace Sys2Proof.Machine

/-! ### The header -/

section
variable {s : State} {h : List Sys2Proof.Byte}

theorem imageHeader_of_bad {c : Nat} (hl : s.loading = true) (hi : s.pln.image = none) (hn : h.length = 512) (hf : s.headerFails h = some c) :
    imageHeader h s = s.imageFail c := by
  have hc : (!s.loading || s.pln.image.isSome || h.length != 512) = false := by rw [hl, hi, hn]; rfl
  rw [imageHeader, hc, if_neg Bool.false_ne_true, hf]

/-- The image whose header is `h`, its body not yet read. -/
def headerImage (s : State) (h : List Sys2Proof.Byte) : Image :=
  { len := leAt h 8 4, digest := (h.drop 64).take 48, svn := leAt h 12 4, saved := s.regs }

theorem imageHeader_of_good (hl : s.loading = true) (hi : s.pln.image = none) (hn : h.length = 512) (hf : s.headerFails h = none) :
    imageHeader h s = { s with pln := { s.pln with image := some (headerImage s h) } } := by
  have hc : (!s.loading || s.pln.image.isSome || h.length != 512) = false := by rw [hl, hi, hn]; rfl
  rw [imageHeader, hc, if_neg Bool.false_ne_true, hf]
  rfl

end

/-! ### Records -/

/-- The record is in order, and leaves room for END. -/
def recordFits (m : Image) (r : List Sys2Proof.Byte) (ty : Nat) : Prop :=
  recordOk r = true ∧ m.body.length + r.length + (if ty = 0 then 0 else 8) ≤ m.len

section
variable {s : State} {m : Image} {r : List Sys2Proof.Byte} {ty : Nat} {f : Image → List Sys2Proof.Byte → State → State}
  (hl : s.loading = true) (hi : s.pln.image = some m)
include hl hi

theorem takeRecord_of_bad (h : ¬ recordFits m r ty) : s.takeRecord ty r f = s.imageUndo m 0x08 := by
  have hbad : (!recordOk r || decide (m.len < m.body.length + r.length + (if ty = 0 then 0 else 8))) = true := by
    rw [Bool.or_eq_true, Bool.not_eq_true', decide_eq_true_eq]
    refine Classical.byContradiction fun hc => ?_
    rw [not_or, Bool.not_eq_false, Nat.not_lt] at hc
    exact h hc
  unfold State.takeRecord
  rw [hi]
  dsimp only
  rw [if_neg (by rw [hl]; exact Bool.false_ne_true), if_pos hbad]

theorem takeRecord_of_fits (h : recordFits m r ty) (ht : leAt r 0 1 = ty) :
    s.takeRecord ty r f = f { m with body := m.body ++ r } (r.drop 8) s := by
  obtain ⟨hok, hlen⟩ := h
  have hgood : (!recordOk r || decide (m.len < m.body.length + r.length + (if ty = 0 then 0 else 8))) = false := by
    rw [hok, decide_eq_false (Nat.not_lt.2 hlen)]
    rfl
  unfold State.takeRecord
  rw [hi]
  dsimp only
  rw [if_neg (by rw [hl]; exact Bool.false_ne_true), hgood, if_neg Bool.false_ne_true, if_neg (Classical.not_not.2 ht)]

end

/-- Each record command takes a record of its type. -/
theorem exec_record_mem {r : List Sys2Proof.Byte} {e : Nat × Sys2Proof.Instr}
    (he : e ∈ [(0, Sys2Proof.Instr.imageEndRecord r), (1, .imageRegRecord r), (2, .imageTableRecord r), (3, .imageCabinetRecord r), (4, .imageTrimRecord r)])
    (s : State) : ∃ f, exec e.2 s = .next (s.takeRecord e.1 r f) := by
  simp only [List.mem_cons, List.not_mem_nil, or_false] at he
  obtain rfl | rfl | rfl | rfl | rfl := he
  · exact ⟨endRecord, rfl⟩
  · exact ⟨regRecord, rfl⟩
  · exact ⟨tableRecord, rfl⟩
  · exact ⟨cabinetRecord, rfl⟩
  · exact ⟨fun m _ s => s.setImage m, rfl⟩

section
variable {s : State} {m : Image} {b : List Sys2Proof.Byte}

theorem regRecord_of_bad (h : b.length ≠ 16 ∨ imageReg (leAt b 0 8) = false) : regRecord m b s = s.imageUndo m 0x08 := if_pos h

/-- The state in which a REG record has written its register. -/
def regWritten (s : State) (m : Image) (b : List Sys2Proof.Byte) : State :=
  (s.setImage m).writeReg (leAt b 0 8) (BitVec.ofNat 64 (leAt b 8 8))

theorem regRecord_of_good {row : RegRow} (hb : b.length = 16) (hr : imageReg (leAt b 0 8) = true) (hrow : regRow (leAt b 0 8) = some row) :
    regRecord m b s =
      if (regWritten s m b).readReg (leAt b 0 8) &&& BitVec.ofNat 64 (row.rw + row.rwl) =
          BitVec.ofNat 64 (leAt b 8 8) &&& BitVec.ofNat 64 (row.rw + row.rwl) then regWritten s m b
      else (regWritten s m b).imageUndo m 0x0C := by
  have hgood : ¬ (b.length ≠ 16 ∨ imageReg (leAt b 0 8) = false) := by rw [hb, hr]; simp
  unfold regRecord
  dsimp only
  rw [if_neg hgood, hrow]
  rfl

/-- A TABLE record that is no expert's table. -/
theorem tableRecord_eq (hb : b.length = 1096) (he : leAt b 0 4 = 0) (hz : zeroAt b 4 4 = true) (hs : m.slot ≠ 0) : tableRecord m b s =
    if (loaderCheck (b.drop 8)).isSome then s.setImage { m with slot := m.slot - 1, exp := m.exp || false }
    else ((s.setImage { m with slot := m.slot - 1, exp := m.exp || false, tables := m.tables + 1 }).setSlot (m.slot - 1)
      { st := .held, image := true, version := ((s.slot (m.slot - 1)).version + 1) % 65536, bytes := b.drop 8 }).deliverSlot (m.slot - 1)
        ((List.range 256).filter s.tie.tiles.testBit) := by
  have hexp : (leAt b 0 4 == 1) = false := by rw [he]; rfl
  have hgood : ¬ (b.length ≠ 1096 ∨ 1 < leAt b 0 4 ∨ zeroAt b 4 4 = false ∨ (false = true ∧ m.exp = true) ∨ m.slot = 0) := by
    simp [hb, he, hz, hs]
  unfold tableRecord
  dsimp only
  rw [hexp, if_neg hgood]
  rfl

theorem tableRecord_of_bad (hb : b.length = 1096) (he : leAt b 0 4 = 0) (hz : zeroAt b 4 4 = true) (hs : m.slot ≠ 0)
    (hc : loaderCheck (b.drop 8) ≠ none) : tableRecord m b s = s.setImage { m with slot := m.slot - 1 } := by
  rw [tableRecord_eq hb he hz hs, if_pos (Option.isSome_iff_ne_none.2 hc), Bool.or_false]

theorem tableRecord_of_good (hb : b.length = 1096) (he : leAt b 0 4 = 0) (hz : zeroAt b 4 4 = true) (hs : m.slot ≠ 0)
    (hc : loaderCheck (b.drop 8) = none) : tableRecord m b s =
      ((s.setImage { m with slot := m.slot - 1, tables := m.tables + 1 }).setSlot (m.slot - 1)
        { st := .held, image := true, version := ((s.slot (m.slot - 1)).version + 1) % 65536, bytes := b.drop 8 }).deliverSlot (m.slot - 1)
          ((List.range 256).filter s.tie.tiles.testBit) := by
  rw [tableRecord_eq hb he hz hs, hc, Bool.or_false]
  exact if_neg Bool.false_ne_true

theorem cabinetRecord_of_good (hb : b.length = 208) (hz : zeroAt b 1 7 = true) :
    cabinetRecord m b s = s.setImage { m with cabs := m.cabs ++ [b] } := if_neg (by simp [hb, hz])

theorem endRecord_of_bad (hb : b = []) (hn : m.body.length = m.len) (hd : digest m.body ≠ m.digest) : endRecord m b s = s.imageUndo m 0x0A :=
  (if_neg (by simp [hb, hn])).trans (if_pos hd)

/-- The state in which the whole image is taken. -/
def imageTaken (s : State) (m : Image) : State :=
  { s with pln := { s.pln with imageOk := true, image := none, records := m.cabs, svn := m.svn, tables := m.tables, cabRecs := m.cabs.length } }

theorem endRecord_of_good (hb : b = []) (hn : m.body.length = m.len) (hd : digest m.body = m.digest) :
    endRecord m b s = (imageTaken s m).beginMemory := (if_neg (by simp [hb, hn])).trans (if_neg (Classical.not_not.2 hd))

end

theorem exec_imageFlashTimeout (b : Bool) (s : State) : exec (.imageFlashTimeout b) s =
    .next (if s.loading && (b || (s.pln.image.isNone && decide (s.pln.phaseAt + 10000000 ≤ s.now))) then s.flashFail else s) := rfl

theorem flashFail_of_image {s : State} {m : Image} (hi : s.pln.image = some m) : s.flashFail = s.imageUndo m 0x07 := by
  unfold State.flashFail
  rw [hi]

/-- Settles O53. -/
theorem theImageIsLoadedRecordByRecord : Obligations.TheImageIsLoadedRecordByRecord := by
  refine ⟨fun h s hl hi hn => ⟨fun c hf => exec_congr rfl (imageHeader_of_bad hl hi hn hf), fun hf => exec_congr rfl (imageHeader_of_good hl hi hn hf)⟩,
    fun r s m hl hi => ?records, fun b s hl => ?idle⟩
  case records =>
    intro fits m' b
    refine ⟨fun e he hbad => ?_, fun hf ht => ⟨fun hb => ?_, fun row hb hr hrow => ?_⟩, fun hf ht hb he hz hs => ⟨fun hc => ?_, fun hc => ?_⟩,
      fun hf ht hb hz => ?_, fun hf ht => ?_, fun hf ht hb hn => ⟨fun hd => ?_, fun hd => ?_⟩, ?_⟩
    · obtain ⟨f, hexec⟩ := exec_record_mem he s
      exact exec_congr hexec (takeRecord_of_bad hl hi hbad)
    · exact exec_congr rfl ((takeRecord_of_fits hl hi hf ht).trans (regRecord_of_bad hb))
    · exact exec_congr rfl ((takeRecord_of_fits hl hi hf ht).trans (regRecord_of_good hb hr hrow))
    · exact exec_congr rfl ((takeRecord_of_fits hl hi hf ht).trans (tableRecord_of_bad (m := m') hb he hz hs hc))
    · exact exec_congr rfl ((takeRecord_of_fits hl hi hf ht).trans (tableRecord_of_good (m := m') hb he hz hs hc))
    · exact exec_congr rfl ((takeRecord_of_fits hl hi hf ht).trans (cabinetRecord_of_good (m := m') hb hz))
    · exact exec_congr rfl (takeRecord_of_fits hl hi hf ht)
    · exact exec_congr rfl ((takeRecord_of_fits hl hi hf ht).trans (endRecord_of_bad (m := m') hb hn hd))
    · exact exec_congr rfl ((takeRecord_of_fits hl hi hf ht).trans (endRecord_of_good (m := m') hb hn hd))
    · exact exec_congr (exec_imageFlashTimeout true s) ((if_pos (by rw [hl]; rfl)).trans (flashFail_of_image hi))
  case idle => exact exec_congr (exec_imageFlashTimeout b s) (if_neg (by rw [hl]; exact Bool.false_ne_true))

end Sys2Proof.Machine
end

section
/-! PROOFS. Power commands, automatic entry, the quiesce handshake and wake events (O54; R414 to R421, R430). -/
namespace Sys2Proof.Machine

/-! ### PWR_CMD (R419, R430) -/

/-- OP apart, the fields of a written command. -/
theorem fld_setFld_op (v : Word) (k : Nat) : fld (setFld v 3 0 k) 6 4 = fld v 6 4 ∧ fld (setFld v 3 0 k) 8 8 = fld v 8 8 ∧
    fld (setFld v 3 0 k) 23 16 = fld v 23 16 := by
  have hv := v.isLt
  simp only [setFld, fld, bitsOf, BitVec.toNat_ofNat]
  omega

section
variable {s u : State} {v : Word}

theorem pwrCmd_of_entry (h : s.pln.entries ≠ []) (w : Word) : s.pwrCmd w = s.overrun rPwrResult := if_pos (bne_iff_ne.2 h)

theorem pwrCmd_of_accept {w : Word} (h : s.pln.entries = []) (hop : fld w 3 0 ≠ 0) (ha : s.accept rPwrResult = some u) : s.pwrCmd w =
    if fld w 3 0 = 1 then pwrEnter w u else if fld w 3 0 = 2 then pwrExit w u else u.result rPwrResult errArg 0 := by
  have hno : (s.pln.entries != []) = false := by rw [h]; rfl
  unfold State.pwrCmd
  rw [hno, if_neg Bool.false_ne_true, if_neg hop, ha]
  rfl

theorem pwrCmd_enter (h : s.pln.entries = []) (ha : s.accept rPwrResult = some u) : s.pwrCmd (setFld v 3 0 1) = pwrEnter (setFld v 3 0 1) u := by
  have hop : fld (setFld v 3 0 1) 3 0 = 1 := fld_op v 1
  rw [pwrCmd_of_accept h (by rw [hop]; decide) ha, if_pos hop]

theorem pwrCmd_exit (h : s.pln.entries = []) (ha : s.accept rPwrResult = some u) : s.pwrCmd (setFld v 3 0 2) = pwrExit (setFld v 3 0 2) u := by
  have hop : fld (setFld v 3 0 2) 3 0 = 2 := fld_op v 2
  rw [pwrCmd_of_accept h (by rw [hop]; decide) ha, if_neg (by rw [hop]; decide), if_pos hop]

theorem pwrEnter_eq (k : Nat) : pwrEnter (setFld v 3 0 k) u =
    if fld v 6 4 = 0 ∨ 4 < fld v 6 4 then u.result rPwrResult errArg 0
    else if fld v 8 8 = 1 then
      if 2 < fld v 6 4 then u.result rPwrResult errArg 0
      else if (u.cab (fld v 23 16)).st != .live ∨ fld v 6 4 < (u.cab (fld v 23 16)).power then u.result rPwrResult errState 0
      else if (u.cab (fld v 23 16)).power = fld v 6 4 then u.result rPwrResult errNone 0
      else u.startEntry (some (fld v 23 16)) (fld v 6 4) true false
    else u.startEntry none (fld v 6 4) true false := by
  obtain ⟨h64, h88, h23⟩ := fld_setFld_op v k
  unfold pwrEnter
  dsimp only
  rw [h64, h88, h23]
  rfl

theorem pwrExit_eq (k : Nat) : pwrExit (setFld v 3 0 k) u =
    if fld v 8 8 = 0 then u.result rPwrResult errArg 0
    else if (u.cab (fld v 23 16)).st != .live then u.result rPwrResult errState 0
    else (u.wakeCab (fld v 23 16) 1).result rPwrResult errNone 0 := by
  obtain ⟨-, h88, h23⟩ := fld_setFld_op v k
  unfold pwrExit
  dsimp only
  rw [h88, h23]
  rfl

/-- ENTER for the block. -/
theorem pwrEnter_block (k : Nat) (ht : fld v 6 4 ∈ [1, 2, 3, 4]) (hb : fld v 8 8 = 0) :
    pwrEnter (setFld v 3 0 k) u = u.startEntry none (fld v 6 4) true false := by
  have hrange : ¬ (fld v 6 4 = 0 ∨ 4 < fld v 6 4) := by
    simp only [List.mem_cons, List.not_mem_nil, or_false] at ht
    omega
  rw [pwrEnter_eq, if_neg hrange, if_neg (by rw [hb]; decide)]

/-- ENTER of a cabinet: its targets are IDLE and SLEEP. -/
theorem pwrEnter_deep (k : Nat) (ht : fld v 6 4 ∈ [3, 4]) (hb : fld v 8 8 = 1) : pwrEnter (setFld v 3 0 k) u = u.result rPwrResult errArg 0 := by
  simp only [List.mem_cons, List.not_mem_nil, or_false] at ht
  rw [pwrEnter_eq, if_neg (by omega), if_pos hb, if_pos (by omega)]

theorem pwrEnter_cab (k : Nat) (ht : fld v 6 4 ∈ [1, 2]) (hb : fld v 8 8 = 1) : pwrEnter (setFld v 3 0 k) u =
    if (u.cab (fld v 23 16)).st != .live ∨ fld v 6 4 < (u.cab (fld v 23 16)).power then u.result rPwrResult errState 0
    else if (u.cab (fld v 23 16)).power = fld v 6 4 then u.result rPwrResult errNone 0
    else u.startEntry (some (fld v 23 16)) (fld v 6 4) true false := by
  simp only [List.mem_cons, List.not_mem_nil, or_false] at ht
  rw [pwrEnter_eq, if_neg (by omega), if_pos hb, if_neg (by omega)]

theorem pwrEnter_live (k : Nat) (ht : fld v 6 4 ∈ [1, 2]) (hb : fld v 8 8 = 1) (hl : (u.cab (fld v 23 16)).st = .live)
    (hp : (u.cab (fld v 23 16)).power ≤ fld v 6 4) : pwrEnter (setFld v 3 0 k) u =
      if (u.cab (fld v 23 16)).power = fld v 6 4 then u.result rPwrResult errNone 0
      else u.startEntry (some (fld v 23 16)) (fld v 6 4) true false := by
  have hno : ¬ ((u.cab (fld v 23 16)).st != .live ∨ fld v 6 4 < (u.cab (fld v 23 16)).power) := by
    simp only [hl, bne_self_eq_false, Bool.false_eq_true, false_or]
    omega
  rw [pwrEnter_cab k ht hb, if_neg hno]

theorem exec_pwrCmd_mem {i : Sys2Proof.Instr} (hi : i ∈ ([.pwrNop 0 v, .pwrEnter 0 v, .pwrExit 0 v] : List Sys2Proof.Instr)) (hup : s.hostUp = true) :
    ∃ w, exec i s = .next ((s.wakeBlock 1).pwrCmd w) := by
  have hmay : s.mayReach 0x10040 := mayReach_of_neverHeld rfl hup
  simp only [List.mem_cons, List.not_mem_nil, or_false] at hi
  obtain rfl | rfl | rfl := hi
  · exact ⟨_, exec_of_mayReach (g := fun s => s.pwrCmd (setFld v 3 0 0)) rfl hmay⟩
  · exact ⟨_, exec_of_mayReach (g := fun s => s.pwrCmd (setFld v 3 0 1)) rfl hmay⟩
  · exact ⟨_, exec_of_mayReach (g := fun s => s.pwrCmd (setFld v 3 0 2)) rfl hmay⟩

theorem exec_pwrEnter (he : (s.wakeBlock 1).pln.entries = []) (h : s.takesChip 0x10040 rPwrResult u) :
    exec (.pwrEnter 0 v) s = .next (pwrEnter (setFld v 3 0 1) u) := by
  obtain ⟨hmay, hacc⟩ := h
  exact exec_congr (exec_of_mayReach (g := fun s => s.pwrCmd (setFld v 3 0 1)) rfl hmay) (pwrCmd_enter he hacc)

theorem exec_pwrExit (he : (s.wakeBlock 1).pln.entries = []) (h : s.takesChip 0x10040 rPwrResult u) :
    exec (.pwrExit 0 v) s = .next (pwrExit (setFld v 3 0 2) u) := by
  obtain ⟨hmay, hacc⟩ := h
  exact exec_congr (exec_of_mayReach (g := fun s => s.pwrCmd (setFld v 3 0 2)) rfl hmay) (pwrCmd_exit he hacc)

end

/-! ### Automatic entry (R414) -/

section
variable {s : State} {n : Nat}

theorem idleTimer_eq (hl : (s.cab n).st = .live) (hm : s.mayEnter n = true) (hp : (s.cab n).power = 0) (ht : s.rfld (rPwrCab n) 15 0 ≠ 0) :
    idleTimer n s = if !s.noWork n then s.setCab n { s.cab n with idleAt := s.mono }
      else if (s.cab n).idleAt + s.rfld (rPwrCab n) 15 0 * 1000 ≤ s.mono then s.startEntry (some n) 1 false false else s :=
  if_pos (by simp [hl, hm, hp, ht])

theorem idleTimer_of_off (h : (s.cab n).power ≠ 0 ∨ s.rfld (rPwrCab n) 15 0 = 0) : idleTimer n s = s :=
  if_neg (by rcases h with h | h <;> simp [h])

theorem sleepTimer_of_due (hl : (s.cab n).st = .live) (hm : s.mayEnter n = true) (hp : (s.cab n).power = 1) (ht : s.rfld (rPwrCab n) 31 16 ≠ 0)
    (hd : (s.cab n).idleAt + s.rfld (rPwrCab n) 31 16 * 1000000 ≤ s.mono) : sleepTimer n s = s.startEntry (some n) 2 false false :=
  if_pos (by simp [hl, hm, hp, ht, hd])

theorem sleepTimer_of_off (h : (s.cab n).power ≠ 1 ∨ s.rfld (rPwrCab n) 31 16 = 0) : sleepTimer n s = s :=
  if_neg (by rcases h with h | h <;> simp [h])

end

theorem exec_blockAutoIdle (s : State) : exec .blockAutoIdle s =
    .next (if !s.frozen && s.pln.phase == .run && s.rfld rPwrCfg 32 32 == 1 && s.pln.power == 0 && s.allAtRest 1 then
      s.startEntry none 1 false false else s) := rfl

theorem exec_blockAutoSleep (s : State) : exec .blockAutoSleep s =
    .next (if !s.frozen && s.pln.phase == .run && s.rfld rPwrCfg 33 33 == 1 && decide (s.pln.power < 2) && s.allAtRest 2 then
      s.startEntry none 2 false false else s) := rfl

/-! ### The answers of a quiesce (R416 to R419) -/

section
variable {s : State} {cab : Option Nat} {e : Entry} (h : s.entryOf cab = some e)
include h

/-- While a request is out no other entry is asked. -/
theorem askWaiting_of_asked : s.askWaiting = s := by
  refine if_pos ?_
  have hasked := List.find?_some h
  rw [Bool.and_eq_true] at hasked
  exact Bool.or_eq_true_iff.2 (.inr (List.any_eq_true.2 ⟨e, List.mem_of_find?_eq_some h, hasked.2⟩))

section
variable {who : Answerer} (hk : answerer who ∈ e.left)
include hk

theorem qsAck_low (deny : Bool) : qsAck who cab false deny s = s := by
  have hc : e.left.contains (answerer who) = true := List.contains_iff_mem.2 hk
  unfold qsAck
  rw [h]
  dsimp only
  rw [if_pos hc]
  rfl

/-- The entry without one of those it waits for, and the state that holds it. -/
def answered (e : Entry) (who : Answerer) : Entry := { e with left := e.left.filter (fun x => x != answerer who) }
def entryAnswered (s : State) (e : Entry) (who : Answerer) : State :=
  { s with pln := { s.pln with entries := s.pln.entries.map (fun x => if x == e then answered e who else x) } }

theorem qsAck_of_rest (hm : s.mayAck e who = true) : qsAck who cab true false s =
    if (answered e who).left = [] then ((entryAnswered s e who).enterState (answered e who)).askWaiting else entryAnswered s e who := by
  have hc : e.left.contains (answerer who) = true := List.contains_iff_mem.2 hk
  have hrest : (!s.mayAck e who) = false := by rw [hm]; rfl
  unfold qsAck
  rw [h]
  dsimp only
  rw [if_pos hc, hrest]
  rfl

end

/-- Both answers at once break the participant's protocol. -/
theorem qsAck_both {i : Fin 64} (hk : answerer (.port i) ∈ e.left) : qsAck (.port i) cab true true s = s.faultOn uPlinth 6 none := by
  have hc : e.left.contains (answerer (.port i)) = true := List.contains_iff_mem.2 hk
  unfold qsAck
  rw [h]
  dsimp only
  rw [if_pos hc, if_neg (show ¬ (!true) = true by decide), if_pos (show true = true from rfl)]

theorem qsDeny_port {i : Fin 64} (hk : answerer (.port i) ∈ e.left) (r : Nat) : qsDeny (.port i) cab r s =
    (s.abortEntry e (if s.unitExists (s.qsUnit i.val) = true then s.qsUnit i.val else uPlinth) r).askWaiting := by
  have hc : e.left.contains (answerer (.port i)) = true := List.contains_iff_mem.2 hk
  have hu : s.answererUnit (answerer (.port i)) = if s.unitExists (s.qsUnit i.val) = true then s.qsUnit i.val else uPlinth := by
    unfold State.answererUnit answerer
    rw [if_pos (Nat.le_add_right _ _), Nat.add_sub_cancel_left]
  unfold qsDeny
  rw [h]
  dsimp only
  rw [if_pos hc, hu]

theorem qsDeny_unit {u : Sys2Proof.UnitId} (hk : answerer (.unit u) ∈ e.left) {r : Nat} (hd : s.qsAnswer e u.val = .deny r) :
    qsDeny (.unit u) cab r s = (s.abortEntry e u.val r).askWaiting := by
  have hc : e.left.contains (answerer (.unit u)) = true := List.contains_iff_mem.2 hk
  unfold qsDeny
  rw [h]
  dsimp only
  rw [if_pos hc, if_pos (beq_iff_eq.2 hd)]

theorem qsTimeout_of_late {u : Nat} {us : List Nat} (hl : e.left.map s.answererUnit = u :: us)
    (ht : e.start + max 1 (s.rfld rPwrCfg 31 0) * 1000 ≤ s.mono) : qsTimeout cab s = (s.abortEntry e (us.foldl min u) 6).askWaiting := by
  unfold qsTimeout
  rw [h]
  dsimp only
  rw [if_pos ht, hl]

theorem qsTimeout_of_early (ht : s.mono < e.start + max 1 (s.rfld rPwrCfg 31 0) * 1000) : qsTimeout cab s = s := by
  unfold qsTimeout
  rw [h]
  exact if_neg (Nat.not_le.2 ht)

end

section
variable {s : State} {cab : Option Sys2Proof.CabId} {e : Entry} (h : s.entryOf (cab.map (·.val)) = some e)
include h

theorem exec_qsAck (hup : s.coreUp = true) (who : Answerer) (level deny : Bool) :
    exec (.qsAck who cab level deny) s = .next (qsAck who (cab.map (·.val)) level deny s) :=
  exec_congr (exec_of_coreUp (f := fun s => qsAck who (cab.map (·.val)) level deny s.askWaiting) rfl hup)
    (congrArg (qsAck who (cab.map (·.val)) level deny) (askWaiting_of_asked h))

theorem exec_qsDeny (hup : s.coreUp = true) (who : Answerer) (r : Fin 256) :
    exec (.qsDeny who cab r) s = .next (qsDeny who (cab.map (·.val)) r.val s) :=
  exec_congr (exec_of_coreUp (f := fun s => qsDeny who (cab.map (·.val)) r.val s.askWaiting) rfl hup)
    (congrArg (qsDeny who (cab.map (·.val)) r.val) (askWaiting_of_asked h))

theorem exec_qsTimeout : exec (.qsTimeout cab) s = .next (if s.frozen then s else qsTimeout (cab.map (·.val)) s) :=
  exec_congr (b := if s.frozen then s else qsTimeout (cab.map (·.val)) s) rfl (by rw [askWaiting_of_asked h])

end

/-! ### Wake events (R421) -/

theorem exec_hgWake (s : State) : exec .hgWake s = .next (if s.pln.phase == .run && !s.pln.held then s.wakeBlock 7 else s) := rfl

theorem exec_pwrWakeAtExpiry (s : State) : exec .pwrWakeAtExpiry s =
    .next (if (s.reg rPwrWakeAt).toNat != 0 && decide ((s.reg rPwrWakeAt).toNat ≤ s.now) && s.pln.phase == .run then
      (s.wakeBlock 5).setReg rPwrWakeAt 0 else s) := rfl

/-- Settles O54. -/
theorem powerEntriesExitsAndWakes : Obligations.PowerEntriesExitsAndWakes := by
  refine ⟨⟨fun v s hup he i hi => ?overrun, fun v s u he h => ?command⟩, fun s hf => ?automatic, fun who cab e s hup h hk => ?answers, fun s => ?wakes⟩
  case overrun =>
    obtain ⟨w, hw⟩ := exec_pwrCmd_mem hi hup
    exact exec_congr hw (pwrCmd_of_entry he w)
  case command =>
    intro target n
    refine ⟨fun ht => ?_, fun ht hb => ?_, fun hb => ⟨fun ht => ?_, fun ht hs => ?_, fun ht hl hp => ?_, fun ht hl hp => ?_, fun hl => ?_, fun hl => ?_⟩,
      fun hb => ?_⟩
    · exact exec_congr (exec_pwrEnter he h) ((pwrEnter_eq 1).trans (if_pos ht))
    · exact exec_congr (exec_pwrEnter he h) (pwrEnter_block 1 ht hb)
    · exact exec_congr (exec_pwrEnter he h) (pwrEnter_deep 1 ht hb)
    · exact exec_congr (exec_pwrEnter he h) ((pwrEnter_cab 1 ht hb).trans (if_pos (hs.imp_left bne_iff_ne.2)))
    · exact exec_congr (exec_pwrEnter he h) ((pwrEnter_live 1 ht hb hl (Nat.le_of_eq hp)).trans (if_pos hp))
    · exact exec_congr (exec_pwrEnter he h) ((pwrEnter_live 1 ht hb hl (Nat.le_of_lt hp)).trans (if_neg (Nat.ne_of_lt hp)))
    · exact exec_congr (exec_pwrExit he h) ((pwrExit_eq 2).trans ((if_neg (by rw [hb]; decide)).trans (if_pos (bne_iff_ne.2 hl))))
    · exact exec_congr (exec_pwrExit he h) ((pwrExit_eq 2).trans ((if_neg (by rw [hb]; decide)).trans (if_neg (by simpa using hl))))
    · exact exec_congr (exec_pwrExit he h) ((pwrExit_eq 2).trans (if_pos hb))
  case automatic =>
    refine ⟨fun n hl hm => ⟨fun hp ht hw => ?_, fun hp ht hw hd => ?_, fun hp ht hd => ?_, fun ho => ?_, fun ho => ?_⟩,
      fun hp => ⟨fun hen h0 hr => ?_, fun hen h2 hr => ?_⟩, fun ho => ?_, fun ho => ?_⟩
    · exact exec_congr (exec_of_awake (f := idleTimer n.val) rfl hf) ((idleTimer_eq hl hm hp ht).trans (if_pos (by rw [hw]; rfl)))
    · exact exec_congr (exec_of_awake (f := idleTimer n.val) rfl hf)
        ((idleTimer_eq hl hm hp ht).trans ((if_neg (by rw [hw]; exact Bool.false_ne_true)).trans (if_pos hd)))
    · exact exec_congr (exec_of_awake (f := sleepTimer n.val) rfl hf) (sleepTimer_of_due hl hm hp ht hd)
    · exact idles_of_awake (f := idleTimer n.val) rfl hf (idleTimer_of_off ho)
    · exact idles_of_awake (f := sleepTimer n.val) rfl hf (sleepTimer_of_off ho)
    · exact exec_congr (exec_blockAutoIdle s) (if_pos (by simp [hf, hp, hen, h0, hr]))
    · exact exec_congr (exec_blockAutoSleep s) (if_pos (by simp [hf, hp, hen, h2, hr]))
    · exact exec_congr (exec_blockAutoIdle s) (if_neg (by rcases ho with ho | ho <;> simp [ho]))
    · exact exec_congr (exec_blockAutoSleep s) (if_neg (by rcases ho with ho | ho <;> simp [ho]))
  case answers =>
    refine ⟨fun deny => ?_, fun i hi => ?_, fun hm => ?_, fun i r hi => ?_, fun u r hu hd => ?_, fun u us hf hl ht => ?_, fun ht => ?_⟩
    · exact exec_congr (exec_qsAck h hup who false deny) (qsAck_low h hk deny)
    · subst hi
      exact exec_congr (exec_qsAck h hup _ true true) (qsAck_both h hk)
    · exact exec_congr (exec_qsAck h hup who true false) (qsAck_of_rest h hk hm)
    · subst hi
      exact exec_congr (exec_qsDeny h hup _ r) (qsDeny_port h hk r.val)
    · subst hu
      exact exec_congr (exec_qsDeny h hup _ r) (qsDeny_unit h hk hd)
    · exact exec_congr (exec_qsTimeout h) ((if_neg (by rw [hf]; exact Bool.false_ne_true)).trans (qsTimeout_of_late h hl ht))
    · exact exec_congr (exec_qsTimeout h) (by rw [qsTimeout_of_early h ht, ite_self])
  case wakes =>
    refine ⟨fun hp hh => ?_, fun ho => ?_, fun h0 ht hp => ?_, fun ho => ?_⟩
    · exact exec_congr (exec_hgWake s) (if_pos (by rw [hp, hh]; rfl))
    · exact exec_congr (exec_hgWake s) (if_neg (by rcases ho with ho | ho <;> simp [ho]))
    · have hne : (s.reg rPwrWakeAt).toNat ≠ 0 := fun hz => h0 (BitVec.eq_of_toNat_eq hz)
      exact exec_congr (exec_pwrWakeAtExpiry s) (if_pos (by simp [hne, ht, hp]))
    · refine exec_congr (exec_pwrWakeAtExpiry s) (if_neg fun hc => ?_)
      simp only [Bool.and_eq_true, bne_iff_ne, decide_eq_true_eq, beq_iff_eq] at hc
      obtain ⟨⟨hne, hle⟩, hrun⟩ := hc
      rcases ho with ho | ho | ho
      · exact hne (by rw [ho]; rfl)
      · omega
      · exact ho hrun

end Sys2Proof.Machine
end

section
/-! PROOFS. Why O55 fails: BLK_ID in the answer to GET_INFO carries the fused INTEG_ID (R4, R427). -/
namespace Sys2Proof.Machine

/-- What a command has put out. -/
def putOut : Host.Outcome State Fault Refusal → List Out
  | .next t => t.out
  | _ => []

/-- A released block with a dynamic address, whose fuses give INTEG_ID 1. -/
def fusedBlock : State := { pln := { phase := .run, addr := some 0 }, fuse := { integId := 1 } }

/-- The body the statement gives for GET_INFO: BLK_ID as it is before the fuses are loaded. -/
def infoUnfused : List Sys2Proof.Byte :=
  toLe 8 (regReset 0).toNat ++ toLe 1 fusedBlock.lc.state ++ toLe 1 fusedBlock.pln.power ++ toLe 1 (fld fusedBlock.plnBoot 3 0) ++
    toLe 1 fusedBlock.pln.fail ++ toLe 4 fusedBlock.pln.svn

/-- Refutes O55: in operation BLK_ID is its reset value with the fused INTEG_ID added (R4), while the statement answers GET_INFO with
the reset value alone. -/
theorem not_trayRequestsAreAnswered : ¬ Obligations.TrayRequestsAreAnswered := by
  unfold Obligations.TrayRequestsAreAnswered
  rintro ⟨hrequests, -, -, -, -⟩
  obtain ⟨-, -, -, hgood⟩ := hrequests fusedBlock [] rfl
  obtain ⟨hempty, -⟩ := hgood (by decide) (by decide)
  obtain ⟨hinfo, -, -, -, -⟩ := hempty rfl
  have hanswer : exec (.getInfo []) fusedBlock = .next (fusedBlock.emit (.tray 0x01 0 infoUnfused)) := hinfo
  have hdiffers : putOut (exec (.getInfo []) fusedBlock) ≠ putOut (.next (fusedBlock.emit (.tray 0x01 0 infoUnfused))) := by decide +kernel
  exact hdiffers (congrArg putOut hanswer)

end Sys2Proof.Machine
end

section
/-! PROOFS. Life-cycle requests, burns and erases (O56; R435 to R444, R447, R448). -/
namespace Sys2Proof.Machine

/-! ### LC_CMD (R447) -/

/-- The target of a transition is no part of OP. -/
theorem fld_setFld_target (v : Word) (k : Nat) : fld (setFld v 3 0 k) 10 8 = fld v 10 8 := by
  have hv := v.isLt
  simp only [setFld, fld, bitsOf, BitVec.toNat_ofNat]
  omega

section
variable {s u : State} {v : Word}

theorem lcCmd_of_accept {w : Word} (hop : fld w 3 0 ≠ 0) (ha : s.accept rLcResult = some u) : s.lcCmd w =
    if fld w 3 0 = 1 then u.askChallenge 0
    else if fld w 3 0 = 2 then lcSubmit u
    else if fld w 3 0 = 3 then lcTransition (fld w 10 8) u
    else u.result rLcResult errArg 0 := by
  unfold State.lcCmd
  rw [if_neg hop, ha]

section
variable (h : s.takesChip 0xF00008 rLcResult u)
include h

theorem exec_lcChallenge : exec (.lcChallenge 0 v) s = .next (u.askChallenge 0) := by
  obtain ⟨hmay, hacc⟩ := h
  have hop : fld (setFld v 3 0 1) 3 0 = 1 := fld_op v 1
  refine exec_congr (exec_of_mayReach (g := fun s => s.lcCmd (setFld v 3 0 1)) rfl hmay) ?_
  exact (lcCmd_of_accept (by rw [hop]; decide) hacc).trans (if_pos hop)

theorem exec_lcSubmit : exec (.lcSubmit 0 v) s = .next (lcSubmit u) := by
  obtain ⟨hmay, hacc⟩ := h
  have hop : fld (setFld v 3 0 2) 3 0 = 2 := fld_op v 2
  refine exec_congr (exec_of_mayReach (g := fun s => s.lcCmd (setFld v 3 0 2)) rfl hmay) ?_
  exact (lcCmd_of_accept (by rw [hop]; decide) hacc).trans ((if_neg (by rw [hop]; decide)).trans (if_pos hop))

theorem exec_lcTransition : exec (.lcTransition 0 v) s = .next (lcTransition (fld v 10 8) u) := by
  obtain ⟨hmay, hacc⟩ := h
  have hop : fld (setFld v 3 0 3) 3 0 = 3 := fld_op v 3
  refine exec_congr (exec_of_mayReach (g := fun s => s.lcCmd (setFld v 3 0 3)) rfl hmay) ?_
  rw [lcCmd_of_accept (by rw [hop]; decide) hacc, if_neg (by rw [hop]; decide), if_neg (by rw [hop]; decide), if_pos hop, fld_setFld_target]

end

/-! ### Challenges, tokens and transitions (R435, R440 to R444) -/

theorem askChallenge_healthy (h : u.mix.healthy = true) : u.askChallenge 0 = u.challenge.result rLcResult errNone 0 := if_pos h

theorem askChallenge_answers (h : u.mix.healthy = true) :
    (u.askChallenge 0).lc.chal.isSome = true ∧ (u.askChallenge 0).rfld rLcResult 63 63 = 1 := by
  rw [askChallenge_healthy h, State.result_lc]
  exact ⟨rfl, (result_ready rLcResult 0 (err := errNone) (by decide)).1⟩

/-- The token as it is judged: 256 bytes. -/
def wholeToken (t : List Sys2Proof.Byte) : List Sys2Proof.Byte := (t ++ List.replicate 256 0).take 256

/-- A token that is refused: the challenge is consumed, the reason kept, and the failure counted. -/
theorem submit_of_refused {t : List Sys2Proof.Byte} (hr : u.tokenReason (wholeToken t) ≠ 0) (f : Nat → State → State) : u.submit t f =
    f (u.tokenReason (wholeToken t))
      { u with lc := { u.lc with chal := none, reason := u.tokenReason (wholeToken t), fails := min 255 (u.lc.fails + 1) } } := by
  unfold wholeToken at hr
  unfold State.submit wholeToken
  dsimp only
  rw [if_neg hr, if_neg hr, if_neg hr]

theorem lcSubmit_of_refused (hr : u.tokenReason (wholeToken u.tokenRegs) ≠ 0) : (lcSubmit u).lc =
    { u.lc with chal := none, reason := u.tokenReason (wholeToken u.tokenRegs), fails := min 255 (u.lc.fails + 1) } := by
  unfold lcSubmit
  rw [submit_of_refused hr, State.result_lc]

theorem lcAnswer_eq (target : Nat) : u.lcAnswer target =
    if !lcTarget u.lc.state target then .badTarget
    else if u.lcBusy then .busy
    else (lcScope u.lc.state target).elim .accepted (fun b => if u.lc.scopeOk.testBit b then .accepted else .noScope) := by
  unfold State.lcAnswer
  cases lcScope u.lc.state target <;> rfl

theorem lcAnswer_bad {target : Nat} (h : lcTarget u.lc.state target = false) : u.lcAnswer target = .badTarget := by
  rw [lcAnswer_eq, h]
  rfl

theorem lcAnswer_busy {target : Nat} (h : lcTarget u.lc.state target = true) (hb : u.lcBusy = true) : u.lcAnswer target = .busy := by
  rw [lcAnswer_eq, h, hb]
  rfl

theorem lcAnswer_free {target : Nat} (h : lcTarget u.lc.state target = true) (hb : u.lcBusy = false) : u.lcAnswer target =
    (lcScope u.lc.state target).elim .accepted (fun b => if u.lc.scopeOk.testBit b then .accepted else .noScope) := by
  rw [lcAnswer_eq, h, hb]
  rfl

theorem lcAnswer_noScope {target b : Nat} (h : lcTarget u.lc.state target = true) (hb : u.lcBusy = false)
    (hs : lcScope u.lc.state target = some b) (ho : u.lc.scopeOk.testBit b = false) : u.lcAnswer target = .noScope := by
  rw [lcAnswer_free h hb, hs]
  exact if_neg (by rw [ho]; exact Bool.false_ne_true)

theorem lcAnswer_accepted {target : Nat} (h : lcTarget u.lc.state target = true) (hb : u.lcBusy = false)
    (hs : lcScope u.lc.state target = none) : u.lcAnswer target = .accepted := by
  rw [lcAnswer_free h hb, hs]
  rfl

theorem lcTransition_refused {target : Nat} (h : u.lcAnswer target = .busy ∨ u.lcAnswer target = .noScope) :
    lcTransition target u = u.result rLcResult errState 0 := by
  unfold lcTransition
  rcases h with h | h <;> rw [h]

theorem lcTransition_bad {target : Nat} (h : u.lcAnswer target = .badTarget) : lcTransition target u = u.result rLcResult errArg 0 := by
  unfold lcTransition
  rw [h]

theorem lcTransition_accepted {target : Nat} (h : u.lcAnswer target = .accepted) : lcTransition target u = u.lcTransit target := by
  unfold lcTransition
  rw [h]

end

/-! ### By MCTP (R448) -/

/-- A request of the right length, outside SCRAP, is carried out. -/
theorem trayRequest_of_good {s : State} (hup : s.trayUp = true) (hb : s.pln.trayBusy < 4) (hs : ¬ (s.lcKnown = true ∧ s.lc.state = 5))
    {code len : Nat} {b : List Sys2Proof.Byte} (hl : b.length = len) (f : State → State) : s.trayRequest code len b f = f s := by
  have hscrap : (s.lcKnown && s.lc.state == 5) = false := by
    rw [Bool.eq_false_iff]
    intro hc
    exact hs ((Bool.and_eq_true_iff.1 hc).imp_right beq_iff_eq.1)
  have hon : (!s.trayUp) = false := by rw [hup]; rfl
  unfold State.trayRequest
  rw [hon, hscrap, if_neg Bool.false_ne_true, if_neg (Nat.not_le.2 hb)]
  exact (if_neg Bool.false_ne_true).trans (if_neg (Classical.not_not.2 hl))

/-! ### By the test port (R445) -/

section
variable {s : State} {need k : Nat} {f : State → State}

/-- The level allows the instruction, or it acts as BYPASS. -/
theorem tapAt_of_level (hup : s.tapUp = true) (hk : s.dbgLevel = some k) (h : need ≤ k) : s.tapAt need f = f s := by
  unfold State.tapAt
  rw [hup, hk]
  exact (if_neg Bool.false_ne_true).trans (if_pos h)

theorem tapAt_of_below (hup : s.tapUp = true) (hk : s.dbgLevel = some k) (h : k < need) : s.tapAt need f = s.emit (.tap 0) := by
  unfold State.tapAt
  rw [hup, hk]
  exact (if_neg Bool.false_ne_true).trans (if_neg (Nat.not_le.2 h))

theorem tapAt_of_none (hup : s.tapUp = true) (hk : s.dbgLevel = none) : s.tapAt need f = s.emit (.tap 0) := by
  unfold State.tapAt
  rw [hup, hk]
  exact if_neg Bool.false_ne_true

end

/-- The outcome of the last request is captured. -/
def captured (s : State) : State := s.emit (.tap s.lc.tapOut)

theorem tapTransition_accepted {s : State} {target : Nat} (h : (captured s).lcAnswer target = .accepted) : tapTransition target s =
    ({ captured s with lc := { (captured s).lc with tapOut := 0 } } : State).lcTransit target := by
  unfold captured at h
  unfold tapTransition captured
  dsimp only
  rw [h]

theorem tapTransition_refused {s : State} {target : Nat} (h : (captured s).lcAnswer target ≠ .accepted) : tapTransition target s =
    { captured s with lc := { (captured s).lc with tapOut := 1 } } := by
  unfold captured at h
  unfold tapTransition captured
  dsimp only
  cases ha : (s.emit (.tap s.lc.tapOut)).lcAnswer target
  case accepted => exact absurd ha h
  all_goals rfl

/-! ### Burns and erases (R437, R439) -/

section
variable {s : State} {j : LcJob}

theorem burnAck_of_none (h : s.lc.job = none) (ok : Bool) : burnAck ok s = s := by
  unfold burnAck
  rw [h]

theorem sectorErased_of_none (h : s.lc.job = none) (ok : Bool) : sectorErased ok s = s := by
  unfold sectorErased
  rw [h]

theorem lifecycleLimit_of_none (h : s.lc.job = none) : lifecycleLimit s = s := by
  unfold lifecycleLimit
  rw [h]

section
variable (h : s.lc.job = some j)
include h

theorem burnAck_of_bit {b : Nat} (hb : j.bitNo = some b) (hd : j.dump = false) (ok : Bool) : burnAck ok s =
    if ok then ({ s with fuse := { s.fuse with lc := s.fuse.lc ||| 2 ^ b } } : State).lcAdvance j
    else if j.tries + 1 < 3 then { s with lc := { s.lc with job := some { j with tries := j.tries + 1 } } }
    else s.lcFail j := by
  unfold burnAck
  rw [h]
  dsimp only
  rw [hb, hd]
  exact if_neg Bool.false_ne_true

theorem burnAck_of_idle (hb : j.bitNo = none) (ok : Bool) : burnAck ok s = s := by
  unfold burnAck
  rw [h]
  dsimp only
  rw [hb]

theorem sectorErased_eq (ok : Bool) : sectorErased ok s =
    if j.dump || j.step != .wipe || j.sectors == 0 then s
    else if !ok then s.lcFail j
    else if j.erase then (if j.sectors - 1 = 0 then s.eraseDone else { s with lc := { s.lc with job := some { j with sectors := j.sectors - 1 } } })
    else s.lcAdvance { j with sectors := j.sectors - 1 } := by
  unfold sectorErased
  rw [h]

theorem sectorErased_of_other (hs : j.step ≠ .wipe) (ok : Bool) : sectorErased ok s = s := by
  rw [sectorErased_eq h]
  exact if_pos (by simp [hs])

section
variable (hd : j.dump = false) (hs : j.step = .wipe) (hn : j.sectors ≠ 0)
include hd hs hn

theorem sectorErased_failed : sectorErased false s = s.lcFail j := by
  rw [sectorErased_eq h, if_neg (by simp [hd, hs, hn])]
  rfl

theorem sectorErased_good : sectorErased true s =
    if j.erase then (if j.sectors - 1 = 0 then s.eraseDone else { s with lc := { s.lc with job := some { j with sectors := j.sectors - 1 } } })
    else s.lcAdvance { j with sectors := j.sectors - 1 } := by
  rw [sectorErased_eq h, if_neg (by simp [hd, hs, hn])]
  exact if_neg Bool.false_ne_true

end

theorem lifecycleLimit_of_late (hd : j.dump = false) (ht : j.began + j.limit ≤ s.now) : lifecycleLimit s = s.lcFail j := by
  unfold lifecycleLimit
  rw [h]
  exact if_pos (by simp [hd, ht])

theorem lifecycleLimit_of_early (hd : j.dump = true ∨ s.now < j.began + j.limit) : lifecycleLimit s = s := by
  unfold lifecycleLimit
  rw [h]
  refine if_neg fun hc => ?_
  simp only [Bool.and_eq_true, Bool.not_eq_true', decide_eq_true_eq] at hc
  obtain ⟨hno, hle⟩ := hc
  rcases hd with hd | hd
  · exact Bool.false_ne_true (hno.symm.trans hd)
  · omega

end

end

/-- Settles O56. -/
theorem lifeCycleTransitionsAndBurns : Obligations.LifeCycleTransitionsAndBurns := by
  refine ⟨⟨fun v s u h => ?command, fun b s hup hb hs => ?tray, fun s k hup hk => ?tap⟩, fun s => ?burns⟩
  case command =>
    refine ⟨exec_lcChallenge h, fun hh => ⟨_, exec_lcChallenge h, askChallenge_answers hh⟩, exec_lcSubmit h, fun hr => ⟨_, exec_lcSubmit h, ?_⟩,
      fun ht => ?_, fun ht hb => ?_, fun b ht hb hsc ho => ?_, fun ht hb hsc => ?_⟩
    · dsimp only
      rw [lcSubmit_of_refused hr]
      exact ⟨rfl, rfl, rfl, rfl⟩
    · exact exec_congr (exec_lcTransition h) (lcTransition_bad (lcAnswer_bad ht))
    · exact exec_congr (exec_lcTransition h) (lcTransition_refused (.inl (lcAnswer_busy ht hb)))
    · exact exec_congr (exec_lcTransition h) (lcTransition_refused (.inr (lcAnswer_noScope ht hb hsc ho)))
    · exact exec_congr (exec_lcTransition h) (lcTransition_accepted (lcAnswer_accepted ht hb hsc))
  case tray =>
    refine ⟨fun hl => ?_, fun hl => ?_, fun hl => ?_⟩
    · exact exec_congr rfl (trayRequest_of_good hup hb hs (List.length_eq_zero_iff.2 hl) _)
    · exact exec_congr rfl (trayRequest_of_good hup hb hs hl _)
    · refine exec_congr rfl ((trayRequest_of_good hup hb hs hl _).trans ?_)
      unfold mctpTransition
      cases s.lcAnswer (leAt b 0 1) <;> rfl
  case tap =>
    refine ⟨?_, fun b => ?_, fun target => ⟨fun ha => ⟨_, rfl, ?_⟩, fun u hu ha => ?_⟩⟩
    · exact exec_congr rfl (tapAt_of_level hup hk (Nat.zero_le k))
    · exact exec_congr rfl (tapAt_of_level hup hk (Nat.zero_le k))
    · dsimp only
      rw [tapAt_of_level hup hk (Nat.zero_le k), tapTransition_refused ha]
      exact ⟨rfl, rfl⟩
    · subst hu
      exact exec_congr rfl ((tapAt_of_level hup hk (Nat.zero_le k)).trans (tapTransition_accepted ha))
  case burns =>
    refine ⟨fun h ok => ⟨?_, ?_⟩, fun h => ?_, fun j h => ⟨fun b hb hd => ⟨?_, fun ht => ?_, fun ht => ?_⟩, fun hb ok => ?_,
      fun hd hs hn => ⟨?_, fun he => ?_, fun he h1 => ?_, fun he h1 => ⟨_, rfl, ?_⟩⟩, fun hs ok => ?_, fun hd ht => ?_, fun hd => ?_⟩⟩
    · exact exec_congr rfl (burnAck_of_none h ok)
    · exact exec_congr rfl (sectorErased_of_none h ok)
    · exact exec_congr rfl (lifecycleLimit_of_none h)
    · exact exec_congr rfl (burnAck_of_bit h hb hd true)
    · exact exec_congr rfl ((burnAck_of_bit h hb hd false).trans ((if_neg Bool.false_ne_true).trans (if_pos ht)))
    · exact exec_congr rfl ((burnAck_of_bit h hb hd false).trans ((if_neg Bool.false_ne_true).trans (if_neg (Nat.not_lt.2 ht))))
    · exact exec_congr rfl (burnAck_of_idle h hb ok)
    · exact exec_congr rfl (sectorErased_failed h hd hs hn)
    · exact exec_congr rfl ((sectorErased_good h hd hs hn).trans (if_neg (by rw [he]; exact Bool.false_ne_true)))
    · exact exec_congr rfl ((sectorErased_good h hd hs hn).trans ((if_pos he).trans (if_neg (by omega))))
    · dsimp only
      rw [sectorErased_good h hd hs hn, if_pos he, if_pos (by omega)]
      exact ⟨rfl, rfl, rfl⟩
    · exact exec_congr rfl (sectorErased_of_other h hs ok)
    · exact exec_congr rfl (lifecycleLimit_of_late h hd ht)
    · exact exec_congr rfl (lifecycleLimit_of_early h hd)

end Sys2Proof.Machine
end

section
/-! PROOFS. The test port (O57; R445, R446). -/
namespace Sys2Proof.Machine

theorem exec_tapUp {s : State} (h : s.tapUp = true) : exec .tapBypass s = .next (s.emit (.tap 0)) ∧ exec .tapIdcode s = .next (s.emit (.tap s.idcode)) :=
  ⟨congrArg Host.Outcome.next (if_pos h), congrArg Host.Outcome.next (if_pos h)⟩

theorem exec_tapDown {s : State} (h : s.tapUp = false) : Idles .tapBypass s ∧ Idles .tapIdcode s :=
  ⟨congrArg Host.Outcome.next (if_neg (by rw [h]; exact Bool.false_ne_true)), congrArg Host.Outcome.next (if_neg (by rw [h]; exact Bool.false_ne_true))⟩

theorem tapAt_of_down {s : State} (h : s.tapUp = false) (need : Nat) (f : State → State) : s.tapAt need f = s :=
  if_pos (by rw [h]; rfl)

/-- Each of these instructions asks for a level. -/
theorem exec_tapAt_mem {i : Sys2Proof.Instr} (hi : i ∈ ([.tapLcStatus, .tapLcChallenge, .tapLcToken [], .tapLcTransition 0, .tapDbgReg 0 0 false,
    .tapDbgMem 0 0 false] : List Sys2Proof.Instr)) (s : State) : ∃ need f, exec i s = .next (s.tapAt need f) := by
  simp only [List.mem_cons, List.not_mem_nil, or_false] at hi
  obtain rfl | rfl | rfl | rfl | rfl | rfl := hi
  · exact ⟨0, fun s => s.emit (.tap (leNat s.lcGet)), rfl⟩
  · exact ⟨0, fun s => (s.emit (.tap (leNat (s.lc.chal.getD [])))).askChallenge 1, rfl⟩
  · exact ⟨0, fun s => s.submit [] (fun r s => s.emit (.tap r)), rfl⟩
  · exact ⟨0, _, rfl⟩
  · exact ⟨1, _, rfl⟩
  · exact ⟨2, _, rfl⟩

/-! ### DBG_REG -/

section
variable {s : State} {d : Word} {off : Nat}

theorem tapReg_misaligned (w : Bool) (ho : off % 8 ≠ 0) : tapReg d off w s = s.emit (.tap (dbgReg 0 off w true)) := if_pos ho

theorem tapReg_aligned (hc : s.coreUp = true) (w : Bool) (ho : off % 8 = 0) :
    tapReg d off w s = tapAccess off (if w then some d else none) (s.wakeFor off) := by
  have hup : (!s.coreUp) = false := by rw [hc]; rfl
  rw [tapReg, if_neg (Classical.not_not.2 ho), hup]
  exact if_neg Bool.false_ne_true

theorem tapAccess_held {x : Option Word} (h : s.regHeld off = true) : tapAccess off x s =
    { s with hg := { s.hg with regs := s.hg.regs ++ [{ func := 0, off := off, data := x, tap := true }] } } := if_pos h

theorem tapAccess_write (h : s.regHeld off = false) : tapAccess off (some d) s = (s.writeReg off d).emit (.tap (dbgReg d off true false)) :=
  if_neg (by rw [h]; exact Bool.false_ne_true)

theorem tapAccess_read (h : s.regHeld off = false) :
    tapAccess off none s = (s.emit (.tap (dbgReg (s.readReg off) off false false))).afterRead off :=
  if_neg (by rw [h]; exact Bool.false_ne_true)

/-! ### DBG_MEM -/

theorem tapMem_busy (hup : s.hostUp = true) (ha : off % 8 = 0) {w : Bool} (hs : s.stopServes .platform off w = false) :
    tapMem d off w s = s.emit (.tap (dbgMem d off w 3)) := by
  have hgo : (decide (off % 8 ≠ 0) || !s.hostUp) = false := by simp [ha, hup]
  unfold tapMem
  dsimp only
  rw [hgo, if_neg Bool.false_ne_true, hs]
  exact if_pos rfl

/-- A write that the gates serve. -/
theorem tapMem_write (hup : s.hostUp = true) (ha : off % 8 = 0) (hs : s.stopServes .platform off true = true) {u : State}
    (h : (s.wakeBlock 1).devWrite { m := .platform, unit := uPlinth } off (toLe 8 d.toNat) = (.ok (), u)) :
    tapMem d off true s = u.emit (.tap (dbgMem d off true 0)) := by
  have hgo : (decide (off % 8 ≠ 0) || !s.hostUp) = false := by simp [ha, hup]
  have hserved : (!s.stopServes .platform off true) = false := by rw [hs]; rfl
  unfold tapMem
  dsimp only
  rw [hgo, if_neg Bool.false_ne_true, hserved, if_neg Bool.false_ne_true, if_pos rfl, h]

/-- A read that the gates serve, with its data or with the access's status. -/
theorem tapMem_read (hup : s.hostUp = true) (ha : off % 8 = 0) (hs : s.stopServes .platform off false = true) {u : State} :
    (∀ bs, (s.wakeBlock 1).devRead { m := .platform, unit := uPlinth } off 8 = (.ok bs, u) →
      tapMem d off false s = u.emit (.tap (dbgMem (BitVec.ofNat 64 (leNat bs)) off false 0))) ∧
    ∀ st x, (s.wakeBlock 1).devRead { m := .platform, unit := uPlinth } off 8 = (.bad st x, u) →
      tapMem d off false s = u.emit (.tap (dbgMem d off false (if st = stDenied then 1 else 2))) := by
  have hgo : (decide (off % 8 ≠ 0) || !s.hostUp) = false := by simp [ha, hup]
  have hserved : (!s.stopServes .platform off false) = false := by rw [hs]; rfl
  unfold tapMem
  dsimp only
  rw [hgo, if_neg Bool.false_ne_true, hserved, if_neg Bool.false_ne_true, if_neg Bool.false_ne_true]
  refine ⟨fun bs h => ?_, fun st x h => ?_⟩
  · rw [h]
  · rw [h]
    rfl

end

theorem exec_tapPrivate {s : State} (c : Fin 16) (hup : s.tapUp = true) (h : s.dbgLevel ≠ some 3) :
    exec (.tapPrivate c) s = .next (s.emit (.tap 0)) := by
  have hlevel : (s.tapUp && s.dbgLevel == some 3) = false := by rw [hup]; exact beq_false_of_ne h
  have hexec : exec (.tapPrivate c) s = execTapPrivate c s := rfl
  rw [hexec, execTapPrivate, hlevel, if_neg Bool.false_ne_true, if_pos hup]
  rfl

/-- Settles O57. -/
theorem theTestPortFollowsItsLevel : Obligations.TheTestPortFollowsItsLevel := by
  refine fun s => ⟨fun hup => ⟨(exec_tapUp hup).1, (exec_tapUp hup).2, fun hl => ?_, fun hl i hi => ?_, fun d o w h0 => ?_,
    fun d o k hk h1 hc => ⟨fun ho w => ?_, fun ho hh w => ⟨_, rfl, ?_⟩, fun ho hh => ⟨?_, ?_⟩⟩, fun d a w k hk h1 => ?_,
    fun d a k hk h2 hh ha => ⟨fun w hs => ?_, fun u hs hw => ?_, fun bs u hs hr => ?_, fun st x u hs hr => ?_⟩,
    fun c hl => exec_tapPrivate c hup hl⟩, fun hdown i hi => ?_⟩
  · obtain ⟨k, hk⟩ := Option.ne_none_iff_exists'.1 hl
    exact exec_congr rfl (tapAt_of_level hup hk (Nat.zero_le k))
  · obtain ⟨need, f, hexec⟩ := exec_tapAt_mem hi s
    exact exec_congr hexec (tapAt_of_none hup hl)
  · exact exec_congr rfl (tapAt_of_below hup h0 (by decide))
  · exact exec_congr rfl ((tapAt_of_level hup hk h1).trans (tapReg_misaligned w ho))
  · dsimp only
    rw [tapAt_of_level hup hk h1, tapReg_aligned hc w ho, tapAccess_held hh]
    exact ⟨rfl, rfl⟩
  · exact exec_congr rfl ((tapAt_of_level hup hk h1).trans ((tapReg_aligned hc true ho).trans (tapAccess_write hh)))
  · exact exec_congr rfl ((tapAt_of_level hup hk h1).trans ((tapReg_aligned hc false ho).trans (tapAccess_read hh)))
  · exact exec_congr rfl (tapAt_of_below hup hk (by omega))
  · exact exec_congr rfl ((tapAt_of_level hup hk h2).trans (tapMem_busy hh ha hs))
  · exact exec_congr rfl ((tapAt_of_level hup hk h2).trans (tapMem_write hh ha hs hw))
  · exact exec_congr rfl ((tapAt_of_level hup hk h2).trans ((tapMem_read hh ha hs).1 bs hr))
  · exact exec_congr rfl ((tapAt_of_level hup hk h2).trans ((tapMem_read hh ha hs).2 st x hr))
  · simp only [List.mem_cons, List.not_mem_nil, or_false] at hi
    obtain rfl | rfl | rfl | rfl := hi
    · exact (exec_tapDown hdown).1
    · exact (exec_tapDown hdown).2
    · exact exec_congr rfl (tapAt_of_down hdown 0 _)
    · exact exec_congr rfl (tapAt_of_down hdown 0 _)

end Sys2Proof.Machine
end

section
/-! PROOFS. The sampler, the rings of the Observation Unit, and the global stop (O58; R449, R453 to R465). -/
namespace Sys2Proof.Machine

/-! ### Samples, sensors and counters (R453 to R456) -/

/-- The interval of the sampler in ns, and the instant that the timestamp has reached last. -/
def smpInterval (s : State) : Nat := s.rfld rSmpCfg 19 0 * 1000
def smpLast (s : State) : Nat := s.now / smpInterval s * smpInterval s

/-- A sample is due. -/
def SampleDue (s : State) : Prop :=
  s.rfld rSmpCfg 31 31 = 1 ∧ s.pln.power = 0 ∧ s.now - smpLast s < 40 ∧ s.ou.smpAt ≠ some (smpLast s)

/-- The record of a sample, or the one discarded in a reset of the unit. -/
def sampleTaken (s : State) : State × Bool :=
  if s.resetting uOu then (s.bump rSmpStat 63 48, false)
  else s.ouRecord rSmpCfg rSmpHead rSmpStat s.ou.smpCount 1024 (fun ph => sampleRecord s (smpLast s) ph)

/-- The Observation Unit once a sample has been taken, with its record written or missed. -/
def sampled (t : Nat) (written : Bool) (u : OuUnit) : OuUnit :=
  if written then { u with smpAt := some t, smpCount := u.smpCount + 1, missed := 0, wasStopped := false, resync := false }
  else { u with smpAt := some t, missed := min (u.missed + 1) (2 ^ 32 - 1) }

section
variable {s : State}

theorem sampleDue_iff (s : State) : (decide (s.rfld rSmpCfg 31 31 = 1) && s.pln.power == 0 && decide (s.now - smpLast s < 40) &&
    s.ou.smpAt != some (smpLast s)) = true ↔ SampleDue s := by
  simp only [SampleDue, Bool.and_eq_true, decide_eq_true_eq, beq_iff_eq, bne_iff_ne, and_assoc]

theorem sampleInstant_of_not (h : ¬ SampleDue s) : sampleInstant s = s := if_neg fun hc => h ((sampleDue_iff s).1 hc)

theorem sampleInstant_of_due (h : SampleDue s) : sampleInstant s =
    { (sampleTaken s).1 with ou := sampled (smpLast s) (sampleTaken s).2 (sampleTaken s).1.ou } := if_pos ((sampleDue_iff s).2 h)

theorem sampled_smpAt (t : Nat) (b : Bool) (u : OuUnit) : (sampled t b u).smpAt = some t := by cases b <;> rfl

theorem sampleTaken_of_serves (h : s.resetting uOu = false) :
    sampleTaken s = s.ouRecord rSmpCfg rSmpHead rSmpStat s.ou.smpCount 1024 (fun ph => sampleRecord s (smpLast s) ph) :=
  if_neg (by rw [h]; exact Bool.false_ne_true)

theorem sampleTaken_of_reset (h : s.resetting uOu = true) : sampleTaken s = (s.bump rSmpStat 63 48, false) := if_pos h

/-- What a due sample leaves, by whether its record was written. -/
theorem sampleInstant_answers (h : SampleDue s) : (sampleInstant s).ou.smpAt = some (smpLast s) ∧ (sampleInstant s).dev = (sampleTaken s).1.dev ∧
    ((sampleTaken s).2 = true → (sampleInstant s).ou.smpCount = (sampleTaken s).1.ou.smpCount + 1 ∧ (sampleInstant s).ou.missed = 0) ∧
    ((sampleTaken s).2 = false → (sampleInstant s).ou.smpCount = (sampleTaken s).1.ou.smpCount ∧
      (sampleInstant s).ou.missed = min ((sampleTaken s).1.ou.missed + 1) (2 ^ 32 - 1)) := by
  rw [sampleInstant_of_due h]
  refine ⟨sampled_smpAt _ _ _, rfl, fun hw => ?_, fun hw => ?_⟩ <;> rw [hw] <;> exact ⟨rfl, rfl⟩

/-- A sample in a reset of the unit. -/
theorem sampleInstant_discarded (hr : s.resetting uOu = true) (h : SampleDue s) :
    (sampleInstant s).reg rSmpStat = (s.bump rSmpStat 63 48).reg rSmpStat ∧ (sampleInstant s).ou.missed = min (s.ou.missed + 1) (2 ^ 32 - 1) ∧
    (sampleInstant s).ou.smpAt = some (smpLast s) ∧ (sampleInstant s).ou.smpCount = s.ou.smpCount := by
  obtain ⟨hat, -, -, hmissed⟩ := sampleInstant_answers h
  have hreg : (sampleInstant s).regs = (sampleTaken s).1.regs := by rw [sampleInstant_of_due h]
  rw [sampleTaken_of_reset hr] at hmissed hreg
  obtain ⟨hcount, hmiss⟩ := hmissed rfl
  have hou : (s.bump rSmpStat 63 48).ou = s.ou := State.bump_ou ..
  dsimp only at hcount hmiss
  rw [hou] at hcount hmiss
  exact ⟨reg_of_regs hreg _, hmiss, hat, hcount⟩

theorem sensorReading_of_kind {i k v : Nat} (h : k ≤ 4) :
    sensorReading i k v s = { s with ou := { s.ou with sensors := mapPut i (v, k, s.now) s.ou.sensors } } := if_neg (Nat.not_lt.2 h)

theorem sensorReading_of_other {i k v : Nat} (h : 4 < k) : sensorReading i k v s = s := if_pos h

end

/-! ### The rings (R449, R454, R457) -/

/-- OU_SMP_CFG and OU_TRC_CFG as a write with EN stores them; `i` is the sampler's interval. -/
def smpWord (v : Word) (i : Nat) : Word := pack [(40, fld v 63 40), (32, fld v 36 32), (31, 1), (30, fld v 30 30), (0, i)]
def trcWord (v : Word) : Word :=
  pack [(40, fld v 63 40), (32, fld v 36 32), (31, 1), (30, fld v 30 30), (24, fld v 24 24), (16, fld v 23 16), (0, fld v 8 0)]

/-- The bounds of the fields that a ring's configuration is made of. -/
theorem ring_bounds (v : Word) : fld v 63 40 < 2 ^ 24 ∧ fld v 36 32 < 2 ^ 5 ∧ fld v 30 30 < 2 ∧ fld v 24 24 < 2 ∧ fld v 23 16 < 2 ^ 8 ∧ fld v 8 0 < 2 ^ 9 :=
  ⟨Nat.mod_lt _ (by decide), Nat.mod_lt _ (by decide), Nat.mod_lt _ (by decide), Nat.mod_lt _ (by decide), Nat.mod_lt _ (by decide),
    Nat.mod_lt _ (by decide)⟩

theorem smpWord_fields (v : Word) {i : Nat} (hi : i < 2 ^ 20) : fld (smpWord v i) 31 31 = 1 ∧ fld (smpWord v i) 36 32 = fld v 36 32 := by
  obtain ⟨h63, h36, h30, -, -, -⟩ := ring_bounds v
  simp only [smpWord, pack, List.foldl]
  generalize fld v 63 40 = a at *
  generalize fld v 36 32 = b at *
  generalize fld v 30 30 = c at *
  simp only [fld, bitsOf, BitVec.toNat_ofNat]
  omega

theorem trcWord_fields (v : Word) : fld (trcWord v) 31 31 = 1 ∧ fld (trcWord v) 36 32 = fld v 36 32 := by
  obtain ⟨h63, h36, h30, h24, h23, h8⟩ := ring_bounds v
  simp only [trcWord, pack, List.foldl]
  generalize fld v 63 40 = a at *
  generalize fld v 36 32 = b at *
  generalize fld v 30 30 = c at *
  generalize fld v 24 24 = d at *
  generalize fld v 23 16 = e at *
  generalize fld v 8 0 = f at *
  simp only [fld, bitsOf, BitVec.toNat_ofNat]
  omega

/-- EN apart, the fields of a written configuration. -/
theorem fld_setFld_en (v : Word) : fld (setFld v 31 31 1) 63 40 = fld v 63 40 ∧ fld (setFld v 31 31 1) 36 32 = fld v 36 32 ∧
    fld (setFld v 31 31 1) 30 30 = fld v 30 30 ∧ fld (setFld v 31 31 1) 24 24 = fld v 24 24 ∧ fld (setFld v 31 31 1) 23 16 = fld v 23 16 ∧
    fld (setFld v 31 31 1) 19 0 = fld v 19 0 ∧ fld (setFld v 31 31 1) 8 0 = fld v 8 0 ∧ fld (setFld v 31 31 1) 31 31 = 1 := by
  have hv := v.isLt
  simp only [setFld, fld, bitsOf, BitVec.toNat_ofNat]
  omega

/-- The interval that a write of OU_SMP_CFG leaves. -/
def smpKept (s : State) (v : Word) : Nat := if 1 ≤ fld v 19 0 ∧ fld v 19 0 ≤ 1000000 then fld v 19 0 else s.rfld rSmpCfg 19 0

theorem smpKept_lt (s : State) (v : Word) : smpKept s v < 2 ^ 20 := by
  unfold smpKept
  split
  · exact Nat.mod_lt _ (by decide)
  · exact s.rfld_lt _ 19 0

section
variable {s : State} {v : Word}

theorem smpWrite_eq : smpWrite (setFld v 31 31 1) s =
    s.ringEnable rSmpCfg rSmpStat (smpWord v (smpKept s v)) smpRegion 20 (fun u => { u with smpCount := 0 }) := by
  obtain ⟨h63, h36, h30, -, -, h19, -, h31⟩ := fld_setFld_en v
  unfold smpWrite
  dsimp only
  rw [h63, h36, h30, h19, h31]
  rfl

theorem trcWrite_eq : trcWrite (setFld v 31 31 1) s =
    s.ringEnable rTrcCfg rTrcStat (trcWord v) trcRegion 24 (fun u => { u with trcCount := 0 }) := by
  obtain ⟨h63, h36, h30, h24, h23, -, h8, h31⟩ := fld_setFld_en v
  unfold trcWrite
  dsimp only
  rw [h63, h36, h30, h24, h23, h8, h31]
  rfl

section
variable {cfg stat logMax : Nat} {region : Word → Nat × Nat} {clear : OuUnit → OuUnit} (hen : fld v 31 31 = 1)
include hen

/-- The ring may stand where its configuration puts it. -/
def RingOk (s : State) (cfg : Nat) (v : Word) (region : Word → Nat × Nat) (logMax : Nat) : Prop :=
  4 ≤ fld v 36 32 ∧ fld v 36 32 ≤ logMax ∧
    (s.setReg cfg (setFld v 31 31 0)).regionFits (region v) (s.setReg cfg (setFld v 31 31 0)).ouRegions = true

omit hen in
theorem ringOk_iff : (decide (4 ≤ fld v 36 32) && decide (fld v 36 32 ≤ logMax) &&
    (s.setReg cfg (setFld v 31 31 0)).regionFits (region v) (s.setReg cfg (setFld v 31 31 0)).ouRegions) = true ↔ RingOk s cfg v region logMax := by
  simp only [RingOk, Bool.and_eq_true, decide_eq_true_eq, and_assoc]

theorem ringEnable_of_bad (h : ¬ RingOk s cfg v region logMax) :
    s.ringEnable cfg stat v region logMax clear = s.setReg cfg (setFld v 31 31 0) := by
  unfold State.ringEnable
  dsimp only
  rw [if_neg (by rw [hen]; decide), if_neg fun hc => h (ringOk_iff.1 hc)]

theorem ringEnable_of_on (h : RingOk s cfg v region logMax) (hon : s.rfld cfg 31 31 = 1) :
    s.ringEnable cfg stat v region logMax clear = s.setReg cfg v := by
  unfold State.ringEnable
  dsimp only
  rw [if_neg (by rw [hen]; decide), if_pos (ringOk_iff.2 h), if_pos hon]

/-- Setting EN clears the ring's counts. -/
theorem ringEnable_of_off (h : RingOk s cfg v region logMax) (hoff : s.rfld cfg 31 31 = 0) (hne : cfg ≠ stat) :
    (s.ringEnable cfg stat v region logMax clear).reg cfg = v ∧ (s.ringEnable cfg stat v region logMax clear).reg stat = 0 ∧
    (s.ringEnable cfg stat v region logMax clear).ou = clear s.ou := by
  have heq : s.ringEnable cfg stat v region logMax clear = { (s.setReg cfg v).setReg stat 0 with ou := clear s.ou } := by
    unfold State.ringEnable
    dsimp only
    rw [if_neg (by rw [hen]; decide), if_pos (ringOk_iff.2 h), if_neg (by rw [hoff]; decide)]
    rfl
  have hreg : ∀ off, ({ (s.setReg cfg v).setReg stat 0 with ou := clear s.ou } : State).reg off = ((s.setReg cfg v).setReg stat 0).reg off :=
    reg_of_regs rfl
  rw [heq, hreg, hreg, State.reg_setReg, if_neg hne, State.reg_setReg_same, State.reg_setReg_same]
  exact ⟨rfl, rfl, rfl⟩

end

theorem exec_ouSmpEnable (h : s.mayReach rSmpCfg) : exec (.ouSmpEnable 0 v) s = .next ((s.wakeBlock 1).ringEnable rSmpCfg rSmpStat
    (smpWord v (smpKept (s.wakeBlock 1) v)) smpRegion 20 (fun u => { u with smpCount := 0 })) :=
  exec_congr (exec_of_mayReach (g := fun s => smpWrite (setFld v 31 31 1) s) rfl h) smpWrite_eq

theorem exec_ouTrcEnable (h : s.mayReach rTrcCfg) : exec (.ouTrcEnable 0 v) s = .next ((s.wakeBlock 1).ringEnable rTrcCfg rTrcStat
    (trcWord v) trcRegion 24 (fun u => { u with trcCount := 0 })) :=
  exec_congr (exec_of_mayReach (g := fun s => trcWrite (setFld v 31 31 1) s) rfl h) trcWrite_eq

end

/-! ### The commands of the global stop (R460, R461, R465) -/

theorem fld_setFld_stopId (v : Word) (k : Nat) : fld (setFld v 3 0 k) 31 16 = fld v 31 16 := by
  have hv := v.isLt
  simp only [setFld, fld, bitsOf, BitVec.toNat_ofNat]
  omega

section
variable {s u : State} {v : Word}

theorem stopCmd_of_accept {w : Word} (hop : fld w 3 0 ≠ 0) (ha : s.accept rStopResult = some u) : s.stopCmd w =
    if fld w 3 0 = 1 then stopSchedule (fld w 31 16) u
    else if fld w 3 0 = 2 then stopCancel u
    else if fld w 3 0 = 3 then stopAskResume u
    else u.result rStopResult errArg 0 := by
  unfold State.stopCmd
  rw [if_neg hop, ha]

section
variable (h : s.takesChip 0xA00300 rStopResult u)
include h

theorem exec_ouStopSchedule : exec (.ouStopSchedule 0 v) s = .next (stopSchedule (fld v 31 16) u) := by
  obtain ⟨hmay, hacc⟩ := h
  have hop : fld (setFld v 3 0 1) 3 0 = 1 := fld_op v 1
  refine exec_congr (exec_of_mayReach (g := fun s => s.stopCmd (setFld v 3 0 1)) rfl hmay) ?_
  rw [stopCmd_of_accept (by rw [hop]; decide) hacc, if_pos hop, fld_setFld_stopId]

theorem exec_ouStopCancel : exec (.ouStopCancel 0 v) s = .next (stopCancel u) := by
  obtain ⟨hmay, hacc⟩ := h
  have hop : fld (setFld v 3 0 2) 3 0 = 2 := fld_op v 2
  refine exec_congr (exec_of_mayReach (g := fun s => s.stopCmd (setFld v 3 0 2)) rfl hmay) ?_
  rw [stopCmd_of_accept (by rw [hop]; decide) hacc, if_neg (by rw [hop]; decide), if_pos hop]

theorem exec_ouStopResume : exec (.ouStopResume 0 v) s = .next (stopAskResume u) := by
  obtain ⟨hmay, hacc⟩ := h
  have hop : fld (setFld v 3 0 3) 3 0 = 3 := fld_op v 3
  refine exec_congr (exec_of_mayReach (g := fun s => s.stopCmd (setFld v 3 0 3)) rfl hmay) ?_
  rw [stopCmd_of_accept (by rw [hop]; decide) hacc, if_neg (by rw [hop]; decide), if_neg (by rw [hop]; decide), if_pos hop]

end

theorem stopSchedule_of_busy {id : Nat} (h : u.ou.stop ≠ .idle) : stopSchedule id u = u.result rStopResult errState 0 := if_pos (bne_iff_ne.2 h)

theorem stopSchedule_of_idle {id : Nat} (h : u.ou.stop = .idle) : stopSchedule id u =
    if decide ((u.reg 0xA00308).toNat < u.now + 2000) || !u.regionFits (stopRegion (u.reg rStopArea)) u.ouRegions then u.result rStopResult errArg 0
    else (({ u with ou := { u.ou with stop := .armed, cause := 1, stopId := id, t := (u.reg 0xA00308).toNat, tu := (u.reg 0xA00308).toNat,
                                      fabric := u.rfld rStopCfg 8 8 == 1 } } : State).traceStop).result rStopResult errNone 0 :=
  if_neg (by rw [h]; exact Bool.false_ne_true)

theorem stopSchedule_of_early {id : Nat} (h : u.ou.stop = .idle) (ht : (u.reg 0xA00308).toNat < u.now + 2000) :
    stopSchedule id u = u.result rStopResult errArg 0 := by
  rw [stopSchedule_of_idle h, if_pos (by rw [decide_eq_true ht]; rfl)]

theorem stopSchedule_of_good {id : Nat} (h : u.ou.stop = .idle) (ht : u.now + 2000 ≤ (u.reg 0xA00308).toNat)
    (hf : u.regionFits (stopRegion (u.reg rStopArea)) u.ouRegions = true) : stopSchedule id u =
      (({ u with ou := { u.ou with stop := .armed, cause := 1, stopId := id, t := (u.reg 0xA00308).toNat, tu := (u.reg 0xA00308).toNat,
                                   fabric := u.rfld rStopCfg 8 8 == 1 } } : State).traceStop).result rStopResult errNone 0 := by
  rw [stopSchedule_of_idle h, if_neg]
  rw [hf, decide_eq_false (Nat.not_lt.2 ht)]
  exact Bool.false_ne_true

theorem stopCancel_of_armed (h : u.ou.stop = .armed) : stopCancel u =
    (({ u with ou := { u.ou with stop := .idle } } : State).traceStop).result rStopResult errNone 0 := by
  unfold stopCancel
  rw [h]

theorem stopCancel_of_other (h : u.ou.stop ≠ .armed) : stopCancel u = u.result rStopResult errState 0 := by
  unfold stopCancel
  cases hs : u.ou.stop
  case armed => exact absurd hs h
  all_goals rfl

theorem stopAskResume_of_stopped (h : u.ou.stop = .stopped) : stopAskResume u = ({ u with ou := { u.ou with resume := true } } : State).stopResume := by
  unfold stopAskResume
  rw [h]

theorem stopAskResume_of_stopping (h : u.ou.stop = .stopping) : stopAskResume u = { u with ou := { u.ou with resume := true } } := by
  unfold stopAskResume
  rw [h]

theorem stopAskResume_of_other (h : u.ou.stop = .idle ∨ u.ou.stop = .armed) : stopAskResume u = u.result rStopResult errState 0 := by
  unfold stopAskResume
  rcases h with h | h <;> rw [h]

/-! ### The events of the global stop (R461 to R465) -/

theorem stopTime_of_due (h : s.ou.stop = .armed) (ht : s.ou.t ≤ s.now) : stopTime s = s.enterStopping s.ou.cause s.ou.t s.ou.t s.ou.fabric := by
  unfold stopTime
  rw [h]
  exact if_pos ht

theorem stopTime_of_not (h : s.ou.stop ≠ .armed ∨ s.now < s.ou.t) : stopTime s = s := by
  unfold stopTime
  cases hs : s.ou.stop
  case armed => exact if_neg (Nat.not_le.2 (h.resolve_left (Classical.not_not.2 hs)))
  all_goals rfl

theorem unitsStop_of_due (h : s.ou.stop = .stopping) (ht : s.ou.tu ≤ s.now) : unitsStop s = { s with ou := { s.ou with unitsStopped := true } } := by
  unfold unitsStop
  rw [h]
  exact if_pos ht

theorem unitsStop_of_not (h : s.ou.stop ≠ .stopping ∨ s.now < s.ou.tu) : unitsStop s = s := by
  unfold unitsStop
  cases hs : s.ou.stop
  case stopping => exact if_neg (Nat.not_le.2 (h.resolve_left (Classical.not_not.2 hs)))
  all_goals rfl

theorem exec_stopPortRecordTimer (s : State) : exec .stopPortRecordTimer s =
    .next (if s.ou.stop == .stopping && s.ou.unitsStopped && decide (s.ou.tu + 1000000 ≤ s.now) then
      { s with ou := { s.ou with portsDue := true } } else s) := rfl

/-- The state in which the capture is written and the stop is STOPPED. -/
def stopWritten (s : State) : State := ({ s.writeStop with ou := { s.writeStop.ou with stop := .stopped } } : State).traceStop

theorem stopCapture_of_ready (h : s.ou.stop = .stopping) (hu : s.ou.unitsStopped = true) (hp : s.portsReady = true) :
    stopCapture s = if (stopWritten s).ou.resume then (stopWritten s).stopResume else stopWritten s := by
  unfold stopCapture
  rw [h]
  exact if_pos (by rw [hu, hp]; rfl)

theorem stopCapture_of_not (h : s.ou.stop ≠ .stopping ∨ s.ou.unitsStopped = false ∨ s.portsReady = false) : stopCapture s = s := by
  unfold stopCapture
  cases hs : s.ou.stop
  case stopping =>
    refine if_neg fun hc => ?_
    obtain ⟨hu, hp⟩ := Bool.and_eq_true_iff.1 hc
    rcases h.resolve_left (Classical.not_not.2 hs) with hf | hf
    · exact Bool.false_ne_true (hf.symm.trans hu)
    · exact Bool.false_ne_true (hf.symm.trans hp)
  all_goals rfl

/-- The time a stop may last has passed. -/
theorem stopAuto_iff (s : State) : (s.ou.stop == .stopped && s.rfld rStopCfg 47 16 != 0 && decide (s.ou.tu + s.rfld rStopCfg 47 16 * 1000 ≤ s.now)) = true ↔
    s.ou.stop = .stopped ∧ s.rfld rStopCfg 47 16 ≠ 0 ∧ s.ou.tu + s.rfld rStopCfg 47 16 * 1000 ≤ s.now := by
  simp only [Bool.and_eq_true, beq_iff_eq, bne_iff_ne, decide_eq_true_eq, and_assoc]

theorem stopAuto_of_due (h : s.ou.stop = .stopped) (hm : s.rfld rStopCfg 47 16 ≠ 0) (ht : s.ou.tu + s.rfld rStopCfg 47 16 * 1000 ≤ s.now) :
    stopAuto s = (s.bump rOuGstat 31 16).stopResume := if_pos ((stopAuto_iff s).2 ⟨h, hm, ht⟩)

theorem stopAuto_of_not (h : s.ou.stop ≠ .stopped ∨ s.rfld rStopCfg 47 16 = 0 ∨ s.now < s.ou.tu + s.rfld rStopCfg 47 16 * 1000) :
    stopAuto s = s := by
  refine if_neg fun hc => ?_
  obtain ⟨hs, hm, ht⟩ := (stopAuto_iff s).1 hc
  rcases h with h | h | h
  · exact h hs
  · exact hm h
  · omega

end

/-- Settles O58. -/
theorem observationAndTheGlobalStop : Obligations.ObservationAndTheGlobalStop := by
  refine ⟨⟨fun s hs => ?sample, fun s hf hr hen hp ht hat => ?discarded, fun i k v s => ?sensor, fun k v s h => ?counter⟩,
    fun v s hsmp htrc hmark => ?rings, fun v s u h => ?commands, fun s hup => ?events⟩
  case sample =>
    obtain ⟨hf, hr⟩ := hs
    refine ⟨fun h => idles_of_awake (f := sampleInstant) rfl hf (sampleInstant_of_not h),
      fun h => ⟨_, exec_of_awake (f := sampleInstant) rfl hf, ?_⟩⟩
    have hanswers := sampleInstant_answers (s := s) h
    rw [sampleTaken_of_serves hr] at hanswers
    exact hanswers
  case discarded =>
    exact ⟨_, exec_of_awake (f := sampleInstant) rfl hf, sampleInstant_discarded hr ⟨hen, hp, ht, hat⟩⟩
  case sensor =>
    refine ⟨fun hup hk => ?_, fun h => ?_⟩
    · exact exec_congr (exec_of_coreUp (f := sensorReading i.val k.toNat v.toNat) rfl hup) (sensorReading_of_kind hk)
    · have hexec : exec (.sensorReading i k v) s = .next (if s.coreUp then sensorReading i.val k.toNat v.toNat s else s) := rfl
      rcases h with h | h
      · exact exec_congr hexec (if_neg (by rw [h]; exact Bool.false_ne_true))
      · exact exec_congr hexec (by rw [sensorReading_of_other h, ite_self])
  case counter => exact exec_of_mayReach (g := fun s => cselWrite k.val v s) rfl h
  case rings =>
    intro u i sv so tv t0 okS okT
    obtain ⟨hsen, hslog⟩ := smpWord_fields v (smpKept_lt u v)
    obtain ⟨hten, htlog⟩ := trcWord_fields v
    have hokS : okS ↔ RingOk u rSmpCfg (smpWord v (smpKept u v)) smpRegion 20 := by
      unfold RingOk
      rw [hslog]
      exact Iff.rfl
    have hokT : okT ↔ RingOk u rTrcCfg (trcWord v) trcRegion 24 := by
      unfold RingOk
      rw [htlog]
      exact Iff.rfl
    refine ⟨fun h => ?_, fun h hon => ?_, fun h hoff => ⟨_, exec_ouSmpEnable hsmp, ?_⟩, fun h => ?_, fun h hon => ?_,
      fun h hoff => ⟨_, exec_ouTrcEnable htrc, ?_⟩, exec_of_mayReach (g := fun s => traceMark v s) rfl hmark⟩
    · exact exec_congr (exec_ouSmpEnable hsmp) (ringEnable_of_bad hsen fun hc => h (hokS.2 hc))
    · exact exec_congr (exec_ouSmpEnable hsmp) (ringEnable_of_on hsen (hokS.1 h) hon)
    · obtain ⟨hcfg, hstat, hou⟩ := ringEnable_of_off (stat := rSmpStat) (clear := fun u => { u with smpCount := 0 }) hsen (hokS.1 h) hoff (by decide)
      exact ⟨hcfg, hstat, congrArg OuUnit.smpCount hou⟩
    · exact exec_congr (exec_ouTrcEnable htrc) (ringEnable_of_bad hten fun hc => h (hokT.2 hc))
    · exact exec_congr (exec_ouTrcEnable htrc) (ringEnable_of_on hten (hokT.1 h) hon)
    · obtain ⟨hcfg, hstat, hou⟩ := ringEnable_of_off (stat := rTrcStat) (clear := fun u => { u with trcCount := 0 }) hten (hokT.1 h) hoff (by decide)
      exact ⟨hcfg, hstat, congrArg OuUnit.trcCount hou⟩
  case commands =>
    refine ⟨fun hs => ?_, fun hs ht => ?_, fun hs ht hf => ?_, fun hs => ?_, fun hs => ?_, fun hs => ?_, fun hs => ?_, fun hs => ?_⟩
    · exact exec_congr (exec_ouStopSchedule h) (stopSchedule_of_busy hs)
    · exact exec_congr (exec_ouStopSchedule h) (stopSchedule_of_early hs ht)
    · exact exec_congr (exec_ouStopSchedule h) (stopSchedule_of_good hs ht hf)
    · exact exec_congr (exec_ouStopCancel h) (stopCancel_of_armed hs)
    · exact exec_congr (exec_ouStopCancel h) (stopCancel_of_other hs)
    · exact exec_congr (exec_ouStopResume h) (stopAskResume_of_stopped hs)
    · exact exec_congr (exec_ouStopResume h) (stopAskResume_of_stopping hs)
    · exact exec_congr (exec_ouStopResume h) (stopAskResume_of_other hs)
  case events =>
    refine ⟨fun hs ht => ?_, fun hn => ?_, fun hs ht => ?_, fun hn => ?_, fun hs hu ht => ?_, fun hn => ?_, fun hs hu hp => ?_, fun hn => ?_,
      fun hs hm ht => ?_, fun hn => ?_⟩
    · exact exec_congr (exec_of_coreUp (f := stopTime) rfl hup) (stopTime_of_due hs ht)
    · exact exec_congr (exec_of_coreUp (f := stopTime) rfl hup) (stopTime_of_not hn)
    · exact exec_congr (exec_of_coreUp (f := unitsStop) rfl hup) (unitsStop_of_due hs ht)
    · exact exec_congr (exec_of_coreUp (f := unitsStop) rfl hup) (unitsStop_of_not hn)
    · exact exec_congr (exec_stopPortRecordTimer s) (if_pos (by simp [hs, hu, ht]))
    · exact exec_congr (exec_stopPortRecordTimer s) (if_neg (by rcases hn with hn | hn | hn <;> simp [hn]))
    · exact exec_congr (exec_of_coreUp (f := stopCapture) rfl hup) (stopCapture_of_ready hs hu hp)
    · exact exec_congr (exec_of_coreUp (f := stopCapture) rfl hup) (stopCapture_of_not hn)
    · exact exec_congr (exec_of_coreUp (f := stopAuto) rfl hup) (stopAuto_of_due hs hm ht)
    · exact exec_congr (exec_of_coreUp (f := stopAuto) rfl hup) (stopAuto_of_not hn)

end Sys2Proof.Machine
end

section
/-! PROOFS. Accesses from outside that complete, and those that wait (O60; R20, R21, R70, R380, R474 to R477, R492, R495). -/
namespace Sys2Proof.Machine

/-! ### Accesses that complete -/

section
variable {s : State}

theorem badRegister_of_up {func off len : Nat} {w : Bool} (hup : s.hostUp = true) (h0 : 0 < len) (hle : len ≤ 4096)
    (h : len ≠ 8 ∨ off % 8 ≠ 0) : badRegister func off len w s =
      if w then s.hostBad w func off len else (s.hostBad w func off len).emit (.bytes (List.replicate len 0)) := by
  refine if_neg fun hc => ?_
  simp only [hup, Bool.not_true, Bool.false_or, Bool.or_eq_true, beq_iff_eq, decide_eq_true_eq, Bool.and_eq_true] at hc
  omega

theorem hostWriteReg_of_platform {off : Nat} {v : Word} (hup : s.hostUp = true) (ho : off % 8 = 0) (h : (s.wakeFor off).regHeld off = false) :
    hostWriteReg 0 off v s = (s.wakeFor off).writeReg off v := by
  have hon : (!s.hostUp) = false := by rw [hup]; rfl
  unfold hostWriteReg
  dsimp only
  rw [hon, if_neg Bool.false_ne_true, if_neg (Classical.not_not.2 ho), if_pos rfl]
  exact if_neg (by rw [h]; exact Bool.false_ne_true)

theorem hostMemory_of_served {a : HostAccess} (hup : s.hostUp = true) (h0 : 0 < a.len) (hle : a.len ≤ 4096) (hs : s.ou.unitsStopped = false)
    (hr : s.resetting uHost = false) : hostMemory a s = (s.wakeBlock 1).hostAccess a := by
  have hgo : ¬ (!s.hostUp || a.len == 0 || decide (4096 < a.len)) = true := by
    simp only [hup, Bool.not_true, Bool.false_or, Bool.or_eq_true, beq_iff_eq, decide_eq_true_eq]
    omega
  have hlets : (s.stopLets a && !s.resetting uHost) = true := by
    rw [State.stopLets, hs, hr]
    rfl
  rw [hostMemory, if_neg hgo, if_pos hlets]

end

/-- A completion, a function's configuration and a function-level reset act once the block is released. -/
theorem exec_of_hostUp {c : Sys2Proof.Instr} {s t : State} (e : exec c s = .next (if s.hostUp then t else s)) (h : s.hostUp = true) :
    exec c s = .next t := e.trans (congrArg Host.Outcome.next (if_pos h))

/-! ### Accesses that wait (R380, R495) -/

theorem exec_of_held {c : Sys2Proof.Instr} {s : State} {off : Nat} {v : Word} {g : State → State}
    (e : exec c s = .next (s.platform 0 off (some v) g)) (hup : s.hostUp = true) (h : (s.wakeBlock 1).regHeld off = true) :
    exec c s = .next ((s.wakeBlock 1).hold 0 off (some v)) := by
  rw [e, State.platform, if_pos ⟨rfl, hup⟩, State.access, if_pos h]
  rfl

theorem doorbellWrite_of_reset {s : State} {func off len : Nat} {x : Option Nat} {v : Word} (hup : s.hostUp = true)
    (h : s.resetting uHost = true) : doorbellWrite func off len x v s =
      { s with hg := { s.hg with bells := s.hg.bells ++ [{ func := func, off := off, len := len, pasid := x, value := v }] } } := by
  have hon : (!s.hostUp) = false := by rw [hup]; rfl
  unfold doorbellWrite
  rw [hon, if_neg Bool.false_ne_true, if_pos h]

/-! ### Reads through an aperture and of a doorbell (R20, R21, R70) -/

section
variable {s : State} {f n o : Nat}

theorem readBy_tenant (hf : f ≠ 0) (hb : s.boundCab f = some n) : s.readBy f o = if 0x400 ≤ o ∧ o < 0x2000 then s.readReg (aperture n o) else 0 := by
  rw [State.readBy, if_neg hf, hb]

theorem readBy_window (hf : f ≠ 0) (hb : s.boundCab f = some n) (h4 : 0x400 ≤ o) (h1 : o < 0x1000) : s.readBy f o = s.readReg (rWin n + o) := by
  rw [readBy_tenant hf hb, if_pos ⟨h4, by omega⟩, aperture, if_pos h1]

theorem readBy_report (hf : f ≠ 0) (hb : s.boundCab f = some n) (h1 : 0x1000 ≤ o) (h2 : o < 0x2000) :
    s.readBy f o = s.readReg (rRep n + o % 0x1000) := by
  rw [readBy_tenant hf hb, if_pos ⟨by omega, h2⟩, aperture, if_neg (by omega)]

theorem readBy_outside (hf : f ≠ 0) (h : s.boundCab f = none ∨ o < 0x400 ∨ 0x2000 ≤ o) : s.readBy f o = 0 := by
  cases hb : s.boundCab f with
  | none => rw [State.readBy, if_neg hf, hb]
  | some n =>
    rw [readBy_tenant hf hb, if_neg]
    rintro ⟨h4, h2⟩
    rcases h with h | h | h
    · exact nomatch hb.symm.trans h
    · omega
    · omega

/-- What a read of a drawer's doorbell returns. -/
def bellWord (s : State) (n i : Nat) : Word :=
  if (s.drawer n i).st = .free ∨ (s.drawer n i).st = .dying then 0 else pack [(32, (s.drawer n i).cqHead), (0, (s.drawer n i).tail)]

theorem bellWord_eq (s : State) (n i : Nat) : (if (s.drawer n i).st == .free || (s.drawer n i).st == .dying then 0
    else pack [(32, (s.drawer n i).cqHead), (0, (s.drawer n i).tail)]) = bellWord s n i := by
  simp only [bellWord, Bool.or_eq_true, beq_iff_eq]

theorem readDoorbell_platform {i : Nat} (hi : i < 8192) : s.readDoorbell 0 (65536 * n + 8 * i) = bellWord s n i := by
  have hn : (65536 * n + 8 * i) / 65536 = n := by omega
  have hoff : (65536 * n + 8 * i) % 65536 / 8 = i := by omega
  rw [State.readDoorbell, if_pos rfl, hn]
  dsimp only
  rw [hoff]
  exact bellWord_eq s n i

theorem readDoorbell_tenant {i : Nat} (hf : f ≠ 0) (hb : s.boundCab f = some n) (hi : i < 8192) : s.readDoorbell f (8 * i) = bellWord s n i := by
  have hoff : 8 * i % 65536 / 8 = i := by omega
  rw [State.readDoorbell, if_neg hf, if_pos (by omega), hb]
  dsimp only
  rw [hoff]
  exact bellWord_eq s n i

theorem readDoorbell_outside (hf : f ≠ 0) (h : s.boundCab f = none ∨ 65536 ≤ o) : s.readDoorbell f o = 0 := by
  rw [State.readDoorbell, if_neg hf]
  by_cases ho : o < 65536
  · rw [if_pos ho, h.resolve_right (by omega)]
  · rw [if_neg ho]

end

/-- Settles O60. -/
theorem outsideAccessesCompleteOrWait : Obligations.OutsideAccessesCompleteOrWait := by
  refine ⟨fun f o l w s hup h0 h => ?_, fun o v s hup ho h => ?_, fun f a l s hup h0 hs hr => ⟨?_, fun bs hb hle => ?_⟩,
    fun a d s hup => ?_, fun f d s hup => ⟨?_, ?_⟩, fun g p n k c v s hup => ?held, fun f o l x v s hup hr => ?_, fun f s => ?reads⟩
  case held =>
    simp only [List.forall_mem_cons, List.not_mem_nil, false_implies, implies_true, and_true]
    refine ⟨?_, ?_, ?_, ?_, ?_, ?_, ?_, ?_, ?_, ?_, ?_, ?_⟩ <;> exact fun h => exec_of_held rfl hup h
  case reads =>
    refine ⟨fun o => if_pos rfl, fun n o hf hb h4 h1 => readBy_window hf hb h4 h1, fun n o hf hb h1 h2 => readBy_report hf hb h1 h2,
      fun o hf h => readBy_outside hf h, fun n i hf hb hi => readDoorbell_tenant hf hb hi, fun n i _ hi => readDoorbell_platform hi,
      fun o hf h => readDoorbell_outside hf h⟩
  · exact exec_congr rfl (badRegister_of_up hup h0 (by omega) h)
  · exact exec_congr rfl (hostWriteReg_of_platform hup ho h)
  · exact exec_congr rfl (hostMemory_of_served hup h0 (Nat.le_of_lt_succ l.isLt) hs hr)
  · exact exec_congr rfl (hostMemory_of_served hup hb hle hs hr)
  · exact exec_of_hostUp rfl hup
  · exact exec_of_hostUp rfl hup
  · exact exec_of_hostUp rfl hup
  · exact exec_congr rfl (doorbellWrite_of_reset hup hr)

end Sys2Proof.Machine
end
